-- ==== Sys2Proof/Word.lean ====
section
/-!
DEFINITION. The plainest types: a byte, a 32-bit register word (R6), a byte string, a tide tick (2 ns), and the
sparse table that every keyed store of the model uses.
-/
namespace Sys2Proof

/-- One byte. -/
abbrev Byte := BitVec 8

/-- One register word (R6: every register is 32 bits wide). -/
abbrev Word := BitVec 32

/-- A byte string, first byte first. -/
abbrev Bytes := List Byte

/-- A sparse table: entries in strictly rising key order. -/
abbrev Tab (α : Type) := List (Nat × α)

/-- The byte of a number, taken modulo 256. -/
abbrev byte (n : Nat) : Byte := BitVec.ofNat 8 n

/-- The register word of a number, taken modulo 2^32. -/
abbrev word (n : Nat) : Word := BitVec.ofNat 32 n

end Sys2Proof
end

