-- ==== Sys2Proof/Types/Common.lean ====
section
/-!
DEFINITION. Names that several chapters share: ports, verdicts, reasons, actions, Strand states, stages, and the kinds
of retirable units.
-/
namespace Sys2Proof

/-- Ethernet ports: N, S and the Tap port (INT_ register index 0, 1, 2). -/
inductive EthPort where
  | n
  | s
  | tap
  deriving DecidableEq, Repr

/-- Verdict codes, Table 1-5. -/
inductive Verdict where
  | pass
  | flag
  | block
  | redact
  | unscreened
  deriving DecidableEq, Repr

/-- UNSCREENED reasons, Table 1-7, highest precedence first. -/
inductive Reason where
  | holdFull
  | calendarFull
  | noStrand
  | parse
  | tapBlocked
  | drainForced
  | stageFault
  | admission
  | credit
  | deadline
  deriving DecidableEq, Repr

/-- Fail-actions and effective actions, Table 1-8. -/
inductive FailAction where
  | none
  | releaseFlagged
  | holdToHost
  | dropWithNotice
  | discard
  deriving DecidableEq, Repr

/-- Strand states, Table 1-2. -/
inductive StrandState where
  | off
  | loading
  | serving
  | draining
  | excluded
  | retired
  deriving DecidableEq, Repr

/-- Strand fault codes, Table 16-3 (`none` reads 0). -/
inductive StrandFault where
  | none
  | twinMismatch
  | shareOver
  | vitNoBank
  | imgSection
  | classChange
  | policyUe
  | retired
  deriving DecidableEq, Repr

/-- The shared stages, Table 2-1. -/
inductive Stage where
  | intake
  | catalogue
  | vitrine
  | gather
  | arbor
  | galleries
  | guard
  | verdict
  deriving DecidableEq, Repr

/-- How many engines a stage has (Table 2-1). -/
def Stage.engines : Stage → Nat
  | .intake => 4
  | .catalogue => 12
  | .vitrine => 16
  | .gather => 48
  | .arbor => 8
  | .galleries => 48
  | .guard => 0
  | .verdict => 1

/-- The kinds of retirable unit, Table 16-4. -/
inductive UnitKind where
  | strand
  | bank
  | pseudoChannel
  | gather
  | gallery
  | arbor
  | catalogue
  | parser
  | ddr
  | lane
  deriving DecidableEq, Repr

/-- How a unit of work or a memory read ends: without error, with a corrected error, or with an uncorrectable one. The
sender of a command says which, since errors are events from outside the logic. -/
inductive UnitEnd where
  | ok
  | ce
  | ue
  deriving DecidableEq, Repr

/-- A retirable unit: kind and index (Table 16-4). -/
structure UnitId where
  kind : UnitKind
  index : Nat
  deriving DecidableEq, Repr

end Sys2Proof
end

