-- ==== Sys2Proof/Types/Host.lean ====
section
/-!
DEFINITION. The host interface's own state: rings, window slots, commands taken, loads (chapter "Host interface and
content loading").
-/
namespace Sys2Proof

/-- A completion record held back for want of room (R418): flags, key, payload. -/
structure HeldRec where
  flags : Nat
  key : Bytes
  payload : Bytes
  deriving DecidableEq, Repr

/-- What the device keeps of a ring beside its ring block. Ring numbers: 0–15 SQ, 16–31 CQ, 32–47 RR, 48 event,
49 accession, in the order of their ring blocks. -/
structure Ring where
  /-- SQ: the device's head. Device-written ring: the last head accepted from host software. -/
  head : Nat
  /-- SQ: the last tail accepted. Device-written ring: the device's tail. -/
  tail : Nat
  /-- Entries between head and tail. -/
  used : Nat
  /-- Device-written ring: the phase bit of the current pass (R408). -/
  phase : Bool
  /-- A record of this ring was lost just before (Table 11-4 AFTER_GAP). -/
  afterGap : Bool
  /-- Records written since the last message (R431). -/
  unsignalled : Nat
  /-- Tick of the first of them. -/
  firstTick : Nat
  /-- SQ: commands taken and not yet completed (R417). -/
  outstanding : Nat
  /-- CQ: completion records held back (R418), oldest first. -/
  held : List HeldRec
  /-- Event ring: events lost since the last EVENTS_LOST (R414). -/
  lostEvents : Nat
  deriving DecidableEq, Repr

/-- A ring as it stands when enabled or after reset. -/
def Ring.empty : Ring := ⟨0, 0, 0, true, false, 0, 0, 0, [], 0⟩

/-- A window slot that is not FREE (Table 11-11). -/
structure WinSlot where
  cmdId : Nat
  ready : Bool
  read : Bool
  result : Bytes
  deriving DecidableEq, Repr

/-- The fixed part of a submission entry (Table 11-7). -/
structure SqEntry where
  resultTo : Fin 4
  barrier : Bool
  tag : Fin 16384
  cmdId : Word
  deriving DecidableEq, Repr

/-- A command in execution: where its completion goes. `gen` is the count of host-interface resets when it was taken,
so that a completion after such a reset is discarded (R403). -/
structure CmdRef where
  q : Nat
  entry : SqEntry
  opcode : Nat
  gen : Nat
  tick : Nat
  deriving DecidableEq, Repr

/-- The kinds of content (Table 11-12). -/
inductive ContentKind where
  | table
  | vocabulary
  | model
  | graph
  | automaton
  deriving DecidableEq, Repr

/-- A load descriptor and segment list as fetched from host memory (Table 11-12). -/
structure LoadDescriptor where
  magic : Word
  kind : Fin 256
  index : Fin 256
  version : Word
  segments : List Nat
  totalLen : Nat
  digest : Bytes
  /-- Every reserved byte is 0. -/
  reservedZero : Bool
  deriving DecidableEq, Repr

/-- How far a load has come (R423). -/
inductive LoadStep where
  /-- Waits for a place among the 8 active loads, for staging room, or for an earlier load of its index. -/
  | waiting
  /-- Reads and hashes its content (step 4). -/
  | reading
  /-- Every check has passed; waits for its install (step 6). -/
  | checked
  /-- A graph load queued for its turn, or a table batch whose ops are being applied. -/
  | installing
  deriving DecidableEq, Repr

/-- Where a load came from. -/
inductive LoadSource where
  | command (c : CmdRef)
  /-- A replicated round from the fabric origin (R547). -/
  | round (replId : Nat)
  deriving DecidableEq, Repr

/-- A load in progress. -/
structure Load where
  key : Nat
  source : LoadSource
  kind : ContentKind
  index : Nat
  version : Nat
  totalLen : Nat
  digest : Bytes
  step : LoadStep
  /-- Repeats of the failing step used (R597). -/
  retries : Nat
  content : Bytes
  skipped : Nat
  refused : Nat
  staged : Bool
  deriving DecidableEq, Repr

/-- The host interface beside its registers. -/
structure HostIf where
  rings : Tab Ring
  /-- The result window: slots that are not FREE. -/
  win : Tab WinSlot
  /-- Host-interface resets so far (R403). -/
  gen : Nat
  /-- Loads in delivery order. -/
  loads : List Load
  /-- Serial number of the next load. -/
  nextLoad : Nat
  /-- Units whose last state read found CMD ≠ OBS with BUSY = 0, with the CMD it found (R434). -/
  skewSeen : Tab Nat
  /-- High words latched by low-word reads, by path and offset (R8). -/
  latch : Tab Word
  /-- Configuration requests are answered with Request Retry Status (R456). -/
  configReady : Bool
  deriving DecidableEq, Repr

/-- The host interface after reset (R442). -/
def HostIf.reset : HostIf := ⟨[], [], 0, [], 0, [], [], false⟩

end Sys2Proof
end

