-- ==== Sys2Proof/Types/Img.lean ====
section
/-!
DEFINITION. Tidal swaps, rolling change, image programming and the start-up sequence (chapter "Start-up, the Afral image
and rolling change").
-/
namespace Sys2Proof

/-- An IMG_SWAP in progress: it waits for the Twin until `started` (R461). -/
structure Swap where
  cmd : CmdRef
  strand : Nat
  started : Bool
  deriving DecidableEq, Repr

/-- How far a roll has come (R465 to R469). -/
inductive RollPhase where
  | verify
  | running
  | reverting
  deriving DecidableEq, Repr

/-- A rolling change in progress. -/
structure Roll where
  cmd : CmdRef
  target : Nat
  force : Bool
  waitMs : Nat
  phase : RollPhase
  /-- The Strands still to take, in the order of the phase. -/
  todo : List Nat
  /-- The Strand of the present step, once its swap has begun. -/
  transit : Option Nat
  /-- Tick at which the present step began to wait. -/
  since : Nat
  /-- Strands taken so far. -/
  changed : List Nat
  /-- Strands with a section in the target bank, one bit each. -/
  sections : Nat
  /-- Why the roll reverts (Table 12-12). -/
  fault : Nat
  deriving DecidableEq, Repr

/-- An IMG_PROGRAM in progress: pages still to be programmed. -/
structure ImgProgram where
  cmd : CmdRef
  bank : Nat
  pages : List (Nat × Bytes)
  failed : Bool
  deriving DecidableEq, Repr

/-- Why a bank is being verified. -/
inductive VerifyFor where
  | command (c : CmdRef)
  | housekeeping
  deriving DecidableEq, Repr

/-- A verification of a bank in progress (R460), with the NVM reads retried so far (R474). -/
structure Verify where
  bank : Nat
  why : VerifyFor
  deriving DecidableEq, Repr

/-- Housekeeping (steps 1 to 3 of "Housekeeping and image programming"). -/
inductive HkStep where
  /-- Sectors of the ledger still to be erased: bank, sector offset. -/
  | ledger (todo : List (Nat × Nat))
  | verify
  | erase (todo : List Nat)
  | done
  deriving DecidableEq, Repr

/-- What the factory left in the part, sensed at step 2 of Table 12-9: device identifier, debug lock, revoked key slots, key digests, the
certificate chain of slot 0 (R437), INT_TS_DLY of ports N, S and the Tap port (R90). -/
structure Otp where
  deviceId : Bytes
  debugLock : Bool
  ecRevoked : Nat
  mlRevoked : Nat
  ecDigests : List Bytes
  mlDigests : List Bytes
  chain : Bytes
  pathDelays : List Nat
  deriving DecidableEq, Repr

/-- Where the start-up sequence stands (Table 12-9). -/
inductive BootStep where
  /-- PWR_OK is low, or nothing is powered. -/
  | off
  | otp
  | trim
  | select
  | stream
  | sign
  | global
  | memory
  /-- CMD_READY is set. -/
  | ready
  | fail
  deriving DecidableEq, Repr

/-- Start-up and image state beside the IMG_ registers. -/
structure Img where
  vaon : Bool
  vio : Bool
  pwrOk : Bool
  boot : BootStep
  otp : Option Otp
  /-- Tick of PWR_OK or of the step 2 at which the sequence last began. -/
  startTick : Nat
  sigTick : Nat
  /-- The bank being tried, and whether the other bank has been tried already. -/
  bank : Nat
  retried : Bool
  hbmDone : Bool
  ddrDone : Bool
  /-- PCIE_PERST_N is high; since which tick. -/
  perst : Bool
  perstTick : Nat
  /-- The full reset that is under way runs BIST. -/
  bist : Bool
  hk : HkStep
  swaps : List Swap
  roll : Option Roll
  progs : List ImgProgram
  verifies : List Verify
  /-- Retries of the NVM read in progress, by bank (R474). -/
  readRetries : Tab Nat
  /-- Bit k: the GLOBAL section names a word of view k (R222). -/
  views : Nat
  /-- Banks that could not be read at this start, one bit each (R474). -/
  dead : Nat
  deriving DecidableEq, Repr

/-- Nothing powered. -/
def Img.reset : Img :=
  ⟨false, false, false, .off, none, 0, 0, 0, false, false, false, false, 0, false, .ledger [], [], none, [], [], [], 0, 0⟩

end Sys2Proof
end

