-- ==== Sys2Proof/Types/Link.lean ====
section
/-!
DEFINITION. Narwyn links and the stack port (chapter "Narwyn link and stacks"), and the packets of the fabric that links carry.
-/
namespace Sys2Proof

/-- A packet (Tables 13-3 and 14-6), its PCRC apart. -/
structure Packet where
  dest : Nat
  src : Nat
  ptype : Nat
  pflags : Nat
  rset : Nat
  hops : Nat
  msgId : Nat
  rflags : Nat
  endIx : Nat
  cw : Nat
  xfer : Nat
  offset : Nat
  payload : Bytes
  deriving DecidableEq, Repr

/-- What waits to be sent on a VC of a port: a packet, with the receive buffer (port, VC) from which it came, the bytes encoded as
its first flit left and how many of them have been sent; or one stack record. `good` says that its PCRC held. -/
inductive TxItem where
  | packet (p : Packet) (good : Bool) (origin : Option (Nat × Nat)) (bytes : Bytes) (sent : Nat)
  | record (bytes : Bytes)
  deriving DecidableEq, Repr

/-- A DATA flit as the replay buffer holds it (R483, R487). -/
structure SentFlit where
  seq : Nat
  vc : Nat
  sop : Bool
  eop : Bool
  bytes : Bytes
  deriving DecidableEq, Repr

/-- Port states (Table 13-5). -/
inductive PortState where
  | down
  | train
  | align
  | identify
  | up
  | disabled
  | retired
  | unused
  deriving DecidableEq, Repr

/-- A TRAIN payload (Table 13-7) as received. -/
structure TrainFields where
  node : BitVec 16
  port : Fin 256
  headland : Bool
  verified : Bool
  manifestEpoch : BitVec 16
  imageEpoch : BitVec 16
  deviceId : Bytes
  manifestDig : Bytes
  stamp : Word
  echo : Word
  hold : Word
  deriving DecidableEq, Repr

/-- What every good flit carries beside its payload (Table 13-2): ACK_VALID, ACK, XOFF, and the codewords corrected in it. -/
structure FlitHead where
  ackValid : Bool
  ack : BitVec 16
  xoff : BitVec 5
  fixes : Fin 3
  deriving DecidableEq, Repr

/-- A port of a Narwyn link. -/
structure NwlPort where
  state : PortState
  /-- Tick of entry into the state. -/
  since : Nat
  fault : Nat
  lanes : Nat
  swap : Bool
  nbrNode : Nat
  nbrPort : Nat
  nbrImage : Nat
  nbrManifest : Nat
  /-- Largest sample so far, in ns, and how many samples have been taken (R497). -/
  rtt : Nat
  samples : Nat
  /-- Tick at which the port's own check of its partner passed (R499). -/
  passed : Option Nat
  /-- The last STAMP received and its tick. -/
  heard : Option (Nat × Nat)
  /-- Oldest unacknowledged SEQ, next new SEQ, the replay buffer. -/
  o : Nat
  next : Nat
  buffer : List SentFlit
  /-- Replay in progress: how many buffered flits have been resent. -/
  replay : Option Nat
  /-- The A and the tick of the last replay begun, and the replays begun since O last advanced. -/
  replayFrom : Option (Nat × Nat)
  replays : Nat
  /-- Tick at which O last advanced, or the buffer last became non-empty, or a replay last began. -/
  advanced : Nat
  /-- Waiting to be sent, by VC. -/
  queues : Tab (List TxItem)
  /-- Next expected SEQ. -/
  e : Nat
  nakDue : Bool
  /-- Tick of the last NAK, while no flit with SEQ = E has been accepted since (R486). -/
  nakSent : Option Nat
  /-- Flits held in the receive buffers, by VC; bytes and flits of partly received packets, by VC. -/
  held : Tab Nat
  parts : Tab Bytes
  partFlits : Tab Nat
  xoffSent : Nat
  xoffRcvd : Nat
  /-- Tick at which the partner last set XOFF, by VC (R534). -/
  xoffSeen : Tab Nat
  lastGood : Option Nat
  lastSlot : Option Nat
  /-- Ticks of the departures from UP, and uncorrectable codewords 0 and 1 since the first of them (R599). -/
  departures : List Nat
  badWords : Nat × Nat
  /-- Consecutive attempts on which a lane failed its bring-up, by lane (R599). -/
  laneFails : Tab Nat
  deriving DecidableEq, Repr

/-- A port that nothing has touched. -/
def NwlPort.reset : NwlPort :=
  ⟨.down, 0, 0, 0, false, 0, 0, 0, 0, 0, 0, none, none, 0, 0, [], none, none, 0, 0, [], 0, false, none, [], [], [], 0, 0, [], none, none,
   [], (0, 0), []⟩

/-- A stacked search that the Headland has issued (R505): its TAG, its origin (this device or a Shoal), the frame and search that it
serves here, table, mode, target, tick, and its own result where it takes part. -/
structure HeadSearch where
  tag : Nat
  origin : Nat
  otag : Nat
  frame : Nat
  search : Nat
  table : Nat
  mode : Nat
  target : Nat
  tick : Nat
  /-- The Headland's own match word; none in a WIDE search of another member. -/
  word : Option Nat
  version : Nat
  deriving DecidableEq, Repr

/-- A search that a Shoal holds pending (R511), with its own match word where it takes part. -/
structure ShoalSearch where
  tag : Nat
  word : Option Nat
  deriving DecidableEq, Repr

/-- A search for which a Shoal has asked the Headland (R506). -/
structure Ask where
  otag : Nat
  frame : Nat
  search : Nat
  tick : Nat
  deriving DecidableEq, Repr

/-- A stack record in a receive buffer: port, VC, whether it is the last of its flit, its 64 bytes. -/
structure RxRecord where
  port : Nat
  vc : Nat
  last : Bool
  bytes : Bytes
  deriving DecidableEq, Repr

/-- The stack. -/
structure Stack where
  nextTag : Nat
  head : List HeadSearch
  shoal : List ShoalSearch
  nextOtag : Nat
  asks : List Ask
  /-- The next TARGET of the WIDE rotation. -/
  rotate : Nat
  /-- REACH of the last LINK record from the member above. -/
  linkReach : Option Nat
  /-- REACH as last sent up, or as last noted by the Headland. -/
  reach : Nat
  matchIn : Bool
  matchOut : Bool
  lastTraining : Option Nat
  records : List RxRecord
  deriving DecidableEq, Repr

/-- The stack after reset (R516). -/
def Stack.reset : Stack := ⟨0, [], [], 0, [], 0, none, 0, false, false, none, []⟩

end Sys2Proof
end

