-- ==== Sys2Proof/Types/Mgmt.lean ====
section
/-!
DEFINITION. Management and attestation (chapter "Host interface and content loading", R436 to R439), full resets and the test
access port (chapter "Faults, retirement and test").
-/
namespace Sys2Proof

/-- The transports of SPDM (Table 11-18). -/
inductive Transport where
  | doe
  | mctp
  deriving DecidableEq, Repr

/-- A secured session: its transport, which of the transport's two it is, whether FINISH has established it, key updates so far, tick of
its last message. -/
structure Session where
  transport : Transport
  slot : Nat
  established : Bool
  updates : Nat
  last : Nat
  deriving DecidableEq, Repr

/-- What one transport's SPDM connection has negotiated, the largest message that the requester takes (0 while it has not said), and the
large messages carried in chunks: handle and bytes. -/
structure Connection where
  version : Nat
  algorithms : Bool
  maxMessage : Nat
  chunksIn : Option (Nat × Bytes)
  chunksOut : Option (Nat × Bytes)
  deriving DecidableEq, Repr

/-- No connection. -/
def Connection.reset : Connection := ⟨0, false, 0, none, none⟩

/-- Management state. -/
structure Mgmt where
  /-- MCTP endpoint ID; 0 while none has been set. -/
  eid : Nat
  /-- PLDM terminus ID. -/
  tid : Nat
  /-- Endpoint that receives PlatformEventMessages. -/
  receiver : Option Nat
  doe : Connection
  smbus : Connection
  sessions : List Session
  /-- Keys programmed for the link IDE stream, by 4 × sub-stream + 2 × direction + key set, and the key set in use. -/
  ideKeys : Tab Bytes
  ideSet : Option Nat
  deriving DecidableEq, Repr

/-- After reset. -/
def Mgmt.reset : Mgmt := ⟨0, 0, none, Connection.reset, Connection.reset, [], [], none⟩

/-- The test access port (Table 16-11). -/
structure Tap where
  /-- The instruction register. -/
  ir : Nat
  /-- The REG_ACCESS data register. -/
  dr : Nat
  /-- The boundary register, and whether it drives the balls. -/
  boundary : Nat
  driving : Bool
  deriving DecidableEq, Repr

/-- Test-Logic-Reset: IDCODE. -/
def Tap.reset : Tap := ⟨1, 0, 0, false⟩

/-- How far a full reset has come (Table 16-9). -/
inductive ResetStep where
  /-- Steps 1 and 2: frames inside meet their dispositions. -/
  | frames
  /-- Step 3: guard batch records are posted. -/
  | guard
  /-- Steps 4 and 5: the chains are sealed, the buffer drains. -/
  | drain
  /-- Step 6: the RESET record is programmed. -/
  | record
  deriving DecidableEq, Repr

/-- A full reset under way: its step, the step's first tick, cause, FORCED, BIST, the SEQ of its RESET record. -/
structure FullReset where
  step : ResetStep
  since : Nat
  cause : Nat
  forced : Bool
  bist : Bool
  seq : Option Nat
  deriving DecidableEq, Repr

end Sys2Proof
end

