-- ==== Sys2Proof/Types/Reg.lean ====
section
/-!
DEFINITION. What a register is: its place in BAR0, the access code of each of its bits (Table 0-2), its reset value;
and the register file that holds the words which differ from their reset value.
-/
namespace Sys2Proof

/-- A field of a register: BAR0 byte offset of the word, lowest bit, width. -/
structure Fld where
  off : Nat
  lsb : Nat
  width : Nat
  deriving DecidableEq, Repr

/-- A register or an array of registers. The masks say which bits have which access code of Table 0-2; a bit in no
mask is RO or reserved. `pair` marks the low word of a 64-bit pair (R7). -/
structure RegDef where
  base : Nat
  stride : Nat
  count : Nat
  reset : Nat
  rw : Nat
  lk : Nat
  w1c : Nat
  rc : Nat
  rw1s : Nat
  wo : Nat
  pair : Bool
  deriving DecidableEq, Repr

/-- The register file: word offset in BAR0 and contents, canonical (no entry equal to its reset value). -/
abbrev RegFile := Tab Word

/-- The three BARs (Table 11-2). -/
inductive Bar where
  | bar0
  | bar2
  | bar4
  deriving DecidableEq, Repr

/-- What resets the host interface (R403). -/
inductive PcieReset where
  | hotReset
  | linkDown
  | toD0
  deriving DecidableEq, Repr

/-- The two access paths that reach BAR0 (R8). -/
inductive Path where
  | pcie
  | jtag
  deriving DecidableEq, Repr

end Sys2Proof
end

