-- ==== Sys2Proof/Syntax.lean ====
section
/-!
DEFINITION. The commands that the block takes: one constructor per row of the table, with what its sender gives.

An operand says what the device meets from outside: what a partner sends, what a read from host memory returns, how a unit of work or a
memory read ends, the instant of an event. Frames, streams and searches are named by the model's own serial numbers.
-/
namespace Sys2Proof

/-- A command. -/
inductive Instr where
  /-- FRAME_RX (R91). A frame taken whole on port N, port S or the Tap port runs arrival steps 1 to 7: MAC and MACsec refusal, arrival
  stamp, class rule, arrival scan, hold cells, egress reservation and Strand selection. -/
  | frameRx (port : EthPort) (ps : Nat) (wire : Bytes)
  /-- INTAKE_PARSE_DONE (R92). The descriptor parse, run under the selected Strand's Intake share, ends with field outputs and sentinel
  counts, or with a PARSE refusal. -/
  | intakeParseDone (frame : Nat) (work : UnitEnd)
  /-- STREAM_IDLE_TIMEOUT (R40). An open stream that has received no chunk for STREAM_IDLE_US is closed, screened over the chunks received
  and given a STREAM_CLOSE record. -/
  | streamIdleTimeout (stream : Nat)
  /-- WHEEL_SLOT (R66). At the start of each slot of a stage wheel, the slot is granted to its owner or offered as spare in band order. -/
  | wheelSlot (stage : Stage) (engine : Fin 48)
  /-- CATALOGUE_UNIT_DONE (R139). A tokenizer unit completes, yielding tokens and n-gram keys and freeing space in the Strand's input queue. -/
  | catalogueUnitDone (engine : Fin 12) (work : UnitEnd) (contentUe : Bool)
  /-- VITRINE_SEARCH_RESULT (R170). A search's match and result read complete 20 ns after its grant and deliver the lookup result, or queue
  a learn. -/
  | vitrineSearchResult (frame id : Nat) (work : UnitEnd) (parity : Option UnitEnd)
  /-- VITRINE_UPDATE_SLOT (R174). An update engine operation (probe, write, move or invalidate) is applied on a replica in its update slot. -/
  | vitrineUpdateSlot (bank : Fin 16)
  /-- LEARN_COMMIT (R185). A queued learn commits in update-slot order as LEARNED, SAME, MOVE or PINNED, and delivers its lookup result. -/
  | learnCommit (table : Fin 64)
  /-- AGING_SWEEP (R189). Every AGE_MS a sweep of an aging table starts; it marks entries stale and queues stale ones for removal. -/
  | agingSweep (table : Fin 64)
  /-- AGING_REMOVAL (R190). A queued removal re-reads STALE in its update slot and deletes the entry if STALE is still set. -/
  | agingRemoval (table : Fin 64)
  /-- SCRUB_READ (R195). Each revolution a bank reads SCRUB units, compares each with its shadow and queues a repair on mismatch. -/
  | scrubRead (bank : Fin 16) (mismatch : Bool) (shadow : UnitEnd)
  /-- TABLE_BATCH_COMMIT (R179). The last operation of a table batch is applied on every live replica, and the table version becomes V. -/
  | tableBatchCommit (table : Fin 64)
  /-- STACK_SEARCH_ISSUE (R505). The Headland assigns a TAG and sends a SEARCH record down the stack, or waits while 256 searches are
  pending. -/
  | stackSearchIssue (frame id : Nat)
  /-- SEARCH_RECORD_RX (R505). A member receives a SEARCH record, starts its local search and forwards the record as the mode requires. -/
  | searchRecordRx (lost : Bool)
  /-- REQ_RECORD_RX (R506). A REQ record from a Shoal is forwarded up, or the Headland issues it as a stacked search. -/
  | reqRecordRx
  /-- RESULT_RECORD_RX (R506). A RESULT record is forwarded down, or delivered as the lookup result at its origin. -/
  | resultRecordRx
  /-- LINK_RECORD_RX (R508). A LINK record updates the member's REACH, which is then propagated up. -/
  | linkRecordRx
  /-- REQ_TIMEOUT (R506). An origin that has no RESULT 4 µs after its REQ treats the search as failed. -/
  | reqTimeout (otag : BitVec 16)
  /-- MATCH_WORD_RX (R199). A match word arrives on MATCH_IN, is checked by CRC and TAG, and is ranked against the local result and
  forwarded or delivered. -/
  | matchWordRx (w : BitVec 136)
  /-- CASCADE_TIMEOUT (R204). A stacked search with no match word 2 µs after its issue fails and is retried. -/
  | cascadeTimeout (tag : BitVec 16)
  /-- MATCH_TRAINING_WORD (R513). Every 1 µs while STK_DN is in IDENTIFY, a training word is sent on MATCH_OUT and checked on MATCH_IN. -/
  | matchTrainingWord (word : Option (BitVec 136))
  /-- GATHER_WALK_START (R217). A frame's walk is taken into a free engine context and pins the current graph version. -/
  | gatherWalkStart (frame : Nat)
  /-- GATHER_READ_GRANT (R231). A walk read is granted a credit from its Strand pool or from the spare pool. -/
  | gatherReadGrant (strand : Fin 32)
  /-- GATHER_READ_RETURN (R235). A granted read returns, advancing the walk; the walk ends by evaluating its operations and releasing its
  pin. -/
  | gatherReadReturn (frame pos : Nat) (read : UnitEnd)
  /-- GATHER_READ_TIMEOUT (R242). A read not returned 10 µs after its grant restarts the walk in a new context. -/
  | gatherReadTimeout (frame pos : Nat)
  /-- CREDIT_BOUNDARY (R229). At every 2,048-tick boundary the Strand, delta and spare credit pools are refilled, and the Gather and guard
  shares transfer. -/
  | creditBoundary
  /-- CREDIT_DEADLINE (R232). At T_cr a walk that still lacks a read grant aborts, and its frame becomes UNSCREENED with reason CREDIT. -/
  | creditDeadline (frame : Nat)
  /-- ARBOR_UNIT_DONE (R268). An Arbor grant unit evaluates 16 trees; after the last unit the scores are ready. -/
  | arborUnitDone (engine : Fin 8) (work : UnitEnd) (contentUe : Bool)
  /-- GALLERY_PROGRAM_DONE (R264). A screening model's program completes on its Gallery, and its outputs are ready 100 ns after its last
  slot. -/
  | galleryProgramDone (frame : Nat) (pos : Fin 4) (work : UnitEnd) (contentUe : Bool)
  /-- MODEL_START (R271). A screening model starts once every stage its feature map draws on has delivered, and the frame pins the model
  version. -/
  | modelStart (frame : Nat)
  /-- VERDICT_COMMIT (R370). Once every stage has delivered, the combiner walks the policy in one grant and commits the verdict at the end
  of the slot. -/
  | verdictCommit (frame : Nat) (work : UnitEnd) (policyUe : Bool)
  /-- FRAME_DEADLINE (R32). At T_dl a frame whose verdict is not committed becomes UNSCREENED with reason DEADLINE. -/
  | frameDeadline (frame : Nat)
  /-- RELEASE_LEAD (R31). At T_rel − 300 the scheduler fetches the held frame, redacts and annotates it, recomputes checksums and applies
  MACsec. -/
  | releaseLead (frame : Nat) (fetch : UnitEnd)
  /-- FRAME_RELEASE (R43). At T_rel the frame, a drop notice or nothing is emitted on the egress port, and out-of-band results are posted. -/
  | frameRelease (frame : Nat)
  /-- TAP_COPY_TX (R119). A Tap copy leaves the Tap port, in T_dl order, no earlier than its frame's T_rel. -/
  | tapCopyTx
  /-- SEAL_TIMER (R390). 500,000,000 ticks after its last seal, a chain that has new records receives a SEAL and SEAL_S pair. -/
  | sealTimer (chain : Fin 33)
  /-- ACCESSION_DRAIN (R415). Kartona records move from the Accession buffer to the accession ring as room allows; AUDIT_GAP records follow
  a loss. -/
  | accessionDrain (read : UnitEnd)
  /-- STRAND_SECTION_LOAD (R463). A Strand in LOADING reads and checks its section, and goes to OFF on a failed check, a Twin mismatch or
  SHARE_OVER. -/
  | strandSectionLoad (strand : Fin 32)
  /-- STRAND_ENTER_SERVING (R455). Once every condition for a Strand holds, it enters SERVING within 200 µs; the first such entry starts the
  chains. -/
  | strandEnterServing (strand : Fin 32)
  /-- STRAND_DRAIN_END (R471). A DRAINING Strand whose last frame has been disposed of enters LOADING. -/
  | strandDrainEnd (strand : Fin 32)
  /-- DRAIN_STUCK (R596). A Strand still DRAINING 1 ms past its drain bound is held in DRAINING and reported. -/
  | drainStuck (strand : Fin 32)
  /-- STALE_GRACE_EXPIRY (R551). An item that stays below its target past STALE_GRACE_MS becomes stale, and the Strands that use it are
  EXCLUDED. -/
  | staleGraceExpiry (item : Fin 180)
  /-- GUARD_REQUEST_ADMIT (R300). A guard request enters ADMITTING; it pins its versions, builds its prompt, matches prefix blocks and is
  admitted or refused. -/
  | guardRequestAdmit (frame : Nat)
  /-- COVE_STEP_START (R303). A Cove step starts 20 ticks after the previous commit, or when a request becomes ready, and composes its rows. -/
  | coveStepStart (cove : Fin 8)
  /-- COVE_STEP_COMMIT (R306). At commit point C every row has been sampled; accepted tokens, grammar states, labels, seals, cancels and
  request ends are applied. -/
  | coveStepCommit (cove : Fin 8) (work : UnitEnd) (gallery : Fin 48) (bad : List Nat) (lost : List (Nat × Nat)) (late : Nat)
  /-- GUARD_OUTPUT_POST (R307). At C + 10 ticks the guard stage outputs are posted to the Verdict combiner. -/
  | guardOutputPost (cove : Fin 8)
  /-- BATCH_RECORD_POST (R313). Between C + 50 and C + 250 ticks, batch records are posted to the result ring in slot order. -/
  | batchRecordPost (cove : Fin 8)
  /-- REQUEST_FREE (R315). An ENDED request returns to FREE, freeing its private blocks, dropping its shared references and releasing its
  pins. -/
  | requestFree (slot : Fin 8192)
  /-- GUARD_DEADLINE_CHECK (R311). At T_dl − 1 a request that has no committed label has a DEADLINE cancel registered. -/
  | guardDeadlineCheck (frame : Nat)
  /-- COVE_WEDGE_TIMEOUT (R324). A Cove with active requests and no commit point for 100 ms is marked WEDGED. -/
  | coveWedgeTimeout (cove : Fin 8)
  /-- ARCHIVE_MOVE_START (R358). When free plus reclaimable blocks fall below ARCH_LOW, a paused request's cache starts moving to the local
  or peer Archive tier. -/
  | archiveMoveStart (cove : Fin 8)
  /-- ARCHIVE_WRITE_DONE (R359). An Archive write completes; EXPIRE is set and the request's private blocks are freed. -/
  | archiveWriteDone (slot : Fin 8192)
  /-- ARCHIVE_EXPIRE (R359). At EXPIRE an Archive entry is deleted. -/
  | archiveExpire (key : Nat)
  /-- ARCHIVE_READ_DONE (R363). A resume read completes; the CRCs are checked, the blocks are written back and the entry is freed. -/
  | archiveReadDone (slot : Fin 8192) (work : UnitEnd) (crcFail : Bool)
  /-- ARCHIVE_PEER_TIMEOUT (R365). A REMOTE entry not returned 10 ms after its fetch ends the request EXPIRED. -/
  | archivePeerTimeout (slot : Fin 8192)
  /-- NOP (R418). The NOP command completes OK with no payload. -/
  | nop (q : Fin 16) (e : SqEntry)
  /-- CL_LOAD (R423). A content load command is registered; its descriptor is fetched and checked and its version is tested. -/
  | clLoad (q : Fin 16) (e : SqEntry) (desc : Option LoadDescriptor)
  /-- LOAD_STAGING_READY (R423). A waiting load obtains its staging room and begins reading and hashing its content. -/
  | loadStagingReady (load : Nat)
  /-- LOAD_DIGEST_DONE (R423). A load's content has been read and hashed; the digest and the kind's checks are run. -/
  | loadDigestDone (load : Nat) (content : Option Bytes) (fault : Bool)
  /-- LOAD_COMMIT (R665). A checked load is installed and becomes current at its commit tick, with a CONTENT record and a CSET increment. -/
  | loadCommit (load : Nat) (fault : Bool)
  /-- GRAPH_LOAD_START (R219). A queued graph delta, or full load, starts writing once no frame pins an old enough version. -/
  | graphLoadStart (graph : Fin 4) (lines : Nat)
  /-- GRAPH_LOAD_COMMIT (R239). After the last write of a graph load, the graph version becomes NEW_VER at tick T_c. -/
  | graphLoadCommit (graph : Fin 4)
  /-- GS_CANCEL (R317). The GS_CANCEL command registers a cancel for a matching request, or answers NOT_FOUND, ALREADY_COMPLETE or
  ALREADY_CANCELLING. -/
  | gsCancel (q : Fin 16) (e : SqEntry) (req : Word) (frameId : BitVec 64)
  /-- GS_QUERY (R316). The GS_QUERY command returns a request's record, or NOT_FOUND. -/
  | gsQuery (q : Fin 16) (e : SqEntry) (req : Word) (frameId : BitVec 64)
  /-- GS_PREFIX_FLUSH (R318). The GS_PREFIX_FLUSH command empties a Cove's prefix table and frees its reclaim list. -/
  | gsPrefixFlush (q : Fin 16) (e : SqEntry) (cove : Fin 256)
  /-- VRD_REPLAY (R395). The VRD_REPLAY command checks the replay descriptor and starts the frame's rerun, or refuses it. -/
  | vrdReplay (q : Fin 16) (e : SqEntry) (len : Word) (strand : Fin 256) (reserved : Bool) (data : Option Bytes)
  /-- REPLAY_DONE (R397). A replay completes with a recomputed FRAME record under REPLAY. -/
  | replayDone (frame : Nat)
  /-- BAD_OPCODE (R418). A command with an undefined opcode completes BAD_OPCODE on its CQ only. -/
  | badOpcode (q : Fin 16) (e : SqEntry) (opcode : Fin 256)
  /-- IMG_SWAP (R461). The IMG_SWAP command starts a Tidal swap of one Strand from the force bank, forced or waiting for the Twin. -/
  | imgSwap (q : Fin 16) (e : SqEntry) (strand : Fin 256) (flags : Byte) (reserved : Bool)
  /-- IMG_ROLL (R465). The IMG_ROLL command starts a rolling change to the other bank, after checks and target verification. -/
  | imgRoll (q : Fin 16) (e : SqEntry) (bank : Fin 256) (flags : Byte) (wait : BitVec 16) (reserved : Bool)
  /-- ROLL_VERIFY_DONE (R465). Verification of the roll's target bank ends; the roll proceeds, or is refused with GLOBAL_DIFF. -/
  | rollVerifyDone
  /-- ROLL_STRAND_STEP (R466). Once its wait condition holds, the roll swaps the next Strand from the target bank. -/
  | rollStrandStep
  /-- ROLL_WAIT_EXPIRY (R467). A roll step that has waited WAIT_MS reverts the roll, or forces the drain when FORCE is set. -/
  | rollWaitExpiry
  /-- STRAND_LOAD_TIMEOUT (R467). A rolled Strand not in SERVING 10 ms after entering LOADING reverts the roll. -/
  | strandLoadTimeout
  /-- IMG_ABORT (R467). The IMG_ABORT command reverts a running roll. -/
  | imgAbort (q : Fin 16) (e : SqEntry) (reserved : Bool)
  /-- IMG_PREPARE (R460). The IMG_PREPARE command writes a BANK_PREP record and arms a bank for erase. -/
  | imgPrepare (q : Fin 16) (e : SqEntry) (bank : Fin 256) (reserved : Bool)
  /-- IMG_PROGRAM (R460). The IMG_PROGRAM command programs image pages into a blank or programming bank. -/
  | imgProgram (q : Fin 16) (e : SqEntry) (bank : Fin 256) (offset length : Word) (data : Option Bytes) (reserved : Bool)
  /-- IMG_VERIFY (R460). The IMG_VERIFY command checks a bank's image and sets it VALID or INVALID. -/
  | imgVerify (q : Fin 16) (e : SqEntry) (bank : Fin 256) (reserved : Bool)
  /-- IMG_SELECT (R460). The IMG_SELECT command writes a BANK_SELECT record for a VALID bank. -/
  | imgSelect (q : Fin 16) (e : SqEntry) (bank : Fin 256) (reserved : Bool)
  /-- SQ_TAIL_DOORBELL (R406). A write of an SQ tail lets the device take the entries up to that tail as commands. -/
  | sqTailDoorbell (q : Fin 16) (v : Option Word)
  /-- SQ_FETCH_FAIL (R440). A failed read of a submission entry halts the SQ and posts SQ_HALT. -/
  | sqFetchFail (q : Fin 16) (cause : Fin 3)
  /-- CQ_HEAD_DOORBELL (R416). A write of a CQ head frees room, letting held completions be written. -/
  | cqHeadDoorbell (q : Fin 16) (v : Option Word)
  /-- RR_HEAD_DOORBELL (R411). A write of a result ring head frees room for result records. -/
  | rrHeadDoorbell (r : Fin 16) (v : Option Word)
  /-- EVENT_HEAD_DOORBELL (R414). A write of the event ring head frees room; an EVENTS_LOST event is written first when events were lost. -/
  | eventHeadDoorbell (v : Option Word)
  /-- ACCESSION_HEAD_DOORBELL (R415). A write of the accession ring head frees room for Kartona records. -/
  | accessionHeadDoorbell (v : Option Word)
  /-- RING_ENABLE (R440). A write to a ring's EN enables or disables the ring; disabling and re-enabling restarts a halted SQ. -/
  | ringEnable (p : Path) (r : Fin 50) (v : Word)
  /-- IRQ_TIMER (R431). TIME_US after the first unsignalled record, the ring's MSI-X vector is sent. -/
  | irqTimer (r : Fin 50)
  /-- WINDOW_STATUS_READ (R420). A read of a window slot's STATUS returns PENDING or READY and marks a ready slot READ. -/
  | windowStatusRead (off : BitVec 22) (size : Fin 9)
  /-- WINDOW_ACK (R421). A write of the matching CMD_ID to a READ slot frees it; any other write is discarded and counted. -/
  | windowAck (off : BitVec 22) (size : Fin 9) (v : BitVec 64)
  /-- PCIE_RESET (R403). A hot reset, a link-down or a return to D0 resets the host interface. -/
  | pcieReset (c : PcieReset)
  /-- D3HOT_ENTRY (R404). In D3hot the device takes no command and writes no ring record. -/
  | d3hotEntry
  /-- UNIT_STATE_READ (R434). A state read of a unit, by BAR0 or PLDM, may detect a persistent CMD and OBS difference and post STATE_SKEW. -/
  | unitStateRead (p : Path) (u : Fin 187)
  /-- SET_ENDPOINT_ID (R436). The MCTP Set Endpoint ID command sets the endpoint ID. -/
  | setEndpointId (eid : Byte)
  /-- GET_ENDPOINT_ID (R436). The MCTP Get Endpoint ID command returns the endpoint ID. -/
  | getEndpointId
  /-- GET_ENDPOINT_UUID (R436). The MCTP Get Endpoint UUID command returns the UUID. -/
  | getEndpointUuid
  /-- GET_MCTP_VERSION_SUPPORT (R436). The MCTP Get MCTP Version Support command returns the supported versions. -/
  | getMctpVersionSupport (type : Byte)
  /-- GET_MESSAGE_TYPE_SUPPORT (R436). The MCTP Get Message Type Support command returns the supported message types. -/
  | getMessageTypeSupport
  /-- GET_TID (R436). The PLDM GetTID command returns the terminus ID. -/
  | getTid
  /-- SET_TID (R436). The PLDM SetTID command sets the terminus ID. -/
  | setTid (tid : Byte)
  /-- GET_PLDM_VERSION (R436). The PLDM GetPLDMVersion command returns the PLDM version. -/
  | getPldmVersion (type : Byte)
  /-- GET_PLDM_TYPES (R436). The PLDM GetPLDMTypes command returns the supported PLDM types. -/
  | getPldmTypes
  /-- GET_PLDM_COMMANDS (R436). The PLDM GetPLDMCommands command returns the supported PLDM commands. -/
  | getPldmCommands (type : Byte)
  /-- GET_PDR_REPOSITORY_INFO (R436). The PLDM GetPDRRepositoryInfo command returns information on the PDR repository. -/
  | getPdrRepositoryInfo
  /-- GET_PDR (R436). The PLDM GetPDR command returns a PDR. -/
  | getPdr (handle : Word)
  /-- GET_SENSOR_READING (R436). The PLDM GetSensorReading command returns a numeric sensor reading. -/
  | getSensorReading (sensor : Fin 9)
  /-- GET_STATE_SENSOR_READINGS (R434). The PLDM GetStateSensorReadings command returns a unit's state sensor reading, counted as a state
  read. -/
  | getStateSensorReadings (u : Fin 187)
  /-- SET_EVENT_RECEIVER (R436). The PLDM SetEventReceiver command sets the receiver of PlatformEventMessages. -/
  | setEventReceiver (receiver : Option Byte)
  /-- GET_CERTIFICATE (R437). The SPDM GET_CERTIFICATE request returns a certificate chain from slot 0 or slot 1. -/
  | getCertificate (t : Transport) (slot : Byte) (off len : BitVec 16)
  /-- CHALLENGE (R437). The SPDM CHALLENGE request is answered with a response signed by the slot 0 leaf key. -/
  | challenge (t : Transport) (slot : Byte) (request : Bytes)
  /-- GET_MEASUREMENTS (R439). The SPDM GET_MEASUREMENTS request returns the measurement blocks as they stand at that tick. -/
  | getMeasurements (t : Transport) (index : Byte) (sign : Option Byte) (request : Bytes)
  /-- GET_CSR (R438). The SPDM GET_CSR request returns a certificate request over the Accession seal key. -/
  | getCsr (t : Transport) (request : Bytes)
  /-- KEY_EXCHANGE (R437). The SPDM KEY_EXCHANGE request opens a secured session. -/
  | keyExchange (t : Transport) (slot : Byte) (request : Bytes)
  /-- PWR_OK_RISE (R455). PWR_OK rises; the straps are sampled and the boot ROM starts the start-up sequence. -/
  | pwrOkRise (node : BitVec 15) (smb : BitVec 3) (test : Bool)
  /-- OTP_SENSED (R455). OTP sensing of stepping, determinism class, key digests and revocations completes. -/
  | otpSensed (otp : Otp)
  /-- TRIM_CHECK (R454). Both trim blocks have been read; a valid one is applied, or start stops in BOOT_FAIL with cause TRIM. -/
  | trimCheck
  /-- IMAGE_HEADERS_READ (R452). Both image headers and the ledger have been read, and the preferred bank is chosen. -/
  | imageHeadersRead
  /-- IMAGE_STREAM_DONE (R446). The image has been streamed, hashed and checked for well-formedness. -/
  | imageStreamDone
  /-- SIGNATURE_CHECK_DONE (R447). Both signatures have been checked, giving T_sig; on failure the other bank is tried. -/
  | signatureCheckDone
  /-- GLOBAL_APPLY (R448). Curator starts, resets every LK field, applies and checks the GLOBAL records, and locks every LK field. -/
  | globalApply (failed : List UnitId) (curatorBad : Bool)
  /-- HBM_TRAINING_DONE (R455). The six HBM4 stacks are initialised and trained. -/
  | hbmTrainingDone (failed : List (Fin 384))
  /-- DDR_TRAINING_DONE (R457). DDR5 channel training ends; failing channels are retired and ARCH_EN may be forced to 0. -/
  | ddrTrainingDone (populated failed : BitVec 4) (identical : Bool) (rate : Fin 4) (size16 : Fin 256)
  /-- PCIE_PERST_DEASSERT (R456). PCIE_PERST_N deasserts, and link training begins once trims are applied. -/
  | pciePerstDeassert
  /-- SECTOR_ERASE_DONE (R458). A housekeeping or recovery sector erase completes, and housekeeping advances until HK_DONE. -/
  | sectorEraseDone (bank : Fin 2)
  /-- NVM_PAGE_PROGRAM_DONE (R610). A page program completes; a reported failure retries the record on the next page, up to 3 times. -/
  | nvmPageProgramDone (bank : Fin 2) (failed : Bool)
  /-- NVM_READ_TIMEOUT (R474). An NVM read not completed within 10 ms is retried, up to 3 times. -/
  | nvmReadTimeout (bank : Fin 2) (strand : Option (Fin 32))
  /-- REC_PROGRAM_PAGE (R475). In BOOT_FAIL the recovery command programs a page from IMG_REC_DATA. -/
  | recProgramPage
  /-- REC_ERASE_SECTOR (R475). In BOOT_FAIL the recovery command erases a sector. -/
  | recEraseSector
  /-- REC_RESTART (R475). In BOOT_FAIL the recovery command restarts the start-up sequence at step 2. -/
  | recRestart
  /-- PWR_OK_FALL (R639). A low on PWR_OK of 1 µs or more resets the device outside the always-on domain and stops any erase. -/
  | pwrOkFall
  /-- SYS_RESET (R611). SYS_RESET_N held low for 1 µs or more triggers a forced full reset. -/
  | sysReset
  /-- FULL_RESET_GO (R613). GO written within 1 ms of the reset key starts a quiesced or forced full reset. -/
  | fullResetGo (forced bist : Bool)
  /-- QUIESCE_FRAMES_DONE (R613). Every frame inside has met its disposition, and the quiesce waits for guard requests to end. -/
  | quiesceFramesDone
  /-- QUIESCE_GUARD_DONE (R613). The final guard batch records are posted and every chain is sealed. -/
  | quiesceGuardDone
  /-- QUIESCE_DRAIN_DONE (R613). The Accession buffer has drained, or DRAIN_MS has expired, and the RESET record is programmed before start
  resumes. -/
  | quiesceDrainDone
  /-- CURATOR_WDT (R611). An absent Curator heartbeat for 100 ms forces a full reset when WDT_EN = 1. -/
  | curatorWdt
  /-- THERMAL_CONVERSION (R578). Each 10 µs sensor conversion updates the junction maximum and checks the warn, throttle and shutdown
  thresholds. -/
  | thermalConversion (raw : List (BitVec 12)) (hbm : List (BitVec 16))
  /-- CLOCK_LOSS (R560). A crystal missing or off by more than 5 % for 4 µs triggers the trip response with cause CLOCK. -/
  | clockLoss
  /-- THROTTLE_STEP (R579). The thermal level rises every 100 µs at or above 100 °C, or falls every 1 ms below 97 °C. -/
  | throttleStep
  /-- POWER_ESTIMATE (R570). Every 100 µs package power is estimated and the cap level is adjusted. -/
  | powerEstimate (mw : Word)
  /-- CLOCK_RAISE (R568). 20 µs after VDD_VID is raised for a lower level, the FF and GAL clocks are raised. -/
  | clockRaise
  /-- VDD_LOW (R593). VDD more than 50 mV below its setpoint for 100 µs posts VDD_LOW and holds the thermal level at 12. -/
  | vddLow (sensor : Fin 16)
  /-- SENSOR_CHECK_START (R590). Every SENS_VERIFY_MS a sensor is switched to its check point and marked STALE. -/
  | sensorCheckStart (sensor : Fin 40)
  /-- SENSOR_CHECK_DONE (R590). After 200 µs the check reading is judged, which may set or clear DEGRADED and BLIND. -/
  | sensorCheckDone (sensor : Fin 40) (raw : BitVec 12)
  /-- LANE_WINDOW_DONE (R589). A verification window of 2^20 gap symbols completes and is judged; repeated failures retire the lane. -/
  | laneWindowDone (lane : Fin 35) (occupancy : List Nat) (means : List Int)
  /-- LANE_WINDOW_STARVED (R589). A window not completed within 10 s sets STARVED. -/
  | laneWindowStarved (lane : Fin 35)
  /-- IDLE_BANK (R565). A Running unit idle for IDLE_BANK_US enters Banked. -/
  | idleBank (unit : Fin 137)
  /-- IDLE_PARK (R565). A Banked unit idle for IDLE_PARK_MS enters Parked. -/
  | idlePark (unit : Fin 137)
  /-- UNIT_WAKE_START (R566). Eligible work for a unit that is not Running starts its wake. -/
  | unitWakeStart (unit : Fin 137)
  /-- UNIT_WAKE_DONE (R566). A unit's wake completes, its wheel resumes, or a PLL lock failure is retried. -/
  | unitWakeDone (unit : Fin 137) (lockFailed : Bool)
  /-- PPS_EDGE (R576). A rising edge on PPS_IN captures the tide counter into TID_PPS. -/
  | ppsEdge
  /-- PPS_LOST (R576). No PPS edge within 550,000,000 ticks clears PPS_VALID and posts PPS_LOST. -/
  | ppsLost
  /-- TID_RATE_WRITE (R573). A write of TID_RATE changes the TIDE PLL frequency offset with no phase step. -/
  | tidRateWrite (p : Path) (v : Word)
  /-- TID_SLEW_WRITE (R574). A write of TID_SLEW starts or replaces a slew of n ticks. -/
  | tidSlewWrite (p : Path) (v : Word)
  /-- SLEW_DONE (R574). A slew has gained or lost its ticks and ends. -/
  | slewDone
  /-- TID_SET_CMD (R575). TID_SET_CMD loads the tide counter, unless a Strand is SERVING or DRAINING. -/
  | tidSetCmd (p : Path)
  /-- SA_INSTALL (R125). INT_SA_CMD bit 0 installs and enables the selected SA. -/
  | saInstall (p : Path)
  /-- SA_DISABLE (R89). INT_SA_CMD bit 1 disables the selected SA. -/
  | saDisable (p : Path)
  /-- ETH_LINK_CHANGE (R121). A data or Tap port link goes up or down; queued Tap copies are lost on a Tap link drop. -/
  | ethLinkChange (port : EthPort) (up : Bool)
  /-- GRAPH_TARGET_WRITE (R241). A host write of GTH_GRAPH_TARGET sets T_g; a value at or below C_g clears staleness at once. -/
  | graphTargetWrite (graph : Fin 4) (value : Word)
  /-- DATA_FLIT_RX (R484). A good DATA flit is accepted, discarded as a gap or discarded as a duplicate, and its ACK and XOFF are applied. -/
  | dataFlitRx (port : Fin 6) (head : FlitHead) (vc : Fin 5) (sop eop : Bool) (seq : BitVec 16) (payload : Bytes)
  /-- NAK_FLIT_RX (R487). A NAK frees acknowledged flits and starts a replay from its ACK. -/
  | nakFlitRx (port : Fin 6) (head : FlitHead)
  /-- IDLE_FLIT_RX (R485). A good IDLE flit's ACK and XOFF are applied. -/
  | idleFlitRx (port : Fin 6) (head : FlitHead)
  /-- BAD_FLIT_RX (R479). A bad flit is ignored, counted and answered with a NAK. -/
  | badFlitRx (port : Fin 6) (lost0 lost1 : Bool) (fixes : Fin 3)
  /-- TRAIN_FLIT_RX (R497). A TRAIN flit yields an RTT sample and a partner check, leading to UP or DISABLED. -/
  | trainFlitRx (port : Fin 6) (head : FlitHead) (f : TrainFields)
  /-- FLIT_SLOT (R494). In each flit period the transmitter sends a NAK, a replay flit, a Causeway flit, a new flit or IDLE. -/
  | flitSlot (port : Fin 6)
  /-- REPLAY_TIMEOUT (R488). No ACK advance for REPLAY_TMO starts a replay, and REPLAY_MAX replays force a retrain. -/
  | replayTimeout (port : Fin 6)
  /-- BRINGUP_STAGE_DONE (R496). A link bring-up stage (training, ALIGN, IDENTIFY) completes and the port moves to its next stage. -/
  | bringupStageDone (port : Fin 6) (swap : Bool)
  /-- BRINGUP_TIMEOUT (R496). A bring-up stage that overruns its bound returns the port to DOWN. -/
  | bringupTimeout (port : Fin 6) (fail0 fail1 : Bool)
  /-- PORT_RETRY_HOLD (R496). 100 ms after entering DOWN, a port leaves DOWN for TRAIN again. -/
  | portRetryHold (port : Fin 6)
  /-- PORT_RETRAIN (R489). NWL_PORT_CMD RETRAIN makes the port leave UP and retrain. -/
  | portRetrain (port : Fin 6)
  /-- REPL_ROUND_START (R546). The origin starts the next replication round, or a unicast round, over the tree. -/
  | replRoundStart
  /-- REPL_BEGIN (R547). A REPL_BEGIN packet reserves staging room for the round, or is answered NO_ROOM. -/
  | replBegin
  /-- REPL_DATA (R547). A REPL_DATA fragment is written at its offset and hashed. -/
  | replData
  /-- REPL_END (R547). A REPL_END packet checks and commits the round's content, or waits for missing fragments. -/
  | replEnd
  /-- REPL_FRAGMENT_WAIT (R547). After 1 ms waiting for missing fragments the device answers MISSING. -/
  | replFragmentWait (replId : Word)
  /-- REPL_ACK (R548). The origin records a device's answer to a round. -/
  | replAck
  /-- REPL_WAIT_EXPIRY (R548). After REPL_WAIT_MS the origin retries, or writes FAB_DELIV, posts REPL_DONE and sends the TARGET entry. -/
  | replWaitExpiry
  /-- REPL_PULL (R552). The origin answers a REPL_PULL packet with unicast rounds or with REPL_FULL_NEEDED. -/
  | replPull
  /-- REPL_PULL_TIMER (R552). Every 100 ms an item below its target sends REPL_PULL to the origin. -/
  | replPullTimer (item : Fin 180)
  /-- REPL_FULL_NEEDED (R552). A REPL_FULL_NEEDED packet makes the device post RESYNC_HOST. -/
  | replFullNeeded
  /-- TARGET (R550). A TARGET packet raises the device's targets for the items it lists. -/
  | target
  /-- CATALOG_TIMER (R549). Every CATALOG_MS the origin multicasts one TARGET packet per route set. -/
  | catalogTimer
  /-- ARCH_PUT (R555). A peer stores an ARCH_PUT fragment and answers ARCH_STATUS OK or NO_ROOM. -/
  | archPut
  /-- ARCH_GET (R555). A peer answers an ARCH_GET with ARCH_DATA packets, or with MISSING. -/
  | archGet
  /-- ARCH_DATA (R555). Fetched Archive entry bytes are written at their offset. -/
  | archData
  /-- ARCH_STATUS (R555). A peer's status completes, or fails, an Archive move or fetch. -/
  | archStatus
  /-- ACK (R532). An end-to-end ACK clears an unacknowledged packet. -/
  | ack
  /-- ECHO (R537). An ECHO halves the rate of the flow to its sender, unless the flow decreased recently. -/
  | echo
  /-- CW_SETUP (R541). A CW_SETUP packet arms the node's Causeway slots and is forwarded, or confirmed by the last node. -/
  | cwSetup
  /-- CW_CONFIRM (R541). A CW_CONFIRM packet makes the Causeway OPEN at its source. -/
  | cwConfirm
  /-- CW_DOWN (R541). A CW_DOWN packet marks the Causeway DOWN at its source. -/
  | cwDown
  /-- CW_SETUP_RETRY (R541). Every 100 ms a source resends the setup of a Causeway that is not OPEN. -/
  | cwSetupRetry (causeway : Fin 64)
  /-- E2E_RESEND_TIMEOUT (R532). A packet unacknowledged for 200 µs is resent; after 3 resends it fails and posts E2E_FAIL. -/
  | e2eResendTimeout (msgId : Word)
  /-- ESCAPE_TIMEOUT (R525). A packet head that has waited ESC_WAIT_NS with no eligible port moves to the escape VC. -/
  | escapeTimeout (index : Nat)
  /-- FLOW_IDLE (R536). A flow that has sent nothing for 1 ms is freed. -/
  | flowIdle (node : BitVec 16)
  /-- RATE_INCREASE (R537). After each INC_US without a decrease, a flow's RATE rises by AI. -/
  | rateIncrease (node : BitVec 16)
  /-- UNIT_TIMEOUT (R597). A grant unit not complete 20 µs after its slot ends is a transient fault and is retried. -/
  | unitTimeout (st : Stage) (e : Fin 48)
  /-- LEDGER_FETCH (R606). FLT_LEDGER_CMD FETCH reads the record with the given SEQ into FLT_LEDGER_WIN. -/
  | ledgerFetch (p : Path)
  /-- LANE_TEST_CONTROL (R621). A write of a lane's test controls starts or stops the generator, checker or loopback, refused or forced on
  an UP port. -/
  | laneTestControl (p : Path) (l : Fin 37) (v : Word)
  /-- ERROR_INJECT (R619). A write of 1 to INJECT inverts one transmitted bit. -/
  | errorInject (p : Path) (l : Fin 37)
  /-- IDCODE (R664). The JTAG IDCODE instruction selects the fixed 32-bit IDCODE register. -/
  | idcode
  /-- SAMPLE_PRELOAD (R624). The JTAG SAMPLE/PRELOAD instruction samples or preloads the boundary register. -/
  | samplePreload (boundary : Nat)
  /-- EXTEST (R624). The JTAG EXTEST instruction drives the balls from the boundary register and stops the data path. -/
  | extest (boundary : Nat)
  /-- CLAMP (R624). The JTAG CLAMP instruction holds the boundary outputs, selects bypass and stops the data path. -/
  | clamp
  /-- HIGHZ (R624). The JTAG HIGHZ instruction floats the outputs and stops the data path. -/
  | highz
  /-- EXTEST_PULSE (R624). The JTAG EXTEST_PULSE instruction tests AC-coupled pairs under IEEE 1149.6 and stops the data path. -/
  | extestPulse (boundary : Nat)
  /-- EXTEST_TRAIN (R624). The JTAG EXTEST_TRAIN instruction tests AC-coupled pairs with pulse trains and stops the data path. -/
  | extestTrain (boundary : Nat)
  /-- REG_ACCESS (R623). At each Update-DR under the JTAG REG_ACCESS instruction, one BAR0 access is made, subject to the debug lock. -/
  | regAccess (write : Bool) (off : BitVec 26) (data : Word)
  /-- BYPASS (R623). The JTAG BYPASS instruction, or any undefined opcode, selects the 1-bit bypass register. -/
  | bypass
  /-- TEST_LOGIC_RESET (R624). The TAP enters Test-Logic-Reset by TRST_N or TMS and loads IDCODE. -/
  | testLogicReset
  /-- LOW_WORD_READ (R7). A read of the low word of a 64-bit pair latches the high word on that access path. -/
  | lowWordRead (p : Path) (off : BitVec 26) (size : Fin 9)
  /-- COUNTER_READ_CLEAR (R8). A read of an RC field returns its value and clears it; events in the same cycle count after the clear. -/
  | counterReadClear (p : Path) (off : BitVec 26) (size : Fin 9)
  /-- REGISTER_WRITE (R10). A write to a register that has no row of its own applies its access code, with discard and counting of bad
  accesses. -/
  | registerWrite (b : Bar) (off : BitVec 26) (size : Fin 9) (poisoned : Bool) (v : BitVec 64)
  /-- VAON_RISE (R572). VAON comes within tolerance: the always-on domain and the crystal start, and the tide counter starts counting from
  0. -/
  | vaonRise
  /-- VAON_FALL (R584). VAON leaves tolerance: the trip latch is lost and the tide counter stops, to restart from 0 at the next rise. -/
  | vaonFall
  /-- VIO_RISE (R636). VIO comes within tolerance, and the device starts driving VDD_VID at code 30 and holds its pins in their pre-PWR_OK
  states. -/
  | vioRise
  /-- TIDE_PLL_LOCK (R572). The TIDE PLL locks, and the tide counter changes from advancing by 20 per 25 MHz cycle to advancing by 1 per
  TIDE cycle, setting PLL_LOCKED. -/
  | tidePllLock
  /-- BANK_VERIFY_DONE (R460). The streaming and signature check of a bank's image, started by IMG_VERIFY or by housekeeping, ends and sets
  the bank VALID or INVALID. -/
  | bankVerifyDone (bank : Fin 2)
  /-- PCIE_LINK_UP (R456). PCIe link training completes, setting LINK_UP, RATE, WIDTH, FLIT and possibly BELOW_MIN in HIF_STATUS. -/
  | pcieLinkUp (rate : Fin 6) (width : Fin 17) (flit : Bool)
  /-- CONFIG_SPACE_READY (R456). The configuration space becomes ready, and the function stops answering configuration requests with Request
  Retry Status. -/
  | configSpaceReady
  /-- CHECKER_LOCK (R619). A PRBS checker that has seeded from the first n bits sees 64 further error-free bits and locks, so it begins
  counting BITS and ERR. -/
  | checkerLock (l : Fin 37)
  /-- CHECKER_LOCK_LOSS (R619). A locked PRBS checker sees 32 errors within 256 bits, drops lock, counts a loss, posts PRBS_LOCK_LOST and
  re-seeds. -/
  | checkerLockLoss (l : Fin 37) (counted errors : Nat) (recent : Fin 257)
  /-- GET_VERSION (R437). The SPDM GET_VERSION request is answered with the supported versions 1.3 and 1.2. -/
  | getVersion (t : Transport)
  /-- GET_CAPABILITIES (R437). The SPDM GET_CAPABILITIES request is answered with the capabilities of Table 11-18. -/
  | getCapabilities (t : Transport) (version : Byte) (maxMessage : Word)
  /-- NEGOTIATE_ALGORITHMS (R437). The SPDM NEGOTIATE_ALGORITHMS request selects ECDSA P-384, SHA-384, secp384r1 and AES-256-GCM. -/
  | negotiateAlgorithms (t : Transport) (offered : Bool) (request : Bytes)
  /-- GET_DIGESTS (R437). The SPDM GET_DIGESTS request returns the digests of the certificate chains in slots 0 and 1. -/
  | getDigests (t : Transport)
  /-- FINISH (R437). The SPDM FINISH request completes a key exchange and establishes the secured session. -/
  | finish (t : Transport) (k : Fin 2) (ok : Bool)
  /-- HEARTBEAT (R437). The SPDM HEARTBEAT request keeps a secured session alive. -/
  | heartbeat (t : Transport) (k : Fin 2)
  /-- KEY_UPDATE (R437). The SPDM KEY_UPDATE request updates a secured session's keys. -/
  | keyUpdate (t : Transport) (k : Fin 2)
  /-- END_SESSION (R437). The SPDM END_SESSION request closes one of the two secured sessions of a transport. -/
  | endSession (t : Transport) (k : Fin 2)
  /-- CHUNK_SEND (R437). The SPDM CHUNK_SEND request carries one chunk of a large request. -/
  | chunkSend (t : Transport) (handle : Byte) (first last : Bool) (data : Bytes)
  /-- CHUNK_GET (R437). The SPDM CHUNK_GET request returns one chunk of a large response. -/
  | chunkGet (t : Transport) (handle : Byte) (seq : BitVec 16)
  /-- DOE_DISCOVERY (R437). A DOE Discovery request on the mailbox returns the supported data object protocols. -/
  | doeDiscovery (index : Byte)
  /-- IDE_KM_QUERY (R437). An IDE_KM QUERY message in a secured session over DOE returns the link IDE stream capabilities. -/
  | ideKmQuery (k : Fin 2)
  /-- IDE_KM_KEY_PROG (R437). An IDE_KM KEY_PROG message programs a key for the link IDE stream. -/
  | ideKmKeyProg (k : Fin 2) (sub : Fin 8) (transmit keySet : Bool) (key : Bytes)
  /-- IDE_KM_K_SET_GO (R437). An IDE_KM K_SET_GO message activates a key set, making the link IDE stream active and setting HIF_STATUS IDE. -/
  | ideKmKSetGo (k : Fin 2) (keySet : Bool)
  /-- IDE_KM_K_SET_STOP (R437). An IDE_KM K_SET_STOP message stops a key set and the link IDE stream. -/
  | ideKmKSetStop (k : Fin 2) (keySet : Bool)
  /-- MCTP_UNSUPPORTED_CMD (R436). An MCTP control message outside the supported set is answered ERROR_UNSUPPORTED_CMD, and a message of an
  unsupported type is discarded. -/
  | mctpUnsupportedCmd (type command : Byte)
  deriving DecidableEq, Repr

end Sys2Proof
end

