-- ==== Sys2Proof/Decode.lean ====
section
/-!
DEFINITION. Commands as words. The table gives no command any bits: commands reach the block over its pins and links, so no word spells
one.
-/
namespace Sys2Proof

/-- The command that a word of `nbits` bits spells by the table's bits: none, since no row has bits. -/
def decodeTableWord (_nbits _w : Nat) : Option Instr := none

end Sys2Proof
end

