-- ==== Sys2Proof/Machine/Bits.lean ====
section
/-!
DEFINITION. Byte strings, byte order, bit fields and small list helpers that every family uses. All recursion is
structural, so that the kernel can evaluate what stands here.
-/
namespace Sys2Proof

/-- Little-endian value of a byte string (R4). -/
def leNat : Bytes → Nat
  | [] => 0
  | b :: bs => b.toNat + 256 * leNat bs

/-- Big-endian value of a byte string (R5: standard headers keep network order). -/
def beNat (bs : Bytes) : Nat := bs.foldl (fun acc b => acc * 256 + b.toNat) 0

/-- `n` bytes of `v`, little-endian (R4). -/
def toLe : Nat → Nat → Bytes
  | 0, _ => []
  | n + 1, v => byte v :: toLe n (v / 256)

/-- `n` bytes of `v`, big-endian. -/
def toBe (n v : Nat) : Bytes := (toLe n v).reverse

/-- Bits [lsb + w − 1 : lsb] of `v`. -/
def bits (v lsb w : Nat) : Nat := (v >>> lsb) % 2 ^ w

/-- One bit of `v`. -/
def bit (v i : Nat) : Bool := v.testBit i

/-- `v` with bits [lsb + w − 1 : lsb] replaced by `x`. -/
def putBits (v lsb w x : Nat) : Nat :=
  v - (bits v lsb w) * 2 ^ lsb + (x % 2 ^ w) * 2 ^ lsb

/-- The `len` bytes that start at `off` (fewer where the string ends). -/
def slice (bs : Bytes) (off len : Nat) : Bytes := (bs.drop off).take len

/-- The `len` bytes at `off`, when all of them exist. -/
def slice? (bs : Bytes) (off len : Nat) : Option Bytes :=
  if off + len ≤ bs.length then some (slice bs off len) else none

/-- Little-endian number of `n` bytes at `off`. -/
def le (bs : Bytes) (off n : Nat) : Nat := leNat (slice bs off n)

/-- Big-endian number of `n` bytes at `off`. -/
def be (bs : Bytes) (off n : Nat) : Nat := beNat (slice bs off n)

/-- Byte `i` as a number, 0 past the end. -/
def byteAt (bs : Bytes) (i : Nat) : Nat := (bs.getD i 0).toNat

/-- `bs` with the bytes from `off` on replaced by `new`; bytes past the end of `bs` are not written. -/
def overwrite (bs : Bytes) (off : Nat) (new : Bytes) : Bytes :=
  let new := new.take (bs.length - off)
  bs.take off ++ new ++ bs.drop (off + new.length)

/-- `n` zero bytes. -/
def zeros (n : Nat) : Bytes := List.replicate n 0

/-- `bs` cut or zero-padded to exactly `n` bytes. -/
def padTo (n : Nat) (bs : Bytes) : Bytes := bs.take n ++ zeros (n - bs.length)

/-- The smallest integer at least a / b. -/
def ceilDiv (a b : Nat) : Nat := (a + b - 1) / b

/-- Two's complement value of the low `w` bits of `v`. -/
def signed (w v : Nat) : Int :=
  let x := v % 2 ^ w
  if x < 2 ^ (w - 1) then (x : Int) else (x : Int) - (2 ^ w : Nat)

/-- The low `w` bits of a signed number. -/
def toBitsInt (w : Nat) (x : Int) : Nat := (x % ((2 ^ w : Nat) : Int)).toNat

/-- 1 for true, 0 for false. -/
def b2n (b : Bool) : Nat := if b then 1 else 0

/-- How many bits of the low `n` bits of `v` are set. -/
def popCount : Nat → Nat → Nat
  | 0, _ => 0
  | n + 1, v => v % 2 + popCount n (v / 2)

/-- The list with element `i` replaced by `f` of it. -/
def modifyAt {α : Type} (l : List α) (i : Nat) (f : α → α) : List α :=
  match l, i with
  | [], _ => []
  | x :: xs, 0 => f x :: xs
  | x :: xs, i + 1 => x :: modifyAt xs i f

/-- Every element that satisfies `p` replaced by `f` of it. -/
def mapWhere {α : Type} (l : List α) (p : α → Bool) (f : α → α) : List α :=
  l.map (fun x => if p x then f x else x)

/-- Sum of `f` over a list. -/
def sumBy {α : Type} (l : List α) (f : α → Nat) : Nat := l.foldl (fun a x => a + f x) 0

/-- Least element under a measure, the first of equals. -/
def minBy? {α : Type} (l : List α) (f : α → Nat) : Option α :=
  l.foldl (fun best x => match best with
    | none => some x
    | some b => if f x < f b then some x else some b) none

/-- The numbers `0 … n − 1`. -/
def upto (n : Nat) : List Nat := List.range n

/-- The 64-bit wrap of a number. -/
def w64 (n : Nat) : Nat := n % 2 ^ 64

/-- The 32-bit wrap of a number. -/
def w32 (n : Nat) : Nat := n % 2 ^ 32

/-- XOR of two byte strings of one length. -/
def xorBytes (a b : Bytes) : Bytes := List.zipWith (· ^^^ ·) a b

/-- The bytes of an ASCII string. -/
def asciiBytes (s : String) : Bytes := s.toList.map (fun c => byte c.toNat)

/-- `l` cut into runs of `n` elements, the last one shorter where it must be; `fuel` bounds the number of runs. -/
def chunksAux {α : Type} (n : Nat) : Nat → List α → List (List α)
  | 0, _ => []
  | fuel + 1, l => if l.isEmpty then [] else l.take n :: chunksAux n fuel (l.drop n)

/-- `l` cut into runs of `n` elements. -/
def chunks {α : Type} (n : Nat) (l : List α) : List (List α) := chunksAux n l.length l

/-- Insertion of `x` into a list sorted under `lt`, after the elements that are not above it. -/
def insertSorted {α : Type} (lt : α → α → Bool) (x : α) : List α → List α
  | [] => [x]
  | y :: ys => if lt x y then x :: y :: ys else y :: insertSorted lt x ys

/-- A stable insertion sort under `lt`. -/
def sortBy {α : Type} (lt : α → α → Bool) (l : List α) : List α :=
  l.foldl (fun acc x => insertSorted lt x acc) []

end Sys2Proof
end

