-- ==== Sys2Proof/Machine/Float.lean ====
section
/-!
DEFINITION. The operand formats and the floating-point arithmetic of R248 to R253 and R260: exact values as dyadic
numbers, one rounding to nearest with ties to even, subnormals kept, one canonical NaN. Words stand as their bits.
-/
namespace Sys2Proof

/-- An exact value: (−1)^neg × m × 2^e, an infinity, or not a number. -/
inductive FV where
  | nan
  | inf (neg : Bool)
  | fin (neg : Bool) (m : Nat) (e : Int)
  deriving DecidableEq, Repr

/-- A floating format: precision, exponent of its least subnormal, exponent bits, whether it has infinities, its
largest finite code and its canonical NaN (Table 7-1, R250). -/
structure FFmt where
  prec : Nat
  emin : Int
  ebits : Nat
  hasInf : Bool
  maxCode : Nat
  nanCode : Nat
  deriving DecidableEq, Repr

/-- FP8-E4M3. -/
def fmtE4M3 : FFmt := ⟨4, -9, 4, false, 0x7E, 0x7F⟩
/-- FP8-E5M2. -/
def fmtE5M2 : FFmt := ⟨3, -16, 5, false, 0x7B, 0x7E⟩
/-- BF16. -/
def fmtBF16 : FFmt := ⟨8, -133, 8, true, 0x7F7F, 0x7FC0⟩
/-- FP32. -/
def fmtF32 : FFmt := ⟨24, -149, 8, true, 0x7F7FFFFF, 0x7FC00000⟩

/-- Bits of a number, 0 for 0. -/
def bitLen (m : Nat) : Nat := if m = 0 then 0 else Nat.log2 m + 1

/-- `m` × 2^(−k) rounded to an integer, ties to even; `sticky` says that something below `m` is not zero. -/
def roundShift (m k : Nat) (sticky : Bool) : Nat :=
  if k = 0 then m
  else
    let q := m >>> k
    let r := m % 2 ^ k
    let half := 2 ^ (k - 1)
    if r < half then q
    else if half < r ∨ sticky = true then q + 1
    else if q % 2 = 1 then q + 1 else q

/-- The code of a magnitude m × 2^e rounded to a format, without its sign bit; overflow as R251 states. -/
def roundMag (f : FFmt) (m : Nat) (e : Int) (sticky : Bool) : Nat :=
  if m = 0 then 0
  else
    let q := max (e + bitLen m - f.prec) f.emin
    let r := if e < q then roundShift m (q - e).toNat sticky else m <<< (e - q).toNat
    let code := r + ((q - f.emin).toNat) * 2 ^ (f.prec - 1)
    if f.maxCode < code then (if f.hasInf then f.maxCode + 1 else f.maxCode) else code

/-- The sign bit of a format. -/
def FFmt.signBit (f : FFmt) : Nat := 2 ^ (f.ebits + f.prec - 1)

/-- A value rounded to a format (R249 to R251). -/
def FFmt.encode (f : FFmt) : FV → Nat
  | .nan => f.nanCode
  | .inf n => (if n then f.signBit else 0) + (if f.hasInf then f.maxCode + 1 else f.maxCode)
  | .fin n m e => (if n then f.signBit else 0) + roundMag f m e false

/-- The value of a code (Table 7-1). -/
def FFmt.decode (f : FFmt) (c : Nat) : FV :=
  let c := c % (2 * f.signBit)
  let neg := decide (f.signBit ≤ c)
  let mag := c % f.signBit
  let ex := mag / 2 ^ (f.prec - 1)
  let ma := mag % 2 ^ (f.prec - 1)
  let top := ex = 2 ^ f.ebits - 1
  if f.prec = 4 ∧ mag = 0x7F then .nan
  else if f.prec ≠ 4 ∧ top then (if ma = 0 then .inf neg else .nan)
  else if ex = 0 then .fin neg ma f.emin
  else .fin neg (2 ^ (f.prec - 1) + ma) (f.emin + ex - 1)

/-- FP32 value of a word. -/
def f32 (c : Nat) : FV := fmtF32.decode c
/-- FP32 word of a value. -/
def toF32 (v : FV) : Nat := fmtF32.encode v
/-- The canonical NaN of FP32 (R250). -/
def nan32 : Nat := 0x7FC00000
/-- Whether a word is a NaN. -/
def isNan32 (c : Nat) : Bool := f32 c == .nan

/-- The signed mantissa. -/
def smant (neg : Bool) (m : Nat) : Int := if neg then -(m : Int) else (m : Int)

/-- Exact sum of two finite values; `z` is the sign of an exact zero. -/
def addFin (n1 : Bool) (m1 : Nat) (e1 : Int) (n2 : Bool) (m2 : Nat) (e2 : Int) : FV :=
  let e := min e1 e2
  let s := smant n1 m1 * 2 ^ (e1 - e).toNat + smant n2 m2 * 2 ^ (e2 - e).toNat
  if s = 0 then .fin (m1 == 0 && m2 == 0 && n1 && n2) 0 e
  else .fin (decide (s < 0)) s.natAbs e

/-- Sum before rounding. -/
def addFV : FV → FV → FV
  | .nan, _ => .nan
  | _, .nan => .nan
  | .inf a, .inf b => if a = b then .inf a else .nan
  | .inf a, _ => .inf a
  | _, .inf b => .inf b
  | .fin n1 m1 e1, .fin n2 m2 e2 => addFin n1 m1 e1 n2 m2 e2

/-- Product before rounding. -/
def mulFV : FV → FV → FV
  | .nan, _ => .nan
  | _, .nan => .nan
  | .inf a, .inf b => .inf (a != b)
  | .inf a, .fin b m _ => if m = 0 then .nan else .inf (a != b)
  | .fin b m _, .inf a => if m = 0 then .nan else .inf (a != b)
  | .fin a m e, .fin b n f => .fin (a != b) (m * n) (e + f)

/-- The opposite sign. -/
def negFV : FV → FV
  | .nan => .nan
  | .inf a => .inf (!a)
  | .fin a m e => .fin (!a) m e

/-- ADD. -/
def fAdd (a b : Nat) : Nat := toF32 (addFV (f32 a) (f32 b))
/-- SUB. -/
def fSub (a b : Nat) : Nat := toF32 (addFV (f32 a) (negFV (f32 b)))
/-- MUL. -/
def fMul (a b : Nat) : Nat := toF32 (mulFV (f32 a) (f32 b))
/-- FMA, rounded once. -/
def fFma (a b c : Nat) : Nat := toF32 (addFV (mulFV (f32 a) (f32 b)) (f32 c))

/-- A word with a sign. -/
def withSign (n : Bool) (mag : Nat) : Nat := (if n then 0x80000000 else 0) + mag

/-- DIV. -/
def fDiv (a b : Nat) : Nat :=
  match f32 a, f32 b with
  | .nan, _ => nan32
  | _, .nan => nan32
  | .inf _, .inf _ => nan32
  | .inf x, .fin y _ _ => withSign (x != y) 0x7F800000
  | .fin x _ _, .inf y => withSign (x != y) 0
  | .fin x m e, .fin y n f =>
    if n = 0 then (if m = 0 then nan32 else withSign (x != y) 0x7F800000)
    else
      let num := m * 2 ^ 64
      withSign (x != y) (roundMag fmtF32 (num / n) (e - f - 64) (num % n != 0))

/-- Integer square root by bits, from the top. -/
def isqrtBits : Nat → Nat → Nat → Nat
  | 0, _, r => r
  | k + 1, n, r =>
    let t := r + 2 ^ k
    isqrtBits k n (if t * t ≤ n then t else r)

/-- SQRT. -/
def fSqrt (a : Nat) : Nat :=
  match f32 a with
  | .nan => nan32
  | .inf n => if n then nan32 else 0x7F800000
  | .fin n m e =>
    if m = 0 then withSign n 0
    else if n then nan32
    else
      let k : Nat := if e % 2 = 0 then 80 else 81
      let x := m * 2 ^ k
      let r := isqrtBits 60 x 0
      roundMag fmtF32 r ((e - k) / 2) (r * r != x)

/-- RSQRT: two roundings. -/
def fRsqrt (a : Nat) : Nat := fDiv 0x3F800000 (fSqrt a)

/-- Whether value `a` is below value `b`, both not NaN, the two zeros equal (R249). -/
def ltFV : FV → FV → Bool
  | .nan, _ => false
  | _, .nan => false
  | .inf a, .inf b => a && !b
  | .inf a, .fin _ _ _ => a
  | .fin _ _ _, .inf b => !b
  | .fin n1 m1 e1, .fin n2 m2 e2 =>
    let e := min e1 e2
    decide (smant n1 m1 * 2 ^ (e1 - e).toNat < smant n2 m2 * 2 ^ (e2 - e).toNat)

/-- a < b. -/
def fLt (a b : Nat) : Bool := ltFV (f32 a) (f32 b)
/-- a = b, false for a NaN. -/
def fEq (a b : Nat) : Bool := !isNan32 a && !isNan32 b && !fLt a b && !fLt b a
/-- a ≤ b. -/
def fLe (a b : Nat) : Bool := fLt a b || fEq a b

/-- MAX, −0.0 below +0.0 (R260). -/
def fMax (a b : Nat) : Nat :=
  if isNan32 a || isNan32 b then nan32
  else if fLt a b then b else if fLt b a then a else if a = 0x80000000 then b else a

/-- MIN. -/
def fMin (a b : Nat) : Nat :=
  if isNan32 a || isNan32 b then nan32
  else if fLt a b then a else if fLt b a then b else if a = 0x80000000 then a else b

/-- An integer as FP32 (R249). -/
def intToF32 (x : Int) : Nat := toF32 (.fin (decide (x < 0)) x.natAbs 0)

/-- An integer times 2^(−k) as FP32. -/
def scaledToF32 (x : Int) (k : Nat) : Nat := toF32 (.fin (decide (x < 0)) x.natAbs (-(k : Int)))

/-- Saturation of an integer to a signed width, and whether it saturated. -/
def satInt (w : Nat) (x : Int) : Int × Bool :=
  let hi : Int := 2 ^ (w - 1) - 1
  let lo : Int := -(2 ^ (w - 1))
  if hi < x then (hi, true) else if x < lo then (lo, true) else (x, false)

/-- FP32 rounded to an integer with ties to even and saturated (R252), NaN to 0; and whether it saturated. -/
def f32ToInt (w : Nat) (c : Nat) : Int × Bool :=
  match f32 c with
  | .nan => (0, false)
  | .inf n => (if n then -((2 ^ (w - 1) : Nat) : Int) else ((2 ^ (w - 1) : Nat) : Int) - 1, true)
  | .fin n m e =>
    let mag : Nat := if 0 ≤ e then m * 2 ^ (min e.toNat 200) else roundShift m (-e).toNat false
    satInt w (smant n mag)

/-- trunc of an FP32 number that is not negative. -/
def f32Trunc (c : Nat) : Nat :=
  match f32 c with
  | .fin false m e => if 0 ≤ e then m * 2 ^ (min e.toNat 200) else m >>> (-e).toNat
  | .inf false => 2 ^ 200
  | _ => 0

/-- The FP32 word of a BF16 word. -/
def bf16ToF32 (c : Nat) : Nat := if fmtBF16.decode c = .nan then nan32 else (c % 65536) * 65536

/-- One level of the pairwise tree. -/
def pairLevel : List Nat → List Nat
  | a :: b :: t => fAdd a b :: pairLevel t
  | l => l

/-- The sum of a block of 16 products (R256). -/
def blockSum (p : List Nat) : Nat := (pairLevel (pairLevel (pairLevel (pairLevel p)))).getD 0 0

/-- A reduction (R256). -/
def reduceF (bias : Nat) (ps : List Nat) : Nat :=
  (chunks 16 ps).foldl (fun acc blk => fAdd acc (blockSum (blk ++ List.replicate (16 - blk.length) 0))) bias

/-- A row maximum (R261). -/
def rowMax : List Nat → Nat
  | [] => nan32
  | x :: xs => xs.foldl fMax (if isNan32 x then nan32 else x)

end Sys2Proof
end

