-- ==== Sys2Proof/Machine/Json.lean ====
section
/-!
DEFINITION. The JSON walk of Table 3-9: RFC 8259 syntax, depth at most 32, the first of duplicate member names. It
lists every value with its path and place; after a syntax error it keeps what it found before.
-/
namespace Sys2Proof

/-- A step of a path: a member name as raw bytes, or an array index. -/
inductive JStep where
  | key (k : Bytes)
  | idx (n : Nat)
  deriving DecidableEq, Repr

/-- A value found: its path, the offset and length of its token bytes (of the bytes between the quotes for a string). -/
structure JVal where
  path : List JStep
  off : Nat
  len : Nat
  deriving DecidableEq, Repr

/-- An open container. Objects keep the member names seen; `mute` marks a value under a repeated name. -/
structure JFrame where
  isObj : Bool
  start : Nat
  path : List JStep
  mute : Bool
  names : List Bytes
  count : Nat
  deriving DecidableEq, Repr

/-- What the walk expects next. -/
inductive JExpect where
  | value
  /-- A value or the end of an empty array. -/
  | firstElem
  /-- A member name or the end of an empty object. -/
  | firstName
  | name
  | colon
  /-- A comma or the end of the container. -/
  | comma
  | done
  deriving DecidableEq, Repr

/-- The walk's state. -/
structure JWalk where
  stack : List JFrame
  expect : JExpect
  /-- Path and muting of the value to come. -/
  path : List JStep
  mute : Bool
  found : List JVal
  ok : Bool
  deriving DecidableEq, Repr

/-- ASCII digit. -/
def isDigit (b : Nat) : Bool := decide (48 ≤ b ∧ b ≤ 57)

/-- ASCII hex digit. -/
def hexVal (b : Nat) : Option Nat :=
  if 48 ≤ b ∧ b ≤ 57 then some (b - 48)
  else if 65 ≤ b ∧ b ≤ 70 then some (b - 55)
  else if 97 ≤ b ∧ b ≤ 102 then some (b - 87)
  else none

/-- Length of a string's content from just after its opening quote; none where it does not end well. -/
def jsonStr : Bytes → Nat → Option Nat
  | [], _ => none
  | b :: t, n =>
    if b.toNat = 34 then some n
    else if b.toNat < 32 then none
    else if b.toNat = 92 then
      match t with
      | [] => none
      | e :: t2 =>
        if e.toNat = 117 then
          match t2 with
          | h0 :: h1 :: h2 :: h3 :: t3 =>
            if (hexVal h0.toNat).isSome && (hexVal h1.toNat).isSome && (hexVal h2.toNat).isSome
              && (hexVal h3.toNat).isSome then jsonStr t3 (n + 6) else none
          | _ => none
        else if [34, 92, 47, 98, 102, 110, 114, 116].contains e.toNat then jsonStr t2 (n + 2)
        else none
    else jsonStr t (n + 1)

/-- How many leading bytes are digits. -/
def digitRun : Bytes → Nat
  | [] => 0
  | b :: t => if isDigit b.toNat then digitRun t + 1 else 0

/-- Length of the number token at the start of `bs` (RFC 8259), none where there is none. -/
def jsonNum (bs : Bytes) : Option Nat :=
  let neg := if byteAt bs 0 = 45 then 1 else 0
  let ints := if byteAt bs neg = 48 then 1 else digitRun (bs.drop neg)
  if ints = 0 ∨ bs.length ≤ neg then none
  else
    let p := neg + ints
    let frac := if byteAt bs p = 46 then digitRun (bs.drop (p + 1)) else 0
    if byteAt bs p = 46 ∧ frac = 0 then none
    else
      let p := if byteAt bs p = 46 then p + 1 + frac else p
      if byteAt bs p = 101 ∨ byteAt bs p = 69 then
        let sign := if byteAt bs (p + 1) = 43 ∨ byteAt bs (p + 1) = 45 then 1 else 0
        let ex := digitRun (bs.drop (p + 1 + sign))
        if ex = 0 then none else some (p + 1 + sign + ex)
      else some p

/-- Length of `true`, `false` or `null` at the start of `bs`. -/
def jsonWord (bs : Bytes) : Option Nat :=
  if bs.take 4 = asciiBytes "true" ∨ bs.take 4 = asciiBytes "null" then some 4
  else if bs.take 5 = asciiBytes "false" then some 5
  else none

/-- The walk after a whole value. -/
def jsonAfter (w : JWalk) (off len : Nat) : JWalk :=
  let found := if w.mute then w.found else ⟨w.path, off, len⟩ :: w.found
  { w with found := found, expect := if w.stack.isEmpty then .done else .comma }

/-- The walk refuses. -/
def jsonFail (w : JWalk) : JWalk := { w with ok := false }

/-- A value begins at `off`: how many bytes it takes, and the walk after them. -/
def jsonValue (bs : Bytes) (off : Nat) (w : JWalk) : Nat × JWalk :=
  let c := byteAt bs 0
  if c = 34 then
    match jsonStr (bs.drop 1) 0 with
    | some n => (n + 2, jsonAfter w (off + 1) n)
    | none => (1, jsonFail w)
  else if c = 123 ∨ c = 91 then
    if 32 ≤ w.stack.length then (1, jsonFail w)
    else
      let isObj := c == 123
      let f : JFrame := ⟨isObj, off, w.path, w.mute, [], 0⟩
      let w := { w with stack := f :: w.stack }
      if isObj then (1, { w with expect := .firstName })
      else (1, { w with expect := .firstElem, path := w.path ++ [.idx 0] })
  else match jsonWord bs with
    | some n => (n, jsonAfter w off n)
    | none => match jsonNum bs with
      | some n => (n, jsonAfter w off n)
      | none => (1, jsonFail w)

/-- The innermost container ends with the byte at `off`. -/
def jsonClose (off : Nat) (w : JWalk) : JWalk :=
  match w.stack with
  | [] => jsonFail w
  | f :: st => jsonAfter { w with stack := st, path := f.path, mute := f.mute } f.start (off + 1 - f.start)

/-- A member name begins at `off`. -/
def jsonName (bs : Bytes) (w : JWalk) : Nat × JWalk :=
  match jsonStr (bs.drop 1) 0, w.stack with
  | some n, f :: st =>
    let k := slice bs 1 n
    let dup := f.names.contains k
    (n + 2, { w with
      stack := { f with names := k :: f.names } :: st
      path := f.path ++ [.key k], mute := f.mute || dup, expect := .colon })
  | _, _ => (1, jsonFail w)

/-- One token of the walk at `off`: bytes taken, and the walk after it. -/
def jsonToken (bs : Bytes) (off : Nat) (w : JWalk) : Nat × JWalk :=
  let c := byteAt bs 0
  if c = 32 ∨ c = 9 ∨ c = 10 ∨ c = 13 then (1, w)
  else match w.expect with
    | .value => jsonValue bs off w
    | .firstElem => if c = 93 then (1, jsonClose off w) else jsonValue bs off w
    | .firstName => if c = 125 then (1, jsonClose off w) else if c = 34 then jsonName bs w else (1, jsonFail w)
    | .name => if c = 34 then jsonName bs w else (1, jsonFail w)
    | .colon => if c = 58 then (1, { w with expect := .value }) else (1, jsonFail w)
    | .comma =>
      match w.stack with
      | [] => (1, jsonFail w)
      | f :: st =>
        if c = 44 then
          if f.isObj then (1, { w with expect := .name })
          else
            let f := { f with count := f.count + 1 }
            (1, { w with stack := f :: st, path := f.path ++ [.idx f.count], mute := f.mute, expect := .value })
        else if c = (if f.isObj then 125 else 93) then (1, jsonClose off w)
        else (1, jsonFail w)
    | .done => (1, jsonFail w)

/-- The walk, one token per unit of fuel. -/
def jsonLoop : Nat → Bytes → Nat → JWalk → JWalk
  | 0, _, _, w => w
  | fuel + 1, bs, off, w =>
    if bs.isEmpty || !w.ok then w
    else
      let (n, w) := jsonToken bs off w
      jsonLoop fuel (bs.drop n) (off + n) w

/-- Every value of a message with its path, and whether the whole message is well formed. -/
def jsonWalk (bs : Bytes) : List JVal × Bool :=
  let w := jsonLoop (bs.length + 1) bs 0 ⟨[], .value, [], false, [], true⟩
  (w.found, w.ok && w.expect == .done)

/-- UTF-8 of a code point. -/
def utf8 (c : Nat) : Bytes :=
  if c < 0x80 then [byte c]
  else if c < 0x800 then [byte (0xC0 + c / 64), byte (0x80 + c % 64)]
  else if c < 0x10000 then [byte (0xE0 + c / 4096), byte (0x80 + c / 64 % 64), byte (0x80 + c % 64)]
  else [byte (0xF0 + c / 262144), byte (0x80 + c / 4096 % 64), byte (0x80 + c / 64 % 64), byte (0x80 + c % 64)]

/-- The code unit of four hex characters. -/
def hex4 (bs : Bytes) : Option Nat :=
  match bs with
  | [a, b, c, d] => match hexVal a.toNat, hexVal b.toNat, hexVal c.toNat, hexVal d.toNat with
    | some a, some b, some c, some d => some (((a * 16 + b) * 16 + c) * 16 + d)
    | _, _, _, _ => none
  | _ => none

/-- The byte of a one-letter escape. -/
def shortEscape (e : Nat) : Option Byte :=
  match e with
  | 34 => some 34
  | 92 => some 92
  | 47 => some 47
  | 98 => some 8
  | 102 => some 12
  | 110 => some 10
  | 114 => some 13
  | 116 => some 9
  | _ => none

/-- One unit of an escaped string: bytes consumed and bytes produced, none on a malformed escape (CONV 6). -/
def unescapeOne (bs : Bytes) : Option (Nat × Bytes) :=
  match bs with
  | [] => none
  | b :: t =>
    if b.toNat ≠ 92 then some (1, [b])
    else match t with
      | [] => none
      | e :: t2 =>
        if e.toNat = 117 then
          match hex4 (t2.take 4) with
          | none => none
          | some u =>
            if 0xD800 ≤ u ∧ u < 0xDC00 then
              let rest := t2.drop 4
              match rest with
              | 92 :: 117 :: r2 => match hex4 (r2.take 4) with
                | some v =>
                  if 0xDC00 ≤ v ∧ v < 0xE000 then
                    some (12, utf8 (0x10000 + (u - 0xD800) * 1024 + (v - 0xDC00)))
                  else some (6, bs.take 6)
                | none => some (6, bs.take 6)
              | _ => some (6, bs.take 6)
            else if 0xDC00 ≤ u ∧ u < 0xE000 then some (6, bs.take 6)
            else some (6, utf8 u)
        else match shortEscape e.toNat with
          | some c => some (2, [c])
          | none => none

/-- JSON string unescape (Table 3-9 CONV 6). -/
def jsonUnescape : Nat → Bytes → Option Bytes
  | 0, bs => if bs.isEmpty then some [] else none
  | fuel + 1, bs =>
    if bs.isEmpty then some []
    else match unescapeOne bs with
      | none => none
      | some (n, out) => (jsonUnescape fuel (bs.drop n)).map (out ++ ·)

end Sys2Proof
end

