-- ==== Sys2Proof/Machine/Layers.lean ====
section
/-!
DEFINITION. The layer walk of an Ethernet frame (R96, Table 3-3) and the class rules (R94, R95, Table 3-5). A frame's
bytes run from the destination address to the byte before the FCS.
-/
namespace Sys2Proof

/-- What the layer walk recognises. -/
structure Layers where
  /-- Tags recognised, 0 to 2. -/
  tags : Nat
  vid : Nat
  pcp : Nat
  /-- EtherType after the tags. -/
  etype : Nat
  /-- Offset of the Ethernet payload after the tags. -/
  l3 : Nat
  /-- 0 no IP header, 4, 6. -/
  ip : Nat
  /-- Length of the IP header. -/
  ipLen : Nat
  /-- The protocol or next-header field. -/
  proto : Option Nat
  /-- End of the IP packet in the frame, as its header states. -/
  ipEnd : Nat
  /-- Offset of a recognised TCP or UDP header. -/
  l4 : Option Nat
  /-- Offset of the L4 payload. -/
  payload : Option Nat
  dport : Option Nat
  deriving DecidableEq, Repr

/-- Tags of a frame: count, VID, PCP, offset of the EtherType (Table 3-3). -/
def walkTags (bs : Bytes) : Nat × Nat × Nat × Nat :=
  let t0 := be bs 12 2
  if t0 = 0x88A8 ∨ t0 = 0x8100 then
    let tci0 := be bs 14 2
    if be bs 16 2 = 0x8100 then
      let tci1 := be bs 18 2
      (2, bits tci1 0 12, bits tci1 13 3, 20)
    else (1, bits tci0 0 12, bits tci0 13 3, 16)
  else (0, 0, 0, 12)

/-- The walk stops with no IP header. -/
def noIp (tags vid pcp etype l3 : Nat) : Layers :=
  ⟨tags, vid, pcp, etype, l3, 0, 0, none, 0, none, none, none⟩

/-- The TCP or UDP header at `l4`, inside the IP packet that ends at `stop` (R96). -/
def walkL4 (bs : Bytes) (w : Layers) (l4 stop : Nat) : Layers :=
  let room := min stop bs.length
  match w.proto with
  | some 6 =>
    let doff := byteAt bs (l4 + 12) / 16
    if l4 + 20 ≤ room ∧ 5 ≤ doff ∧ l4 + 4 * doff ≤ room then
      { w with l4 := some l4, payload := some (l4 + 4 * doff), dport := some (be bs (l4 + 2) 2) }
    else w
  | some 17 =>
    if l4 + 8 ≤ room then
      { w with l4 := some l4, payload := some (l4 + 8), dport := some (be bs (l4 + 2) 2) }
    else w
  | _ => w

/-- The layer walk (R96). -/
def layerWalk (bs : Bytes) : Layers :=
  let (tags, vid, pcp, off) := walkTags bs
  let etype := be bs off 2
  let l3 := off + 2
  let bare := noIp tags vid pcp etype l3
  if etype = 0x0800 then
    let ihl := byteAt bs l3 % 16
    if byteAt bs l3 / 16 = 4 ∧ 5 ≤ ihl ∧ l3 + 4 * ihl ≤ bs.length then
      let stop := l3 + be bs (l3 + 2) 2
      let w : Layers :=
        { bare with ip := 4, ipLen := 4 * ihl, proto := some (byteAt bs (l3 + 9)), ipEnd := stop }
      let frag := be bs (l3 + 6) 2
      if bit frag 13 ∨ bits frag 0 13 ≠ 0 then w
      else walkL4 bs w (l3 + 4 * ihl) stop
    else bare
  else if etype = 0x86DD then
    if byteAt bs l3 / 16 = 6 ∧ l3 + 40 ≤ bs.length then
      let stop := l3 + 40 + be bs (l3 + 4) 2
      let w : Layers :=
        { bare with ip := 6, ipLen := 40, proto := some (byteAt bs (l3 + 6)), ipEnd := stop }
      walkL4 bs w (l3 + 40) stop
    else bare
  else bare

/-- Where MSG_OFF counts from: the L4 payload, or the Ethernet payload of a non-IP frame (Table 3-5). -/
def msgBase (w : Layers) : Option Nat :=
  if w.ip = 0 then some w.l3 else w.payload

/-- Whether a rule's MSG_VAL under MSG_MASK matches (Table 3-5, R95). -/
def ruleMsg (r : Nat) (bs : Bytes) (w : Layers) : Bool :=
  let mask := bits r 160 32
  if mask = 0 then true
  else match msgBase w with
    | none => false
    | some b => match slice? bs (b + bits r 96 16) 4 with
      | none => false
      | some x => (leNat x &&& mask) == (bits r 128 32 &&& mask)

/-- Whether the destination-port range matches (R95). -/
def rulePorts (r : Nat) (w : Layers) : Bool :=
  let lo := bits r 64 16
  let hi := bits r 80 16
  if lo = 0 ∧ hi = 65535 then true
  else match w.dport with
    | none => false
    | some p => decide (lo ≤ p ∧ p ≤ hi)

/-- Whether class rule `r` (256 bits) matches a frame that arrived on port `port` (0 N, 1 S) (R94, R95). -/
def ruleMatches (r port : Nat) (bs : Bytes) (w : Layers) : Bool :=
  bit r 0 &&
  (bits r 1 2 == 0 || bits r 1 2 == port + 1) &&
  (bit r 27 || decide (bits r 3 12 ≤ w.vid ∧ w.vid ≤ bits r 15 12)) &&
  bit (bits r 32 8) w.pcp &&
  (bits r 40 16 == 0 || bits r 40 16 == w.etype) &&
  (bits r 56 8 == 0 || w.proto == some (bits r 56 8)) &&
  rulePorts r w && ruleMsg r bs w

/-- Class, descriptor set and Strand selection mode that the rules give, first match first (R94). -/
def classify (rules : List Nat) (dflt port : Nat) (bs : Bytes) (w : Layers) : Nat × Nat × Bool :=
  match rules.find? (fun r => ruleMatches r port bs w) with
  | some r => (bits r 192 3, bits r 195 6, bit r 201)
  | none => (bits dflt 0 3, bits dflt 3 6, bit dflt 9)

/-- One's complement sum of 16-bit words, big-endian, an odd last byte padded with 0. -/
def onesSum : Bytes → Nat
  | [] => 0
  | [a] => a.toNat * 256
  | a :: b :: t => a.toNat * 256 + b.toNat + onesSum t

/-- The Internet checksum of a sum. -/
def inetChecksum (sum : Nat) : Nat :=
  let s1 := sum % 65536 + sum / 65536
  let s2 := s1 % 65536 + s1 / 65536
  let s3 := s2 % 65536 + s2 / 65536
  65535 - s3

/-- The pseudo-header sum of R110 step 1. -/
def pseudoSum (bs : Bytes) (w : Layers) (segLen : Nat) : Nat :=
  let addrs := if w.ip = 4 then slice bs (w.l3 + 12) 8 else slice bs (w.l3 + 8) 32
  onesSum addrs + w.proto.getD 0 + segLen % 65536 + segLen / 65536

/-- Whether bytes `old` and `new` differ anywhere in [off, off + len). -/
def changedIn (old new : Bytes) (off len : Nat) : Bool := slice old off len != slice new off len

/-- R110 step 1: the TCP or UDP checksum of `new`, recomputed where a byte it covers differs from `old`. -/
def fixL4 (old new : Bytes) (w : Layers) : Bytes :=
  match w.l4 with
  | none => new
  | some l4 =>
    let segLen := w.ipEnd - l4
    let off := if w.proto = some 6 then l4 + 16 else l4 + 6
    let addrOff := if w.ip = 4 then w.l3 + 12 else w.l3 + 8
    let addrLen := if w.ip = 4 then 8 else 32
    if new.length < w.ipEnd then new
    else if !(changedIn old new l4 segLen || changedIn old new addrOff addrLen) then new
    else if w.proto = some 17 ∧ w.ip = 4 ∧ be new off 2 = 0 then new
    else
      let z := overwrite new off [0, 0]
      let c := inetChecksum (onesSum (slice z l4 segLen) + pseudoSum z w segLen)
      let c := if w.proto = some 17 ∧ c = 0 then 65535 else c
      overwrite z off (toBe 2 c)

/-- R110 step 2: the IPv4 header checksum, where a byte of the header changed. -/
def fixIp (old new : Bytes) (w : Layers) : Bytes :=
  if w.ip = 4 && changedIn old new w.l3 w.ipLen then
    let z := overwrite new (w.l3 + 10) [0, 0]
    overwrite z (w.l3 + 10) (toBe 2 (inetChecksum (onesSum (slice z w.l3 w.ipLen))))
  else new

/-- The checksums of R110 steps 1 and 2, in that order. -/
def fixChecksums (old new : Bytes) : Bytes :=
  let w := layerWalk old
  fixIp old (fixL4 old new w) w

end Sys2Proof
end

