-- ==== Sys2Proof/Types/Field.lean ====
section
/-!
DEFINITION. A field that the parse located and converted (Tables 3-7 and 3-10).
-/
namespace Sys2Proof

/-- A field present: slot, role, the place of its located bytes in the frame, its value as a number or as bytes. -/
structure PField where
  slot : Nat
  role : Nat
  /-- Offset in the frame. -/
  off : Nat
  len : Nat
  num : Option Nat
  val : Bytes
  deriving DecidableEq, Repr

/-- The tables a descriptor set reads: layout entries of its ISO table, JSON path entries (8 words each), key pool. -/
structure DescTables where
  layout : List Nat
  paths : Nat → List Nat
  pool : Nat → Nat → Bytes

end Sys2Proof
end

