-- ==== Sys2Proof/Machine/Descr.lean ====
section
/-!
DEFINITION. Field-extraction descriptors: the message, the ISO 8583, TLV and JSON walks, conversions and the whole
parse (R99 to R104, Tables 3-6 to 3-10).
-/
namespace Sys2Proof

/-- Decimal value of ASCII digits, none on a non-digit. -/
def decDigits (bs : Bytes) : Option Nat :=
  bs.foldl (fun acc b => match acc with
    | some n => if isDigit b.toNat then some (n * 10 + (b.toNat - 48)) else none
    | none => none) (some 0)

/-- Decimal value of nibbles, none on a nibble above 9. -/
def bcdDigits (ns : List Nat) : Option Nat :=
  ns.foldl (fun acc n => match acc with
    | some a => if n ≤ 9 then some (a * 10 + n) else none
    | none => none) (some 0)

/-- High and low nibbles in order. -/
def nibbles (bs : Bytes) : List Nat := bs.flatMap (fun b => [b.toNat / 16, b.toNat % 16])

/-- Where a message stands in a frame: start and length (Table 3-6, R100); none is a PARSE failure. -/
def message (fmt : Nat) (bs : Bytes) (w : Layers) : Option (Nat × Nat) :=
  let anchor := match bits fmt 6 2 with
    | 0 => some w.l3
    | 1 => if w.ip = 0 then none else some w.l3
    | 2 => w.payload
    | _ => none
  match anchor with
  | none => none
  | some a =>
    let p := a + bits fmt 8 8
    let size := match bits fmt 16 2 with
      | 0 => 0
      | 1 => 2
      | _ => 4
    match slice? bs p size with
    | none => none
    | some pre =>
      let start := p + size
      if size = 0 then some (start, bs.length - start)
      else
        let v := if bits fmt 16 2 = 3 then decDigits pre
          else if bit fmt 18 then some (leNat pre) else some (beNat pre)
        match v with
        | none => none
        | some v =>
          if bit fmt 19 ∧ v < size then none
          else
            let len := if bit fmt 19 then v - size else v
            if start + len ≤ bs.length then some (start, len) else none

/-- A located element: an identifier (data element, tag) with offset and length in the message. -/
structure Elem where
  id : Nat
  off : Nat
  len : Nat
  deriving DecidableEq, Repr

/-- A bitmap at `off` of the message: its 64 bits as a number, bit 1 most significant, and its size (R101, R102). -/
def isoBitmap (hex : Bool) (m : Bytes) (off : Nat) : Option (Nat × Nat) :=
  if hex then
    match slice? m off 16 with
    | none => none
    | some h =>
      (h.foldl (fun acc b => match acc, hexVal b.toNat with
        | some a, some v => some (a * 16 + v)
        | _, _ => none) (some 0)).map (fun v => (v, 16))
  else (slice? m off 8).map (fun b => (beNat b, 8))

/-- Data elements announced by a bitmap whose first bit is element `first`. -/
def bitmapElems (first v : Nat) : List Nat :=
  (upto 64).filterMap (fun i => if v.testBit (63 - i) then some (first + i) else none)

/-- Length in units and size of a length indicator (Table 3-8, R102). -/
def isoLen (entry : Nat) (m : Bytes) (off : Nat) : Option (Nat × Nat) :=
  let kind := bits entry 30 2
  if kind = 0 then some (bits entry 0 16, 0)
  else
    let size := match bits entry 28 2 with
      | 0 => kind + 1
      | _ => if kind = 1 then 1 else 2
    match slice? m off size with
    | none => none
    | some ind =>
      let v := match bits entry 28 2 with
        | 0 => decDigits ind
        | 1 => bcdDigits (nibbles ind)
        | 2 => some (beNat ind)
        | _ => none
      match v with
      | some v => if v ≤ bits entry 0 16 then some (v, size) else none
      | none => none

/-- The walk over the announced data elements, ascending; a bitmap element adds the elements it announces. -/
def isoElems (layout : List Nat) (hex : Bool) (m : Bytes) :
    Nat → List Nat → Nat → List Elem → List Elem × Bool
  | 0, _, _, acc => (acc, true)
  | _, [], _, acc => (acc, true)
  | fuel + 1, de :: rest, off, acc =>
    let entry := layout.getD (de - 1) 0
    if !bit entry 25 then (acc, false)
    else if bit entry 24 then
      match isoBitmap hex m off with
      | none => (acc, false)
      | some (v, size) =>
        isoElems layout hex m fuel (rest ++ bitmapElems (if de = 1 then 65 else 129) v) (off + size)
          (⟨de, off, size⟩ :: acc)
    else
      match isoLen entry m off with
      | none => (acc, false)
      | some (units, size) =>
        let len := if bits entry 26 2 = 1 then ceilDiv units 2 else units
        if off + size + len ≤ m.length then
          isoElems layout hex m fuel rest (off + size + len) (⟨de, off + size, len⟩ :: acc)
        else (acc, false)

/-- The ISO 8583 walk: elements found (the MTI as element 0) and whether it ended well (R101, R102). -/
def isoWalk (fmt : Nat) (layout : List Nat) (m : Bytes) : List Elem × Bool :=
  let hex := bit fmt 23
  let mti := if bit fmt 22 then 2 else 4
  if m.length < mti then ([], false)
  else match isoBitmap hex m mti with
    | none => ([⟨0, 0, mti⟩], false)
    | some (v, size) =>
      isoElems layout hex m 193 (bitmapElems 1 v) (mti + size) [⟨0, 0, mti⟩]

/-- A TLV length at `off`: value and size (Table 3-6 TLEN_SIZE, Table 3-9). -/
def tlvLen (fmt : Nat) (m : Bytes) (off : Nat) : Option (Nat × Nat) :=
  match bits fmt 22 2 with
  | 3 =>
    match slice? m off 1 with
    | none => none
    | some b =>
      let v := beNat b
      if v < 128 then some (v, 1)
      else if v = 128 then none
      else (slice? m (off + 1) (v - 128)).map (fun x => (beNat x, v - 127))
  | k =>
    let size := 2 ^ k
    (slice? m off size).map (fun x => (if bit fmt 24 then leNat x else beNat x, size))

/-- The TLV walk: top-level elements found and whether it ended well (Table 3-9). -/
def tlvWalk (fmt : Nat) (m : Bytes) : Nat → Nat → List Elem → List Elem × Bool
  | 0, off, acc => (acc, decide (off = m.length))
  | fuel + 1, off, acc =>
    if m.length ≤ off then (acc, decide (off = m.length))
    else
      let ts := 2 ^ bits fmt 20 2
      match slice? m off ts with
      | none => (acc, false)
      | some t =>
        match tlvLen fmt m (off + ts) with
        | none => (acc, false)
        | some (len, ls) =>
          let v := off + ts + ls
          if v + len ≤ m.length then
            tlvWalk fmt m fuel (v + len) (⟨if bit fmt 24 then leNat t else beNat t, v, len⟩ :: acc)
          else (acc, false)

/-- The steps of a JSON path entry (Table 3-9). -/
def jsonPath (pool : Nat → Nat → Bytes) : List Nat → List JStep
  | [] => []
  | e :: t =>
    if bit e 31 then .idx (bits e 0 16) :: jsonPath pool t
    else if bits e 0 8 = 0 then []
    else .key (pool (bits e 16 14) (bits e 0 8)) :: jsonPath pool t

/-- What a walk over the message found. -/
structure Located where
  elems : List Elem
  json : List JVal
  ok : Bool
  deriving DecidableEq, Repr

/-- The walk that the FORMAT descriptor's KIND calls for. -/
def walkMessage (fmt : Nat) (t : DescTables) (m : Bytes) : Located :=
  match bits fmt 4 2 with
  | 0 => let (e, ok) := isoWalk fmt t.layout m; ⟨e, [], ok⟩
  | 1 => let (e, ok) := tlvWalk fmt m (m.length + 1) 0 []; ⟨e.reverse, [], ok⟩
  | 2 => let (v, ok) := jsonWalk m; ⟨[], v, ok⟩
  | _ => ⟨[], [], true⟩

/-- The element that a field descriptor names: offset and length in the message. -/
def locate (d : Nat) (t : DescTables) (mlen : Nat) (l : Located) : Option (Nat × Nat) :=
  match bits d 0 4 with
  | 2 => some (0, mlen)
  | 3 => (l.elems.find? (fun e => e.id == bits d 32 16)).map (fun e => (e.off, e.len))
  | 4 => (l.elems.find? (fun e => e.id == bits d 96 32)).map (fun e => (e.off, e.len))
  | 5 => (l.json.find? (fun v => v.path == jsonPath t.pool (t.paths (bits d 32 16)))).map (fun v => (v.off, v.len))
  | 6 => (l.elems.find? (fun e => e.id == 0)).map (fun e => (e.off, e.len))
  | _ => none

/-- OFFSET and LEN of the descriptor applied to its element (Table 3-7). -/
def subField (d : Nat) (e : Nat × Nat) : Option (Nat × Nat) :=
  let off := bits d 48 16
  let len := bits d 64 16
  if e.2 < off then none
  else if len = 0 then some (e.1 + off, e.2 - off)
  else if off + len ≤ e.2 then some (e.1 + off, len)
  else none

/-- Pairs of hex characters. -/
def hexBytes : Bytes → Option Bytes
  | [] => some []
  | [_] => none
  | a :: b :: t => match hexVal a.toNat, hexVal b.toNat with
    | some x, some y => (hexBytes t).map (byte (x * 16 + y) :: ·)
    | _, _ => none

/-- Packed BCD with an optional final pad nibble (Table 3-10). -/
def convBcd (bs : Bytes) : Option Nat :=
  let ns := nibbles bs
  let ns := if ns.getLast? = some 15 then ns.dropLast else ns
  if bs.isEmpty ∨ 19 < ns.length then none else bcdDigits ns

/-- A conversion: the value as a number or as bytes (Table 3-10). -/
def convert (conv : Nat) (bs : Bytes) : Option (Option Nat × Bytes) :=
  match conv with
  | 0 => some (none, bs)
  | 1 => if bs.isEmpty ∨ 19 < bs.length then none else (decDigits bs).map (fun n => (some n, bs))
  | 2 => (convBcd bs).map (fun n => (some n, bs))
  | 3 => if bs.isEmpty ∨ 8 < bs.length then none else some (some (beNat bs), bs)
  | 4 => if bs.isEmpty ∨ 8 < bs.length then none else some (some (leNat bs), bs)
  | 5 => (hexBytes bs).map (fun b => (none, b))
  | 6 => (jsonUnescape (bs.length + 1) bs).map (fun b => (none, b))
  | _ => none

/-- ROLE of a field descriptor. -/
def descRole (d : Nat) : Nat := bits d 16 4

/-- Whether an absent field is marked absent rather than failing the parse (R103). -/
def descOpt (d : Nat) : Bool := bit d 20 || decide (4 ≤ descRole d ∧ descRole d ≤ 7)

/-- One field descriptor over a walked message: the field, or nothing where it is absent or fails its conversion. The
CONV of a FINAL_MARK descriptor is not applied (R104). -/
def evalField (d : Nat) (t : DescTables) (start : Nat) (m : Bytes) (l : Located) : Option PField :=
  match locate d t m.length l with
  | none => none
  | some e => match subField d e with
    | none => none
    | some (off, len) =>
      let conv := if descRole d = 6 then 0 else bits d 4 4
      (convert conv (slice m off len)).map (fun v => ⟨bits d 8 6, descRole d, start + off, len, v.1, v.2⟩)

/-- Fields of a list of descriptors; none where a field that is not optional is absent (R103). -/
def evalFields (t : DescTables) (start : Nat) (m : Bytes) (l : Located) : List Nat → Option (List PField)
  | [] => some []
  | d :: ds => match evalField d t start m l, evalFields t start m l ds with
    | some f, some fs => some (f :: fs)
    | none, some fs => if descOpt d then some fs else none
    | _, none => none

/-- The whole parse of a frame under a descriptor set (R92, R100 to R103); none is a PARSE failure. -/
def parseFrame (set : List Nat) (t : DescTables) (bs : Bytes) : Option (List PField) :=
  match set with
  | [] => none
  | fmt :: ds => match message fmt bs (layerWalk bs) with
    | none => none
    | some (start, len) =>
      let m := slice bs start len
      let l := walkMessage fmt t m
      if l.ok then evalFields t start m l ds else none

/-- The arrival scan of R104: STREAM_ID bytes and the final mark, from the first 512 bytes of the message. -/
def arrivalScan (set : List Nat) (t : DescTables) (bs : Bytes) : Option Bytes × Bool :=
  match set with
  | [] => (none, false)
  | fmt :: ds => match message fmt bs (layerWalk bs) with
    | none => (none, false)
    | some (start, len) =>
      let m := slice bs start len
      let l := walkMessage fmt t m
      let field (role : Nat) : Option (Nat × PField) :=
        match ds.find? (fun d => descRole d == role) with
        | none => none
        | some d => match evalField d t start m l with
          | some f => if f.off + f.len ≤ start + 512 then some (d, f) else none
          | none => none
      let sid := (field 5).map (fun x => padTo 16 x.2.val)
      let fin := match field 6 with
        | none => false
        | some (d, f) => f.val == (toLe 4 (bits d 96 32)).take (bits d 80 4)
      (sid, fin)

end Sys2Proof
end

