-- ==== Sys2Proof/Config.lean ====
section
/-!
DEFINITION. What the spec leaves open or only names: constants with no body, so that no proof can rest on a value.
Each is a row of the assumption log.
-/
namespace Sys2Proof

/-- A value the spec leaves undefined, fresh for each use: applied to the counter `State.freeCtr` (log entry 3). -/
opaque Config.freeValue : Nat → BitVec 64

/-- ECDSA P-384 verification of a digest under a public key (R447; the standard is named, not given; log entry 7). -/
opaque Config.ecdsaVerify : (key message signature : Bytes) → Bool

/-- ML-DSA-87 verification (R447; log entry 7). -/
opaque Config.mlDsaVerify : (key message signature : Bytes) → Bool

/-- The signature half r of a seal over a message with a key slot (R390; the key never leaves the device; log entry 7). -/
opaque Config.sealR : (slot : Nat) → (message : Bytes) → BitVec 384

/-- The signature half s of a seal (R390; log entry 7). -/
opaque Config.sealS : (slot : Nat) → (message : Bytes) → BitVec 384

/-- What MACsec protection depends on beside the frame: SAK, salt, SSCI, SCI, packet number, extended numbering, and
whether the SecTAG carries the SCI. -/
structure MacsecArgs where
  key : Bytes
  salt : Bytes
  ssci : Nat
  sci : Nat
  pn : Nat
  xpn : Bool
  withSci : Bool
  deriving DecidableEq, Repr

/-- MACsec protection of a frame without FCS (IEEE 802.1AE, named only; log entry 7). -/
opaque Config.macsecSeal : MacsecArgs → Bytes → Bytes

/-- MACsec validation and removal: the bare frame without FCS, or nothing where validation fails (log entry 7). -/
opaque Config.macsecOpen : MacsecArgs → Bytes → Option Bytes

/-- To which competitor a wheel slot belongs under a list of shares, before R63's count is imposed on it (log entry 8). -/
opaque Config.wheelOwner : (shares : List Nat) → (slot : Nat) → Option Nat

/-- Which free VID a new vertex takes, given the VIDs in use (Table 6-10 "New VID"; log entry 12). -/
opaque Config.vidChoice : (used : List Nat) → Nat

/-- A request seed taken from a field whose conversion yields bytes rather than a number (R50, Table 1-9; log entry
13). -/
opaque Config.seedOfBytes : Bytes → BitVec 64

/-- What a tensor directory entry says: its fields, of 37 bytes together, do not fit the 32 bytes that Table 7-10's
text gives it, so which byte holds what is open (log entry 15). -/
structure TensorEntry where
  id : Nat
  fmt : Nat
  dims : List Nat
  off : Nat
  len : Nat
  deriving DecidableEq, Repr, Inhabited

/-- The reading of a 32-byte tensor directory entry (log entry 15). -/
opaque Config.tensorEntry : Bytes → TensorEntry

/-- An element that a program reads where neither a buffer nor a tensor holds one (log entry 14). -/
opaque Config.missingElem : (id index : Nat) → BitVec 32

/-- What an ATTN op of a screening program writes, given the bytes it reads: the spec names the op's arithmetic, not
where its keys and values stand (Table 7-3, R263; log entry 14). -/
opaque Config.attnOut : (op : Bytes) → (a b : Bytes) → Bytes

/-- The bytes of a message that a management or attestation standard lays out, from its name, the content that the spec gives it,
and the request (log entry 9). -/
opaque Config.answer : (what : String) → (content request : Bytes) → Bytes

/-- The number that a policy condition reads from a field whose conversion yields bytes rather than a number (Table
10-4 source FIELD; log entry 13). -/
opaque Config.fieldNumber : Bytes → BitVec 64

/-- On what the guard's forward program depends (R299): the model's digest and the tokens at positions 0 to p. -/
structure TokenArgs where
  digest : Bytes
  tokens : List Nat
  deriving DecidableEq, Repr

/-- The FP32 logit of a token after a token sequence. R299 says on what it depends; how the forward program's buffers
receive rows and keys is open (log entry 28). -/
opaque Config.logit : TokenArgs → (token : Nat) → BitVec 32

/-- An OUTPUT value of a draft program on the row after a token sequence (R332; log entry 28). -/
opaque Config.draftOut : TokenArgs → (index : Nat) → BitVec 32

/-- Byte `i` of the KV block that ends a token sequence (R292, R299; log entry 28). -/
opaque Config.kvByte : TokenArgs → (i : Nat) → BitVec 8

/-- The bytes in which a reply carries fields that the spec lists without their places (log entry 29). -/
opaque Config.packFields : (what : String) → (fields : List Nat) → Bytes

/-- Whether the leaf of a CERT section's chain holds the Accession seal key, which the device derives from its fused secret (R438;
log entry 7). -/
opaque Config.sealLeaf : Bytes → Bool

/-- The digest of the boot ROM, fixed in the silicon (Table 11-19; log entry 7). -/
opaque Config.romDigest : Bytes

/-- Whether a voltage sensor (24 to 39) measures VDD (R593): the spec does not say which do (log entry 48). -/
opaque Config.vddSensor : Nat → Bool

end Sys2Proof
end

