-- ==== Sys2Proof/Machine/Tab.lean ====
section
/-!
DEFINITION. The operations of the sparse table: look up, put, delete. Keys stay in strictly rising order.
-/
namespace Sys2Proof

/-- The entry of key `k`, if the table lists it. -/
def Tab.get? {α : Type} : Tab α → Nat → Option α
  | [], _ => none
  | (k', v) :: t, k => if k' = k then some v else Tab.get? t k

/-- The entry of key `k`, or `d` where the table lists none. -/
def Tab.getD {α : Type} (t : Tab α) (k : Nat) (d : α) : α := (Tab.get? t k).getD d

/-- The table with key `k` holding `v`. -/
def Tab.put {α : Type} : Tab α → Nat → α → Tab α
  | [], k, v => [(k, v)]
  | (k', v') :: t, k, v =>
    if k < k' then (k, v) :: (k', v') :: t
    else if k = k' then (k, v) :: t
    else (k', v') :: Tab.put t k v

/-- The table without key `k`. -/
def Tab.del {α : Type} : Tab α → Nat → Tab α
  | [], _ => []
  | (k', v') :: t, k => if k' = k then t else (k', v') :: Tab.del t k

/-- The table with key `k` holding `v`, or without it where `v` is the value `d` that an unlisted key reads as. -/
def Tab.putD {α : Type} [DecidableEq α] (d : α) (t : Tab α) (k : Nat) (v : α) : Tab α :=
  if v = d then Tab.del t k else Tab.put t k v

/-- The table with the entry of `k` (or `d`) replaced by `f` of it. -/
def Tab.modify {α : Type} (t : Tab α) (k : Nat) (d : α) (f : α → α) : Tab α :=
  Tab.put t k (f (Tab.getD t k d))

/-- Strictly rising keys. -/
def Tab.sorted {α : Type} (t : Tab α) : Bool :=
  match t with
  | [] => true
  | (k, _) :: t' => t'.all (fun e => decide (k < e.1)) && Tab.sorted t'

/-- The canonical form: strictly rising keys, no entry equal to the value that an unlisted key reads as. -/
def Tab.canon {α : Type} [DecidableEq α] (d : Nat → α) (t : Tab α) : Bool :=
  Tab.sorted t && t.all (fun e => decide (e.2 ≠ d e.1))

end Sys2Proof
end

