-- ==== Sys2Proof/Types/Gather.lean ====
section
/-!
DEFINITION. The graph store and the walks of Gather (chapter "Gather: the graph store and near-memory engine").
-/
namespace Sys2Proof

/-- An out-edge as an adjacency block holds it (Table 6-3). -/
structure Edge where
  nbr : Nat
  etype : Nat
  eattr : Nat
  deriving DecidableEq, Repr

/-- A vertex record (Table 6-2); its adjacency stands as the list of its entries in stored order (R213). -/
structure VRec where
  valid : Bool
  edges : List Edge
  indeg : Nat
  typ : Nat
  vver : Nat
  attr0 : Nat
  attr1 : Nat
  attr2 : Nat
  deriving DecidableEq, Repr

/-- A record never written. -/
def VRec.none : VRec := ⟨false, [], 0, 0, 0, 0, 0, 0⟩

/-- A vertex pair: two records in one line (Table 6-2). -/
structure VPair where
  r0 : VRec
  r1 : VRec
  deriving DecidableEq, Repr

/-- A directory entry with USED = 1 (Table 6-1). The key's 16 bytes are read as a little-endian number. -/
structure DirEnt where
  key : Nat
  typ : Nat
  vid : Nat
  verAdd : Nat
  verDel : Nat
  deriving DecidableEq, Repr

/-- A graph. -/
structure Graph where
  salt : Nat
  /-- C_g. -/
  ver : Nat
  /-- Entries with USED = 1, by 2 × bucket + place. -/
  dir : Tab DirEnt
  /-- Vertex pairs, by VID. -/
  verts : Tab VPair
  /-- The load being applied: its key, NEW_VER, lines still to be paid for (R239), whether it is a full load. -/
  applying : Option (Nat × Nat × Nat × Bool)
  damaged : Bool
  /-- Tick since which C_g < T_g has held. -/
  behind : Option Nat
  /-- Found stale at the end of its grace (R240). -/
  expired : Bool
  /-- Loads that wait their turn, oldest first (R237). -/
  queue : List Nat
  deriving DecidableEq, Repr

/-- A graph after reset (R245). -/
def Graph.empty : Graph := ⟨0, 0, [], [], none, false, none, false, []⟩

/-- A chain of reads that are made one after the other: a directory lookup, a vertex pair and its blocks, or one pair
of R225. `src` is 0 for lookups, 1 and 2 for walks A and B, 3 for operations. -/
structure Chain1 where
  src : Nat
  /-- Reads not yet returned. -/
  left : Nat
  /-- Tick at which the next read was requested. -/
  req : Option Nat
  /-- Tick at which it was granted. -/
  granted : Option Nat
  deriving DecidableEq, Repr

/-- A walk in an engine context (R223, R234). The reads it will make follow from the pinned version and the keys; the
phases still to come stand as chain lengths. -/
structure Walk where
  engine : Nat
  ctx : Nat
  graph : Nat
  pin : Nat
  active : List Chain1
  hopsA : List (List Nat)
  hopsB : List (List Nat)
  ops : List Nat
  credits : Nat
  deriving DecidableEq, Repr

/-- The stage output of Gather (R227). -/
structure GatherOut where
  feats : List Nat
  flags : Nat
  version : Nat
  graph : Nat
  credits : Nat
  deriving DecidableEq, Repr

/-- Gather. -/
structure Gather where
  graphs : Tab Graph
  /-- The delta pool in fifths (R229). -/
  deltaPool : Nat
  /-- To whom each Strand's share belongs since the last 2,048-tick boundary (R68). -/
  holder : List (Option Nat)
  /-- Strands in the order in which they last received a spare credit, least recent first (R67). -/
  spareOrder : List Nat
  /-- Credit issue has begun (R247). -/
  issuing : Bool
  /-- The 2,048-tick period whose boundary was applied last. -/
  period : Option Nat
  deriving DecidableEq, Repr

/-- Gather after reset. -/
def Gather.reset : Gather := ⟨[], 0, [], [], false, none⟩

end Sys2Proof
end

