-- ==== Sys2Proof/Machine/Graph.lean ====
section
/-!
DEFINITION. The graph store: hashes (R214 to R216), reading under a pin (R218), walks and set operations (R223 to
R227), and the application of a graph load (Tables 6-8 to 6-10, R213, R219, R236, R239).
-/
namespace Sys2Proof

/-- The mixer. -/
def mix (x : Nat) : Nat :=
  let x := w64 ((x ^^^ (x >>> 30)) * 0xBF58476D1CE4E5B9)
  let x := w64 ((x ^^^ (x >>> 27)) * 0x94D049BB133111EB)
  x ^^^ (x >>> 31)

/-- Home bucket of a key (R214). -/
def homeBucket (dirLog2 key typ : Nat) : Nat :=
  mix (mix (bits key 0 64 ^^^ typ) ^^^ bits key 64 64) >>> (64 - dirLog2)

/-- Edge rank (R215). -/
def edgeRank (salt v u e : Nat) : Nat := mix (mix (salt ^^^ v) ^^^ (e * 2 ^ 32 ||| u))

/-- Whether edge `a` of vertex `v` stands before edge `b` (R215). -/
def edgeBefore (salt v : Nat) (a b : Edge) : Bool :=
  let ra := edgeRank salt v a.nbr a.etype
  let rb := edgeRank salt v b.nbr b.etype
  if ra ≠ rb then decide (ra < rb)
  else if a.nbr ≠ b.nbr then decide (a.nbr < b.nbr)
  else decide (a.etype < b.etype)

/-- Whether vertex `a` has the lower frontier rank (R216). -/
def frontierBefore (salt a b : Nat) : Bool :=
  let ra := mix (salt ^^^ a)
  let rb := mix (salt ^^^ b)
  if ra ≠ rb then decide (ra < rb) else decide (a < b)

/-- Whether a reader pinned to `p` sees a directory entry (R218). -/
def DirEnt.seen (e : DirEnt) (p : Nat) : Bool := decide (e.verAdd ≤ p) && (e.verDel == 0 || decide (p < e.verDel))

/-- The entry of a bucket for a key, as a reader pinned to `p` sees it. -/
def bucketFind (g : Graph) (b key typ p : Nat) : Option DirEnt :=
  let fit (e : DirEnt) : Bool := e.key == key && e.typ == typ && e.seen p
  match Tab.get? g.dir (2 * b), Tab.get? g.dir (2 * b + 1) with
  | some e, o => if fit e then some e else match o with
    | some e2 => if fit e2 then some e2 else none
    | none => none
  | none, some e2 => if fit e2 then some e2 else none
  | none, none => none

/-- Whether a bucket holds an entry with USED = 0. -/
def bucketOpen (g : Graph) (b : Nat) : Bool :=
  (Tab.get? g.dir (2 * b)).isNone || (Tab.get? g.dir (2 * b + 1)).isNone

/-- A lookup: the VID found, and the buckets read (R239: it ends at the first bucket with an unused entry, within 8). -/
def lookupFrom (g : Graph) (dirLog2 key typ p : Nat) : Nat → Nat → Nat → Option Nat × Nat
  | 0, _, reads => (none, reads)
  | n + 1, b, reads =>
    match bucketFind g b key typ p with
    | some e => (some e.vid, reads + 1)
    | none =>
      if bucketOpen g b then (none, reads + 1)
      else lookupFrom g dirLog2 key typ p n ((b + 1) % 2 ^ dirLog2) (reads + 1)

/-- The lookup of a key and type at version `p`. -/
def lookupKey (g : Graph) (dirLog2 key typ p : Nat) : Option Nat × Nat :=
  lookupFrom g dirLog2 key typ p 8 (homeBucket dirLog2 key typ) 0

/-- The record of a pair that a reader pinned to `p` uses (R218). -/
def VPair.at (q : VPair) (p : Nat) : Option VRec :=
  let ok0 := q.r0.valid && decide (q.r0.vver ≤ p)
  let ok1 := q.r1.valid && decide (q.r1.vver ≤ p)
  if ok0 && ok1 then some (if q.r0.vver < q.r1.vver then q.r1 else q.r0)
  else if ok0 then some q.r0
  else if ok1 then some q.r1
  else none

/-- The record of vertex `v` at version `p`. -/
def Graph.vertex (g : Graph) (v p : Nat) : Option VRec :=
  match Tab.get? g.verts v with
  | some q => q.at p
  | none => none

/-- Blocks of a record (R213). -/
def VRec.blocks (r : VRec) : Nat := ceilDiv r.edges.length 7

/-- A hop descriptor (Table 6-5). -/
structure Hop where
  mask : Nat
  fanout : Nat
  scanMax : Nat
  deriving DecidableEq, Repr

/-- The scan of one block's entries: edges taken so far and how many (R223 step 3). -/
def scanBlock (h : Hop) : List Edge → Nat → List Edge → List Edge × Nat
  | [], n, acc => (acc, n)
  | e :: t, n, acc =>
    if n < h.fanout ∧ h.mask.testBit e.etype = true then scanBlock h t (n + 1) (acc ++ [e]) else scanBlock h t n acc

/-- The scan of a vertex's blocks: edges taken, blocks read (R223 steps 3 and 4). -/
def scanBlocks (h : Hop) : List (List Edge) → Nat → Nat → List Edge → List Edge × Nat
  | [], b, _, acc => (acc, b)
  | blk :: t, b, n, acc =>
    if b < h.scanMax ∧ n < h.fanout then
      let (acc, n) := scanBlock h blk n acc
      scanBlocks h t (b + 1) n acc
    else (acc, b)

/-- Edges taken at a vertex, and the reads it costs: its pair and its blocks. -/
def scanVertex (g : Graph) (p : Nat) (h : Hop) (v : Nat) : List Edge × Nat :=
  match g.vertex v p with
  | none => ([], 1)
  | some r =>
    let (es, b) := scanBlocks h (chunks 7 r.edges) 0 0 []
    (es, b + 1)

/-- Distinct targets, the `most` of lowest frontier rank where there are more (R223 step 5). -/
def frontier (salt most : Nat) (es : List Edge) : List Nat :=
  let vs := (es.map (·.nbr)).eraseDups
  if most < vs.length then (sortBy (frontierBefore salt) vs).take most else vs

/-- What a walk yields: its sets from hop 0 on, the edges taken at each hop from 1 on, and each hop's chains of reads. -/
structure WalkResult where
  sets : List (List Nat)
  taken : List (List Edge)
  reads : List (List Nat)
  deriving DecidableEq, Repr

/-- The hops of a walk from a set on (R223). -/
def walkHops (g : Graph) (p most : Nat) : List Hop → List Nat → WalkResult
  | [], set => ⟨[set], [], []⟩
  | h :: hs, set =>
    let scans := set.map (scanVertex g p h)
    let es := scans.flatMap (·.1)
    let r := walkHops g p most hs (frontier g.salt most es)
    ⟨set :: r.sets, es :: r.taken, scans.map (·.2) :: r.reads⟩

/-- A graph view's bytes give a hop descriptor. -/
def viewHop (v : Bytes) (off i : Nat) : Hop :=
  let d := le v (off + 8 * i) 8
  ⟨bits d 0 16, bits d 16 11, bits d 27 11⟩

/-- Hops of walk A (`b` false) or B. -/
def viewHops (v : Bytes) (b : Bool) : List Hop :=
  let n := if b then bits (byteAt v 1) 3 3 else bits (byteAt v 1) 0 3
  (upto (min n 4)).map (viewHop v (if b then 48 else 16))

/-- WALK_B. -/
def viewWalkB (v : Bytes) : Bool := bit (byteAt v 0) 2
/-- FRONTIER_MAX. -/
def viewFrontier (v : Bytes) : Nat := le v 6 2
/-- Operation record `i` (Table 6-6). -/
def viewOp (v : Bytes) (i : Nat) : Nat := le v (80 + 4 * i) 4

/-- The key of an entity field (R221), and whether it was cut. -/
def entityKey (num : Option Nat) (val : Bytes) : Nat × Bool :=
  match num with
  | some n => (n % 2 ^ 64, false)
  | none => (leNat (padTo 16 val), decide (16 < val.length))

/-- The entity of a slot, if the frame carries one: key and whether it was cut. -/
abbrev Entities := List (Nat × Nat × Bool)

/-- Key of the entity in a slot. -/
def entityAt (es : Entities) (slot : Nat) : Option (Nat × Bool) := Tab.get? es slot

/-- Distinct pairs of key and type that a frame looks up (R224): roots, then CONTAINS operands. -/
def lookupsOf (view : Bytes) (es : Entities) : List (Nat × Nat) :=
  let root (slot typ : Nat) : List (Nat × Nat) := match entityAt es slot with
    | some (k, _) => [(k, typ)]
    | none => []
  let ra := root (byteAt view 2 % 64) (byteAt view 4)
  let rb := if viewWalkB view then root (byteAt view 3 % 64) (byteAt view 5) else []
  let ops := (upto 16).flatMap (fun i =>
    let o := viewOp view i
    if bits o 0 4 = 5 then root (bits o 12 6) (bits o 20 8) else [])
  (ra ++ rb ++ ops).eraseDups

/-- The whole result of a frame's walks at version `p` (R223 to R227). -/
structure GatherWalks where
  a : WalkResult
  b : WalkResult
  flags : Nat
  lookups : List Nat
  opReads : List Nat
  deriving DecidableEq, Repr

/-- The walks of a frame. -/
def walksOf (g : Graph) (dirLog2 p : Nat) (view : Bytes) (es : Entities) : GatherWalks :=
  let ls := lookupsOf view es
  let rootA := entityAt es (byteAt view 2 % 64)
  let rootB := entityAt es (byteAt view 3 % 64)
  let look (r : Option (Nat × Bool)) (typ : Nat) : Option Nat := match r with
    | some (k, _) => (lookupKey g dirLog2 k typ p).1
    | none => none
  let va := look rootA (byteAt view 4)
  let vb := look rootB (byteAt view 5)
  let wb := viewWalkB view
  let a := walkHops g p (viewFrontier view) (viewHops view false) va.toList
  let b := if wb then walkHops g p (viewFrontier view) (viewHops view true) vb.toList else ⟨[], [], []⟩
  let usedCut := es.any (fun e => e.2.2 && (e.1 == byteAt view 2 % 64 || (wb && e.1 == byteAt view 3 % 64)
    || (upto 16).any (fun i => bits (viewOp view i) 0 4 == 5 && bits (viewOp view i) 12 6 == e.1)))
  let flags := b2n rootA.isNone + 2 * b2n (wb && rootB.isNone)
    + 4 * b2n (rootA.isSome && va.isNone) + 8 * b2n (wb && rootB.isSome && vb.isNone) + 16 * b2n usedCut
  let lastSet (o : Nat) : Option (List Nat) :=
    let s := bits o 4 4
    let w := if s < 8 then a else b
    if w.sets.length = s % 8 + 1 then w.sets.getLast? else none
  let opReads := (upto 16).flatMap (fun i =>
    let o := viewOp view i
    if bits o 0 4 = 6 ∨ bits o 0 4 = 7 ∨ bits o 0 4 = 9 then
      ((lastSet o).getD []).map (fun _ => 1) else [])
  ⟨a, b, flags, ls.map (fun kt => (lookupKey g dirLog2 kt.1 kt.2 p).2), opReads⟩

/-- A set by its 4-bit identifier. -/
def setOf (w : GatherWalks) (s : Nat) : List Nat := (if s < 8 then w.a else w.b).sets.getD (s % 8) []

/-- 32-bit saturation (Table 6-7). -/
def sat32 (n : Nat) : Nat := min n 0xFFFFFFFF

/-- Attribute `k` of a record. -/
def VRec.attr (r : VRec) (k : Nat) : Nat := if k = 0 then r.attr0 else if k = 1 then r.attr1 else r.attr2

/-- The result of one operation (Table 6-7). -/
def setOp (g : Graph) (dirLog2 p : Nat) (es : Entities) (w : GatherWalks) (o : Nat) : Nat :=
  let sa := bits o 4 4
  let a := setOf w sa
  let b := setOf w (bits o 8 4)
  let inter := (a.filter b.contains).length
  let union := a.length + b.length - inter
  let attrs := a.map (fun v => match g.vertex v p with
    | some r => r.attr (bits o 18 2)
    | none => 0)
  match bits o 0 4 with
  | 1 => sat32 a.length
  | 2 => sat32 inter
  | 3 => sat32 union
  | 4 => if union = 0 then 0 else sat32 (65536 * inter / union)
  | 5 => match entityAt es (bits o 12 6) with
    | some (k, _) => match (lookupKey g dirLog2 k (bits o 20 8) p).1 with
      | some v => b2n (a.contains v)
      | none => 0
    | none => 0
  | 6 => sat32 (attrs.foldl (· + ·) 0)
  | 7 => attrs.foldl max 0
  | 8 => sat32 ((((if sa < 8 then w.a else w.b).taken.getD (sa % 8 - 1) []).map (·.eattr)).foldl (· + ·) 0)
  | 9 => (a.map (fun v => match g.vertex v p with
      | some r => r.edges.length
      | none => 0)).foldl max 0
  | _ => 0

/-- Features F0 to F15 (R226, R227). -/
def gatherFeats (g : Graph) (dirLog2 p : Nat) (view : Bytes) (es : Entities) (w : GatherWalks) : List Nat :=
  (upto 16).map (fun i => setOp g dirLog2 p es w (viewOp view i))

/-- What a graph load needs to know of the region: DIR_LOG2, VTX_MAX, BLK_MAX, oldest version any frame pins. -/
structure GraphGeom where
  dirLog2 : Nat
  vtxMax : Nat
  blkMax : Nat
  oldestPin : Option Nat
  deriving DecidableEq, Repr

/-- Blocks that the records of a pair hold: shared adjacency once, a superseded record only while a frame pins a
version below the newer one (R219, R220). -/
def VPair.blocks (q : VPair) (oldest : Option Nat) : Nat :=
  let newer := if q.r0.vver < q.r1.vver then q.r1 else q.r0
  let older := if q.r0.vver < q.r1.vver then q.r0 else q.r1
  let both := q.r0.valid && q.r1.valid
  if both then
    if q.r0.edges = q.r1.edges then newer.blocks
    else newer.blocks + (match oldest with
      | some o => if o < newer.vver then older.blocks else 0
      | none => 0)
  else if q.r0.valid then q.r0.blocks else if q.r1.valid then q.r1.blocks else 0

/-- Blocks in use. -/
def Graph.blocksUsed (g : Graph) (oldest : Option Nat) : Nat := sumBy g.verts (fun e => e.2.blocks oldest)

/-- The record of a pair current at version `v` is not `r1` (the record that a write of V + 1 must take is the other). -/
def VPair.put (q : VPair) (v : Nat) (r : VRec) : VPair :=
  if q.r0.valid && decide (q.r0.vver = r.vver) then { q with r0 := r }
  else if q.r1.valid && decide (q.r1.vver = r.vver) then { q with r1 := r }
  else match q.at v with
    | some cur => if cur = q.r0 then { q with r1 := r } else { q with r0 := r }
    | none => { q with r0 := r }

/-- The `k`-th number from 1 on that a rising list does not hold. -/
def kthFree : List Nat → Nat → Nat → Nat
  | [], next, k => next + k
  | u :: us, next, k => if next + k < u then next + k else kthFree us (u + 1) (k - (u - next))

/-- A new VID: any that no entry of the vertex table holds. Which one, the spec does not say (log entry 12). -/
def newVid (g : Graph) (vtxMax : Nat) : Option Nat :=
  let used := g.verts.map (·.1)
  if used.length < vtxMax then
    some (kthFree used 1 (Config.vidChoice used % (vtxMax - used.length)))
  else none

/-- Where a new key goes: the first entry unused or reclaimable within 8 buckets (R239, R220). -/
def dirPlace (g : Graph) (geo : GraphGeom) : Nat → Nat → Option Nat
  | 0, _ => none
  | n + 1, b =>
    let free (i : Nat) : Bool := match Tab.get? g.dir i with
      | none => true
      | some e => e.verDel != 0 && (match geo.oldestPin with
        | some o => decide (e.verDel ≤ o)
        | none => true) && decide (e.verDel ≤ g.ver)
    if free (2 * b) then some (2 * b)
    else if free (2 * b + 1) then some (2 * b + 1)
    else dirPlace g geo n ((b + 1) % 2 ^ geo.dirLog2)

/-- The live entry of a key as the load so far leaves it. -/
def liveEntry (g : Graph) (geo : GraphGeom) (key typ ver : Nat) : Option Nat :=
  (lookupKey g geo.dirLog2 key typ ver).1

/-- Edge `e` of a record set or replaced at its rank (Table 6-10 ADD_EDGE): the edges and whether it is new. -/
def putEdge (salt v : Nat) (es : List Edge) (e : Edge) : List Edge × Bool :=
  if es.any (fun x => x.nbr == e.nbr && x.etype == e.etype) then
    (mapWhere es (fun x => x.nbr == e.nbr && x.etype == e.etype) (fun _ => e), false)
  else (insertSorted (edgeBefore salt v) e es, true)

/-- A vertex record rewritten by a load under version `ver`. -/
def editVertex (g : Graph) (v ver : Nat) (f : VRec → VRec) : Graph :=
  match Tab.get? g.verts v, g.vertex v ver with
  | some q, some r => { g with verts := Tab.put g.verts v (q.put g.ver { f r with vver := ver }) }
  | _, _ => g

/-- One directed edge operation (Table 6-10); none where its requirement fails. -/
def edgeOp (g : Graph) (op u v et ea ver : Nat) : Option Graph :=
  match g.vertex u ver with
  | none => none
  | some r =>
    let has := r.edges.any (fun x => x.nbr == v && x.etype == et)
    match op with
    | 4 =>
      let (es, isNew) := putEdge g.salt u r.edges ⟨v, et, ea⟩
      let g := editVertex g u ver (fun r => { r with edges := es })
      some (if isNew then editVertex g v ver (fun r => { r with indeg := r.indeg + 1 }) else g)
    | 5 =>
      if has then
        let g := editVertex g u ver (fun r =>
          { r with edges := r.edges.filter (fun x => !(x.nbr == v && x.etype == et)) })
        some (editVertex g v ver (fun r => { r with indeg := r.indeg - 1 }))
      else none
    | _ =>
      if has then
        some (editVertex g u ver (fun r =>
          { r with edges := mapWhere r.edges (fun x => x.nbr == v && x.etype == et) (fun x => { x with eattr := ea }) }))
      else none

/-- One record of a graph load applied under NEW_VER `ver` (Table 6-10); none where it is refused (R236). -/
def applyRecord (geo : GraphGeom) (ver : Nat) (g : Graph) (r : Bytes) : Option Graph :=
  let op := byteAt r 0
  let tu := byteAt r 2
  let tv := byteAt r 3
  let ku := le r 8 16
  let kv := le r 24 16
  let flagsOk := decide (byteAt r 1 ≤ 1) && decide (byteAt r 4 < 16) && le r 5 3 == 0 && le r 52 12 == 0
  if !flagsOk ∨ tu = 0 ∨ op = 0 ∨ 6 < op ∨ (4 ≤ op ∧ tv = 0) then none
  else
    let u := liveEntry g geo ku tu ver
    let vattr (x : VRec) : VRec := { x with attr0 := le r 40 4, attr1 := le r 44 4, attr2 := le r 48 4 }
    let out := match op, u with
      | 1, none => match newVid g geo.vtxMax, dirPlace g geo 8 (homeBucket geo.dirLog2 ku tu) with
        | some vid, some i =>
          let rec0 := vattr { VRec.none with valid := true, typ := tu, vver := ver }
          some { g with dir := Tab.put g.dir i ⟨ku, tu, vid, ver, 0⟩, verts := Tab.put g.verts vid ⟨rec0, VRec.none⟩ }
        | _, _ => none
      | 2, some u => match g.vertex u ver with
        | some x =>
          if x.edges.isEmpty ∧ x.indeg = 0 then
            let dir := mapWhere g.dir (fun e => e.2.vid == u && e.2.verDel == 0) (fun e => (e.1, { e.2 with verDel := ver }))
            some { g with dir := dir }
          else none
        | none => none
      | 3, some u => some (editVertex g u ver vattr)
      | k, some u =>
        if k < 4 then none
        else match liveEntry g geo kv tv ver with
          | none => none
          | some v =>
            let et := byteAt r 4 % 16
            let ea := le r 40 3
            match edgeOp g op u v et ea ver with
            | none => none
            | some g => if byteAt r 1 = 1 then edgeOp g op v u et ea ver else some g
      | _, none => none
    match out with
    | some g => if g.blocksUsed geo.oldestPin ≤ geo.blkMax then some g else none
    | none => none

/-- The records of a load in order: the graph they leave, or the index of the first that is refused. -/
def applyRecords (geo : GraphGeom) (ver : Nat) : List Bytes → Nat → Graph → Except Nat Graph
  | [], _, g => .ok g
  | r :: rs, i, g => match applyRecord geo ver g r with
    | some g => applyRecords geo ver rs (i + 1) g
    | none => .error i

/-- The header of a graph load is good for graph `index` (Table 6-8, R236). -/
def graphHeaderOk (c : Bytes) (index : Nat) : Bool :=
  le c 0 4 == 0x44544847 && byteAt c 4 == index && decide (byteAt c 5 ≤ 1) && le c 6 2 == 0 && le c 20 4 == 0
    && le c 32 32 == 0 && decide (64 ≤ c.length) && decide (le c 16 4 ≤ 16777216)
    && c.length == 64 + 64 * le c 16 4
    && (byteAt c 5 == 0 || le c 8 4 == 0) && (byteAt c 5 == 1 || le c 24 8 == 0)

/-- The graph a load leaves, before its version is committed (R219, R236, R238). -/
def applyLoad (geo : GraphGeom) (g : Graph) (c : Bytes) : Except Nat Graph :=
  let g := if byteAt c 5 = 1 then { g with salt := le c 24 8, dir := [], verts := [] } else g
  applyRecords geo (le c 12 4) (chunks 64 (c.drop 64)) 0 g

/-- Entries and vertices that no pin can reach any more are forgotten: deleted directory entries keep USED but their
vertices leave the table (R220). -/
def Graph.reclaim (g : Graph) (oldest : Option Nat) : Graph :=
  let gone (e : DirEnt) : Bool := e.verDel != 0 && decide (e.verDel ≤ g.ver) && (match oldest with
    | some o => decide (e.verDel ≤ o)
    | none => true)
  let dead := (g.dir.filter (fun e => gone e.2)).map (·.2.vid)
  { g with verts := g.verts.filter (fun e => !dead.contains e.1
      || g.dir.any (fun d => d.2.vid == e.1 && !gone d.2)) }

/-- Live vertices at version `p` (GTH_GRAPH_VTX). -/
def Graph.liveCount (g : Graph) (p : Nat) : Nat := (g.dir.filter (fun e => e.2.seen p)).length

/-- Operand fields of an operation in range (R222). -/
def viewOpOk (v : Bytes) (o : Nat) : Bool :=
  let setOk (s : Nat) : Bool :=
    if s < 8 then decide (s ≤ bits (byteAt v 1) 0 3)
    else viewWalkB v && decide (s % 8 ≤ bits (byteAt v 1) 3 3)
  match bits o 0 4 with
  | 0 => true
  | 1 => setOk (bits o 4 4)
  | 2 => setOk (bits o 4 4) && setOk (bits o 8 4)
  | 3 => setOk (bits o 4 4) && setOk (bits o 8 4)
  | 4 => setOk (bits o 4 4) && setOk (bits o 8 4)
  | 5 => setOk (bits o 4 4) && bits o 20 8 != 0
  | 6 => setOk (bits o 4 4) && decide (bits o 18 2 ≤ 2)
  | 7 => setOk (bits o 4 4) && decide (bits o 18 2 ≤ 2)
  | 8 => setOk (bits o 4 4) && bits o 4 4 % 8 != 0
  | 9 => setOk (bits o 4 4)
  | _ => false

/-- A hop descriptor in range (Table 6-5). -/
def hopOk (d : Nat) : Bool :=
  decide (1 ≤ bits d 16 11 ∧ bits d 16 11 ≤ 1024) && decide (1 ≤ bits d 27 11 ∧ bits d 27 11 ≤ 1024)
    && bits d 38 26 == 0

/-- The checks of a view (R222); `geom` says which graphs have a geometry. -/
def viewOk (v : Bytes) (geom : Nat → Bool) : Bool :=
  let ha := bits (byteAt v 1) 0 3
  let hb := bits (byteAt v 1) 3 3
  bits (byteAt v 0) 3 5 == 0 && bits (byteAt v 1) 6 2 == 0 && geom (bits (byteAt v 0) 0 2)
    && decide (1 ≤ viewFrontier v ∧ viewFrontier v ≤ 1024) && decide (ha ≤ 4) && decide (byteAt v 2 < 64)
    && byteAt v 4 != 0 && (upto ha).all (fun i => hopOk (le v (16 + 8 * i) 8))
    && (!viewWalkB v || (decide (hb ≤ 4) && decide (byteAt v 3 < 64) && byteAt v 5 != 0
        && (upto hb).all (fun i => hopOk (le v (48 + 8 * i) 8))))
    && (upto 16).all (fun i => viewOpOk v (viewOp v i))

end Sys2Proof
end

