-- ==== Sys2Proof/Machine/Crc.lean ====
section
/-!
DEFINITION. The cyclic checks the spec names: CRC-8 of a match word (R666, stated in full), CRC-32C of sections,
flits, packets and ledger pages, and the CRC-32 of an Ethernet FCS (both named only: PRESUMED, log entry 6).
-/
namespace Sys2Proof

/-- One bit of a reflected 32-bit CRC. -/
def crcShift (poly c : Nat) : Nat := if c % 2 = 1 then (c / 2) ^^^ poly else c / 2

/-- One byte of a reflected 32-bit CRC. -/
def crcByte (poly c : Nat) (b : Byte) : Nat :=
  let c := c ^^^ b.toNat
  crcShift poly (crcShift poly (crcShift poly (crcShift poly (crcShift poly (crcShift poly (crcShift poly (crcShift poly c)))))))

/-- A reflected 32-bit CRC with all-ones start and final complement. -/
def crc32With (poly : Nat) (bs : Bytes) : Nat := (bs.foldl (crcByte poly) 0xFFFFFFFF) ^^^ 0xFFFFFFFF

/-- CRC-32C (Castagnoli). -/
def crc32c (bs : Bytes) : Nat := crc32With 0x82F63B78 bs

/-- CRC-32 of IEEE 802.3, the Ethernet FCS. -/
def crc32 (bs : Bytes) : Nat := crc32With 0xEDB88320 bs

/-- R666: one bit into the 8-bit register, polynomial 0x07, initial value 0, no final XOR. -/
def crc8Bit (c : Nat) (b : Bool) : Nat :=
  let c2 := (c * 2) % 256
  if c.testBit 7 != b then c2 ^^^ 0x07 else c2

/-- R666: the CRC of bits [127:0] of a match word, bit 0 first. -/
def crc8 (w : Nat) : Nat := (List.range 128).foldl (fun c i => crc8Bit c (w.testBit i)) 0

end Sys2Proof
end

