-- ==== Sys2Proof/Machine/Model.lean ====
section
/-!
DEFINITION. Model containers (Tables 7-9 and 7-10), tree ensembles (R265 to R268), program ops (R255 to R264, R668 to
R670), and the container check (R273). A container stays as its raw bytes.
-/
namespace Sys2Proof

/-- A section of a container. -/
structure Sect where
  typ : Nat
  id : Nat
  crc : Nat
  off : Nat
  len : Nat
  deriving DecidableEq, Repr

/-- The section table (Table 7-10). -/
def sections (c : Bytes) : List Sect :=
  (upto (min (le c 8 4) 64)).map (fun i =>
    let o := le c 12 4 + 32 * i
    ⟨le c o 2, le c (o + 2) 2, le c (o + 4) 4, le c (o + 8) 8, le c (o + 16) 8⟩)

/-- Bytes of a section. -/
def Sect.bytes (c : Bytes) (s : Sect) : Bytes := slice c s.off s.len

/-- The first section of a type. -/
def sectOf (c : Bytes) (typ : Nat) : Option Bytes :=
  ((sections c).find? (fun s => s.typ == typ)).map (Sect.bytes c)

/-- The section of a type and ID. -/
def sectId (c : Bytes) (typ id : Nat) : Option Bytes :=
  ((sections c).find? (fun s => s.typ == typ && s.id == id)).map (Sect.bytes c)

/-- KIND: a GUARD container. -/
def isGuard (c : Bytes) : Bool := byteAt c 6 == 1

/-- Every tensor of a container: its directory entry and its data within TENSOR_DATA. -/
def tensors (c : Bytes) : List (TensorEntry × Bytes) :=
  let data := (sectOf c 4).getD []
  (((sections c).filter (fun s => s.typ == 3)).flatMap (fun s => chunks 32 (s.bytes c))).map (fun e =>
    let t := Config.tensorEntry e
    (t, slice data t.off t.len))

/-- An op record of 32 bytes (Table 7-10's text). -/
structure POp where
  op : Nat
  fmtA : Nat
  fmtB : Nat
  outFmt : Nat
  fn : Nat
  bias : Bool
  relu : Bool
  requant : Bool
  inA : Nat
  inB : Nat
  out : Nat
  m : Nat
  n : Nat
  k : Nat
  aux : Nat
  raw : Bytes
  deriving DecidableEq, Repr

/-- An op record from its bytes. -/
def POp.of (e : Bytes) : POp :=
  ⟨byteAt e 0, byteAt e 1 % 16, byteAt e 1 / 16, byteAt e 2 % 16, byteAt e 2 / 16,
   bit (byteAt e 3) 0, bit (byteAt e 3) 1, bit (byteAt e 3) 2,
   le e 4 4, le e 8 4, le e 12 4, le e 16 4, le e 20 4, le e 24 4, le e 28 4, e⟩

/-- The program of a section. -/
def programOf (p : Bytes) : List POp := (chunks 32 p).map POp.of

/-- Bits of an element of a format. -/
def fmtBits (f : Nat) : Nat :=
  match f with
  | 0 => 4
  | 1 => 8
  | 2 => 8
  | 3 => 8
  | 4 => 16
  | _ => 32

/-- Whether a format code holds integers. -/
def fmtIsInt (f : Nat) : Bool := f == 0 || f == 1 || f == 6

/-- Element `i` of a string of elements of format `f`, as its bits. -/
def elemAt (f : Nat) (bs : Bytes) (i : Nat) : Option Nat :=
  if f = 0 then (slice? bs (i / 2) 1).map (fun b => if i % 2 = 0 then leNat b % 16 else leNat b / 16)
  else
    let w := fmtBits f / 8
    (slice? bs (w * i) w).map leNat

/-- The bytes of elements of format `f`. -/
def packElems (f : Nat) (xs : List Nat) : Bytes :=
  if f = 0 then (chunks 2 xs).map (fun p => byte (p.getD 0 0 % 16 + 16 * (p.getD 1 0 % 16)))
  else xs.flatMap (fun x => toLe (fmtBits f / 8) x)

/-- The integer of an element's bits. -/
def elemInt (f x : Nat) : Int := signed (fmtBits f) x

/-- The FP32 word of an element's bits: exact where the format allows, else under R249 (R668). -/
def elemF32 (f x : Nat) : Nat :=
  match f with
  | 2 => toF32 (fmtE4M3.decode x)
  | 3 => toF32 (fmtE5M2.decode x)
  | 4 => bf16ToF32 x
  | 5 => if isNan32 x then nan32 else x
  | _ => intToF32 (elemInt f x)

/-- An element written, and how many saturations it counted (R253). -/
abbrev Elem1 := Nat × Nat

/-- FP32 converted to OUT_FMT (R251, R252) with a scale for the integer formats; saturations counted. -/
def convOut (outFmt scale x : Nat) : Elem1 :=
  let v := f32 x
  let sat (f : FFmt) (c : Nat) : Nat := match v with
    | .inf _ => 1
    | .fin _ _ _ => b2n (c % f.signBit == f.maxCode && ltFV (f.decode f.maxCode) (match v with
        | .fin _ m e => .fin false m e
        | w => w))
    | .nan => 0
  match outFmt with
  | 2 => let c := fmtE4M3.encode v; (c, sat fmtE4M3 c)
  | 3 => let c := fmtE5M2.encode v; (c, sat fmtE5M2 c)
  | 4 => (fmtBF16.encode v, 0)
  | 5 => (toF32 v, 0)
  | f =>
    let r := f32ToInt (fmtBits f) (fMul x scale)
    (toBitsInt (fmtBits f) r.1, b2n r.2)

/-- Buffers by ID. -/
abbrev Buffers := Tab Bytes

/-- The bytes that an ID names: a buffer written by an earlier op, else the tensor of that ID (log entry 16). -/
def bufOf (ts : List (TensorEntry × Bytes)) (bufs : Buffers) (id : Nat) : Bytes :=
  match Tab.get? bufs id with
  | some b => b
  | none => match ts.find? (fun t => t.1.id == id) with
    | some t => t.2
    | none => []

/-- Element `i` of a named buffer. -/
def readElem (f : Nat) (bs : Bytes) (id i : Nat) : Nat :=
  match elemAt f bs i with
  | some x => x
  | none => (Config.missingElem id i).toNat % 2 ^ fmtBits f

/-- An integer reduction: blocks of 16 exact products, saturating after each block (R255); whether it saturated. -/
def reduceI (bias : Int) (ps : List Int) : Int × Bool :=
  (chunks 16 ps).foldl (fun acc blk =>
    let r := satInt 32 (acc.1 + blk.foldl (· + ·) 0)
    (r.1, acc.2 || r.2)) (bias, false)

/-- Requantization (R258), saturating to `w` bits. -/
def requantize (w : Nat) (x m : Int) (s : Nat) : Int × Bool :=
  satInt w ((x * m + 2 ^ (s - 1)) / 2 ^ s)

/-- An INT32 accumulator converted to OUT_FMT (R257). -/
def intOut (outFmt : Nat) (x : Int) : Elem1 :=
  if fmtIsInt outFmt then
    let r := satInt (fmtBits outFmt) x
    (toBitsInt (fmtBits outFmt) r.1, b2n r.2)
  else convOut outFmt 0x3F800000 (intToF32 x)

/-- One output element of a GEMM: its bits and saturations (R255 to R258, R669). `par r` is row r of the parameter
tensor at this column. -/
def gemmElem (o : POp) (a b : Nat → Nat) (par : Nat → Nat) : Elem1 :=
  let ks := upto o.k
  let row0 := if o.bias then 1 else 0
  if fmtIsInt o.fmtA then
    let acc := reduceI (if o.bias then signed 32 (par 0) else 0)
      (ks.map (fun k => elemInt o.fmtA (a k) * elemInt o.fmtB (b k)))
    let x := if o.relu && decide (acc.1 < 0) then 0 else acc.1
    if o.requant then
      let w := if fmtIsInt o.outFmt then fmtBits o.outFmt else 32
      let r := requantize w x (signed 32 (par row0)) (par (row0 + 1) % 2 ^ 32)
      let e := intOut o.outFmt r.1
      (e.1, b2n acc.2 + b2n r.2 + e.2)
    else
      let e := intOut o.outFmt x
      (e.1, b2n acc.2 + e.2)
  else
    let acc := reduceF (if o.bias then par 0 else 0)
      (ks.map (fun k => fMul (elemF32 o.fmtA (a k)) (elemF32 o.fmtB (b k))))
    let x := if o.relu then (if isNan32 acc then acc else if fLt 0 acc then acc else 0) else acc
    convOut o.outFmt (if fmtIsInt o.outFmt then par row0 else 0x3F800000) x

/-- The function of an EWISE op (Table 7-16) on FP32 words. -/
def ewise (fn x y z : Nat) : Nat :=
  match fn with
  | 0 => fAdd x y
  | 1 => fSub x y
  | 2 => fMul x y
  | 3 => fDiv x y
  | 4 => fSqrt x
  | 5 => fMax x y
  | 6 => fMin x y
  | 7 => fFma x y z
  | _ => fRsqrt x

/-- A function table evaluated (R262). -/
def tableEval (t : Bytes) (x : Nat) : Nat :=
  if isNan32 x then nan32
  else
    let lo := le t 0 4
    let xc := fMin (fMax x lo) (le t 4 4)
    let u := fMul (fSub xc lo) (le t 8 4)
    let i := min (f32Trunc u) (le t 12 4 - 1)
    fFma (le t (16 + 8 * i) 4) xc (le t (20 + 8 * i) 4)

/-- A row sum (R261). -/
def rowSum (xs : List Nat) : Nat := reduceF 0 xs

/-- A row of RMSNORM (Table 7-3). -/
def rmsnormRow (eps : Nat) (xs gs : List Nat) : List Nat :=
  let s := rowSum (xs.map (fun x => fMul x x))
  let r := fRsqrt (fAdd (fDiv s (intToF32 xs.length)) eps)
  List.zipWith (fun x g => fMul (fMul x r) g) xs gs

/-- A row of SOFTMAX (Table 7-3). -/
def softmaxRow (t : Bytes) (xs : List Nat) : List Nat :=
  let mx := rowMax xs
  let es := xs.map (fun x => tableEval t (fSub x mx))
  let s := rowSum es
  es.map (fun e => fDiv e s)

/-- TREES, LEAF_SHIFT, OUTPUTS, BASE of an ensemble (Table 7-6). -/
def ensTrees (e : Bytes) : Nat := le e 0 4
/-- OUTPUTS. -/
def ensOutputs (e : Bytes) : Nat := byteAt e 5
/-- Tree table entry `t` (Table 7-5). -/
def ensTree (e : Bytes) (t : Nat) : Nat := le e (le e 144 4 + 8 * t) 8
/-- Node `i` (Table 7-4). -/
def ensNode (e : Bytes) (i : Nat) : Nat := le e (le e 148 4 + 8 * i) 8

/-- The walk down a tree (R266): VALUE of the leaf and how many NaN features it met. -/
def treeWalk (e : Bytes) (x : Nat → Nat) (base : Nat) : Nat → Nat → Nat → Int × Nat
  | 0, _, miss => (0, miss)
  | fuel + 1, i, miss =>
    let nd := ensNode e (base + i)
    if bit nd 10 then (signed 32 (bits nd 32 32), miss)
    else
      let v := x (bits nd 0 10)
      let left := bits nd 16 16
      if isNan32 v then treeWalk e x base fuel (if bit nd 11 then left else left + 1) (miss + 1)
      else
        let th := bits nd 32 32
        let goLeft := if bit nd 12 then fLe v th else fLt v th
        treeWalk e x base fuel (if goLeft then left else left + 1) miss

/-- Every tree of an ensemble: its OUTPUT, its leaf's VALUE, NaN features met. -/
def ensLeaves (e : Bytes) (x : Nat → Nat) : List (Nat × Int × Nat) :=
  (upto (ensTrees e)).map (fun t => (bits (ensTree e t) 32 4, treeWalk e x (bits (ensTree e t) 0 32) 17 0 0))

/-- The scores of an ensemble as FP32 (R267). -/
def ensScores (e : Bytes) (leaves : List (Nat × Int × Nat)) : List Nat :=
  (upto (ensOutputs e)).map (fun o =>
    let s := leaves.foldl (fun acc l => if l.1 = o then acc + l.2.1 else acc) (signed 64 (le e (16 + 8 * o) 8))
    scaledToF32 s (byteAt e 4))

/-- What a program leaves: buffers, outputs written, saturations, NaN features met. -/
structure ProgRun where
  bufs : Buffers
  outs : Tab Nat
  sat : Nat
  miss : Nat
  deriving DecidableEq, Repr

/-- A row of a buffer as FP32 words. -/
def rowF32 (f : Nat) (bs : Bytes) (id n r : Nat) : List Nat :=
  (upto n).map (fun i => elemF32 f (readElem f bs id (r * n + i)))

/-- Words written to OUT. -/
def ProgRun.write (p : ProgRun) (o : POp) (es : List Elem1) : ProgRun :=
  { p with bufs := Tab.put p.bufs o.out (packElems o.outFmt (es.map (·.1))), sat := p.sat + sumBy es (·.2) }

/-- Element of row `r`, column `n` of a parameter tensor. -/
def paramAt (t : TensorEntry × Bytes) (cols r n : Nat) : Nat := readElem t.1.fmt t.2 t.1.id (r * cols + n)

/-- One op of a program (Table 7-3). -/
def runOp (c : Bytes) (ts : List (TensorEntry × Bytes)) (p : ProgRun) (o : POp) : ProgRun :=
  let a := bufOf ts p.bufs o.inA
  let b := bufOf ts p.bufs o.inB
  match o.op with
  | 1 =>
    let par := (ts.find? (fun t => t.1.id == o.aux)).getD (⟨0, 5, [], 0, 0⟩, [])
    let es := (upto o.m).flatMap (fun m => (upto o.n).map (fun n =>
      gemmElem o (fun k => readElem o.fmtA a o.inA (m * o.k + k)) (fun k => readElem o.fmtB b o.inB (n * o.k + k))
        (fun r => paramAt par o.n r n)))
    p.write o es
  | 2 =>
    let prev := bufOf ts p.bufs o.out
    let rd (f : Nat) (bs : Bytes) (id i : Nat) : Nat := elemF32 f (readElem f bs id i)
    p.write o ((upto (o.m * o.n)).map (fun i =>
      let y := if o.fn = 4 ∨ o.fn = 8 then 0 else rd o.fmtB b o.inB i
      let z := if o.fn = 7 then rd o.outFmt prev o.out i else 0
      convOut o.outFmt 0x3F800000 (ewise o.fn (rd o.fmtA a o.inA i) y z)))
  | 3 =>
    let t := (sectId c 6 o.aux).getD []
    p.write o ((upto (o.m * o.n)).map (fun i =>
      convOut o.outFmt 0x3F800000 (tableEval t (elemF32 o.fmtA (readElem o.fmtA a o.inA i)))))
  | 4 =>
    let gs := rowF32 o.fmtB b o.inB o.n 0
    p.write o ((upto o.m).flatMap (fun r =>
      (rmsnormRow o.aux (rowF32 o.fmtA a o.inA o.n r) gs).map (convOut o.outFmt 0x3F800000)))
  | 5 =>
    let t := (sectId c 6 o.aux).getD []
    p.write o ((upto o.m).flatMap (fun r =>
      (softmaxRow t (rowF32 o.fmtA a o.inA o.n r)).map (convOut o.outFmt 0x3F800000)))
  | 6 =>
    let e := (sectId c 2 o.aux).getD []
    let leaves := ensLeaves e (fun i => elemF32 5 (readElem 5 a o.inA i))
    let p := p.write { o with outFmt := 5 } ((ensScores e leaves).map (fun x => (x, 0)))
    { p with miss := p.miss + sumBy leaves (·.2.2) }
  | 7 => { p with bufs := Tab.put p.bufs o.out (Config.attnOut o.raw a b) }
  | 8 =>
    p.write o ((upto o.m).flatMap (fun r =>
      let row := (elemInt o.fmtA (readElem o.fmtA a o.inA r)).toNat
      (upto o.n).map (fun i => (readElem o.fmtB b o.inB (row * o.n + i), 0))))
  | 9 =>
    let vs := (upto o.n).map (fun i => (o.out + i, elemF32 o.fmtA (readElem o.fmtA a o.inA i)))
    { p with outs := vs.foldl (fun t v => Tab.put t v.1 v.2) p.outs }
  | _ => p

/-- A screening program over a feature vector, which stands as buffer 0 (log entry 16). -/
def runProgram (c : Bytes) (feats : List Nat) : ProgRun :=
  let ts := tensors c
  let prog := programOf ((sectOf c 5).getD [])
  prog.foldl (runOp c ts) ⟨[(0, packElems 5 feats)], [], 0, 0⟩

/-- Cycles of an op (R264). -/
def opCycles (o : POp) : Nat :=
  match o.op with
  | 1 =>
    let tiles := ceilDiv o.m 27 * ceilDiv o.n 27
    let kc := if o.fmtA = 0 ∧ o.fmtB = 0 then ceilDiv o.k 2 else if o.fmtA = 4 then 2 * o.k else o.k
    ceilDiv tiles 4 * (kc + 32)
  | 6 => 0
  | 9 => ceilDiv o.n 64
  | _ => ceilDiv (o.m * o.n) 64

/-- Gallery slots of a container's program (R264). -/
def programSlots (c : Bytes) : Nat := ceilDiv (sumBy (programOf ((sectOf c 5).getD [])) opCycles) 128

/-- Grant units of its ARBOR ops, by ensemble ID (R268). -/
def arborUnits (c : Bytes) : Nat :=
  sumBy (programOf ((sectOf c 5).getD [])) (fun o =>
    if o.op = 6 then ceilDiv (ensTrees ((sectId c 2 o.aux).getD [])) 16 else 0)

/-- Feature map entries (Table 7-7). -/
def featureMap (c : Bytes) : List Nat := (chunks 8 ((sectOf c 1).getD [])).map leNat

/-- The inner nodes on the longest path from node `i`, at most `fuel`; none where a node breaks R265. -/
def treeDepth (e : Bytes) (base nodes : Nat) : Nat → Nat → Option Nat
  | 0, _ => none
  | fuel + 1, i =>
    if nodes ≤ base + i then none
    else
      let nd := ensNode e (base + i)
      let left := bits nd 16 16
      if bit nd 10 then (if bits nd 0 10 = 0 ∧ left = 0 then some 0 else none)
      else if left ≤ i ∨ isNan32 (bits nd 32 32) ∨ bits nd 13 3 ≠ 0 then none
      else match treeDepth e base nodes fuel left, treeDepth e base nodes fuel (left + 1) with
        | some a, some b => some (max a b + 1)
        | _, _ => none

/-- The checks of an ensemble (R265). -/
def ensembleOk (e : Bytes) : Bool :=
  decide (160 ≤ e.length) && decide (1 ≤ ensTrees e ∧ ensTrees e ≤ 8192) && decide (byteAt e 4 ≤ 31)
    && decide (1 ≤ ensOutputs e ∧ ensOutputs e ≤ 16) && le e 6 10 == 0 && le e 156 4 == 0
    && decide (le e 152 4 ≤ 2 ^ 24) && decide (le e 144 4 + 8 * ensTrees e ≤ e.length)
    && decide (le e 148 4 + 8 * le e 152 4 ≤ e.length)
    && (upto (ensTrees e)).all (fun t =>
        let x := ensTree e t
        decide (bits x 32 4 < ensOutputs e) && bits x 36 28 == 0
        && (treeDepth e (bits x 0 32) (le e 152 4) 17 0).isSome)

/-- SEL within the range that Table 7-8 gives for SRC (R270). -/
def selOk (src sel : Nat) : Bool :=
  match src with
  | 0 => true
  | 1 => sel == 0
  | 2 => decide (sel ≤ 6)
  | 3 => decide (sel ≤ 127)
  | 4 => decide (sel ≤ 15)
  | 5 => decide (sel ≤ 4)
  | 6 => decide (sel ≤ 2)
  | 7 => decide (sel / 16 ≤ 3)
  | _ => false

/-- The checks of a feature map (R270). -/
def featureMapOk (c : Bytes) : Bool :=
  let es := featureMap c
  decide (es.map (fun e => bits e 0 10)).Nodup
    && es.all (fun e => decide (bits e 10 4 ≤ 7) && decide (bits e 28 3 ≤ 5) && selOk (bits e 10 4) (bits e 20 8))

/-- Operand pairs of Table 7-2. -/
def pairOk (a b : Nat) : Bool :=
  (a == 1 && b == 1) || (a == 0 && b == 1) || (a == 1 && b == 0) || (a == 0 && b == 0)
    || ((a == 2 || a == 3) && (b == 2 || b == 3)) || (a == 4 && b == 4)

/-- Rows that a GEMM's parameter tensor must have (R669). -/
def paramRows (o : POp) : Nat :=
  b2n o.bias + 2 * b2n o.requant + b2n (!fmtIsInt o.fmtA && fmtIsInt o.outFmt)

/-- A GEMM's checks (R254, R257, R258, R669). -/
def gemmOk (ts : List (TensorEntry × Bytes)) (o : POp) : Bool :=
  let int := fmtIsInt o.fmtA
  pairOk o.fmtA o.fmtB && (int || !o.requant) && (paramRows o == 0 ||
    (match ts.find? (fun t => t.1.id == o.aux) with
      | none => false
      | some t =>
        t.1.fmt == (if int then 6 else 5) && decide (o.n ≤ t.1.dims.getLast?.getD 0)
        && decide (paramRows o * o.n * 4 ≤ t.2.length)
        && (!o.requant || (upto o.n).all (fun n =>
            let s := paramAt t o.n (b2n o.bias + 1) n
            decide (1 ≤ s ∧ s ≤ 62)))))

/-- One op's checks, given the IDs that earlier ops wrote (R254, R257, R668, R670, R273). -/
def opOk (c : Bytes) (ts : List (TensorEntry × Bytes)) (written : List Nat) (o : POp) : Bool :=
  let known (id : Nat) : Bool := written.contains id || ts.any (fun t => t.1.id == id)
  let usesB := o.op == 1 || (o.op == 2 && o.fn != 4 && o.fn != 8) || o.op == 4 || o.op == 7 || o.op == 8
  decide (1 ≤ o.op ∧ o.op ≤ 9) && decide (o.fmtA ≤ 6) && decide (o.fmtB ≤ 6) && decide (o.outFmt ≤ 6)
    && known o.inA && (!usesB || known o.inB)
    && (match o.op with
      | 1 => gemmOk ts o
      | 2 => decide (o.fn ≤ 8) && (o.fn != 7 || known o.out)
      | 3 => (sectId c 6 o.aux).isSome
      | 5 => (sectId c 6 o.aux).isSome
      | 6 => (sectId c 2 o.aux).isSome
      | 9 => decide (1 ≤ o.n ∧ o.n ≤ 16) && decide (o.out + o.n ≤ le c 32 2)
      | _ => true)

/-- The ops of a program checked in order. -/
def progOk (c : Bytes) (ts : List (TensorEntry × Bytes)) : List POp → List Nat → Bool
  | [], _ => true
  | o :: os, w => opOk c ts w o && progOk c ts os (if o.op = 9 then w else o.out :: w)

/-- A function table's checks. -/
def funcTableOk (t : Bytes) : Bool :=
  decide (1 ≤ le t 12 4 ∧ le t 12 4 ≤ 1024) && decide (16 + 8 * le t 12 4 ≤ t.length)

/-- Sections do not overlap: each pair apart. -/
def disjointSects : List Sect → Bool
  | [] => true
  | s :: t => t.all (fun u => decide (s.off + s.len ≤ u.off ∨ u.off + u.len ≤ s.off)) && disjointSects t

/-- The header and section table in range (Tables 7-9 and 7-10), DET_CLASS at most 1 (R273). -/
def containerHeaderOk (c : Bytes) : Bool :=
  let ss := sections c
  decide (128 ≤ c.length) && le c 0 4 == 0x4C444F4D && le c 4 2 == 1 && decide (byteAt c 6 ≤ 1) && byteAt c 7 == 0
    && decide (1 ≤ le c 8 4 ∧ le c 8 4 ≤ 64) && decide (le c 12 4 + 32 * le c 8 4 ≤ c.length)
    && le c 16 8 == c.length && decide (c.length ≤ 2 ^ 35) && decide (byteAt c 24 < 16) && le c 25 3 == 0
    && (isGuard c || decide (1 ≤ le c 32 2 ∧ le c 32 2 ≤ 16)) && le c 34 2 == 0 && decide (le c 36 4 ≤ 1)
    && le c 40 88 == 0
    && ss.all (fun s => decide (1 ≤ s.typ ∧ s.typ ≤ 7) && s.off % 64 == 0 && decide (s.off + s.len ≤ c.length)
        && crc32c (s.bytes c) == s.crc)
    && disjointSects ss

/-- The container check but for what GUARD_PARAMS and residency ask (R273, R671). -/
def containerOk (c : Bytes) : Bool :=
  let ss := sections c
  let ts := tensors c
  containerHeaderOk c && ts.all (fun t => decide (t.1.fmt ≤ 6))
    && (ss.filter (fun s => s.typ == 2)).all (fun s => ensembleOk (s.bytes c))
    && (ss.filter (fun s => s.typ == 6)).all (fun s => funcTableOk (s.bytes c))
    && (isGuard c || ((ss.filter (fun s => s.typ == 1)).length == 1 && (ss.filter (fun s => s.typ == 5)).length == 1
        && featureMapOk c && progOk c ts (programOf ((sectOf c 5).getD [])) [0]))

end Sys2Proof
end

