-- ==== Sys2Proof/Machine/Sentinel.lean ====
section
/-!
DEFINITION. The card-number sentinel (R377 to R380).
-/
namespace Sys2Proof

/-- A byte that the sentinel reads and its place in the frame; none for a byte of the previous chunk. -/
abbrev ScanByte := Nat × Option Nat

/-- Sum of the digits, every second one from the last doubled (R378); digits stand last first. -/
def luhnSum : List Nat → Nat
  | [] => 0
  | [a] => a
  | a :: b :: t => a + (if 9 < 2 * b then 2 * b - 9 else 2 * b) + luhnSum t

/-- Whether a run of digits, last first, is a match (R378), ending inside the present chunk (R379). -/
def runMatches (run : List ScanByte) : Bool :=
  decide (13 ≤ run.length ∧ run.length ≤ 19) && luhnSum (run.map (fun d => d.1)) % 10 == 0
    && (match run with
        | (_, some _) :: _ => true
        | _ => false)

/-- The frame offsets of a run's digits, first to last. -/
def runOffsets (run : List ScanByte) : List Nat := run.reverse.filterMap (fun d => d.2)

/-- What the scan holds: the run so far, last digit first; whether a separator stands after it; matches found. -/
structure ScanState where
  run : List ScanByte
  sep : Bool
  found : List (List Nat)
  deriving DecidableEq, Repr

/-- The run ends. -/
def endRun (w : ScanState) : ScanState :=
  ⟨[], false, if runMatches w.run then w.found ++ [runOffsets w.run] else w.found⟩

/-- One byte of the scan. -/
def scanByte (w : ScanState) (b : ScanByte) : ScanState :=
  if 48 ≤ b.1 ∧ b.1 ≤ 57 then { w with run := (b.1 - 48, b.2) :: w.run, sep := false }
  else if (b.1 = 0x20 ∨ b.1 = 0x2D) ∧ !w.run.isEmpty ∧ !w.sep then { w with sep := true }
  else endRun w

/-- The matches of one field: the carry of the previous chunk, then the field's bytes at their frame offset (R377,
R379). -/
def scanField (carry bs : Bytes) (off : Nat) : List (List Nat) :=
  let pre := carry.map (fun b => (b.toNat, (none : Option Nat)))
  let own := (List.zip bs (upto bs.length)).map (fun p => (p.1.toNat, some (off + p.2)))
  (endRun ((pre ++ own).foldl scanByte ⟨[], false, []⟩)).found

end Sys2Proof
end

