-- ==== Sys2Proof/Machine/Utf8.lean ====
section
/-!
DEFINITION. Well-formed UTF-8 as the Unicode Standard's Table 3-7 defines it (R129), proper prefixes (R142, R145).
-/
namespace Sys2Proof

/-- The allowed ranges of the bytes that follow lead byte `b`, none where `b` leads nothing (R129). -/
def utf8Tail (b : Nat) : Option (List (Nat × Nat)) :=
  if b < 0x80 then some []
  else if b < 0xC2 then none
  else if b ≤ 0xDF then some [(0x80, 0xBF)]
  else if b = 0xE0 then some [(0xA0, 0xBF), (0x80, 0xBF)]
  else if b = 0xED then some [(0x80, 0x9F), (0x80, 0xBF)]
  else if b ≤ 0xEF then some [(0x80, 0xBF), (0x80, 0xBF)]
  else if b = 0xF0 then some [(0x90, 0xBF), (0x80, 0xBF), (0x80, 0xBF)]
  else if b ≤ 0xF3 then some [(0x80, 0xBF), (0x80, 0xBF), (0x80, 0xBF)]
  else if b = 0xF4 then some [(0x80, 0x8F), (0x80, 0xBF), (0x80, 0xBF)]
  else none

/-- Whether the bytes stand in the ranges, as far as both go. -/
def inRanges : Bytes → List (Nat × Nat) → Bool
  | b :: bs, (lo, hi) :: rs => decide (lo ≤ b.toNat ∧ b.toNat ≤ hi) && inRanges bs rs
  | _, _ => true

/-- Length of the well-formed sequence at the start of `bs`, 0 where none starts there (R129). -/
def utf8Len (bs : Bytes) : Nat :=
  match bs with
  | [] => 0
  | b :: t => match utf8Tail b.toNat with
    | none => 0
    | some rs => if rs.length ≤ t.length && inRanges t rs then rs.length + 1 else 0

/-- Code point of a well-formed sequence. -/
def codePoint (bs : Bytes) : Nat :=
  match bs with
  | [a] => a.toNat
  | [a, b] => a.toNat % 32 * 64 + b.toNat % 64
  | [a, b, c] => (a.toNat % 16 * 64 + b.toNat % 64) * 64 + c.toNat % 64
  | [a, b, c, d] => ((a.toNat % 8 * 64 + b.toNat % 64) * 64 + c.toNat % 64) * 64 + d.toNat % 64
  | _ => 0

/-- Whether `bs` is a proper prefix of a well-formed sequence, and not empty. -/
def properPrefix (bs : Bytes) : Bool :=
  match bs with
  | [] => false
  | b :: t => match utf8Tail b.toNat with
    | none => false
    | some rs => decide (t.length < rs.length) && inRanges t rs

/-- How many trailing bytes, 0 to 3, form a proper prefix of a well-formed sequence (R142, R145). -/
def heldTail (bs : Bytes) : Nat :=
  if properPrefix (bs.drop (bs.length - 3)) && decide (3 ≤ bs.length) then 3
  else if properPrefix (bs.drop (bs.length - 2)) && decide (2 ≤ bs.length) then 2
  else if properPrefix (bs.drop (bs.length - 1)) && decide (1 ≤ bs.length) then 1
  else 0

/-- The text to use now and the trailing bytes held back. -/
def splitHeld (bs : Bytes) : Bytes × Bytes :=
  let k := heldTail bs
  (bs.take (bs.length - k), bs.drop (bs.length - k))

end Sys2Proof
end

