-- ==== Sys2Proof/Machine/Hash.lean ====
section
/-!
DEFINITION. SHA-256 and SHA-384, which the spec names for digests and chains (R272, R388, R439, R447) and does not
restate: PRESUMED from FIPS 180-4 (log entry 6).
-/
namespace Sys2Proof

/-- SHA-256 round constants, part 0. -/
def sha256K0 : List Nat :=
  [0x428a2f98, 0x71374491, 0xb5c0fbcf, 0xe9b5dba5, 0x3956c25b, 0x59f111f1, 0x923f82a4, 0xab1c5ed5,
   0xd807aa98, 0x12835b01, 0x243185be, 0x550c7dc3, 0x72be5d74, 0x80deb1fe, 0x9bdc06a7, 0xc19bf174,
   0xe49b69c1, 0xefbe4786, 0xfc19dc6, 0x240ca1cc, 0x2de92c6f, 0x4a7484aa, 0x5cb0a9dc, 0x76f988da,
   0x983e5152, 0xa831c66d, 0xb00327c8, 0xbf597fc7, 0xc6e00bf3, 0xd5a79147, 0x6ca6351, 0x14292967,
   0x27b70a85, 0x2e1b2138, 0x4d2c6dfc, 0x53380d13, 0x650a7354, 0x766a0abb, 0x81c2c92e, 0x92722c85]

/-- SHA-256 round constants, part 1. -/
def sha256K1 : List Nat :=
  [0xa2bfe8a1, 0xa81a664b, 0xc24b8b70, 0xc76c51a3, 0xd192e819, 0xd6990624, 0xf40e3585, 0x106aa070,
   0x19a4c116, 0x1e376c08, 0x2748774c, 0x34b0bcb5, 0x391c0cb3, 0x4ed8aa4a, 0x5b9cca4f, 0x682e6ff3,
   0x748f82ee, 0x78a5636f, 0x84c87814, 0x8cc70208, 0x90befffa, 0xa4506ceb, 0xbef9a3f7, 0xc67178f2]

/-- SHA-256 round constants. -/
def sha256K : List Nat := sha256K0 ++ sha256K1

/-- SHA-384 round constants, part 0. -/
def sha512K0 : List Nat :=
  [0x428a2f98d728ae22, 0x7137449123ef65cd, 0xb5c0fbcfec4d3b2f, 0xe9b5dba58189dbbc,
   0x3956c25bf348b538, 0x59f111f1b605d019, 0x923f82a4af194f9b, 0xab1c5ed5da6d8118,
   0xd807aa98a3030242, 0x12835b0145706fbe, 0x243185be4ee4b28c, 0x550c7dc3d5ffb4e2,
   0x72be5d74f27b896f, 0x80deb1fe3b1696b1, 0x9bdc06a725c71235, 0xc19bf174cf692694,
   0xe49b69c19ef14ad2, 0xefbe4786384f25e3, 0xfc19dc68b8cd5b5, 0x240ca1cc77ac9c65]

/-- SHA-384 round constants, part 1. -/
def sha512K1 : List Nat :=
  [0x2de92c6f592b0275, 0x4a7484aa6ea6e483, 0x5cb0a9dcbd41fbd4, 0x76f988da831153b5,
   0x983e5152ee66dfab, 0xa831c66d2db43210, 0xb00327c898fb213f, 0xbf597fc7beef0ee4,
   0xc6e00bf33da88fc2, 0xd5a79147930aa725, 0x6ca6351e003826f, 0x142929670a0e6e70,
   0x27b70a8546d22ffc, 0x2e1b21385c26c926, 0x4d2c6dfc5ac42aed, 0x53380d139d95b3df,
   0x650a73548baf63de, 0x766a0abb3c77b2a8, 0x81c2c92e47edaee6, 0x92722c851482353b]

/-- SHA-384 round constants, part 2. -/
def sha512K2 : List Nat :=
  [0xa2bfe8a14cf10364, 0xa81a664bbc423001, 0xc24b8b70d0f89791, 0xc76c51a30654be30,
   0xd192e819d6ef5218, 0xd69906245565a910, 0xf40e35855771202a, 0x106aa07032bbd1b8,
   0x19a4c116b8d2d0c8, 0x1e376c085141ab53, 0x2748774cdf8eeb99, 0x34b0bcb5e19b48a8,
   0x391c0cb3c5c95a63, 0x4ed8aa4ae3418acb, 0x5b9cca4f7763e373, 0x682e6ff3d6b2b8a3,
   0x748f82ee5defb2fc, 0x78a5636f43172f60, 0x84c87814a1f0ab72, 0x8cc702081a6439ec]

/-- SHA-384 round constants, part 3. -/
def sha512K3 : List Nat :=
  [0x90befffa23631e28, 0xa4506cebde82bde9, 0xbef9a3f7b2c67915, 0xc67178f2e372532b,
   0xca273eceea26619c, 0xd186b8c721c0c207, 0xeada7dd6cde0eb1e, 0xf57d4f7fee6ed178,
   0x6f067aa72176fba, 0xa637dc5a2c898a6, 0x113f9804bef90dae, 0x1b710b35131c471b,
   0x28db77f523047d84, 0x32caab7b40c72493, 0x3c9ebe0a15c9bebc, 0x431d67c49c100d4c,
   0x4cc5d4becb3e42b6, 0x597f299cfc657e2a, 0x5fcb6fab3ad6faec, 0x6c44198c4a475817]

/-- SHA-384 round constants. -/
def sha512K : List Nat := sha512K0 ++ sha512K1 ++ sha512K2 ++ sha512K3

/-- SHA-256 initial value. -/
def sha256Init : List Nat :=
  [0x6a09e667, 0xbb67ae85, 0x3c6ef372, 0xa54ff53a, 0x510e527f, 0x9b05688c, 0x1f83d9ab, 0x5be0cd19]

/-- SHA-384 initial value. -/
def sha384Init : List Nat :=
  [0xcbbb9d5dc1059ed8, 0x629a292a367cd507, 0x9159015a3070dd17, 0x152fecd8f70e5939,
   0x67332667ffc00b31, 0x8eb44a8768581511, 0xdb0c2e0d64f98fa7, 0x47b5481dbefa4fa4]

/-- Rotation right of a `w`-bit number. -/
def rotr (w n x : Nat) : Nat := (x >>> n) ||| ((x <<< (w - n)) % 2 ^ w)

/-- The rotation amounts of one SHA-2 variant: word width, round constants, the six sigma rows. -/
structure Sha2 where
  w : Nat
  k : List Nat
  bigA : Nat × Nat × Nat
  bigE : Nat × Nat × Nat
  smallA : Nat × Nat × Nat
  smallB : Nat × Nat × Nat
  deriving DecidableEq, Repr

/-- SHA-256 over 32-bit words. -/
def sha2For256 : Sha2 := ⟨32, sha256K, (2, 13, 22), (6, 11, 25), (7, 18, 3), (17, 19, 10)⟩

/-- SHA-384 over 64-bit words. -/
def sha2For384 : Sha2 := ⟨64, sha512K, (28, 34, 39), (14, 18, 41), (1, 8, 7), (19, 61, 6)⟩

/-- XOR of three rotations. -/
def sha2Big (w : Nat) (r : Nat × Nat × Nat) (x : Nat) : Nat := rotr w r.1 x ^^^ rotr w r.2.1 x ^^^ rotr w r.2.2 x

/-- XOR of two rotations and a shift. -/
def sha2Small (w : Nat) (r : Nat × Nat × Nat) (x : Nat) : Nat := rotr w r.1 x ^^^ rotr w r.2.1 x ^^^ (x >>> r.2.2)

/-- Extends the message schedule, held newest first, by `n` words. -/
def sha2Schedule (v : Sha2) : Nat → List Nat → List Nat
  | 0, ws => ws
  | n + 1, ws =>
    let x := (sha2Small v.w v.smallB (ws.getD 1 0) + ws.getD 6 0 + sha2Small v.w v.smallA (ws.getD 14 0) + ws.getD 15 0) % 2 ^ v.w
    sha2Schedule v n (x :: ws)

/-- The eight working words. -/
structure Sha2Regs where
  a : Nat
  b : Nat
  c : Nat
  d : Nat
  e : Nat
  f : Nat
  g : Nat
  h : Nat
  deriving DecidableEq, Repr

/-- One round. -/
def sha2Round (v : Sha2) (r : Sha2Regs) (kw : Nat) : Sha2Regs :=
  let m := 2 ^ v.w
  let ch := (r.e &&& r.f) ^^^ ((m - 1 - r.e) &&& r.g)
  let mj := (r.a &&& r.b) ^^^ (r.a &&& r.c) ^^^ (r.b &&& r.c)
  let t1 := (r.h + sha2Big v.w v.bigE r.e + ch + kw) % m
  let t2 := (sha2Big v.w v.bigA r.a + mj) % m
  ⟨(t1 + t2) % m, r.a, r.b, r.c, (r.d + t1) % m, r.e, r.f, r.g⟩

/-- One block: the chaining value after the block `ws` (sixteen words). -/
def sha2Block (v : Sha2) (hs ws : List Nat) : List Nat :=
  let sched := (sha2Schedule v (v.k.length - 16) ws.reverse).reverse
  let r0 : Sha2Regs := ⟨hs.getD 0 0, hs.getD 1 0, hs.getD 2 0, hs.getD 3 0, hs.getD 4 0, hs.getD 5 0, hs.getD 6 0, hs.getD 7 0⟩
  let r := (List.zipWith (fun k w => k + w) v.k sched).foldl (sha2Round v) r0
  List.zipWith (fun x y => (x + y) % 2 ^ v.w) hs [r.a, r.b, r.c, r.d, r.e, r.f, r.g, r.h]

/-- The padded message: a one bit, zeros, and the bit length in two words. -/
def sha2Pad (v : Sha2) (msg : Bytes) : Bytes :=
  let blk := v.w * 2
  let lenBytes := v.w / 4
  let z := (blk - (msg.length + 1 + lenBytes) % blk) % blk
  msg ++ [byte 0x80] ++ zeros z ++ toBe lenBytes (8 * msg.length)

/-- The digest words. -/
def sha2Words (v : Sha2) (init : List Nat) (msg : Bytes) : List Nat :=
  (chunks (v.w * 2) (sha2Pad v msg)).foldl
    (fun hs blk => sha2Block v hs ((chunks (v.w / 8) blk).map beNat)) init

/-- SHA-256: 32 bytes. -/
def sha256 (msg : Bytes) : Bytes := (sha2Words sha2For256 sha256Init msg).flatMap (toBe 4)

/-- SHA-384: 48 bytes. -/
def sha384 (msg : Bytes) : Bytes := ((sha2Words sha2For384 sha384Init msg).take 6).flatMap (toBe 8)

end Sys2Proof
end

