-- ==== Sys2Proof/Machine/RegMap.lean ====
section
/-!
DEFINITION. The register map: every register that the chapters define, at its BAR0 offset (Tables 18-1 and 18-5),
with the access code of each field (Table 0-2) and its reset value, and a name for every field. A window is a run of
words. A reset value that the spec takes from the image, OTP, the factory, the ledger or the straps stands as 0 here
and is put in place when the device loads it.
-/
namespace Sys2Proof

/-- GLB_IDCODE, RO. -/
def Fld.GLB_IDCODE : Fld := ⟨0, 0, 32⟩
/-- GLB_ID_PART, PART, RO. -/
def Fld.GLB_ID_PART_PART : Fld := ⟨4, 16, 16⟩
/-- GLB_ID_PART, STEPPING, RO. -/
def Fld.GLB_ID_PART_STEPPING : Fld := ⟨4, 8, 8⟩
/-- GLB_ID_PART, DET_CLASS, RO. -/
def Fld.GLB_ID_PART_DET_CLASS : Fld := ⟨4, 0, 8⟩
/-- GLB_ID_MFR, RO. -/
def Fld.GLB_ID_MFR : Fld := ⟨8, 0, 11⟩
/-- GLB_DEVICE_ID[i], RO. -/
def Fld.GLB_DEVICE_ID (i : Nat) : Fld := ⟨0x10 + 4 * i, 0, 32⟩
/-- GLB_OTP, DEBUG_LOCK, RO. -/
def Fld.GLB_OTP_DEBUG_LOCK : Fld := ⟨0x20, 8, 1⟩
/-- GLB_OTP, ML_REVOKED, RO. -/
def Fld.GLB_OTP_ML_REVOKED : Fld := ⟨0x20, 4, 4⟩
/-- GLB_OTP, EC_REVOKED, RO. -/
def Fld.GLB_OTP_EC_REVOKED : Fld := ⟨0x20, 0, 4⟩
/-- GLB_STRAP, TEST_EN, RO. -/
def Fld.GLB_STRAP_TEST_EN : Fld := ⟨0x24, 19, 1⟩
/-- GLB_STRAP, SMB_ADDR, RO. -/
def Fld.GLB_STRAP_SMB_ADDR : Fld := ⟨0x24, 16, 3⟩
/-- GLB_STRAP, NODE_ADDR, RO. -/
def Fld.GLB_STRAP_NODE_ADDR : Fld := ⟨0x24, 1, 15⟩
/-- GLB_LOCK, RO. -/
def Fld.GLB_LOCK : Fld := ⟨0x40, 0, 1⟩
/-- GLB_LOCK_VIOL_CNT, RC. -/
def Fld.GLB_LOCK_VIOL_CNT : Fld := ⟨0x44, 0, 32⟩
/-- GLB_LOCK_VIOL_ADDR, SRC, RO. -/
def Fld.GLB_LOCK_VIOL_ADDR_SRC : Fld := ⟨0x48, 31, 1⟩
/-- GLB_LOCK_VIOL_ADDR, OFFSET, RO. -/
def Fld.GLB_LOCK_VIOL_ADDR_OFFSET : Fld := ⟨0x48, 0, 26⟩
/-- GLB_LOCK_VIOL_DATA, RO. -/
def Fld.GLB_LOCK_VIOL_DATA : Fld := ⟨0x4c, 0, 32⟩

/-- IMG_STATE, FAIL, RO. -/
def Fld.IMG_STATE_FAIL : Fld := ⟨0x10000, 24, 8⟩
/-- IMG_STATE, PHASE, RO. -/
def Fld.IMG_STATE_PHASE : Fld := ⟨0x10000, 16, 4⟩
/-- IMG_STATE, HK_DONE, RO. -/
def Fld.IMG_STATE_HK_DONE : Fld := ⟨0x10000, 8, 1⟩
/-- IMG_STATE, START_BANK, RO. -/
def Fld.IMG_STATE_START_BANK : Fld := ⟨0x10000, 1, 1⟩
/-- IMG_STATE, FORCE_BANK, RO. -/
def Fld.IMG_STATE_FORCE_BANK : Fld := ⟨0x10000, 0, 1⟩
/-- IMG_BANK[i], EPOCH, RO. -/
def Fld.IMG_BANK_EPOCH (i : Nat) : Fld := ⟨0x10004 + 4 * i, 16, 16⟩
/-- IMG_BANK[i], ARMED, RO. -/
def Fld.IMG_BANK_ARMED (i : Nat) : Fld := ⟨0x10004 + 4 * i, 8, 1⟩
/-- IMG_BANK[i], STATE, RO. -/
def Fld.IMG_BANK_STATE (i : Nat) : Fld := ⟨0x10004 + 4 * i, 0, 3⟩
/-- IMG_EPOCH, MANIFEST, RO. -/
def Fld.IMG_EPOCH_MANIFEST : Fld := ⟨0x1000c, 16, 16⟩
/-- IMG_EPOCH, IMAGE, RO. -/
def Fld.IMG_EPOCH_IMAGE : Fld := ⟨0x1000c, 0, 16⟩
/-- IMG_ROLL, STATE, RO. -/
def Fld.IMG_ROLL_STATE : Fld := ⟨0x10010, 29, 3⟩
/-- IMG_ROLL, STRAND, RO. -/
def Fld.IMG_ROLL_STRAND : Fld := ⟨0x10010, 8, 5⟩
/-- IMG_ROLL, TARGET, RO. -/
def Fld.IMG_ROLL_TARGET : Fld := ⟨0x10010, 4, 1⟩
/-- IMG_FAULT, RO. -/
def Fld.IMG_FAULT : Fld := ⟨0x10014, 0, 8⟩
/-- IMG_ROLL_DONE, RO. -/
def Fld.IMG_ROLL_DONE : Fld := ⟨0x10018, 0, 32⟩
/-- IMG_NEXT, FROM_REC, RO. -/
def Fld.IMG_NEXT_FROM_REC : Fld := ⟨0x1001c, 1, 1⟩
/-- IMG_NEXT, BANK, RO. -/
def Fld.IMG_NEXT_BANK : Fld := ⟨0x1001c, 0, 1⟩
/-- IMG_CMDREADY_US, RO. -/
def Fld.IMG_CMDREADY_US : Fld := ⟨0x10020, 0, 32⟩
/-- IMG_STRANDS_US, RO. -/
def Fld.IMG_STRANDS_US : Fld := ⟨0x10024, 0, 32⟩
/-- IMG_STRAND_SECT, RO. -/
def Fld.IMG_STRAND_SECT : Fld := ⟨0x10028, 0, 32⟩
/-- IMG_HBM_REGION[i], LK. -/
def Fld.IMG_HBM_REGION (i : Nat) : Fld := ⟨0x10040 + 4 * i, 0, 18⟩
/-- IMG_DDR_EXPECT, RATE, LK. -/
def Fld.IMG_DDR_EXPECT_RATE : Fld := ⟨0x10060, 16, 2⟩
/-- IMG_DDR_EXPECT, SIZE16, LK. -/
def Fld.IMG_DDR_EXPECT_SIZE16 : Fld := ⟨0x10060, 4, 8⟩
/-- IMG_DDR_EXPECT, CHANNELS, LK. -/
def Fld.IMG_DDR_EXPECT_CHANNELS : Fld := ⟨0x10060, 0, 4⟩
/-- IMG_REC_ADDR, RW. -/
def Fld.IMG_REC_ADDR : Fld := ⟨0x10100, 0, 32⟩
/-- IMG_REC_CMD, RW1S. -/
def Fld.IMG_REC_CMD : Fld := ⟨0x10104, 0, 3⟩
/-- IMG_REC_STATUS, FAILED, RO. -/
def Fld.IMG_REC_STATUS_FAILED : Fld := ⟨0x10108, 0, 1⟩
/-- IMG_REC_STATUS, BUSY, RO. -/
def Fld.IMG_REC_STATUS_BUSY : Fld := ⟨0x10108, 1, 1⟩
/-- IMG_REC_DATA[i], RW. -/
def Fld.IMG_REC_DATA (i : Nat) : Fld := ⟨0x10200 + 4 * i, 0, 32⟩

/-- HIF_STATUS, D3HOT, RO. -/
def Fld.HIF_STATUS_D3HOT : Fld := ⟨0x20000, 13, 1⟩
/-- HIF_STATUS, CMD_READY, RO. -/
def Fld.HIF_STATUS_CMD_READY : Fld := ⟨0x20000, 12, 1⟩
/-- HIF_STATUS, IDE, RO. -/
def Fld.HIF_STATUS_IDE : Fld := ⟨0x20000, 11, 1⟩
/-- HIF_STATUS, BELOW_MIN, RO. -/
def Fld.HIF_STATUS_BELOW_MIN : Fld := ⟨0x20000, 10, 1⟩
/-- HIF_STATUS, FLIT, RO. -/
def Fld.HIF_STATUS_FLIT : Fld := ⟨0x20000, 9, 1⟩
/-- HIF_STATUS, WIDTH, RO. -/
def Fld.HIF_STATUS_WIDTH : Fld := ⟨0x20000, 4, 5⟩
/-- HIF_STATUS, RATE, RO. -/
def Fld.HIF_STATUS_RATE : Fld := ⟨0x20000, 1, 3⟩
/-- HIF_STATUS, LINK_UP, RO. -/
def Fld.HIF_STATUS_LINK_UP : Fld := ⟨0x20000, 0, 1⟩
/-- HIF_CLASS_RING, LK. -/
def Fld.HIF_CLASS_RING : Fld := ⟨0x20010, 0, 32⟩
/-- HIF_COVE_RING, LK. -/
def Fld.HIF_COVE_RING : Fld := ⟨0x20014, 0, 32⟩
/-- HIF_BAD_ACCESS_CNT, RC. -/
def Fld.HIF_BAD_ACCESS_CNT : Fld := ⟨0x20020, 0, 32⟩
/-- HIF_WIN_ACK_BAD_CNT, RC. -/
def Fld.HIF_WIN_ACK_BAD_CNT : Fld := ⟨0x20024, 0, 32⟩
/-- HIF_TAG_BUSY_CNT, RC. -/
def Fld.HIF_TAG_BUSY_CNT : Fld := ⟨0x20028, 0, 32⟩
/-- HIF_LOAD_STATE, WAITING, RO. -/
def Fld.HIF_LOAD_STATE_WAITING : Fld := ⟨0x20030, 16, 9⟩
/-- HIF_LOAD_STATE, ACTIVE, RO. -/
def Fld.HIF_LOAD_STATE_ACTIVE : Fld := ⟨0x20030, 0, 4⟩
/-- HIF_STAGE_MIB, RO. -/
def Fld.HIF_STAGE_MIB : Fld := ⟨0x20034, 0, 32⟩
/-- HIF_SMB_ADDR, RO. -/
def Fld.HIF_SMB_ADDR : Fld := ⟨0x20040, 0, 7⟩
/-- HIF_RING_BASE_LO[i], RW. -/
def Fld.HIF_RING_BASE_LO (i : Nat) : Fld := ⟨0x20100 + 0x20 * i, 0, 32⟩
/-- HIF_RING_BASE_HI[i], RW. -/
def Fld.HIF_RING_BASE_HI (i : Nat) : Fld := ⟨0x20104 + 0x20 * i, 0, 32⟩
/-- HIF_RING_CTL[i], EN, RW. -/
def Fld.HIF_RING_CTL_EN (i : Nat) : Fld := ⟨0x20108 + 0x20 * i, 31, 1⟩
/-- HIF_RING_CTL[i], HALT, RO. -/
def Fld.HIF_RING_CTL_HALT (i : Nat) : Fld := ⟨0x20108 + 0x20 * i, 30, 1⟩
/-- HIF_RING_CTL[i], SIZE_LOG2, RW. -/
def Fld.HIF_RING_CTL_SIZE_LOG2 (i : Nat) : Fld := ⟨0x20108 + 0x20 * i, 0, 5⟩
/-- HIF_RING_PTR[i], PHASE, RO. -/
def Fld.HIF_RING_PTR_PHASE (i : Nat) : Fld := ⟨0x2010c + 0x20 * i, 20, 1⟩
/-- HIF_RING_PTR[i], PTR, RO. -/
def Fld.HIF_RING_PTR_PTR (i : Nat) : Fld := ⟨0x2010c + 0x20 * i, 0, 20⟩
/-- HIF_RING_IRQ[i], EN, RW. -/
def Fld.HIF_RING_IRQ_EN (i : Nat) : Fld := ⟨0x20110 + 0x20 * i, 31, 1⟩
/-- HIF_RING_IRQ[i], VECTOR, RW. -/
def Fld.HIF_RING_IRQ_VECTOR (i : Nat) : Fld := ⟨0x20110 + 0x20 * i, 16, 11⟩
/-- HIF_RING_IRQ[i], COUNT, RW. -/
def Fld.HIF_RING_IRQ_COUNT (i : Nat) : Fld := ⟨0x20110 + 0x20 * i, 8, 8⟩
/-- HIF_RING_IRQ[i], TIME_US, RW. -/
def Fld.HIF_RING_IRQ_TIME_US (i : Nat) : Fld := ⟨0x20110 + 0x20 * i, 0, 8⟩
/-- HIF_RING_LOST_CNT[i], RC. -/
def Fld.HIF_RING_LOST_CNT (i : Nat) : Fld := ⟨0x20114 + 0x20 * i, 0, 32⟩
/-- HIF_WIN_IRQ, EN, RW. -/
def Fld.HIF_WIN_IRQ_EN : Fld := ⟨0x20740, 31, 1⟩
/-- HIF_WIN_IRQ, VECTOR, RW. -/
def Fld.HIF_WIN_IRQ_VECTOR : Fld := ⟨0x20740, 16, 11⟩
/-- HIF_WIN_IRQ, COUNT, RW. -/
def Fld.HIF_WIN_IRQ_COUNT : Fld := ⟨0x20740, 8, 8⟩
/-- HIF_WIN_IRQ, TIME_US, RW. -/
def Fld.HIF_WIN_IRQ_TIME_US : Fld := ⟨0x20740, 0, 8⟩
/-- HIF_UNIT_STATE[i], SKEW, RO. -/
def Fld.HIF_UNIT_STATE_SKEW (i : Nat) : Fld := ⟨0x21000 + 4 * i, 31, 1⟩
/-- HIF_UNIT_STATE[i], BUSY, RO. -/
def Fld.HIF_UNIT_STATE_BUSY (i : Nat) : Fld := ⟨0x21000 + 4 * i, 16, 1⟩
/-- HIF_UNIT_STATE[i], CMD, RO. -/
def Fld.HIF_UNIT_STATE_CMD (i : Nat) : Fld := ⟨0x21000 + 4 * i, 8, 4⟩
/-- HIF_UNIT_STATE[i], OBS, RO. -/
def Fld.HIF_UNIT_STATE_OBS (i : Nat) : Fld := ⟨0x21000 + 4 * i, 0, 4⟩
/-- HIF_SKEW[i], W1C. -/
def Fld.HIF_SKEW (i : Nat) : Fld := ⟨0x21400 + 4 * i, 0, 32⟩

/-- TID_NOW, RO. -/
def Fld.TID_NOW : Fld := ⟨0x30000, 0, 32⟩
/-- TID_RELEASE_LEAD, RO. -/
def Fld.TID_RELEASE_LEAD : Fld := ⟨0x30008, 0, 16⟩
/-- TID_CLASS_WIN[i], WIN_US, LK. -/
def Fld.TID_CLASS_WIN_WIN_US (i : Nat) : Fld := ⟨0x30100 + 0x20 * i, 0, 16⟩
/-- TID_CLASS_CHUNK[i], CHUNK_US, LK. -/
def Fld.TID_CLASS_CHUNK_CHUNK_US (i : Nat) : Fld := ⟨0x30104 + 0x20 * i, 0, 16⟩
/-- TID_CLASS_CLOSE[i], CLOSE_US, LK. -/
def Fld.TID_CLASS_CLOSE_CLOSE_US (i : Nat) : Fld := ⟨0x30108 + 0x20 * i, 0, 16⟩
/-- TID_CLASS_CTL[i], STREAM_IDLE_US, LK. -/
def Fld.TID_CLASS_CTL_STREAM_IDLE_US (i : Nat) : Fld := ⟨0x3010c + 0x20 * i, 16, 16⟩
/-- TID_CLASS_CTL[i], SEED_SRC, LK. -/
def Fld.TID_CLASS_CTL_SEED_SRC (i : Nat) : Fld := ⟨0x3010c + 0x20 * i, 4, 1⟩
/-- TID_CLASS_CTL[i], BLOCK_DISP, LK. -/
def Fld.TID_CLASS_CTL_BLOCK_DISP (i : Nat) : Fld := ⟨0x3010c + 0x20 * i, 3, 1⟩
/-- TID_CLASS_CTL[i], STREAMED, LK. -/
def Fld.TID_CLASS_CTL_STREAMED (i : Nat) : Fld := ⟨0x3010c + 0x20 * i, 2, 1⟩
/-- TID_CLASS_CTL[i], FAIL_ACTION, LK. -/
def Fld.TID_CLASS_CTL_FAIL_ACTION (i : Nat) : Fld := ⟨0x3010c + 0x20 * i, 0, 2⟩
/-- TID_CLASS_ADMIT_CNT[i], RC. -/
def Fld.TID_CLASS_ADMIT_CNT (i : Nat) : Fld := ⟨0x30110 + 0x20 * i, 0, 32⟩
/-- TID_CLASS_UNSCR_CNT[i], RC. -/
def Fld.TID_CLASS_UNSCR_CNT (i : Nat) : Fld := ⟨0x30114 + 0x20 * i, 0, 32⟩
/-- TID_CLASS_LATE_CNT[i], RC. -/
def Fld.TID_CLASS_LATE_CNT (i : Nat) : Fld := ⟨0x30118 + 0x20 * i, 0, 32⟩
/-- TID_CLASS_SHIFT_CNT[i], RC. -/
def Fld.TID_CLASS_SHIFT_CNT (i : Nat) : Fld := ⟨0x3011c + 0x20 * i, 0, 32⟩
/-- TID_STRAND_CFG[i], EPOCH, RO. -/
def Fld.TID_STRAND_CFG_EPOCH (i : Nat) : Fld := ⟨0x30200 + 0x10 * i, 16, 16⟩
/-- TID_STRAND_CFG[i], FLOOR, RO. -/
def Fld.TID_STRAND_CFG_FLOOR (i : Nat) : Fld := ⟨0x30200 + 0x10 * i, 3, 2⟩
/-- TID_STRAND_CFG[i], CLASS, RO. -/
def Fld.TID_STRAND_CFG_CLASS (i : Nat) : Fld := ⟨0x30200 + 0x10 * i, 0, 3⟩
/-- TID_STRAND_STATE[i], INSIDE, RO. -/
def Fld.TID_STRAND_STATE_INSIDE (i : Nat) : Fld := ⟨0x30204 + 0x10 * i, 16, 16⟩
/-- TID_STRAND_STATE[i], FAULT, RO. -/
def Fld.TID_STRAND_STATE_FAULT (i : Nat) : Fld := ⟨0x30204 + 0x10 * i, 8, 8⟩
/-- TID_STRAND_STATE[i], STATE, RO. -/
def Fld.TID_STRAND_STATE_STATE (i : Nat) : Fld := ⟨0x30204 + 0x10 * i, 0, 3⟩
/-- TID_STRAND_SEQ[i], RO. -/
def Fld.TID_STRAND_SEQ (i : Nat) : Fld := ⟨0x30208 + 0x10 * i, 0, 32⟩
/-- TID_STRAND_SHARE_A[i], GATHER, RO. -/
def Fld.TID_STRAND_SHARE_A_GATHER (i : Nat) : Fld := ⟨0x30400 + 8 * i, 24, 8⟩
/-- TID_STRAND_SHARE_A[i], VITRINE, RO. -/
def Fld.TID_STRAND_SHARE_A_VITRINE (i : Nat) : Fld := ⟨0x30400 + 8 * i, 16, 8⟩
/-- TID_STRAND_SHARE_A[i], CATALOGUE, RO. -/
def Fld.TID_STRAND_SHARE_A_CATALOGUE (i : Nat) : Fld := ⟨0x30400 + 8 * i, 8, 8⟩
/-- TID_STRAND_SHARE_A[i], INTAKE, RO. -/
def Fld.TID_STRAND_SHARE_A_INTAKE (i : Nat) : Fld := ⟨0x30400 + 8 * i, 0, 8⟩
/-- TID_STRAND_SHARE_B[i], VERDICT, RO. -/
def Fld.TID_STRAND_SHARE_B_VERDICT (i : Nat) : Fld := ⟨0x30404 + 8 * i, 24, 8⟩
/-- TID_STRAND_SHARE_B[i], GUARD, RO. -/
def Fld.TID_STRAND_SHARE_B_GUARD (i : Nat) : Fld := ⟨0x30404 + 8 * i, 16, 8⟩
/-- TID_STRAND_SHARE_B[i], GALLERIES, RO. -/
def Fld.TID_STRAND_SHARE_B_GALLERIES (i : Nat) : Fld := ⟨0x30404 + 8 * i, 8, 8⟩
/-- TID_STRAND_SHARE_B[i], ARBOR, RO. -/
def Fld.TID_STRAND_SHARE_B_ARBOR (i : Nat) : Fld := ⟨0x30404 + 8 * i, 0, 8⟩
/-- TID_STAGE_RESV[i], ENG_BUILT, RO. -/
def Fld.TID_STAGE_RESV_ENG_BUILT (i : Nat) : Fld := ⟨0x30500 + 4 * i, 24, 8⟩
/-- TID_STAGE_RESV[i], ENG_LIVE, RO. -/
def Fld.TID_STAGE_RESV_ENG_LIVE (i : Nat) : Fld := ⟨0x30500 + 4 * i, 16, 8⟩
/-- TID_STAGE_RESV[i], RESV, RO. -/
def Fld.TID_STAGE_RESV_RESV (i : Nat) : Fld := ⟨0x30500 + 4 * i, 0, 9⟩
/-- TID_STAGE_GRANT_CNT[i], RC. -/
def Fld.TID_STAGE_GRANT_CNT (i : Nat) : Fld := ⟨0x30540 + 8 * i, 0, 32⟩
/-- TID_STAGE_SPARE_CNT[i], RC. -/
def Fld.TID_STAGE_SPARE_CNT (i : Nat) : Fld := ⟨0x30544 + 8 * i, 0, 32⟩
/-- TID_SAT_STATUS, W1C. -/
def Fld.TID_SAT_STATUS : Fld := ⟨0x30580, 0, 6⟩
/-- TID_RATE, RW. -/
def Fld.TID_RATE : Fld := ⟨0x30600, 0, 32⟩
/-- TID_SLEW, WO. -/
def Fld.TID_SLEW : Fld := ⟨0x30604, 0, 32⟩
/-- TID_SLEW_LEFT, RO. -/
def Fld.TID_SLEW_LEFT : Fld := ⟨0x30608, 0, 32⟩
/-- TID_SLEW_PPM, RW. -/
def Fld.TID_SLEW_PPM : Fld := ⟨0x3060c, 0, 7⟩
/-- TID_SET, RW. -/
def Fld.TID_SET : Fld := ⟨0x30610, 0, 32⟩
/-- TID_SET_HI, RW. -/
def Fld.TID_SET_HI : Fld := ⟨0x30614, 0, 32⟩
/-- TID_SET_CMD, RW1S. -/
def Fld.TID_SET_CMD : Fld := ⟨0x30618, 0, 1⟩
/-- TID_PPS, RO. -/
def Fld.TID_PPS : Fld := ⟨0x30620, 0, 32⟩
/-- TID_TB_STATE, SLEWING, RO. -/
def Fld.TID_TB_STATE_SLEWING : Fld := ⟨0x30628, 3, 1⟩
/-- TID_TB_STATE, SET_REFUSED, W1C. -/
def Fld.TID_TB_STATE_SET_REFUSED : Fld := ⟨0x30628, 2, 1⟩
/-- TID_TB_STATE, PPS_VALID, RO. -/
def Fld.TID_TB_STATE_PPS_VALID : Fld := ⟨0x30628, 1, 1⟩
/-- TID_TB_STATE, PLL_LOCKED, RO. -/
def Fld.TID_TB_STATE_PLL_LOCKED : Fld := ⟨0x30628, 0, 1⟩
/-- TID_PPS_CNT, RC. -/
def Fld.TID_PPS_CNT : Fld := ⟨0x3062c, 0, 32⟩

/-- INT_PORT_CTL[i], LINK_UP, RO. -/
def Fld.INT_PORT_CTL_LINK_UP (i : Nat) : Fld := ⟨0x40000 + 0x40 * i, 31, 1⟩
/-- INT_PORT_CTL[i], MSEC_SCI, LK. -/
def Fld.INT_PORT_CTL_MSEC_SCI (i : Nat) : Fld := ⟨0x40000 + 0x40 * i, 4, 1⟩
/-- INT_PORT_CTL[i], MSEC_EN, LK. -/
def Fld.INT_PORT_CTL_MSEC_EN (i : Nat) : Fld := ⟨0x40000 + 0x40 * i, 3, 1⟩
/-- INT_PORT_CTL[i], PHY_MODE, LK. -/
def Fld.INT_PORT_CTL_PHY_MODE (i : Nat) : Fld := ⟨0x40000 + 0x40 * i, 1, 2⟩
/-- INT_PORT_CTL[i], ENABLE, LK. -/
def Fld.INT_PORT_CTL_ENABLE (i : Nat) : Fld := ⟨0x40000 + 0x40 * i, 0, 1⟩
/-- INT_TS_DLY[i], TX_DLY_PS, RO. -/
def Fld.INT_TS_DLY_TX_DLY_PS (i : Nat) : Fld := ⟨0x40004 + 0x40 * i, 16, 16⟩
/-- INT_TS_DLY[i], RX_DLY_PS, RO. -/
def Fld.INT_TS_DLY_RX_DLY_PS (i : Nat) : Fld := ⟨0x40004 + 0x40 * i, 0, 16⟩
/-- INT_PORT_RX_CNT[i], RC. -/
def Fld.INT_PORT_RX_CNT (i : Nat) : Fld := ⟨0x40008 + 0x40 * i, 0, 32⟩
/-- INT_PORT_ERR_CNT[i], RC. -/
def Fld.INT_PORT_ERR_CNT (i : Nat) : Fld := ⟨0x4000c + 0x40 * i, 0, 32⟩
/-- INT_PORT_MSEC_DROP_CNT[i], RC. -/
def Fld.INT_PORT_MSEC_DROP_CNT (i : Nat) : Fld := ⟨0x40010 + 0x40 * i, 0, 32⟩
/-- INT_PORT_CTRL_CNT[i], RC. -/
def Fld.INT_PORT_CTRL_CNT (i : Nat) : Fld := ⟨0x40014 + 0x40 * i, 0, 32⟩
/-- INT_PREREADY_CNT, RC. -/
def Fld.INT_PREREADY_CNT : Fld := ⟨0x40100, 0, 32⟩
/-- INT_PARSE_CNT, RC. -/
def Fld.INT_PARSE_CNT : Fld := ⟨0x40104, 0, 32⟩
/-- INT_HOLD_CELLS, RO. -/
def Fld.INT_HOLD_CELLS : Fld := ⟨0x40108, 0, 32⟩
/-- INT_HOLD_USED, RO. -/
def Fld.INT_HOLD_USED : Fld := ⟨0x4010c, 0, 32⟩
/-- INT_HOLD_FULL_CNT, RC. -/
def Fld.INT_HOLD_FULL_CNT : Fld := ⟨0x40110, 0, 32⟩
/-- INT_STREAM_OPEN, RO. -/
def Fld.INT_STREAM_OPEN : Fld := ⟨0x40114, 0, 17⟩
/-- INT_STREAM_FULL_CNT, RC. -/
def Fld.INT_STREAM_FULL_CNT : Fld := ⟨0x40118, 0, 32⟩
/-- INT_CLASS_DEFAULT, CLASS, LK. -/
def Fld.INT_CLASS_DEFAULT_CLASS : Fld := ⟨0x4011c, 0, 3⟩
/-- INT_CLASS_DEFAULT, DSET, LK. -/
def Fld.INT_CLASS_DEFAULT_DSET : Fld := ⟨0x4011c, 3, 6⟩
/-- INT_CLASS_DEFAULT, STRAND_SEL, LK. -/
def Fld.INT_CLASS_DEFAULT_STRAND_SEL : Fld := ⟨0x4011c, 9, 1⟩
/-- INT_SA_SEL, XPN, RW. -/
def Fld.INT_SA_SEL_XPN : Fld := ⟨0x40200, 11, 1⟩
/-- INT_SA_SEL, DIR, RW. -/
def Fld.INT_SA_SEL_DIR : Fld := ⟨0x40200, 10, 1⟩
/-- INT_SA_SEL, AN, RW. -/
def Fld.INT_SA_SEL_AN : Fld := ⟨0x40200, 8, 2⟩
/-- INT_SA_SEL, SC, RW. -/
def Fld.INT_SA_SEL_SC : Fld := ⟨0x40200, 4, 4⟩
/-- INT_SA_SEL, PORT, RW. -/
def Fld.INT_SA_SEL_PORT : Fld := ⟨0x40200, 0, 2⟩
/-- INT_SA_KEY[i], WO. -/
def Fld.INT_SA_KEY (i : Nat) : Fld := ⟨0x40204 + 4 * i, 0, 32⟩
/-- INT_SA_SALT[i], WO. -/
def Fld.INT_SA_SALT (i : Nat) : Fld := ⟨0x40224 + 4 * i, 0, 32⟩
/-- INT_SA_SSCI, WO. -/
def Fld.INT_SA_SSCI : Fld := ⟨0x40230, 0, 32⟩
/-- INT_SA_PN, RW. -/
def Fld.INT_SA_PN : Fld := ⟨0x40234, 0, 32⟩
/-- INT_SA_PN_HI, RW. -/
def Fld.INT_SA_PN_HI : Fld := ⟨0x40238, 0, 32⟩
/-- INT_SA_CMD, RW1S. -/
def Fld.INT_SA_CMD : Fld := ⟨0x4023c, 0, 2⟩
/-- INT_SA_SCI, RW. -/
def Fld.INT_SA_SCI : Fld := ⟨0x40240, 0, 32⟩
/-- INT_SA_SCI_HI, RW. -/
def Fld.INT_SA_SCI_HI : Fld := ⟨0x40244, 0, 32⟩
/-- INT_SA_WIN, RW. -/
def Fld.INT_SA_WIN : Fld := ⟨0x40248, 0, 32⟩
/-- INT_RULE[i], LK. -/
def Fld.INT_RULE (i : Nat) : Fld := ⟨0x41000 + 4 * i, 0, 32⟩
/-- INT_DSET[i], LK. -/
def Fld.INT_DSET (i : Nat) : Fld := ⟨0x41800 + 4 * i, 0, 32⟩
/-- INT_DESC[i], LK. -/
def Fld.INT_DESC (i : Nat) : Fld := ⟨0x42000 + 4 * i, 0, 32⟩
/-- INT_ISO_LAYOUT[i], LK. -/
def Fld.INT_ISO_LAYOUT (i : Nat) : Fld := ⟨0x46000 + 4 * i, 0, 32⟩
/-- INT_JSON_PATH[i], LK. -/
def Fld.INT_JSON_PATH (i : Nat) : Fld := ⟨0x47000 + 4 * i, 0, 32⟩
/-- INT_JSON_KEYS[i], LK. -/
def Fld.INT_JSON_KEYS (i : Nat) : Fld := ⟨0x49000 + 4 * i, 0, 32⟩

/-- REL_MAX_SHIFT, LK. -/
def Fld.REL_MAX_SHIFT : Fld := ⟨0x50000, 0, 12⟩
/-- REL_NOTICE_ETYPE, LK. -/
def Fld.REL_NOTICE_ETYPE : Fld := ⟨0x50004, 0, 16⟩
/-- REL_TAP_ETYPE, LK. -/
def Fld.REL_TAP_ETYPE : Fld := ⟨0x50008, 0, 16⟩
/-- REL_TAP_DMAC, LK. -/
def Fld.REL_TAP_DMAC : Fld := ⟨0x50010, 0, 32⟩
/-- REL_TAP_DMAC_HI, LK. -/
def Fld.REL_TAP_DMAC_HI : Fld := ⟨0x50014, 0, 16⟩
/-- REL_TAP_SMAC, LK. -/
def Fld.REL_TAP_SMAC : Fld := ⟨0x50018, 0, 32⟩
/-- REL_TAP_SMAC_HI, LK. -/
def Fld.REL_TAP_SMAC_HI : Fld := ⟨0x5001c, 0, 16⟩
/-- REL_PN_THRESH, RW. -/
def Fld.REL_PN_THRESH : Fld := ⟨0x50020, 0, 32⟩
/-- REL_PN_THRESH_HI, RW. -/
def Fld.REL_PN_THRESH_HI : Fld := ⟨0x50024, 0, 32⟩
/-- REL_PORT_STATE[i], TX_AN, RO. -/
def Fld.REL_PORT_STATE_TX_AN (i : Nat) : Fld := ⟨0x50040 + 4 * i, 8, 2⟩
/-- REL_PORT_STATE[i], TX, RO. -/
def Fld.REL_PORT_STATE_TX (i : Nat) : Fld := ⟨0x50040 + 4 * i, 0, 2⟩
/-- REL_CAL_USED[i], RO. -/
def Fld.REL_CAL_USED (i : Nat) : Fld := ⟨0x50050 + 4 * i, 0, 32⟩
/-- REL_CAL_FULL_CNT, RC. -/
def Fld.REL_CAL_FULL_CNT : Fld := ⟨0x50060, 0, 32⟩
/-- REL_EGRESS_LOST_CNT[i], RC. -/
def Fld.REL_EGRESS_LOST_CNT (i : Nat) : Fld := ⟨0x50064 + 4 * i, 0, 32⟩
/-- REL_TAP_Q_SIZE, RO. -/
def Fld.REL_TAP_Q_SIZE : Fld := ⟨0x50070, 0, 32⟩
/-- REL_TAP_Q_USED, RO. -/
def Fld.REL_TAP_Q_USED : Fld := ⟨0x50074, 0, 32⟩
/-- REL_TAP_BLOCK_CNT, RC. -/
def Fld.REL_TAP_BLOCK_CNT : Fld := ⟨0x50078, 0, 32⟩
/-- REL_TAP_GAP_CNT, RC. -/
def Fld.REL_TAP_GAP_CNT : Fld := ⟨0x5007c, 0, 32⟩
/-- REL_CLASS_OUT[i], FILL, LK. -/
def Fld.REL_CLASS_OUT_FILL (i : Nat) : Fld := ⟨0x50100 + 4 * i, 8, 8⟩
/-- REL_CLASS_OUT[i], TAP_REDACT, LK. -/
def Fld.REL_CLASS_OUT_TAP_REDACT (i : Nat) : Fld := ⟨0x50100 + 4 * i, 7, 1⟩
/-- REL_CLASS_OUT[i], TAP_MODE, LK. -/
def Fld.REL_CLASS_OUT_TAP_MODE (i : Nat) : Fld := ⟨0x50100 + 4 * i, 5, 2⟩
/-- REL_CLASS_OUT[i], ANN_HEX, LK. -/
def Fld.REL_CLASS_OUT_ANN_HEX (i : Nat) : Fld := ⟨0x50100 + 4 * i, 4, 1⟩
/-- REL_CLASS_OUT[i], ANN_MODE, LK. -/
def Fld.REL_CLASS_OUT_ANN_MODE (i : Nat) : Fld := ⟨0x50100 + 4 * i, 2, 2⟩

/-- CAT_VOCAB_STATE[i], VALID, RO. -/
def Fld.CAT_VOCAB_STATE_VALID (i : Nat) : Fld := ⟨0x60000 + 0x10 * i, 31, 1⟩
/-- CAT_VOCAB_STATE[i], BAD, RO. -/
def Fld.CAT_VOCAB_STATE_BAD (i : Nat) : Fld := ⟨0x60000 + 0x10 * i, 30, 1⟩
/-- CAT_VOCAB_STATE[i], TOKENS, RO. -/
def Fld.CAT_VOCAB_STATE_TOKENS (i : Nat) : Fld := ⟨0x60000 + 0x10 * i, 0, 19⟩
/-- CAT_VOCAB_VER[i], RO. -/
def Fld.CAT_VOCAB_VER (i : Nat) : Fld := ⟨0x60004 + 0x10 * i, 0, 32⟩
/-- CAT_VOCAB_KIB[i], RO. -/
def Fld.CAT_VOCAB_KIB (i : Nat) : Fld := ⟨0x60008 + 0x10 * i, 0, 16⟩
/-- CAT_VOCAB_PINS[i], OLD, RO. -/
def Fld.CAT_VOCAB_PINS_OLD (i : Nat) : Fld := ⟨0x6000c + 0x10 * i, 16, 16⟩
/-- CAT_VOCAB_PINS[i], CUR, RO. -/
def Fld.CAT_VOCAB_PINS_CUR (i : Nat) : Fld := ⟨0x6000c + 0x10 * i, 0, 16⟩
/-- CAT_AUT_STATE[i], VALID, RO. -/
def Fld.CAT_AUT_STATE_VALID (i : Nat) : Fld := ⟨0x60100 + 8 * i, 31, 1⟩
/-- CAT_AUT_STATE[i], BAD, RO. -/
def Fld.CAT_AUT_STATE_BAD (i : Nat) : Fld := ⟨0x60100 + 8 * i, 30, 1⟩
/-- CAT_AUT_STATE[i], VOCAB, RO. -/
def Fld.CAT_AUT_STATE_VOCAB (i : Nat) : Fld := ⟨0x60100 + 8 * i, 17, 4⟩
/-- CAT_AUT_STATE[i], STATES, RO. -/
def Fld.CAT_AUT_STATE_STATES (i : Nat) : Fld := ⟨0x60100 + 8 * i, 0, 17⟩
/-- CAT_AUT_VER[i], RO. -/
def Fld.CAT_AUT_VER (i : Nat) : Fld := ⟨0x60104 + 8 * i, 0, 32⟩
/-- CAT_SRAM_KIB, RO. -/
def Fld.CAT_SRAM_KIB : Fld := ⟨0x60200, 0, 16⟩
/-- CAT_MASK_CACHE, LK. -/
def Fld.CAT_MASK_CACHE : Fld := ⟨0x60204, 0, 4⟩
/-- CAT_ENG_LIVE, RO. -/
def Fld.CAT_ENG_LIVE : Fld := ⟨0x60208, 0, 12⟩
/-- CAT_UNIT_CNT, RC. -/
def Fld.CAT_UNIT_CNT : Fld := ⟨0x60210, 0, 32⟩
/-- CAT_FALLBACK_CNT, RC. -/
def Fld.CAT_FALLBACK_CNT : Fld := ⟨0x60214, 0, 32⟩
/-- CAT_QFULL_CNT, RC. -/
def Fld.CAT_QFULL_CNT : Fld := ⟨0x60218, 0, 32⟩
/-- CAT_MASK_MISS_CNT, RC. -/
def Fld.CAT_MASK_MISS_CNT : Fld := ⟨0x6021c, 0, 32⟩
/-- CAT_GRAMMAR_DEAD_CNT, RC. -/
def Fld.CAT_GRAMMAR_DEAD_CNT : Fld := ⟨0x60220, 0, 32⟩
/-- CAT_SPEC_DISCARD_CNT, RC. -/
def Fld.CAT_SPEC_DISCARD_CNT : Fld := ⟨0x60224, 0, 32⟩
/-- CAT_NGRAM_TRUNC_CNT, RC. -/
def Fld.CAT_NGRAM_TRUNC_CNT : Fld := ⟨0x60228, 0, 32⟩
/-- CAT_ECC_CNT, RC. -/
def Fld.CAT_ECC_CNT : Fld := ⟨0x6022c, 0, 32⟩
/-- CAT_STRAND_CTL[i], NGRAM_MAX, LK. -/
def Fld.CAT_STRAND_CTL_NGRAM_MAX (i : Nat) : Fld := ⟨0x60300 + 4 * i, 0, 12⟩
/-- CAT_SLOT_MAP[i], LK. -/
def Fld.CAT_SLOT_MAP (i : Nat) : Fld := ⟨0x61000 + 4 * i, 0, 32⟩

/-- VIT_TABLE_CFG[i], EN, LK. -/
def Fld.VIT_TABLE_CFG_EN (i : Nat) : Fld := ⟨0x70000 + 0x20 * i, 31, 1⟩
/-- VIT_TABLE_CFG[i], STACK, LK. -/
def Fld.VIT_TABLE_CFG_STACK (i : Nat) : Fld := ⟨0x70000 + 0x20 * i, 15, 2⟩
/-- VIT_TABLE_CFG[i], PORT_IN_ATTR, LK. -/
def Fld.VIT_TABLE_CFG_PORT_IN_ATTR (i : Nat) : Fld := ⟨0x70000 + 0x20 * i, 14, 1⟩
/-- VIT_TABLE_CFG[i], REFRESH, LK. -/
def Fld.VIT_TABLE_CFG_REFRESH (i : Nat) : Fld := ⟨0x70000 + 0x20 * i, 13, 1⟩
/-- VIT_TABLE_CFG[i], AGE, LK. -/
def Fld.VIT_TABLE_CFG_AGE (i : Nat) : Fld := ⟨0x70000 + 0x20 * i, 12, 1⟩
/-- VIT_TABLE_CFG[i], LEARN, LK. -/
def Fld.VIT_TABLE_CFG_LEARN (i : Nat) : Fld := ⟨0x70000 + 0x20 * i, 11, 1⟩
/-- VIT_TABLE_CFG[i], WIDTH, LK. -/
def Fld.VIT_TABLE_CFG_WIDTH (i : Nat) : Fld := ⟨0x70000 + 0x20 * i, 9, 2⟩
/-- VIT_TABLE_CFG[i], REPL, LK. -/
def Fld.VIT_TABLE_CFG_REPL (i : Nat) : Fld := ⟨0x70000 + 0x20 * i, 4, 5⟩
/-- VIT_TABLE_CFG[i], BANK_FIRST, LK. -/
def Fld.VIT_TABLE_CFG_BANK_FIRST (i : Nat) : Fld := ⟨0x70000 + 0x20 * i, 0, 4⟩
/-- VIT_TABLE_REGION[i], COUNT4, LK. -/
def Fld.VIT_TABLE_REGION_COUNT4 (i : Nat) : Fld := ⟨0x70004 + 0x20 * i, 16, 14⟩
/-- VIT_TABLE_REGION[i], BASE4, LK. -/
def Fld.VIT_TABLE_REGION_BASE4 (i : Nat) : Fld := ⟨0x70004 + 0x20 * i, 0, 14⟩
/-- VIT_TABLE_LAYOUT[i], MAX_SHIFT, LK. -/
def Fld.VIT_TABLE_LAYOUT_MAX_SHIFT (i : Nat) : Fld := ⟨0x70008 + 0x20 * i, 16, 12⟩
/-- VIT_TABLE_LAYOUT[i], HOLE_EVERY, LK. -/
def Fld.VIT_TABLE_LAYOUT_HOLE_EVERY (i : Nat) : Fld := ⟨0x70008 + 0x20 * i, 0, 8⟩
/-- VIT_TABLE_TIMERS[i], MOVE_WIN_MS, LK. -/
def Fld.VIT_TABLE_TIMERS_MOVE_WIN_MS (i : Nat) : Fld := ⟨0x7000c + 0x20 * i, 16, 16⟩
/-- VIT_TABLE_TIMERS[i], AGE_MS, LK. -/
def Fld.VIT_TABLE_TIMERS_AGE_MS (i : Nat) : Fld := ⟨0x7000c + 0x20 * i, 0, 16⟩
/-- VIT_TABLE_VER[i], RO. -/
def Fld.VIT_TABLE_VER (i : Nat) : Fld := ⟨0x70010 + 0x20 * i, 0, 32⟩
/-- VIT_TABLE_LSEQ[i], RO. -/
def Fld.VIT_TABLE_LSEQ (i : Nat) : Fld := ⟨0x70014 + 0x20 * i, 0, 32⟩
/-- VIT_TABLE_FILL[i], RO. -/
def Fld.VIT_TABLE_FILL (i : Nat) : Fld := ⟨0x70018 + 0x20 * i, 0, 17⟩
/-- VIT_TABLE_EVT[i], W1C. -/
def Fld.VIT_TABLE_EVT (i : Nat) : Fld := ⟨0x7001c + 0x20 * i, 0, 3⟩
/-- VIT_BANK_CTL[i], STK_SHARE, LK. -/
def Fld.VIT_BANK_CTL_STK_SHARE (i : Nat) : Fld := ⟨0x70800 + 0x10 * i, 16, 8⟩
/-- VIT_BANK_CTL[i], SCRUB, LK. -/
def Fld.VIT_BANK_CTL_SCRUB (i : Nat) : Fld := ⟨0x70800 + 0x10 * i, 8, 4⟩
/-- VIT_BANK_CTL[i], UPD_MAX, LK. -/
def Fld.VIT_BANK_CTL_UPD_MAX (i : Nat) : Fld := ⟨0x70800 + 0x10 * i, 0, 8⟩
/-- VIT_BANK_STATE[i], PASS, RO. -/
def Fld.VIT_BANK_STATE_PASS (i : Nat) : Fld := ⟨0x70804 + 0x10 * i, 16, 16⟩
/-- VIT_BANK_STATE[i], STATE, RO. -/
def Fld.VIT_BANK_STATE_STATE (i : Nat) : Fld := ⟨0x70804 + 0x10 * i, 0, 2⟩
/-- VIT_BANK_UPD_CNT[i], RC. -/
def Fld.VIT_BANK_UPD_CNT (i : Nat) : Fld := ⟨0x70808 + 0x10 * i, 0, 32⟩
/-- VIT_BANK_STEAL_CNT[i], RC. -/
def Fld.VIT_BANK_STEAL_CNT (i : Nat) : Fld := ⟨0x7080c + 0x10 * i, 0, 32⟩
/-- VIT_SEARCH_CNT, RC. -/
def Fld.VIT_SEARCH_CNT : Fld := ⟨0x70900, 0, 32⟩
/-- VIT_HIT_CNT, RC. -/
def Fld.VIT_HIT_CNT : Fld := ⟨0x70904, 0, 32⟩
/-- VIT_MOVE_CNT, RC. -/
def Fld.VIT_MOVE_CNT : Fld := ⟨0x70908, 0, 32⟩
/-- VIT_FLAP_CNT, RC. -/
def Fld.VIT_FLAP_CNT : Fld := ⟨0x7090c, 0, 32⟩
/-- VIT_PIN_DROP_CNT, RC. -/
def Fld.VIT_PIN_DROP_CNT : Fld := ⟨0x70910, 0, 32⟩
/-- VIT_LEARN_DROP_CNT, RC. -/
def Fld.VIT_LEARN_DROP_CNT : Fld := ⟨0x70914, 0, 32⟩
/-- VIT_AGE_MARK_CNT, RC. -/
def Fld.VIT_AGE_MARK_CNT : Fld := ⟨0x70918, 0, 32⟩
/-- VIT_AGE_REMOVE_CNT, RC. -/
def Fld.VIT_AGE_REMOVE_CNT : Fld := ⟨0x7091c, 0, 32⟩
/-- VIT_SCRUB_FIX_CNT, RC. -/
def Fld.VIT_SCRUB_FIX_CNT : Fld := ⟨0x70920, 0, 32⟩
/-- VIT_PARITY_CNT, RC. -/
def Fld.VIT_PARITY_CNT : Fld := ⟨0x70924, 0, 32⟩
/-- VIT_STK_TMO_CNT, RC. -/
def Fld.VIT_STK_TMO_CNT : Fld := ⟨0x70928, 0, 32⟩
/-- VIT_KEY_MAP[i], LK. -/
def Fld.VIT_KEY_MAP (i : Nat) : Fld := ⟨0x71000 + 4 * i, 0, 32⟩

/-- GTH_GRAPH_GEOM[i], VTX_64K, LK. -/
def Fld.GTH_GRAPH_GEOM_VTX_64K (i : Nat) : Fld := ⟨0x80000 + 0x20 * i, 16, 16⟩
/-- GTH_GRAPH_GEOM[i], DIR_LOG2, LK. -/
def Fld.GTH_GRAPH_GEOM_DIR_LOG2 (i : Nat) : Fld := ⟨0x80000 + 0x20 * i, 0, 5⟩
/-- GTH_GRAPH_BLK[i], LK. -/
def Fld.GTH_GRAPH_BLK (i : Nat) : Fld := ⟨0x80004 + 0x20 * i, 0, 20⟩
/-- GTH_GRAPH_STATE[i], VALID, RO. -/
def Fld.GTH_GRAPH_STATE_VALID (i : Nat) : Fld := ⟨0x80008 + 0x20 * i, 31, 1⟩
/-- GTH_GRAPH_STATE[i], DAMAGED, RO. -/
def Fld.GTH_GRAPH_STATE_DAMAGED (i : Nat) : Fld := ⟨0x80008 + 0x20 * i, 30, 1⟩
/-- GTH_GRAPH_STATE[i], LOADING, RO. -/
def Fld.GTH_GRAPH_STATE_LOADING (i : Nat) : Fld := ⟨0x80008 + 0x20 * i, 29, 1⟩
/-- GTH_GRAPH_STATE[i], STALE, RO. -/
def Fld.GTH_GRAPH_STATE_STALE (i : Nat) : Fld := ⟨0x80008 + 0x20 * i, 28, 1⟩
/-- GTH_GRAPH_STATE[i], QUEUED, RO. -/
def Fld.GTH_GRAPH_STATE_QUEUED (i : Nat) : Fld := ⟨0x80008 + 0x20 * i, 0, 5⟩
/-- GTH_GRAPH_VER[i], RO. -/
def Fld.GTH_GRAPH_VER (i : Nat) : Fld := ⟨0x8000c + 0x20 * i, 0, 32⟩
/-- GTH_GRAPH_TARGET[i], RW. -/
def Fld.GTH_GRAPH_TARGET (i : Nat) : Fld := ⟨0x80010 + 0x20 * i, 0, 32⟩
/-- GTH_GRAPH_PINS[i], OLD, RO. -/
def Fld.GTH_GRAPH_PINS_OLD (i : Nat) : Fld := ⟨0x80014 + 0x20 * i, 16, 16⟩
/-- GTH_GRAPH_PINS[i], CUR, RO. -/
def Fld.GTH_GRAPH_PINS_CUR (i : Nat) : Fld := ⟨0x80014 + 0x20 * i, 0, 16⟩
/-- GTH_GRAPH_VTX[i], RO. -/
def Fld.GTH_GRAPH_VTX (i : Nat) : Fld := ⟨0x80018 + 0x20 * i, 0, 32⟩
/-- GTH_GRAPH_BLK_FREE[i], RO. -/
def Fld.GTH_GRAPH_BLK_FREE (i : Nat) : Fld := ⟨0x8001c + 0x20 * i, 0, 32⟩
/-- GTH_CTL, DELTA_SHARE, LK. -/
def Fld.GTH_CTL_DELTA_SHARE : Fld := ⟨0x80100, 16, 6⟩
/-- GTH_CTL, STALE_GRACE_MS, LK. -/
def Fld.GTH_CTL_STALE_GRACE_MS : Fld := ⟨0x80100, 0, 16⟩
/-- GTH_ENG_LIVE_LO, RO. -/
def Fld.GTH_ENG_LIVE_LO : Fld := ⟨0x80104, 0, 32⟩
/-- GTH_ENG_LIVE_HI, RO. -/
def Fld.GTH_ENG_LIVE_HI : Fld := ⟨0x80108, 0, 16⟩
/-- GTH_SPARE_POOL, RO. -/
def Fld.GTH_SPARE_POOL : Fld := ⟨0x8010c, 0, 17⟩
/-- GTH_WALK_CNT, RC. -/
def Fld.GTH_WALK_CNT : Fld := ⟨0x80120, 0, 32⟩
/-- GTH_READ_CNT, RC. -/
def Fld.GTH_READ_CNT : Fld := ⟨0x80124, 0, 32⟩
/-- GTH_CREDIT_FAIL_CNT, RC. -/
def Fld.GTH_CREDIT_FAIL_CNT : Fld := ⟨0x80128, 0, 32⟩
/-- GTH_ROOT_MISS_CNT, RC. -/
def Fld.GTH_ROOT_MISS_CNT : Fld := ⟨0x8012c, 0, 32⟩
/-- GTH_LOAD_CNT, RC. -/
def Fld.GTH_LOAD_CNT : Fld := ⟨0x80130, 0, 32⟩
/-- GTH_LOAD_REFUSE_CNT, RC. -/
def Fld.GTH_LOAD_REFUSE_CNT : Fld := ⟨0x80134, 0, 32⟩
/-- GTH_READ_TMO_CNT, RC. -/
def Fld.GTH_READ_TMO_CNT : Fld := ⟨0x80138, 0, 32⟩
/-- GTH_ECC_CNT, RC. -/
def Fld.GTH_ECC_CNT : Fld := ⟨0x8013c, 0, 32⟩
/-- GTH_STRAND_CFG[i], ALLOW_US, LK. -/
def Fld.GTH_STRAND_CFG_ALLOW_US (i : Nat) : Fld := ⟨0x80200 + 8 * i, 16, 16⟩
/-- GTH_STRAND_CFG[i], EN, LK. -/
def Fld.GTH_STRAND_CFG_EN (i : Nat) : Fld := ⟨0x80200 + 8 * i, 5, 1⟩
/-- GTH_STRAND_CFG[i], VIEW, LK. -/
def Fld.GTH_STRAND_CFG_VIEW (i : Nat) : Fld := ⟨0x80200 + 8 * i, 0, 5⟩
/-- GTH_STRAND_POOL[i], RO. -/
def Fld.GTH_STRAND_POOL (i : Nat) : Fld := ⟨0x80204 + 8 * i, 0, 16⟩
/-- GTH_VIEW[i], LK. -/
def Fld.GTH_VIEW (i : Nat) : Fld := ⟨0x81000 + 4 * i, 0, 32⟩

/-- ARB_ENG_LIVE, RO. -/
def Fld.ARB_ENG_LIVE : Fld := ⟨0x90000, 0, 8⟩
/-- ARB_UNIT_CNT, RC. -/
def Fld.ARB_UNIT_CNT : Fld := ⟨0x90004, 0, 32⟩
/-- ARB_MISS_CNT, RC. -/
def Fld.ARB_MISS_CNT : Fld := ⟨0x90008, 0, 32⟩
/-- ARB_ECC_CNT, RC. -/
def Fld.ARB_ECC_CNT : Fld := ⟨0x9000c, 0, 32⟩

/-- GAL_MODEL_STATE[i], VALID, RO. -/
def Fld.GAL_MODEL_STATE_VALID (i : Nat) : Fld := ⟨0xa0000 + 0x10 * i, 31, 1⟩
/-- GAL_MODEL_STATE[i], BAD, RO. -/
def Fld.GAL_MODEL_STATE_BAD (i : Nat) : Fld := ⟨0xa0000 + 0x10 * i, 30, 1⟩
/-- GAL_MODEL_STATE[i], KIND, RO. -/
def Fld.GAL_MODEL_STATE_KIND (i : Nat) : Fld := ⟨0xa0000 + 0x10 * i, 8, 1⟩
/-- GAL_MODEL_STATE[i], OUTPUTS, RO. -/
def Fld.GAL_MODEL_STATE_OUTPUTS (i : Nat) : Fld := ⟨0xa0000 + 0x10 * i, 0, 5⟩
/-- GAL_MODEL_VER[i], RO. -/
def Fld.GAL_MODEL_VER (i : Nat) : Fld := ⟨0xa0004 + 0x10 * i, 0, 32⟩
/-- GAL_MODEL_MIB[i], RO. -/
def Fld.GAL_MODEL_MIB (i : Nat) : Fld := ⟨0xa0008 + 0x10 * i, 0, 32⟩
/-- GAL_MODEL_PINS[i], OLD, RO. -/
def Fld.GAL_MODEL_PINS_OLD (i : Nat) : Fld := ⟨0xa000c + 0x10 * i, 16, 16⟩
/-- GAL_MODEL_PINS[i], CUR, RO. -/
def Fld.GAL_MODEL_PINS_CUR (i : Nat) : Fld := ⟨0xa000c + 0x10 * i, 0, 16⟩
/-- GAL_STRAND_MODEL[i], LK. -/
def Fld.GAL_STRAND_MODEL (i : Nat) : Fld := ⟨0xa0400 + 4 * i, 0, 32⟩
/-- GAL_LIVE_LO, RO. -/
def Fld.GAL_LIVE_LO : Fld := ⟨0xa0480, 0, 32⟩
/-- GAL_LIVE_HI, RO. -/
def Fld.GAL_LIVE_HI : Fld := ⟨0xa0484, 0, 16⟩
/-- GAL_PROG_CNT, RC. -/
def Fld.GAL_PROG_CNT : Fld := ⟨0xa0490, 0, 32⟩
/-- GAL_SAT_CNT, RC. -/
def Fld.GAL_SAT_CNT : Fld := ⟨0xa0494, 0, 32⟩
/-- GAL_NAN_CNT, RC. -/
def Fld.GAL_NAN_CNT : Fld := ⟨0xa0498, 0, 32⟩
/-- GAL_ECC_CNT, RC. -/
def Fld.GAL_ECC_CNT : Fld := ⟨0xa049c, 0, 32⟩
/-- GAL_LOAD_REFUSE_CNT, RC. -/
def Fld.GAL_LOAD_REFUSE_CNT : Fld := ⟨0xa04a0, 0, 32⟩

/-- SRV_COVE_CFG[i], EN, LK. -/
def Fld.SRV_COVE_CFG_EN (i : Nat) : Fld := ⟨0xb0000 + 0x40 * i, 31, 1⟩
/-- SRV_COVE_CFG[i], MODEL, LK. -/
def Fld.SRV_COVE_CFG_MODEL (i : Nat) : Fld := ⟨0xb0000 + 0x40 * i, 25, 6⟩
/-- SRV_COVE_CFG[i], OUT_MODE, LK. -/
def Fld.SRV_COVE_CFG_OUT_MODE (i : Nat) : Fld := ⟨0xb0000 + 0x40 * i, 24, 1⟩
/-- SRV_COVE_CFG[i], GAL_SHARE, LK. -/
def Fld.SRV_COVE_CFG_GAL_SHARE (i : Nat) : Fld := ⟨0xb0000 + 0x40 * i, 16, 8⟩
/-- SRV_COVE_CFG[i], BATCH_MAX, LK. -/
def Fld.SRV_COVE_CFG_BATCH_MAX (i : Nat) : Fld := ⟨0xb0000 + 0x40 * i, 0, 14⟩
/-- SRV_COVE_STEP_CFG[i], STEP_TOK64, LK. -/
def Fld.SRV_COVE_STEP_CFG_STEP_TOK64 (i : Nat) : Fld := ⟨0xb0004 + 0x40 * i, 16, 12⟩
/-- SRV_COVE_STEP_CFG[i], CHUNK64, LK. -/
def Fld.SRV_COVE_STEP_CFG_CHUNK64 (i : Nat) : Fld := ⟨0xb0004 + 0x40 * i, 0, 7⟩
/-- SRV_COVE_BLOCK_KIB[i], LK. -/
def Fld.SRV_COVE_BLOCK_KIB (i : Nat) : Fld := ⟨0xb0008 + 0x40 * i, 0, 16⟩
/-- SRV_COVE_BLOCKS[i], LK. -/
def Fld.SRV_COVE_BLOCKS (i : Nat) : Fld := ⟨0xb000c + 0x40 * i, 0, 21⟩
/-- SRV_COVE_PREFIX[i], LK. -/
def Fld.SRV_COVE_PREFIX (i : Nat) : Fld := ⟨0xb0010 + 0x40 * i, 0, 21⟩
/-- SRV_COVE_STATE[i], WEDGED, RO. -/
def Fld.SRV_COVE_STATE_WEDGED (i : Nat) : Fld := ⟨0xb0014 + 0x40 * i, 31, 1⟩
/-- SRV_COVE_STATE[i], STEPPING, RO. -/
def Fld.SRV_COVE_STATE_STEPPING (i : Nat) : Fld := ⟨0xb0014 + 0x40 * i, 30, 1⟩
/-- SRV_COVE_STATE[i], REQS, RO. -/
def Fld.SRV_COVE_STATE_REQS (i : Nat) : Fld := ⟨0xb0014 + 0x40 * i, 16, 14⟩
/-- SRV_COVE_STEP[i], RO. -/
def Fld.SRV_COVE_STEP (i : Nat) : Fld := ⟨0xb0018 + 0x40 * i, 0, 32⟩
/-- SRV_COVE_FREE[i], RO. -/
def Fld.SRV_COVE_FREE (i : Nat) : Fld := ⟨0xb0020 + 0x40 * i, 0, 21⟩
/-- SRV_COVE_RECLAIM[i], RO. -/
def Fld.SRV_COVE_RECLAIM (i : Nat) : Fld := ⟨0xb0024 + 0x40 * i, 0, 21⟩
/-- SRV_COVE_SEALED[i], RO. -/
def Fld.SRV_COVE_SEALED (i : Nat) : Fld := ⟨0xb0028 + 0x40 * i, 0, 21⟩
/-- SRV_COVE_HIT_CNT[i], RC. -/
def Fld.SRV_COVE_HIT_CNT (i : Nat) : Fld := ⟨0xb0030 + 0x40 * i, 0, 32⟩
/-- SRV_COVE_MISMATCH_CNT[i], RC. -/
def Fld.SRV_COVE_MISMATCH_CNT (i : Nat) : Fld := ⟨0xb0034 + 0x40 * i, 0, 32⟩
/-- SRV_COVE_ROW_CNT[i], RC. -/
def Fld.SRV_COVE_ROW_CNT (i : Nat) : Fld := ⟨0xb0038 + 0x40 * i, 0, 32⟩
/-- SRV_COVE_STEP_CNT[i], RC. -/
def Fld.SRV_COVE_STEP_CNT (i : Nat) : Fld := ⟨0xb003c + 0x40 * i, 0, 32⟩
/-- SRV_COVE_SPEC[i], DRAFT_PROG, LK. -/
def Fld.SRV_COVE_SPEC_DRAFT_PROG (i : Nat) : Fld := ⟨0xb0200 + 0x20 * i, 16, 16⟩
/-- SRV_COVE_SPEC[i], BRANCH, LK. -/
def Fld.SRV_COVE_SPEC_BRANCH (i : Nat) : Fld := ⟨0xb0200 + 0x20 * i, 12, 4⟩
/-- SRV_COVE_SPEC[i], LOOK_N, LK. -/
def Fld.SRV_COVE_SPEC_LOOK_N (i : Nat) : Fld := ⟨0xb0200 + 0x20 * i, 10, 2⟩
/-- SRV_COVE_SPEC[i], SPEC_DEPTH, LK. -/
def Fld.SRV_COVE_SPEC_SPEC_DEPTH (i : Nat) : Fld := ⟨0xb0200 + 0x20 * i, 7, 3⟩
/-- SRV_COVE_SPEC[i], SPEC_NODES, LK. -/
def Fld.SRV_COVE_SPEC_SPEC_NODES (i : Nat) : Fld := ⟨0xb0200 + 0x20 * i, 2, 5⟩
/-- SRV_COVE_SPEC[i], DRAFT_SRC, LK. -/
def Fld.SRV_COVE_SPEC_DRAFT_SRC (i : Nat) : Fld := ⟨0xb0200 + 0x20 * i, 0, 2⟩
/-- SRV_COVE_SAMPLE[i], EXP_TABLE, LK. -/
def Fld.SRV_COVE_SAMPLE_EXP_TABLE (i : Nat) : Fld := ⟨0xb0204 + 0x20 * i, 16, 16⟩
/-- SRV_COVE_SAMPLE[i], NODES_HI, LK. -/
def Fld.SRV_COVE_SAMPLE_NODES_HI (i : Nat) : Fld := ⟨0xb0204 + 0x20 * i, 10, 1⟩
/-- SRV_COVE_SAMPLE[i], PEN_PROMPT, LK. -/
def Fld.SRV_COVE_SAMPLE_PEN_PROMPT (i : Nat) : Fld := ⟨0xb0204 + 0x20 * i, 9, 1⟩
/-- SRV_COVE_SAMPLE[i], GREEDY, LK. -/
def Fld.SRV_COVE_SAMPLE_GREEDY (i : Nat) : Fld := ⟨0xb0204 + 0x20 * i, 8, 1⟩
/-- SRV_COVE_SAMPLE[i], TOP_K, LK. -/
def Fld.SRV_COVE_SAMPLE_TOP_K (i : Nat) : Fld := ⟨0xb0204 + 0x20 * i, 0, 8⟩
/-- SRV_COVE_INV_TEMP[i], LK. -/
def Fld.SRV_COVE_INV_TEMP (i : Nat) : Fld := ⟨0xb0208 + 0x20 * i, 0, 32⟩
/-- SRV_COVE_TOP_P[i], LK. -/
def Fld.SRV_COVE_TOP_P (i : Nat) : Fld := ⟨0xb020c + 0x20 * i, 0, 32⟩
/-- SRV_COVE_REP[i], LK. -/
def Fld.SRV_COVE_REP (i : Nat) : Fld := ⟨0xb0210 + 0x20 * i, 0, 32⟩
/-- SRV_COVE_FREQ[i], LK. -/
def Fld.SRV_COVE_FREQ (i : Nat) : Fld := ⟨0xb0214 + 0x20 * i, 0, 32⟩
/-- SRV_COVE_PRES[i], LK. -/
def Fld.SRV_COVE_PRES (i : Nat) : Fld := ⟨0xb0218 + 0x20 * i, 0, 32⟩
/-- SRV_BRK_FLOOR_MEAN[i], LK. -/
def Fld.SRV_BRK_FLOOR_MEAN (i : Nat) : Fld := ⟨0xb0300 + 0x20 * i, 0, 21⟩
/-- SRV_BRK_FLOOR_NEAP[i], LK. -/
def Fld.SRV_BRK_FLOOR_NEAP (i : Nat) : Fld := ⟨0xb0304 + 0x20 * i, 0, 21⟩
/-- SRV_BRK_PF[i], NEAP, LK. -/
def Fld.SRV_BRK_PF_NEAP (i : Nat) : Fld := ⟨0xb0308 + 0x20 * i, 20, 10⟩
/-- SRV_BRK_PF[i], MEAN, LK. -/
def Fld.SRV_BRK_PF_MEAN (i : Nat) : Fld := ⟨0xb0308 + 0x20 * i, 10, 10⟩
/-- SRV_BRK_PF[i], SPRING, LK. -/
def Fld.SRV_BRK_PF_SPRING (i : Nat) : Fld := ⟨0xb0308 + 0x20 * i, 0, 10⟩
/-- SRV_BRK_TIME[i], LABEL_MARGIN_US, LK. -/
def Fld.SRV_BRK_TIME_LABEL_MARGIN_US (i : Nat) : Fld := ⟨0xb030c + 0x20 * i, 16, 16⟩
/-- SRV_BRK_TIME[i], PF_PS, LK. -/
def Fld.SRV_BRK_TIME_PF_PS (i : Nat) : Fld := ⟨0xb030c + 0x20 * i, 0, 16⟩
/-- SRV_PAUSE_STEP[i], RESUME_STEP_US, LK. -/
def Fld.SRV_PAUSE_STEP_RESUME_STEP_US (i : Nat) : Fld := ⟨0xb0310 + 0x20 * i, 16, 16⟩
/-- SRV_PAUSE_STEP[i], PAUSE_STEP_US, LK. -/
def Fld.SRV_PAUSE_STEP_PAUSE_STEP_US (i : Nat) : Fld := ⟨0xb0310 + 0x20 * i, 0, 16⟩
/-- SRV_PAUSE_CTL[i], PEER_EN, LK. -/
def Fld.SRV_PAUSE_CTL_PEER_EN (i : Nat) : Fld := ⟨0xb0314 + 0x20 * i, 17, 1⟩
/-- SRV_PAUSE_CTL[i], ARCH_EN, LK. -/
def Fld.SRV_PAUSE_CTL_ARCH_EN (i : Nat) : Fld := ⟨0xb0314 + 0x20 * i, 16, 1⟩
/-- SRV_PAUSE_CTL[i], PAUSE_BATCH, LK. -/
def Fld.SRV_PAUSE_CTL_PAUSE_BATCH (i : Nat) : Fld := ⟨0xb0314 + 0x20 * i, 8, 8⟩
/-- SRV_PAUSE_CTL[i], RESUME_N, LK. -/
def Fld.SRV_PAUSE_CTL_RESUME_N (i : Nat) : Fld := ⟨0xb0314 + 0x20 * i, 4, 4⟩
/-- SRV_PAUSE_CTL[i], PAUSE_N, LK. -/
def Fld.SRV_PAUSE_CTL_PAUSE_N (i : Nat) : Fld := ⟨0xb0314 + 0x20 * i, 0, 4⟩
/-- SRV_ARCH_LOW[i], LK. -/
def Fld.SRV_ARCH_LOW (i : Nat) : Fld := ⟨0xb0318 + 0x20 * i, 0, 21⟩
/-- SRV_ARCH_TTL[i], LK. -/
def Fld.SRV_ARCH_TTL (i : Nat) : Fld := ⟨0xb031c + 0x20 * i, 0, 17⟩
/-- SRV_STRAND_GUARD[i], COVE, LK. -/
def Fld.SRV_STRAND_GUARD_COVE (i : Nat) : Fld := ⟨0xb0400 + 4 * i, 1, 3⟩
/-- SRV_STRAND_GUARD[i], EN, LK. -/
def Fld.SRV_STRAND_GUARD_EN (i : Nat) : Fld := ⟨0xb0400 + 4 * i, 0, 1⟩
/-- SRV_REQ_LIVE, RO. -/
def Fld.SRV_REQ_LIVE : Fld := ⟨0xb0500, 0, 14⟩
/-- SRV_CANCEL_CNT, RC. -/
def Fld.SRV_CANCEL_CNT : Fld := ⟨0xb0504, 0, 32⟩
/-- SRV_LATE_CANCEL_CNT, RC. -/
def Fld.SRV_LATE_CANCEL_CNT : Fld := ⟨0xb0508, 0, 32⟩
/-- SRV_DEADLINE_CNT, RC. -/
def Fld.SRV_DEADLINE_CNT : Fld := ⟨0xb050c, 0, 32⟩
/-- SRV_FAULT_CNT, RC. -/
def Fld.SRV_FAULT_CNT : Fld := ⟨0xb0510, 0, 32⟩
/-- SRV_TRUNC_CNT, RC. -/
def Fld.SRV_TRUNC_CNT : Fld := ⟨0xb0514, 0, 32⟩
/-- SRV_ARCH_SIZE, RO. -/
def Fld.SRV_ARCH_SIZE : Fld := ⟨0xb0520, 0, 32⟩
/-- SRV_ARCH_USED, RO. -/
def Fld.SRV_ARCH_USED : Fld := ⟨0xb0524, 0, 32⟩
/-- SRV_ARCH_PEER, LK. -/
def Fld.SRV_ARCH_PEER : Fld := ⟨0xb0528, 0, 16⟩
/-- SRV_PAUSED, IN_ARCH, RO. -/
def Fld.SRV_PAUSED_IN_ARCH : Fld := ⟨0xb052c, 16, 14⟩
/-- SRV_PAUSED, TOTAL, RO. -/
def Fld.SRV_PAUSED_TOTAL : Fld := ⟨0xb052c, 0, 14⟩
/-- SRV_SPEC_ROW_CNT, RC. -/
def Fld.SRV_SPEC_ROW_CNT : Fld := ⟨0xb0530, 0, 32⟩
/-- SRV_SPEC_ACCEPT_CNT, RC. -/
def Fld.SRV_SPEC_ACCEPT_CNT : Fld := ⟨0xb0534, 0, 32⟩
/-- SRV_BRK_SLOT_CNT, RC. -/
def Fld.SRV_BRK_SLOT_CNT : Fld := ⟨0xb0538, 0, 32⟩
/-- SRV_BRK_BLOCK_CNT, RC. -/
def Fld.SRV_BRK_BLOCK_CNT : Fld := ⟨0xb053c, 0, 32⟩
/-- SRV_BRK_BACKLOG_CNT, RC. -/
def Fld.SRV_BRK_BACKLOG_CNT : Fld := ⟨0xb0540, 0, 32⟩
/-- SRV_BRK_TIME_CNT, RC. -/
def Fld.SRV_BRK_TIME_CNT : Fld := ⟨0xb0544, 0, 32⟩
/-- SRV_PAUSE_CNT, RC. -/
def Fld.SRV_PAUSE_CNT : Fld := ⟨0xb0548, 0, 32⟩
/-- SRV_RESUME_CNT, RC. -/
def Fld.SRV_RESUME_CNT : Fld := ⟨0xb054c, 0, 32⟩
/-- SRV_ARCH_OUT_CNT, RC. -/
def Fld.SRV_ARCH_OUT_CNT : Fld := ⟨0xb0550, 0, 32⟩
/-- SRV_ARCH_IN_CNT, RC. -/
def Fld.SRV_ARCH_IN_CNT : Fld := ⟨0xb0554, 0, 32⟩
/-- SRV_EXPIRE_CNT, RC. -/
def Fld.SRV_EXPIRE_CNT : Fld := ⟨0xb0558, 0, 32⟩
/-- SRV_ARCH_CRC_CNT, RC. -/
def Fld.SRV_ARCH_CRC_CNT : Fld := ⟨0xb055c, 0, 32⟩

/-- VRD_CSET, RO. -/
def Fld.VRD_CSET : Fld := ⟨0xc0000, 0, 32⟩
/-- VRD_BUF_SIZE, RO. -/
def Fld.VRD_BUF_SIZE : Fld := ⟨0xc0004, 0, 32⟩
/-- VRD_BUF_USED, RO. -/
def Fld.VRD_BUF_USED : Fld := ⟨0xc0008, 0, 32⟩
/-- VRD_STRAND_POLICY[i], KEEP_LAST, LK. -/
def Fld.VRD_STRAND_POLICY_KEEP_LAST (i : Nat) : Fld := ⟨0xc0100 + 8 * i, 11, 3⟩
/-- VRD_STRAND_POLICY[i], DEFAULT_VERDICT, LK. -/
def Fld.VRD_STRAND_POLICY_DEFAULT_VERDICT (i : Nat) : Fld := ⟨0xc0100 + 8 * i, 8, 3⟩
/-- VRD_STRAND_POLICY[i], RULES, LK. -/
def Fld.VRD_STRAND_POLICY_RULES (i : Nat) : Fld := ⟨0xc0100 + 8 * i, 0, 8⟩
/-- VRD_STRAND_DEFCODE[i], LK. -/
def Fld.VRD_STRAND_DEFCODE (i : Nat) : Fld := ⟨0xc0104 + 8 * i, 0, 32⟩
/-- VRD_VERDICT_CNT[i], RC. -/
def Fld.VRD_VERDICT_CNT (i : Nat) : Fld := ⟨0xc0300 + 4 * i, 0, 32⟩
/-- VRD_SENT_CNT, RC. -/
def Fld.VRD_SENT_CNT : Fld := ⟨0xc0314, 0, 32⟩
/-- VRD_REDACT_OVER_CNT, RC. -/
def Fld.VRD_REDACT_OVER_CNT : Fld := ⟨0xc0318, 0, 32⟩
/-- VRD_SEAL_CNT, RC. -/
def Fld.VRD_SEAL_CNT : Fld := ⟨0xc031c, 0, 32⟩
/-- VRD_GAP_CNT, RC. -/
def Fld.VRD_GAP_CNT : Fld := ⟨0xc0320, 0, 32⟩
/-- VRD_LOST_CNT, RC. -/
def Fld.VRD_LOST_CNT : Fld := ⟨0xc0324, 0, 32⟩
/-- VRD_REPLAY_CNT, RC. -/
def Fld.VRD_REPLAY_CNT : Fld := ⟨0xc0328, 0, 32⟩
/-- VRD_REPLAY_FAIL_CNT, RC. -/
def Fld.VRD_REPLAY_FAIL_CNT : Fld := ⟨0xc032c, 0, 32⟩
/-- VRD_CHAIN_SEQ[i], RO. -/
def Fld.VRD_CHAIN_SEQ (i : Nat) : Fld := ⟨0xc0400 + 8 * i, 0, 32⟩
/-- VRD_RULE[i], LK. -/
def Fld.VRD_RULE (i : Nat) : Fld := ⟨0xc4000 + 4 * i, 0, 32⟩

/-- NWL_PORT_CFG[i], REPLAY_TMO, LK. -/
def Fld.NWL_PORT_CFG_REPLAY_TMO (i : Nat) : Fld := ⟨0x100000 + 0x100 * i, 16, 8⟩
/-- NWL_PORT_CFG[i], REPLAY_MAX, LK. -/
def Fld.NWL_PORT_CFG_REPLAY_MAX (i : Nat) : Fld := ⟨0x100000 + 0x100 * i, 8, 5⟩
/-- NWL_PORT_CMD[i], RW1S. -/
def Fld.NWL_PORT_CMD (i : Nat) : Fld := ⟨0x100004 + 0x100 * i, 0, 1⟩
/-- NWL_PORT_STATE[i], FAULT, RO. -/
def Fld.NWL_PORT_STATE_FAULT (i : Nat) : Fld := ⟨0x100008 + 0x100 * i, 8, 8⟩
/-- NWL_PORT_STATE[i], LANES, RO. -/
def Fld.NWL_PORT_STATE_LANES (i : Nat) : Fld := ⟨0x100008 + 0x100 * i, 4, 2⟩
/-- NWL_PORT_STATE[i], SWAP, RO. -/
def Fld.NWL_PORT_STATE_SWAP (i : Nat) : Fld := ⟨0x100008 + 0x100 * i, 3, 1⟩
/-- NWL_PORT_STATE[i], STATE, RO. -/
def Fld.NWL_PORT_STATE_STATE (i : Nat) : Fld := ⟨0x100008 + 0x100 * i, 0, 3⟩
/-- NWL_NBR_ID[i], PORT, RO. -/
def Fld.NWL_NBR_ID_PORT (i : Nat) : Fld := ⟨0x10000c + 0x100 * i, 16, 3⟩
/-- NWL_NBR_ID[i], NODE, RO. -/
def Fld.NWL_NBR_ID_NODE (i : Nat) : Fld := ⟨0x10000c + 0x100 * i, 0, 16⟩
/-- NWL_NBR_EPOCH[i], IMAGE, RO. -/
def Fld.NWL_NBR_EPOCH_IMAGE (i : Nat) : Fld := ⟨0x100010 + 0x100 * i, 16, 16⟩
/-- NWL_NBR_EPOCH[i], MANIFEST, RO. -/
def Fld.NWL_NBR_EPOCH_MANIFEST (i : Nat) : Fld := ⟨0x100010 + 0x100 * i, 0, 16⟩
/-- NWL_RTT[i], RO. -/
def Fld.NWL_RTT (i : Nat) : Fld := ⟨0x100014 + 0x100 * i, 0, 16⟩
/-- NWL_FC0[i], ON, LK. -/
def Fld.NWL_FC0_ON (i : Nat) : Fld := ⟨0x100020 + 0x100 * i, 16, 9⟩
/-- NWL_FC0[i], OFF, LK. -/
def Fld.NWL_FC0_OFF (i : Nat) : Fld := ⟨0x100020 + 0x100 * i, 0, 9⟩
/-- NWL_FC1[i], ON, LK. -/
def Fld.NWL_FC1_ON (i : Nat) : Fld := ⟨0x100024 + 0x100 * i, 16, 9⟩
/-- NWL_FC1[i], OFF, LK. -/
def Fld.NWL_FC1_OFF (i : Nat) : Fld := ⟨0x100024 + 0x100 * i, 0, 9⟩
/-- NWL_FC2[i], ON, LK. -/
def Fld.NWL_FC2_ON (i : Nat) : Fld := ⟨0x100028 + 0x100 * i, 16, 9⟩
/-- NWL_FC2[i], OFF, LK. -/
def Fld.NWL_FC2_OFF (i : Nat) : Fld := ⟨0x100028 + 0x100 * i, 0, 9⟩
/-- NWL_FC3[i], ON, LK. -/
def Fld.NWL_FC3_ON (i : Nat) : Fld := ⟨0x10002c + 0x100 * i, 16, 9⟩
/-- NWL_FC3[i], OFF, LK. -/
def Fld.NWL_FC3_OFF (i : Nat) : Fld := ⟨0x10002c + 0x100 * i, 0, 9⟩
/-- NWL_FC4[i], ON, LK. -/
def Fld.NWL_FC4_ON (i : Nat) : Fld := ⟨0x100030 + 0x100 * i, 16, 9⟩
/-- NWL_FC4[i], OFF, LK. -/
def Fld.NWL_FC4_OFF (i : Nat) : Fld := ⟨0x100030 + 0x100 * i, 0, 9⟩
/-- NWL_TX_SEQ[i], O, RO. -/
def Fld.NWL_TX_SEQ_O (i : Nat) : Fld := ⟨0x100040 + 0x100 * i, 16, 16⟩
/-- NWL_TX_SEQ[i], NEXT, RO. -/
def Fld.NWL_TX_SEQ_NEXT (i : Nat) : Fld := ⟨0x100040 + 0x100 * i, 0, 16⟩
/-- NWL_RX_SEQ[i], OUT, RO. -/
def Fld.NWL_RX_SEQ_OUT (i : Nat) : Fld := ⟨0x100044 + 0x100 * i, 16, 11⟩
/-- NWL_RX_SEQ[i], E, RO. -/
def Fld.NWL_RX_SEQ_E (i : Nat) : Fld := ⟨0x100044 + 0x100 * i, 0, 16⟩
/-- NWL_XOFF[i], SENT, RO. -/
def Fld.NWL_XOFF_SENT (i : Nat) : Fld := ⟨0x100048 + 0x100 * i, 8, 5⟩
/-- NWL_XOFF[i], RCVD, RO. -/
def Fld.NWL_XOFF_RCVD (i : Nat) : Fld := ⟨0x100048 + 0x100 * i, 0, 5⟩
/-- NWL_FLIT_TX_CNT[i], RC. -/
def Fld.NWL_FLIT_TX_CNT (i : Nat) : Fld := ⟨0x100060 + 0x100 * i, 0, 32⟩
/-- NWL_FLIT_RX_CNT[i], RC. -/
def Fld.NWL_FLIT_RX_CNT (i : Nat) : Fld := ⟨0x100064 + 0x100 * i, 0, 32⟩
/-- NWL_FEC_FIX_CNT[i], RC. -/
def Fld.NWL_FEC_FIX_CNT (i : Nat) : Fld := ⟨0x100068 + 0x100 * i, 0, 32⟩
/-- NWL_BAD_CNT[i], RC. -/
def Fld.NWL_BAD_CNT (i : Nat) : Fld := ⟨0x10006c + 0x100 * i, 0, 32⟩
/-- NWL_NAK_TX_CNT[i], RC. -/
def Fld.NWL_NAK_TX_CNT (i : Nat) : Fld := ⟨0x100070 + 0x100 * i, 0, 32⟩
/-- NWL_REPLAY_CNT[i], RC. -/
def Fld.NWL_REPLAY_CNT (i : Nat) : Fld := ⟨0x100074 + 0x100 * i, 0, 32⟩
/-- NWL_ACK_BAD_CNT[i], RC. -/
def Fld.NWL_ACK_BAD_CNT (i : Nat) : Fld := ⟨0x100078 + 0x100 * i, 0, 32⟩
/-- NWL_OVF_CNT[i], RC. -/
def Fld.NWL_OVF_CNT (i : Nat) : Fld := ⟨0x10007c + 0x100 * i, 0, 32⟩
/-- NWL_RETRAIN_CNT[i], RC. -/
def Fld.NWL_RETRAIN_CNT (i : Nat) : Fld := ⟨0x100080 + 0x100 * i, 0, 32⟩
/-- NWL_PKT_LOST_CNT[i], RC. -/
def Fld.NWL_PKT_LOST_CNT (i : Nat) : Fld := ⟨0x100084 + 0x100 * i, 0, 32⟩

/-- STK_CFG, SIZE, RO. -/
def Fld.STK_CFG_SIZE : Fld := ⟨0x110000, 4, 4⟩
/-- STK_CFG, POS, RO. -/
def Fld.STK_CFG_POS : Fld := ⟨0x110000, 1, 3⟩
/-- STK_CFG, HEADLAND, RO. -/
def Fld.STK_CFG_HEADLAND : Fld := ⟨0x110000, 0, 1⟩
/-- STK_STATE, LIVE, RO. -/
def Fld.STK_STATE_LIVE : Fld := ⟨0x110004, 16, 8⟩
/-- STK_STATE, MATCH_OUT_UP, RO. -/
def Fld.STK_STATE_MATCH_OUT_UP : Fld := ⟨0x110004, 9, 1⟩
/-- STK_STATE, MATCH_IN_UP, RO. -/
def Fld.STK_STATE_MATCH_IN_UP : Fld := ⟨0x110004, 8, 1⟩
/-- STK_STATE, REACH, RO. -/
def Fld.STK_STATE_REACH : Fld := ⟨0x110004, 0, 3⟩
/-- STK_TAG, PENDING, RO. -/
def Fld.STK_TAG_PENDING : Fld := ⟨0x110008, 16, 9⟩
/-- STK_TAG, NEXT, RO. -/
def Fld.STK_TAG_NEXT : Fld := ⟨0x110008, 0, 16⟩
/-- STK_SEARCH_CNT, RC. -/
def Fld.STK_SEARCH_CNT : Fld := ⟨0x110010, 0, 32⟩
/-- STK_REQ_CNT, RC. -/
def Fld.STK_REQ_CNT : Fld := ⟨0x110014, 0, 32⟩
/-- STK_RESULT_FAIL_CNT, RC. -/
def Fld.STK_RESULT_FAIL_CNT : Fld := ⟨0x110018, 0, 32⟩
/-- STK_TAG_MISS_CNT, RC. -/
def Fld.STK_TAG_MISS_CNT : Fld := ⟨0x11001c, 0, 32⟩
/-- STK_MATCH_CRC_CNT, RC. -/
def Fld.STK_MATCH_CRC_CNT : Fld := ⟨0x110020, 0, 32⟩
/-- STK_DEEP_SHORT_CNT, RC. -/
def Fld.STK_DEEP_SHORT_CNT : Fld := ⟨0x110024, 0, 32⟩

/-- FAB_STATE, NODE, RO. -/
def Fld.FAB_STATE_NODE : Fld := ⟨0x120000, 16, 16⟩
/-- FAB_STATE, MODE, RO. -/
def Fld.FAB_STATE_MODE : Fld := ⟨0x120000, 8, 2⟩
/-- FAB_STATE, ORIGIN, RO. -/
def Fld.FAB_STATE_ORIGIN : Fld := ⟨0x120000, 4, 1⟩
/-- FAB_STATE, MANIFEST_BAD, RO. -/
def Fld.FAB_STATE_MANIFEST_BAD : Fld := ⟨0x120000, 3, 1⟩
/-- FAB_ORIGIN, RO. -/
def Fld.FAB_ORIGIN : Fld := ⟨0x120004, 0, 16⟩
/-- FAB_REPL_CTL, STALE_GRACE_MS, LK. -/
def Fld.FAB_REPL_CTL_STALE_GRACE_MS : Fld := ⟨0x120010, 16, 16⟩
/-- FAB_REPL_CTL, KEEP, LK. -/
def Fld.FAB_REPL_CTL_KEEP : Fld := ⟨0x120010, 8, 5⟩
/-- FAB_REPL_CTL, REPL_RETRY, LK. -/
def Fld.FAB_REPL_CTL_REPL_RETRY : Fld := ⟨0x120010, 0, 2⟩
/-- FAB_REPL_TIME, CATALOG_MS, LK. -/
def Fld.FAB_REPL_TIME_CATALOG_MS : Fld := ⟨0x120014, 16, 16⟩
/-- FAB_REPL_TIME, REPL_WAIT_MS, LK. -/
def Fld.FAB_REPL_TIME_REPL_WAIT_MS : Fld := ⟨0x120014, 0, 16⟩
/-- FAB_ESC, LK. -/
def Fld.FAB_ESC : Fld := ⟨0x120018, 0, 16⟩
/-- FAB_RATE_A, R_MAX, LK. -/
def Fld.FAB_RATE_A_R_MAX : Fld := ⟨0x120020, 24, 8⟩
/-- FAB_RATE_A, R_MIN, LK. -/
def Fld.FAB_RATE_A_R_MIN : Fld := ⟨0x120020, 16, 8⟩
/-- FAB_RATE_A, AI, LK. -/
def Fld.FAB_RATE_A_AI : Fld := ⟨0x120020, 8, 8⟩
/-- FAB_RATE_A, MD, LK. -/
def Fld.FAB_RATE_A_MD : Fld := ⟨0x120020, 0, 4⟩
/-- FAB_RATE_B, INC_US, LK. -/
def Fld.FAB_RATE_B_INC_US : Fld := ⟨0x120024, 24, 8⟩
/-- FAB_RATE_B, DEC_GAP_US, LK. -/
def Fld.FAB_RATE_B_DEC_GAP_US : Fld := ⟨0x120024, 16, 8⟩
/-- FAB_RATE_B, ECHO_GAP_US, LK. -/
def Fld.FAB_RATE_B_ECHO_GAP_US : Fld := ⟨0x120024, 8, 8⟩
/-- FAB_RATE_B, MARK_Q, LK. -/
def Fld.FAB_RATE_B_MARK_Q : Fld := ⟨0x120024, 0, 8⟩
/-- FAB_REPL_STATE, QUEUED, RO. -/
def Fld.FAB_REPL_STATE_QUEUED : Fld := ⟨0x120030, 16, 9⟩
/-- FAB_REPL_STATE, PHASE, RO. -/
def Fld.FAB_REPL_STATE_PHASE : Fld := ⟨0x120030, 0, 3⟩
/-- FAB_REPL_ID, RO. -/
def Fld.FAB_REPL_ID : Fld := ⟨0x120034, 0, 32⟩
/-- FAB_REPL_COUNT, MISSED, RO. -/
def Fld.FAB_REPL_COUNT_MISSED : Fld := ⟨0x120038, 16, 16⟩
/-- FAB_REPL_COUNT, DELIVERED, RO. -/
def Fld.FAB_REPL_COUNT_DELIVERED : Fld := ⟨0x120038, 0, 16⟩
/-- FAB_CW_STATE[i], RO. -/
def Fld.FAB_CW_STATE (i : Nat) : Fld := ⟨0x120100 + 4 * i, 0, 2⟩
/-- FAB_PKT_TX_CNT, RC. -/
def Fld.FAB_PKT_TX_CNT : Fld := ⟨0x120200, 0, 32⟩
/-- FAB_PKT_RX_CNT, RC. -/
def Fld.FAB_PKT_RX_CNT : Fld := ⟨0x120204, 0, 32⟩
/-- FAB_PCRC_CNT, RC. -/
def Fld.FAB_PCRC_CNT : Fld := ⟨0x120208, 0, 32⟩
/-- FAB_HOP_DROP_CNT, RC. -/
def Fld.FAB_HOP_DROP_CNT : Fld := ⟨0x12020c, 0, 32⟩
/-- FAB_NOROUTE_CNT, RC. -/
def Fld.FAB_NOROUTE_CNT : Fld := ⟨0x120210, 0, 32⟩
/-- FAB_RX_FULL_CNT, RC. -/
def Fld.FAB_RX_FULL_CNT : Fld := ⟨0x120214, 0, 32⟩
/-- FAB_E2E_RETRY_CNT, RC. -/
def Fld.FAB_E2E_RETRY_CNT : Fld := ⟨0x120218, 0, 32⟩
/-- FAB_E2E_FAIL_CNT, RC. -/
def Fld.FAB_E2E_FAIL_CNT : Fld := ⟨0x12021c, 0, 32⟩
/-- FAB_MARK_CNT, RC. -/
def Fld.FAB_MARK_CNT : Fld := ⟨0x120220, 0, 32⟩
/-- FAB_ECHO_CNT, RC. -/
def Fld.FAB_ECHO_CNT : Fld := ⟨0x120224, 0, 32⟩
/-- FAB_RATE_DEC_CNT, RC. -/
def Fld.FAB_RATE_DEC_CNT : Fld := ⟨0x120228, 0, 32⟩
/-- FAB_REPL_CNT, RC. -/
def Fld.FAB_REPL_CNT : Fld := ⟨0x12022c, 0, 32⟩
/-- FAB_PULL_CNT, RC. -/
def Fld.FAB_PULL_CNT : Fld := ⟨0x120230, 0, 32⟩
/-- FAB_STALE_CNT, RC. -/
def Fld.FAB_STALE_CNT : Fld := ⟨0x120234, 0, 32⟩
/-- FAB_RSET_MAP[i], LK. -/
def Fld.FAB_RSET_MAP (i : Nat) : Fld := ⟨0x120400 + 4 * i, 0, 32⟩
/-- FAB_TARGET[i], RO. -/
def Fld.FAB_TARGET (i : Nat) : Fld := ⟨0x120800 + 4 * i, 0, 32⟩
/-- FAB_DELIV[i], RO. -/
def Fld.FAB_DELIV (i : Nat) : Fld := ⟨0x121000 + 4 * i, 0, 32⟩

/-- PWR_CTL, CAP_W, LK. -/
def Fld.PWR_CTL_CAP_W : Fld := ⟨0x130000, 16, 12⟩
/-- PWR_CTL, IDLE_PARK_MS, LK. -/
def Fld.PWR_CTL_IDLE_PARK_MS : Fld := ⟨0x130000, 8, 8⟩
/-- PWR_CTL, IDLE_BANK_US, LK. -/
def Fld.PWR_CTL_IDLE_BANK_US : Fld := ⟨0x130000, 0, 8⟩
/-- PWR_WAKE_MAX, RC. -/
def Fld.PWR_WAKE_MAX : Fld := ⟨0x130040, 0, 32⟩
/-- PWR_WAKE_CNT, RC. -/
def Fld.PWR_WAKE_CNT : Fld := ⟨0x130044, 0, 32⟩
/-- PWR_PKG_MW, RO. -/
def Fld.PWR_PKG_MW : Fld := ⟨0x130048, 0, 32⟩
/-- PWR_VID, RO. -/
def Fld.PWR_VID : Fld := ⟨0x13004c, 0, 6⟩
/-- PWR_THR, LEVEL, RO. -/
def Fld.PWR_THR_LEVEL : Fld := ⟨0x130050, 16, 4⟩
/-- PWR_THR, CAP, RO. -/
def Fld.PWR_THR_CAP : Fld := ⟨0x130050, 8, 4⟩
/-- PWR_THR, THERMAL, RO. -/
def Fld.PWR_THR_THERMAL : Fld := ⟨0x130050, 0, 4⟩
/-- PWR_UNIT_STATE[i], FLOOR, RO. -/
def Fld.PWR_UNIT_STATE_FLOOR (i : Nat) : Fld := ⟨0x130100 + 4 * i, 4, 2⟩
/-- PWR_UNIT_STATE[i], STATE, RO. -/
def Fld.PWR_UNIT_STATE_STATE (i : Nat) : Fld := ⟨0x130100 + 4 * i, 0, 2⟩
/-- PWR_LANE_VERIFY[i], DEGRADED, RO. -/
def Fld.PWR_LANE_VERIFY_DEGRADED (i : Nat) : Fld := ⟨0x130400 + 4 * i, 31, 1⟩
/-- PWR_LANE_VERIFY[i], STARVED, RO. -/
def Fld.PWR_LANE_VERIFY_STARVED (i : Nat) : Fld := ⟨0x130400 + 4 * i, 30, 1⟩
/-- PWR_LANE_VERIFY[i], FAILS, RO. -/
def Fld.PWR_LANE_VERIFY_FAILS (i : Nat) : Fld := ⟨0x130400 + 4 * i, 16, 8⟩
/-- PWR_LANE_VERIFY[i], WINDOWS, RO. -/
def Fld.PWR_LANE_VERIFY_WINDOWS (i : Nat) : Fld := ⟨0x130400 + 4 * i, 0, 16⟩

/-- THM_MAX, RO. -/
def Fld.THM_MAX : Fld := ⟨0x140000, 0, 16⟩
/-- THM_STATE, TRIP_LAST, RO. -/
def Fld.THM_STATE_TRIP_LAST : Fld := ⟨0x140004, 8, 2⟩
/-- THM_STATE, BLIND, RO. -/
def Fld.THM_STATE_BLIND : Fld := ⟨0x140004, 2, 1⟩
/-- THM_STATE, THROTTLE, RO. -/
def Fld.THM_STATE_THROTTLE : Fld := ⟨0x140004, 1, 1⟩
/-- THM_STATE, WARN, RO. -/
def Fld.THM_STATE_WARN : Fld := ⟨0x140004, 0, 1⟩
/-- THM_VERIFY, LK. -/
def Fld.THM_VERIFY : Fld := ⟨0x140008, 0, 16⟩
/-- THM_WARN_CNT, RC. -/
def Fld.THM_WARN_CNT : Fld := ⟨0x140010, 0, 32⟩
/-- THM_THROTTLE_US, RC. -/
def Fld.THM_THROTTLE_US : Fld := ⟨0x140014, 0, 32⟩
/-- THM_SENSOR[i], STALE, RO. -/
def Fld.THM_SENSOR_STALE (i : Nat) : Fld := ⟨0x140100 + 4 * i, 31, 1⟩
/-- THM_SENSOR[i], DEGRADED, RO. -/
def Fld.THM_SENSOR_DEGRADED (i : Nat) : Fld := ⟨0x140100 + 4 * i, 30, 1⟩
/-- THM_SENSOR[i], VALUE, RO. -/
def Fld.THM_SENSOR_VALUE (i : Nat) : Fld := ⟨0x140100 + 4 * i, 0, 16⟩
/-- THM_HBM[i], RO. -/
def Fld.THM_HBM (i : Nat) : Fld := ⟨0x140200 + 4 * i, 0, 16⟩

/-- FLT_PROMOTE, PROMOTE_MS, LK. -/
def Fld.FLT_PROMOTE_PROMOTE_MS : Fld := ⟨0x150000, 16, 16⟩
/-- FLT_PROMOTE, PROMOTE_N, LK. -/
def Fld.FLT_PROMOTE_PROMOTE_N : Fld := ⟨0x150000, 0, 8⟩
/-- FLT_CE_LIMIT, LK. -/
def Fld.FLT_CE_LIMIT : Fld := ⟨0x150004, 0, 16⟩
/-- FLT_CTL, DRAIN_MS, LK. -/
def Fld.FLT_CTL_DRAIN_MS : Fld := ⟨0x150008, 16, 16⟩
/-- FLT_CTL, WDT_EN, LK. -/
def Fld.FLT_CTL_WDT_EN : Fld := ⟨0x150008, 0, 1⟩
/-- FLT_STATE, LEDGER_LOST, RO. -/
def Fld.FLT_STATE_LEDGER_LOST : Fld := ⟨0x15000c, 0, 1⟩
/-- FLT_STATE, QUIESCING, RO. -/
def Fld.FLT_STATE_QUIESCING : Fld := ⟨0x15000c, 1, 1⟩
/-- FLT_STATE, LEDGER_A_FAIL, RO. -/
def Fld.FLT_STATE_LEDGER_A_FAIL : Fld := ⟨0x15000c, 2, 1⟩
/-- FLT_STATE, LEDGER_B_FAIL, RO. -/
def Fld.FLT_STATE_LEDGER_B_FAIL : Fld := ⟨0x15000c, 3, 1⟩
/-- FLT_RESET_COUNT, RO. -/
def Fld.FLT_RESET_COUNT : Fld := ⟨0x150010, 0, 32⟩
/-- FLT_LAST_RESET, BIST, RO. -/
def Fld.FLT_LAST_RESET_BIST : Fld := ⟨0x150014, 9, 1⟩
/-- FLT_LAST_RESET, FORCED, RO. -/
def Fld.FLT_LAST_RESET_FORCED : Fld := ⟨0x150014, 8, 1⟩
/-- FLT_LAST_RESET, CAUSE, RO. -/
def Fld.FLT_LAST_RESET_CAUSE : Fld := ⟨0x150014, 0, 8⟩
/-- FLT_RESET_KEY, WO. -/
def Fld.FLT_RESET_KEY : Fld := ⟨0x150020, 0, 32⟩
/-- FLT_RESET_CMD, BIST, RW. -/
def Fld.FLT_RESET_CMD_BIST : Fld := ⟨0x150024, 2, 1⟩
/-- FLT_RESET_CMD, FORCED, RW. -/
def Fld.FLT_RESET_CMD_FORCED : Fld := ⟨0x150024, 1, 1⟩
/-- FLT_RESET_CMD, GO, RW1S. -/
def Fld.FLT_RESET_CMD_GO : Fld := ⟨0x150024, 0, 1⟩
/-- FLT_LEDGER_NEXT, RO. -/
def Fld.FLT_LEDGER_NEXT : Fld := ⟨0x150030, 0, 32⟩
/-- FLT_LEDGER_FREE, RO. -/
def Fld.FLT_LEDGER_FREE : Fld := ⟨0x150034, 0, 17⟩
/-- FLT_LEDGER_DROP_CNT, RC. -/
def Fld.FLT_LEDGER_DROP_CNT : Fld := ⟨0x150038, 0, 32⟩
/-- FLT_LEDGER_SEQ, RW. -/
def Fld.FLT_LEDGER_SEQ : Fld := ⟨0x150040, 0, 32⟩
/-- FLT_LEDGER_CMD, RW1S. -/
def Fld.FLT_LEDGER_CMD : Fld := ⟨0x150044, 0, 1⟩
/-- FLT_LEDGER_STATUS, RO. -/
def Fld.FLT_LEDGER_STATUS : Fld := ⟨0x150048, 0, 1⟩
/-- FLT_T_CNT, RC. -/
def Fld.FLT_T_CNT : Fld := ⟨0x150060, 0, 32⟩
/-- FLT_CE_CNT, RC. -/
def Fld.FLT_CE_CNT : Fld := ⟨0x150064, 0, 32⟩
/-- FLT_RETRY_CNT, RC. -/
def Fld.FLT_RETRY_CNT : Fld := ⟨0x150068, 0, 32⟩
/-- FLT_RETIRE_CNT, RC. -/
def Fld.FLT_RETIRE_CNT : Fld := ⟨0x15006c, 0, 32⟩
/-- FLT_WEDGE_CNT, RC. -/
def Fld.FLT_WEDGE_CNT : Fld := ⟨0x150070, 0, 32⟩
/-- FLT_QUIESCE_DROP_CNT, RC. -/
def Fld.FLT_QUIESCE_DROP_CNT : Fld := ⟨0x150074, 0, 32⟩
/-- FLT_LEDGER_WIN[i], RO. -/
def Fld.FLT_LEDGER_WIN (i : Nat) : Fld := ⟨0x150100 + 4 * i, 0, 32⟩
/-- FLT_RETIRED[i], RO. -/
def Fld.FLT_RETIRED (i : Nat) : Fld := ⟨0x150200 + 4 * i, 0, 32⟩

/-- MSIX_ADDR[i], RW. -/
def Fld.MSIX_ADDR (i : Nat) : Fld := ⟨0x3f00000 + 0x10 * i, 2, 30⟩
/-- MSIX_ADDR_HI[i], RW. -/
def Fld.MSIX_ADDR_HI (i : Nat) : Fld := ⟨0x3f00004 + 0x10 * i, 0, 32⟩
/-- MSIX_DATA[i], RW. -/
def Fld.MSIX_DATA (i : Nat) : Fld := ⟨0x3f00008 + 0x10 * i, 0, 32⟩
/-- MSIX_CTRL[i], MASK, RW. -/
def Fld.MSIX_CTRL_MASK (i : Nat) : Fld := ⟨0x3f0000c + 0x10 * i, 0, 1⟩
/-- MSIX_PBA[i], RO. -/
def Fld.MSIX_PBA (i : Nat) : Fld := ⟨0x3f08000 + 4 * i, 0, 32⟩

/-- TST_LANE_CTL[i], FORCE, RW. -/
def Fld.TST_LANE_CTL_FORCE (i : Nat) : Fld := ⟨0x160000 + 0x20 * i, 9, 1⟩
/-- TST_LANE_CTL[i], INJECT, RW1S. -/
def Fld.TST_LANE_CTL_INJECT (i : Nat) : Fld := ⟨0x160000 + 0x20 * i, 8, 1⟩
/-- TST_LANE_CTL[i], LOOP, RW. -/
def Fld.TST_LANE_CTL_LOOP (i : Nat) : Fld := ⟨0x160000 + 0x20 * i, 6, 2⟩
/-- TST_LANE_CTL[i], INVERT, RW. -/
def Fld.TST_LANE_CTL_INVERT (i : Nat) : Fld := ⟨0x160000 + 0x20 * i, 5, 1⟩
/-- TST_LANE_CTL[i], PATTERN, RW. -/
def Fld.TST_LANE_CTL_PATTERN (i : Nat) : Fld := ⟨0x160000 + 0x20 * i, 2, 3⟩
/-- TST_LANE_CTL[i], CHK_EN, RW. -/
def Fld.TST_LANE_CTL_CHK_EN (i : Nat) : Fld := ⟨0x160000 + 0x20 * i, 1, 1⟩
/-- TST_LANE_CTL[i], GEN_EN, RW. -/
def Fld.TST_LANE_CTL_GEN_EN (i : Nat) : Fld := ⟨0x160000 + 0x20 * i, 0, 1⟩
/-- TST_LANE_STAT[i], REFUSED, W1C. -/
def Fld.TST_LANE_STAT_REFUSED (i : Nat) : Fld := ⟨0x160004 + 0x20 * i, 1, 1⟩
/-- TST_LANE_STAT[i], LOCK, RO. -/
def Fld.TST_LANE_STAT_LOCK (i : Nat) : Fld := ⟨0x160004 + 0x20 * i, 0, 1⟩
/-- TST_LANE_BITS[i], RC. -/
def Fld.TST_LANE_BITS (i : Nat) : Fld := ⟨0x160008 + 0x20 * i, 0, 32⟩
/-- TST_LANE_BITS_HI[i], RC. -/
def Fld.TST_LANE_BITS_HI (i : Nat) : Fld := ⟨0x16000c + 0x20 * i, 0, 32⟩
/-- TST_LANE_ERR[i], RC. -/
def Fld.TST_LANE_ERR (i : Nat) : Fld := ⟨0x160010 + 0x20 * i, 0, 32⟩
/-- TST_LANE_ERR_HI[i], RC. -/
def Fld.TST_LANE_ERR_HI (i : Nat) : Fld := ⟨0x160014 + 0x20 * i, 0, 32⟩
/-- TST_LANE_LOSS_CNT[i], RC. -/
def Fld.TST_LANE_LOSS_CNT (i : Nat) : Fld := ⟨0x160018 + 0x20 * i, 0, 32⟩
/-- TST_BIST_FAIL[i], RO. -/
def Fld.TST_BIST_FAIL (i : Nat) : Fld := ⟨0x161000 + 4 * i, 0, 32⟩
/-- TST_BIST_STATE, PASS, RO. -/
def Fld.TST_BIST_STATE_PASS : Fld := ⟨0x161080, 1, 1⟩
/-- TST_BIST_STATE, RAN, RO. -/
def Fld.TST_BIST_STATE_RAN : Fld := ⟨0x161080, 0, 1⟩

/-- The registers of the GLB_ block. -/
def regMapGLB : List RegDef := [
  ⟨0, 4, 1, 0x1244056f, 0, 0, 0, 0, 0, 0, false⟩,
  ⟨4, 4, 1, 0x2440b001, 0, 0, 0, 0, 0, 0, false⟩,
  ⟨8, 4, 1, 0x2b7, 0, 0, 0, 0, 0, 0, false⟩,
  ⟨0x10, 4, 4, 0, 0, 0, 0, 0, 0, 0, false⟩,
  ⟨0x20, 4, 1, 0, 0, 0, 0, 0, 0, 0, false⟩,
  ⟨0x24, 4, 1, 0, 0, 0, 0, 0, 0, 0, false⟩,
  ⟨0x40, 4, 1, 0, 0, 0, 0, 0, 0, 0, false⟩,
  ⟨0x44, 4, 1, 0, 0, 0, 0, 0xffffffff, 0, 0, false⟩,
  ⟨0x48, 4, 1, 0, 0, 0, 0, 0, 0, 0, false⟩,
  ⟨0x4c, 4, 1, 0, 0, 0, 0, 0, 0, 0, false⟩]

/-- The registers of the IMG_ block. -/
def regMapIMG : List RegDef := [
  ⟨0x10000, 4, 1, 0, 0, 0, 0, 0, 0, 0, false⟩,
  ⟨0x10004, 4, 2, 4, 0, 0, 0, 0, 0, 0, false⟩,
  ⟨0x1000c, 4, 1, 0, 0, 0, 0, 0, 0, 0, false⟩,
  ⟨0x10010, 4, 1, 0, 0, 0, 0, 0, 0, 0, false⟩,
  ⟨0x10014, 4, 1, 0, 0, 0, 0, 0, 0, 0, false⟩,
  ⟨0x10018, 4, 1, 0, 0, 0, 0, 0, 0, 0, false⟩,
  ⟨0x1001c, 4, 1, 0, 0, 0, 0, 0, 0, 0, false⟩,
  ⟨0x10020, 4, 1, 0, 0, 0, 0, 0, 0, 0, false⟩,
  ⟨0x10024, 4, 1, 0, 0, 0, 0, 0, 0, 0, false⟩,
  ⟨0x10028, 4, 1, 0, 0, 0, 0, 0, 0, 0, false⟩,
  ⟨0x10040, 4, 8, 0, 0, 0x3ffff, 0, 0, 0, 0, false⟩,
  ⟨0x10060, 4, 1, 0, 0, 0x30fff, 0, 0, 0, 0, false⟩,
  ⟨0x10100, 4, 1, 0, 0xffffffff, 0, 0, 0, 0, 0, false⟩,
  ⟨0x10104, 4, 1, 0, 0, 0, 0, 0, 7, 0, false⟩,
  ⟨0x10108, 4, 1, 0, 0, 0, 0, 0, 0, 0, false⟩,
  ⟨0x10200, 4, 64, 0, 0xffffffff, 0, 0, 0, 0, 0, false⟩]

/-- The registers of the HIF_ block. -/
def regMapHIF : List RegDef := [
  ⟨0x20000, 4, 1, 0, 0, 0, 0, 0, 0, 0, false⟩,
  ⟨0x20010, 4, 1, 0, 0, 0xffffffff, 0, 0, 0, 0, false⟩,
  ⟨0x20014, 4, 1, 0, 0, 0xffffffff, 0, 0, 0, 0, false⟩,
  ⟨0x20020, 4, 1, 0, 0, 0, 0, 0xffffffff, 0, 0, false⟩,
  ⟨0x20024, 4, 1, 0, 0, 0, 0, 0xffffffff, 0, 0, false⟩,
  ⟨0x20028, 4, 1, 0, 0, 0, 0, 0xffffffff, 0, 0, false⟩,
  ⟨0x20030, 4, 1, 0, 0, 0, 0, 0, 0, 0, false⟩,
  ⟨0x20034, 4, 1, 0, 0, 0, 0, 0, 0, 0, false⟩,
  ⟨0x20040, 4, 1, 0, 0, 0, 0, 0, 0, 0, false⟩,
  ⟨0x20100, 0x20, 50, 0, 0xffffffff, 0, 0, 0, 0, 0, true⟩,
  ⟨0x20104, 0x20, 50, 0, 0xffffffff, 0, 0, 0, 0, 0, false⟩,
  ⟨0x20108, 0x20, 50, 0, 0x8000001f, 0, 0, 0, 0, 0, false⟩,
  ⟨0x2010c, 0x20, 50, 0, 0, 0, 0, 0, 0, 0, false⟩,
  ⟨0x20110, 0x20, 50, 0, 0x87ffffff, 0, 0, 0, 0, 0, false⟩,
  ⟨0x20114, 0x20, 50, 0, 0, 0, 0, 0xffffffff, 0, 0, false⟩,
  ⟨0x20740, 4, 1, 0, 0x87ffffff, 0, 0, 0, 0, 0, false⟩,
  ⟨0x21000, 4, 187, 0, 0, 0, 0, 0, 0, 0, false⟩,
  ⟨0x21400, 4, 6, 0, 0, 0, 0xffffffff, 0, 0, 0, false⟩]

/-- The registers of the TID_ block. -/
def regMapTID : List RegDef := [
  ⟨0x30000, 4, 1, 0, 0, 0, 0, 0, 0, 0, true⟩,
  ⟨0x30004, 4, 1, 0, 0, 0, 0, 0, 0, 0, false⟩,
  ⟨0x30008, 4, 1, 0x12c, 0, 0, 0, 0, 0, 0, false⟩,
  ⟨0x30100, 0x20, 8, 0, 0, 0xffff, 0, 0, 0, 0, false⟩,
  ⟨0x30104, 0x20, 8, 0, 0, 0xffff, 0, 0, 0, 0, false⟩,
  ⟨0x30108, 0x20, 8, 0, 0, 0xffff, 0, 0, 0, 0, false⟩,
  ⟨0x3010c, 0x20, 8, 0, 0, 0xffff001f, 0, 0, 0, 0, false⟩,
  ⟨0x30110, 0x20, 8, 0, 0, 0, 0, 0xffffffff, 0, 0, false⟩,
  ⟨0x30114, 0x20, 8, 0, 0, 0, 0, 0xffffffff, 0, 0, false⟩,
  ⟨0x30118, 0x20, 8, 0, 0, 0, 0, 0xffffffff, 0, 0, false⟩,
  ⟨0x3011c, 0x20, 8, 0, 0, 0, 0, 0xffffffff, 0, 0, false⟩,
  ⟨0x30200, 0x10, 32, 0, 0, 0, 0, 0, 0, 0, false⟩,
  ⟨0x30204, 0x10, 32, 0, 0, 0, 0, 0, 0, 0, false⟩,
  ⟨0x30208, 0x10, 32, 0, 0, 0, 0, 0, 0, 0, true⟩,
  ⟨0x3020c, 0x10, 32, 0, 0, 0, 0, 0, 0, 0, false⟩,
  ⟨0x30400, 8, 32, 0, 0, 0, 0, 0, 0, 0, false⟩,
  ⟨0x30404, 8, 32, 0, 0, 0, 0, 0, 0, 0, false⟩,
  ⟨0x30500, 4, 8, 0, 0, 0, 0, 0, 0, 0, false⟩,
  ⟨0x30540, 8, 8, 0, 0, 0, 0, 0xffffffff, 0, 0, false⟩,
  ⟨0x30544, 8, 8, 0, 0, 0, 0, 0xffffffff, 0, 0, false⟩,
  ⟨0x30580, 4, 1, 0, 0, 0, 0x3f, 0, 0, 0, false⟩,
  ⟨0x30600, 4, 1, 0, 0xffffffff, 0, 0, 0, 0, 0, false⟩,
  ⟨0x30604, 4, 1, 0, 0, 0, 0, 0, 0, 0xffffffff, false⟩,
  ⟨0x30608, 4, 1, 0, 0, 0, 0, 0, 0, 0, false⟩,
  ⟨0x3060c, 4, 1, 0x64, 0x7f, 0, 0, 0, 0, 0, false⟩,
  ⟨0x30610, 4, 1, 0, 0xffffffff, 0, 0, 0, 0, 0, true⟩,
  ⟨0x30614, 4, 1, 0, 0xffffffff, 0, 0, 0, 0, 0, false⟩,
  ⟨0x30618, 4, 1, 0, 0, 0, 0, 0, 1, 0, false⟩,
  ⟨0x30620, 4, 1, 0, 0, 0, 0, 0, 0, 0, true⟩,
  ⟨0x30624, 4, 1, 0, 0, 0, 0, 0, 0, 0, false⟩,
  ⟨0x30628, 4, 1, 0, 0, 0, 4, 0, 0, 0, false⟩,
  ⟨0x3062c, 4, 1, 0, 0, 0, 0, 0xffffffff, 0, 0, false⟩]

/-- The registers of the INT_ block. -/
def regMapINT : List RegDef := [
  ⟨0x40000, 0x40, 3, 0, 0, 0x1f, 0, 0, 0, 0, false⟩,
  ⟨0x40004, 0x40, 3, 0, 0, 0, 0, 0, 0, 0, false⟩,
  ⟨0x40008, 0x40, 3, 0, 0, 0, 0, 0xffffffff, 0, 0, false⟩,
  ⟨0x4000c, 0x40, 3, 0, 0, 0, 0, 0xffffffff, 0, 0, false⟩,
  ⟨0x40010, 0x40, 3, 0, 0, 0, 0, 0xffffffff, 0, 0, false⟩,
  ⟨0x40014, 0x40, 3, 0, 0, 0, 0, 0xffffffff, 0, 0, false⟩,
  ⟨0x40100, 4, 1, 0, 0, 0, 0, 0xffffffff, 0, 0, false⟩,
  ⟨0x40104, 4, 1, 0, 0, 0, 0, 0xffffffff, 0, 0, false⟩,
  ⟨0x40108, 4, 1, 0, 0, 0, 0, 0, 0, 0, false⟩,
  ⟨0x4010c, 4, 1, 0, 0, 0, 0, 0, 0, 0, false⟩,
  ⟨0x40110, 4, 1, 0, 0, 0, 0, 0xffffffff, 0, 0, false⟩,
  ⟨0x40114, 4, 1, 0, 0, 0, 0, 0, 0, 0, false⟩,
  ⟨0x40118, 4, 1, 0, 0, 0, 0, 0xffffffff, 0, 0, false⟩,
  ⟨0x4011c, 4, 1, 0, 0, 0x3ff, 0, 0, 0, 0, false⟩,
  ⟨0x40200, 4, 1, 0, 0xff3, 0, 0, 0, 0, 0, false⟩,
  ⟨0x40204, 4, 8, 0, 0, 0, 0, 0, 0, 0xffffffff, false⟩,
  ⟨0x40224, 4, 3, 0, 0, 0, 0, 0, 0, 0xffffffff, false⟩,
  ⟨0x40230, 4, 1, 0, 0, 0, 0, 0, 0, 0xffffffff, false⟩,
  ⟨0x40234, 4, 1, 0, 0xffffffff, 0, 0, 0, 0, 0, true⟩,
  ⟨0x40238, 4, 1, 0, 0xffffffff, 0, 0, 0, 0, 0, false⟩,
  ⟨0x4023c, 4, 1, 0, 0, 0, 0, 0, 3, 0, false⟩,
  ⟨0x40240, 4, 1, 0, 0xffffffff, 0, 0, 0, 0, 0, true⟩,
  ⟨0x40244, 4, 1, 0, 0xffffffff, 0, 0, 0, 0, 0, false⟩,
  ⟨0x40248, 4, 1, 0, 0xffffffff, 0, 0, 0, 0, 0, false⟩,
  ⟨0x41000, 4, 512, 0, 0, 0xffffffff, 0, 0, 0, 0, false⟩,
  ⟨0x41800, 4, 64, 0, 0, 0xffffffff, 0, 0, 0, 0, false⟩,
  ⟨0x42000, 4, 4096, 0, 0, 0xffffffff, 0, 0, 0, 0, false⟩,
  ⟨0x46000, 4, 768, 0, 0, 0xffffffff, 0, 0, 0, 0, false⟩,
  ⟨0x47000, 4, 2048, 0, 0, 0xffffffff, 0, 0, 0, 0, false⟩,
  ⟨0x49000, 4, 4096, 0, 0, 0xffffffff, 0, 0, 0, 0, false⟩]

/-- The registers of the REL_ block. -/
def regMapREL : List RegDef := [
  ⟨0x50000, 4, 1, 0x1f4, 0, 0xfff, 0, 0, 0, 0, false⟩,
  ⟨0x50004, 4, 1, 0x88b5, 0, 0xffff, 0, 0, 0, 0, false⟩,
  ⟨0x50008, 4, 1, 0x88b6, 0, 0xffff, 0, 0, 0, 0, false⟩,
  ⟨0x50010, 4, 1, 0, 0, 0xffffffff, 0, 0, 0, 0, true⟩,
  ⟨0x50014, 4, 1, 0, 0, 0xffff, 0, 0, 0, 0, false⟩,
  ⟨0x50018, 4, 1, 0, 0, 0xffffffff, 0, 0, 0, 0, true⟩,
  ⟨0x5001c, 4, 1, 0, 0, 0xffff, 0, 0, 0, 0, false⟩,
  ⟨0x50020, 4, 1, 0xc0000000, 0xffffffff, 0, 0, 0, 0, 0, true⟩,
  ⟨0x50024, 4, 1, 0, 0xffffffff, 0, 0, 0, 0, 0, false⟩,
  ⟨0x50040, 4, 3, 0, 0, 0, 0, 0, 0, 0, false⟩,
  ⟨0x50050, 4, 3, 0, 0, 0, 0, 0, 0, 0, false⟩,
  ⟨0x50060, 4, 1, 0, 0, 0, 0, 0xffffffff, 0, 0, false⟩,
  ⟨0x50064, 4, 3, 0, 0, 0, 0, 0xffffffff, 0, 0, false⟩,
  ⟨0x50070, 4, 1, 0, 0, 0, 0, 0, 0, 0, false⟩,
  ⟨0x50074, 4, 1, 0, 0, 0, 0, 0, 0, 0, false⟩,
  ⟨0x50078, 4, 1, 0, 0, 0, 0, 0xffffffff, 0, 0, false⟩,
  ⟨0x5007c, 4, 1, 0, 0, 0, 0, 0xffffffff, 0, 0, false⟩,
  ⟨0x50100, 4, 8, 0x2a00, 0, 0xfffc, 0, 0, 0, 0, false⟩]

/-- The registers of the CAT_ block. -/
def regMapCAT : List RegDef := [
  ⟨0x60000, 0x10, 16, 0, 0, 0, 0, 0, 0, 0, false⟩,
  ⟨0x60004, 0x10, 16, 0, 0, 0, 0, 0, 0, 0, false⟩,
  ⟨0x60008, 0x10, 16, 0, 0, 0, 0, 0, 0, 0, false⟩,
  ⟨0x6000c, 0x10, 16, 0, 0, 0, 0, 0, 0, 0, false⟩,
  ⟨0x60100, 8, 32, 0, 0, 0, 0, 0, 0, 0, false⟩,
  ⟨0x60104, 8, 32, 0, 0, 0, 0, 0, 0, 0, false⟩,
  ⟨0x60200, 4, 1, 0, 0, 0, 0, 0, 0, 0, false⟩,
  ⟨0x60204, 4, 1, 1, 0, 0xf, 0, 0, 0, 0, false⟩,
  ⟨0x60208, 4, 1, 0xfff, 0, 0, 0, 0, 0, 0, false⟩,
  ⟨0x60210, 4, 1, 0, 0, 0, 0, 0xffffffff, 0, 0, false⟩,
  ⟨0x60214, 4, 1, 0, 0, 0, 0, 0xffffffff, 0, 0, false⟩,
  ⟨0x60218, 4, 1, 0, 0, 0, 0, 0xffffffff, 0, 0, false⟩,
  ⟨0x6021c, 4, 1, 0, 0, 0, 0, 0xffffffff, 0, 0, false⟩,
  ⟨0x60220, 4, 1, 0, 0, 0, 0, 0xffffffff, 0, 0, false⟩,
  ⟨0x60224, 4, 1, 0, 0, 0, 0, 0xffffffff, 0, 0, false⟩,
  ⟨0x60228, 4, 1, 0, 0, 0, 0, 0xffffffff, 0, 0, false⟩,
  ⟨0x6022c, 4, 1, 0, 0, 0, 0, 0xffffffff, 0, 0, false⟩,
  ⟨0x60300, 4, 32, 0, 0, 0xfff, 0, 0, 0, 0, false⟩,
  ⟨0x61000, 4, 1024, 0, 0, 0xffffffff, 0, 0, 0, 0, false⟩]

/-- The registers of the VIT_ block. -/
def regMapVIT : List RegDef := [
  ⟨0x70000, 0x20, 64, 0, 0, 0x8001ffff, 0, 0, 0, 0, false⟩,
  ⟨0x70004, 0x20, 64, 0, 0, 0x3fff3fff, 0, 0, 0, 0, false⟩,
  ⟨0x70008, 0x20, 64, 0, 0, 0xfff00ff, 0, 0, 0, 0, false⟩,
  ⟨0x7000c, 0x20, 64, 0, 0, 0xffffffff, 0, 0, 0, 0, false⟩,
  ⟨0x70010, 0x20, 64, 0, 0, 0, 0, 0, 0, 0, false⟩,
  ⟨0x70014, 0x20, 64, 0, 0, 0, 0, 0, 0, 0, false⟩,
  ⟨0x70018, 0x20, 64, 0, 0, 0, 0, 0, 0, 0, false⟩,
  ⟨0x7001c, 0x20, 64, 0, 0, 0, 7, 0, 0, 0, false⟩,
  ⟨0x70800, 0x10, 16, 0x410, 0, 0xff0fff, 0, 0, 0, 0, false⟩,
  ⟨0x70804, 0x10, 16, 0, 0, 0, 0, 0, 0, 0, false⟩,
  ⟨0x70808, 0x10, 16, 0, 0, 0, 0, 0xffffffff, 0, 0, false⟩,
  ⟨0x7080c, 0x10, 16, 0, 0, 0, 0, 0xffffffff, 0, 0, false⟩,
  ⟨0x70900, 4, 1, 0, 0, 0, 0, 0xffffffff, 0, 0, false⟩,
  ⟨0x70904, 4, 1, 0, 0, 0, 0, 0xffffffff, 0, 0, false⟩,
  ⟨0x70908, 4, 1, 0, 0, 0, 0, 0xffffffff, 0, 0, false⟩,
  ⟨0x7090c, 4, 1, 0, 0, 0, 0, 0xffffffff, 0, 0, false⟩,
  ⟨0x70910, 4, 1, 0, 0, 0, 0, 0xffffffff, 0, 0, false⟩,
  ⟨0x70914, 4, 1, 0, 0, 0, 0, 0xffffffff, 0, 0, false⟩,
  ⟨0x70918, 4, 1, 0, 0, 0, 0, 0xffffffff, 0, 0, false⟩,
  ⟨0x7091c, 4, 1, 0, 0, 0, 0, 0xffffffff, 0, 0, false⟩,
  ⟨0x70920, 4, 1, 0, 0, 0, 0, 0xffffffff, 0, 0, false⟩,
  ⟨0x70924, 4, 1, 0, 0, 0, 0, 0xffffffff, 0, 0, false⟩,
  ⟨0x70928, 4, 1, 0, 0, 0, 0, 0xffffffff, 0, 0, false⟩,
  ⟨0x71000, 4, 2048, 0, 0, 0xffffffff, 0, 0, 0, 0, false⟩]

/-- The registers of the GTH_ block. -/
def regMapGTH : List RegDef := [
  ⟨0x80000, 0x20, 4, 0, 0, 0xffff001f, 0, 0, 0, 0, false⟩,
  ⟨0x80004, 0x20, 4, 0, 0, 0xfffff, 0, 0, 0, 0, false⟩,
  ⟨0x80008, 0x20, 4, 0, 0, 0, 0, 0, 0, 0, false⟩,
  ⟨0x8000c, 0x20, 4, 0, 0, 0, 0, 0, 0, 0, false⟩,
  ⟨0x80010, 0x20, 4, 0, 0xffffffff, 0, 0, 0, 0, 0, false⟩,
  ⟨0x80014, 0x20, 4, 0, 0, 0, 0, 0, 0, 0, false⟩,
  ⟨0x80018, 0x20, 4, 0, 0, 0, 0, 0, 0, 0, false⟩,
  ⟨0x8001c, 0x20, 4, 0, 0, 0, 0, 0, 0, 0, false⟩,
  ⟨0x80100, 4, 1, 0, 0, 0x3fffff, 0, 0, 0, 0, false⟩,
  ⟨0x80104, 4, 1, 0xffffffff, 0, 0, 0, 0, 0, 0, false⟩,
  ⟨0x80108, 4, 1, 0xffff, 0, 0, 0, 0, 0, 0, false⟩,
  ⟨0x8010c, 4, 1, 0, 0, 0, 0, 0, 0, 0, false⟩,
  ⟨0x80120, 4, 1, 0, 0, 0, 0, 0xffffffff, 0, 0, false⟩,
  ⟨0x80124, 4, 1, 0, 0, 0, 0, 0xffffffff, 0, 0, false⟩,
  ⟨0x80128, 4, 1, 0, 0, 0, 0, 0xffffffff, 0, 0, false⟩,
  ⟨0x8012c, 4, 1, 0, 0, 0, 0, 0xffffffff, 0, 0, false⟩,
  ⟨0x80130, 4, 1, 0, 0, 0, 0, 0xffffffff, 0, 0, false⟩,
  ⟨0x80134, 4, 1, 0, 0, 0, 0, 0xffffffff, 0, 0, false⟩,
  ⟨0x80138, 4, 1, 0, 0, 0, 0, 0xffffffff, 0, 0, false⟩,
  ⟨0x8013c, 4, 1, 0, 0, 0, 0, 0xffffffff, 0, 0, false⟩,
  ⟨0x80200, 8, 32, 0, 0, 0xffff003f, 0, 0, 0, 0, false⟩,
  ⟨0x80204, 8, 32, 0, 0, 0, 0, 0, 0, 0, false⟩,
  ⟨0x81000, 4, 1280, 0, 0, 0xffffffff, 0, 0, 0, 0, false⟩]

/-- The registers of the ARB_ block. -/
def regMapARB : List RegDef := [
  ⟨0x90000, 4, 1, 0xff, 0, 0, 0, 0, 0, 0, false⟩,
  ⟨0x90004, 4, 1, 0, 0, 0, 0, 0xffffffff, 0, 0, false⟩,
  ⟨0x90008, 4, 1, 0, 0, 0, 0, 0xffffffff, 0, 0, false⟩,
  ⟨0x9000c, 4, 1, 0, 0, 0, 0, 0xffffffff, 0, 0, false⟩]

/-- The registers of the GAL_ block. -/
def regMapGAL : List RegDef := [
  ⟨0xa0000, 0x10, 64, 0, 0, 0, 0, 0, 0, 0, false⟩,
  ⟨0xa0004, 0x10, 64, 0, 0, 0, 0, 0, 0, 0, false⟩,
  ⟨0xa0008, 0x10, 64, 0, 0, 0, 0, 0, 0, 0, false⟩,
  ⟨0xa000c, 0x10, 64, 0, 0, 0, 0, 0, 0, 0, false⟩,
  ⟨0xa0400, 4, 32, 0xffffffff, 0, 0xffffffff, 0, 0, 0, 0, false⟩,
  ⟨0xa0480, 4, 1, 0xffffffff, 0, 0, 0, 0, 0, 0, false⟩,
  ⟨0xa0484, 4, 1, 0xffff, 0, 0, 0, 0, 0, 0, false⟩,
  ⟨0xa0490, 4, 1, 0, 0, 0, 0, 0xffffffff, 0, 0, false⟩,
  ⟨0xa0494, 4, 1, 0, 0, 0, 0, 0xffffffff, 0, 0, false⟩,
  ⟨0xa0498, 4, 1, 0, 0, 0, 0, 0xffffffff, 0, 0, false⟩,
  ⟨0xa049c, 4, 1, 0, 0, 0, 0, 0xffffffff, 0, 0, false⟩,
  ⟨0xa04a0, 4, 1, 0, 0, 0, 0, 0xffffffff, 0, 0, false⟩]

/-- The registers of the SRV_ block. -/
def regMapSRV : List RegDef := [
  ⟨0xb0000, 0x40, 8, 0, 0, 0xffff3fff, 0, 0, 0, 0, false⟩,
  ⟨0xb0004, 0x40, 8, 0, 0, 0xfff007f, 0, 0, 0, 0, false⟩,
  ⟨0xb0008, 0x40, 8, 0, 0, 0xffff, 0, 0, 0, 0, false⟩,
  ⟨0xb000c, 0x40, 8, 0, 0, 0x1fffff, 0, 0, 0, 0, false⟩,
  ⟨0xb0010, 0x40, 8, 0, 0, 0x1fffff, 0, 0, 0, 0, false⟩,
  ⟨0xb0014, 0x40, 8, 0, 0, 0, 0, 0, 0, 0, false⟩,
  ⟨0xb0018, 0x40, 8, 0, 0, 0, 0, 0, 0, 0, true⟩,
  ⟨0xb001c, 0x40, 8, 0, 0, 0, 0, 0, 0, 0, false⟩,
  ⟨0xb0020, 0x40, 8, 0, 0, 0, 0, 0, 0, 0, false⟩,
  ⟨0xb0024, 0x40, 8, 0, 0, 0, 0, 0, 0, 0, false⟩,
  ⟨0xb0028, 0x40, 8, 0, 0, 0, 0, 0, 0, 0, false⟩,
  ⟨0xb0030, 0x40, 8, 0, 0, 0, 0, 0xffffffff, 0, 0, false⟩,
  ⟨0xb0034, 0x40, 8, 0, 0, 0, 0, 0xffffffff, 0, 0, false⟩,
  ⟨0xb0038, 0x40, 8, 0, 0, 0, 0, 0xffffffff, 0, 0, false⟩,
  ⟨0xb003c, 0x40, 8, 0, 0, 0, 0, 0xffffffff, 0, 0, false⟩,
  ⟨0xb0200, 0x20, 8, 0, 0, 0xffffffff, 0, 0, 0, 0, false⟩,
  ⟨0xb0204, 0x20, 8, 0x101, 0, 0xffff07ff, 0, 0, 0, 0, false⟩,
  ⟨0xb0208, 0x20, 8, 0x3f800000, 0, 0xffffffff, 0, 0, 0, 0, false⟩,
  ⟨0xb020c, 0x20, 8, 0x3f800000, 0, 0xffffffff, 0, 0, 0, 0, false⟩,
  ⟨0xb0210, 0x20, 8, 0x3f800000, 0, 0xffffffff, 0, 0, 0, 0, false⟩,
  ⟨0xb0214, 0x20, 8, 0, 0, 0xffffffff, 0, 0, 0, 0, false⟩,
  ⟨0xb0218, 0x20, 8, 0, 0, 0xffffffff, 0, 0, 0, 0, false⟩,
  ⟨0xb0300, 0x20, 8, 0, 0, 0x1fffff, 0, 0, 0, 0, false⟩,
  ⟨0xb0304, 0x20, 8, 0, 0, 0x1fffff, 0, 0, 0, 0, false⟩,
  ⟨0xb0308, 0x20, 8, 0, 0, 0x3fffffff, 0, 0, 0, 0, false⟩,
  ⟨0xb030c, 0x20, 8, 0, 0, 0xffffffff, 0, 0, 0, 0, false⟩,
  ⟨0xb0310, 0x20, 8, 0, 0, 0xffffffff, 0, 0, 0, 0, false⟩,
  ⟨0xb0314, 0x20, 8, 0x111, 0, 0x3ffff, 0, 0, 0, 0, false⟩,
  ⟨0xb0318, 0x20, 8, 0, 0, 0x1fffff, 0, 0, 0, 0, false⟩,
  ⟨0xb031c, 0x20, 8, 0xe10, 0, 0x1ffff, 0, 0, 0, 0, false⟩,
  ⟨0xb0400, 4, 32, 0, 0, 0xf, 0, 0, 0, 0, false⟩,
  ⟨0xb0500, 4, 1, 0, 0, 0, 0, 0, 0, 0, false⟩,
  ⟨0xb0504, 4, 1, 0, 0, 0, 0, 0xffffffff, 0, 0, false⟩,
  ⟨0xb0508, 4, 1, 0, 0, 0, 0, 0xffffffff, 0, 0, false⟩,
  ⟨0xb050c, 4, 1, 0, 0, 0, 0, 0xffffffff, 0, 0, false⟩,
  ⟨0xb0510, 4, 1, 0, 0, 0, 0, 0xffffffff, 0, 0, false⟩,
  ⟨0xb0514, 4, 1, 0, 0, 0, 0, 0xffffffff, 0, 0, false⟩,
  ⟨0xb0520, 4, 1, 0, 0, 0, 0, 0, 0, 0, false⟩,
  ⟨0xb0524, 4, 1, 0, 0, 0, 0, 0, 0, 0, false⟩,
  ⟨0xb0528, 4, 1, 0, 0, 0xffff, 0, 0, 0, 0, false⟩,
  ⟨0xb052c, 4, 1, 0, 0, 0, 0, 0, 0, 0, false⟩,
  ⟨0xb0530, 4, 1, 0, 0, 0, 0, 0xffffffff, 0, 0, false⟩,
  ⟨0xb0534, 4, 1, 0, 0, 0, 0, 0xffffffff, 0, 0, false⟩,
  ⟨0xb0538, 4, 1, 0, 0, 0, 0, 0xffffffff, 0, 0, false⟩,
  ⟨0xb053c, 4, 1, 0, 0, 0, 0, 0xffffffff, 0, 0, false⟩,
  ⟨0xb0540, 4, 1, 0, 0, 0, 0, 0xffffffff, 0, 0, false⟩,
  ⟨0xb0544, 4, 1, 0, 0, 0, 0, 0xffffffff, 0, 0, false⟩,
  ⟨0xb0548, 4, 1, 0, 0, 0, 0, 0xffffffff, 0, 0, false⟩,
  ⟨0xb054c, 4, 1, 0, 0, 0, 0, 0xffffffff, 0, 0, false⟩,
  ⟨0xb0550, 4, 1, 0, 0, 0, 0, 0xffffffff, 0, 0, false⟩,
  ⟨0xb0554, 4, 1, 0, 0, 0, 0, 0xffffffff, 0, 0, false⟩,
  ⟨0xb0558, 4, 1, 0, 0, 0, 0, 0xffffffff, 0, 0, false⟩,
  ⟨0xb055c, 4, 1, 0, 0, 0, 0, 0xffffffff, 0, 0, false⟩]

/-- The registers of the VRD_ block. -/
def regMapVRD : List RegDef := [
  ⟨0xc0000, 4, 1, 0, 0, 0, 0, 0, 0, 0, false⟩,
  ⟨0xc0004, 4, 1, 0, 0, 0, 0, 0, 0, 0, false⟩,
  ⟨0xc0008, 4, 1, 0, 0, 0, 0, 0, 0, 0, false⟩,
  ⟨0xc0100, 8, 32, 0, 0, 0x3fff, 0, 0, 0, 0, false⟩,
  ⟨0xc0104, 8, 32, 0, 0, 0xffffffff, 0, 0, 0, 0, false⟩,
  ⟨0xc0300, 4, 5, 0, 0, 0, 0, 0xffffffff, 0, 0, false⟩,
  ⟨0xc0314, 4, 1, 0, 0, 0, 0, 0xffffffff, 0, 0, false⟩,
  ⟨0xc0318, 4, 1, 0, 0, 0, 0, 0xffffffff, 0, 0, false⟩,
  ⟨0xc031c, 4, 1, 0, 0, 0, 0, 0xffffffff, 0, 0, false⟩,
  ⟨0xc0320, 4, 1, 0, 0, 0, 0, 0xffffffff, 0, 0, false⟩,
  ⟨0xc0324, 4, 1, 0, 0, 0, 0, 0xffffffff, 0, 0, false⟩,
  ⟨0xc0328, 4, 1, 0, 0, 0, 0, 0xffffffff, 0, 0, false⟩,
  ⟨0xc032c, 4, 1, 0, 0, 0, 0, 0xffffffff, 0, 0, false⟩,
  ⟨0xc0400, 8, 33, 0, 0, 0, 0, 0, 0, 0, true⟩,
  ⟨0xc0404, 8, 33, 0, 0, 0, 0, 0, 0, 0, false⟩,
  ⟨0xc4000, 4, 32768, 0, 0, 0xffffffff, 0, 0, 0, 0, false⟩]

/-- The registers of the NWL_ block. -/
def regMapNWL : List RegDef := [
  ⟨0x100000, 0x100, 6, 0x40800, 0, 0xff1f00, 0, 0, 0, 0, false⟩,
  ⟨0x100004, 0x100, 6, 0, 0, 0, 0, 0, 1, 0, false⟩,
  ⟨0x100008, 0x100, 6, 0, 0, 0, 0, 0, 0, 0, false⟩,
  ⟨0x10000c, 0x100, 6, 0, 0, 0, 0, 0, 0, 0, false⟩,
  ⟨0x100010, 0x100, 6, 0, 0, 0, 0, 0, 0, 0, false⟩,
  ⟨0x100014, 0x100, 6, 0, 0, 0, 0, 0, 0, 0, false⟩,
  ⟨0x100020, 0x100, 6, 0x400030, 0, 0x1ff01ff, 0, 0, 0, 0, false⟩,
  ⟨0x100024, 0x100, 6, 0x400030, 0, 0x1ff01ff, 0, 0, 0, 0, false⟩,
  ⟨0x100028, 0x100, 6, 0x400030, 0, 0x1ff01ff, 0, 0, 0, 0, false⟩,
  ⟨0x10002c, 0x100, 6, 0x400030, 0, 0x1ff01ff, 0, 0, 0, 0, false⟩,
  ⟨0x100030, 0x100, 6, 0x400030, 0, 0x1ff01ff, 0, 0, 0, 0, false⟩,
  ⟨0x100040, 0x100, 6, 0, 0, 0, 0, 0, 0, 0, false⟩,
  ⟨0x100044, 0x100, 6, 0, 0, 0, 0, 0, 0, 0, false⟩,
  ⟨0x100048, 0x100, 6, 0, 0, 0, 0, 0, 0, 0, false⟩,
  ⟨0x100060, 0x100, 6, 0, 0, 0, 0, 0xffffffff, 0, 0, false⟩,
  ⟨0x100064, 0x100, 6, 0, 0, 0, 0, 0xffffffff, 0, 0, false⟩,
  ⟨0x100068, 0x100, 6, 0, 0, 0, 0, 0xffffffff, 0, 0, false⟩,
  ⟨0x10006c, 0x100, 6, 0, 0, 0, 0, 0xffffffff, 0, 0, false⟩,
  ⟨0x100070, 0x100, 6, 0, 0, 0, 0, 0xffffffff, 0, 0, false⟩,
  ⟨0x100074, 0x100, 6, 0, 0, 0, 0, 0xffffffff, 0, 0, false⟩,
  ⟨0x100078, 0x100, 6, 0, 0, 0, 0, 0xffffffff, 0, 0, false⟩,
  ⟨0x10007c, 0x100, 6, 0, 0, 0, 0, 0xffffffff, 0, 0, false⟩,
  ⟨0x100080, 0x100, 6, 0, 0, 0, 0, 0xffffffff, 0, 0, false⟩,
  ⟨0x100084, 0x100, 6, 0, 0, 0, 0, 0xffffffff, 0, 0, false⟩]

/-- The registers of the STK_ block. -/
def regMapSTK : List RegDef := [
  ⟨0x110000, 4, 1, 0x10, 0, 0, 0, 0, 0, 0, false⟩,
  ⟨0x110004, 4, 1, 0x10000, 0, 0, 0, 0, 0, 0, false⟩,
  ⟨0x110008, 4, 1, 0, 0, 0, 0, 0, 0, 0, false⟩,
  ⟨0x110010, 4, 1, 0, 0, 0, 0, 0xffffffff, 0, 0, false⟩,
  ⟨0x110014, 4, 1, 0, 0, 0, 0, 0xffffffff, 0, 0, false⟩,
  ⟨0x110018, 4, 1, 0, 0, 0, 0, 0xffffffff, 0, 0, false⟩,
  ⟨0x11001c, 4, 1, 0, 0, 0, 0, 0xffffffff, 0, 0, false⟩,
  ⟨0x110020, 4, 1, 0, 0, 0, 0, 0xffffffff, 0, 0, false⟩,
  ⟨0x110024, 4, 1, 0, 0, 0, 0, 0xffffffff, 0, 0, false⟩]

/-- The registers of the FAB_ block. -/
def regMapFAB : List RegDef := [
  ⟨0x120000, 4, 1, 0, 0, 0, 0, 0, 0, 0, false⟩,
  ⟨0x120004, 4, 1, 0, 0, 0, 0, 0, 0, 0, false⟩,
  ⟨0x120010, 4, 1, 0x1002, 0, 0xffff1f03, 0, 0, 0, 0, false⟩,
  ⟨0x120014, 4, 1, 0x3e80064, 0, 0xffffffff, 0, 0, 0, 0, false⟩,
  ⟨0x120018, 4, 1, 0x3e8, 0, 0xffff, 0, 0, 0, 0, false⟩,
  ⟨0x120020, 4, 1, 0x64020208, 0, 0xffffff0f, 0, 0, 0, 0, false⟩,
  ⟨0x120024, 4, 1, 0x140a0540, 0, 0xffffffff, 0, 0, 0, 0, false⟩,
  ⟨0x120030, 4, 1, 0, 0, 0, 0, 0, 0, 0, false⟩,
  ⟨0x120034, 4, 1, 0, 0, 0, 0, 0, 0, 0, false⟩,
  ⟨0x120038, 4, 1, 0, 0, 0, 0, 0, 0, 0, false⟩,
  ⟨0x120100, 4, 64, 0, 0, 0, 0, 0, 0, 0, false⟩,
  ⟨0x120200, 4, 1, 0, 0, 0, 0, 0xffffffff, 0, 0, false⟩,
  ⟨0x120204, 4, 1, 0, 0, 0, 0, 0xffffffff, 0, 0, false⟩,
  ⟨0x120208, 4, 1, 0, 0, 0, 0, 0xffffffff, 0, 0, false⟩,
  ⟨0x12020c, 4, 1, 0, 0, 0, 0, 0xffffffff, 0, 0, false⟩,
  ⟨0x120210, 4, 1, 0, 0, 0, 0, 0xffffffff, 0, 0, false⟩,
  ⟨0x120214, 4, 1, 0, 0, 0, 0, 0xffffffff, 0, 0, false⟩,
  ⟨0x120218, 4, 1, 0, 0, 0, 0, 0xffffffff, 0, 0, false⟩,
  ⟨0x12021c, 4, 1, 0, 0, 0, 0, 0xffffffff, 0, 0, false⟩,
  ⟨0x120220, 4, 1, 0, 0, 0, 0, 0xffffffff, 0, 0, false⟩,
  ⟨0x120224, 4, 1, 0, 0, 0, 0, 0xffffffff, 0, 0, false⟩,
  ⟨0x120228, 4, 1, 0, 0, 0, 0, 0xffffffff, 0, 0, false⟩,
  ⟨0x12022c, 4, 1, 0, 0, 0, 0, 0xffffffff, 0, 0, false⟩,
  ⟨0x120230, 4, 1, 0, 0, 0, 0, 0xffffffff, 0, 0, false⟩,
  ⟨0x120234, 4, 1, 0, 0, 0, 0, 0xffffffff, 0, 0, false⟩,
  ⟨0x120400, 4, 48, 0, 0, 0xffffffff, 0, 0, 0, 0, false⟩,
  ⟨0x120800, 4, 180, 0, 0, 0, 0, 0, 0, 0, false⟩,
  ⟨0x121000, 4, 1024, 0, 0, 0, 0, 0, 0, 0, false⟩]

/-- The registers of the PWR_ block. -/
def regMapPWR : List RegDef := [
  ⟨0x130000, 4, 1, 0xa0a, 0, 0xfffffff, 0, 0, 0, 0, false⟩,
  ⟨0x130040, 4, 1, 0, 0, 0, 0, 0xffffffff, 0, 0, false⟩,
  ⟨0x130044, 4, 1, 0, 0, 0, 0, 0xffffffff, 0, 0, false⟩,
  ⟨0x130048, 4, 1, 0, 0, 0, 0, 0, 0, 0, false⟩,
  ⟨0x13004c, 4, 1, 0, 0, 0, 0, 0, 0, 0, false⟩,
  ⟨0x130050, 4, 1, 0, 0, 0, 0, 0, 0, 0, false⟩,
  ⟨0x130100, 4, 137, 0, 0, 0, 0, 0, 0, 0, false⟩,
  ⟨0x130400, 4, 35, 0, 0, 0, 0, 0, 0, 0, false⟩]

/-- The registers of the THM_ block. -/
def regMapTHM : List RegDef := [
  ⟨0x140000, 4, 1, 0, 0, 0, 0, 0, 0, 0, false⟩,
  ⟨0x140004, 4, 1, 0, 0, 0, 0, 0, 0, 0, false⟩,
  ⟨0x140008, 4, 1, 0x3e8, 0, 0xffff, 0, 0, 0, 0, false⟩,
  ⟨0x140010, 4, 1, 0, 0, 0, 0, 0xffffffff, 0, 0, false⟩,
  ⟨0x140014, 4, 1, 0, 0, 0, 0, 0xffffffff, 0, 0, false⟩,
  ⟨0x140100, 4, 40, 0, 0, 0, 0, 0, 0, 0, false⟩,
  ⟨0x140200, 4, 6, 0, 0, 0, 0, 0, 0, 0, false⟩]

/-- The registers of the FLT_ block. -/
def regMapFLT : List RegDef := [
  ⟨0x150000, 4, 1, 0x3e80010, 0, 0xffff00ff, 0, 0, 0, 0, false⟩,
  ⟨0x150004, 4, 1, 0x400, 0, 0xffff, 0, 0, 0, 0, false⟩,
  ⟨0x150008, 4, 1, 0x640001, 0, 0xffff0001, 0, 0, 0, 0, false⟩,
  ⟨0x15000c, 4, 1, 0, 0, 0, 0, 0, 0, 0, false⟩,
  ⟨0x150010, 4, 1, 0, 0, 0, 0, 0, 0, 0, false⟩,
  ⟨0x150014, 4, 1, 0, 0, 0, 0, 0, 0, 0, false⟩,
  ⟨0x150020, 4, 1, 0, 0, 0, 0, 0, 0, 0xffffffff, false⟩,
  ⟨0x150024, 4, 1, 0, 6, 0, 0, 0, 1, 0, false⟩,
  ⟨0x150030, 4, 1, 0, 0, 0, 0, 0, 0, 0, false⟩,
  ⟨0x150034, 4, 1, 0, 0, 0, 0, 0, 0, 0, false⟩,
  ⟨0x150038, 4, 1, 0, 0, 0, 0, 0xffffffff, 0, 0, false⟩,
  ⟨0x150040, 4, 1, 0, 0xffffffff, 0, 0, 0, 0, 0, false⟩,
  ⟨0x150044, 4, 1, 0, 0, 0, 0, 0, 1, 0, false⟩,
  ⟨0x150048, 4, 1, 0, 0, 0, 0, 0, 0, 0, false⟩,
  ⟨0x150060, 4, 1, 0, 0, 0, 0, 0xffffffff, 0, 0, false⟩,
  ⟨0x150064, 4, 1, 0, 0, 0, 0, 0xffffffff, 0, 0, false⟩,
  ⟨0x150068, 4, 1, 0, 0, 0, 0, 0xffffffff, 0, 0, false⟩,
  ⟨0x15006c, 4, 1, 0, 0, 0, 0, 0xffffffff, 0, 0, false⟩,
  ⟨0x150070, 4, 1, 0, 0, 0, 0, 0xffffffff, 0, 0, false⟩,
  ⟨0x150074, 4, 1, 0, 0, 0, 0, 0xffffffff, 0, 0, false⟩,
  ⟨0x150100, 4, 64, 0, 0, 0, 0, 0, 0, 0, false⟩,
  ⟨0x150200, 4, 20, 0, 0, 0, 0, 0, 0, 0, false⟩]

/-- The registers of the MSIX_ block. -/
def regMapMSIX : List RegDef := [
  ⟨0x3f00000, 0x10, 2048, 0, 0xfffffffc, 0, 0, 0, 0, 0, false⟩,
  ⟨0x3f00004, 0x10, 2048, 0, 0xffffffff, 0, 0, 0, 0, 0, false⟩,
  ⟨0x3f00008, 0x10, 2048, 0, 0xffffffff, 0, 0, 0, 0, 0, false⟩,
  ⟨0x3f0000c, 0x10, 2048, 1, 1, 0, 0, 0, 0, 0, false⟩,
  ⟨0x3f08000, 4, 64, 0, 0, 0, 0, 0, 0, 0, false⟩]

/-- The registers of the TST_ block. -/
def regMapTST : List RegDef := [
  ⟨0x160000, 0x20, 37, 0x10, 0x2ff, 0, 0, 0, 0x100, 0, false⟩,
  ⟨0x160004, 0x20, 37, 0, 0, 0, 2, 0, 0, 0, false⟩,
  ⟨0x160008, 0x20, 37, 0, 0, 0, 0, 0xffffffff, 0, 0, true⟩,
  ⟨0x16000c, 0x20, 37, 0, 0, 0, 0, 0xffffffff, 0, 0, false⟩,
  ⟨0x160010, 0x20, 37, 0, 0, 0, 0, 0xffffffff, 0, 0, true⟩,
  ⟨0x160014, 0x20, 37, 0, 0, 0, 0, 0xffffffff, 0, 0, false⟩,
  ⟨0x160018, 0x20, 37, 0, 0, 0, 0, 0xffffffff, 0, 0, false⟩,
  ⟨0x161000, 4, 19, 0, 0, 0, 0, 0, 0, 0, false⟩,
  ⟨0x161080, 4, 1, 0, 0, 0, 0, 0, 0, 0, false⟩]

/-- The block of a BAR0 offset, by its 64 KiB page (Table 18-1; VRD_ has four). -/
def regBlock (off : Nat) : List RegDef :=
  match off / 0x10000 with
  | 0 => regMapGLB
  | 1 => regMapIMG
  | 2 => regMapHIF
  | 3 => regMapTID
  | 4 => regMapINT
  | 5 => regMapREL
  | 6 => regMapCAT
  | 7 => regMapVIT
  | 8 => regMapGTH
  | 9 => regMapARB
  | 10 => regMapGAL
  | 11 => regMapSRV
  | 12 => regMapVRD
  | 13 => regMapVRD
  | 14 => regMapVRD
  | 15 => regMapVRD
  | 16 => regMapNWL
  | 17 => regMapSTK
  | 18 => regMapFAB
  | 19 => regMapPWR
  | 20 => regMapTHM
  | 21 => regMapFLT
  | 1008 => regMapMSIX
  | 22 => regMapTST
  | _ => []

/-- Whether the word at `off` belongs to the register array `d`. -/
def RegDef.covers (d : RegDef) (off : Nat) : Bool :=
  decide (d.base ≤ off) && (off - d.base) % d.stride == 0 && decide ((off - d.base) / d.stride < d.count)

/-- The register that stands at a word offset of BAR0, if any chapter defines one (R653, R654). -/
def regDef (off : Nat) : Option RegDef := (regBlock off).find? (fun d => d.covers off)

/-- The reset value of the word at `off` (Table 18-5). -/
def regReset (off : Nat) : Word :=
  match regDef off with
  | some d => word d.reset
  | none => 0

end Sys2Proof
end

