-- ==== Sys2Proof/Types/Acc.lean ====
section
/-!
DEFINITION. The Accession register: chains and the buffer of Kartona records (chapter "Verdicts, the Accession
register and replay").
-/
namespace Sys2Proof

/-- One of the 33 chains (R388): 0 to 31 Strands, 32 the device. -/
structure Chain where
  started : Bool
  /-- Records in the chain. -/
  count : Nat
  /-- CHAIN of the last record. -/
  last : Bytes
  /-- Records since the last seal (R390). -/
  sinceSeal : Nat
  /-- Tick of the last seal or of the start (R390). -/
  sealTick : Nat
  /-- Records lost to a full buffer: count, first and last frame ID (R393). -/
  lostAny : Bool
  lostCount : Nat
  lostFirst : Nat
  lostLast : Nat
  deriving DecidableEq, Repr

/-- A chain that has not started. -/
def Chain.empty : Chain := ⟨false, 0, [], 0, 0, false, 0, 0, 0⟩

/-- A Kartona record in the Accession buffer: chain, count of records in the chain up to it, its 128 bytes. -/
structure KRec where
  chain : Nat
  count : Nat
  bytes : Bytes
  deriving DecidableEq, Repr

/-- A commit of content (R385): serial after it, tick, kind code, index, new and old version, digest. -/
structure ContentCommit where
  cset : Nat
  tick : Nat
  kind : Nat
  index : Nat
  newVer : Nat
  oldVer : Nat
  digest : Bytes
  deriving DecidableEq, Repr

/-- The Accession register. -/
structure Acc where
  chains : Tab Chain
  /-- The buffer, oldest first. -/
  buffer : List KRec
  /-- Every commit of content since the last full reset, newest first. -/
  commits : List ContentCommit
  /-- D_CSET of R439. -/
  digest : Bytes
  /-- Slot 1's leaf key is the Accession seal key (R438). -/
  sealKey : Bool
  deriving DecidableEq, Repr

end Sys2Proof
end

