-- ==== Sys2Proof/Types/Content.lean ====
section
/-!
DEFINITION. Loaded content: vocabularies, models and automata as their raw bytes, by kind, index and version.
-/
namespace Sys2Proof

/-- A resident version. -/
structure Resident where
  kind : ContentKind
  index : Nat
  version : Nat
  digest : Bytes
  bytes : Bytes
  bad : Bool
  current : Bool
  deriving DecidableEq, Repr

/-- A mask that the mask cache holds (R151): automaton, its version, state, whether r has reached MAX_REPEAT, size. -/
structure MaskEntry where
  automaton : Nat
  version : Nat
  state : Nat
  atMax : Bool
  size : Nat
  deriving DecidableEq, Repr

end Sys2Proof
end

