-- ==== Sys2Proof/Types/Fabric.lean ====
section
/-!
DEFINITION. The fabric: packets on their way, flows, Causeways, content replication (chapter "Fabric: routing, congestion and
replication").
-/
namespace Sys2Proof

/-- A packet that waits at this node for an eligible port (R525). -/
structure Transit where
  packet : Packet
  good : Bool
  origin : Option (Nat × Nat)
  since : Nat
  deriving DecidableEq, Repr

/-- A packet sent and not yet acknowledged (R532): the tick of its last send, its resends so far. -/
structure Unacked where
  packet : Packet
  sent : Nat
  tries : Nat
  deriving DecidableEq, Repr

/-- A flow to a destination node (R536, R537). `credit` is in 1/500 flit, as of `creditTick`. -/
structure Flow where
  node : Nat
  rate : Nat
  credit : Nat
  creditTick : Nat
  lastSend : Nat
  lastDec : Option Nat
  incTick : Nat
  deriving DecidableEq, Repr

/-- A Causeway at this node: its state at the source (Table 14-11 FAB_CW_STATE), the tick of its last setup, whether this node's
slots for it are armed. -/
structure Causeway where
  state : Nat
  setup : Nat
  armed : Bool
  deriving DecidableEq, Repr

/-- A Causeway after reset: IDLE (R558). -/
def Causeway.reset : Causeway := ⟨0, 0, false⟩

/-- A load as replication carries it (Table 14-7). -/
structure ReplLoad where
  replId : Nat
  kind : Nat
  index : Nat
  version : Nat
  oldVer : Nat
  digest : Bytes
  content : Bytes
  deriving DecidableEq, Repr

/-- A round being received (R547): its source, what REPL_BEGIN said, the bytes and the parts (offset, length) that have arrived, the
tick of its REPL_END. -/
structure Round where
  src : Nat
  rset : Nat
  load : ReplLoad
  totalLen : Nat
  parts : List (Nat × Nat)
  ended : Option Nat
  deriving DecidableEq, Repr

/-- The load that the origin is replicating (R545 to R548): its phase (1 ROUND, 2 WAIT, 3 RETRY), the tick of its last REPL_END, the
unicast retries so far, the devices that have answered OK. -/
structure Repl where
  load : ReplLoad
  phase : Nat
  since : Nat
  tries : Nat
  ok : List Nat
  deriving DecidableEq, Repr

/-- The fabric beside its registers. -/
structure Fabric where
  /-- The manifest in force; empty in SINGLE mode after a bad one. -/
  manifest : Bytes
  /-- SHA-384 of the MANIFEST section. -/
  manifestDig : Bytes
  transits : List Transit
  /-- Packets to be sent that the limit of R532 or the pacing of R536 holds back. -/
  outbox : List Packet
  /-- The endpoint memory: packets consumed and not yet acted on, in order of arrival (R531). -/
  endpoint : List Packet
  unacked : List Unacked
  nextMsg : Nat
  flows : List Flow
  /-- Tick of the last ECHO to a source. -/
  echoes : Tab Nat
  causeways : Tab Causeway
  rounds : List Round
  queue : List ReplLoad
  repl : Option Repl
  /-- Loads kept in staging, oldest first (R552). -/
  kept : List ReplLoad
  /-- The REPL_ID last given to a load (R546). -/
  nextRepl : Nat
  /-- Tick of the last catalog, or of CMD_READY before the first (R558). -/
  catalog : Option Nat
  /-- By item number: the tick of the last REPL_PULL, the tick since which it has been below its target, the items that are stale. -/
  pulls : Tab Nat
  below : Tab Nat
  stale : List Nat
  deriving DecidableEq, Repr

/-- The fabric after reset (R558). -/
def Fabric.reset : Fabric := ⟨[], [], [], [], [], [], 0, [], [], [], [], [], none, [], 0, none, [], [], []⟩

end Sys2Proof
end

