-- ==== Sys2Proof/Types/Vit.lean ====
section
/-!
DEFINITION. The Vitrine: units, banks, tables, update operations, searches (chapter "Vitrine: the associative store").
-/
namespace Sys2Proof

/-- META of a unit (Table 5-2); PARITY is derived, WIDTH as 0, 1, 2. -/
structure Meta where
  valid : Bool
  head : Bool
  width : Nat
  mlen : Nat
  stale : Bool
  refresh : Bool
  age : Bool
  learned : Bool
  pinned : Bool
  lport : Nat
  moves : Nat
  deriving DecidableEq, Repr

/-- The result record in a head unit (Table 5-3). -/
structure VResult where
  ever : Nat
  code : Nat
  attr : Nat
  learnTick : Nat
  moveTick0 : Nat
  data : Bytes
  deriving DecidableEq, Repr

/-- One unit (Table 5-1). -/
structure VUnit where
  key : Nat
  mask : Nat
  info : Meta
  result : VResult
  deriving DecidableEq, Repr

/-- A hole as reset leaves it (R208): every bit 0. -/
def VUnit.hole : VUnit :=
  ⟨0, 0, ⟨false, false, 0, 0, false, false, false, false, false, 0, 0⟩, ⟨0, 0, 0, 0, 0, []⟩⟩

/-- A whole entry as an operation carries it: all its key and mask bits, its META flags, its result. -/
structure VEntry where
  key : Nat
  mask : Nat
  info : Meta
  result : VResult
  deriving DecidableEq, Repr

/-- The operations of a table batch (Table 11-13). -/
inductive BatchOp where
  | insert (e : VEntry)
  | modify (key mask code : Nat) (data : Bytes)
  | delete (key mask : Nat)
  | unpin (key mask : Nat)
  | rebalance
  | clear
  deriving DecidableEq, Repr

/-- A queued learn (R184): the frame and slot that wait for it, its key, its attribute, its port. -/
structure Learn where
  frame : Nat
  slot : Nat
  key : Nat
  attr : Nat
  port : Nat
  tableVer : Nat
  deriving DecidableEq, Repr

/-- An update that waits its turn in a table's order (R167, R179). -/
inductive TableOp where
  /-- Operation `index` of the batch of load `load`, with the batch's version. -/
  | batch (load index version : Nat) (op : BatchOp)
  | learn (l : Learn)
  /-- A removal queued by the aging sweep: head unit address (R190). -/
  | remove (addr : Nat)
  deriving DecidableEq, Repr

/-- How a learn ends (R185, R207). -/
inductive LearnEnd where
  | insert
  | move
  | same
  | pinned
  | dropped
  deriving DecidableEq, Repr

/-- One unit write, probe or move as an update engine presents it (R180). -/
inductive Prim where
  | probe
  /-- The unit at `addr` takes this content. -/
  | write (addr : Nat) (u : VUnit)
  /-- The unit at `src` is copied to `dst`. -/
  | move (src dst : Nat)
  /-- The head at `addr` loses VALID. -/
  | invalidate (addr : Nat)
  /-- The commit of a learn; the entry's head stands at `addr`. -/
  | learn (how : LearnEnd) (addr : Nat)
  deriving DecidableEq, Repr

/-- The operation in progress on a table: what it is and the unit operations still to be presented. -/
structure CurOp where
  op : TableOp
  plan : List Prim
  deriving DecidableEq, Repr

/-- A table's state beside its registers. -/
structure VTable where
  ver : Nat
  lseq : Nat
  ops : List TableOp
  cur : Option CurOp
  /-- The batch that waits for its last operation to reach every live replica: load and version. -/
  batch : Option (Nat × Nat)
  /-- Tick from which the next sweep is due. -/
  sweepDue : Nat
  deriving DecidableEq, Repr

/-- A table at reset (R208). -/
def VTable.reset : VTable := ⟨0, 0, [], none, none, 0⟩

/-- A bank. -/
structure Bank where
  /-- Units that are not holes of all zeros, by unit address. -/
  units : Tab VUnit
  /-- The shadow copy of R194. -/
  shadow : Tab VUnit
  /-- Unit operations that a replica has yet to apply, with their table, in the order the first bank gave them. -/
  queue : List (Nat × Prim)
  /-- Units to be repaired from the shadow (R195). -/
  repairs : List Nat
  scrubNext : Nat
  pass : Nat
  /-- Operations and scrub reads presented in this revolution (R180). -/
  updRev : Nat
  scrubRev : Nat
  deriving DecidableEq, Repr

/-- A bank at reset: every unit a hole (R208). -/
def Bank.reset : Bank := ⟨[], [], [], [], 0, 0, 0, 0⟩

/-- The lookup result of Table 5-4 with the DATA of its match. -/
structure Lookup where
  hit : Bool
  staleSeen : Bool
  outcome : Nat
  conflict : Bool
  spec : Bool
  table : Nat
  index : Nat
  mlen : Nat
  code : Nat
  ever : Nat
  /-- The table's content version at the search (R181). -/
  tableVer : Nat
  data : Bytes
  deriving DecidableEq, Repr

/-- How far a search of a frame has come. -/
inductive SearchState where
  | waiting
  /-- Granted on bank `bank` at tick `tick`; the match that its slot found. -/
  | granted (bank tick : Nat) (found : Lookup) (attr : Nat) (pinned : Bool)
  /-- Waits for its learn to commit (R184). -/
  | learning
  /-- Sent over the stack port: the tick, and whether this device asked the Headland (a REQ). -/
  | stacked (tick : Nat) (req : Bool)
  | done
  deriving DecidableEq, Repr

/-- A search that a frame makes. -/
structure Search where
  id : Nat
  slot : Nat
  /-- Ordinal of the n-gram key within its slot, 0 for a KEY slot. -/
  ord : Nat
  ngram : Bool
  table : Nat
  key : Nat
  /-- The attribute A where the search learns (R183). -/
  learn : Option Nat
  spec : Bool
  state : SearchState
  result : Option Lookup
  deriving DecidableEq, Repr

/-- The Vitrine. -/
structure Vit where
  banks : Tab Bank
  tables : Tab VTable
  deriving DecidableEq, Repr

end Sys2Proof
end

