-- ==== Sys2Proof/Types/Frame.lean ====
section
/-!
DEFINITION. A frame inside the device, from its arrival to its disposition, with the work of every stage it visits.
-/
namespace Sys2Proof

/-- Where a frame stands. -/
inductive FramePhase where
  /-- Waits for its parse beats (arrival step 8). -/
  | parsing
  /-- Handed to its Strand. -/
  | inside
  /-- Refused at step 7 or 8 (NO_STRAND, PARSE); waits for its deadline and release. -/
  | refused
  deriving DecidableEq, Repr

/-- The tokenization of one TEXT slot (R135, R139, R141). -/
structure TextJob where
  slot : Nat
  text : Bytes
  vocab : Nat
  ngramN : Nat
  guard : Bool
  /-- Version pinned at the first grant (R136). -/
  pin : Option Nat
  /-- Units in all, known with the pin. -/
  units : Nat
  granted : Nat
  done : Nat
  /-- Still held by Intake for want of queue space (R141). -/
  held : Bool
  tokens : List Nat
  finished : Bool
  deriving DecidableEq, Repr

/-- A model of the Strand's list (R271). -/
structure ModelJob where
  pos : Nat
  model : Nat
  /-- Version pinned when the frame first entered the feature assembler (R275). -/
  pin : Option Nat
  /-- SHA-384 digest of the pinned version. -/
  digest : Bytes
  started : Bool
  /-- Arbor units still to grant and still to complete; Gallery slots likewise. -/
  treesToGrant : Nat
  treesToDo : Nat
  slotsToGrant : Nat
  slotsToDo : Nat
  /-- The Gallery on which the program runs (R264). -/
  gallery : Option Nat
  /-- Tick at which the outputs are ready. -/
  readyAt : Option Nat
  feats : List Nat
  outs : List (Option Nat)
  finished : Bool
  deriving DecidableEq, Repr

/-- What becomes of a frame's Tap copy (R116 to R119). -/
inductive TapState where
  | none
  | queued
  | lost
  | sent
  deriving DecidableEq, Repr

/-- A replay that a frame of the model stands for (R396): where its completion goes, its FRAME record, the entries of its DETAIL records,
and the versions that it is to use: content kind, index, version. -/
structure Replay where
  cmd : CmdRef
  record : Bytes
  entries : List Bytes
  versions : List (Nat × Nat × Nat)
  deriving DecidableEq, Repr

/-- What a frame is. -/
inductive FrameKind where
  | wire
  /-- The closing screening of a stream that timed out (R40): its chunks. -/
  | streamClose (chunks : Nat) (lastId : Nat)
  | replay (r : Replay)
  deriving DecidableEq, Repr

/-- A frame with a deadline: every one but a replay (R396). -/
def FrameKind.timed : FrameKind → Bool
  | .replay _ => false
  | _ => true

/-- A match of the sentinel: the offsets in the frame of its digits, first to last (R378, R380); digits of a previous
chunk are left out. -/
abbrev SentMatch := List Nat

/-- The guard stage output as the frame holds it (Table 8-3): request ID, status, label, its 16 bytes. -/
structure GuardOut where
  req : Nat
  status : Nat
  label : Nat
  bytes : Bytes
  deriving DecidableEq, Repr

/-- A frame. -/
structure Frame where
  key : Nat
  kind : FrameKind
  phase : FramePhase
  port : EthPort
  /-- Destination address to the byte before the FCS, as received after MACsec removal. Of a frame of an invalid class
  only the addresses and tags are kept (R56). -/
  bytes : Bytes
  /-- L: length with FCS. -/
  length : Nat
  digest : Bytes
  cls : Nat
  dset : Nat
  follow : Bool
  invalidClass : Bool
  /-- The stream that the chunk belongs to, by its key, and the final mark (R104, R105). -/
  stream : Option Nat
  final : Bool
  tArr : Nat
  tDl : Nat
  tRel : Nat
  shift : Nat
  resLen : Nat
  cells : Nat
  strand : Option Nat
  id : Nat
  handTick : Nat
  cset : Nat
  epoch : Nat
  seed : Nat
  seedDefaulted : Bool
  beatsToGrant : Nat
  fields : List PField
  sentinels : List SentMatch
  /-- The count that enters the combiner vector: the frame's own, or the sum of R379 for a closing screening. -/
  sentCount : Nat
  /-- Stages used and stages delivered, bit k for stage k. -/
  used : Nat
  done : Nat
  texts : List TextJob
  /-- NGRAM_TRUNC, TEXT_TRUNC, KEY_TRUNC, PROMPT_TRUNC. -/
  catFlags : Nat
  searches : List Search
  /-- Searches of TEXT slots have been formed. -/
  ngramsFormed : Bool
  walkStarted : Bool
  walk : Option Walk
  /-- The graph version pinned by a walk that waits to restart (R242). -/
  walkPin : Option Nat
  gather : Option GatherOut
  models : List ModelJob
  guard : Option GuardOut
  /-- SHA-384 digest of the guard model of its request, and what the request pinned beside models of the Strand: DETAIL
  kind, index and version. -/
  guardDigest : Bytes
  guardPins : List (Nat × Nat × Nat)
  /-- The guard request of the frame: its slot. -/
  request : Option Nat
  /-- Tick at which the tokens of its GUARD field were ready (R351). -/
  guardReady : Option Nat
  combineGranted : Bool
  /-- UNSCREENED causes met so far. -/
  causes : List Reason
  verdict : Option Verdict
  reason : Option Reason
  rule : Nat
  code : Nat
  redactSrc : Nat
  redactOver : Bool
  vector : Option Bytes
  commitTick : Nat
  /-- FRAME_DEADLINE has passed: verdict, reason and action are final. -/
  decided : Bool
  action : FailAction
  tap : TapState
  auditGap : Bool
  /-- RELEASE_LEAD has run. -/
  led : Bool
  /-- Bytes to emit, FCS apart: the frame or the notice, protected where MACsec asks; none where nothing is emitted. -/
  out : Option Bytes
  /-- Ranges actually filled: bytes replaced and matches replaced. -/
  redactBytes : Nat
  redactMatches : Nat
  redacted : Bool
  inbandFallback : Bool
  egressLost : Bool
  holdEcc : Bool
  /-- Retries used, by stage (R597). -/
  retries : Tab Nat
  deriving DecidableEq, Repr

end Sys2Proof
end

