-- ==== Sys2Proof/Types/Guard.lean ====
section
/-!
DEFINITION. Guard serving: requests, Coves, KV blocks, steps, the Archive tier (chapters "Guard serving I" and "Guard
serving II").
-/
namespace Sys2Proof

/-- Request states (Table 8-6); a slot without a request is FREE. -/
inductive ReqState where
  | admitting
  | prefill
  | decode
  | paused
  | cancelling
  | ended
  deriving DecidableEq, Repr

/-- A registered cancel: its status (Table 8-4), its registration tick, the command to answer. -/
structure Cancel where
  status : Nat
  tick : Nat
  cmd : Option CmdRef
  deriving DecidableEq, Repr

/-- Where a request's cache stands. -/
inductive CachePlace where
  | hbm
  /-- An Archive write is under way, to the entry of this key. -/
  | moving (key : Nat)
  /-- Held by the Archive entry of this key. -/
  | archived (key : Nat)
  /-- A resume read of the entry of this key is under way; when it was sent. -/
  | reading (key sent : Nat)
  deriving DecidableEq, Repr

/-- A node of a speculative tree (Table 9-1); VALID is worked out at the commit. -/
structure TreeNode where
  token : Nat
  parent : Nat
  depth : Nat
  deriving DecidableEq, Repr

/-- A guard request (R284, Table 8-6). -/
structure Request where
  slot : Nat
  gen : Nat
  state : ReqState
  status : Nat
  frame : Nat
  frameId : Nat
  strand : Nat
  /-- 0 spring, 1 mean, 2 neap. -/
  band : Nat
  cove : Nat
  /-- T_dl of its frame; none for a replay. -/
  tDl : Option Nat
  seed : Nat
  /-- Pinned versions: model, vocabulary (index, version), automaton (index, version). -/
  model : Nat
  modelVer : Nat
  vocab : Nat
  vocabVer : Nat
  aut : Nat
  autVer : Nat
  prompt : List Nat
  /-- Generated tokens, first to last. -/
  toks : List Nat
  truncated : Bool
  /-- Committed automaton state and repeat count. -/
  q : Nat
  r : Nat
  /-- Detokenizer bytes held back. -/
  carry : Bytes
  label : Nat
  /-- The guard stage output has been delivered (R309, R310). -/
  delivered : Bool
  /-- Blocks taken from the prefix table, in block table order. -/
  shared : List Nat
  /-- Private blocks in block table order, the scratch block last; empty while the cache is in the Archive tier. -/
  priv : List Nat
  /-- The private block need reserved at admission (R301). -/
  need : Nat
  prefilled : Nat
  /-- Admission order on its Cove. -/
  order : Nat
  seq : Nat
  lastStep : Nat
  cancel : Option Cancel
  /-- FAULT or EXPIRED, due at the next commit point (R323, R360, R364, R365). -/
  doom : Option Nat
  /-- Taken out of steps by a pause (R354), a cancel since then or not; its place in the pause order. -/
  paused : Bool
  pauseOrder : Nat
  place : CachePlace
  /-- A resume was due and found no room (R363). -/
  resumeTry : Bool
  /-- Counts against its Strand's guard share (R355). -/
  counted : Bool
  /-- Tree drafted for the next step (R332). -/
  draft : List TreeNode
  /-- The FINAL record has been posted. -/
  finalPosted : Bool
  deriving DecidableEq, Repr

/-- A KV block's record (Table 8-2), of a block that is not FREE. -/
structure KvBlock where
  refs : Nat
  sealed : Bool
  bad : Bool
  hash : Bytes
  tokens : List Nat
  deriving DecidableEq, Repr

/-- What a request does in a step: the nodes of its tree (one without speculation), or a prefill chunk of positions. -/
inductive RowSet where
  | decode (tree : List TreeNode)
  | chunk (first len : Nat)
  deriving DecidableEq, Repr

/-- A step in progress: its start, the request slots with their rows, the retries used. -/
structure CoveStep where
  start : Nat
  rows : List (Nat × RowSet)
  retries : Nat
  deriving DecidableEq, Repr

/-- A guard stage output to be posted at C + 10 (R307): frame, request, status, label, its 16 bytes. -/
structure OutPost where
  frame : Nat
  req : Nat
  status : Nat
  label : Nat
  bytes : Bytes
  due : Nat
  deriving DecidableEq, Repr

/-- A batch record to be posted (R313): its request's slot and ID, frame ID, SEQ, its bytes, whether it is FINAL, the
command answered with it (R320). -/
structure RecPost where
  slot : Nat
  req : Nat
  frameId : Nat
  seq : Nat
  bytes : Bytes
  final : Bool
  reply : Option CmdRef
  due : Nat
  deriving DecidableEq, Repr

/-- A Cove beside its registers. -/
structure Cove where
  /-- Step number of the last commit. -/
  stepNo : Nat
  /-- Tick of the last commit. -/
  last : Option Nat
  step : Option CoveStep
  wedged : Bool
  blocks : Tab KvBlock
  /-- Blocks entered in the prefix table. -/
  prefixes : List Nat
  /-- The reclaim list, head first (R297). -/
  reclaim : List Nat
  /-- Consecutive commits with a long step time, and with a short one (R353, R356). -/
  longRun : Nat
  shortRun : Nat
  /-- Admissions and pauses so far. -/
  admitted : Nat
  pauses : Nat
  outputs : List OutPost
  records : List RecPost
  /-- Tick since which a request has been in PREFILL, DECODE or CANCELLING without a commit point (R324). -/
  activeSince : Option Nat
  deriving DecidableEq, Repr

/-- A Cove after reset (R326). -/
def Cove.reset : Cove := ⟨0, none, none, false, [], [], [], 0, 0, 0, 0, [], [], none⟩

/-- An Archive entry: of a request of this device (held here or at a peer), or stored for a peer. -/
structure ArchEntry where
  key : Nat
  reqId : Nat
  frameId : Nat
  digest16 : Bytes
  lc : Nat
  /-- Block table indices held. -/
  blocks : List Nat
  cove : Nat
  size : Nat
  remote : Bool
  /-- Tick of expiry; none while the entry is being written. -/
  expire : Option Nat
  /-- The peer device for which it is stored here. -/
  owner : Option Nat
  /-- The bytes of an entry that came over the fabric, with the parts that have arrived (offset and length). -/
  bytes : Bytes
  parts : List (Nat × Nat)
  deriving DecidableEq, Repr

/-- Guard serving. -/
structure Guard where
  requests : List Request
  /-- Generations of the request slots (R284). -/
  gens : Tab Nat
  /-- Frame ID of the request that last returned to FREE, by slot (R317). -/
  freed : Tab Nat
  coves : Tab Cove
  archive : List ArchEntry
  nextEntry : Nat
  deriving DecidableEq, Repr

/-- Guard serving after reset (R326, R367). -/
def Guard.reset : Guard := ⟨[], [], [], [], [], 0⟩

end Sys2Proof
end

