-- ==== Sys2Proof/Types/Nvm.lean ====
section
/-!
DEFINITION. The two NVM banks and what runs on them (chapters "Start-up, the Afral image and rolling change" and
"Faults, retirement and test").
-/
namespace Sys2Proof

/-- A program or erase in flight on a bank. -/
inductive NvmOp where
  /-- The page program of the ledger record in flight, at a page of the ledger region. -/
  | ledgerPage (page : Nat)
  /-- A page program of an IMG_PROGRAM command. -/
  | imagePage (off : Nat) (data : Bytes)
  /-- A recovery page program (R475). -/
  | recPage (off : Nat) (data : Bytes)
  /-- A sector erase; `rec` where the recovery register asked for it. -/
  | erase (off : Nat) (recovery : Bool)
  deriving DecidableEq, Repr

/-- A bank: its bytes that are not 0xFF, by NVM offset, and what runs on it. -/
structure NvmBank where
  cells : List Host.Cell
  op : Option NvmOp
  deriving DecidableEq, Repr

/-- A blank bank at rest. -/
def NvmBank.blank : NvmBank := ⟨[], none⟩

/-- A ledger record waiting for its page (Table 16-6): SEQ, TYPE, TICK and CONTENT. -/
structure LedRec where
  seq : Nat
  type : Nat
  tick : Nat
  content : Bytes
  deriving DecidableEq, Repr

/-- One bank's part of a record program in flight: the page, whether it still runs, how often it was retried, whether
the record stands sealed there. -/
structure LedPart where
  page : Nat
  run : Bool
  tries : Nat
  sealed : Bool
  deriving DecidableEq, Repr

/-- A record program in flight (R604, R610). -/
structure LedProgram where
  record : LedRec
  a : LedPart
  b : LedPart
  deriving DecidableEq, Repr

/-- A command that completes once a ledger record is sealed: SEQ, command, the bank it concerns. -/
structure LedWaiter where
  seq : Nat
  cmd : CmdRef
  bank : Nat
  deriving DecidableEq, Repr

end Sys2Proof
end

