-- ==== Sys2Proof/Types/Ledger.lean ====
section
/-!
DEFINITION. Faults, retirement and the fault ledger (chapter "Faults, retirement and test").
-/
namespace Sys2Proof

/-- The state in force of Table 16-8: one bit map per kind of unit, SELECT and ARMED. -/
structure InForce where
  strands : Nat
  banks : Nat
  pcs : Nat
  gather : Nat
  galleries : Nat
  arbor : Nat
  catalogue : Nat
  parsers : Nat
  ddr : Nat
  lanes : Nat
  /-- SELECT: the bank of the newest BANK_SELECT record. -/
  select : Option Nat
  armedA : Bool
  armedB : Bool
  deriving DecidableEq, Repr

/-- Nothing retired, nothing selected, nothing armed. -/
def InForce.empty : InForce := ⟨0, 0, 0, 0, 0, 0, 0, 0, 0, 0, none, false, false⟩

/-- A fault counted against a unit in the sliding window of R598: tick, and whether it is a correction. -/
structure FaultHit where
  unit : UnitId
  tick : Nat
  correction : Bool
  deriving DecidableEq, Repr

/-- The ledger and the retired units. -/
structure Ledger where
  force : InForce
  nextSeq : Nat
  /-- The next page of the region (0 to 65,535) to be programmed in both banks. -/
  nextPage : Nat
  /-- Records waiting, oldest first. -/
  queue : List LedRec
  program : Option LedProgram
  /-- A page has been erased since reset, so records may be programmed (R609). -/
  ready : Bool
  waiters : List LedWaiter
  /-- Window counts of R598, newest first. -/
  hits : List FaultHit
  deriving DecidableEq, Repr

/-- The ledger before the scan of a start. -/
def Ledger.reset : Ledger := ⟨InForce.empty, 0, 0, [], none, false, [], []⟩

end Sys2Proof
end

