-- ==== Sys2Proof/Types/Out.lean ====
section
/-!
DEFINITION. What leaves the device: the model's own log of everything a partner outside the device can see.
-/
namespace Sys2Proof

/-- How a BAR access ends. -/
inductive BusReply where
  | data (v : Nat)
  | unsupportedRequest
  | discarded
  | accepted
  deriving DecidableEq, Repr

/-- One thing the device shows to the outside. -/
inductive Output where
  /-- A frame on an Ethernet port: first byte after the SFD at tick `tick`, bytes from destination address to FCS
  (as protected, where the port's MACsec is enabled). -/
  | wire (port : EthPort) (tick : Nat) (bytes : Bytes)
  /-- A record written to ring `ring` (0–15 SQ, 16–31 CQ, 32–47 RR, 48 event, 49 accession) from entry `index` on. -/
  | ringRecord (ring index : Nat) (bytes : Bytes)
  /-- An MSI-X message. -/
  | msix (vector : Nat)
  /-- An answer on a BAR or on JTAG REG_ACCESS. -/
  | reply (r : BusReply)
  /-- A poisoned or failed access reported through AER. -/
  | aer
  /-- A message answered over a management transport (MCTP control, PLDM, SPDM, IDE_KM, DOE): its name, what the spec says of its
  content, and its bytes, which the named standards lay out. -/
  | message (what : String) (content bytes : Bytes)
  /-- A PLDM PlatformEventMessage. -/
  | platformEvent (code : Nat) (arg : Nat)
  /-- A flit on Narwyn port `q` (0–5): the 256 bytes and their parity, 280 bytes before scrambling (R478). -/
  | flit (q : Nat) (bytes : Bytes)
  /-- A match word on MATCH_OUT (136 bits). -/
  | matchWord (w : Nat)
  /-- A code on VDD_VID. -/
  | vid (code : Nat)
  /-- THERM_TRIP_N driven low (true) or released. -/
  | thermTrip (asserted : Bool)
  /-- One bit inverted by INJECT on lane `l`. -/
  | injected (l : Nat)
  /-- What the JTAG data register shifts out next. -/
  | tdo (w : Nat) (v : Nat)
  deriving DecidableEq, Repr

end Sys2Proof
end

