-- ==== Sys2Proof/Types/Power.lean ====
section
/-!
DEFINITION. Power-managed units, throttling, sensors, field verification, the tide timebase (chapter "Power, clocks, thermal
and trim").
-/
namespace Sys2Proof

/-- Power states of a unit that is not retired (Table 15-2). -/
inductive PowerState where
  | parked
  | banked
  | running
  deriving DecidableEq, Repr

/-- A wake in progress (R566): its start, the lock retries used (R592). -/
structure Wake where
  start : Nat
  retries : Nat
  deriving DecidableEq, Repr

/-- A power-managed unit (R562). -/
structure PowerUnit where
  state : PowerState
  /-- Tick since which it has had no eligible work, or at which it entered its state, whichever is later. -/
  since : Nat
  wake : Option Wake
  deriving DecidableEq, Repr

/-- A unit after reset: Parked (R595). -/
def PowerUnit.reset : PowerUnit := ⟨.parked, 0, none⟩

/-- A slew in progress (R574): ticks to gain (or lose), its rate in ppm, its first tick. -/
structure Slew where
  negative : Bool
  ticks : Nat
  ppm : Nat
  start : Nat
  deriving DecidableEq, Repr

/-- A lane's field verification beside PWR_LANE_VERIFY (R588, R589): passing windows in a row, the tick at which the window
began, and whether the window is discarded for a retrain. -/
structure LaneVerify where
  passes : Nat
  start : Nat
  deriving DecidableEq, Repr

/-- A sensor's field verification beside THM_SENSOR (R590): the check in progress, the tick of the last check, passing
checks in a row. -/
structure SensorVerify where
  check : Option Nat
  last : Nat
  passes : Nat
  deriving DecidableEq, Repr

/-- Power, clocks, thermal. -/
structure Power where
  units : Tab PowerUnit
  /-- The trim block in force, once its check has passed (R454). -/
  trims : Option (List Byte)
  /-- The level at which the FF and GAL clocks run; it lags a fall of L by 20 µs (R568). -/
  clockLevel : Nat
  /-- Tick from which the clocks may be raised. -/
  raiseAt : Option Nat
  /-- Tick of the last step of the thermal level, or of the crossing that began the present stay. -/
  thermStep : Nat
  /-- Tick since which every estimate stayed below 95 % of CAP_W. -/
  capBelow : Nat
  /-- Voltage sensors (0 to 15) that read low, with the tick since which they do; those reported stay until they recover. -/
  lowSince : Tab Nat
  lowHeld : List Nat
  /-- THERM_TRIP_N is asserted. -/
  tripped : Bool
  /-- The trip latch: 0 none, 1 TEMP, 2 CLOCK (R580, R584). -/
  latch : Nat
  lanes : Tab LaneVerify
  sensors : Tab SensorVerify
  slew : Option Slew
  /-- Tick of the last PPS edge, and whether a PPS_LOST stands without a PPS_BACK. -/
  ppsTick : Option Nat
  ppsLost : Bool
  deriving DecidableEq, Repr

/-- At power-up. -/
def Power.reset : Power := ⟨[], none, 0, none, 0, 0, [], [], false, 0, [], [], none, none, false⟩

end Sys2Proof
end

