-- ==== Sys2Proof/Types/Tide.lean ====
section
/-!
DEFINITION. Strands, stage wheels, the egress calendars, streams and the Tap queue (chapters "The Tide window",
"Architecture, capacity and where it saturates" and "Intake, release and the Tap").
-/
namespace Sys2Proof

/-- A Strand (Tables 1-2, 1-19 to 1-21, 2-7, 2-8). -/
structure Strand where
  state : StrandState
  fault : StrandFault
  cls : Nat
  floor : Nat
  epoch : Nat
  /-- Next per-Strand sequence value (R20). -/
  seq : Nat
  /-- Reserved shares in force, by stage index (R63). -/
  shares : List Nat
  /-- Shares of a section loaded by a swap, in force from the next SERVING (Table 2-6). -/
  nextShares : Option (List Nat)
  /-- The force bank holds a section for this Strand. -/
  hasSection : Bool
  /-- The section in LOADING has been read and every check passed. -/
  loaded : Bool
  /-- The bank the Strand is loading from. -/
  bank : Nat
  /-- Tick of entry into the present state. -/
  since : Nat
  /-- The drain in progress is forced (R462). -/
  forced : Bool
  /-- Reported as DRAIN_STUCK and held (Table 16-2). -/
  stuck : Bool
  /-- An uncorrectable error stands in its policy region (R398). -/
  policyBad : Bool
  /-- It has left LOADING since start (R430). -/
  left : Bool
  /-- A section has bound it to its class since reset (R464). -/
  bound : Bool
  deriving DecidableEq, Repr

/-- A Strand after reset: OFF (R60). -/
def Strand.reset : Strand :=
  ⟨.off, .none, 0, 0, 0, 0, [0, 0, 0, 0, 0, 0, 0, 0], none, false, false, 0, 0, false, false, false, false, false⟩

/-- One engine's wheel (R62). -/
structure Wheel where
  /-- The slot that starts next, 0 to 255. -/
  slot : Nat
  /-- Shares latched at the last boundary, by Strand (R68). -/
  shares : List Nat
  /-- To whom each Strand's slots belong since the last boundary: itself, its Twin, or nobody (none). -/
  holder : List (Option Nat)
  /-- Strands in the order in which they last received a spare slot, least recent first (R67). -/
  spareOrder : List Nat
  deriving DecidableEq, Repr

/-- A wheel before its engine first leaves Parked (R82). -/
def Wheel.reset : Wheel := ⟨0, [], [], []⟩

/-- What a granted unit of work is. -/
inductive Work where
  /-- One 64-byte parse beat. -/
  | beat
  /-- One Catalogue unit of a TEXT field. -/
  | text (slot : Nat)
  /-- One Vitrine search. -/
  | search (id : Nat)
  /-- One group of 16 trees: model list position, ensemble, group. -/
  | trees (pos ensemble group : Nat)
  /-- 128 Gallery cycles of the program at a model list position. -/
  | program (pos : Nat)
  /-- One combine. -/
  | combine
  deriving DecidableEq, Repr

/-- A grant not yet complete: stage, engine, Strand, frame, unit of work, tick of the slot's start. -/
structure Grant where
  stage : Stage
  engine : Nat
  strand : Nat
  frame : Nat
  work : Work
  tick : Nat
  deriving DecidableEq, Repr

/-- An open stream (R105). -/
structure Stream where
  key : Nat
  /-- Its final chunk has arrived: a later chunk of the identity opens a new stream (R41). -/
  closed : Bool
  cls : Nat
  ident : Bytes
  /-- Tick of its last chunk. -/
  last : Nat
  chunks : Nat
  /-- Strand of the last chunk, frame ID of the last chunk. -/
  strand : Nat
  frameId : Nat
  /-- Sum of the sentinel counts of its chunks (R379). -/
  sentinels : Nat
  /-- Trailing bytes of each REDACT_SCOPE slot of the previous chunk (R379). -/
  carry : Tab Bytes
  /-- Text of each slot so far (R143), and whether it was truncated (R144). -/
  text : Tab Bytes
  truncated : Bool
  /-- Undecided trailing bytes of each TEXT slot (R142). -/
  tail : Tab Bytes
  /-- Vocabulary versions pinned at the first chunk (R136). -/
  pins : Tab Nat
  deriving DecidableEq, Repr

/-- An egress reservation (R109): start tick, length in ticks, frame. -/
structure Reservation where
  port : EthPort
  start : Nat
  len : Nat
  frame : Nat
  deriving DecidableEq, Repr

/-- A Tap copy in the Tap queue (R116). -/
structure TapCopy where
  frame : Nat
  frameId : Nat
  chain : Nat
  tDl : Nat
  tRel : Nat
  size : Nat
  /-- The bytes as they will leave, complete once the release lead has run. -/
  bytes : Bytes
  deriving DecidableEq, Repr

/-- A secure association of MACsec (R86, Table 3-17). -/
structure Sa where
  key : Bytes
  salt : Bytes
  ssci : Nat
  sci : Nat
  /-- Transmit: next PN. Receive: lowest acceptable PN. -/
  pn : Nat
  window : Nat
  xpn : Bool
  enabled : Bool
  deriving DecidableEq, Repr

end Sys2Proof
end

