-- ==== Sys2Proof/Machine/State.lean ====
section
/-!
DEFINITION. The state of the device as plain data, its state after reset, and the reasons a step can stop.
-/
namespace Sys2Proof.Machine

/-- Why a step stops with a fault. -/
inductive Fault where
  /-- An access to an address outside an NVM bank (Table 12-2). Safe: the spec says that no such address exists. -/
  | noSuchAddress
  deriving DecidableEq, Repr

/-- Why a command has no meaning. -/
inductive Refusal where
  /-- A command that the model rejects by name. Safe: nothing is claimed of it. -/
  | notModelled (mnemonic : String)
  deriving DecidableEq, Repr

/-- The state of the device. -/
structure State where
  /-- The tide counter, modulo 2^64 (R15, R572). -/
  now : Nat
  /-- The model's own: how many free values have been taken (log entry 3). -/
  freeCtr : Nat
  /-- The model's own: commands waiting, first in, first out (log entry 1). -/
  pending : List Instr
  /-- The model's own: everything shown to the outside so far, newest first (log entry 4). -/
  out : List Output
  /-- Every word of BAR0 that differs from its reset value. -/
  reg : RegFile
  host : HostIf
  /-- NVM banks A and B (Table 12-2). -/
  nvm : List NvmBank
  led : Ledger
  acc : Acc
  /-- The 32 Strands. -/
  strands : List Strand
  /-- Wheels by 64 × stage + engine. -/
  wheels : Tab Wheel
  /-- Granted units not yet complete. -/
  grants : List Grant
  frames : List Frame
  /-- Serial number of the next frame. -/
  nextFrame : Nat
  streams : List Stream
  /-- Reservations held on the egress calendars. -/
  calendar : List Reservation
  tapQueue : List TapCopy
  /-- Secure associations by 128 × port + 64 × transmit + 4 × SC + AN. -/
  sas : Tab Sa
  /-- By class: one more than the Strand last selected (R97). -/
  lastHanded : Tab Nat
  /-- The device-wide refusal counter (R21). -/
  refused : Nat
  /-- The data path is stopped (R580, R624). -/
  stopped : Bool
  /-- A Strand has reached SERVING since start (R58). -/
  served : Bool
  content : List Resident
  maskCache : List MaskEntry
  vit : Vit
  gth : Gather
  /-- Guard serving. -/
  srv : Guard
  img : Img
  pwr : Power
  /-- Narwyn ports 0 to 5 (R477). -/
  nwl : Tab NwlPort
  stk : Stack
  fab : Fabric
  mgmt : Mgmt
  tap : Tap
  /-- A full reset under way (R613, R614). -/
  rst : Option FullReset
  /-- Tick at which the reset key was written (R611). -/
  resetKey : Option Nat
  deriving DecidableEq, Repr

/-- What a meaning answers. -/
abbrev Res := Host.Outcome State Fault Refusal

/-- The device right after reset. -/
def State.reset : State where
  now := 0
  freeCtr := 0
  pending := []
  out := []
  reg := []
  host := HostIf.reset
  nvm := [NvmBank.blank, NvmBank.blank]
  led := Ledger.reset
  acc := ⟨[], [], [], zeros48, false⟩
  strands := List.replicate 32 Strand.reset
  wheels := []
  grants := []
  frames := []
  nextFrame := 0
  streams := []
  calendar := []
  tapQueue := []
  sas := []
  lastHanded := []
  refused := 0
  stopped := false
  served := false
  content := []
  maskCache := []
  vit := ⟨[], []⟩
  gth := Gather.reset
  srv := Guard.reset
  img := Img.reset
  pwr := Power.reset
  nwl := []
  stk := Stack.reset
  fab := Fabric.reset
  mgmt := Mgmt.reset
  tap := Tap.reset
  rst := none
  resetKey := none
where
  zeros48 : Bytes := List.replicate 48 0

end Sys2Proof.Machine
end

