-- ==== Sys2Proof/Machine/Ops.lean ====
section
/-!
DEFINITION. The named operations over registers, counters and the output log.
-/
namespace Sys2Proof.Machine

/-- The word at a BAR0 offset as the register file holds it. -/
def State.regWord (s : State) (off : Nat) : Word := Tab.getD s.reg off (regReset off)

/-- A word of the register file written; a word at its reset value is not listed. -/
def State.setWord (s : State) (off : Nat) (w : Word) : State :=
  { s with reg := Tab.putD (regReset off) s.reg off w }

/-- A field's value. -/
def State.get (s : State) (f : Fld) : Nat := bits (s.regWord f.off).toNat f.lsb f.width

/-- A field written. -/
def State.set (s : State) (f : Fld) (v : Nat) : State :=
  s.setWord f.off (word (putBits (s.regWord f.off).toNat f.lsb f.width v))

/-- A flag field. -/
def State.flag (s : State) (f : Fld) : Bool := s.get f != 0

/-- A counter raised by `n`, saturating at all ones (R11). -/
def State.countBy (s : State) (f : Fld) (n : Nat) : State :=
  s.set f (min (s.get f + n) (2 ^ f.width - 1))

/-- A counter raised by one (R11). -/
def State.count (s : State) (f : Fld) : State := s.countBy f 1

/-- Bits set in a W1C or RO field. -/
def State.setBits (s : State) (f : Fld) (m : Nat) : State := s.set f (s.get f ||| m)

/-- Bits cleared. -/
def State.clearBits (s : State) (f : Fld) (m : Nat) : State := s.set f (s.get f &&& (2 ^ f.width - 1 - m % 2 ^ f.width))

/-- A 64-bit pair whose words stand at `f` and four bytes above (R7). -/
def State.get64 (s : State) (f : Fld) : Nat :=
  s.get f + 2 ^ 32 * (s.regWord (f.off + 4)).toNat

/-- A 64-bit pair written. -/
def State.set64 (s : State) (f : Fld) (v : Nat) : State :=
  (s.set f v).setWord (f.off + 4) (word (v / 2 ^ 32))

/-- A 64-bit counter pair raised by `n`, saturating. -/
def State.count64 (s : State) (f : Fld) (n : Nat) : State := s.set64 f (min (s.get64 f + n) (2 ^ 64 - 1))

/-- Something shown to the outside. -/
def State.emit (s : State) (o : Output) : State := { s with out := o :: s.out }

/-- A free value of `w` bits, at most 64: nothing constrains it (log entry 3). -/
def State.free (s : State) (w : Nat) : Nat × State :=
  ((Config.freeValue s.freeCtr).toNat % 2 ^ w, { s with freeCtr := s.freeCtr + 1 })

/-- The bytes of a window of words from a BAR0 offset on (R4). -/
def State.window (s : State) (off len : Nat) : Bytes :=
  (upto (ceilDiv len 4)).flatMap (fun i => toLe 4 (s.regWord (off + 4 * i)).toNat) |>.take len

/-- A Strand. -/
def State.strand (s : State) (i : Nat) : Strand := s.strands.getD i Strand.reset

/-- A Strand changed. -/
def State.modStrand (s : State) (i : Nat) (f : Strand → Strand) : State :=
  { s with strands := modifyAt s.strands i f }

/-- The Twin of a Strand. -/
def twinOf (i : Nat) : Nat := if i % 2 = 0 then i + 1 else i - 1

/-- The frame of a serial number. -/
def State.frame? (s : State) (k : Nat) : Option Frame := s.frames.find? (fun f => f.key == k)

/-- A frame changed. -/
def State.modFrame (s : State) (k : Nat) (f : Frame → Frame) : State :=
  { s with frames := mapWhere s.frames (fun x => x.key == k) f }

/-- Index of an Ethernet port in its registers. -/
def portIdx : EthPort → Nat
  | .n => 0
  | .s => 1
  | .tap => 2

/-- The opposite data port. -/
def opposite : EthPort → EthPort
  | .n => .s
  | .s => .n
  | .tap => .tap

/-- Verdict codes (Table 1-5). -/
def verdictCode : Verdict → Nat
  | .pass => 0
  | .flag => 1
  | .block => 2
  | .redact => 3
  | .unscreened => 4

/-- The verdict of a policy code. -/
def verdictOf : Nat → Verdict
  | 0 => .pass
  | 1 => .flag
  | 2 => .block
  | 3 => .redact
  | _ => .unscreened

/-- UNSCREENED reason codes (Table 1-7). -/
def reasonCode : Reason → Nat
  | .holdFull => 0x02
  | .calendarFull => 0x03
  | .noStrand => 0x01
  | .parse => 0x0A
  | .tapBlocked => 0x08
  | .drainForced => 0x09
  | .stageFault => 0x06
  | .admission => 0x04
  | .credit => 0x05
  | .deadline => 0x07

/-- Place of a reason in Table 1-7, the highest precedence first. -/
def reasonRank : Reason → Nat
  | .holdFull => 0
  | .calendarFull => 1
  | .noStrand => 2
  | .parse => 3
  | .tapBlocked => 4
  | .drainForced => 5
  | .stageFault => 6
  | .admission => 7
  | .credit => 8
  | .deadline => 9

/-- Action codes (Table 1-8). -/
def actionCode : FailAction → Nat
  | .none => 0
  | .releaseFlagged => 1
  | .holdToHost => 2
  | .dropWithNotice => 3
  | .discard => 4

/-- FAIL_ACTION of a class. -/
def failActionOf : Nat → FailAction
  | 1 => .releaseFlagged
  | 2 => .holdToHost
  | 3 => .dropWithNotice
  | _ => .none

/-- Strand state codes (Table 1-2). -/
def strandCode : StrandState → Nat
  | .off => 0
  | .loading => 1
  | .serving => 2
  | .draining => 3
  | .excluded => 4
  | .retired => 5

/-- The stage of an index (Table 2-1). -/
def stageIdx : Stage → Nat
  | .intake => 0
  | .catalogue => 1
  | .vitrine => 2
  | .gather => 3
  | .arbor => 4
  | .galleries => 5
  | .guard => 6
  | .verdict => 7

/-- Whether the class's settings are valid (R23, R37, R47). -/
def classValid (s : State) (c : Nat) : Bool :=
  let win := s.get (Fld.TID_CLASS_WIN_WIN_US c)
  let chunk := s.get (Fld.TID_CLASS_CHUNK_CHUNK_US c)
  let close := s.get (Fld.TID_CLASS_CLOSE_CLOSE_US c)
  let idle := s.get (Fld.TID_CLASS_CTL_STREAM_IDLE_US c)
  decide (20 ≤ win ∧ win ≤ 50000) && s.get (Fld.TID_CLASS_CTL_FAIL_ACTION c) != 0
    && (!s.flag (Fld.TID_CLASS_CTL_STREAMED c)
      || (decide (20 ≤ chunk ∧ chunk ≤ 50000) && decide (20 ≤ close ∧ close ≤ 50000) && decide (chunk ≤ close)
        && decide (chunk ≤ idle)))

/-- This device's node address (R12, R517), as FAB_STATE has it. -/
def State.node (s : State) : Nat := s.get Fld.FAB_STATE_NODE

end Sys2Proof.Machine
end

