-- ==== Sys2Proof/Machine/Rings.lean ====
section
/-!
DEFINITION. The rings, the interrupts, the events and the completions of the host interface (chapter "Host interface
and content loading").
-/
namespace Sys2Proof.Machine

/-- Number of the completion ring of SQ `q`. -/
def ringCq (q : Nat) : Nat := 16 + q
/-- Number of result ring `r`. -/
def ringRr (r : Nat) : Nat := 32 + r
/-- Number of the event ring. -/
def ringEvt : Nat := 48
/-- Number of the accession ring. -/
def ringAcc : Nat := 49

/-- What the device keeps of a ring. -/
def State.ring (s : State) (r : Nat) : Ring := Tab.getD s.host.rings r Ring.empty

/-- A ring changed. -/
def State.setRing (s : State) (r : Nat) (x : Ring) : State :=
  { s with host := { s.host with rings := Tab.putD Ring.empty s.host.rings r x } }

/-- Entries of a ring (R405). -/
def State.ringSize (s : State) (r : Nat) : Nat := 2 ^ s.get (Fld.HIF_RING_CTL_SIZE_LOG2 r)

/-- Whether the device may write a record to a ring at all (R403, R404, R440). -/
def State.ringOpen (s : State) (r : Nat) : Bool :=
  s.flag (Fld.HIF_RING_CTL_EN r) && !s.flag Fld.HIF_STATUS_D3HOT

/-- R431, R432: a vector is sent; a masked one becomes pending in the PBA (R655). -/
def State.sendVector (s : State) (v : Nat) : State :=
  if s.flag (Fld.MSIX_CTRL_MASK v) then s.setBits (Fld.MSIX_PBA (v / 32)) (2 ^ (v % 32))
  else s.emit (.msix v)

/-- R431: the message of a ring is sent. -/
def State.sendRingIrq (s : State) (r : Nat) : State :=
  let s := s.setRing r { s.ring r with unsignalled := 0 }
  s.sendVector (s.get (Fld.HIF_RING_IRQ_VECTOR r))

/-- R431: a record has been written. -/
def State.noteRecord (s : State) (r : Nat) : State :=
  let x := s.ring r
  let x := { x with unsignalled := x.unsignalled + 1, firstTick := if x.unsignalled = 0 then s.now else x.firstTick }
  let s := s.setRing r x
  if s.flag (Fld.HIF_RING_IRQ_EN r) && decide (max 1 (s.get (Fld.HIF_RING_IRQ_COUNT r)) ≤ x.unsignalled) then
    s.sendRingIrq r
  else s

/-- The first 16 bytes of a record (Table 11-4). -/
def recordHeader (kind entries len flags : Nat) (phase : Bool) (key : Bytes) : Bytes :=
  [byte kind, byte entries] ++ toLe 2 len ++ [byte flags, 0, 0, byte (b2n phase)] ++ padTo 8 key

/-- Entries of a record with a payload of `len` bytes. -/
def recordEntries (len : Nat) : Nat := ceilDiv (16 + len) 64

/-- R411: a ring's tail moved over `n` entries; the phase inverts at the end of a pass (R408). -/
def ringAdvance (x : Ring) (size n : Nat) : Ring :=
  if size ≤ x.tail + n then { x with tail := x.tail + n - size, used := x.used + n, phase := !x.phase }
  else { x with tail := x.tail + n, used := x.used + n }

/-- R408 to R411: a record, with the PAD record it needs, where the ring has room for both. -/
def State.writeRecord (s : State) (r kind flags : Nat) (key payload : Bytes) : Option State :=
  let x := s.ring r
  let size := s.ringSize r
  let n := recordEntries payload.length
  let left := size - x.tail
  let pad := if left < n then left else 0
  if s.ringOpen r && decide (x.used + pad + n ≤ size) then
    let s := if pad = 0 then s
      else s.emit (.ringRecord r x.tail (padTo (64 * pad) (recordHeader 0 pad 0 0 x.phase [])))
    let x := if pad = 0 then x else ringAdvance x size pad
    let flags := flags + (if x.afterGap then 2 else 0)
    let bytes := padTo (64 * n) (recordHeader kind n payload.length flags x.phase key ++ payload)
    let s := s.emit (.ringRecord r x.tail bytes)
    some ((s.setRing r { ringAdvance x size n with afterGap := false }).noteRecord r)
  else none

/-- A record of a ring is lost (R413, R414). -/
def State.loseRecord (s : State) (r : Nat) : State :=
  (s.count (Fld.HIF_RING_LOST_CNT r)).setRing r { s.ring r with afterGap := true }

/-- KEY and payload of an event (Table 11-5). -/
def State.writeEvent (s : State) (code source : Nat) (args : List Nat) : Option State :=
  s.writeRecord ringEvt 5 0 (toLe 2 code ++ toLe 2 source)
    (toLe 8 s.now ++ padTo 24 (args.flatMap (toLe 4)))

/-- R414: events were lost and room has returned: one EVENTS_LOST. -/
def State.flushLostEvents (s : State) : State :=
  let n := (s.ring ringEvt).lostEvents
  if n = 0 then s
  else match s.writeEvent 0x0001 0 [n] with
    | some s' => s'.setRing ringEvt { s'.ring ringEvt with lostEvents := 0 }
    | none => s

/-- R414: an event is posted, or lost. -/
def State.event (s : State) (code source : Nat) (args : List Nat) : State :=
  let s := s.flushLostEvents
  match (if (s.ring ringEvt).lostEvents = 0 then s.writeEvent code source args else none) with
  | some s' => s'
  | none =>
    let s := s.loseRecord ringEvt
    s.setRing ringEvt { s.ring ringEvt with lostEvents := (s.ring ringEvt).lostEvents + 1 }

/-- The two argument words of a 64-bit identifier. -/
def words2 (n : Nat) : List Nat := [n % 2 ^ 32, n / 2 ^ 32]

/-- R413: a result record; the answer says whether it was written. -/
def State.resultRecord (s : State) (ring kind frameId : Nat) (payload : Bytes) (req seq : Nat) : State × Bool :=
  match s.writeRecord (ringRr ring) kind 0 (toLe 8 frameId) payload with
  | some s' => (s', true)
  | none => ((s.loseRecord (ringRr ring)).event 0x0041 ring (words2 frameId ++ [req, seq]), false)

/-- R418: completions held back are written while the CQ has room; `fuel` is their number. -/
def State.flushHeld (s : State) (q : Nat) : Nat → State
  | 0 => s
  | fuel + 1 =>
    match (s.ring (ringCq q)).held with
    | [] => s
    | h :: rest =>
      match s.writeRecord (ringCq q) 1 h.flags h.key h.payload with
      | none => s
      | some s' => (s'.setRing (ringCq q) { s'.ring (ringCq q) with held := rest }).flushHeld q fuel

/-- R418: completions held back are written while the CQ has room. -/
def State.drainCq (s : State) (q : Nat) : State := s.flushHeld q (s.ring (ringCq q)).held.length

/-- R418: a completion record joins the ones of its CQ. -/
def State.pushCq (s : State) (q : Nat) (h : HeldRec) : State :=
  let x := s.ring (ringCq q)
  (s.setRing (ringCq q) { x with held := x.held ++ [h] }).drainCq q

/-- KEY of a completion (Table 11-5). -/
def completionKey (c : CmdRef) (status : Nat) : Bytes :=
  toLe 4 c.entry.cmdId.toNat ++ toLe 2 c.entry.tag.val ++ [byte c.opcode, byte status]

/-- R420, R422: a result is written to its window slot. The PHASE bit of the record in a window is no part of any pass:
a free value (log entry 3). -/
def State.writeWindow (s : State) (tag : Nat) (flags : Nat) (key payload : Bytes) : State :=
  let (p, s) := s.free 1
  let rec_ := recordHeader 1 (recordEntries payload.length) payload.length flags (p == 1) key ++ payload
  let s := match Tab.get? s.host.win tag with
    | some w => { s with host := { s.host with win := Tab.put s.host.win tag { w with ready := true, result := padTo 248 rec_ } } }
    | none => s
  if s.flag Fld.HIF_WIN_IRQ_EN then s.sendVector (s.get Fld.HIF_WIN_IRQ_VECTOR) else s

/-- One command of SQ `q` is no longer outstanding (R417). -/
def State.settle (s : State) (q : Nat) : State :=
  s.setRing q { s.ring q with outstanding := (s.ring q).outstanding - 1 }

/-- R418: the completion of a command, to its CQ, its window slot or both; after a host-interface reset it is
discarded (R403). -/
def State.complete (s : State) (c : CmdRef) (status : Nat) (payload : Bytes) : State :=
  if c.gen ≠ s.host.gen then s
  else
    let toWin := c.entry.resultTo = 1 ∨ c.entry.resultTo = 2
    let flags := if toWin then 1 else 0
    let s := if toWin then s.writeWindow c.entry.tag.val flags (completionKey c status) payload else s
    let s := if c.entry.resultTo ≠ 1 then s.pushCq c.q ⟨flags, completionKey c status, payload⟩ else s
    s.settle c.q

/-- R418: a refusal that completes on the CQ only. -/
def State.completeCq (s : State) (c : CmdRef) (status : Nat) : State :=
  (s.pushCq c.q ⟨0, completionKey c status, []⟩).settle c.q

/-- Completion status codes (Table 11-10). -/
inductive Status where
  | ok
  | cancelled
  | alreadyComplete
  | alreadyCancelling
  | notFound
  | digestMismatch
  | epochMismatch
  | strandMismatch
  | versionAbsent
  | format
  | checkFailed
  | versionOrder
  | versionGap
  | queueFull
  | noRoom
  | tooLarge
  | illegalOp
  | dmaError
  | badIndex
  | tagBusy
  | badOpcode
  | badFlags
  deriving DecidableEq, Repr

/-- The code of a status (Table 11-10). -/
def Status.code : Status → Nat
  | .ok => 0x00
  | .cancelled => 0x01
  | .alreadyComplete => 0x02
  | .alreadyCancelling => 0x03
  | .notFound => 0x04
  | .digestMismatch => 0x10
  | .epochMismatch => 0x11
  | .strandMismatch => 0x12
  | .versionAbsent => 0x13
  | .format => 0x14
  | .checkFailed => 0x20
  | .versionOrder => 0x21
  | .versionGap => 0x22
  | .queueFull => 0x23
  | .noRoom => 0x24
  | .tooLarge => 0x25
  | .illegalOp => 0x26
  | .dmaError => 0x27
  | .badIndex => 0x28
  | .tagBusy => 0x30
  | .badOpcode => 0x31
  | .badFlags => 0x32

/-- Whether the device may take the next entry of SQ `q` (R404, R406, R440, R442). A command with BARRIER waits with
its entry until every earlier one of the ring has completed (R417; log entry 5). -/
def State.sqReady (s : State) (q : Nat) (e : SqEntry) : Bool :=
  s.flag Fld.HIF_STATUS_CMD_READY && s.ringOpen q && !s.flag (Fld.HIF_RING_CTL_HALT q)
    && decide (0 < (s.ring q).used) && (!e.barrier || (s.ring q).outstanding == 0)

/-- The entry at the head of SQ `q` is taken (R406). -/
def State.takeEntry (s : State) (q : Nat) : State :=
  let x := s.ring q
  s.setRing q { x with head := (x.head + 1) % s.ringSize q, used := x.used - 1, outstanding := x.outstanding + 1 }

/-- R419: the slot that a command asks for. -/
def State.slotBusy (s : State) (e : SqEntry) : Bool :=
  (e.resultTo == 1 || e.resultTo == 2) && (Tab.get? s.host.win e.tag.val).isSome

/-- R419: the slot is taken. -/
def State.takeSlot (s : State) (e : SqEntry) : State :=
  if e.resultTo == 1 || e.resultTo == 2 then
    { s with host := { s.host with win := Tab.put s.host.win e.tag.val ⟨e.cmdId.toNat, false, false, []⟩ } }
  else s

/-- R406, R418, R419: a command is taken from SQ `q`; where it is refused at once, it is answered; where it runs, `run`
says what it does. -/
def State.sqCommand (s : State) (q : Nat) (e : SqEntry) (opcode : Nat) (run : CmdRef → State → State) : State :=
  if s.sqReady q e then
    let c : CmdRef := ⟨q, e, opcode, s.host.gen, s.now⟩
    let s := s.takeEntry q
    if e.resultTo = 3 then s.completeCq c Status.badFlags.code
    else if s.slotBusy e then (s.count Fld.HIF_TAG_BUSY_CNT).completeCq c Status.tagBusy.code
    else run c (s.takeSlot e)
  else s

end Sys2Proof.Machine
end

