-- ==== Sys2Proof/Machine/Accession.lean ====
section
/-!
DEFINITION. The Accession register: Kartona records, chains, seals, audit gaps, the content-set serial (R383 to R400,
R415, R439).
-/
namespace Sys2Proof.Machine

/-- Ticks from `t` to now, on the 64-bit counter. -/
def State.since (s : State) (t : Nat) : Nat := (s.now + 2 ^ 64 - t % 2 ^ 64) % 2 ^ 64

/-- A chain. -/
def State.chain (s : State) (ch : Nat) : Chain := Tab.getD s.acc.chains ch Chain.empty

/-- A chain changed. -/
def State.setChain (s : State) (ch : Nat) (c : Chain) : State :=
  { s with acc := { s.acc with chains := Tab.putD Chain.empty s.acc.chains ch c } }

/-- Content of `n` free bytes (log entry 3). -/
def State.freeBytes (s : State) : Nat → Bytes × State
  | 0 => ([], s)
  | n + 1 =>
    let (b, s) := s.free 8
    let (bs, s) := s.freeBytes n
    (byte b :: bs, s)

/-- Records that the buffer holds at most (R393, VRD_BUF_SIZE in MiB). -/
def State.bufRoom (s : State) : Nat := s.get Fld.VRD_BUF_SIZE * 8192

/-- R388, R393: 96 content bytes join a chain, or are lost where the buffer is full. `counted` records bring a seal
nearer. -/
def State.joinChain (s : State) (ch : Nat) (content : Bytes) (counted : Bool) : State :=
  let c := s.chain ch
  let content := padTo 96 content
  if s.acc.buffer.length < s.bufRoom then
    let v := sha256 (c.last ++ content)
    let n := c.count + 1
    let rec_ : KRec := ⟨ch, n, content ++ v⟩
    let s := { s with acc := { s.acc with buffer := s.acc.buffer ++ [rec_] } }
    s.setChain ch { c with count := n, last := v, sinceSeal := c.sinceSeal + b2n counted }
  else
    let s := s.count Fld.VRD_LOST_CNT
    if byteAt content 0 = 1 then
      let fid := le content 8 8
      s.setChain ch { c with lostAny := true, lostCount := c.lostCount + 1,
                             lostFirst := if c.lostCount = 0 then fid else c.lostFirst, lostLast := fid }
    else s.setChain ch { c with lostAny := true }

/-- R390, R391, R399: a SEAL and SEAL_S pair on a chain. -/
def State.sealChain (s : State) (ch : Nat) : State :=
  let c := s.chain ch
  let slot := if s.acc.sealKey then 1 else 0xFF
  let head := [6, 1, byte ch, byte slot] ++ zeros 4 ++ toLe 8 c.count ++ toLe 8 s.now ++ zeros 8
  let m := head ++ c.last
  let r := if s.acc.sealKey then toLe 48 (Config.sealR 1 m).toNat else zeros 48
  let t := if s.acc.sealKey then toLe 48 (Config.sealS 1 m).toNat else zeros 48
  let s := s.joinChain ch (head ++ r) false
  let s := s.joinChain ch ([7, 1, byte ch] ++ zeros 13 ++ t) false
  (s.setChain ch { s.chain ch with sinceSeal := 0, sealTick := s.now }).count Fld.VRD_SEAL_CNT

/-- R390: a seal due by count. -/
def State.sealDue (s : State) (ch : Nat) : State :=
  if 65536 ≤ (s.chain ch).sinceSeal ∧ !s.stopped then s.sealChain ch else s

/-- Records that join a chain together (R389); none joins a chain that has not started (R58, R400), and
none while the data path is stopped (R580). -/
def State.appendAll (s : State) (ch : Nat) (contents : List Bytes) : State :=
  if (s.chain ch).started && !s.stopped then (contents.foldl (fun s c => s.joinChain ch c true) s).sealDue ch else s

/-- One record joins a chain. -/
def State.append (s : State) (ch : Nat) (content : Bytes) : State := s.appendAll ch [content]

/-- R392: an AUDIT_GAP record. -/
def State.auditGap (s : State) (ch cause count first last : Nat) : State :=
  (s.append ch ([4, 1, byte cause, 0] ++ toLe 4 count ++ toLe 8 first ++ toLe 8 last ++ toLe 8 s.now)).count Fld.VRD_GAP_CNT

/-- A CHAIN_START record (R388). -/
def State.chainStart (s : State) (ch : Nat) : State :=
  let dev := s.window 0x10 16
  let content := [8, 1, byte ch, 0] ++ toLe 2 s.node ++ toLe 2 (s.get Fld.IMG_EPOCH_IMAGE) ++ toLe 8 s.now ++ dev
    ++ toLe 4 (s.get Fld.FLT_RESET_COUNT)
  let s := s.setChain ch { Chain.empty with started := true, last := zeros 32, sealTick := s.now }
  s.joinChain ch content false

/-- Content of a CONTENT record (Table 10-8). -/
def commitRecord (c : ContentCommit) : Bytes :=
  [3, 1, byte c.kind, byte c.index] ++ toLe 4 c.cset ++ toLe 8 c.tick ++ toLe 4 c.newVer ++ toLe 4 c.oldVer
    ++ padTo 48 c.digest

/-- The newest commit of each item, in KIND then INDEX order (R400). -/
def residentCommits (cs : List ContentCommit) : List ContentCommit :=
  let newest := cs.foldl (fun acc c => if acc.any (fun d => d.kind == c.kind && d.index == c.index) then acc else acc ++ [c]) []
  sortBy (fun a b => decide (a.kind < b.kind) || (a.kind == b.kind && decide (a.index < b.index))) newest

/-- R400: the chains start. The CONTENT records of R400 carry the serial of each item's newest commit (log entry 18). -/
def State.startChains (s : State) : State :=
  let s := s.chainStart 32
  let s := s.appendAll 32 ((residentCommits s.acc.commits).map commitRecord)
  (upto 32).foldl (fun s ch => s.chainStart ch) s

/-- R385, R439: a commit of content: the serial rises, the digest D grows, the CONTENT record joins the device chain. -/
def State.contentCommit (s : State) (kind index newVer oldVer : Nat) (digest : Bytes) : State :=
  let cset := w32 (s.get Fld.VRD_CSET + 1)
  let c : ContentCommit := ⟨cset, s.now, kind, index, newVer, oldVer, digest⟩
  let s := s.set Fld.VRD_CSET cset
  let s := { s with acc := { s.acc with commits := c :: s.acc.commits, digest := sha384 (s.acc.digest ++ padTo 48 digest) } }
  s.append 32 (commitRecord c)

/-- R385: the serial at a hand-off in this tick. -/
def State.csetNow (s : State) : Nat :=
  match s.acc.commits.find? (fun c => c.tick != s.now) with
  | some c => c.cset
  | none => 0

/-- R386: the version of an item that was current at a serial, 0 where none was. Commits stand newest first, and a
serial counts those from its own on. -/
def State.versionAt (s : State) (kind index cset : Nat) : Nat :=
  if cset = 0 then 0
  else match (s.acc.commits.dropWhile (fun c => c.cset != cset)).find? (fun c => c.kind == kind && c.index == index) with
    | some c => c.newVer
    | none => 0

/-- R393: once 1 MiB is free, each chain that lost records receives an AUDIT_GAP of cause 3. -/
def State.gapRecords (s : State) : State :=
  if s.acc.buffer.length + 8192 ≤ s.bufRoom then
    (upto 33).foldl (fun s ch =>
      let c := s.chain ch
      if c.lostAny then
        let s := s.setChain ch { c with lostAny := false, lostCount := 0, lostFirst := 0, lostLast := 0 }
        s.auditGap ch 3 c.lostCount c.lostFirst c.lostLast
      else s) s
  else s

/-- R415: Kartona records move to the accession ring while it has room; `fuel` bounds their number. -/
def State.drainRecords (s : State) : Nat → State
  | 0 => s
  | fuel + 1 =>
    match s.acc.buffer with
    | [] => s
    | k :: rest =>
      match s.writeRecord ringAcc 6 0 (byte k.chain :: toLe 7 k.count) k.bytes with
      | none => s
      | some s' => ({ s' with acc := { s'.acc with buffer := rest } }).drainRecords fuel

/-- R392 cause 4: the oldest record of the buffer is lost to an uncorrectable error. -/
def State.loseBuffered (s : State) : State :=
  match s.acc.buffer with
  | [] => s
  | k :: rest =>
    let typ := byteAt k.bytes 0
    let fid := if typ = 1 ∨ typ = 2 ∨ typ = 5 then le k.bytes 8 8 else 0
    ({ s with acc := { s.acc with buffer := rest } }).auditGap k.chain 4 1 fid fid

/-- R415, R393: the buffer drains to the accession ring as room allows. -/
def State.drainAccession (s : State) : State := (s.drainRecords s.acc.buffer.length).gapRecords

end Sys2Proof.Machine
end

