-- ==== Sys2Proof/Machine/Nvm.lean ====
section
/-!
DEFINITION. The NVM banks as addressed memories (Table 12-2). An unlisted byte reads 0xFF, the value of an erased byte
(log entry 19).
-/
namespace Sys2Proof.Machine

/-- A memory: the bytes that differ from what an unlisted byte reads as, in strictly rising order of address. -/
abbrev Memory := List Host.Cell

/-- What a byte reads as that no program has changed since its sector was last erased. -/
def nvmBlank : Byte := 0xFF

/-- Bytes of a bank that exist (Table 12-1: bytes beyond 0x2101_0000 are never accessed). -/
def nvmSize : Nat := 0x21010000

/-- Offset of the ledger region. -/
def ledgerBase : Nat := 0x20010000

/-- The canonical form: strictly rising addresses, no entry equal to what an unlisted address reads as. -/
def Memory.wf (m : Memory) : Bool := Tab.canon (fun _ => nvmBlank) m

/-- One byte. -/
def readCell (m : Memory) (a : Nat) : Byte := Tab.getD m a nvmBlank

/-- `n` bytes from address `a` on of a list whose entries below `a` have been dropped. -/
def readRun : Nat → Nat → Memory → Bytes
  | 0, _, _ => []
  | n + 1, a, [] => nvmBlank :: readRun n (a + 1) []
  | n + 1, a, (k, v) :: t => if k = a then v :: readRun n (a + 1) t else nvmBlank :: readRun n (a + 1) ((k, v) :: t)

/-- `n` bytes from address `a` on. -/
def readCells (m : Memory) (a n : Nat) : Bytes := readRun n a (m.dropWhile (fun c => decide (c.1 < a)))

/-- One byte written. -/
def writeCell (m : Memory) (a : Nat) (v : Byte) : Memory := Tab.putD nvmBlank m a v

/-- Bytes written from address `a` on. -/
def writeCells (m : Memory) : Nat → Bytes → Memory
  | _, [] => m
  | a, v :: vs => writeCells (writeCell m a v) (a + 1) vs

/-- A page program clears bits only: each byte becomes the AND of what stood there and what is programmed. -/
def programCells (m : Memory) (a : Nat) (bs : Bytes) : Memory :=
  writeCells m a (List.zipWith (· &&& ·) (readCells m a bs.length) bs)

/-- A run of bytes erased. -/
def eraseCells (m : Memory) (a n : Nat) : Memory :=
  m.filter (fun c => !(decide (a ≤ c.1) && decide (c.1 < a + n)))

/-- Whether a run of bytes is blank. -/
def blankCells (m : Memory) (a n : Nat) : Bool :=
  m.all (fun c => !(decide (a ≤ c.1) && decide (c.1 < a + n)))

/-- A bank. -/
def State.bank (s : State) (b : Nat) : NvmBank := s.nvm.getD b NvmBank.blank

/-- A bank changed. -/
def State.modBank (s : State) (b : Nat) (f : NvmBank → NvmBank) : State := { s with nvm := modifyAt s.nvm b f }

/-- Bytes of a bank. -/
def State.nvmRead (s : State) (b off len : Nat) : Bytes := readCells (s.bank b).cells off len

end Sys2Proof.Machine
end

