-- ==== Sys2Proof/Machine/Ledger.lean ====
section
/-!
DEFINITION. The fault ledger: its records, their page programs, the scan at start (R604 to R610, R627).
-/
namespace Sys2Proof.Machine

/-- KIND of Table 16-4. -/
def kindCode : UnitKind → Nat
  | .strand => 1
  | .bank => 2
  | .pseudoChannel => 3
  | .gather => 4
  | .gallery => 5
  | .arbor => 6
  | .catalogue => 7
  | .parser => 8
  | .ddr => 9
  | .lane => 10

/-- The kind of a KIND code. -/
def kindOf : Nat → Option UnitKind
  | 1 => some .strand
  | 2 => some .bank
  | 3 => some .pseudoChannel
  | 4 => some .gather
  | 5 => some .gallery
  | 6 => some .arbor
  | 7 => some .catalogue
  | 8 => some .parser
  | 9 => some .ddr
  | 10 => some .lane
  | _ => none

/-- How many units of a kind the device has (Table 16-4). -/
def kindCount : UnitKind → Nat
  | .strand => 32
  | .bank => 16
  | .pseudoChannel => 384
  | .gather => 48
  | .gallery => 48
  | .arbor => 8
  | .catalogue => 12
  | .parser => 4
  | .ddr => 4
  | .lane => 35

/-- The bit map of a kind. -/
def forceMap (f : InForce) : UnitKind → Nat
  | .strand => f.strands
  | .bank => f.banks
  | .pseudoChannel => f.pcs
  | .gather => f.gather
  | .gallery => f.galleries
  | .arbor => f.arbor
  | .catalogue => f.catalogue
  | .parser => f.parsers
  | .ddr => f.ddr
  | .lane => f.lanes

/-- The state in force with one more unit retired. -/
def forceRetire (f : InForce) (k : UnitKind) (i : Nat) : InForce :=
  let m := forceMap f k ||| 2 ^ i
  match k with
  | .strand => { f with strands := m }
  | .bank => { f with banks := m }
  | .pseudoChannel => { f with pcs := m }
  | .gather => { f with gather := m }
  | .gallery => { f with galleries := m }
  | .arbor => { f with arbor := m }
  | .catalogue => { f with catalogue := m }
  | .parser => { f with parsers := m }
  | .ddr => { f with ddr := m }
  | .lane => { f with lanes := m }

/-- Bytes 40 to 117 of Table 16-8. -/
def forceBytes (f : InForce) : Bytes :=
  toLe 4 f.strands ++ toLe 2 f.banks ++ toLe 48 f.pcs ++ toLe 6 f.gather ++ toLe 6 f.galleries ++ toLe 1 f.arbor
    ++ toLe 2 f.catalogue ++ toLe 1 f.parsers ++ toLe 1 f.ddr ++ toLe 5 f.lanes
    ++ [match f.select with
        | none => 0
        | some b => byte (1 + 2 * b),
        byte (b2n f.armedA + 2 * b2n f.armedB)]

/-- The state that a SNAPSHOT's content says. -/
def forceOf (c : Bytes) : InForce :=
  let sel := byteAt c 76
  let armed := byteAt c 77
  ⟨le c 0 4, le c 4 2, le c 6 48, le c 54 6, le c 60 6, le c 66 1, bits (le c 67 2) 0 12, bits (le c 69 1) 0 4,
   bits (le c 70 1) 0 4, bits (le c 71 5) 0 35, if bit sel 0 then some (b2n (bit sel 1)) else none, bit armed 0, bit armed 1⟩

/-- R606: a record applied to the state in force. -/
def forceApply (f : InForce) (type : Nat) (c : Bytes) : InForce :=
  let b := byteAt c 0
  match type with
  | 2 =>
    match kindOf b with
    | some k => if le c 2 2 < kindCount k then forceRetire f k (le c 2 2) else f
    | none => f
  | 3 => { f with select := some (b % 2) }
  | 4 => if b % 2 = 0 then { f with armedA := true } else { f with armedB := true }
  | 5 => if b % 2 = 0 then { f with armedA := false } else { f with armedB := false }
  | _ => f

/-- The 256 bytes of a record (Table 16-6). -/
def State.ledgerBytes (s : State) (r : LedRec) : Bytes :=
  let body := toLe 4 0x4744454C ++ toLe 4 r.seq ++ [byte r.type, 1, 0, 0] ++ toLe 4 (s.get Fld.FLT_RESET_COUNT)
    ++ toLe 8 r.tick ++ s.window 0x10 16 ++ padTo 208 r.content ++ zeros 4
  body ++ toLe 4 (crc32c body)

/-- R605: whether a page holds a sealed record. -/
def pageSealed (p : Bytes) : Bool :=
  le p 0 4 == 0x4744454C && le p 4 4 != 0xFFFFFFFF && le p 252 4 == crc32c (p.take 252)

/-- Offset of a page of the region. -/
def pageOff (page : Nat) : Nat := ledgerBase + 256 * page

/-- Whether bank `b` takes a record at `page` (R610). -/
def State.ledgerFits (s : State) (b page : Nat) : Bool :=
  let failed := if b = 0 then s.flag Fld.FLT_STATE_LEDGER_A_FAIL else s.flag Fld.FLT_STATE_LEDGER_B_FAIL
  !failed && blankCells (s.bank b).cells (pageOff page) 256

/-- Whether the bank's ledger has failed since start, or its bus is free for a program. -/
def State.ledgerBusFree (s : State) (b : Nat) : Bool :=
  (if b = 0 then s.flag Fld.FLT_STATE_LEDGER_A_FAIL else s.flag Fld.FLT_STATE_LEDGER_B_FAIL) || (s.bank b).op.isNone

/-- Payload of an image command's completion (after Table 12-10). -/
def imgPayload (s : State) (detail bank : Nat) : Bytes :=
  toLe 4 detail ++ toLe 2 (s.get (Fld.IMG_BANK_EPOCH bank)) ++ [byte (s.get (Fld.IMG_BANK_STATE bank)), 0]
    ++ toLe 4 (s.get Fld.IMG_ROLL_DONE) ++ zeros 4

/-- What waited for a ledger record completes: OK once it stands sealed, CHECK_FAILED with NVM where it was dropped. -/
def State.ledgerSettle (s : State) (seq : Nat) (isSealed : Bool) : State :=
  let due := s.led.waiters.filter (fun w => w.seq == seq)
  let s := { s with led := { s.led with waiters := s.led.waiters.filter (fun w => w.seq != seq) } }
  due.foldl (fun s w =>
    if isSealed then s.complete w.cmd Status.ok.code (imgPayload s 0 w.bank)
    else s.complete w.cmd Status.checkFailed.code (imgPayload s 0x0F w.bank)) s

/-- A record is dropped (R609, R610). -/
def State.ledgerDrop (s : State) (seq : Option Nat) (type : Nat) : State :=
  let s := (s.count Fld.FLT_LEDGER_DROP_CNT).event 0x0066 0 [type]
  match seq with
  | some n => s.ledgerSettle n false
  | none => s

/-- The next record's SEQ is taken. -/
def State.takeSeq (s : State) : Nat × State :=
  let n := s.led.nextSeq
  let s := { s with led := { s.led with nextSeq := w32 (n + 1) } }
  (n, s.set Fld.FLT_LEDGER_NEXT (w32 (n + 1)))

/-- The program of a record starts on both banks together (R604); `fuel` bounds the records dropped on the way. A
record other than a SNAPSHOT never takes a sector's first page: a SNAPSHOT goes there first (R607). After a trip none
starts (R580). -/
def State.ledgerKick (s : State) : Nat → State
  | 0 => s
  | fuel + 1 =>
    if !s.led.ready || s.pwr.tripped || s.led.program.isSome || !s.ledgerBusFree 0 || !s.ledgerBusFree 1 then s
    else match s.led.queue with
      | [] => s
      | r :: rest =>
        let page := s.led.nextPage
        let fitA := s.ledgerFits 0 page
        let fitB := s.ledgerFits 1 page
        if !fitA && !fitB then
          (({ s with led := { s.led with queue := rest } }).ledgerDrop (some r.seq) r.type).ledgerKick fuel
        else
          let (r, rest, s) :=
            if page % 256 = 0 && r.type != 1 then
              let (n, s) := s.takeSeq
              ((⟨n, 1, s.now, forceBytes s.led.force⟩ : LedRec), r :: rest, s)
            else (r, rest, s)
          let s := { s with led := { s.led with queue := rest, program := some ⟨r, ⟨page, fitA, 0, false⟩, ⟨page, fitB, 0, false⟩⟩ } }
          let s := if fitA then s.modBank 0 (fun b => { b with op := some (.ledgerPage page) }) else s
          if fitB then s.modBank 1 (fun b => { b with op := some (.ledgerPage page) }) else s

/-- The program of the next record starts where it can. -/
def State.ledgerGo (s : State) : State := s.ledgerKick (s.led.queue.length + 1)

/-- The page that the next record queued will take. -/
def State.ledgerAhead (s : State) : Nat :=
  let first := match s.led.program with
    | some p => (max p.a.page p.b.page + 1) % 65536
    | none => s.led.nextPage
  (first + s.led.queue.length) % 65536

/-- A record joins the queue under the next SEQ. -/
def State.ledgerPush (s : State) (type : Nat) (content : Bytes) : Nat × State :=
  let (n, s) := s.takeSeq
  (n, { s with led := { s.led with queue := s.led.queue ++ [⟨n, type, s.now, content⟩] } })

/-- R606, R607, R609: a record is queued and its effect is in force; the answer is its SEQ. The first page of a sector
goes to a SNAPSHOT of the state just before. A record past the 64 held before a page is erased is dropped. -/
def State.ledgerRecord (s : State) (type : Nat) (content : Bytes) : Nat × State :=
  if !s.led.ready && decide (64 ≤ (s.led.queue.filter (fun r => r.type != 1)).length) then
    (s.led.nextSeq, (({ s with led := { s.led with force := forceApply s.led.force type content } }).ledgerDrop none type))
  else
    let s := if s.ledgerAhead % 256 = 0 && s.led.ready then (s.ledgerPush 1 (forceBytes s.led.force)).2 else s
    let s := { s with led := { s.led with force := forceApply s.led.force type content } }
    let (n, s) := s.ledgerPush type content
    (n, s.ledgerGo)

/-- A record that a command asks for: the command completes once it stands sealed (R460, R469). -/
def State.commandRecord (s : State) (type : Nat) (content : Bytes) (c : CmdRef) (bank : Nat) : State :=
  let full := !s.led.ready && decide (64 ≤ (s.led.queue.filter (fun r => r.type != 1)).length)
  let (n, s) := s.ledgerRecord type content
  let stands := s.led.queue.any (fun r => r.seq == n) || ((s.led.program.map (fun g => g.record.seq == n)).getD false)
  if full || !stands then s.complete c Status.checkFailed.code (imgPayload s 0x0F bank)
  else { s with led := { s.led with waiters := s.led.waiters ++ [(⟨n, c, bank⟩ : LedWaiter)] } }

/-- The parts of the program in flight. -/
def State.setPart (s : State) (b : Nat) (p : LedPart) : State :=
  match s.led.program with
  | none => s
  | some g => { s with led := { s.led with program := some (if b = 0 then { g with a := p } else { g with b := p }) } }

/-- R610, R627: a bank's ledger is marked failed until the next start. -/
def State.ledgerBankFail (s : State) (b : Nat) : State :=
  (if b = 0 then s.set Fld.FLT_STATE_LEDGER_A_FAIL 1 else s.set Fld.FLT_STATE_LEDGER_B_FAIL 1).event 0x0067 b []

/-- R604, R610: one bank's page program of the record in flight ends. -/
def State.ledgerPageDone (s : State) (b page : Nat) (failed : Bool) : State :=
  match s.led.program with
  | none => s
  | some g =>
    let p := if b = 0 then g.a else g.b
    let s := s.modBank b (fun k => { k with op := none })
    if failed then
      let s := s.count Fld.FLT_T_CNT
      let (junk, s) := s.freeBytes 256
      let s := s.modBank b (fun k => { k with cells := programCells k.cells (pageOff page) junk })
      let next := (page + 1) % 65536
      if p.tries = 3 then (s.setPart b { p with run := false }).ledgerBankFail b
      else if next % 256 = 0 || !s.ledgerFits b next then s.setPart b { p with run := false }
      else
        let s := (s.count Fld.FLT_RETRY_CNT).setPart b { p with page := next, tries := p.tries + 1 }
        s.modBank b (fun k => { k with op := some (.ledgerPage next) })
    else
      let bytes := s.ledgerBytes g.record
      let s := s.modBank b (fun k => { k with cells := programCells k.cells (pageOff page) bytes })
      s.setPart b { p with run := false, sealed := true }

/-- The record in flight ends once neither bank programs it any more; the answer is its SEQ. -/
def State.ledgerFinish (s : State) : Option Nat × State :=
  match s.led.program with
  | none => (none, s)
  | some g =>
    if g.a.run || g.b.run then (none, s)
    else
      let next := (max g.a.page g.b.page + 1) % 65536
      let s := { s with led := { s.led with program := none, nextPage := next } }
      (some g.record.seq, if g.a.sealed || g.b.sealed then s.ledgerSettle g.record.seq true else s.ledgerDrop (some g.record.seq) g.record.type)

/-- The sealed pages of a sector, by SEQ, bank A's where both banks have one. -/
def mergedPages (a b : List Bytes) : List Bytes :=
  let a := a.filter pageSealed
  let b := (b.filter pageSealed).filter (fun p => !a.any (fun q => le q 4 4 == le p 4 4))
  sortBy (fun p q => decide (le p 4 4 < le q 4 4)) (a ++ b)

/-- R608: the sector whose sealed SNAPSHOT has the greatest SEQ in either bank: sector and SEQ. -/
def State.newestSector (s : State) : Option (Nat × Nat) :=
  (upto 512).foldl (fun best i =>
    let page := s.nvmRead (i % 2) (pageOff (256 * (i / 2))) 256
    if pageSealed page && byteAt page 8 == 1 && (match best with
        | none => true
        | some (_, q) => decide (q < le page 4 4)) then some (i / 2, le page 4 4)
    else best) none

/-- R584, R609: the ledger as a start finds it: the SNAPSHOT is queued first, then a TRIP record where the trip latch holds a cause,
then the records held since reset. -/
def State.ledgerBegin (s : State) (force : InForce) (seq page : Nat) : State :=
  let held := s.led.queue
  let s := { s with led := { Ledger.reset with force := force, nextSeq := seq, nextPage := page } }
  let s := (s.ledgerPush 1 (forceBytes force)).2
  let s := if s.pwr.latch = 0 then s else (s.ledgerPush 6 [byte s.pwr.latch]).2
  held.foldl (fun s r => (({ s with led := { s.led with force := forceApply s.led.force r.type r.content } }).ledgerPush r.type r.content).2) s

/-- R608, R609, R627: the scan of a start: the state in force, the next SEQ, RESET_COUNT, the sector of the first
SNAPSHOT, which is queued. Where the ledger is empty, the first SEQ is open (a free value, log entry 3) and the first
sector is sector 0 (log entry 20). -/
def State.ledgerScan (s : State) : State :=
  match s.newestSector with
  | none =>
    let lost := !(blankCells (s.bank 0).cells ledgerBase 0x1000000 && blankCells (s.bank 1).cells ledgerBase 0x1000000)
    let (q, s) := s.free 31
    let s := s.ledgerBegin InForce.empty q 0
    (s.set Fld.FLT_STATE_LEDGER_LOST (b2n lost)).set Fld.FLT_RESET_COUNT 1
  | some (sec, seq) =>
    let sealedIn := fun b => (upto 256).map (fun i => s.nvmRead b (pageOff (256 * sec + i)) 256)
    let pages := mergedPages (sealedIn 0) (sealedIn 1)
    let snap := (pages.find? (fun p => le p 4 4 == seq)).getD []
    let later := pages.filter (fun p => decide (seq < le p 4 4))
    let force := later.foldl (fun f p => forceApply f (byteAt p 8) (slice p 40 208)) (forceOf (slice snap 40 208))
    let last := (later.getLast?).getD snap
    let q := w32 (le last 4 4 + 1)
    let s := s.ledgerBegin force q ((256 * (sec + 1)) % 65536)
    s.set Fld.FLT_RESET_COUNT (w32 (le last 12 4 + 1))

end Sys2Proof.Machine
end

