-- ==== Sys2Proof/Machine/Strands.lean ====
section
/-!
DEFINITION. Frames met as a whole, and the Strands' states: causes of UNSCREENED, transitions of Table 1-3, shares,
Strand faults, swaps that end with a transition (R26 to R29, R45, R46, R63 to R68, R461, R462, R465 to R469, Table 1-12).
-/
namespace Sys2Proof.Machine

/-- Now, at or after the tick `t`, on the 64-bit counter: the difference is below half the range. -/
def State.reached (s : State) (t : Nat) : Bool := decide (s.since t < 2 ^ 63)

/-- R45, R46, R371: a cause of UNSCREENED met by a frame whose outcome is not yet final. -/
def addCause (r : Reason) (f : Frame) : Frame :=
  if f.decided || f.causes.contains r then f else { f with causes := r :: f.causes }

/-- A cancel registered on a request that has none and has not ended (R311, R317). -/
def cancelRequest (c : Cancel) (r : Request) : Request :=
  if r.state = .ended || r.cancel.isSome then r else { r with cancel := some c, state := .cancelling }

/-- A cause met by every frame for which `p` holds; a request whose frame has become UNSCREENED before its label was
delivered is cancelled with status ABORTED (R311). -/
def State.causeAll (s : State) (p : Frame → Bool) (r : Reason) : State :=
  let hit := (s.frames.filter (fun f => p f && !f.decided)).map (fun f => f.key)
  let c : Cancel := ⟨10, s.now, none⟩
  { s with frames := mapWhere s.frames p (addCause r)
           srv := { s.srv with requests := mapWhere s.srv.requests (fun q => hit.contains q.frame && !q.delivered) (cancelRequest c) } }

/-- A cause met by frame `k`. -/
def State.cause (s : State) (k : Nat) (r : Reason) : State := s.causeAll (fun f => f.key == k) r

/-- A frame counts as inside its Strand from its selection on (log entry 21). -/
def insideStrand (i : Nat) (f : Frame) : Bool := f.strand == some i && f.phase != .refused

/-- Frames inside a Strand (Table 1-20 INSIDE). -/
def State.inside (s : State) (i : Nat) : Nat := (s.frames.filter (insideStrand i)).length

/-- The state of a Strand. -/
def State.strandState (s : State) (i : Nat) : StrandState := (s.strand i).state

/-- A Strand enters a state. -/
def State.enter (s : State) (i : Nat) (st : StrandState) : State :=
  s.modStrand i (fun x => { x with state := st, since := s.now, stuck := false, left := x.left || x.state == .loading })

/-- R461: the swaps of Strand `i` complete; OK in SERVING or without a fault, else CHECK_FAILED with the image fault. -/
def State.settleSwaps (s : State) (i detail : Nat) : State :=
  let due := s.img.swaps.filter (fun w => w.strand == i && w.started)
  let s := { s with img := { s.img with swaps := s.img.swaps.filter (fun w => !(w.strand == i && w.started)) } }
  let bank := s.get Fld.IMG_STATE_FORCE_BANK
  let s := if due.isEmpty || detail = 0 then s else s.set Fld.IMG_FAULT detail
  due.foldl (fun s w => s.complete w.cmd (if detail = 0 then Status.ok.code else Status.checkFailed.code) (imgPayload s detail bank)) s

/-- Code of Table 16-3. -/
def strandFaultCode : StrandFault → Nat
  | .none => 0
  | .twinMismatch => 1
  | .shareOver => 2
  | .vitNoBank => 3
  | .imgSection => 4
  | .classChange => 5
  | .policyUe => 6
  | .retired => 7

/-- A Strand fault is recorded and reported (Table 16-3, Table 16-5). -/
def State.strandFault (s : State) (i : Nat) (f : StrandFault) : State :=
  (s.modStrand i (fun x => { x with fault := f })).event 0x0062 i [strandFaultCode f]

/-- The image fault that a swap reports for a Strand fault (Table 12-12). -/
def swapDetail : StrandFault → Nat
  | .none => 0
  | .imgSection => 0x05
  | .classChange => 0x0B
  | _ => 0x0C

/-- R469: the roll's last Strand has been taken: the target bank becomes the force bank, and a BANK_SELECT record names
it. -/
def State.rollFinish (s : State) (g : Roll) : State :=
  let s := { s with img := { s.img with roll := none },
                     strands := s.strands.mapIdx (fun i (x : Strand) => { x with hasSection := bit g.sections i }) }
  let epoch := s.get (Fld.IMG_BANK_EPOCH g.target)
  let s := (s.set Fld.IMG_ROLL_STATE 4).set Fld.IMG_STATE_FORCE_BANK g.target
  let s := (s.set Fld.IMG_EPOCH_IMAGE epoch).set Fld.IMG_STRAND_SECT g.sections
  let s := s.set Fld.IMG_NEXT_FROM_REC 1
  (s.set Fld.IMG_NEXT_BANK g.target).commandRecord 3 [byte g.target] g.cmd g.target

/-- A revert has come to its end (R469): CHECK_FAILED, or CANCELLED after IMG_ABORT. -/
def State.rollReverted (s : State) (g : Roll) : State :=
  let s := { s with img := { s.img with roll := none } }
  let aborted := g.fault == 0x10
  let s := s.set Fld.IMG_ROLL_STATE (if aborted then 6 else 5)
  s.complete g.cmd (if aborted then Status.cancelled.code else Status.checkFailed.code) (imgPayload s g.fault g.target)

/-- What follows a step of a roll: the next Strand, or the end. -/
def State.rollNext (s : State) (g : Roll) : State :=
  if g.todo.isEmpty then
    (if g.phase = .reverting then s.rollReverted g else s.rollFinish g)
  else { s with img := { s.img with roll := some g } }

/-- R466, R467: the Strand in transit has been taken: `runs` says that it runs the section of the bank it was loaded
from. -/
def State.rollTaken (s : State) (i : Nat) (runs : Bool) : State :=
  match s.img.roll with
  | none => s
  | some g =>
    if g.transit = some i then
      let m := 2 ^ i
      let s := if g.phase = .running && runs then s.setBits Fld.IMG_ROLL_DONE m else s.clearBits Fld.IMG_ROLL_DONE m
      s.rollNext { g with transit := none, since := s.now, todo := g.todo.filter (fun j => j != i),
                           changed := if g.phase = .running then g.changed ++ [i] else g.changed }
    else s

/-- R467: the roll reverts: every Strand changed, and the one in transit, from the force bank, in descending index. A
Strand in transit that still drains is loaded from the force bank at the end of its drain. -/
def State.rollRevert (s : State) (fault : Nat) : State :=
  match s.img.roll with
  | none => s
  | some g =>
    if g.phase = .running then
      let s := (s.set Fld.IMG_ROLL_STATE 3).set Fld.IMG_FAULT fault
      let back := match g.transit with
        | some t => t :: g.changed.reverse
        | none => g.changed.reverse
      let draining := (g.transit.map (fun t => s.strandState t == .draining)).getD false
      let bank := s.get Fld.IMG_STATE_FORCE_BANK
      let s := match g.transit with
        | some t => if draining then s.modStrand t (fun x => { x with bank := bank }) else s
        | none => s
      s.rollNext { g with phase := .reverting, fault := fault, todo := back, transit := if draining then g.transit else none, since := s.now }
    else s

/-- A Strand goes from LOADING to OFF (Table 1-3); its shares lapse (R68). A roll goes on where the bank holds no section
for it, and reverts where its section failed (R466, R467). -/
def State.strandOff (s : State) (i : Nat) (f : StrandFault) : State :=
  let s := (s.enter i .off).modStrand i (fun x => { x with loaded := false, nextShares := none })
  let s := if f = .none then s else s.strandFault i f
  let s := s.settleSwaps i (swapDetail f)
  match s.img.roll with
  | some g =>
    if g.transit = some i ∧ f ≠ .none ∧ g.phase = .running then s.rollRevert (swapDetail f) else s.rollTaken i false
  | none => s

/-- A Strand enters LOADING, from the bank named. -/
def State.strandLoad (s : State) (i bank : Nat) : State :=
  (s.enter i .loading).modStrand i (fun x => { x with loaded := false, bank := bank, forced := false })

/-- R462: a Strand enters DRAINING; in a forced drain every frame inside becomes UNSCREENED, DRAIN_FORCED. -/
def State.strandDrain (s : State) (i bank : Nat) (forced : Bool) : State :=
  let s := (s.enter i .draining).modStrand i (fun x => { x with forced := forced, bank := bank })
  if forced then s.causeAll (insideStrand i) .drainForced else s

/-- R461: swaps that waited for a Twin to be in SERVING begin. -/
def State.startSwaps (s : State) : State :=
  s.img.swaps.foldl (fun s w =>
    if !w.started && s.strandState w.strand == .serving && s.strandState (twinOf w.strand) == .serving then
      let s := { s with img := { s.img with swaps := mapWhere s.img.swaps (fun x => x == w) (fun x => { x with started := true }) } }
      s.strandDrain w.strand (s.get Fld.IMG_STATE_FORCE_BANK) false
    else s) s

/-- A Strand enters SERVING; new shares come into force (Table 2-6). -/
def State.strandServe (s : State) (i : Nat) : State :=
  let s := (s.enter i .serving).modStrand i (fun x =>
    { x with shares := x.nextShares.getD x.shares, nextShares := none, forced := false })
  ((s.settleSwaps i 0).rollTaken i true).startSwaps

/-- R76, R240, R551: a Strand in SERVING becomes EXCLUDED; the bit of TID_SAT_STATUS is set (R81). -/
def State.strandExclude (s : State) (i : Nat) : State :=
  if s.strandState i = .serving then (s.enter i .excluded).set Fld.TID_SAT_STATUS (s.get Fld.TID_SAT_STATUS ||| 16) else s

/-- An EXCLUDED Strand returns to SERVING. -/
def State.strandReturn (s : State) (i : Nat) : State :=
  if s.strandState i = .excluded then (s.enter i .serving).startSwaps else s

/-- Table 1-12: a Strand is retired with frames inside. A Strand in OFF stays OFF (Table 1-3) and never leaves it. -/
def State.strandRetire (s : State) (i : Nat) : State :=
  let s := if s.strandState i = .off then s else s.enter i .retired
  let s := s.strandFault i .retired
  let s := s.causeAll (insideStrand i) .stageFault
  let s := { s with img := { s.img with swaps := mapWhere s.img.swaps (fun w => w.strand == i) (fun w => { w with started := true }) } }
  (s.settleSwaps i 0x0C).rollTaken i false

/-- R65: a Strand's shares count toward the sum of a stage unless it is in OFF. -/
def State.shareSum (s : State) (k : Nat) : Nat :=
  sumBy (s.strands.filter (fun x => x.state != .off)) (fun x => x.shares.getD k 0)

/-- What a stage's sum holds beside the Strands' shares: the delta pool's (R230), the enabled Coves' (R289). -/
def State.stageExtra (s : State) (k : Nat) : Nat :=
  if k = 3 then s.get Fld.GTH_CTL_DELTA_SHARE
  else if k = 5 then sumBy ((upto 8).filter (fun c => s.flag (Fld.SRV_COVE_CFG_EN c))) (fun c => s.get (Fld.SRV_COVE_CFG_GAL_SHARE c))
  else 0

/-- R65: whether the shares of a section fit beside those of every other Strand not in OFF; a Strand whose section is
loaded counts with the shares of that section. -/
def State.sharesFit (s : State) (i : Nat) (shares : List Nat) : Bool :=
  (upto 8).all (fun k =>
    decide (sumBy ((upto 32).filter (fun j => j != i && s.strandState j != .off))
        (fun j => ((s.strand j).nextShares.getD (s.strand j).shares).getD k 0)
      + shares.getD k 0 + s.stageExtra k ≤ 256))

/-- R28, R68: to whom the slots and credits of Strand `i` belong from a boundary on. -/
def State.shareHolder (s : State) (i : Nat) : Option Nat :=
  match s.strandState i with
  | .off => none
  | .serving => some i
  | _ => if s.strandState (twinOf i) = .serving then some (twinOf i) else some i

/-- The band of a class (Table 1-1): 0 spring, 1 mean, 2 neap. -/
def bandOf (cls : Nat) : Nat := if cls < 2 then 0 else if cls < 6 then 1 else 2

/-- R67: the first of the candidates in band order and, within a band, the one least recently served; those never
served come first, lowest index first. -/
def spareChoice (s : State) (order : List Nat) (cands : List Nat) : Option Nat :=
  let key := fun i => bandOf (s.strand i).cls * 100 + (if order.contains i then 33 + order.idxOf i else i)
  minBy? cands key

/-- R67: a Strand has been served a spare slot. -/
def served (order : List Nat) (i : Nat) : List Nat := order.filter (fun j => j != i) ++ [i]

/-- R597: a transient fault of a frame at a stage: whether its work is repeated. -/
def State.retryFrame (s : State) (k : Nat) (st : Stage) : Bool × State :=
  match s.frame? k with
  | none => (false, s)
  | some f =>
    let n := Tab.getD f.retries (stageIdx st) 0
    if n < 3 then
      (true, (s.count Fld.FLT_RETRY_CNT).modFrame k (fun f => { f with retries := Tab.put f.retries (stageIdx st) (n + 1) }))
    else (false, s.cause k .stageFault)

/-- Whether a stage is among those that the frame's Strand uses. -/
def usesStage (f : Frame) (st : Stage) : Bool := bit f.used (stageIdx st)

/-- Whether a stage has delivered the frame's stage output (R369). -/
def stageDelivered (f : Frame) : Stage → Bool
  | .intake => f.phase == .inside
  | .catalogue => f.texts.all (fun t => t.finished)
  | .vitrine => f.ngramsFormed && f.searches.all (fun x => x.state == .done)
  | .gather => f.gather.isSome
  | .arbor => f.models.all (fun m => m.started && m.treesToDo == 0)
  | .galleries => f.models.all (fun m => m.finished)
  | .guard => f.guard.isSome
  | .verdict => f.vector.isSome

/-- The stages in order of index. -/
def allStages : List Stage := [.intake, .catalogue, .vitrine, .gather, .arbor, .galleries, .guard, .verdict]

/-- DONE of a frame brought up to date: a used stage that has delivered stays delivered. -/
def settleStages (f : Frame) : Frame :=
  let bitsDone := sumBy (allStages.filter (fun st => usesStage f st && stageDelivered f st)) (fun st => 2 ^ stageIdx st)
  { f with done := f.done ||| bitsDone }

/-- A frame still being screened: no cause of UNSCREENED, nothing final. -/
def screening (f : Frame) : Bool := f.phase == .inside && f.causes.isEmpty && !f.decided

end Sys2Proof.Machine
end

