-- ==== Sys2Proof/Machine/VitTable.lean ====
section
/-!
DEFINITION. A Vitrine table on one replica: matching (R163, R164, R172), the plans of the update operations (R173 to
R177, Table 5-5), the lookup result (Table 5-4), and META as a word (Table 5-2).
-/
namespace Sys2Proof

/-- Geometry of a table (Tables 5-12 and 5-13). -/
structure VGeom where
  /-- First unit of the region. -/
  base : Nat
  /-- Slot positions. -/
  slots : Nat
  /-- Units per entry: 1, 2 or 4. -/
  w : Nat
  holeEvery : Nat
  maxShift : Nat
  deriving DecidableEq, Repr

/-- The unit at an address of a bank. -/
def Bank.unit (b : Bank) (addr : Nat) : VUnit := Tab.getD b.units addr VUnit.hole

/-- A unit written, with its shadow (R194: STALE is not shadowed). -/
def Bank.setUnit (b : Bank) (addr : Nat) (u : VUnit) : Bank :=
  { b with
    units := Tab.putD VUnit.hole b.units addr u
    shadow := Tab.putD VUnit.hole b.shadow addr { u with info := { u.info with stale := false } } }

/-- STALE of a unit set or cleared through the META port (not shadowed). -/
def Bank.setStale (b : Bank) (addr : Nat) (v : Bool) : Bank :=
  let u := b.unit addr
  { b with units := Tab.putD VUnit.hole b.units addr { u with info := { u.info with stale := v } } }

/-- Address of a slot position's head unit. -/
def VGeom.addr (g : VGeom) (p : Nat) : Nat := g.base + p * g.w

/-- A slot position holds an entry that takes part in searches. -/
def slotValid (b : Bank) (g : VGeom) (p : Nat) : Bool :=
  let u := b.unit (g.addr p)
  u.info.valid && u.info.head

/-- Key and mask of the entry at a slot position (R163). -/
def slotKey (b : Bank) (g : VGeom) (p : Nat) : Nat × Nat :=
  ((upto g.w).foldl (fun acc k => acc + (b.unit (g.addr p + k)).key * 2 ^ (96 * k)) 0,
   (upto g.w).foldl (fun acc k => acc + (b.unit (g.addr p + k)).mask * 2 ^ (96 * k)) 0)

/-- A key matches the entry at a slot position (R164). -/
def slotMatches (b : Bank) (g : VGeom) (key p : Nat) : Bool :=
  slotValid b g p &&
    (let (k, m) := slotKey b g p
     (key &&& m) == (k &&& m))

/-- Slot positions with a valid entry, ascending. -/
def validSlots (b : Bank) (g : VGeom) : List Nat := (upto g.slots).filter (slotValid b g)

/-- The first match of a key: its slot position (R172). -/
def searchTable (b : Bank) (g : VGeom) (key : Nat) : Option Nat := (upto g.slots).find? (slotMatches b g key)

/-- The entry with exactly this key and mask (R174 step 1). -/
def probeTable (b : Bank) (g : VGeom) (key mask : Nat) : Option Nat :=
  (upto g.slots).find? (fun p => slotValid b g p && slotKey b g p == (key, mask))

/-- MLEN of the entry at a slot position. -/
def slotMlen (b : Bank) (g : VGeom) (p : Nat) : Nat := (b.unit (g.addr p)).info.mlen

/-- A kept hole's position (R173). -/
def keptHole (g : VGeom) (p : Nat) : Bool := g.holeEvery != 0 && (p + 1) % g.holeEvery == 0

/-- The units of an entry, head first. -/
def entryUnits (w : Nat) (e : VEntry) : List VUnit :=
  (upto w).map (fun k =>
    if k = 0 then ⟨bits e.key 0 96, bits e.mask 0 96, { e.info with valid := true, head := true }, e.result⟩
    else ⟨bits e.key (96 * k) 96, bits e.mask (96 * k) 96, { VUnit.hole.info with width := e.info.width },
      VUnit.hole.result⟩)

/-- The clearing write that precedes an overwrite of a valid entry two or four units wide (R175). -/
def clearFirst (b : Bank) (g : VGeom) (p : Nat) : List Prim :=
  if g.w ≠ 1 ∧ slotValid b g p = true then [.invalidate (g.addr p)] else []

/-- The writes of an entry at a slot position, continuation units first, head last. -/
def writePlan (g : VGeom) (p : Nat) (e : VEntry) : List Prim :=
  let us := entryUnits g.w e
  ((upto g.w).reverse).map (fun k => .write (g.addr p + k) (us.getD k VUnit.hole))

/-- The writes that move an entry, continuation units first, head last. -/
def movePlan (g : VGeom) (src dst : Nat) : List Prim :=
  ((upto g.w).reverse).map (fun k => .move (g.addr src + k) (g.addr dst + k))

/-- Where an insertion puts an entry: the slot, and the moves that free it; or the refusal, 1 TABLE_FULL, 2
NO_NEAR_HOLE (R174). -/
def placeEntry (b : Bank) (g : VGeom) (mlen : Nat) : Except Nat (Nat × List Prim) :=
  let vs := validSlots b g
  let lo := match (vs.filter (fun p => decide (mlen < slotMlen b g p))).getLast? with
    | some p => p + 1
    | none => 0
  let hi1 := match vs.find? (fun p => decide (slotMlen b g p < mlen)) with
    | some p => p
    | none => g.slots
  let holes := (upto g.slots).filter (fun p => !slotValid b g p)
  let inRange := holes.filter (fun p => decide (lo ≤ p ∧ p < hi1))
  match inRange.find? (fun p => !keptHole g p), inRange.head? with
  | some p, _ => .ok (p, [])
  | none, some p => .ok (p, [])
  | none, none =>
    let below := (holes.filter (fun p => decide (p < lo))).getLast?
    let above := holes.find? (fun p => decide (hi1 ≤ p))
    -- hi is hi1 − 1; the distances are lo − ha and hb − hi
    let da := below.map (fun p => lo - p)
    let db := above.map (fun p => p + 1 - hi1)
    let up (hb : Nat) : Nat × List Prim :=
      (hi1, ((upto (hb - hi1)).map (fun i => hb - 1 - i)).flatMap (fun j =>
        (if j + 1 = hb then [] else clearFirst b g (j + 1)) ++ movePlan g j (j + 1)) ++
        (if hb = hi1 then [] else clearFirst b g hi1))
    let down (ha : Nat) : Nat × List Prim :=
      (lo - 1, ((upto (lo - 1 - ha)).map (fun i => ha + 1 + i)).flatMap (fun j =>
        (if j - 1 = ha then [] else clearFirst b g (j - 1)) ++ movePlan g j (j - 1)) ++
        (if ha = lo - 1 then [] else clearFirst b g (lo - 1)))
    match da, db, below, above with
    | none, some d, _, some hb => if g.maxShift < d then .error 2 else .ok (up hb)
    | some d, none, some ha, _ => if g.maxShift < d then .error 2 else .ok (down ha)
    | some d, some d2, some ha, some hb =>
      if g.maxShift < min d d2 then .error 2 else if d2 ≤ d then .ok (up hb) else .ok (down ha)
    | _, _, _, _ => .error 1

/-- Care bits of a mask of width w (MLEN). -/
def maskLen (w mask : Nat) : Nat := popCount (96 * w) mask

/-- REBALANCE: where each entry goes so that exactly the kept holes and every slot after the last entry are holes
(R177): the target of the i-th entry is the i-th position that is no kept hole. -/
def rebalanceTargets (g : VGeom) (n : Nat) : List Nat := ((upto g.slots).filter (fun p => !keptHole g p)).take n

/-- Moves of REBALANCE that go up, highest first. -/
def rebalanceUp (b : Bank) (g : VGeom) (ps : List (Nat × Nat)) : List Prim :=
  ps.reverse.flatMap (fun st =>
    if st.1 < st.2 then clearFirst b g st.2 ++ movePlan g st.1 st.2 ++
      (if ps.any (fun x => x.2 == st.1) then [] else [.invalidate (g.addr st.1)]) else [])

/-- Moves of REBALANCE that go down, lowest first. -/
def rebalanceDown (b : Bank) (g : VGeom) (ps : List (Nat × Nat)) : List Prim :=
  ps.flatMap (fun st =>
    if st.2 < st.1 then clearFirst b g st.2 ++ movePlan g st.1 st.2 ++
      (if ps.any (fun x => x.2 == st.1) then [] else [.invalidate (g.addr st.1)]) else [])

/-- The plan of REBALANCE after its judgement, or its refusal. An entry's target may be a slot that a later entry
leaves: entries that go up move highest first, then those that go down lowest first. -/
def rebalancePlan (b : Bank) (g : VGeom) : Except Nat (List Prim) :=
  let vs := validSlots b g
  let ts := rebalanceTargets g vs.length
  if ts.length < vs.length then .error 1
  else
    let ps := List.zip vs ts
    .ok (rebalanceUp b g ps ++ rebalanceDown b g ps)

/-- CLEAR: every head invalidated. -/
def clearPlan (b : Bank) (g : VGeom) : List Prim := (validSlots b g).map (fun p => .invalidate (g.addr p))

/-- What a batch operation does after its probe: the unit writes, whether it was skipped (R429), its refusal (R207). -/
structure OpPlan where
  plan : List Prim
  skipped : Bool
  refused : Option Nat
  deriving DecidableEq, Repr

/-- An entry written by a batch of version `ver` (R179, R430). -/
def batchEntry (g : VGeom) (learning : Bool) (ver : Nat) (e : VEntry) : VEntry :=
  { e with
    info := { e.info with
      valid := true, head := true, width := (if g.w = 1 then 0 else if g.w = 2 then 1 else 2)
      mlen := maskLen g.w e.mask, stale := false, learned := learning, pinned := false, lport := 0, moves := 0 }
    result := { e.result with ever := ver, attr := if learning then e.result.attr else 0 } }

/-- The plan of a batch operation as the table stands at its probe (R174, R176, R177). -/
def batchPlan (b : Bank) (g : VGeom) (learning : Bool) (ver : Nat) (op : BatchOp) : OpPlan :=
  match op with
  | .insert e =>
    let e := batchEntry g learning ver e
    match probeTable b g e.key e.mask with
    | some p => ⟨[.write (g.addr p) ((entryUnits g.w e).getD 0 VUnit.hole)], false, none⟩
    | none => match placeEntry b g e.info.mlen with
      | .ok (p, moves) => ⟨moves ++ writePlan g p e, false, none⟩
      | .error c => ⟨[], false, some c⟩
  | .modify key mask code data => match probeTable b g key mask with
    | some p =>
      let u := b.unit (g.addr p)
      ⟨[.write (g.addr p) { u with result := { u.result with ever := ver, code := code, data := data } }], false, none⟩
    | none => ⟨[], true, none⟩
  | .delete key mask => match probeTable b g key mask with
    | some p => ⟨[.invalidate (g.addr p)], false, none⟩
    | none => ⟨[], true, none⟩
  | .unpin key mask => match probeTable b g key mask with
    | some p =>
      let u := b.unit (g.addr p)
      ⟨[.write (g.addr p) { u with info := { u.info with pinned := false, moves := 0 } }], false, none⟩
    | none => ⟨[], true, none⟩
  | .rebalance => match rebalancePlan b g with
    | .ok ps => ⟨ps, false, none⟩
    | .error c => ⟨[], false, some c⟩
  | .clear => ⟨clearPlan b g, false, none⟩

/-- A unit operation applied to a bank. -/
def Bank.apply (b : Bank) : Prim → Bank
  | .probe => b
  | .write addr u => b.setUnit addr { u with info := { u.info with stale := u.info.stale } }
  | .move src dst => b.setUnit dst (b.unit src)
  | .invalidate addr =>
    let u := b.unit addr
    b.setUnit addr { u with info := { u.info with valid := false } }
  | .learn _ _ => b

/-- The 128 bits of a lookup result (Table 5-4). -/
def Lookup.toNat (l : Lookup) : Nat :=
  b2n l.hit + 2 * b2n l.staleSeen + 4 * l.outcome + 32 * b2n l.conflict + 64 * b2n l.spec + 256 * (l.table % 64)
    + 2 ^ 16 * (l.index % 65536) + 2 ^ 32 * (l.mlen % 512) + 2 ^ 48 * w32 l.code + 2 ^ 80 * w32 l.ever

/-- META as its word (Table 5-2) without PARITY, which is derived. -/
def Meta.toNat (m : Meta) : Nat :=
  b2n m.valid + 2 * b2n m.head + 4 * m.width + 16 * m.mlen + 2 ^ 13 * b2n m.stale + 2 ^ 14 * b2n m.refresh
    + 2 ^ 15 * b2n m.age + 2 ^ 16 * b2n m.learned + 2 ^ 17 * b2n m.pinned + 2 ^ 18 * m.lport + 2 ^ 19 * m.moves

/-- A unit's shadowed fields equal its shadow (R195). -/
def shadowAgrees (b : Bank) (addr : Nat) : Bool :=
  let u := b.unit addr
  let sh := Tab.getD b.shadow addr VUnit.hole
  { u with info := { u.info with stale := false } } == sh

/-- A unit rewritten from its shadow (R195, R197); STALE, which the shadow lacks, stays. -/
def Bank.repair (b : Bank) (addr : Nat) : Bank :=
  let sh := Tab.getD b.shadow addr VUnit.hole
  let st := (b.unit addr).info.stale
  { b with units := Tab.putD VUnit.hole b.units addr { sh with info := { sh.info with stale := st } } }

end Sys2Proof
end

