-- ==== Sys2Proof/Machine/VitOps.lean ====
section
/-!
DEFINITION. The Vitrine at work: its banks and tables in the state, searches, update engines, learns, sweeps, scrub
(R162 to R210).
-/
namespace Sys2Proof.Machine

/-- A bank of the Vitrine. -/
def State.vbank (s : State) (b : Nat) : Bank := Tab.getD s.vit.banks b Bank.reset

/-- A bank changed. -/
def State.modVbank (s : State) (b : Nat) (f : Bank → Bank) : State :=
  { s with vit := { s.vit with banks := Tab.putD Bank.reset s.vit.banks b (f (s.vbank b)) } }

/-- A table. -/
def State.vtable (s : State) (t : Nat) : VTable := Tab.getD s.vit.tables t VTable.reset

/-- A table changed. -/
def State.modVtable (s : State) (t : Nat) (f : VTable → VTable) : State :=
  { s with vit := { s.vit with tables := Tab.putD VTable.reset s.vit.tables t (f (s.vtable t)) } }

/-- Whether a unit of a kind is retired. -/
def State.isRetired (s : State) (k : UnitKind) (i : Nat) : Bool := bit (forceMap s.led.force k) i

/-- Units per entry of a table (WIDTH). -/
def State.tableWidth (s : State) (t : Nat) : Nat := 2 ^ s.get (Fld.VIT_TABLE_CFG_WIDTH t)

/-- Geometry of a table (R165, Table 5-13). -/
def State.vgeom (s : State) (t : Nat) : VGeom :=
  let w := s.tableWidth t
  ⟨4 * s.get (Fld.VIT_TABLE_REGION_BASE4 t), (4 * (s.get (Fld.VIT_TABLE_REGION_COUNT4 t) + 1)) / w, w,
   s.get (Fld.VIT_TABLE_LAYOUT_HOLE_EVERY t), s.get (Fld.VIT_TABLE_LAYOUT_MAX_SHIFT t)⟩

/-- Banks that hold a live replica of a table, ascending (R165, R206). -/
def State.liveBanks (s : State) (t : Nat) : List Nat :=
  if s.flag (Fld.VIT_TABLE_CFG_EN t) then
    ((upto (s.get (Fld.VIT_TABLE_CFG_REPL t))).map (fun i => s.get (Fld.VIT_TABLE_CFG_BANK_FIRST t) + i)).filter
      (fun b => decide (b < 16) && !s.isRetired .bank b)
  else []

/-- The replica that orders a table's updates (R167, R206). -/
def State.orderer (s : State) (t : Nat) : Option Nat := (s.liveBanks t).head?

/-- A search of a frame changed. -/
def modSearch (id : Nat) (g : Search → Search) (f : Frame) : Frame :=
  { f with searches := mapWhere f.searches (fun x => x.id == id) g }

/-- A search's result is delivered to its frame (R171, R182). -/
def State.deliver (s : State) (k id : Nat) (l : Lookup) : State :=
  s.modFrame k (fun f => settleStages (modSearch id (fun x => { x with state := .done, result := some l }) f))

/-- A non-speculative search is counted (Table 5-15). -/
def State.countSearch (s : State) (l : Lookup) : State :=
  let s := s.count Fld.VIT_SEARCH_CNT
  if l.hit then s.count Fld.VIT_HIT_CNT else s

/-- R191, log entry 22: STALE of an entry on every live replica of a table. -/
def State.setStaleAll (s : State) (t addr : Nat) (v : Bool) : State :=
  (s.liveBanks t).foldl (fun s b => s.modVbank b (fun k => Bank.setStale k addr v)) s

/-- A unit operation is applied on a bank, and, where the bank orders the table, passed to the other replicas. -/
def State.applyPrim (s : State) (b t : Nat) (p : Prim) : State :=
  let s := s.modVbank b (fun k => Bank.apply k p)
  if s.orderer t = some b then
    ((s.liveBanks t).filter (fun c => c != b)).foldl
      (fun s c => s.modVbank c (fun k => { k with queue := k.queue ++ [(t, p)] })) s
  else s

/-- R174, R185: what a learn does, as the table stands at its probe: the operations before its commit, and the commit. -/
def learnPlan (s : State) (b t : Nat) (l : Learn) : List Prim :=
  let g := s.vgeom t
  let bk := s.vbank b
  let full := 2 ^ (96 * g.w) - 1
  match probeTable bk g l.key full with
  | some p =>
    let a := g.addr p
    let u := bk.unit a
    if u.info.pinned then [.learn .pinned a]
    else if u.result.attr = l.attr then [.learn .same a]
    else [.learn .move a]
  | none =>
    match placeEntry bk g (96 * g.w) with
    | .error _ => [.learn .dropped 0]
    | .ok (p, moves) =>
      let e : VEntry := ⟨l.key, full, { VUnit.hole.info with width := s.get (Fld.VIT_TABLE_CFG_WIDTH t) }, VUnit.hole.result⟩
      moves ++ (writePlan g p e).dropLast ++ [.learn .insert (g.addr p)]

/-- The head of an entry that a learn inserts (R185, R186). -/
def learnedHead (s : State) (t : Nat) (l : Learn) (ever : Nat) : VUnit :=
  let w := s.tableWidth t
  let info : Meta :=
    ⟨true, true, s.get (Fld.VIT_TABLE_CFG_WIDTH t), 96 * w, false, s.flag (Fld.VIT_TABLE_CFG_REFRESH t),
     s.flag (Fld.VIT_TABLE_CFG_AGE t), true, false, l.port, 0⟩
  ⟨bits l.key 0 96, 2 ^ 96 - 1, info, ⟨ever, 0, l.attr, s.now, 0, []⟩⟩

/-- R187: the head of an entry after a move; whether it became pinned. -/
def movedHead (s : State) (t : Nat) (l : Learn) (ever : Nat) (u : VUnit) : VUnit × Bool :=
  let win := s.get (Fld.VIT_TABLE_TIMERS_MOVE_WIN_MS t) * 500000
  let fresh := u.info.moves == 0 || decide (win < s.since u.result.moveTick0)
  let moves := if fresh then 1 else u.info.moves + 1
  let flap := moves == 4
  ({ u with
     info := { u.info with lport := l.port, moves := moves, pinned := u.info.pinned || flap }
     result := { u.result with ever := ever, attr := l.attr, learnTick := s.now,
                               moveTick0 := if fresh then s.now else u.result.moveTick0 } }, flap)

/-- The result of a search after its learn has committed on the entry at `addr` (log entry 23). -/
def State.learnResult (s : State) (b t addr outcome : Nat) (conflict : Bool) : Lookup :=
  let u := (s.vbank b).unit addr
  let g := s.vgeom t
  ⟨true, u.info.stale, outcome, conflict, false, t, (addr - g.base) / g.w, u.info.mlen, u.result.code, u.result.ever,
   (s.vtable t).ver, padTo 128 u.result.data⟩

/-- R186: the table's learn sequence rises. -/
def State.bumpLseq (s : State) (t : Nat) : State := s.modVtable t (fun x => { x with lseq := w32 (x.lseq + 1) })

/-- R185 to R187, R207: a learn commits. -/
def State.commitLearn (s : State) (b t : Nat) (l : Learn) (how : LearnEnd) (addr : Nat) : State :=
  let stale := ((s.vbank b).unit addr).info.stale
  match how with
  | .insert =>
    let s := s.bumpLseq t
    let s := s.applyPrim b t (.write addr (learnedHead s t l (s.vtable t).lseq))
    s.deliver l.frame l.slot (s.learnResult b t addr 3 false)
  | .move =>
    let s := s.bumpLseq t
    let ever := (s.vtable t).lseq
    let (u, flap) := movedHead s t l ever ((s.vbank b).unit addr)
    let g := s.vgeom t
    let idx := (addr - g.base) / g.w
    let s := (s.applyPrim b t (.write addr u)).count Fld.VIT_MOVE_CNT
    let s := s.event 0x0020 t [idx, ever]
    let s := if flap then
        ((s.count Fld.VIT_FLAP_CNT).setBits (Fld.VIT_TABLE_EVT t) 1).event 0x0021 t [idx]
      else s
    s.deliver l.frame l.slot (s.learnResult b t addr 2 true)
  | .same =>
    let r := s.learnResult b t addr 1 false
    let s := if stale then s.setStaleAll t addr false else s
    s.deliver l.frame l.slot r
  | .pinned =>
    let differs := ((s.vbank b).unit addr).result.attr != l.attr
    (s.count Fld.VIT_PIN_DROP_CNT).deliver l.frame l.slot (s.learnResult b t addr 4 differs)
  | .dropped =>
    (s.count Fld.VIT_LEARN_DROP_CNT).deliver l.frame l.slot
      ⟨false, false, 5, false, false, t, 0, 0, 0, 0, (s.vtable t).ver, []⟩

/-- A batch operation ends: skipped and refused operations are counted on its load (R207, R429). -/
def State.batchNote (s : State) (t load index : Nat) (p : OpPlan) : State :=
  let s := { s with host := { s.host with loads := mapWhere s.host.loads (fun l => l.key == load) (fun l =>
    { l with skipped := l.skipped + b2n p.skipped, refused := l.refused + b2n p.refused.isSome }) } }
  match p.refused with
  | none => s
  | some c => (s.setBits (Fld.VIT_TABLE_EVT t) (2 * c)).event 0x0022 t [index, c]

/-- The operation in progress on a table, with what is left of it; an empty plan ends it. -/
def State.setCur (s : State) (t : Nat) (op : TableOp) (plan : List Prim) : State :=
  s.modVtable t (fun x => { x with cur := if plan.isEmpty then none else some ⟨op, plan⟩ })

/-- Whether an operation starts with a probe slot (Table 5-5). -/
def probes : TableOp → Bool
  | .batch _ _ _ .rebalance => false
  | .batch _ _ _ .clear => false
  | _ => true

/-- The next operation of a table is taken: its plan as the table stands now. -/
def State.startOp (s : State) (b t : Nat) : State :=
  match (s.vtable t).ops with
  | [] => s
  | op :: rest =>
    let s := s.modVtable t (fun x => { x with ops := rest })
    match op with
    | .batch load index ver bop =>
      let p := batchPlan (s.vbank b) (s.vgeom t) (s.flag (Fld.VIT_TABLE_CFG_LEARN t)) ver bop
      (s.batchNote t load index p).setCur t op p.plan
    | .learn l => s.setCur t op (learnPlan s b t l)
    | .remove _ => s.setCur t op []

/-- R177, R207, Table 5-5: operations at the front that cost no slot (a REBALANCE refused or with nothing to move, a CLEAR
of an empty table) end as their turn comes. -/
def State.endFree (s : State) (b t : Nat) : Nat → State
  | 0 => s
  | n + 1 =>
    match (s.vtable t).cur, (s.vtable t).ops with
    | none, .batch load index ver bop :: _ =>
      if probes (.batch load index ver bop) then s
      else if (batchPlan (s.vbank b) (s.vgeom t) (s.flag (Fld.VIT_TABLE_CFG_LEARN t)) ver bop).plan.isEmpty then
        State.endFree (s.startOp b t) b t n
      else s
    | _, _ => s

/-- Operations of a table that cost no slot end as their turn comes. -/
def State.settleTable (s : State) (t : Nat) : State :=
  match s.orderer t with
  | some b => s.endFree b t (s.vtable t).ops.length
  | none => s

/-- The next unit operation of a table's operation in progress is applied; a commit of a learn is left to its own
command. -/
def State.advanceOp (s : State) (b t : Nat) : State :=
  match (s.vtable t).cur with
  | none => s
  | some c =>
    match c.plan with
    | [] => s.setCur t c.op []
    | .learn _ _ :: _ => s
    | p :: rest => (s.applyPrim b t p).setCur t c.op rest

/-- Tables whose updates bank `b` orders and which have one to present other than the commit of a learn or an aging
removal, lowest first. -/
def State.dueTables (s : State) (b : Nat) : List Nat :=
  (upto 64).filter (fun t => s.orderer t == some b &&
    (match (s.vtable t).cur with
     | some c => match c.plan with
       | .learn _ _ :: _ => false
       | _ => true
     | none => match (s.vtable t).ops with
       | [] => false
       | .remove _ :: _ => false
       | _ => true))

/-- R71, R180: the update engine of bank `b` presents its next operation: a repair, an operation passed on by the
ordering replica, or the next of a table it orders. -/
def State.updateSlot (s : State) (b : Nat) : State :=
  let k := s.vbank b
  match k.repairs with
  | a :: rest => s.modVbank b (fun k => Bank.repair { k with repairs := rest } a)
  | [] =>
    let s := s.modVbank b (fun k => { k with updRev := k.updRev + 1 })
    match k.queue with
    | (_, p) :: rest => s.modVbank b (fun k => Bank.apply { k with queue := rest } p)
    | [] =>
      match s.dueTables b with
      | [] => s
      | t :: _ =>
        match (s.vtable t).cur with
        | some _ => (s.advanceOp b t).settleTable t
        | none =>
          let probing := match (s.vtable t).ops with
            | op :: _ => probes op
            | [] => true
          let s := s.startOp b t
          (if probing then s else s.advanceOp b t).settleTable t

/-- Whether bank `b` has an update to present within its limit per revolution. -/
def State.updateDue (s : State) (b : Nat) : Bool :=
  let k := s.vbank b
  !s.isRetired .bank b
    && (!k.repairs.isEmpty
        || (decide (k.updRev < s.get (Fld.VIT_BANK_CTL_UPD_MAX b)) && (!k.queue.isEmpty || !(s.dueTables b).isEmpty)))

/-- R179: every operation of a table's batch has been applied on every live replica. -/
def State.batchApplied (s : State) (t load : Nat) : Bool :=
  let x := s.vtable t
  let ofBatch := fun (op : TableOp) => match op with
    | .batch l _ _ _ => l == load
    | _ => false
  (s.liveBanks t).isEmpty || !x.ops.any ofBatch
    && (match x.cur with
        | some c => !ofBatch c.op
        | none => true)
    && (s.liveBanks t).all (fun b => (s.vbank b).queue.all (fun q => q.1 != t))

/-- R189: a sweep of a table: entries with AGE and without PINNED are marked, or queued for removal. -/
def State.sweepTable (s : State) (t : Nat) : State :=
  match s.orderer t with
  | none => s
  | some b =>
    let g := s.vgeom t
    (validSlots (s.vbank b) g).foldl (fun s p =>
      let a := g.addr p
      let u := (s.vbank b).unit a
      if u.info.age && !u.info.pinned then
        if u.info.stale then s.modVtable t (fun x => { x with ops := x.ops ++ [.remove a] })
        else (s.setStaleAll t a true).count Fld.VIT_AGE_MARK_CNT
      else s) s

/-- R183: a learn queued in the bank's learn queue. -/
def State.learnsQueued (s : State) (b : Nat) : Nat :=
  sumBy ((upto 64).filter (fun t => s.orderer t == some b)) (fun t =>
    ((s.vtable t).ops.filter (fun op => match op with
      | .learn _ => true
      | _ => false)).length)

/-- R206: a retired bank holds no queue any more; searches granted on it wait again. -/
def State.bankGone (s : State) (b : Nat) : State :=
  s.modVbank b (fun k => { k with queue := [], repairs := [] })

end Sys2Proof.Machine
end

