-- ==== Sys2Proof/Machine/IntakeOps.lean ====
section
/-!
DEFINITION. What Intake works with: the rule and descriptor windows, streams, the hold region, the egress calendars,
Strand selection, frame identity, and the jobs that a parsed frame brings to every stage (R19 to R21, R30, R36, R55,
R56, R91 to R109).
-/
namespace Sys2Proof.Machine

/-- The number in `n` words from a BAR0 offset on, low word first. -/
def State.wide (s : State) (off n : Nat) : Nat :=
  (upto n).foldl (fun acc i => acc + (s.regWord (off + 4 * i)).toNat * 2 ^ (32 * i)) 0

/-- The 64 class rules (Table 3-5). -/
def State.classRules (s : State) : List Nat := (upto 64).map (fun i => s.wide (0x41000 + 32 * i) 8)

/-- INT_CLASS_DEFAULT. -/
def State.classDefault (s : State) : Nat := (s.regWord Fld.INT_CLASS_DEFAULT_CLASS.off).toNat

/-- The descriptors of a set (R99): BASE and COUNT of the set table. -/
def State.descSet (s : State) (d : Nat) : List Nat :=
  let e := s.get (Fld.INT_DSET d)
  (upto (bits e 10 8)).map (fun i => s.wide (0x42000 + 16 * (bits e 0 10 + i)) 4)

/-- The tables that a set's walk reads. -/
def State.descTables (s : State) (set : List Nat) : DescTables :=
  let lay := bits (set.headD 0) 20 2
  ⟨(upto 192).map (fun i => s.get (Fld.INT_ISO_LAYOUT (192 * lay + i))),
   fun p => (upto 8).map (fun i => s.get (Fld.INT_JSON_PATH (8 * p + i))),
   fun off len => (upto len).map (fun i => byte (bits (s.get (Fld.INT_JSON_KEYS ((off + i) / 4))) (8 * ((off + i) % 4)) 8))⟩

/-- Hold cells in use (R107). -/
def State.holdUsed (s : State) : Nat := sumBy s.frames (fun f => f.cells)

/-- 64-byte address-and-tag part of a frame: addresses and the tags recognised. -/
def tagBytes (bs : Bytes) : Bytes := bs.take (12 + 4 * (layerWalk bs).tags)

/-- Bytes that egress MACsec adds to a frame on a port (R108). -/
def State.msecGrowth (s : State) (p : EthPort) : Nat :=
  if s.flag (Fld.INT_PORT_CTL_MSEC_EN (portIdx p)) then
    (if s.flag (Fld.INT_PORT_CTL_MSEC_SCI (portIdx p)) then 32 else 24)
  else 0

/-- R108: the ticks that `len` bytes, FCS included, hold on a data port. -/
def State.reserveLen (s : State) (p : EthPort) (len : Nat) : Nat := ceilDiv (len + s.msecGrowth p + 20) 100

/-- R109: the least shift at which `len` ticks from `start` on overlap no reservation; reservations stand in order of
their start. -/
def firstFit (start len : Nat) (rs : List (Nat × Nat)) : Nat :=
  rs.foldl (fun sh r => if r.1 < start + sh + len ∧ start + sh < r.1 + r.2 then r.1 + r.2 - start else sh) 0

/-- Reservations of a port, as ticks from now, in order of their start. -/
def State.portReservations (s : State) (p : EthPort) : List (Nat × Nat) :=
  let rs := (s.calendar.filter (fun r => r.port == p)).map (fun r => ((r.start + 2 ^ 64 - s.now) % 2 ^ 64, r.len))
  sortBy (fun a b => decide (a.1 < b.1)) (rs.filter (fun r => decide (r.1 < 2 ^ 63)))

/-- R109: the calendar shift of a frame due at `tRel`, or none where the frame is refused. -/
def State.calendarShift (s : State) (p : EthPort) (tRel len : Nat) : Option Nat :=
  let rs := s.portReservations p
  let sh := firstFit ((tRel + 2 ^ 64 - s.now) % 2 ^ 64) len rs
  if decide (s.get Fld.REL_MAX_SHIFT < sh) || decide (262144 ≤ (s.calendar.filter (fun r => r.port == p)).length) then none
  else some sh

/-- R97: Strands bound to a class and in SERVING. -/
def State.candidates (s : State) (c : Nat) : List Nat :=
  (upto 32).filter (fun i => s.strandState i == .serving && (s.strand i).cls == c)

/-- R97: the first candidate after the one last selected, with wrap. -/
def State.rotate (s : State) (c : Nat) : Option Nat :=
  let cs := s.candidates c
  match cs.find? (fun i => decide (Tab.getD s.lastHanded c 0 ≤ i)) with
  | some i => some i
  | none => cs.head?

/-- A stream. -/
def State.stream? (s : State) (k : Nat) : Option Stream := s.streams.find? (fun x => x.key == k)

/-- A stream changed. -/
def State.modStream (s : State) (k : Nat) (g : Stream → Stream) : State :=
  { s with streams := mapWhere s.streams (fun x => x.key == k) g }

/-- R98: the Strand of a frame under stream follow, else by rotation. -/
def State.selectStrand (s : State) (c : Nat) (follow : Bool) (stream : Option Nat) : Option Nat :=
  let cs := s.candidates c
  let prev := if follow then (stream.bind s.stream?).bind (fun x => if x.chunks ≤ 1 then none else some x.strand) else none
  match prev with
  | some i => if cs.contains i then some i else s.rotate c
  | none => s.rotate c

/-- A frame ID (R12, R19). -/
def State.frameId (s : State) (strand seq : Nat) : Nat := s.node * 2 ^ 48 + strand * 2 ^ 43 + seq % 2 ^ 43

/-- R21: the frame ID of a refused frame is taken. -/
def State.refusalId (s : State) : Nat × State :=
  (s.frameId 31 (2 ^ 42 + s.refused % 2 ^ 42), { s with refused := (s.refused + 1) % 2 ^ 42 })

/-- R20: the next sequence value of a Strand is taken. -/
def State.takeSeqOf (s : State) (i : Nat) : Nat × State :=
  let top := if i = 31 then 2 ^ 42 else 2 ^ 43
  ((s.strand i).seq, s.modStrand i (fun x => { x with seq := (x.seq + 1) % top }))

/-- A frame as it stands after arrival step 7. -/
def newFrame (key : Nat) (port : EthPort) (bs : Bytes) (length : Nat) (digest : Bytes) : Frame :=
  { key := key, kind := .wire, phase := .parsing, port := port, bytes := bs, length := length, digest := digest, cls := 0,
    dset := 0, follow := false, invalidClass := false, stream := none, final := false, tArr := 0, tDl := 0, tRel := 0,
    shift := 0, resLen := 0, cells := 0, strand := none, id := 0, handTick := 0, cset := 0, epoch := 0, seed := 0,
    seedDefaulted := false, beatsToGrant := 0, fields := [], sentinels := [], sentCount := 0, used := 0, done := 0,
    texts := [], catFlags := 0, searches := [], ngramsFormed := true, walkStarted := false, walk := none, walkPin := none, gather := none,
    models := [], guard := none, guardDigest := [], guardPins := [], request := none, guardReady := none, combineGranted := false,
    causes := [], verdict := none, reason := none, rule := 0xFFFE, code := 0, redactSrc := 0, redactOver := false,
    vector := none, commitTick := 0, decided := false, action := .none, tap := .none, auditGap := false, led := false,
    out := none, redactBytes := 0, redactMatches := 0, redacted := false, inbandFallback := false, egressLost := false,
    holdEcc := false, retries := [] }

/-- The entry of a Strand's slot map (Table 4-13). -/
def State.slotMap (s : State) (i slot : Nat) : Nat := bits (s.get (Fld.CAT_SLOT_MAP (32 * i + slot / 2))) (16 * (slot % 2)) 16

/-- The entry of a Strand's key map (Table 5-16). -/
def State.keyMap (s : State) (i slot : Nat) : Nat := s.get (Fld.VIT_KEY_MAP (64 * i + slot))

/-- The models of a Strand's list: position and model (R271). -/
def State.modelList (s : State) (i : Nat) : List (Nat × Nat) :=
  let w := s.get (Fld.GAL_STRAND_MODEL i)
  ((upto 4).map (fun p => (p, bits w (8 * p) 8))).filter (fun e => e.2 != 0xFF)

/-- The current version of an item of content. -/
def State.currentOf (s : State) (k : ContentKind) (i : Nat) : Option Resident :=
  s.content.find? (fun r => r.kind == k && r.index == i && r.current)

/-- A resident version of an item of content. -/
def State.resident (s : State) (k : ContentKind) (i v : Nat) : Option Resident :=
  s.content.find? (fun r => r.kind == k && r.index == i && r.version == v)

/-- A frame's field with a slot and one of the roles named. -/
def fieldIn (f : Frame) (slot : Nat) (roles : List Nat) : Option PField :=
  f.fields.find? (fun x => x.slot == slot && roles.contains x.role)

/-- A frame's field in a slot, whatever its role. -/
def fieldAt (f : Frame) (slot : Nat) : Option PField := f.fields.find? (fun x => x.slot == slot)

/-- R168: the search key of a KEY field for a table of width `w`, and whether it was cut. -/
def searchKey (x : PField) (w tag : Nat) : Nat × Bool :=
  let bs := match x.num with
    | some n => toLe 8 n
    | none => x.val
  let room := 12 * w - 2
  (leNat (bs.take room) + tag * 2 ^ (96 * w - 16), decide (room < bs.length))

/-- R183: the attribute that a learning search carries. -/
def learnAttr (portBit : Bool) (x : Option PField) : Nat :=
  let v := match x with
    | none => 0
    | some x => match x.num with
      | some n => n
      | none => leNat (padTo 8 x.val)
  v % 2 ^ 63 + (if portBit then 2 ^ 63 else 0)

/-- The stages that a Strand uses (Table 2-1, R369); by the current version of each model (log entry 24). -/
def State.usedStages (s : State) (i : Nat) : Nat :=
  let models := (s.modelList i).map (fun e => (s.currentOf .model e.2).map (fun r => r.bytes))
  let anyOf := fun (p : Bytes → Bool) => models.any (fun m => (m.map p).getD false)
  1 + 2 * b2n ((upto 64).any (fun sl => bit (s.slotMap i sl) 0))
    + 4 * b2n ((upto 64).any (fun sl => bit (s.keyMap i sl) 0))
    + 8 * b2n (s.flag (Fld.GTH_STRAND_CFG_EN i))
    + 16 * b2n (anyOf (fun c => decide (arborUnits c ≠ 0)))
    + 32 * b2n (anyOf (fun c => (sectOf c 5).isSome))
    + 64 * b2n (s.flag (Fld.SRV_STRAND_GUARD_EN i)) + 128

/-- R168, R183: the searches of a frame's KEY fields, by slot; and whether a key was cut. -/
def State.keySearches (s : State) (i : Nat) (f : Frame) (spec : Bool) : List Search × Bool :=
  let one := fun (slot : Nat) =>
    let m := s.keyMap i slot
    match fieldIn f slot [0] with
    | none => none
    | some x =>
      if !bit m 0 then none
      else
        let t := bits m 1 6
        let (key, cut) := searchKey x (s.tableWidth t) (bits m 16 16)
        let portBit := s.flag (Fld.VIT_TABLE_CFG_PORT_IN_ATTR t) && f.port == .s
        let learn := if bit m 7 && s.flag (Fld.VIT_TABLE_CFG_LEARN t) && !spec then
            some (learnAttr portBit (fieldAt f (bits m 8 6))) else none
        some ((⟨slot, slot, 0, false, t, key, learn, spec, .waiting, none⟩ : Search), cut)
  let xs := (upto 64).filterMap one
  (xs.map (fun x => x.1), xs.any (fun x => x.2))

/-- The text jobs of a frame: one for each TEXT field whose slot-map entry has EN = 1 (R135). -/
def State.textJobs (s : State) (i : Nat) (f : Frame) : List TextJob :=
  (upto 64).filterMap (fun slot =>
    let m := s.slotMap i slot
    match fieldIn f slot [1] with
    | none => none
    | some x =>
      if bit m 0 then some ⟨slot, x.val, bits m 1 4, bits m 5 3, bit m 8, none, 0, 0, 0, false, [], x.val.isEmpty⟩ else none)

/-- FLAGS of the FRAME record of a replay (Table 10-7). -/
def replayFlags (f : Frame) : Option Nat :=
  match f.kind with
  | .replay r => some (le r.record 6 2)
  | _ => none

/-- Whether a frame is a chunk of a stream. -/
def isChunk (f : Frame) : Bool :=
  match replayFlags f with
  | some n => bit n 1
  | none => f.stream.isSome

/-- The closing screening runs for a final chunk and for a stream that timed out (R38, R40). -/
def isClosing (f : Frame) : Bool :=
  match f.kind with
  | .streamClose _ _ => true
  | .replay r => bit (le r.record 6 2) 10
  | .wire => f.final && f.stream.isSome

/-- DETAIL entries of a replay (R396). -/
def replayEntries (f : Frame) : List Bytes :=
  match f.kind with
  | .replay r => r.entries
  | _ => []

/-- The lookup result that a DETAIL entry records; what the entry leaves out is read from the table (Table 10-9). -/
def State.recordedLookup (s : State) (e : Bytes) : Lookup :=
  let t := byteAt e 1
  let fl := byteAt e 14
  let u := (s.vbank (((s.liveBanks t).head?).getD 0)).unit ((s.vgeom t).addr (le e 12 2))
  ⟨bit fl 0, bit fl 1, bits fl 2 3, bit fl 5, false, t, le e 12 2, (if bit fl 0 then u.info.mlen else 0), (if bit fl 0 then u.result.code else 0),
   le e 8 4, le e 4 4, (if bit fl 0 then padTo 128 u.result.data else [])⟩

/-- R396: a search of a KEY slot that is listed in DETAIL takes its recorded result. -/
def State.recordedKey (s : State) (f : Frame) (x : Search) : Search :=
  match (replayEntries f).find? (fun e => byteAt e 0 == 1 && byteAt e 2 == x.slot) with
  | some e => { x with state := .done, result := some (s.recordedLookup e) }
  | none => x

/-- R396: the searches of an n-gram slot that is listed in DETAIL: one for each recorded hit. -/
def State.recordedNgrams (s : State) (f : Frame) (slot : Nat) : Option (List Search) :=
  ((replayEntries f).find? (fun e => byteAt e 0 == 2 && byteAt e 2 == slot)).map (fun e =>
    let hits := (replayEntries f).filter (fun h => byteAt h 0 == 3 && byteAt h 2 == slot)
    (upto (le e 12 2)).map (fun j =>
      let l := match hits.find? (fun h => byteAt h 3 == j) with
        | some h => s.recordedLookup h
        | none => ⟨true, false, 0, false, false, byteAt e 1, 0, 0, 0, 0, le e 8 4, []⟩
      (⟨64 + 4096 * slot + j, slot, j, true, byteAt e 1, 0, none, true, .done, some l⟩ : Search)))

/-- Bytes in a Strand's Catalogue input queue (R141). -/
def State.queueBytes (s : State) (i : Nat) : Nat :=
  sumBy (s.frames.filter (fun f => f.strand == some i && screening f && f.kind.timed && !isClosing f)) (fun f =>
    sumBy (f.texts.filter (fun t => !t.held && !t.finished)) (fun t => t.text.length))

/-- R141: frames of a Strand whose text is held enter the queue, oldest first, while it has room; `fuel` is their
number. -/
def State.admitTexts (s : State) (i : Nat) : Nat → State
  | 0 => s
  | fuel + 1 =>
    match s.frames.find? (fun f => f.strand == some i && screening f && f.texts.any (fun t => t.held)) with
    | none => s
    | some f =>
      if s.queueBytes i + sumBy f.texts (fun t => t.text.length) ≤ 65536 then
        (s.modFrame f.key (fun f => { f with texts := f.texts.map (fun t => { t with held := false }) })).admitTexts i fuel
      else s

/-- R141: space may have freed in a Strand's Catalogue input queue. -/
def State.queueFreed (s : State) (i : Nat) : State := s.admitTexts i s.frames.length

/-- A model job of a frame. -/
def newModelJob (e : Nat × Nat) : ModelJob := ⟨e.1, e.2, none, [], false, 0, 0, 0, 0, none, none, [], [], false⟩

end Sys2Proof.Machine
end

