-- ==== Sys2Proof/Machine/Macsec.lean ====
section
/-!
DEFINITION. MACsec on the ports: secure associations, reception and transmission (R86 to R89, R125). The layout of a
SecTAG and the recovery of an extended packet number are IEEE 802.1AE's (PRESUMED, log entry 25).
-/
namespace Sys2Proof.Machine

/-- Place of a secure association: port, transmit, SC, AN. -/
def saIndex (p : Nat) (tx : Bool) (sc an : Nat) : Nat := 128 * p + (if tx then 64 else 0) + 4 * (if tx then 0 else sc) + an

/-- A secure association, if installed and enabled. -/
def State.saLive (s : State) (i : Nat) : Option Sa := (Tab.get? s.sas i).bind (fun a => if a.enabled then some a else none)

/-- MACsec is enabled on a port. -/
def State.msec (s : State) (p : Nat) : Bool := s.flag (Fld.INT_PORT_CTL_MSEC_EN p)

/-- The receive SC of a frame: by its SCI, or the lowest with the AN where the SecTAG carries none. -/
def State.rxSc (s : State) (p an : Nat) (sci : Option Nat) : Option Nat :=
  (upto 15).find? (fun sc => match s.saLive (saIndex p false sc an) with
    | none => false
    | some a => match sci with
      | none => true
      | some c => a.sci == c)

/-- The packet number of a frame, recovered to 64 bits on an extended association. -/
def recoverPn (a : Sa) (rx : Nat) : Nat :=
  if a.xpn then
    let lo := a.pn % 2 ^ 32
    let hi := a.pn / 2 ^ 32
    (if rx + 2 ^ 31 < lo then hi + 1 else hi) * 2 ^ 32 + rx
  else rx

/-- R87, R125: a protected frame without FCS is validated; the answer is the bare frame and the state with the replay window
moved, or none. In the halt that follows a reset every frame is discarded. -/
def State.msecOpen (s : State) (p : Nat) (bs : Bytes) : Option (Bytes × State) :=
  if be bs 12 2 ≠ 0x88E5 ∨ s.get (Fld.REL_PORT_STATE_TX p) = 0 then none
  else
    let tci := byteAt bs 14
    let an := tci % 4
    let sci := if bit tci 5 then some (be bs 20 8) else none
    match s.rxSc p an sci with
    | none => none
    | some sc =>
      match s.saLive (saIndex p false sc an) with
      | none => none
      | some a =>
        let pn := recoverPn a (be bs 16 4)
        if pn < a.pn then none
        else match Config.macsecOpen ⟨a.key, a.salt, a.ssci, a.sci, pn, a.xpn, sci.isSome⟩ bs with
          | none => none
          | some bare =>
            let a := { a with pn := max a.pn (pn + 1 - a.window) }
            some (bare, { s with sas := Tab.put s.sas (saIndex p false sc an) a })

/-- The largest packet number of an association. -/
def pnMax (a : Sa) : Nat := if a.xpn then 2 ^ 64 - 1 else 2 ^ 32 - 1

/-- R89: the association that transmits next: the one in use, or the next enabled one in AN order whose packet numbers
are not used up. -/
def State.txAn (s : State) (p : Nat) : Option Nat :=
  let an0 := s.get (Fld.REL_PORT_STATE_TX_AN p)
  ((upto 4).map (fun i => (an0 + i) % 4)).find? (fun an => match s.saLive (saIndex p true 0 an) with
    | none => false
    | some a => decide (a.pn < pnMax a))

/-- Whether a port is in TX_HALT (R89, R125): the stored field TX is 0 in the halt that follows a reset, 2 in a halt in
service and 1 once the port transmits; RegView gives what a read of it answers. -/
def State.txHalted (s : State) (p : Nat) : Bool := s.msec p && decide (s.get (Fld.REL_PORT_STATE_TX p) ≠ 1)

/-- R89: a port enters TX_HALT. -/
def State.txHalt (s : State) (p : Nat) : State := (s.set (Fld.REL_PORT_STATE_TX p) 2).event 0x0012 p []

/-- R88, R89, R110: bytes without FCS protected for a port; none where the port is or comes into TX_HALT. -/
def State.protect (s : State) (p : Nat) (bs : Bytes) : Option Bytes × State :=
  if !s.msec p then (some bs, s)
  else if s.txHalted p then (none, s)
  else match s.txAn p with
    | none => (none, s.txHalt p)
    | some an =>
      match s.saLive (saIndex p true 0 an) with
      | none => (none, s.txHalt p)
      | some a =>
        let s := s.set (Fld.REL_PORT_STATE_TX_AN p) an
        let out := Config.macsecSeal ⟨a.key, a.salt, a.ssci, a.sci, a.pn, a.xpn, s.flag (Fld.INT_PORT_CTL_MSEC_SCI p)⟩ bs
        let s := { s with sas := Tab.put s.sas (saIndex p true 0 an) { a with pn := a.pn + 1 } }
        let s := if a.pn = s.get64 Fld.REL_PN_THRESH then s.event 0x0011 p [an] else s
        (some out, s)

/-- R125, Table 3-17: the association that INT_SA_SEL names: port, transmit, SC, AN. -/
def State.saSelected (s : State) : Nat × Bool × Nat × Nat :=
  (s.get Fld.INT_SA_SEL_PORT, s.flag Fld.INT_SA_SEL_DIR, s.get Fld.INT_SA_SEL_SC, s.get Fld.INT_SA_SEL_AN)

/-- R89, R125: TX_HALT ends once a transmit SA is enabled, after a reset also a receive SA. -/
def State.saEnabled (s : State) (p an : Nat) (tx : Bool) : State :=
  let mode := s.get (Fld.REL_PORT_STATE_TX p)
  let rxAny := (upto 60).any (fun i => (s.saLive (128 * p + i)).isSome)
  let txAny := (upto 4).any (fun i => (s.saLive (saIndex p true 0 i)).isSome)
  let s := if tx && decide (mode ≠ 1) then s.set (Fld.REL_PORT_STATE_TX_AN p) an else s
  if (mode = 2 && tx) || (mode = 0 && rxAny && txAny) then s.set (Fld.REL_PORT_STATE_TX p) 1 else s

/-- Whether INT_SA_SEL names an association that exists. -/
def State.saExists (s : State) : Bool :=
  let (p, tx, sc, _) := s.saSelected
  decide (p < 3) && (tx || decide (sc < 15))

/-- Table 3-17: INT_SA_CMD bit 0. The SCI that a port transmits is not given by a register; the port stands for it (log
entry 25). -/
def State.saInstall (s : State) : State :=
  let (p, tx, sc, an) := s.saSelected
  let a : Sa := ⟨toLe 32 (s.wide 0x40204 8), toLe 12 (s.wide 0x40224 3), s.get Fld.INT_SA_SSCI, (if tx then p else s.get64 Fld.INT_SA_SCI),
    s.get64 Fld.INT_SA_PN, s.get Fld.INT_SA_WIN, s.flag Fld.INT_SA_SEL_XPN, true⟩
  let s := { s with sas := Tab.put s.sas (saIndex p tx sc an) a }
  s.saEnabled p an tx

/-- INT_SA_CMD bit 1 (R89): a transmit association in use gives way to the next enabled one. -/
def State.saDisable (s : State) : State :=
  let (p, tx, sc, an) := s.saSelected
  let i := saIndex p tx sc an
  match Tab.get? s.sas i with
  | none => s
  | some a =>
    let s := { s with sas := Tab.put s.sas i { a with enabled := false } }
    if tx && s.msec p && !s.txHalted p && s.get (Fld.REL_PORT_STATE_TX_AN p) == an then
      match s.txAn p with
      | some n => s.set (Fld.REL_PORT_STATE_TX_AN p) n
      | none => s.txHalt p
    else s

end Sys2Proof.Machine
end

