-- ==== Sys2Proof/Machine/Intake.lean ====
section
/-!
DEFINITION. Intake: the arrival steps of a frame, its parse and its hand-off (chapter "Intake, release and the Tap",
R19 to R21, R30, R36 to R41, R50, R54 to R59, R91 to R107, R141 to R144).
-/
namespace Sys2Proof.Machine

/-- FLAGS [5:0] of Table 3-11, without INBAND_FALLBACK. -/
def frameFlags (f : Frame) : Nat :=
  b2n f.redacted + 2 * b2n (isChunk f) + 4 * b2n (f.final && isChunk f) + 8 * b2n f.seedDefaulted + 16 * b2n f.auditGap
    + 32 * b2n f.inbandFallback

/-- SHA-256 fold: the first eight bytes. -/
def fold8 (bs : Bytes) : Bytes := (sha256 bs).take 8

/-- MODEL_FOLD (Table 10-6). -/
def modelFold (f : Frame) : Bytes :=
  let ds := (f.models.filter (fun m => m.pin.isSome)).flatMap (fun m => m.digest) ++ f.guardDigest
  if ds.isEmpty then zeros 8 else fold8 ds

/-- The content of a FRAME record (Table 10-6), with the flags that only its end decides and the count of DETAIL
records. -/
def frameRecord (f : Frame) (ringFull vskew closing replay : Bool) (details : Nat) : Bytes :=
  let flags := frameFlags f + 64 * b2n ringFull + 128 * b2n f.egressLost + 256 * b2n f.holdEcc + 512 * b2n vskew
    + 1024 * b2n closing + 2048 * b2n f.redactOver + 4096 * b2n replay
  let verdict := (f.verdict.map verdictCode).getD 4
  let g := f.guard.getD ⟨0, 0, 0, []⟩
  [1, 1, byte verdict, byte ((f.reason.map reasonCode).getD 0), byte (actionCode f.action),
    byte (f.cls + 8 * b2n (f.port == .s))] ++ toLe 2 flags ++ toLe 8 f.id ++ toLe 8 f.tArr ++ toLe 2 f.shift
    ++ toLe 2 f.epoch ++ toLe 2 f.rule ++ [byte f.done, byte f.used] ++ toLe 4 f.code ++ toLe 4 f.cset ++ toLe 8 f.seed
    ++ f.digest ++ modelFold f ++ (match f.vector with
      | some v => fold8 v
      | none => zeros 8)
    ++ toLe 4 g.req ++ [byte g.status, byte g.label, byte details, 0] ++ toLe 2 f.redactMatches ++ toLe 2 f.redactBytes
    ++ zeros 4

/-- The Strand chain that a frame's records join: the Strand field of its frame ID (Table 10-5). -/
def frameChain (f : Frame) : Nat := bits f.id 43 5

/-- Verdict and reason counters of a frame whose outcome is final (Table 1-18, Table 10-14). -/
def State.countVerdict (s : State) (f : Frame) : State :=
  let v := (f.verdict.map verdictCode).getD 4
  let s := s.count (Fld.VRD_VERDICT_CNT v)
  if v = 4 then s.count (Fld.TID_CLASS_UNSCR_CNT f.cls) else s

/-- The stream of a final chunk is no longer needed. -/
def State.closeStream (s : State) (f : Frame) : State :=
  match f.stream with
  | some k => if f.final then { s with streams := s.streams.filter (fun x => x.key != k) } else s
  | none => s

/-- R47, R54, R389, Table 1-8: a frame is discarded at arrival: its record joins its chain and a DROP event is posted. -/
def State.discardFrame (s : State) (f : Frame) (r : Reason) : State :=
  let (id, s) := s.refusalId
  let (epoch, s) := s.free 16
  let (cset, s) := s.free 32
  let f := { f with id := id, epoch := epoch, cset := cset, seed := id, verdict := some .unscreened, reason := some r,
                    action := .discard, phase := .refused
                    seedDefaulted := s.flag (Fld.TID_CLASS_CTL_SEED_SRC f.cls) }
  let s := s.countVerdict f
  let s := s.append (frameChain f) (frameRecord f false false false false 0)
  (s.event 0x0010 f.cls (words2 id ++ [reasonCode r])).closeStream f

/-- A refused frame that keeps its reservation (steps 7 and 8): refusal ID, cause; no chunk carry passes it (R142). -/
def State.refuseFrame (s : State) (f : Frame) (r : Reason) : State :=
  let (id, s) := s.refusalId
  let (epoch, s) := s.free 16
  let (cset, s) := s.free 32
  let f := { f with id := id, epoch := epoch, cset := cset, seed := id, phase := .refused, strand := none, beatsToGrant := 0,
                    causes := [r], seedDefaulted := s.flag (Fld.TID_CLASS_CTL_SEED_SRC f.cls) }
  let s := match f.stream with
    | some k => s.modStream k (fun x => { x with tail := [], carry := [] })
    | none => s
  { s with frames := s.frames.filter (fun g => g.key != f.key) ++ [f] }

/-- Steps 4 and R105: the stream of a chunk, opened where none of its identity is open. -/
def State.openStream (s : State) (c : Nat) (ident : Bytes) (final : Bool) (tArr : Nat) : Option Nat × State :=
  match s.streams.find? (fun x => !x.closed && x.cls == c && x.ident == ident) with
  | some x => (some x.key, s.modStream x.key (fun x => { x with last := tArr, chunks := x.chunks + 1, closed := final }))
  | none =>
    if 65536 ≤ (s.streams.filter (fun x => !x.closed)).length then (none, s.count Fld.INT_STREAM_FULL_CNT)
    else
      let k := s.nextFrame
      (some k, { s with nextFrame := k + 1
                        streams := s.streams ++ [(⟨k, final, c, ident, tArr, 1, 0, 0, 0, [], [], false, [], []⟩ : Stream)] })

/-- R30, R36, R56: the window of a frame in ticks. -/
def State.windowTicks (s : State) (c : Nat) (valid chunk final : Bool) : Nat :=
  let us :=
    if !valid then
      let w := s.get (Fld.TID_CLASS_WIN_WIN_US c)
      if 20 ≤ w ∧ w ≤ 50000 then w else 20
    else if chunk then
      (if final then s.get (Fld.TID_CLASS_CLOSE_CLOSE_US c) else s.get (Fld.TID_CLASS_CHUNK_CHUNK_US c))
    else s.get (Fld.TID_CLASS_WIN_WIN_US c)
  us * 500

/-- After the classification: arrival steps 3 to 7 for a frame without FCS, of length `length` with it, that arrived at tick
`tArr` (Table 3-4). -/
def State.arriveAs (s : State) (port : EthPort) (bs : Bytes) (length tArr c dset : Nat) (follow : Bool) : State :=
  let s := s.count (Fld.TID_CLASS_ADMIT_CNT c)
  let valid := classValid s c
  let set := s.descSet dset
  let (ident, fin) := if valid && s.flag (Fld.TID_CLASS_CTL_STREAMED c) then arrivalScan set (s.descTables set) bs
    else (none, false)
  let (stream, s) := match ident with
    | some i => s.openStream c i fin tArr
    | none => (none, s)
  let final := fin && stream.isSome
  let win := s.windowTicks c valid stream.isSome final
  let egress := opposite port
  let key := s.nextFrame
  let s := { s with nextFrame := key + 1 }
  let f := newFrame key port (if valid then bs else tagBytes bs) length ((sha256 bs).take 16)
  let f := { f with cls := c, dset := dset, follow := follow, invalidClass := !valid, stream := stream, final := final,
                    tArr := tArr, tDl := w64 (tArr + win - 300), tRel := w64 (tArr + win) }
  let cells := if valid then ceilDiv length 256 else 1
  if s.get Fld.INT_HOLD_CELLS < s.holdUsed + cells then (s.count Fld.INT_HOLD_FULL_CNT).discardFrame f .holdFull
  else
    let len := s.reserveLen egress (if valid then length else 64)
    match s.calendarShift egress f.tRel len with
    | none => (s.count Fld.REL_CAL_FULL_CNT).discardFrame f .calendarFull
    | some sh =>
      let s := if sh = 0 then s else s.count (Fld.TID_CLASS_SHIFT_CNT c)
      let tRel := w64 (f.tRel + sh)
      let f := { f with shift := sh, tRel := tRel, resLen := len, cells := cells }
      let s := { s with calendar := s.calendar ++ [(⟨egress, tRel, len, key⟩ : Reservation)] }
      match (if valid then s.selectStrand c follow stream else none) with
      | none => s.refuseFrame f .noStrand
      | some i =>
        let s := { s with lastHanded := Tab.put s.lastHanded c (i + 1) }
        let s := match stream with
          | some k => s.modStream k (fun x => { x with strand := i })
          | none => s
        { s with frames := s.frames ++ [{ f with strand := some i, beatsToGrant := ceilDiv length 64 }] }

/-- The class of an arrival, and what follows from it. -/
def State.arrive (s : State) (port : EthPort) (bs : Bytes) (length tArr : Nat) : State :=
  let k := classify s.classRules s.classDefault (portIdx port) bs (layerWalk bs)
  s.arriveAs port bs length tArr k.1 k.2.1 k.2.2

/-- Arrival steps 1 and 2, and what is no received frame (R58, R84, R86, R87, R613): a frame as it stands on the wire with
its FCS, first byte stamped at the PCS `ps` picoseconds after tick 0 of the timebase. -/
def State.receive (s : State) (port : EthPort) (ps : Nat) (wire : Bytes) : State :=
  let p := portIdx port
  if s.stopped || !s.flag (Fld.INT_PORT_CTL_LINK_UP p) || !s.flag (Fld.INT_PORT_CTL_ENABLE p) then s
  else if port = .tap then s.count (Fld.INT_PORT_CTRL_CNT p)
  else
    let n := wire.length
    let bs := wire.take (n - 4)
    if n < 64 ∨ 9216 < n ∨ le wire (n - 4) 4 ≠ crc32 bs then s.count (Fld.INT_PORT_ERR_CNT p)
    else if be bs 12 2 = 0x8808 then s.count (Fld.INT_PORT_CTRL_CNT p)
    else
      let opened := if s.msec p then s.msecOpen p bs else some (bs, s)
      match opened with
      | none => s.count (Fld.INT_PORT_MSEC_DROP_CNT p)
      | some (bare, s) =>
        let s := s.count (Fld.INT_PORT_RX_CNT p)
        if s.flag Fld.FLT_STATE_QUIESCING then s.count Fld.FLT_QUIESCE_DROP_CNT
        else if !s.served then s.count Fld.INT_PREREADY_CNT
        else s.arrive port bare (bare.length + 4) (w64 ((ps - s.get (Fld.INT_TS_DLY_RX_DLY_PS p)) / 2000))

/-- R142 to R144: the text of a chunk's slot: what this chunk's screening tokenizes, and the stream's carry and text after
it. -/
def chunkText (x : Stream) (slot : Nat) (final : Bool) (text : Bytes) : Bytes × Stream :=
  let whole := Tab.getD x.text slot [] ++ text
  let kept := whole.take 262144
  let x := { x with text := Tab.put x.text slot kept, truncated := x.truncated || decide (262144 < whole.length) }
  if final then (kept, { x with tail := Tab.del x.tail slot })
  else
    let (now, held) := splitHeld (Tab.getD x.tail slot [] ++ text)
    (now, { x with tail := Tab.put x.tail slot held })

/-- A chunk's text jobs take their carry from the stream, which takes the next one from them; slots without a field pass
an empty carry. -/
def streamTexts (x : Stream) (final : Bool) (jobs : List TextJob) : List TextJob × Stream :=
  let x := { x with tail := x.tail.filter (fun e => jobs.any (fun j => j.slot == e.1)) }
  jobs.foldl (fun acc j =>
    let (t, x) := chunkText acc.2 j.slot final j.text
    (acc.1 ++ [{ j with text := t, finished := t.isEmpty }], x)) ([], x)

/-- R377 to R379: the sentinel's matches in a frame's REDACT_SCOPE fields, with the carry of each slot, and the carries
that the frame leaves. -/
def scanScopes (f : Frame) (carry : Tab Bytes) : List SentMatch × Tab Bytes :=
  (f.fields.filter (fun x => x.role == 8)).foldl (fun acc x =>
    let bs := slice f.bytes x.off x.len
    (acc.1 ++ scanField (Tab.getD carry x.slot []) bs x.off, Tab.put acc.2 x.slot (bs.drop (bs.length - 36)))) ([], [])

/-- The work that a handed-over frame brings to the stages. -/
def State.formJobs (s : State) (i : Nat) (f : Frame) (spec : Bool) : State × Frame :=
  let jobs := s.textJobs i f
  let (jobs, s) := match f.stream.bind s.stream? with
    | some x =>
      let (js, x') := streamTexts x f.final jobs
      (js, s.modStream x.key (fun _ => x'))
    | none => (jobs, s)
  let (searches, cut) := s.keySearches i f spec
  let searches := searches.map (s.recordedKey f)
  let trunc := match f.stream.bind s.stream? with
    | some x => f.final && x.truncated
    | none => false
  let used := s.usedStages i
  let ngrams := jobs.any (fun j => !j.finished && decide (1 ≤ j.ngramN ∧ j.ngramN ≤ 4) && bit (s.keyMap i j.slot) 0)
  let guardText := jobs.any (fun j => j.guard)
  let guard : Option GuardOut :=
    if bit used 6 && !guardText then some ⟨0, 0, 0, zeros 16⟩ else none
  let f := { f with used := used, texts := jobs, searches := searches, ngramsFormed := !ngrams
                    catFlags := 2 * b2n trunc + 4 * b2n cut
                    models := (s.modelList i).map newModelJob, guard := guard }
  (s, settleStages f)

/-- R141: whether a frame's text finds room in its Strand's input queue; a closing text stands in the stream text buffer, and a replay's
in no queue (log entry 26). -/
def State.enterQueue (s : State) (i : Nat) (f : Frame) : State × Frame :=
  let n := sumBy f.texts (fun t => t.text.length)
  let behind := s.frames.any (fun g => g.strand == some i && g.key != f.key && screening g && g.kind.timed && g.texts.any (fun t => t.held))
  if n = 0 || isClosing f || !f.kind.timed || (!behind && decide (s.queueBytes i + n ≤ 65536)) then (s, f)
  else (s.count Fld.CAT_QFULL_CNT, { f with texts := f.texts.map (fun t => { t with held := true }) })

/-- R19, R50, R385: frame ID, seed, content-set serial and epoch at hand-off. A replay keeps the recorded ones (R396). -/
def State.identify (s : State) (i : Nat) (f : Frame) : State × Frame :=
  if !f.kind.timed then (s, { f with phase := .inside, handTick := s.now, beatsToGrant := 0 }) else
  let (seq, s) := s.takeSeqOf i
  let id := s.frameId i seq
  let (seed, dflt) :=
    if s.flag (Fld.TID_CLASS_CTL_SEED_SRC f.cls) then
      match f.fields.find? (fun x => x.role == 4) with
      | some x => (match x.num with
        | some n => n
        | none => (Config.seedOfBytes x.val).toNat, false)
      | none => (id, true)
    else (id, false)
  let f := { f with phase := .inside, id := id, seed := seed, seedDefaulted := dflt, cset := s.csetNow
                    epoch := (s.strand i).epoch, handTick := s.now, beatsToGrant := 0 }
  let s := match f.stream with
    | some k => s.modStream k (fun x => { x with frameId := id })
    | none => s
  (s, f)

/-- A frame put in the place of the one with its key. -/
def State.putFrame (s : State) (f : Frame) : State := s.modFrame f.key (fun _ => f)

/-- Step 9: a frame whose parse gave `fields` is handed to its Strand. -/
def State.handOver (s : State) (i : Nat) (f : Frame) (fields : List PField) : State :=
  let f := { f with fields := fields }
  let carry := ((f.stream.bind s.stream?).map (fun x => x.carry)).getD []
  let (ms, carry') := scanScopes f carry
  let s := s.countBy Fld.VRD_SENT_CNT ms.length
  let sum := ((f.stream.bind s.stream?).map (fun x => x.sentinels)).getD 0 + ms.length
  let s := match f.stream with
    | some k => s.modStream k (fun x => { x with carry := carry', sentinels := sum })
    | none => s
  let tooLong := decide (64 < ms.length)
  let s := if tooLong then s.count Fld.VRD_REDACT_OVER_CNT else s
  let f := { f with sentinels := ms, sentCount := if isClosing f then sum else ms.length, redactOver := tooLong }
  let (s, f) := s.identify i f
  let (s, f) := s.formJobs i f (!f.kind.timed)
  let (s, f) := s.enterQueue i f
  s.putFrame f

/-- The parse of a frame has been given up: every beat has been granted and none is kept (R597). -/
def State.parseGone (s : State) (f : Frame) : Bool :=
  f.phase == .parsing && f.beatsToGrant == 0 && !s.grants.any (fun g => g.frame == f.key && g.stage == .intake)

/-- Whether an earlier frame of the same Strand, or an earlier chunk of the same stream, is still being parsed. -/
def State.parseWaits (s : State) (f : Frame) : Bool :=
  s.frames.any (fun g => g.phase == .parsing && !s.parseGone g && decide (g.key < f.key) && g.kind.timed == f.kind.timed
    && (g.strand == f.strand || (g.stream.isSome && g.stream == f.stream)))

/-- The grants of a frame at a stage are over. -/
def State.dropGrants (s : State) (k : Nat) (st : Stage) : State :=
  { s with grants := s.grants.filter (fun g => !(g.frame == k && g.stage == st)) }

/-- Step 8 ends: the parse of a frame whose every beat has been granted (R92, R100 to R103). -/
def State.parseDone (s : State) (f : Frame) : State :=
  match f.strand with
  | none => s
  | some i =>
    let s := s.dropGrants f.key .intake
    let set := s.descSet f.dset
    match parseFrame set (s.descTables set) f.bytes with
    | none => if f.kind.timed then (s.count Fld.INT_PARSE_CNT).refuseFrame { f with used := 1 } .parse else s.cause f.key .parse
    | some fields => s.handOver i f fields

end Sys2Proof.Machine
end

