-- ==== Sys2Proof/Machine/Verdict.lean ====
section
/-!
DEFINITION. The Verdict combiner: the combiner vector, the policy walk, the DETAIL records of a frame (R369 to R382, R386).
-/
namespace Sys2Proof.Machine

/-- Searches of a slot, in key order. -/
def slotSearches (f : Frame) (slot : Nat) : List Search :=
  sortBy (fun a b => decide (a.ord < b.ord)) (f.searches.filter (fun x => x.slot == slot))

/-- The hits of an n-gram slot in key order. -/
def slotHits (f : Frame) (slot : Nat) : List (Search × Lookup) :=
  (slotSearches f slot).filterMap (fun x => match x.result with
    | some l => if l.hit then some (x, l) else none
    | none => none)

/-- The 128 bits of a slot in the combiner vector (Table 10-1). -/
def slotResult (f : Frame) (slot : Nat) : Nat :=
  match slotSearches f slot with
  | [] => 0
  | x :: _ =>
    if x.ngram then
      let hits := slotHits f slot
      ((hits.head?).map (fun h => Lookup.toNat h.2)).getD 0 + 2 ^ 112 * min hits.length 65535
    else (x.result.map Lookup.toNat).getD 0

/-- Outputs of the model at a list position, 16 words (Table 10-1). -/
def modelOuts (f : Frame) (pos : Nat) : List Nat :=
  let outs := ((f.models.find? (fun m => m.pos == pos)).map (fun m => m.outs)).getD []
  (upto 16).map (fun o => ((outs.getD o none)).getD 0x7FC00000)

/-- The combiner vector (R372). -/
def combinerVector (f : Frame) : Bytes :=
  let models := (upto 4).flatMap (fun p => (modelOuts f p).flatMap (toLe 4))
  let feats := (upto 16).flatMap (fun i => toLe 4 (((f.gather.map (fun g => g.feats)).getD []).getD i 0))
  let gflags := toLe 4 ((f.gather.map (fun g => g.flags)).getD 0)
  let guard := padTo 16 ((f.guard.map (fun g => g.bytes)).getD [])
  let slots := (upto 64).flatMap (fun sl => toLe 16 (slotResult f sl))
  models ++ feats ++ gflags ++ guard ++ slots ++ toLe 4 f.sentCount ++ toLe 4 f.catFlags ++ zeros 4

/-- The frame descriptor flags of Table 10-4. -/
def descriptorFlags (f : Frame) : Nat :=
  b2n (isChunk f) + 2 * b2n (f.final && isChunk f) + 4 * b2n (isClosing f) + 8 * b2n (f.port == .s)

/-- The value of a condition's source: FP32 or unsigned, or absent (Table 10-4). -/
def condValue (f : Frame) (v : Bytes) (c : Nat) : Option Nat :=
  let sel := bits c 4 12
  match bits c 0 4 with
  | 0 => if f.models.any (fun m => m.pos == bits sel 0 2) then some (le v (64 * bits sel 0 2 + 4 * bits sel 2 4) 4) else none
  | 1 =>
    let slot := bits sel 0 6
    if (slotSearches f slot).isEmpty then none
    else
      let r := le v (340 + 16 * slot) 16
      some (match bits sel 6 3 with
        | 0 => bits r 0 1
        | 1 => bits r 1 1
        | 2 => bits r 2 3
        | 3 => bits r 5 1
        | 4 => bits r 32 9
        | 5 => bits r 48 32
        | _ => bits r 112 16)
  | 2 => if usesStage f .gather then some (le v (256 + 4 * bits sel 0 5) 4) else none
  | 3 =>
    let g := le v 324 16
    if bits g 0 8 = 0 then none else some (if sel = 0 then bits g 8 8 else bits g 0 8)
  | 4 => some f.catFlags
  | 5 => some f.sentCount
  | 6 => (fieldAt f (bits sel 0 6)).map (fun x => match x.num with
      | some n => n
      | none => (Config.fieldNumber x.val).toNat)
  | 7 => some (descriptorFlags f)
  | _ => none

/-- A comparison of unsigned integers (Table 10-3). -/
def cmpNat (cmp a b : Nat) : Bool :=
  match cmp with
  | 0 => decide (a < b)
  | 1 => decide (a ≤ b)
  | 2 => a == b
  | 3 => a != b
  | 4 => decide (b ≤ a)
  | 5 => decide (b < a)
  | 6 => (a &&& b) != 0
  | _ => false

/-- A comparison in FP32: a NaN makes every one false (R375). -/
def cmpF32 (cmp a b : Nat) : Bool :=
  if isNan32 a || isNan32 b then false
  else match cmp with
    | 0 => fLt a b
    | 1 => fLe a b
    | 2 => fEq a b
    | 3 => !fEq a b
    | 4 => fLe b a
    | 5 => fLt b a
    | 6 => (a &&& b) != 0
    | _ => false

/-- Whether a condition holds (R375). -/
def condHolds (f : Frame) (v : Bytes) (c : Nat) : Bool :=
  match condValue f v c with
  | none => bit c 19
  | some x => if bits c 0 4 = 0 then cmpF32 (bits c 16 3) x (bits c 32 32) else cmpNat (bits c 16 3) x (bits c 32 32)

/-- Whether a rule decides: VALID and every one of its NCOND conditions true (R374). -/
def ruleDecides (f : Frame) (v : Bytes) (r : Nat) : Bool :=
  bit r 0 && (upto (bits r 4 2)).all (fun k => condHolds f v (bits r (64 + 64 * k) 64))

/-- Rule `r` of a Strand's policy (Table 10-2). -/
def State.policyRule (s : State) (i r : Nat) : Nat := s.wide (0xC4000 + 0x1000 * i + 32 * r) 8

/-- R374, R382: verdict, rule, code and redaction source that a Strand's policy gives. -/
def State.policyVerdict (s : State) (i : Nat) (f : Frame) (v : Bytes) : Verdict × Nat × Nat × Nat :=
  let n := s.get (Fld.VRD_STRAND_POLICY_RULES i)
  let capped := fun (x : Verdict) => if x = .redact && f.redactOver then Verdict.block else x
  match (upto n).find? (fun r => ruleDecides f v (s.policyRule i r)) with
  | some r =>
    let w := s.policyRule i r
    (capped (verdictOf (bits w 1 3)), r, bits w 32 32, bits w 6 2)
  | none => (capped (verdictOf (s.get (Fld.VRD_STRAND_POLICY_DEFAULT_VERDICT i))), 0xFFFF, s.get (Fld.VRD_STRAND_DEFCODE i), 0)

/-- R369: whether the combiner may take a frame: every stage that it uses but the combiner itself has delivered. -/
def readyToCombine (f : Frame) : Bool :=
  screening f && !f.combineGranted && f.verdict.isNone && (f.used &&& f.done &&& 127) == (f.used &&& 127)

/-- R370: the outcome of a frame's evaluation. -/
def State.evaluate (s : State) (i : Nat) (f : Frame) : Frame :=
  let v := combinerVector f
  let (vd, rule, code, src) := s.policyVerdict i f v
  settleStages { f with vector := some v, verdict := some vd, rule := rule, code := code, redactSrc := src, commitTick := s.now }

/-- A DETAIL entry (Table 10-9) of the kinds LOOKUP, NGRAM and NGRAM_HIT. -/
def lookupEntry (kind : Nat) (x : Search) (ord : Nat) (l : Lookup) : Bytes :=
  [byte kind, byte x.table, byte x.slot, byte ord] ++ toLe 4 l.tableVer ++ toLe 4 l.ever ++ toLe 2 l.index
    ++ [byte (b2n l.hit + 2 * b2n l.staleSeen + 4 * l.outcome + 32 * b2n l.conflict), byte l.code]

/-- The NGRAM entry of a slot: the versions at the first and the last search, the hit count. Its bytes 3, 14 and 15, which no
field names for it, are filled by `gramEntries` (log entry 27). -/
def ngramEntry (xs : List Search) (hits : Nat) : Bytes :=
  let vers := xs.filterMap (fun x => x.result.map (fun l => l.tableVer))
  let x := xs.headD ⟨0, 0, 0, true, 0, 0, none, false, .done, none⟩
  [2, byte x.table, byte x.slot, 0] ++ toLe 4 (vers.headD 0) ++ toLe 4 ((vers.getLast?).getD 0) ++ toLe 2 hits ++ [0, 0]

/-- DETAIL entries of a slot (R386). -/
def State.slotDetails (s : State) (f : Frame) (slot : Nat) : List Bytes :=
  let xs := slotSearches f slot
  let old := fun (x : Search) => match x.result with
    | some l => l.tableVer != s.versionAt 1 x.table f.cset
    | none => false
  match xs with
  | [] => []
  | x :: _ =>
    if x.ngram then
      if xs.any old then
        let hits := slotHits f slot
        ngramEntry xs hits.length :: ((List.zip (hits.take 16) (upto 16)).map (fun h => lookupEntry 3 h.1.1 h.2 h.1.2))
      else []
    else match x.result with
      | some l => if s.flag (Fld.VIT_TABLE_CFG_LEARN x.table) || old x then [lookupEntry 1 x 0 l] else []
      | none => []

/-- What a frame pinned beside tables: DETAIL kind, index, version (R386). -/
def framePins (f : Frame) : List (Nat × Nat × Nat) :=
  let vocs := (f.texts.filterMap (fun t => t.pin.map (fun v => (4, t.vocab, v)))) ++ f.guardPins.filter (fun p => p.1 == 4)
  let models := (f.models.filterMap (fun m => m.pin.map (fun v => (5, m.model, v)))) ++ f.guardPins.filter (fun p => p.1 == 5)
  let graphs := match f.gather with
    | some g => [(6, g.graph, g.version)]
    | none => []
  (vocs ++ models ++ graphs ++ f.guardPins.filter (fun p => p.1 == 7)).eraseDups

/-- Content kind code (Table 10-8) of a DETAIL kind. -/
def detailKind (k : Nat) : Nat := k - 2

/-- The pins that differ from the version current at CSET (R386). -/
def State.skewPins (s : State) (f : Frame) : List (Nat × Nat × Nat) :=
  (framePins f).filter (fun p => p.2.2 != s.versionAt (detailKind p.1) p.2.1 f.cset)

/-- The DETAIL entries of pinned content; the bytes that no field names for them are free (log entry 3). -/
def State.pinEntries (s : State) : List (Nat × Nat × Nat) → List Bytes × State
  | [] => ([], s)
  | p :: ps =>
    let (a, s) := s.freeBytes 2
    let (b, s) := s.freeBytes 8
    let (rest, s) := s.pinEntries ps
    (([byte p.1, byte p.2.1] ++ a ++ toLe 4 p.2.2 ++ b) :: rest, s)

/-- The bytes of NGRAM entries that no field names for them are free (log entry 27). -/
def State.gramEntries (s : State) : List Bytes → List Bytes × State
  | [] => ([], s)
  | e :: es =>
    if byteAt e 0 = 2 then
      let (a, s) := s.freeBytes 1
      let (b, s) := s.freeBytes 2
      let (rest, s) := s.gramEntries es
      ((e.take 3 ++ a ++ (e.drop 4).take 10 ++ b) :: rest, s)
    else
      let (rest, s) := s.gramEntries es
      (e :: rest, s)

/-- DETAIL records over the entries: PART from 1, five entries each (Table 10-9). -/
def detailRecords (id : Nat) (es : List Bytes) : List Bytes :=
  let parts := chunks 5 es
  (List.zip parts (upto parts.length)).map (fun p =>
    [2, 1, byte (p.2 + 1), byte p.1.length] ++ zeros 4 ++ toLe 8 id ++ p.1.flatten)

/-- R386: a frame's DETAIL records; whether version entries follow (VSKEW). -/
def State.details (s : State) (f : Frame) : List Bytes × Bool × State :=
  let (es, s) := s.gramEntries ((upto 64).flatMap (fun sl => s.slotDetails f sl))
  let skew := s.skewPins f
  let (ps, s) := s.pinEntries skew
  (detailRecords f.id (es ++ ps), !skew.isEmpty, s)

end Sys2Proof.Machine
end

