-- ==== Sys2Proof/Machine/SrvOps.lean ====
section
/-!
DEFINITION. What guard serving works with: request slots, KV blocks, the prefix table, the Archive tier (R284 to R302,
R358 to R366).
-/
namespace Sys2Proof.Machine

/-- A Cove. -/
def State.cove (s : State) (c : Nat) : Cove := Tab.getD s.srv.coves c Cove.reset

/-- A Cove changed. -/
def State.modCove (s : State) (c : Nat) (f : Cove → Cove) : State :=
  { s with srv := { s.srv with coves := Tab.putD Cove.reset s.srv.coves c (f (s.cove c)) } }

/-- The request of a slot. -/
def State.request? (s : State) (slot : Nat) : Option Request := s.srv.requests.find? (fun r => r.slot == slot)

/-- A request changed. -/
def State.modRequest (s : State) (slot : Nat) (f : Request → Request) : State :=
  { s with srv := { s.srv with requests := mapWhere s.srv.requests (fun r => r.slot == slot) f } }

/-- A request ID (R284). -/
def requestId (r : Request) : Nat := r.slot + 8192 * r.gen

/-- Requests of a Cove, in slot order. -/
def State.coveRequests (s : State) (c : Nat) : List Request :=
  sortBy (fun a b => decide (a.slot < b.slot)) (s.srv.requests.filter (fun r => r.cove == c))

/-- P of a request. -/
def promptLen (r : Request) : Nat := r.prompt.length

/-- Committed length Lc of a request (R328). -/
def committedLen (r : Request) : Nat := r.prefilled + r.toks.length

/-- The request is past its prefill (R308). -/
def inDecode (r : Request) : Bool := !r.toks.isEmpty

/-- GUARD_PARAMS of a container (Table 8-1). -/
def guardParams (c : Bytes) : Bytes := (sectOf c 7).getD []

/-- KV bytes of a block (R290). -/
def kvBytesPerBlock (g : Bytes) : Nat :=
  64 * le g 4 2 * 2 * le g 6 2 * le g 8 2 * (if byteAt g 10 = 4 then 2 else 1)

/-- Blocks of a Cove in no state but FREE (R297). -/
def State.freeBlocks (s : State) (c : Nat) : Nat := s.get (Fld.SRV_COVE_BLOCKS c) - (s.cove c).blocks.length

/-- Free plus reclaimable blocks. -/
def State.roomBlocks (s : State) (c : Nat) : Nat := s.freeBlocks c + (s.cove c).reclaim.length

/-- A block newly taken by a request. -/
def KvBlock.fresh : KvBlock := ⟨1, false, false, [], []⟩

/-- R297: `n` blocks taken from the free list, then from the head of the reclaim list. The order of the free list is the
device's own; the model takes the lowest index. -/
def allocBlocks (total n : Nat) (c : Cove) : Option (List Nat × Cove) :=
  let free := ((upto (min total (n + c.blocks.length))).filter (fun i => (Tab.get? c.blocks i).isNone)).take n
  let more := c.reclaim.take (n - free.length)
  if free.length + more.length < n then none
  else
    let bs := free ++ more
    some (bs, { c with blocks := bs.foldl (fun t b => Tab.put t b KvBlock.fresh) c.blocks
                       reclaim := c.reclaim.drop more.length
                       prefixes := c.prefixes.filter (fun b => !more.contains b) })

/-- R297, R318, R323: one request gives up a block. -/
def releaseBlock (c : Cove) (b : Nat) : Cove :=
  match Tab.get? c.blocks b with
  | none => c
  | some k =>
    let k := { k with refs := k.refs - 1 }
    if k.bad || k.refs ≠ 0 then { c with blocks := Tab.put c.blocks b k }
    else if c.prefixes.contains b then { c with blocks := Tab.put c.blocks b k, reclaim := c.reclaim ++ [b] }
    else { c with blocks := Tab.del c.blocks b }

/-- The chained hashes of a prompt's whole blocks with their tokens, at most `n` (R294). -/
def chainHashes : Nat → Bytes → List Nat → List (Bytes × List Nat)
  | 0, _, _ => []
  | n + 1, h, toks =>
    let b := toks.take 64
    if b.length < 64 then []
    else
      let h' := (sha256 (h ++ b.flatMap (toLe 4))).take 16
      (h', b) :: chainHashes n h' (toks.drop 64)

/-- The block of the prefix table under a hash. -/
def prefixBlock (c : Cove) (h : Bytes) : Option (Nat × KvBlock) :=
  (c.prefixes.filterMap (fun b => (Tab.get? c.blocks b).map (fun k => (b, k)))).find? (fun e => e.2.hash == h)

/-- R295: the leading blocks found in the prefix table, and whether one with other tokens stopped the lookup. -/
def matchPrefix (c : Cove) : List (Bytes × List Nat) → List Nat × Bool
  | [] => ([], false)
  | (h, toks) :: t =>
    match prefixBlock c h with
    | none => ([], false)
    | some (b, k) =>
      if k.tokens == toks then
        let (bs, x) := matchPrefix c t
        (b :: bs, x)
      else ([], true)

/-- References taken on matched blocks; a hit removes a block from the reclaim list (R297). -/
def holdBlocks (c : Cove) (bs : List Nat) : Cove :=
  { c with blocks := bs.foldl (fun t b => match Tab.get? t b with
             | some k => Tab.put t b { k with refs := k.refs + 1 }
             | none => t) c.blocks
           reclaim := c.reclaim.filter (fun b => !bs.contains b) }

/-- R296: a block sealed with its hash and tokens; it enters the prefix table unless its hash is there or the table is
full. -/
def sealBlock (size : Nat) (c : Cove) (b : Nat) (h : Bytes) (toks : List Nat) : Cove :=
  match Tab.get? c.blocks b with
  | none => c
  | some k =>
    if k.bad then c
    else
      let enters := (prefixBlock c h).isNone && decide (c.prefixes.length < size)
      { c with blocks := Tab.put c.blocks b { k with sealed := true, hash := h, tokens := toks }
               prefixes := if enters then c.prefixes ++ [b] else c.prefixes }

/-- The digest of a request's pinned model. -/
def State.requestDigest (s : State) (r : Request) : Bytes :=
  ((s.resident .model r.model r.modelVer).map (fun x => x.digest)).getD []

/-- Bytes of an Archive entry of `n` blocks on a Cove (Table 9-5). -/
def State.archiveSize (s : State) (c n : Nat) : Nat := 64 + 8 * n + n * s.get (Fld.SRV_COVE_BLOCK_KIB c) * 1024

/-- Bytes of the Archive tier in use. -/
def State.archiveUsed (s : State) : Nat := sumBy (s.srv.archive.filter (fun e => !e.remote)) (fun e => e.size)

/-- Whether the local Archive tier has room for `n` bytes. -/
def State.archiveRoom (s : State) (n : Nat) : Bool := decide (s.archiveUsed + n ≤ s.get Fld.SRV_ARCH_SIZE * 2 ^ 20)

/-- An Archive entry. -/
def State.entry? (s : State) (k : Nat) : Option ArchEntry := s.srv.archive.find? (fun e => e.key == k)

/-- An Archive entry changed. -/
def State.modEntry (s : State) (k : Nat) (f : ArchEntry → ArchEntry) : State :=
  { s with srv := { s.srv with archive := mapWhere s.srv.archive (fun e => e.key == k) f } }

/-- An Archive entry deleted. -/
def State.dropEntry (s : State) (k : Nat) : State :=
  { s with srv := { s.srv with archive := s.srv.archive.filter (fun e => e.key != k) } }

/-- The entry that a request's cache stands in. -/
def entryOf (r : Request) : Option Nat :=
  match r.place with
  | .hbm => none
  | .moving k => some k
  | .archived k => some k
  | .reading k _ => some k

/-- The request of an entry of this device. -/
def State.entryRequest (s : State) (k : Nat) : Option Request := s.srv.requests.find? (fun r => entryOf r == some k)

/-- R360, R364 to R366: a request ends with a status at its Cove's next commit point. -/
def State.doomRequest (s : State) (slot status : Nat) : State :=
  s.modRequest slot (fun r => if r.doom.isSome || r.state = .ended then r else { r with doom := some status })

/-- Private blocks of a request given up. -/
def State.freePrivate (s : State) (slot : Nat) : State :=
  match s.request? slot with
  | none => s
  | some r => (s.modCove r.cove (fun c => r.priv.foldl releaseBlock c)).modRequest slot (fun r => { r with priv := [] })

/-- R366: the entries with bytes on a retired DDR5 channel are lost, and their requests end FAULT. Which entries those
are is open (a free value for each; log entry 30). -/
def State.loseEntries (s : State) : List ArchEntry → State
  | [] => s
  | e :: es =>
    let (x, s) := s.free 1
    if e.remote || x = 0 then s.loseEntries es
    else
      let s := match s.entryRequest e.key with
        | some r => s.doomRequest r.slot 8
        | none => s
      (s.dropEntry e.key).loseEntries es

/-- What the bytes of an Archive entry are (Table 9-5), for a request of this device; blocks by R292 (log entry 28). -/
def State.entryBytes (s : State) (e : ArchEntry) (r : Request) : Bytes :=
  let toks := r.prompt ++ r.toks
  let blk := fun (j : Nat) =>
    (upto (s.get (Fld.SRV_COVE_BLOCK_KIB e.cove) * 1024)).map (fun i => Config.kvByte ⟨s.requestDigest r, toks.take (64 * (j + 1))⟩ i)
  let list := e.blocks.flatMap (fun j => toLe 4 (crc32c (blk j)) ++ [byte j, 0, 0, 0])
  let head := toLe 4 0x56435241 ++ toLe 4 e.reqId ++ toLe 8 e.frameId ++ padTo 16 e.digest16 ++ toLe 4 e.lc
    ++ toLe 2 e.blocks.length ++ [byte e.cove, byte (b2n e.remote)] ++ toLe 8 (e.expire.getD 0) ++ zeros 12
  head ++ toLe 4 (crc32c (head ++ list)) ++ list ++ e.blocks.flatMap blk

end Sys2Proof.Machine
end

