-- ==== Sys2Proof/Machine/Vocab.lean ====
section
/-!
DEFINITION. Vocabularies (Tables 4-1 to 4-4), tokenization (R126 to R134, R139, R140), n-gram keys (R138), grammar
automata (Tables 4-6 to 4-8, R148 to R151) and the checks of a load (R128, R150). Content stays as its raw bytes.
-/
namespace Sys2Proof

/-- TOKENS of a vocabulary. -/
def vocTokens (v : Bytes) : Nat := le v 4 4
/-- EOS_ID. -/
def vocEos (v : Bytes) : Nat := bits (le v 8 4) 0 18
/-- MERGE_LOG2. -/
def vocMergeLog2 (v : Bytes) : Nat := bits (le v 12 4) 0 5
/-- MERGES. -/
def vocMerges (v : Bytes) : Nat := le v 16 4
/-- MAX_PIECE. -/
def vocMaxPiece (v : Bytes) : Nat := le v 46 2
/-- RANGES. -/
def vocRanges (v : Bytes) : Nat := le v 44 2
/-- SPLIT. -/
def vocSplit (v : Bytes) : Nat := le v 48 8
/-- Entry `t` of the token table (Table 4-2). -/
def vocToken (v : Bytes) (t : Nat) : Nat := le v (le v 20 4 + 8 * t) 8
/-- The bytes of token `t`. -/
def tokenString (v : Bytes) (t : Nat) : Bytes :=
  slice v (le v 32 4 + bits (vocToken v t) 0 24) (bits (vocToken v t) 24 8)
/-- SPECIAL of token `t`. -/
def tokenSpecial (v : Bytes) (t : Nat) : Bool := bit (vocToken v t) 32
/-- BYTE of token `t`. -/
def tokenByte (v : Bytes) (t : Nat) : Bool := bit (vocToken v t) 33
/-- The byte-table token of a byte value. -/
def byteToken (v : Bytes) (b : Nat) : Nat := bits (le v (le v 24 4 + 4 * b) 4) 0 18
/-- Record `i` of the merge table (Table 4-3). -/
def mergeRec (v : Bytes) (i : Nat) : Nat := le v (le v 28 4 + 8 * i) 8
/-- Code-point class range `i` (Table 4-4). -/
def vocRange (v : Bytes) (i : Nat) : Nat := le v (le v 40 4 + 8 * i) 8
/-- Byte class of a byte value. -/
def byteClass (v : Bytes) (b : Nat) : Nat := byteAt v (le v 56 4 + b)

/-- Home index of a pair in the merge table (R127). -/
def mergeHome (v : Bytes) (a b : Nat) : Nat :=
  (((a <<< 18) ||| b) * 0x9E3779B97F4A7C15 % 2 ^ 64) >>> (64 - vocMergeLog2 v)

/-- Up to `n` probes for a pair from index `i` (R127). -/
def probeMerge (v : Bytes) (a b : Nat) : Nat → Nat → Option Nat
  | 0, _ => none
  | n + 1, i =>
    let e := mergeRec v (i % 2 ^ vocMergeLog2 v)
    if !bit e 63 then none
    else if bits e 0 18 = a ∧ bits e 18 18 = b then some (bits e 36 18)
    else probeMerge v a b n (i + 1)

/-- The merge of a pair: its RESULT, which is its rank (R126, R127); at most 16 probes (R128). -/
def mergeOf (v : Bytes) (a b : Nat) : Option Nat := probeMerge v a b 16 (mergeHome v a b)

/-- The lowest rank among adjacent pairs. -/
def bestMerge (v : Bytes) : List Nat → Option Nat
  | a :: b :: t =>
    match mergeOf v a b, bestMerge v (b :: t) with
    | some r, some r' => some (min r r')
    | some r, none => some r
    | none, x => x
  | _ => none

/-- One round: every non-overlapping occurrence of the pair with rank `r`, left to right (R133); `n` bounds the
length. -/
def mergeRound (v : Bytes) (r : Nat) : Nat → List Nat → List Nat
  | n + 1, a :: b :: t =>
    if mergeOf v a b = some r then r :: mergeRound v r n t else a :: mergeRound v r n (b :: t)
  | _, l => l

/-- Rounds until no pair merges: the tokens and the rounds taken (R133). -/
def mergeAll (v : Bytes) : Nat → List Nat → Nat → List Nat × Nat
  | 0, sym, rounds => (sym, rounds)
  | n + 1, sym, rounds => match bestMerge v sym with
    | none => (sym, rounds)
    | some r => mergeAll v n (mergeRound v r sym.length sym) (rounds + 1)

/-- CLASS of a code point, 7 where no range holds it (R131). -/
def cpClass (v : Bytes) (cp : Nat) : Nat :=
  match (upto (vocRanges v)).find? (fun i =>
      decide (bits (vocRange v i) 0 21 ≤ cp ∧ cp ≤ bits (vocRange v i) 21 21)) with
  | some i => bits (vocRange v i) 42 3
  | none => 7

/-- A unit of text: a code point's bytes and class, or one ill-formed byte. -/
structure TextUnit where
  bytes : Bytes
  cls : Nat
  good : Bool
  deriving DecidableEq, Repr

/-- The units of a text (R129). -/
def textUnits (v : Bytes) : Nat → Bytes → List TextUnit
  | 0, _ => []
  | n + 1, bs =>
    if bs.isEmpty then []
    else match utf8Len bs with
      | 0 => ⟨bs.take 1, 0, false⟩ :: textUnits v n (bs.drop 1)
      | k => ⟨bs.take k, cpClass v (codePoint (bs.take k)), true⟩ :: textUnits v n (bs.drop k)

/-- A piece: its bytes, and whether it is well formed. -/
structure Piece where
  bytes : Bytes
  good : Bool
  deriving DecidableEq, Repr

/-- Pieces, newest first, under construction: `cls` is the class of the last code point of the newest piece. -/
def pieceStep (v : Bytes) (acc : List Piece × Nat) (u : TextUnit) : List Piece × Nat :=
  match acc.1 with
  | [] => ([⟨u.bytes, u.good⟩], u.cls)
  | p :: ps =>
    let cut := !u.good || !p.good || bit (vocSplit v) (8 * acc.2 + u.cls)
      || decide (vocMaxPiece v < p.bytes.length + u.bytes.length)
    if cut then (⟨u.bytes, u.good⟩ :: p :: ps, u.cls) else (⟨p.bytes ++ u.bytes, true⟩ :: ps, u.cls)

/-- Pre-segmentation (R129 to R132). -/
def pieces (v : Bytes) (text : Bytes) : List Piece :=
  ((textUnits v text.length text).foldl (pieceStep v) ([], 0)).1.reverse

/-- The tokens of a piece and its merge rounds (R130, R133). -/
def pieceTokens (v : Bytes) (p : Piece) : List Nat × Nat :=
  let sym := p.bytes.map (fun b => byteToken v b.toNat)
  if p.good then mergeAll v sym.length sym 0 else (sym, 0)

/-- What a tokenized field yields. -/
structure Tokenized where
  tokens : List Nat
  units : Nat
  /-- Ill-formed bytes (CAT_FALLBACK_CNT). -/
  fallback : Nat
  deriving DecidableEq, Repr

/-- Cost of a part: bytes and rounds (R139). -/
def partUnits (b m : Nat) : Nat := max (ceilDiv b 64) (ceilDiv m 64)

/-- Units of a list of pieces cut under R140: `pos` bytes precede the first piece, the current part holds `b` bytes and
`m` rounds and ends at the first boundary at or after `limit`. -/
def fieldUnits : List (Nat × Nat) → Nat → Nat → Nat → Nat → Nat
  | [], _, b, m, _ => partUnits b m
  | (len, rounds) :: t, pos, b, m, limit =>
    if limit ≤ pos then partUnits b m + fieldUnits t (pos + len) len rounds ((pos / 512 + 1) * 512)
    else fieldUnits t (pos + len) (b + len) (m + rounds) limit

/-- Tokenization of a field (R133, R139, R140). -/
def tokenize (v : Bytes) (text : Bytes) : Tokenized :=
  let ps := pieces v text
  let ts := ps.map (pieceTokens v)
  ⟨ts.flatMap (·.1), fieldUnits (List.zipWith (fun p t => (p.bytes.length, t.2)) ps ts) 0 0 0 512,
   (ps.filter (fun p => !p.good)).length⟩

/-- The n-gram key of Table 4-5. -/
def ngramKey (toks : List Nat) (n voc slot : Nat) : Nat :=
  toks.getD 0 0 + (if 2 ≤ n then toks.getD 1 0 * 2 ^ 18 else 0) + (if 3 ≤ n then toks.getD 2 0 * 2 ^ 36 else 0)
    + (if 4 ≤ n then toks.getD 3 0 * 2 ^ 54 else 0) + voc * 2 ^ 72 + (n - 1) * 2 ^ 76 + slot * 2 ^ 78

/-- The keys of a field, at most `limit`, and whether it stopped early (R138). -/
def ngramKeys (toks : List Nat) (n voc slot limit : Nat) : List Nat × Bool :=
  if n = 0 ∨ 4 < n ∨ toks.length < n then ([], false)
  else
    let count := toks.length - n + 1
    ((upto (min count limit)).map (fun i => ngramKey (toks.drop i) n voc slot), decide (limit < count))

/-- A table of `n` entries of `size` bytes at `off` lies inside `len` bytes. -/
def inside (off n size len : Nat) : Bool := decide (off + n * size ≤ len)

/-- Every valid merge record within 16 probes of its home, its tokens in range, none SPECIAL, its RESULT not BYTE and
spelled by its halves (R128). -/
def mergeRecOk (v : Bytes) (i : Nat) : Bool :=
  let e := mergeRec v i
  let a := bits e 0 18
  let b := bits e 18 18
  let r := bits e 36 18
  !bit e 63 ||
    (mergeOf v a b == some r && decide (a < vocTokens v ∧ b < vocTokens v ∧ r < vocTokens v)
      && !tokenByte v r && !tokenSpecial v a && !tokenSpecial v b && !tokenSpecial v r
      && tokenString v r == tokenString v a ++ tokenString v b)

/-- RESULT values of the valid merge records. -/
def mergeResults (v : Bytes) : List Nat :=
  (upto (2 ^ vocMergeLog2 v)).filterMap (fun i =>
    let e := mergeRec v i
    if bit e 63 then some (bits e 36 18) else none)

/-- The fields of the header lie in their ranges and the tables inside the vocabulary (R128, first bullet). -/
def vocHeaderOk (v : Bytes) : Bool :=
  let t := vocTokens v
  decide (64 ≤ v.length) && le v 0 4 == 0x56544143 && decide (257 ≤ t ∧ t ≤ 262144)
    && bits (le v 8 4) 18 14 == 0 && bits (le v 12 4) 5 27 == 0
    && decide (9 ≤ vocMergeLog2 v ∧ vocMergeLog2 v ≤ 20) && decide (vocMerges v ≤ t - 256)
    && decide (vocRanges v ≤ 4096) && decide (16 ≤ vocMaxPiece v ∧ vocMaxPiece v ≤ 256) && le v 60 4 == 0
    && inside (le v 20 4) t 8 v.length && inside (le v 24 4) 256 4 v.length
    && inside (le v 28 4) (2 ^ vocMergeLog2 v) 8 v.length && inside (le v 32 4) (le v 36 4) 1 v.length
    && inside (le v 40 4) (vocRanges v) 8 v.length && inside (le v 56 4) 256 1 v.length

/-- The checks of a vocabulary load (R128). -/
def vocabOk (v : Bytes) : Bool :=
  vocHeaderOk v &&
  (let t := vocTokens v
   let recs := upto (2 ^ vocMergeLog2 v)
   let results := mergeResults v
   (upto t).all (fun k => decide (bits (vocToken v k) 0 24 + bits (vocToken v k) 24 8 ≤ le v 36 4))
    && decide (2 * vocMerges v ≤ 2 ^ vocMergeLog2 v) && results.length == vocMerges v
    && decide (vocEos v < t) && recs.all (mergeRecOk v) && decide results.Nodup
    && (upto 256).all (fun b =>
        let k := byteToken v b
        decide (k < t) && tokenByte v k && tokenString v k == [byte b])
    && decide ((upto 256).map (byteToken v)).Nodup
    && (upto 256).all (fun b => decide (byteClass v b ≤ 15))
    && (upto (vocRanges v)).all (fun i =>
        decide (bits (vocRange v i) 0 21 ≤ bits (vocRange v i) 21 21 ∧ bits (vocRange v i) 21 21 ≤ 0x10FFFF)
        && (i == 0 || decide (bits (vocRange v (i - 1)) 21 21 < bits (vocRange v i) 0 21))))

/-- A token's signature: its byte classes as a set, empty for a SPECIAL token. -/
def signature (v : Bytes) (t : Nat) : Nat :=
  if tokenSpecial v t then 0
  else (tokenString v t).foldl (fun acc b => acc ||| 2 ^ byteClass v b.toNat) 0

/-- STATES of an automaton. -/
def autStates (a : Bytes) : Nat := le a 8 4
/-- EDGES. -/
def autEdges (a : Bytes) : Nat := le a 12 4
/-- START. -/
def autStart (a : Bytes) : Nat := le a 16 2
/-- VOCAB. -/
def autVocab (a : Bytes) : Nat := byteAt a 18 % 16
/-- VOCAB_VER. -/
def autVocabVer (a : Bytes) : Nat := le a 4 4
/-- State record (Table 4-7). -/
def autState (a : Bytes) (q : Nat) : Nat := le a (le a 20 4 + 16 * q) 16
/-- Edge record (Table 4-8). -/
def autEdge (a : Bytes) (i : Nat) : Nat := le a (le a 24 4 + 8 * i) 8

/-- The edge of state `q` on token `t`: its NEXT. -/
def edgeOn (a : Bytes) (q t : Nat) : Option Nat :=
  let st := autState a q
  match (upto (bits st 16 16)).find? (fun i => bits (autEdge a (bits st 32 32 + i)) 0 18 == t) with
  | some i => some (bits (autEdge a (bits st 32 32 + i)) 20 16)
  | none => none

/-- The class rule of R148 allows `t` in state `q` with repeat count `r`. -/
def classAllows (v a : Bytes) (q r t : Nat) : Bool :=
  let st := autState a q
  let sig := signature v t
  bits st 0 2 == 1 && !tokenSpecial v t && sig != 0 && (sig &&& bits st 64 16) == sig
    && (bits st 96 16 == 0 || decide (r < bits st 96 16))

/-- Token `t` is allowed in state `q` with repeat count `r` (R148). -/
def allowed (v a : Bytes) (q r t : Nat) : Bool :=
  (edgeOn a q t).isSome || classAllows v a q r t || (bit (autState a q) 2 && t == vocEos v)

/-- The move on an allowed token (R149). -/
def grammarNext (v a : Bytes) (q r t : Nat) : Nat × Nat :=
  match edgeOn a q t with
  | some n => (n, 0)
  | none =>
    if classAllows v a q r t then
      let n := bits (autState a q) 80 16
      (n, if n = q then r + 1 else 0)
    else (q, r)

/-- The tokens allowed (R151). -/
def maskOf (v a : Bytes) (q r : Nat) : List Nat := (upto (vocTokens v)).filter (allowed v a q r)

/-- The checks of an automaton load against the vocabulary it was built for (R150). -/
def automatonOk (a v : Bytes) : Bool :=
  let n := autStates a
  let ne := autEdges a
  decide (32 ≤ a.length) && le a 0 4 == 0x47544143 && decide (1 ≤ n ∧ n ≤ 65536) && decide (ne ≤ 1048576)
    && decide (byteAt a 18 < 16) && byteAt a 19 == 0 && le a 28 4 == 0
    && inside (le a 20 4) n 16 a.length && inside (le a 24 4) ne 8 a.length && decide (autStart a < n)
    && (upto n).all (fun q =>
        let st := autState a q
        let c := bits st 16 16
        let b := bits st 32 32
        decide (bits st 0 2 ≤ 1) && decide (b + c ≤ ne) && decide (bits st 80 16 < n)
        && !(bits st 0 2 == 0 && c == 0 && !bit st 2)
        && (upto c).all (fun i => i == 0 ||
            decide (bits (autEdge a (b + i - 1)) 0 18 < bits (autEdge a (b + i)) 0 18)))
    && (upto ne).all (fun i => decide (bits (autEdge a i) 0 18 < vocTokens v ∧ bits (autEdge a i) 20 16 < n))

end Sys2Proof
end

