-- ==== Sys2Proof/Machine/Sampler.lean ====
section
/-!
DEFINITION. Speculative trees, masks and sampling (R328 to R349, R145 to R155). All of it is a function of content, tokens
and the Cove's locked registers.
-/
namespace Sys2Proof.Machine

/-- Sampling parameters of a Cove (Table 9-8). -/
structure SampleCfg where
  greedy : Bool
  penPrompt : Bool
  topK : Nat
  invTemp : Nat
  topP : Nat
  rep : Nat
  freq : Nat
  pres : Nat
  expTable : Bytes
  deriving DecidableEq, Repr

/-- The parameters that Cove `c` gives a request under a model container. -/
def State.sampleCfg (s : State) (c : Nat) (container : Bytes) : SampleCfg :=
  ⟨s.flag (Fld.SRV_COVE_SAMPLE_GREEDY c), s.flag (Fld.SRV_COVE_SAMPLE_PEN_PROMPT c), s.get (Fld.SRV_COVE_SAMPLE_TOP_K c),
   s.get (Fld.SRV_COVE_INV_TEMP c), s.get (Fld.SRV_COVE_TOP_P c), s.get (Fld.SRV_COVE_REP c), s.get (Fld.SRV_COVE_FREQ c),
   s.get (Fld.SRV_COVE_PRES c), (sectId container 6 (s.get (Fld.SRV_COVE_SAMPLE_EXP_TABLE c))).getD []⟩

/-- What a request samples with: vocabulary, automaton, model digest, prompt, seed, parameters. -/
structure SampleEnv where
  voc : Bytes
  aut : Bytes
  digest : Bytes
  prompt : List Nat
  seed : Nat
  maxNew : Nat
  cfg : SampleCfg
  deriving DecidableEq, Repr

/-- How a row ends: a token, no token in the mask (R153), no token with a logit (R341). -/
inductive RowEnd where
  | token (t : Nat)
  | dead
  | fault
  deriving DecidableEq, Repr

/-- R343: the penalties on a logit of a token that occurred `n` times. -/
def penalise (g : SampleCfg) (n l : Nat) : Nat :=
  if n = 0 then l
  else
    let l := if fLt 0 l then fDiv l g.rep else fMul l g.rep
    let l := fFma (g.freq ^^^ 0x80000000) (intToF32 n) l
    fSub l g.pres

/-- R344: the greatest logit, the lower token ID on a tie. -/
def greedyChoice : List (Nat × Nat) → Option (Nat × Nat)
  | [] => none
  | e :: t => some (t.foldl (fun best x => if fLt best.2 x.2 then x else best) e)

/-- R347: the draw for the token at a position. -/
def drawU (seed p : Nat) : Nat := scaledToF32 ((mix (mix (w64 p) ^^^ w64 seed)) >>> 40) 24

/-- R346: running sums. -/
def runningSums : Nat → List Nat → List Nat
  | _, [] => []
  | q, e :: t => fAdd q e :: runningSums (fAdd q e) t

/-- R345, R346: a token drawn from the candidate list. -/
def drawChoice (g : SampleCfg) (u : Nat) (cands : List (Nat × Nat)) : Option Nat :=
  let xs := cands.map (fun e => (e.1, fMul e.2 g.invTemp))
  let list := (sortBy (fun a b => fLt b.2 a.2) xs).take (min g.topK 224)
  match list with
  | [] => none
  | e :: _ =>
    let es := list.map (fun x => tableEval g.expTable (fSub x.2 e.2))
    let qs := match es with
      | [] => []
      | e1 :: t => e1 :: runningSums e1 t
    let qK := (qs.getLast?).getD 0
    let cut := if fLt g.topP 0x3F800000 then
        match qs.findIdx? (fun q => fLe (fMul g.topP qK) q) with
        | some j => j
        | none => qs.length - 1
      else qs.length - 1
    let target := fMul u (qs.getD cut 0)
    let j := match (qs.take (cut + 1)).findIdx? (fun q => fLt target q) with
      | some j => j
      | none => cut
    (list[j]?).map (fun x => x.1)

/-- R341: what the row samples that stands after the generated tokens `gen` (committed and on the path), in grammar state
`q`, `r`. The token it samples stands at position P + |gen|. -/
def sampleRow (v : SampleEnv) (gen : List Nat) (q r : Nat) : RowEnd :=
  match maskOf v.voc v.aut q r with
  | [] => .dead
  | mask =>
    let args : TokenArgs := ⟨v.digest, v.prompt ++ gen⟩
    let ls := (mask.map (fun t => (t, (Config.logit args t).toNat))).filter (fun e => !isNan32 e.2)
    let seen := if v.cfg.penPrompt then v.prompt ++ gen else gen
    let ls := ls.map (fun e => (e.1, penalise v.cfg (seen.count e.1) e.2))
    match greedyChoice ls with
    | none => .fault
    | some best =>
      if v.cfg.greedy then .token best.1
      else match drawChoice v.cfg (drawU v.seed (v.prompt.length + gen.length)) ls with
        | some t => .token t
        | none => .fault

/-- A tree of one node (a step without speculation, R336). -/
def bareTree (last : Nat) : List TreeNode := [⟨last, 0, 0⟩]

/-- Child of node `v` that carries a token. -/
def treeChild (tree : List TreeNode) (v t : Nat) : Option Nat :=
  (upto tree.length).find? (fun i => i != 0 && (match tree[i]? with
    | some n => n.parent == v && n.token == t
    | none => false))

/-- One accepted token: the token, and the grammar state and repeat count after it. -/
structure Accepted where
  token : Nat
  q : Nat
  r : Nat
  deriving DecidableEq, Repr

/-- How a request stands after its step: it goes on, or it ends with a status (Table 8-4). -/
abbrev StepEnd := Option Nat

/-- R336, R337, R286, R153: the walk of a tree from node `v`; `gen` are the generated tokens so far. At most `fuel`
tokens are accepted. A node is valid where its token lies in its parent's mask (R154). -/
def acceptWalk (v : SampleEnv) (tree : List TreeNode) : Nat → Nat → List Nat → Nat → Nat → List Accepted × StepEnd
  | 0, _, _, _, _ => ([], none)
  | fuel + 1, node, gen, q, r =>
    match sampleRow v gen q r with
    | .dead => ([], some 6)
    | .fault => ([], some 8)
    | .token t =>
      let (q', r') := grammarNext v.voc v.aut q r t
      let a : Accepted := ⟨t, q', r'⟩
      let gen' := gen ++ [t]
      if t = vocEos v.voc then ([a], some 2)
      else if v.maxNew ≤ gen'.length then ([a], some 3)
      else match treeChild tree node t with
        | none => ([a], none)
        | some c =>
          let (as, e) := acceptWalk v tree fuel c gen' q' r'
          (a :: as, e)

/-- R331 step 5: the children of node `p` in a list of chains of tokens, first created first. -/
def trieHeads (chains : List (List Nat)) : List Nat :=
  (chains.filterMap (fun c => c.head?)).foldl (fun acc t => if acc.contains t then acc else acc ++ [t]) []

/-- A level of the trie: for each parent the chains below it. -/
def trieLevel (base depth : Nat) (parents : List (Nat × List (List Nat))) : List TreeNode × List (Nat × List (List Nat)) :=
  parents.foldl (fun acc p =>
    (trieHeads p.2).foldl (fun acc t =>
      (acc.1 ++ [⟨t, p.1, depth⟩],
       acc.2 ++ [(base + acc.1.length, (p.2.filter (fun c => c.head? == some t)).map (fun c => c.drop 1))])) acc) ([], [])

/-- The levels of the trie, breadth first. -/
def trieLevels : Nat → Nat → Nat → List (Nat × List (List Nat)) → List TreeNode
  | 0, _, _, _ => []
  | fuel + 1, base, depth, parents =>
    let (nodes, next) := trieLevel base depth parents
    if nodes.isEmpty then [] else nodes ++ trieLevels fuel (base + nodes.length) (depth + 1) next

/-- R331 step 5: chains merged under node 0, cut to `limit` nodes. -/
def trieOf (last limit : Nat) (chains : List (List Nat)) : List TreeNode :=
  ((⟨last, 0, 0⟩ : TreeNode) :: trieLevels 8 1 1 [(0, chains)]).take limit

/-- R331: the chains that the context lookup keeps. -/
def contextChains (toks : List Nat) (lookN depth branch : Nat) : List (List Nat) :=
  let n := toks.length
  let key := toks.drop (n - lookN)
  let starts := (upto (min 4096 n)).map (fun i => n - 2 - i)
  let found := starts.filter (fun j => decide (lookN ≤ j + 1 ∧ j + 1 < n) && slotAt toks (j + 1 - lookN) lookN == key)
  let chains := found.map (fun j => (toks.drop (j + 1)).take depth)
  (chains.foldl (fun acc c => if acc.contains c then acc else acc ++ [c]) []).take branch
where
  slotAt (l : List Nat) (off len : Nat) : List Nat := (l.drop off).take len

/-- R332: the chains of a draft program's outputs; a value that is no token ends its chain. -/
def draftChains (v : SampleEnv) (toks : List Nat) (depth branch : Nat) : List (List Nat) :=
  let args : TokenArgs := ⟨v.digest, toks⟩
  let tokenOf := fun (x : Nat) =>
    let n := f32Trunc x
    if isNan32 x || fLt x 0 || !fEq (intToF32 n) x || decide (vocTokens v.voc ≤ n) then none else some n
  (upto branch).map (fun b =>
    let vals := (upto depth).map (fun d => tokenOf (Config.draftOut args (b * depth + d)).toNat)
    (vals.takeWhile (fun x => x.isSome)).filterMap id)

/-- R145, R146: what the detokenizer emits and what it holds back. -/
def detokenize (v : Bytes) (carry : Bytes) (toks : List Nat) : Bytes × Bytes :=
  splitHeld (carry ++ toks.flatMap (fun t => if tokenSpecial v t then [] else tokenString v t))

end Sys2Proof.Machine
end

