-- ==== Sys2Proof/Machine/Search.lean ====
section
/-!
DEFINITION. Searches of the Vitrine: the match on a bank, the grant, the learn queue (R164, R170 to R172, R181 to R184,
R191 to R193).
-/
namespace Sys2Proof.Machine

/-- What a search of table `t` on bank `b` finds now: the lookup result, the entry's ATTR and PINNED (R170 to R172, R181,
R191, R193). -/
def State.lookupAt (s : State) (b t key : Nat) (spec : Bool) : Lookup × Nat × Bool :=
  let g := s.vgeom t
  let k := s.vbank b
  let ver := (s.vtable t).ver
  match searchTable k g key with
  | none => (⟨false, false, 0, false, spec, t, 0, 0, 0, 0, ver, []⟩, 0, false)
  | some p =>
    let u := k.unit (g.addr p)
    (⟨true, u.info.stale && !spec, 0, false, spec, t, p, u.info.mlen, u.result.code, u.result.ever, ver,
      padTo 128 u.result.data⟩, u.result.attr, u.info.pinned)

/-- A search granted on bank `b` at this tick. -/
def State.grantSearch (s : State) (k id b : Nat) : State :=
  match (s.frame? k).bind (fun f => f.searches.find? (fun x => x.id == id)) with
  | none => s
  | some x =>
    let (l, attr, pinned) := s.lookupAt b x.table x.key x.spec
    s.modFrame k (modSearch id (fun x => { x with state := .granted b s.now l attr pinned }))

/-- A search waits for a slot again. -/
def State.waitSearch (s : State) (k id : Nat) : State := s.modFrame k (modSearch id (fun x => { x with state := .waiting }))

/-- R597: a search repeated after a transient fault, on the lowest other live replica where there is one; with no live
replica it fails (R206). -/
def State.repeatSearch (s : State) (k id b : Nat) : State :=
  match (s.frame? k).bind (fun f => f.searches.find? (fun x => x.id == id)) with
  | none => s
  | some x =>
    let (ok, s) := s.retryFrame k .vitrine
    if !ok then s
    else match (s.liveBanks x.table).find? (fun c => c != b) with
      | some c => s.grantSearch k id c
      | none => match (s.liveBanks x.table).head? with
        | some c => s.grantSearch k id c
        | none => s.cause k .stageFault

/-- R206: frames that wait for a search of a table with no live replica. -/
def State.failDeadTables (s : State) : State :=
  s.causeAll (fun f => screening f && f.searches.any (fun x => x.state == .waiting && (s.liveBanks x.table).isEmpty
    && s.get (Fld.VIT_TABLE_CFG_STACK x.table) == 0)) .stageFault

/-- R184: a learn joins the queue of its table on the ordering bank, or is dropped where the bank's queue is full. -/
def State.queueLearn (s : State) (k : Nat) (x : Search) (l : Lookup) (attr : Nat) (port : Nat) : State :=
  match s.orderer x.table with
  | none => s.cause k .stageFault
  | some b =>
    if 1024 ≤ s.learnsQueued b then
      (s.count Fld.VIT_LEARN_DROP_CNT).deliver k x.id { l with outcome := 5 }
    else
      let q : Learn := ⟨k, x.id, x.key, attr, port, l.tableVer⟩
      (s.modVtable x.table (fun v => { v with ops := v.ops ++ [.learn q] })).modFrame k
        (modSearch x.id (fun y => { y with state := .learning }))

/-- R191, R192: a hit on an entry with REFRESH clears STALE. -/
def State.refreshEntry (s : State) (b t index : Nat) : State :=
  let g := s.vgeom t
  let a := g.addr index
  let u := (s.vbank b).unit a
  if u.info.refresh && u.info.stale then s.setStaleAll t a false else s

/-- R170, R184: the result of a search granted on bank `b` is delivered, or its learn is queued. A replay's searches act as SPEC searches
(R396), but its results show SPEC = 0 as the frame's did (R49; log entry 53). -/
def State.searchResult (s : State) (f : Frame) (x : Search) (b : Nat) (l : Lookup) (attr : Nat) (pinned : Bool) : State :=
  let l := if f.kind.timed then l else { l with spec := false }
  let s := if x.spec then s else s.countSearch l
  let s := if l.hit && !x.spec then s.refreshEntry b x.table l.index else s
  match x.learn with
  | none => s.deliver f.key x.id l
  | some a =>
    if l.hit && pinned then s.deliver f.key x.id { l with outcome := 4, conflict := attr != a }
    else if l.hit && attr == a then s.deliver f.key x.id { l with outcome := 1 }
    else s.queueLearn f.key x l a (if f.port == .s then 1 else 0)

end Sys2Proof.Machine
end

