-- ==== Sys2Proof/Machine/Faults.lean ====
section
/-!
DEFINITION. Faults met by units: counting, retries, promotion, retirement (R77, R78, R206, R242, R244, R277, R279, R596 to
R603).
-/
namespace Sys2Proof.Machine

/-- The retirable kind of a stage's engines. -/
def stageKind : Stage → Option UnitKind
  | .intake => some .parser
  | .catalogue => some .catalogue
  | .vitrine => some .bank
  | .gather => some .gather
  | .arbor => some .arbor
  | .galleries => some .gallery
  | .guard => none
  | .verdict => none

/-- Engines of a stage that are in service (R77). -/
def State.liveEngines (s : State) (st : Stage) : List Nat :=
  match stageKind st with
  | some k => (upto (kindCount k)).filter (fun e => !s.isRetired k e)
  | none => [0]

/-- R78: whether a stage that a frame's Strand uses has no engine left. -/
def State.lacksStage (s : State) (used : Nat) : Bool :=
  allStages.any (fun st => bit used (stageIdx st) && (s.liveEngines st).isEmpty)

/-- R597: the engine on which a retry runs: the lowest other live one, else the same. -/
def State.retryEngine (s : State) (st : Stage) (e : Nat) : Nat := ((s.liveEngines st).find? (fun i => i != e)).getD e

/-- Content kind code (Table 11-12). -/
def contentCode : ContentKind → Nat
  | .table => 1
  | .vocabulary => 2
  | .model => 3
  | .graph => 4
  | .automaton => 5

/-- Whether a pinned version is missing or BAD (R158, R278). -/
def State.contentBad (s : State) (k : ContentKind) (i v : Nat) : Bool := ((s.resident k i v).map (fun r => r.bad)).getD true

/-- R158, R278: a resident version becomes BAD; CONTENT_BAD is posted once. -/
def State.markBad (s : State) (k : ContentKind) (i v : Nat) : State :=
  if s.contentBad k i v then s
  else ({ s with content := mapWhere s.content (fun r => r.kind == k && r.index == i && r.version == v) (fun r => { r with bad := true }) }).event
    0x0064 (contentCode k * 256 + i) [v]

/-- A graph. -/
def State.graph (s : State) (g : Nat) : Graph := Tab.getD s.gth.graphs g Graph.empty

/-- A graph changed. -/
def State.modGraph (s : State) (g : Nat) (f : Graph → Graph) : State :=
  { s with gth := { s.gth with graphs := Tab.putD Graph.empty s.gth.graphs g (f (s.graph g)) } }

/-- The graph view of a Strand, 160 bytes (Table 6-4). -/
def State.viewOf (s : State) (i : Nat) : Bytes := s.window (0x81000 + 160 * s.get (Fld.GTH_STRAND_CFG_VIEW i)) 160

/-- The graph that a Strand's view names. -/
def State.graphOf (s : State) (i : Nat) : Nat := bits (byteAt (s.viewOf i) 0) 0 2

/-- R243: a graph is DAMAGED: the Strands whose view names it are EXCLUDED (R240). -/
def State.damageGraph (s : State) (g : Nat) : State :=
  let s := s.modGraph g (fun x => { x with damaged := true })
  ((upto 32).filter (fun i => s.flag (Fld.GTH_STRAND_CFG_EN i) && s.graphOf i == g)).foldl State.strandExclude s

/-- R323: a KV block is BAD: out of the prefix table, its holders end. -/
def State.blockBad (s : State) (c b : Nat) : State :=
  let s := s.modCove c (fun x =>
    { x with blocks := Tab.put x.blocks b { Tab.getD x.blocks b ⟨0, false, false, [], []⟩ with bad := true }
             prefixes := x.prefixes.filter (fun i => i != b), reclaim := x.reclaim.filter (fun i => i != b) })
  ((s.coveRequests c).filter (fun r => (r.shared ++ r.priv).contains b)).foldl (fun s r => s.doomRequest r.slot 8) s

/-- Whether an item lies on a retired pseudo-channel is open: a free value (log entry 31). -/
def State.lostItem (s : State) (f : State → State) : State :=
  let (x, s) := s.free 1
  if x = 1 then f s else s

/-- R243, R278, R323, R601: the graphs, models and KV blocks with lines on a pseudo-channel that is retired are lost. -/
def State.loseChannel (s : State) : State :=
  let s := ((upto 4).filter (fun g => (s.graph g).ver != 0)).foldl (fun s g => s.lostItem (fun s => s.damageGraph g)) s
  let s := (s.content.filter (fun r => r.kind == .model)).foldl (fun s r => s.lostItem (fun s => s.markBad .model r.index r.version)) s
  (upto 8).foldl (fun s c => ((s.cove c).blocks.map (fun e => e.1)).foldl (fun s b => s.lostItem (fun s => s.blockBad c b)) s) s

/-- A model job changed. -/
def modModel (pos : Nat) (g : ModelJob → ModelJob) (f : Frame) : Frame :=
  { f with models := mapWhere f.models (fun m => m.pos == pos) g }

/-- R242: a walk gives up its context and waits to start again under its pin. -/
def restartWalk (f : Frame) : Frame :=
  match f.walk with
  | some w => { f with walk := none, walkStarted := false, walkPin := some w.pin }
  | none => f

/-- R264, R277: a program starts again on another Gallery. -/
def State.restartProgram (s : State) (k pos : Nat) : State :=
  let slots := ((s.frame? k).bind (fun f => f.models.find? (fun m => m.pos == pos))).bind (fun m =>
    m.pin.bind (fun v => (s.resident .model m.model v).map (fun r => programSlots r.bytes)))
  let s := { s with grants := s.grants.filter (fun g => !(g.frame == k && g.work == Work.program pos)) }
  s.modFrame k (modModel pos (fun m => { m with slotsToGrant := slots.getD 0, slotsToDo := slots.getD 0, readyAt := none
                                                gallery := m.gallery.map (s.retryEngine .galleries) }))

/-- R597: the work of a grant meets a transient fault: it is repeated, or the frame is UNSCREENED. A grant whose frame
needs it no more, or is due, ends. -/
def State.repeatGrant (s : State) (g : Grant) : State :=
  let drop := fun (s : State) => { s with grants := s.grants.filter (fun h => h != g) }
  match s.frame? g.frame with
  | none => drop s
  | some f =>
    if f.decided || !f.causes.isEmpty || s.reached f.tDl && f.kind == .wire then drop s
    else
      match g.work with
      | .search id => (drop s).repeatSearch g.frame id g.engine
      | .program pos =>
        let (ok, s) := (drop s).retryFrame g.frame g.stage
        if ok then s.restartProgram g.frame pos else s
      | _ =>
        let (ok, s) := s.retryFrame g.frame g.stage
        if ok then
          { s with grants := mapWhere s.grants (fun h => h == g) (fun h => { h with engine := s.retryEngine g.stage g.engine, tick := s.now }) }
        else drop s

/-- The stage of an engine kind. -/
def kindStage : UnitKind → Option Stage
  | .parser => some .intake
  | .catalogue => some .catalogue
  | .bank => some .vitrine
  | .arbor => some .arbor
  | .gallery => some .galleries
  | _ => none

/-- R602 step 2: the work that a retired unit held. -/
def State.releaseUnit (s : State) (u : UnitId) : State :=
  let s := match kindStage u.kind with
    | some st => (s.grants.filter (fun g => g.stage == st && g.engine == u.index)).foldl State.repeatGrant s
    | none => s
  let s := match u.kind with
    | .strand => s.strandRetire u.index
    | .bank => (s.bankGone u.index).failDeadTables
    | .gather =>
      (s.frames.filter (fun f => match f.walk with
        | some w => w.engine == u.index
        | none => false)).foldl (fun s f =>
          let (ok, s) := s.retryFrame f.key .gather
          if ok then s.modFrame f.key restartWalk else s.modFrame f.key (fun f => { f with walk := none })) s
    | .gallery =>
      (s.frames.flatMap (fun f => (f.models.filter (fun m => m.gallery == some u.index && !m.finished)).map (fun m => (f.key, m.pos)))).foldl
        (fun s e => s.restartProgram e.1 e.2) s
    | .ddr =>
      let share := s.get Fld.IMG_DDR_EXPECT_SIZE16 * 16384
      (s.loseEntries s.srv.archive).set Fld.SRV_ARCH_SIZE (s.get Fld.SRV_ARCH_SIZE - share)
    | .pseudoChannel => s.loseChannel
    | _ => s
  match u.kind with
  | .gather | .gallery | .arbor | .catalogue | .parser | .bank => s.causeAll (fun f => screening f && s.lacksStage f.used) .stageFault
  | _ => s

/-- SOURCE of RETIRED and PROMOTED (Table 16-5). -/
def unitSource (u : UnitId) : Nat := kindCode u.kind * 4096 + u.index

/-- R602: a unit is retired. ARG of the RETIRE record is not given (log entry 3). -/
def State.retireUnit (s : State) (u : UnitId) (code count : Nat) : State :=
  if s.isRetired u.kind u.index then s
  else
    let s := { s with led := { s.led with force := forceRetire s.led.force u.kind u.index
                                          hits := s.led.hits.filter (fun h => h.unit != u) } }
    let s := (s.count Fld.FLT_RETIRE_CNT).releaseUnit u
    let (arg, s) := s.freeBytes 8
    let (seq, s) := s.ledgerRecord 2 ([byte (kindCode u.kind), 0] ++ toLe 2 u.index ++ toLe 2 code ++ [0, 0] ++ toLe 4 count ++ arg)
    s.event 0x0060 (unitSource u) [code, seq]

/-- R598: the window, in ticks. -/
def State.promoteWindow (s : State) : Nat := s.get Fld.FLT_PROMOTE_PROMOTE_MS * 500000

/-- R598: a fault or a correction counted against a unit; the unit is promoted where a count reaches its limit. Lanes
keep no such counts. -/
def State.countAgainst (s : State) (u : UnitId) (code : Nat) (correction : Bool) : State :=
  if u.kind = .lane || s.isRetired u.kind u.index then s
  else
    let old := s.led.hits.filter (fun h => Nat.blt (s.since h.tick) s.promoteWindow)
    let hits := ⟨u, s.now, correction⟩ :: old
    let s := { s with led := { s.led with hits := hits } }
    let n := (hits.filter (fun h => h.unit == u && h.correction == correction)).length
    let limit := if correction then s.get Fld.FLT_CE_LIMIT else s.get Fld.FLT_PROMOTE_PROMOTE_N
    if limit ≤ n then (s.event 0x0061 (unitSource u) [code, n]).retireUnit u code n else s

/-- A class T fault of a unit (R596). -/
def State.transient (s : State) (u : Option UnitId) (code : Nat) : State :=
  let s := s.count Fld.FLT_T_CNT
  match u with
  | some u => s.countAgainst u code false
  | none => s

/-- A corrected error (SRAM_CE, HBM_CE, DDR_CE). -/
def State.corrected (s : State) (u : Option UnitId) (code : Nat) : State :=
  let s := s.count Fld.FLT_CE_CNT
  match u with
  | some u => s.countAgainst u code true
  | none => s

/-- HBM_UE in a region (R451 index). Which pseudo-channel holds the item is open (log entry 31): a free value. -/
def State.hbmUe (s : State) (region : Nat) : State :=
  let (x, s) := s.free 16
  let pc := x % 384
  (s.event 0x0065 pc [region]).countAgainst ⟨.pseudoChannel, pc⟩ 0x0202 false

/-- HBM_CE: the pseudo-channel is open in the same way. -/
def State.hbmCe (s : State) : State :=
  let (x, s) := s.free 16
  s.corrected (some ⟨.pseudoChannel, x % 384⟩) 0x0201

/-- A wedge is reported: unit u of Table 11-16 and its code. -/
def State.wedge (s : State) (u code : Nat) : State := (s.count Fld.FLT_WEDGE_CNT).event 0x0063 u [code]

end Sys2Proof.Machine
end

