-- ==== Sys2Proof/Machine/Release.lean ====
section
/-!
DEFINITION. From the deadline of a frame to its disposition: the Tap queue, the final verdict, redaction, annotation,
notices, emission, the records of the frame (R31 to R35, R43 to R48, R55 to R57, R107, R110 to R122, R380 to R382, R389).
-/
namespace Sys2Proof.Machine

/-- Tick `a` comes before tick `b` on the 64-bit counter. -/
def tickBefore (a b : Nat) : Bool := a != b && Nat.blt ((b + 2 ^ 64 - a) % 2 ^ 64) (2 ^ 63)

/-- Port N before port S (R389, Table 3-4). -/
def portFirst (a b : EthPort) : Bool := Nat.blt (portIdx a) (portIdx b)

/-- Whether a port carries traffic. -/
def State.portUp (s : State) (p : EthPort) : Bool :=
  s.flag (Fld.INT_PORT_CTL_LINK_UP (portIdx p)) && s.flag (Fld.INT_PORT_CTL_ENABLE (portIdx p))

/-- Bytes of a frame's Tap copy: header, Tap header, annotation, the frame without its FCS, FCS. -/
def tapSize (f : Frame) : Nat := f.length + 54

/-- REL_TAP_Q_USED. -/
def State.tapUsed (s : State) : Nat := sumBy s.tapQueue (fun c => c.size)

/-- R116: the Tap queue is blocked for a copy of `n` bytes. -/
def State.tapBlocked (s : State) (n : Nat) : Bool :=
  !s.portUp .tap || s.txHalted 2 || Nat.blt (s.get Fld.REL_TAP_Q_SIZE) (s.tapUsed + n)

/-- Tap copies in the order of their T_dl, port N first on a tie (R119). -/
def tapBefore (a b : TapCopy × EthPort) : Bool :=
  tickBefore a.1.tDl b.1.tDl || (a.1.tDl == b.1.tDl && portFirst a.2 b.2)

/-- R116 to R118, R120: the Tap's part at T_dl. A frame of an invalid class has no bytes to mirror (R56). -/
def State.tapAtDeadline (s : State) (f : Frame) : State :=
  let mode := s.get (Fld.REL_CLASS_OUT_TAP_MODE f.cls)
  if f.invalidClass || (mode != 1 && mode != 2) then s
  else if s.tapBlocked (tapSize f) then
    if mode = 2 then (s.count Fld.REL_TAP_BLOCK_CNT).cause f.key .tapBlocked
    else
      let s := (s.count Fld.REL_TAP_GAP_CNT).modFrame f.key (fun f => { f with auditGap := true })
      s.auditGap (frameChain f) 1 1 f.id f.id
  else
    let c : TapCopy := ⟨f.key, f.id, frameChain f, f.tDl, f.tRel, tapSize f, []⟩
    let s := s.modFrame f.key (fun f => { f with tap := .queued })
    { s with tapQueue := s.tapQueue ++ [c] }

/-- The frame ID of a frame that is still being parsed at its deadline is taken from its Strand then (log entry 32). -/
def State.identifyLate (s : State) (f : Frame) : State :=
  match f.phase, f.strand with
  | .parsing, some i =>
    let s := s.dropGrants f.key .intake
    let (s, f) := s.identify i { f with used := s.usedStages i }
    s.putFrame f
  | _, _ => s

/-- R32, R45 to R47, R55: the outcome of a frame becomes final. -/
def State.settleVerdict (s : State) (f : Frame) : Frame :=
  let reason := match minBy? f.causes reasonRank with
    | some r => some r
    | none => if f.verdict.isNone then some .deadline else none
  let action := if f.invalidClass then FailAction.dropWithNotice else failActionOf (s.get (Fld.TID_CLASS_CTL_FAIL_ACTION f.cls))
  { f with decided := true, reason := reason,
           verdict := if reason.isSome then some .unscreened else f.verdict
           action := if reason.isSome then action else .none }

/-- A frame leaves the device's books: its cells, its reservation, its stream (R107, R109). -/
def State.forgetFrame (s : State) (f : Frame) : State :=
  let s := { s with frames := s.frames.filter (fun g => g.key != f.key)
                    calendar := s.calendar.filter (fun r => r.frame != f.key) }
  s.closeStream f

/-- Content of a STREAM_CLOSE record (R394). -/
def streamCloseRecord (f : Frame) (chunks lastId now : Nat) (ident : Bytes) : Bytes :=
  [5, 1, byte ((f.verdict.map verdictCode).getD 4), byte ((f.reason.map reasonCode).getD 0), byte f.cls, 0] ++ toLe 2 1
    ++ toLe 8 lastId ++ toLe 8 now ++ padTo 16 ident ++ toLe 2 f.rule ++ [0, 0] ++ toLe 4 f.code
    ++ (match f.vector with
        | some v => fold8 v
        | none => zeros 8) ++ toLe 4 chunks

/-- R40, R394: the closing screening of a stream that timed out ends: its record joins its Strand's chain. -/
def State.endStreamClose (s : State) (f : Frame) (chunks lastId : Nat) : State :=
  let f := s.settleVerdict f
  let ident := ((f.stream.bind s.stream?).map (fun x => x.ident)).getD []
  let s := s.append (bits lastId 43 5) (streamCloseRecord f chunks lastId s.now ident)
  let s := s.forgetFrame { f with final := true }
  match f.strand with
  | some i => s.queueFreed i
  | none => s

/-- R32, R116: the deadline of a frame. -/
def State.frameDeadline (s : State) (f : Frame) : State :=
  match f.kind with
  | .replay _ => s
  | .streamClose n lastId => s.endStreamClose f n lastId
  | .wire =>
    let s := s.identifyLate f
    let s := s.tapAtDeadline ((s.frame? f.key).getD f)
    let f := s.settleVerdict ((s.frame? f.key).getD f)
    let s := (s.putFrame f).countVerdict f
    match f.strand with
    | some i => s.queueFreed i
    | none => s

/-- The annotation record (Table 3-11). -/
def annotation (f : Frame) : Bytes :=
  [1, byte ((f.verdict.map verdictCode).getD 4), byte ((f.reason.map reasonCode).getD 0), byte (actionCode f.action),
    byte f.cls, byte (frameFlags f)] ++ toLe 2 f.rule ++ toLe 8 f.id ++ toLe 2 f.epoch ++ [0, 0] ++ toLe 4 f.code
    ++ toLe 8 f.tArr

/-- Lowercase ASCII hexadecimal. -/
def hexBytes (bs : Bytes) : Bytes :=
  bs.flatMap (fun b => [b.toNat / 16, b.toNat % 16].map (fun d => byte (if d < 10 then 48 + d else 87 + d)))

/-- What leaves in a frame's place (Tables 1-6 and 1-8). -/
inductive Emission where
  | frame
  | notice
  | nothing
  deriving DecidableEq, Repr

/-- Tables 1-6 and 1-8; a held frame that failed ECC gives way to a notice (R122). -/
def State.emission (s : State) (f : Frame) : Emission :=
  if f.holdEcc then .notice
  else match f.action with
    | .releaseFlagged => .frame
    | .holdToHost => .nothing
    | .dropWithNotice => .notice
    | .discard => .nothing
    | .none => if f.verdict = some .block && !s.flag (Fld.TID_CLASS_CTL_BLOCK_DISP f.cls) then .notice else .frame

/-- A drop notice without its FCS (R115). -/
def State.notice (s : State) (f : Frame) : Bytes :=
  let n := (layerWalk f.bytes).tags
  f.bytes.take (12 + 4 * n) ++ toBe 2 (s.get Fld.REL_NOTICE_ETYPE) ++ annotation f ++ zeros (14 - 4 * n)

/-- Bytes at the offsets replaced by a fill byte. -/
def fillAt (bs : Bytes) (fill : Byte) (offs : List Nat) : Bytes :=
  (List.zip bs (upto bs.length)).map (fun e => if offs.contains e.2 then fill else e.1)

/-- R380, R381: offsets that a REDACT verdict replaces, and how many matches it replaces. -/
def State.redactOffsets (s : State) (f : Frame) : List Nat × Nat :=
  match f.verdict, f.strand with
  | some .redact, some i =>
    let keep := s.get (Fld.VRD_STRAND_POLICY_KEEP_LAST i)
    let ms := if f.redactSrc = 1 ∨ f.redactSrc = 3 then f.sentinels.map (fun m => m.take (m.length - keep)) else []
    let fields := if f.redactSrc = 2 ∨ f.redactSrc = 3 then
        (f.fields.filter (fun x => x.role == 8)).flatMap (fun x => (upto x.len).map (fun j => x.off + j)) else []
    ((ms.flatten ++ fields).eraseDups, (ms.filter (fun m => !m.isEmpty)).length)
  | _, _ => ([], 0)

/-- R112, R113: whether the class asks for an in-band annotation, and the place and length of the slot for it. -/
def State.annSlot (s : State) (f : Frame) : Bool × Option Nat :=
  let mode := s.get (Fld.REL_CLASS_OUT_ANN_MODE f.cls)
  let need := if s.flag (Fld.REL_CLASS_OUT_ANN_HEX f.cls) then 64 else 32
  (mode = 1 || mode = 3, ((f.fields.find? (fun x => x.role == 7)).bind (fun x => if need ≤ x.len then some x.off else none)))

/-- The Tap copy of a frame without its FCS. The flags of the Tap header are not given: a free value (log entry 3). -/
def State.tapBytes (s : State) (f : Frame) (body : Bytes) : Bytes × State :=
  let (fl, s) := s.free 8
  (toBe 6 (s.get Fld.REL_TAP_DMAC + 2 ^ 32 * s.get Fld.REL_TAP_DMAC_HI)
    ++ toBe 6 (s.get Fld.REL_TAP_SMAC + 2 ^ 32 * s.get Fld.REL_TAP_SMAC_HI) ++ toBe 2 (s.get Fld.REL_TAP_ETYPE)
    ++ [1, byte (portIdx f.port), 0, byte fl] ++ toLe 4 f.length ++ annotation f ++ body, s)

/-- The release lead on a fetched frame: redaction, annotation, checksums, MACsec (R31, R110 to R115, R122). -/
def State.releaseLead (s : State) (f : Frame) (e : UnitEnd) : State :=
  let s := match e with
    | .ok => s
    | .ce => s.hbmCe
    | .ue => s.hbmUe 0
  let bad := e == .ue && !f.invalidClass
  let f := { f with led := true, holdEcc := bad, action := if bad then .dropWithNotice else f.action }
  let (offs, matches_) := s.redactOffsets f
  let offs := if bad then [] else offs
  let f := { f with redacted := !offs.isEmpty, redactBytes := offs.length, redactMatches := if bad then 0 else matches_ }
  let fill := byte (s.get (Fld.REL_CLASS_OUT_FILL f.cls))
  let body := fillAt f.bytes fill offs
  let (inband, slot) := s.annSlot f
  let annotated := s.emission f == .frame
  let f := { f with inbandFallback := annotated && inband && slot.isNone }
  let ann := annotation f
  let ann := if s.flag (Fld.REL_CLASS_OUT_ANN_HEX f.cls) then hexBytes ann else ann
  let out := match s.emission f with
    | .nothing => none
    | .notice => some (s.notice f)
    | .frame =>
      let marked := match inband, slot with
        | true, some off => overwrite body off ann
        | _, _ => body
      some (fixChecksums f.bytes marked)
  let p := portIdx (opposite f.port)
  let (sent, s) := match out with
    | none => (none, s)
    | some bs => s.protect p bs
  let f := { f with out := sent, egressLost := out.isSome && sent.isNone }
  let s := s.putFrame f
  if f.tap = .queued then
    let (bs, s) := s.tapBytes f (if s.flag (Fld.REL_CLASS_OUT_TAP_REDACT f.cls) then body else f.bytes)
    { s with tapQueue := mapWhere s.tapQueue (fun c => c.frame == f.key) (fun c => { c with bytes := bs }) }
  else s

/-- Whether the out-of-band annotation of a frame is due: its class asks for one, or in-band had no place (R112, R113). -/
def State.oobDue (s : State) (f : Frame) : Bool :=
  s.emission f == .frame && (decide' (s.get (Fld.REL_CLASS_OUT_ANN_MODE f.cls)) || f.inbandFallback)
where
  decide' (m : Nat) : Bool := m == 2 || m == 3

/-- R43, R111, R121: the emission of a frame, or its loss. -/
def State.emitFrame (s : State) (f : Frame) : Frame × State :=
  let p := opposite f.port
  let lost := f.egressLost || (f.out.isSome && (!s.portUp p || s.txHalted (portIdx p)))
  if lost then ({ f with egressLost := true }, s.count (Fld.REL_EGRESS_LOST_CNT (portIdx p)))
  else match f.out with
    | some bs => (f, s.emit (.wire p f.tRel (bs ++ toLe 4 (crc32 bs))))
    | none => (f, s)

/-- R114, R412, R413: the result record of a frame; whether it found no room. -/
def State.postResult (s : State) (f : Frame) : Bool × State :=
  let ring := bits (s.get Fld.HIF_CLASS_RING) (4 * f.cls) 4
  let (ok1, s) := if s.oobDue f then
      let (s, ok) := s.resultRecord ring 2 f.id (annotation f) 0 0
      (ok, s)
    else (true, s)
  let (ok2, s) := if f.action = .holdToHost then
      let (s, ok) := s.resultRecord ring 3 f.id (annotation f ++ f.bytes) 0 0
      (ok, s)
    else (true, s)
  (!(ok1 && ok2), s)

/-- Disposition of a frame at T_rel (R43, R48, R107, R111, R114, R389). -/
def State.disposeFrame (s : State) (f : Frame) : State :=
  let (f, s) := s.emitFrame f
  let (full, s) := s.postResult f
  let (dets, vskew, s) := s.details f
  let s := s.appendAll (frameChain f) (frameRecord f full vskew (isClosing f) false dets.length :: dets)
  s.forgetFrame f

/-- Whether a frame stands before another in the order of R389. -/
def disposedBefore (a b : Frame) : Bool :=
  tickBefore a.tRel b.tRel || (a.tRel == b.tRel && (tickBefore a.tArr b.tArr || (a.tArr == b.tArr && portFirst a.port b.port)))

/-- Whether a frame may be disposed of now. -/
def State.releaseDue (s : State) (f : Frame) : Bool :=
  f.led && f.kind == .wire && s.reached f.tRel && !s.stopped
    && !s.frames.any (fun g => g.kind == .wire && g.key != f.key && disposedBefore g f)

/-- Whether a frame's lead may run now. -/
def State.leadDue (s : State) (f : Frame) : Bool :=
  f.decided && !f.led && f.kind == .wire && s.reached (w64 (f.tRel + 2 ^ 64 - 300)) && !s.stopped

/-- R119: the copy that leaves the Tap next: the earliest T_dl, the first queued of equals. -/
def State.nextTap (s : State) : Option TapCopy :=
  s.tapQueue.foldl (fun best c => match best with
    | none => some c
    | some b => if tickBefore c.tDl b.tDl then some c else some b) none

/-- R119: a Tap copy leaves the Tap port. -/
def State.tapTx (s : State) : State :=
  match s.nextTap with
  | none => s
  | some c =>
    if c.bytes.isEmpty || !s.reached c.tRel || !s.portUp .tap || s.stopped then s
    else match s.protect 2 c.bytes with
      | (none, s) => s
      | (some bs, s) =>
        let s := s.emit (.wire .tap s.now (bs ++ toLe 4 (crc32 bs)))
        let s := { s with tapQueue := s.tapQueue.filter (fun d => d.frame != c.frame) }
        s.modFrame c.frame (fun f => { f with tap := .sent })

/-- Table 3-13, R392 cause 2: the queued Tap copies are lost with the Tap link. -/
def State.loseTapQueue (s : State) : State :=
  let lost := s.tapQueue
  let s := { s with tapQueue := [] }
  lost.foldl (fun s c =>
    let s := (s.count Fld.REL_TAP_GAP_CNT).modFrame c.frame (fun f => { f with tap := .lost })
    s.auditGap c.chain 2 1 c.frameId c.frameId) s

/-- FRAME_DEADLINE: R32, R45 to R47, R116 to R118, R141. -/
def execFrameDeadline (frame : Nat) (s : State) : Res :=
  match s.frame? frame with
  | some f => if !f.decided && f.kind.timed && s.reached f.tDl && !s.stopped then .next (s.frameDeadline f) else .next s
  | none => .next s

/-- RELEASE_LEAD: R31, R44, R88, R110, R112, R113, R115, R122, R380, R381. -/
def execReleaseLead (frame : Nat) (fetch : UnitEnd) (s : State) : Res :=
  match s.frame? frame with
  | some f => if s.leadDue f then .next (s.releaseLead f fetch) else .next s
  | none => .next s

/-- FRAME_RELEASE: R33, R35, R43, R48, R107, R111, R114, R121, R389. -/
def execFrameRelease (frame : Nat) (s : State) : Res :=
  match s.frame? frame with
  | some f => if s.releaseDue f then .next (s.disposeFrame f) else .next s
  | none => .next s

/-- TAP_COPY_TX: R119. -/
def execTapCopyTx (s : State) : Res := .next s.tapTx

/-- SEAL_TIMER: R390, R391, R399. -/
def execSealTimer (chain : Fin 33) (s : State) : Res :=
  let c := s.chain chain.val
  if c.started && !s.stopped && Nat.blt 0 c.sinceSeal && Nat.ble 500000000 (s.since c.sealTick) then .next (s.sealChain chain.val) else .next s

/-- ACCESSION_DRAIN: R392 cause 4, R393, R415. The oldest record is read from HBM; `read` says how. -/
def execAccessionDrain (read : UnitEnd) (s : State) : Res :=
  if s.stopped then .next s
  else match s.acc.buffer, read with
  | [], _ => .next s.drainAccession
  | _ :: _, .ok => .next s.drainAccession
  | _ :: _, .ce => .next (s.hbmCe).drainAccession
  | _ :: _, .ue => .next (s.hbmUe 5).loseBuffered

end Sys2Proof.Machine
end

