-- ==== Sys2Proof/Machine/Screen.lean ====
section
/-!
DEFINITION. The screening of a frame at its ends: arrival, the end of its parse, the closing of an idle stream, the combine
(R38 to R41, R78, R91, R92, R157, R277, R369 to R376, R398).
-/
namespace Sys2Proof.Machine

/-- The TEXT job whose tokens the frame's guard request reads. -/
def guardJob (f : Frame) : Option TextJob := f.texts.find? (fun t => t.guard)

/-- R351: the tick at which the tokens of the GUARD field are ready. -/
def noteGuardReady (now : Nat) (f : Frame) : Frame :=
  match guardJob f with
  | some t => if t.finished && f.guardReady.isNone && usesStage f .guard then { f with guardReady := some now } else f
  | none => f

/-- A search of a table with no live replica on this device, which no stack serves (R206). -/
def State.searchDead (s : State) (x : Search) : Bool :=
  x.state == .waiting && (s.liveBanks x.table).isEmpty && s.get (Fld.VIT_TABLE_CFG_STACK x.table) == 0

/-- What the hand-off of a frame, or new searches of it, brings at once: an unusable policy region (R398), a stage without an
engine (R78), a table without a bank (R206), the tokens of an empty GUARD field. -/
def State.checkFrame (s : State) (k : Nat) : State :=
  match s.frame? k with
  | none => s
  | some f =>
    let bad := match f.strand with
      | some i => (s.strand i).policyBad
      | none => false
    let s := if screening f && (bad || s.lacksStage f.used || f.searches.any s.searchDead) then s.cause k .stageFault else s
    if f.phase = .inside then s.modFrame k (noteGuardReady s.now) else s

/-- The Intake parser that took a frame's last beat. -/
def State.parserOf (s : State) (k : Nat) : Option UnitId :=
  ((s.grants.filter (fun g => g.frame == k && g.stage == .intake)).getLast?).map (fun g => ⟨.parser, g.engine⟩)

/-- An engine's unit of work ends with an error: it is corrected in place, or a transient fault of the engine (Table 16-2
SRAM_CE, SRAM_UE). -/
def State.engineEnd (s : State) (u : Option UnitId) (e : UnitEnd) : State :=
  match e with
  | .ok => s
  | .ce => s.corrected u 0x0101
  | .ue => s.transient u 0x0102

/-- R92, R597: a fault as the parse ends repeats its last beat on the lowest-numbered other live parser, or the frame is
UNSCREENED. -/
def State.repeatParse (s : State) (f : Frame) : State :=
  let (ok, s) := s.retryFrame f.key .intake
  match ok, (s.grants.filter (fun g => g.frame == f.key && g.stage == .intake)).getLast? with
  | true, some g =>
    { s with grants := mapWhere s.grants (fun h => h == g) (fun h => { h with engine := s.retryEngine .intake g.engine, tick := s.now }) }
  | _, _ => s.dropGrants f.key .intake

/-- Whether the parse of a frame may end now: every beat granted, the last slot over, earlier parses of its Strand and stream
over. -/
def State.parseReady (s : State) (f : Frame) : Bool :=
  f.phase == .parsing && !f.decided && f.beatsToGrant == 0 && !s.parseGone f && !s.parseWaits f && !s.stopped
    && (s.grants.filter (fun g => g.frame == f.key && g.stage == .intake)).all (fun g => Nat.ble 1 (s.since g.tick))

/-- The end of a parse (R92, R597). -/
def State.endParse (s : State) (f : Frame) (work : UnitEnd) : State :=
  let s := s.engineEnd (s.parserOf f.key) work
  if work = .ue then s.repeatParse f else (s.parseDone f).checkFrame f.key

/-- FRAME_RX: a frame on a port, R16, R17, R21, R27, R30, R34, R36, R41, R46 to R48, R54 to R56, R58, R59, R84, R86, R87,
R90, R91, R93 to R98, R104 to R109, R124, R125. `ps` is the PCS stamp in picoseconds. A frame for a Strand whose device has no
parser left meets R78 at once. -/
def execFrameRx (port : EthPort) (ps : Nat) (wire : Bytes) (s : State) : Res :=
  let k := s.nextFrame
  let s := s.receive port ps wire
  .next (if (s.liveEngines .intake).isEmpty then s.causeAll (fun f => Nat.ble k f.key && f.phase == .parsing) .stageFault else s)

/-- INTAKE_PARSE_DONE: R19 to R21, R46, R50, R91 to R93, R100 to R103, R106, R141, R142, R377 to R379, R385, R597. -/
def execIntakeParseDone (frame : Nat) (work : UnitEnd) (s : State) : Res :=
  match s.frame? frame with
  | some f => if s.parseReady f then .next (s.endParse f work) else .next s
  | none => .next s

/-- The pseudo-frame of a closing screening (R40): one TEXT field for each slot of the stream, the stream's counts. -/
def State.closeFrame (s : State) (x : Stream) : Frame :=
  let fields := x.text.map (fun e => (⟨e.1, 1, 0, e.2.length, none, []⟩ : PField))
  let f := newFrame s.nextFrame .n [] 0 []
  let win := s.get (Fld.TID_CLASS_CLOSE_CLOSE_US x.cls) * 500
  { f with kind := .streamClose x.chunks x.frameId, cls := x.cls, stream := some x.key, final := true, tArr := s.now
           tDl := w64 (s.now + win - 300), tRel := w64 (s.now + win), strand := some x.strand, phase := .inside, id := x.frameId
           handTick := s.now, cset := s.csetNow, epoch := (s.strand x.strand).epoch, seed := x.frameId, fields := fields
           sentCount := x.sentinels }

/-- R40: an open stream that timed out closes, and its closing screening begins on the Strand of its last chunk. Where that
Strand accepts no work, the screening ends at once as UNSCREENED, NO_STRAND (log entry 33). -/
def State.closeIdle (s : State) (x : Stream) : State :=
  let s := s.modStream x.key (fun x => { x with closed := true })
  let f := s.closeFrame x
  let s := { s with nextFrame := f.key + 1 }
  if s.strandState x.strand = .serving then
    let (s, f) := s.formJobs x.strand f false
    ({ s with frames := s.frames ++ [f] }).checkFrame f.key
  else
    let f := { f with causes := [.noStrand] }
    ({ s with frames := s.frames ++ [f] }).endStreamClose f x.chunks x.frameId

/-- Whether an open stream has been idle for longer than STREAM_IDLE_US. A chunk that arrives at that very tick is still in
time (R40). -/
def State.streamIdle (s : State) (x : Stream) : Bool :=
  !x.closed && !s.stopped && Nat.blt (s.get (Fld.TID_CLASS_CTL_STREAM_IDLE_US x.cls) * 500) (s.since x.last)

/-- STREAM_IDLE_TIMEOUT: R40, R143, R144, R379, R394. -/
def execStreamIdleTimeout (stream : Nat) (s : State) : Res :=
  match s.stream? stream with
  | some x => if s.streamIdle x then .next (s.closeIdle x) else .next s
  | none => .next s

/-- The combine granted to a frame. -/
def State.combineOf (s : State) (k : Nat) : Option Grant := s.grants.find? (fun g => g.frame == k && g.work == .combine)

/-- R398: an uncorrectable error in a Strand's policy region: Strand fault POLICY_UE; every frame inside, and every later one,
is UNSCREENED, STAGE_FAULT. -/
def State.policyLost (s : State) (i : Nat) : State :=
  ((s.modStrand i (fun x => { x with policyBad := true })).strandFault i .policyUe).causeAll (insideStrand i) .stageFault

/-- The end of a combine's slot (R32, R369 to R376). A closing screening of a stream that timed out ends with its verdict
(R40). -/
def State.commitVerdict (s : State) (f : Frame) (i : Nat) (g : Grant) : State :=
  let s := { s with grants := s.grants.filter (fun h => h != g) }
  if f.decided || !f.causes.isEmpty then s
  else if f.kind.timed && s.reached f.tDl then s.count (Fld.TID_CLASS_LATE_CNT f.cls)
  else
    let f := s.evaluate i f
    let s := s.putFrame f
    match f.kind with
    | .streamClose n lastId => s.endStreamClose f n lastId
    | _ => s

/-- The end of a combine with errors. -/
def State.endCombine (s : State) (f : Frame) (i : Nat) (g : Grant) (work : UnitEnd) (policyUe : Bool) : State :=
  if policyUe then ({ s with grants := s.grants.filter (fun h => h != g) }).policyLost i
  else
    let s := match work with
      | .ok => s
      | .ce => s.corrected none 0x0101
      | .ue => s.transient none 0x0102
    if work = .ue then s.repeatGrant g else s.commitVerdict f i g

/-- VERDICT_COMMIT: R32, R38, R45, R46, R49, R369 to R376, R382, R398, R597. -/
def execVerdictCommit (frame : Nat) (work : UnitEnd) (policyUe : Bool) (s : State) : Res :=
  match s.frame? frame, s.combineOf frame with
  | some f, some g => if Nat.ble 4 (s.since g.tick) then .next (s.endCombine f g.strand g work policyUe) else .next s
  | _, _ => .next s

end Sys2Proof.Machine
end

