-- ==== Sys2Proof/Machine/Sched.lean ====
section
/-!
DEFINITION. Stage wheels and grants: power-managed units, eligible work, owned and spare slots (R61 to R71, R77 to R79, R82,
R136, R139, R141, R157, R170, R264, R268, R396, R562 to R567).
-/
namespace Sys2Proof.Machine

/-- Index of a stage engine among the power-managed units (R562, chapter 15 "Registers"). -/
def unitOf (st : Stage) (e : Nat) : Nat :=
  match st with
  | .intake => e
  | .catalogue => 4 + e
  | .vitrine => 16 + e
  | .gather => 32 + e
  | .arbor => 80 + e
  | .galleries => 88 + e
  | .guard => 137
  | .verdict => 136

/-- Stage and engine of a power-managed unit. -/
def unitEngine (u : Nat) : Stage × Nat :=
  if u < 4 then (.intake, u) else if u < 16 then (.catalogue, u - 4) else if u < 32 then (.vitrine, u - 16)
  else if u < 80 then (.gather, u - 32) else if u < 88 then (.arbor, u - 80) else if u < 136 then (.galleries, u - 88)
  else (.verdict, 0)

/-- A power-managed unit. -/
def State.punit (s : State) (u : Nat) : PowerUnit := Tab.getD s.pwr.units u PowerUnit.reset

/-- A power-managed unit changed. -/
def State.modPunit (s : State) (u : Nat) (f : PowerUnit → PowerUnit) : State :=
  { s with pwr := { s.pwr with units := Tab.putD PowerUnit.reset s.pwr.units u (f (s.punit u)) } }

/-- Whether an engine is retired (R77, R562 state 3). -/
def State.engineRetired (s : State) (st : Stage) (e : Nat) : Bool :=
  match stageKind st with
  | some k => s.isRetired k e
  | none => false

/-- Whether an engine takes grants: in service and Running (R566, R567). -/
def State.engineRuns (s : State) (st : Stage) (e : Nat) : Bool :=
  !s.engineRetired st e && (s.punit (unitOf st e)).state == .running

/-- A unit has had eligible work until now (R565). -/
def State.touchUnit (s : State) (st : Stage) (e : Nat) : State := s.modPunit (unitOf st e) (fun u => { u with since := s.now })

/-- Frames of a Strand that stand in its queue, oldest first; replays apart. -/
def State.queueOf (s : State) (i : Nat) (replay : Bool) : List Frame :=
  s.frames.filter (fun f => f.strand == some i && f.kind.timed == !replay)

/-- The next Catalogue unit of a frame. -/
def nextText (f : Frame) : Option Work :=
  if screening f then
    (f.texts.find? (fun t => !t.held && !t.finished && (t.pin.isNone || Nat.blt t.granted t.units))).map (fun t => Work.text t.slot)
  else none

/-- The next search of a frame that bank `b` can run (R165, R167). Searches of stacked tables go over the stack. -/
def State.nextSearch (s : State) (b : Nat) (f : Frame) : Option Work :=
  if screening f then
    (f.searches.find? (fun x => x.state == .waiting && s.get (Fld.VIT_TABLE_CFG_STACK x.table) == 0
      && (s.liveBanks x.table).contains b)).map (fun x => Work.search x.id)
  else none

/-- The next group of trees of a frame. -/
def nextTrees (f : Frame) : Option Work :=
  if screening f then
    (f.models.find? (fun m => m.started && Nat.blt 0 m.treesToGrant)).map (fun m => Work.trees m.pos 0 m.treesToGrant)
  else none

/-- The next Gallery slot of a frame's program on Gallery `e` (R264): the scores are ready first, and a program that has begun
stays on its Gallery. -/
def State.nextProgram (s : State) (e : Nat) (f : Frame) : Option Work :=
  if screening f then
    (f.models.find? (fun m => m.started && m.treesToDo == 0 && m.readyAt.all s.reached && Nat.blt 0 m.slotsToGrant
      && (m.gallery.isNone || m.gallery == some e))).map (fun m => Work.program m.pos)
  else none

/-- The work of a frame that an engine could take at the start of a slot. -/
def State.frameWork (s : State) (st : Stage) (e : Nat) (f : Frame) : Option Work :=
  match st with
  | .intake => if f.phase = .parsing && !f.decided && Nat.blt 0 f.beatsToGrant then some .beat else none
  | .catalogue => nextText f
  | .vitrine => s.nextSearch e f
  | .arbor => nextTrees f
  | .galleries => s.nextProgram e f
  | .verdict => if readyToCombine f then some .combine else none
  | .gather => none
  | .guard => none

/-- The first eligible work of a Strand for an engine: its oldest frame first. -/
def State.strandWork (s : State) (st : Stage) (e i : Nat) (replay : Bool) : Option (Nat × Work) :=
  (s.queueOf i replay).findSome? (fun f => (s.frameWork st e f).map (fun w => (f.key, w)))

/-- Coves with a step in progress, which compete for Gallery slots as competitors 32 to 39 (R303, Table 8-8 GAL_SHARE). -/
def State.coveWorks (s : State) (c : Nat) : Bool := (Tab.getD s.srv.coves c Cove.reset).step.isSome

/-- A wheel. -/
def State.wheel (s : State) (st : Stage) (e : Nat) : Wheel := Tab.getD s.wheels (64 * stageIdx st + e) Wheel.reset

/-- A wheel changed. -/
def State.setWheel (s : State) (st : Stage) (e : Nat) (w : Wheel) : State :=
  { s with wheels := Tab.putD Wheel.reset s.wheels (64 * stageIdx st + e) w }

/-- R63, R65, R68: the shares of a stage in force from a boundary on: the Strands', then the Coves' of the Galleries. -/
def State.stageShares (s : State) (st : Stage) : List Nat :=
  (upto 32).map (fun i => if s.strandState i = .off then 0 else (s.strand i).shares.getD (stageIdx st) 0)
    ++ (if st = .galleries then (upto 8).map (fun c =>
          if s.flag (Fld.SRV_COVE_CFG_EN c) then s.get (Fld.SRV_COVE_CFG_GAL_SHARE c) else 0) else [])

/-- R68: shares and holders latched at a wheel's boundary. -/
def State.latchWheel (s : State) (st : Stage) (w : Wheel) : Wheel :=
  { w with shares := s.stageShares st, holder := (upto 32).map s.shareHolder }

/-- R63: an assignment of a wheel's 256 slots gives each competitor as many as its share, and nobody else any. -/
def sharesKept (shares : List Nat) (own : Nat → Option Nat) : Bool :=
  (upto 256).all (fun k => (own k).all (fun i => decide (i < shares.length)))
    && (upto shares.length).all (fun i => ((upto 256).filter (fun k => own k == some i)).length == shares.getD i 0)

/-- The slots of each competitor in a row, the first from slot 0 on. -/
def packedOwner (i : Nat) : List Nat → Nat → Option Nat
  | [], _ => none
  | a :: rest, k => if k < a then some i else packedOwner (i + 1) rest (k - a)

/-- R63, R64: the competitor that owns slot `k` of a wheel with these shares: a free value among the assignments that keep the
shares (log entry 8). -/
def wheelSlotOwner (shares : List Nat) (k : Nat) : Option Nat :=
  if shares.all (fun a => a == 0) then none
  else if sharesKept shares (Config.wheelOwner shares) then Config.wheelOwner shares k
  else packedOwner 0 shares k

/-- The competitor that owns the slot that starts now: a Strand, or a Cove from 32 on. -/
def slotOwner (w : Wheel) : Option Nat :=
  match wheelSlotOwner w.shares w.slot with
  | some i => if i < 32 then (w.holder.getD i none) else some i
  | none => none

/-- Whether a competitor has work eligible for an engine. -/
def State.hasWork (s : State) (st : Stage) (e i : Nat) : Bool :=
  if i < 32 then (s.strandWork st e i false).isSome else st == .galleries && s.coveWorks (i - 32)

/-- The band of a Cove: the highest among its requests. -/
def State.coveBand (s : State) (c : Nat) : Nat :=
  ((s.srv.requests.filter (fun r => r.cove == c)).map (fun r => r.band)).foldl min 2

/-- R67: who takes a spare or unreserved slot. -/
def State.spareTaker (s : State) (st : Stage) (e : Nat) (order : List Nat) : Option Nat :=
  let cands := (upto 40).filter (s.hasWork st e)
  let band := fun i => if i < 32 then bandOf (s.strand i).cls else s.coveBand (i - 32)
  minBy? cands (fun i => band i * 100 + (if order.contains i then 41 + order.idxOf i else i))

/-- The version of an item that a replay is to use (R396). -/
def replayPin (f : Frame) (k : ContentKind) (i : Nat) : Option Nat :=
  match f.kind with
  | .replay r => (r.versions.find? (fun v => v.1 == contentCode k && v.2.1 == i)).map (fun v => v.2.2)
  | _ => none

/-- The version of an item that a frame pins now: a replay's listed one, else the current one. -/
def State.pinVersion (s : State) (f : Frame) (k : ContentKind) (i : Nat) : Option Nat :=
  match replayPin f k i with
  | some v => some v
  | none => (s.currentOf k i).map (fun r => r.version)

/-- The vocabulary version that a frame pins (R136): its stream's, else the current one. -/
def State.vocabPin (s : State) (f : Frame) (v : Nat) : Nat :=
  let own := (f.stream.bind s.stream?).bind (fun x => Tab.get? x.pins v)
  own.getD ((s.pinVersion f .vocabulary v).getD 0)

/-- Content of a pinned version. -/
def State.contentOf (s : State) (k : ContentKind) (i v : Nat) : Bytes := ((s.resident k i v).map (fun r => r.bytes)).getD []

/-- R136, R139: at a frame's first Catalogue grant every vocabulary that it uses is pinned, and the units of each field follow. -/
def State.pinTexts (s : State) (f : Frame) : State :=
  if f.texts.any (fun t => t.pin.isSome) then s
  else
    let pin := fun (t : TextJob) =>
      let v := s.vocabPin f t.vocab
      { t with pin := some v, units := (tokenize (s.contentOf .vocabulary t.vocab v) t.text).units }
    let texts := f.texts.map (fun t => if t.finished then t else pin t)
    let s := s.modFrame f.key (fun f => { f with texts := texts })
    match f.stream with
    | some k => s.modStream k (fun x =>
        { x with pins := texts.foldl (fun p t => match t.pin with
            | some v => Tab.put p t.vocab v
            | none => p) x.pins })
    | none => s

/-- A text job changed. -/
def modText (slot : Nat) (g : TextJob → TextJob) (f : Frame) : Frame := { f with texts := mapWhere f.texts (fun t => t.slot == slot) g }

/-- A unit of work granted on an engine at the start of a slot. -/
def State.grantWork (s : State) (st : Stage) (e i k : Nat) (w : Work) : State :=
  let s := match w with
    | .beat => s.modFrame k (fun f => { f with beatsToGrant := f.beatsToGrant - 1 })
    | .text slot =>
      let s := match s.frame? k with
        | some f => s.pinTexts f
        | none => s
      s.modFrame k (modText slot (fun t => { t with granted := t.granted + 1 }))
    | .search id => s.grantSearch k id e
    | .trees pos _ _ => s.modFrame k (modModel pos (fun m => { m with treesToGrant := m.treesToGrant - 1 }))
    | .program pos => s.modFrame k (modModel pos (fun m => { m with slotsToGrant := m.slotsToGrant - 1, gallery := some e }))
    | .combine => s.modFrame k (fun f => { f with combineGranted := true })
  { s with grants := s.grants ++ [(⟨st, e, i, k, w, s.now⟩ : Grant)] }

/-- A competitor takes the slot. A Cove's rows compute in its slots; which ones is timing only (R299). -/
def State.grantTo (s : State) (st : Stage) (e i : Nat) (replay : Bool) : State :=
  match s.strandWork st e i replay with
  | some (k, w) => (s.grantWork st e i k w).touchUnit st e
  | none => s.touchUnit st e

/-- A replay takes a slot that nothing else takes (R396). -/
def State.replayTaker (s : State) (st : Stage) (e : Nat) : Option Nat :=
  (upto 32).find? (fun i => (s.strandWork st e i true).isSome)

/-- R66 to R68: the next slot of an engine's wheel starts. -/
def State.runSlot (s : State) (st : Stage) (e : Nat) : State :=
  let w := s.wheel st e
  let w := if w.slot = 0 then s.latchWheel st w else w
  let own := slotOwner w
  let next := (w.slot + 1) % 256
  let s := if st = .vitrine && w.slot == 0 then s.modVbank e (fun b => { b with updRev := 0, scrubRev := 0 }) else s
  match own.bind (fun i => if s.hasWork st e i then some i else none) with
  | some i => ((s.setWheel st e { w with slot := next }).count (Fld.TID_STAGE_GRANT_CNT (stageIdx st))).grantTo st e i false
  | none =>
    match s.spareTaker st e w.spareOrder with
    | some i =>
      ((s.setWheel st e { w with slot := next, spareOrder := Machine.served w.spareOrder i }).count
        (Fld.TID_STAGE_SPARE_CNT (stageIdx st))).grantTo st e i false
    | none =>
      let s := s.setWheel st e { w with slot := next }
      match s.replayTaker st e with
      | some i => (s.count (Fld.TID_STAGE_SPARE_CNT (stageIdx st))).grantTo st e i true
      | none => s

/-- Whether a stage runs wheels (R62). -/
def wheelStage (st : Stage) : Bool := st != .gather && st != .guard

/-- WHEEL_SLOT: R22, R28, R61 to R64, R66 to R68, R71, R78, R79, R82, R136, R139, R170, R180, R203, R264, R268, R370, R566,
R567. The wheel of an engine that is not Running stands still (R567). -/
def execWheelSlot (stage : Stage) (engine : Fin 48) (s : State) : Res :=
  if wheelStage stage && Nat.blt engine.val stage.engines && s.engineRuns stage engine.val && !s.stopped then
    .next (s.runSlot stage engine.val)
  else .next s

end Sys2Proof.Machine
end

