-- ==== Sys2Proof/Machine/Catalogue.lean ====
section
/-!
DEFINITION. The Catalogue at work: tokenizer units, n-gram keys, the input queue, BAD content (R126 to R144, R157, R158).
-/
namespace Sys2Proof.Machine

/-- The grant that runs on an engine of a stage. -/
def State.grantOn (s : State) (st : Stage) (e : Nat) : Option Grant := s.grants.find? (fun g => g.stage == st && g.engine == e)

/-- A grant is over. -/
def State.endGrant (s : State) (g : Grant) : State := { s with grants := s.grants.filter (fun h => h != g) }

/-- The searches of a slot's n-gram keys (R138, R169). A search of an n-gram key has the number 64 + 4096 × slot + ordinal. -/
def State.ngramSearches (s : State) (i : Nat) (t : TextJob) (spec : Bool) : List Search × Bool :=
  let m := s.keyMap i t.slot
  if bit m 0 then
    let (keys, cut) := ngramKeys t.tokens t.ngramN t.vocab t.slot (s.get (Fld.CAT_STRAND_CTL_NGRAM_MAX i))
    ((List.zip keys (upto keys.length)).map (fun e =>
      (⟨64 + 4096 * t.slot + e.2, t.slot, e.2, true, bits m 1 6, e.1, none, spec, .waiting, none⟩ : Search)), cut)
  else ([], false)

/-- A field's tokens are complete: its n-gram searches join the frame (R138, R396). -/
def State.formNgrams (s : State) (i : Nat) (t : TextJob) (f : Frame) : Frame × Bool :=
  let (xs, cut) := s.ngramSearches i t (!f.kind.timed)
  let xs := (s.recordedNgrams f t.slot).getD xs
  let open_ := f.texts.any (fun j => !j.finished && decide (1 ≤ j.ngramN ∧ j.ngramN ≤ 4))
  ({ f with searches := f.searches ++ xs, catFlags := f.catFlags ||| b2n cut, ngramsFormed := f.ngramsFormed || !open_ }, cut)

/-- The last unit of a field has completed (R133, R138, R141). -/
def State.finishText (s : State) (f : Frame) (i : Nat) (t : TextJob) : State :=
  let z := tokenize (s.contentOf .vocabulary t.vocab (t.pin.getD 0)) t.text
  let t := { t with tokens := z.tokens, finished := true }
  let s := (s.countBy Fld.CAT_FALLBACK_CNT z.fallback).modFrame f.key (modText t.slot (fun _ => t))
  let f := (s.frame? f.key).getD f
  let (f, cut) := s.formNgrams i t f
  let s := if cut then s.count Fld.CAT_NGRAM_TRUNC_CNT else s
  (((s.putFrame (settleStages f)).queueFreed i)).checkFrame f.key

/-- A unit of a field completes without error. -/
def State.textUnitDone (s : State) (g : Grant) (slot : Nat) : State :=
  let s := (s.endGrant g).count Fld.CAT_UNIT_CNT
  match s.frame? g.frame with
  | none => s
  | some f =>
    match f.texts.find? (fun t => t.slot == slot && !t.finished) with
    | none => s
    | some t =>
      let t := { t with done := t.done + 1 }
      if t.units ≤ t.done then s.finishText f g.strand t else s.modFrame f.key (modText slot (fun _ => t))

/-- A unit of a tokenizer engine ends; `contentUe` says that the vocabulary's SRAM held an uncorrectable error (R157, R158). -/
def State.endTextUnit (s : State) (g : Grant) (slot : Nat) (work : UnitEnd) (contentUe : Bool) : State :=
  let pin := (s.frame? g.frame).bind (fun f => (f.texts.find? (fun t => t.slot == slot)).bind (fun t => t.pin.map (fun v => (t.vocab, v))))
  let s := match contentUe, pin with
    | true, some (i, v) => s.markBad .vocabulary i v
    | _, _ => s
  let bad := match pin with
    | some (i, v) => s.contentBad .vocabulary i v
    | none => false
  let s := match work with
    | .ce => (s.count Fld.CAT_ECC_CNT).engineEnd (some ⟨.catalogue, g.engine⟩) .ce
    | _ => s.engineEnd (some ⟨.catalogue, g.engine⟩) work
  if work = .ue || bad then s.repeatGrant g else s.textUnitDone g slot

/-- CATALOGUE_UNIT_DONE: R126, R127, R129 to R135, R138 to R144, R157, R158, R169, R351. A unit takes one slot of 32 ns. -/
def execCatalogueUnitDone (engine : Fin 12) (work : UnitEnd) (contentUe : Bool) (s : State) : Res :=
  match s.grantOn .catalogue engine.val with
  | some g =>
    match g.work with
    | .text slot => if Nat.ble 16 (s.since g.tick) then .next ((s.endTextUnit g slot work contentUe).touchUnit .catalogue engine.val) else .next s
    | _ => .next s
  | none => .next s

end Sys2Proof.Machine
end

