-- ==== Sys2Proof/Machine/Gather.lean ====
section
/-!
DEFINITION. Gather at work: engine contexts, walks, credits, restarts (R217, R221 to R235, R242 to R244, R247).
-/
namespace Sys2Proof.Machine

/-- The entities of a frame, by slot (R221). -/
def entitiesOf (f : Frame) : Entities :=
  (f.fields.filter (fun x => x.role == 2)).map (fun x => (x.slot, entityKey x.num x.val))

/-- DIR_LOG2 of a graph. -/
def State.dirLog2 (s : State) (g : Nat) : Nat := s.get (Fld.GTH_GRAPH_GEOM_DIR_LOG2 g)

/-- The credit deadline of a frame; a replay has none (R232, R396). -/
def State.creditDeadline (s : State) (f : Frame) (i : Nat) : Option Nat :=
  if f.kind.timed then
    let t := w64 (f.tArr + s.get (Fld.GTH_STRAND_CFG_ALLOW_US i) * 500)
    some (if tickBefore f.tDl t then f.tDl else t)
  else none

/-- Whether the credit deadline of a frame has come. -/
def State.creditsLate (s : State) (f : Frame) (i : Nat) : Bool :=
  match s.creditDeadline f i with
  | some t => s.reached t
  | none => false

/-- Contexts of an engine in use. -/
def State.contextsUsed (s : State) (e : Nat) : List Nat :=
  s.frames.filterMap (fun f => f.walk.bind (fun w => if w.engine = e && screening f then some w.ctx else none))

/-- R234: the lowest free context of the lowest-numbered live engine that has one. -/
def State.freeContext (s : State) : Option (Nat × Nat) :=
  (s.liveEngines .gather).findSome? (fun e =>
    ((upto 8).find? (fun c => !(s.contextsUsed e).contains c)).map (fun c => (e, c)))

/-- R234: reads are requested for chains in order, at most 32 outstanding. -/
def requestReads (now : Nat) : Nat → List Chain1 → List Chain1
  | _, [] => []
  | n, c :: cs =>
    if c.req.isSome then c :: requestReads now n cs
    else match n with
      | 0 => c :: cs
      | n + 1 => { c with req := some now } :: requestReads now n cs

/-- Reads of a walk that are requested and have not returned. -/
def outstanding (cs : List Chain1) : Nat := (cs.filter (fun c => c.req.isSome)).length

/-- The next hop's chains of reads of a walk, and the hops after it. -/
def nextHop (src : Nat) (hops : List (List Nat)) : List Chain1 × List (List Nat) :=
  match hops with
  | [] => ([], [])
  | h :: t => ((h.filter (fun n => n != 0)).map (fun n => (⟨src, n, none, none⟩ : Chain1)), t)

/-- Hops of a walk whose sets are empty read nothing: they are passed at once; `fuel` bounds the hops. -/
def enterHops (src : Nat) : Nat → List (List Nat) → List Chain1 × List (List Nat)
  | 0, hs => ([], hs)
  | fuel + 1, hs =>
    let (cs, t) := nextHop src hs
    if cs.isEmpty && !t.isEmpty then enterHops src fuel t else (cs, t)

/-- The reads that follow: lookups first, then the hops of both walks side by side, then the operations' own (R223, R225,
R226). -/
def advanceWalk (now : Nat) (w : Walk) : Walk :=
  let has := fun (src : Nat) => w.active.any (fun c => c.src == src)
  let (ca, ha) := if has 0 || has 1 then ([], w.hopsA) else enterHops 1 5 w.hopsA
  let (cb, hb) := if has 0 || has 2 then ([], w.hopsB) else enterHops 2 5 w.hopsB
  let active := w.active ++ ca ++ cb
  let (ops, active) := if active.isEmpty && ha.isEmpty && hb.isEmpty then
      ([], (w.ops.filter (fun n => n != 0)).map (fun n => (⟨3, n, none, none⟩ : Chain1)))
    else (w.ops, active)
  { w with hopsA := ha, hopsB := hb, ops := ops, active := requestReads now (32 - outstanding active) active }

/-- A walk taken into a context with version `p` pinned (R217, R223). -/
def State.newWalk (s : State) (f : Frame) (i e c p : Nat) : Walk :=
  let g := s.graphOf i
  let r := walksOf (s.graph g) (s.dirLog2 g) p (s.viewOf i) (entitiesOf f)
  let looks := (r.lookups.filter (fun n => n != 0)).map (fun n => (⟨0, n, none, none⟩ : Chain1))
  advanceWalk s.now ⟨e, c, g, p, looks, r.a.reads, r.b.reads, r.opReads, 0⟩

/-- A walk none of whose reads is left. -/
def walkOver (w : Walk) : Bool := w.active.isEmpty && w.hopsA.isEmpty && w.hopsB.isEmpty && w.ops.isEmpty

/-- R226, R227: a walk ends: its operations are evaluated, its pin is released. -/
def State.finishWalk (s : State) (f : Frame) (i : Nat) (w : Walk) : State :=
  let g := s.graph w.graph
  let view := s.viewOf i
  let es := entitiesOf f
  let r := walksOf g (s.dirLog2 w.graph) w.pin view es
  let out : GatherOut := ⟨gatherFeats g (s.dirLog2 w.graph) w.pin view es r, r.flags, w.pin, w.graph, w.credits⟩
  let s := (s.count Fld.GTH_WALK_CNT).countBy Fld.GTH_ROOT_MISS_CNT (b2n (bit r.flags 2) + b2n (bit r.flags 3))
  (s.modFrame f.key (fun f => settleStages { f with walk := none, gather := some out })).touchUnit .gather w.engine

/-- A walk's new state is stored, or the walk ends. -/
def State.putWalk (s : State) (f : Frame) (i : Nat) (w : Walk) : State :=
  if walkOver w then s.finishWalk f i w else s.modFrame f.key (fun f => { f with walk := some w })

/-- Whether a frame waits for a context. -/
def walkWaits (f : Frame) : Bool := screening f && usesStage f .gather && !f.walkStarted && f.gather.isNone

/-- The version that a walk pins: the one it held before a restart, a replay's listed one, else C_g (R217, R242, R396). -/
def State.graphPin (s : State) (f : Frame) (i : Nat) : Nat :=
  match f.walkPin, replayPin f .graph (s.graphOf i) with
  | some p, _ => p
  | none, some p => p
  | none, none => (s.graph (s.graphOf i)).ver

/-- A walk is taken into a free context. -/
def State.startWalk (s : State) (f : Frame) (i e c : Nat) : State :=
  let w := s.newWalk f i e c (s.graphPin f i)
  let s := s.modFrame f.key (fun f => { f with walkStarted := true, walkPin := none })
  s.putWalk f i w

/-- GATHER_WALK_START: R214, R217, R221, R223, R224, R232, R234, R242. The context is the lowest free one of the
lowest-numbered live engine; where that engine is not Running, the walk waits for its wake (R566). -/
def execGatherWalkStart (frame : Nat) (s : State) : Res :=
  match s.frame? frame, s.freeContext with
  | some f, some (e, c) =>
    match f.strand with
    | some i =>
      if walkWaits f && !s.creditsLate f i && s.engineRuns .gather e && !s.stopped then .next (s.startWalk f i e c) else .next s
    | none => .next s
  | _, _ => .next s

/-- A read that waits for a credit: when requested, engine, context, place in its walk, frame. -/
structure ReadWait where
  req : Nat
  engine : Nat
  ctx : Nat
  pos : Nat
  frame : Nat
  deriving DecidableEq, Repr

/-- The reads of a Strand that wait for credits, of its frames or of its replays. -/
def State.readWaits (s : State) (i : Nat) (replay : Bool) : List ReadWait :=
  (s.queueOf i replay).flatMap (fun f =>
    if screening f && !s.creditsLate f i then
      match f.walk with
      | some w => (List.zip w.active (upto w.active.length)).filterMap (fun e => match e.1.req, e.1.granted with
          | some t, none => some ⟨t, w.engine, w.ctx, e.2, f.key⟩
          | _, _ => none)
      | none => []
    else [])

/-- R231: order among the reads of a Strand. -/
def readBefore (a b : ReadWait) : Bool :=
  tickBefore a.req b.req || (a.req == b.req
    && (Nat.blt a.engine b.engine || (a.engine == b.engine
      && (Nat.blt a.ctx b.ctx || (a.ctx == b.ctx && Nat.blt a.pos b.pos)))))

/-- The read of a Strand that is granted next. -/
def State.nextRead (s : State) (i : Nat) (replay : Bool) : Option ReadWait :=
  (s.readWaits i replay).foldl (fun best r => match best with
    | none => some r
    | some b => if readBefore r b then some r else some b) none

/-- The pools that a Strand draws on, by R68: its own, and its Twin's while that belongs to it. -/
def State.poolsOf (s : State) (i : Nat) : List Nat :=
  [i, twinOf i].filter (fun j => s.gth.holder.getD j none == some i)

/-- A pool of a Strand's that covers a read. -/
def State.poolFor (s : State) (i : Nat) : Option Nat := (s.poolsOf i).find? (fun j => Nat.ble 5 (s.get (Fld.GTH_STRAND_POOL j)))

/-- R67, R231: the Strand whose read the spare pool serves next. -/
def State.spareReader (s : State) : Option Nat :=
  spareChoice s s.gth.spareOrder ((upto 32).filter (fun i => (s.poolFor i).isNone && (s.nextRead i false).isSome))

/-- A read is granted. -/
def State.markGranted (s : State) (r : ReadWait) : State :=
  (s.modFrame r.frame (fun f => { f with walk := f.walk.map (fun w =>
    { w with credits := w.credits + 1, active := modifyAt w.active r.pos (fun c => { c with granted := some s.now }) }) })).count
    Fld.GTH_READ_CNT

/-- R231: a read of Strand `i` is granted from a pool of its own. -/
def State.grantReserved (s : State) (j : Nat) (r : ReadWait) : State :=
  let s := s.set (Fld.GTH_STRAND_POOL j) (s.get (Fld.GTH_STRAND_POOL j) - 5)
  (s.count (Fld.TID_STAGE_GRANT_CNT 3)).markGranted r

/-- R67, R231: a read of Strand `i` is granted from the spare pool. -/
def State.grantSpare (s : State) (i : Nat) (replay : Bool) (r : ReadWait) : State :=
  let s := s.set Fld.GTH_SPARE_POOL (s.get Fld.GTH_SPARE_POOL - 5)
  let s := if replay then s else { s with gth := { s.gth with spareOrder := Machine.served s.gth.spareOrder i } }
  (s.count (Fld.TID_STAGE_SPARE_CNT 3)).markGranted r

/-- GATHER_READ_GRANT: R67 to R69, R229, R231, R232, R396: the next read of a Strand. -/
def execGatherReadGrant (strand : Fin 32) (s : State) : Res :=
  let i := strand.val
  if s.stopped then .next s
  else match s.nextRead i false, s.poolFor i with
    | some r, some j => .next (s.grantReserved j r)
    | some r, none =>
      if s.spareReader = some i && Nat.ble 5 (s.get Fld.GTH_SPARE_POOL) then .next (s.grantSpare i false r) else .next s
    | none, _ =>
      match s.nextRead i true with
      | some r => if s.spareReader = none && Nat.ble 5 (s.get Fld.GTH_SPARE_POOL) then .next (s.grantSpare i true r) else .next s
      | none => .next s

/-- A chain whose read has returned. -/
def returnRead (now pos : Nat) (w : Walk) : Walk :=
  let active := modifyAt w.active pos (fun c =>
    { c with left := c.left - 1, granted := none, req := if c.left ≤ 1 then none else some now })
  advanceWalk now { w with active := active.filter (fun c => c.left != 0) }

/-- R242, R243: the walk of a frame starts again, or the frame is UNSCREENED. -/
def State.repeatWalk (s : State) (k : Nat) : State :=
  let (ok, s) := s.retryFrame k .gather
  if ok then s.modFrame k restartWalk else s.modFrame k (fun f => { f with walk := none })

/-- The end of a read, by how HBM gave it. -/
def State.endRead (s : State) (f : Frame) (i : Nat) (w : Walk) (pos : Nat) (e : UnitEnd) : State :=
  let s := s.touchUnit .gather w.engine
  match e with
  | .ok => s.putWalk f i (returnRead s.now pos w)
  | .ce => ((s.hbmCe).count Fld.GTH_ECC_CNT).repeatWalk f.key
  | .ue => ((s.hbmUe 1).damageGraph w.graph).repeatWalk f.key

/-- The walk of a frame with a granted read at a place of it, and since when. -/
def State.readAt (s : State) (frame pos : Nat) : Option (Frame × Nat × Walk × Nat) :=
  match s.frame? frame with
  | some f =>
    match f.strand, (if screening f then f.walk else none) with
    | some i, some w => ((w.active[pos]?).bind (fun c => c.granted)).map (fun t => (f, i, w, t))
    | _, _ => none
  | none => none

/-- GATHER_READ_RETURN: R223 to R227, R233, R235, R242, R243. `pos` is the place of the read in its walk. -/
def execGatherReadReturn (frame pos : Nat) (read : UnitEnd) (s : State) : Res :=
  match s.readAt frame pos with
  | some (f, i, w, t) => if Nat.ble 75 (s.since t) then .next (s.endRead f i w pos read) else .next s
  | none => .next s

/-- GATHER_READ_TIMEOUT: R235, R242. -/
def execGatherReadTimeout (frame pos : Nat) (s : State) : Res :=
  match s.readAt frame pos with
  | some (f, _, w, t) =>
    if Nat.ble 5000 (s.since t) then
      .next (((s.count Fld.GTH_READ_TMO_CNT).transient (some ⟨.gather, w.engine⟩) 0x0402).repeatWalk f.key)
    else .next s
  | none => .next s

/-- R229: the pools at a boundary. -/
def State.fillPools (s : State) : State :=
  let old := sumBy (upto 32) (fun i => s.get (Fld.GTH_STRAND_POOL i))
  let share := s.get Fld.GTH_CTL_DELTA_SHARE
  let s := (upto 32).foldl (fun s i =>
    s.set (Fld.GTH_STRAND_POOL i) (if s.strandState i = .off then 0 else 152 * (s.strand i).shares.getD 3 0)) s
  let s := s.set Fld.GTH_SPARE_POOL (152 * (256 - (s.shareSum 3 + share)) + old)
  { s with gth := { s.gth with deltaPool := 152 * share } }

/-- R68, Table 2-6: the holders of Gather and guard shares at a boundary; the request slots of paused requests are free for
admission from here on. -/
def State.latchShares (s : State) : State :=
  { s with gth := { s.gth with holder := (upto 32).map s.shareHolder, period := some (s.now / 2048) }
           srv := { s.srv with requests := s.srv.requests.map (fun r => { r with counted := !r.paused }) } }

/-- CREDIT_BOUNDARY: R28, R68, R69, R229, R247, once at each multiple of 2,048 ticks. Credits are issued once the first
engine has left Parked. -/
def execCreditBoundary (s : State) : Res :=
  if s.now % 2048 = 0 && s.gth.period != some (s.now / 2048) then
    let s := s.latchShares
    .next (if s.gth.issuing then s.fillPools else s)
  else .next s

/-- Whether a frame at its credit deadline still lacks a grant. -/
def lacksCredit (f : Frame) : Bool :=
  walkWaits f || (screening f && (match f.walk with
    | some w => w.active.any (fun c => c.granted.isNone)
    | none => false))

/-- R232: a walk aborts for want of credits. -/
def State.creditFail (s : State) (k : Nat) : State :=
  ((((s.modFrame k (fun f => { f with walk := none, walkPin := none })).count Fld.GTH_CREDIT_FAIL_CNT).setBits Fld.TID_SAT_STATUS 1)).cause k .credit

/-- CREDIT_DEADLINE: R73, R81, R217, R232. -/
def execCreditDeadline (frame : Nat) (s : State) : Res :=
  match s.frame? frame with
  | some f =>
    match f.strand with
    | some i => if lacksCredit f && s.creditsLate f i then .next (s.creditFail frame) else .next s
    | none => .next s
  | none => .next s

end Sys2Proof.Machine
end

