-- ==== Sys2Proof/Machine/GuardOps.lean ====
section
/-!
DEFINITION. Guard requests between their frames and their Coves: what a request pins, its prompt, its stage output, its
records, its end (R284, R285, R309, R310, R313, R320, Tables 8-1 to 8-5).
-/
namespace Sys2Proof.Machine

/-- A list of token IDs of GUARD_PARAMS (Table 8-1). -/
def tokenList (g : Bytes) (off n : Nat) : List Nat := (upto n).map (fun i => bits (le g (off + 4 * i) 4) 0 18)

/-- PRE tokens of GUARD_PARAMS. -/
def preTokens (g : Bytes) : List Nat := tokenList g (le g 28 4) (le g 24 2)

/-- POST tokens of GUARD_PARAMS. -/
def postTokens (g : Bytes) : List Nat := tokenList g (le g 32 4) (le g 26 2)

/-- MAX_NEW of GUARD_PARAMS. -/
def maxNew (g : Bytes) : Nat := le g 12 2

/-- The label of an automaton state under GUARD_PARAMS (R309). -/
def labelOf (g : Bytes) (q : Nat) : Option Nat :=
  let es := (upto (le g 14 2)).map (fun i => le g (le g 36 4 + 4 * i) 4)
  (es.find? (fun e => bits e 0 16 == q)).map (fun e => bits e 16 8)

/-- What a request pins (R274, R275, R287, R300): versions and bytes of its model, vocabulary and automaton; whether one of them
is missing or BAD. -/
structure GuardPins where
  model : Nat
  modelVer : Nat
  container : Bytes
  vocab : Nat
  vocabVer : Nat
  voc : Bytes
  aut : Nat
  autVer : Nat
  autBytes : Bytes
  bad : Bool
  deriving DecidableEq, Repr

/-- The content of a request's versions. -/
def State.pinsOf (s : State) (model modelVer : Nat) : GuardPins :=
  let c := s.contentOf .model model modelVer
  let g := guardParams c
  let vi := byteAt c 24 % 16
  let vv := le c 28 4
  let ai := byteAt g 16 % 32
  let av := le g 20 4
  ⟨model, modelVer, c, vi, vv, s.contentOf .vocabulary vi vv, ai, av, s.contentOf .automaton ai av,
   s.contentBad .model model modelVer || s.contentBad .vocabulary vi vv || s.contentBad .automaton ai av⟩

/-- What a request of frame `f` on Cove `c` pins now. -/
def State.guardPinsNow (s : State) (f : Frame) (c : Nat) : GuardPins :=
  let m := s.get (Fld.SRV_COVE_CFG_MODEL c)
  s.pinsOf m ((s.pinVersion f .model m).getD 0)

/-- The content of the versions that a request pinned. -/
def State.requestPins (s : State) (r : Request) : GuardPins := s.pinsOf r.model r.modelVer

/-- The tokens of a frame's GUARD field under a request's vocabulary. Where its slot's vocabulary is another version, the field
is tokenized under the request's (log entry 34). -/
def fieldTokens (f : Frame) (p : GuardPins) : List Nat :=
  match guardJob f with
  | none => []
  | some t => if t.vocab == p.vocab && t.pin == some p.vocabVer then t.tokens else (tokenize p.voc t.text).tokens

/-- R285: the field's tokens as the prompt keeps them, and whether they were cut. -/
def keptTokens (g : Bytes) (ts : List Nat) : List Nat × Bool :=
  let room := 16384 - maxNew g - le g 24 2 - le g 26 2
  if ts.length ≤ room then (ts, false)
  else if bit (byteAt g 11) 0 then (ts.drop (ts.length - room), true)
  else (ts.take room, true)

/-- The 16 bytes of a guard stage output (Table 8-3). -/
def outputBytes (status label q gen : Nat) (cut : Bool) (req : Nat) : Bytes :=
  [byte status, byte label] ++ toLe 2 q ++ toLe 2 (gen % 16384 + 16384 * b2n cut) ++ [0, 0] ++ toLe 4 req ++ zeros 4

/-- The cause that a delivered output means for its frame (R310). -/
def outputCause (status : Nat) : Option Reason :=
  if status = 7 then some .admission
  else if status = 5 then some .deadline
  else if status = 4 ∨ status = 6 ∨ status = 8 ∨ status = 9 then some .stageFault
  else none

/-- R307, R310: a guard stage output reaches the combiner. A frame whose outcome is final takes it no more. -/
def State.takeOutput (s : State) (k : Nat) (g : GuardOut) : State :=
  let s := s.modFrame k (fun f => if f.decided then f else settleStages { f with guard := some g })
  match outputCause g.status with
  | some r => s.cause k r
  | none => s

/-- A batch record (Table 8-5). -/
def recordBytes (r : Request) (stepNo status flags : Nat) (text : Bytes) : Bytes :=
  toLe 4 (requestId r) ++ toLe 4 stepNo ++ toLe 8 r.frameId ++ toLe 2 text.length ++ [byte r.cove, byte flags] ++ toLe 2 r.seq
    ++ [byte status, byte r.label] ++ toLe 4 r.toks.length ++ zeros 4 ++ text

/-- R313, R320: a record of a request joins those that its Cove is to post from `due` on. -/
def State.queueRecord (s : State) (slot flags : Nat) (text : Bytes) (reply : Option CmdRef) (due : Nat) : State :=
  match s.request? slot with
  | none => s
  | some r =>
    let rec_ : RecPost :=
      ⟨slot, requestId r, r.frameId, r.seq, recordBytes r (s.cove r.cove).stepNo r.status flags text, bit flags 0, reply, due⟩
    (s.modRequest slot (fun r => { r with seq := (r.seq + 1) % 65536 })).modCove r.cove (fun c => { c with records := c.records ++ [rec_] })

/-- Counters of the statuses with which requests end. -/
def State.countEnd (s : State) (status : Nat) : State :=
  match status with
  | 4 => s.count Fld.SRV_CANCEL_CNT
  | 5 => s.count Fld.SRV_DEADLINE_CNT
  | 6 => s.count Fld.CAT_GRAMMAR_DEAD_CNT
  | 8 => s.count Fld.SRV_FAULT_CNT
  | 9 => s.count Fld.SRV_EXPIRE_CNT
  | _ => s

/-- A request ends with a status (R314); a cache that stands in the Archive tier is given up, one in transfer once the transfer is
over. -/
def State.endRequest (s : State) (slot status : Nat) : State :=
  let s := match (s.request? slot).map (fun r => r.place) with
    | some (.archived k) => (s.dropEntry k).modRequest slot (fun r => { r with place := .hbm })
    | _ => s
  (s.countEnd status).modRequest slot (fun r => { r with state := .ended, status := status })

/-- The lowest request slot that is FREE. -/
def State.freeSlot (s : State) : Option Nat := (upto 8192).find? (fun i => (s.request? i).isNone)

/-- R70, R355: request slots of a Strand that count against its share. -/
def State.slotsCounted (s : State) (i : Nat) : Nat := (s.srv.requests.filter (fun r => r.strand == i && r.counted)).length

/-- R70: request slots that a Strand's own shares hold for it. -/
def State.slotsOwned (s : State) (i : Nat) : Nat := 32 * sumBy (s.poolsOf i) (fun j => (s.strand j).shares.getD 6 0)

/-- R324: a Cove with a request in PREFILL, DECODE or CANCELLING. -/
def State.coveActive (s : State) (c : Nat) : Bool :=
  s.srv.requests.any (fun r => r.cove == c && (r.state == .prefill || r.state == .decode || r.state == .cancelling))

/-- R324: the tick from which a Cove with such requests has not reached a commit point. -/
def State.noteActive (s : State) (c : Nat) : State :=
  if s.coveActive c then
    s.modCove c (fun x => { x with activeSince := match x.activeSince with
      | some t => some t
      | none => some s.now })
  else s.modCove c (fun x => { x with activeSince := none })

end Sys2Proof.Machine
end

