-- ==== Sys2Proof/Machine/GuardAdmit.lean ====
section
/-!
DEFINITION. Admission of guard requests: Breakwater, prefix reuse, reservation; deadlines and cancels; the commands GS_CANCEL,
GS_QUERY, GS_PREFIX_FLUSH; the end of a request's slot (R282 to R286, R294 to R301, R311, R315 to R321, R350 to R352).
-/
namespace Sys2Proof.Machine

/-- The Cove of a frame's guard request (R282). -/
def State.coveOf (s : State) (f : Frame) : Nat := s.get (Fld.SRV_STRAND_GUARD_COVE (f.strand.getD 0))

/-- Whether a frame has a guard request to make. -/
def wantsGuard (f : Frame) : Bool := screening f && f.guardReady.isSome && f.request.isNone && f.guard.isNone

/-- Order of admission (R351): the tick at which the tokens were ready, the Strand, the frame ID. -/
def admitBefore (a b : Frame) : Bool :=
  let x := a.guardReady.getD 0
  let y := b.guardReady.getD 0
  Nat.blt x y || (x == y && (Nat.blt (a.strand.getD 0) (b.strand.getD 0) || (a.strand == b.strand && Nat.blt a.id b.id)))

/-- Whether a frame's admission comes next on its Cove. -/
def State.admitNext (s : State) (f : Frame) : Bool :=
  wantsGuard f && !s.stopped && s.frames.all (fun g => !(wantsGuard g && s.coveOf g == s.coveOf f && admitBefore g f))

/-- What an admission weighs: the Cove, the pins, the prompt, the blocks found in the prefix table, the private block need. -/
structure Admission where
  frame : Frame
  cove : Nat
  band : Nat
  pins : GuardPins
  prompt : List Nat
  cut : Bool
  shared : List Nat
  mismatch : Bool
  need : Nat
  deriving DecidableEq, Repr

/-- R300 steps 1 to 3, R301. A prompt without a token matches nothing (log entry 35). -/
def State.admissionOf (s : State) (f : Frame) : Admission :=
  let c := s.coveOf f
  let p := s.guardPinsNow f c
  let g := guardParams p.container
  let (ts, cut) := keptTokens g (fieldTokens f p)
  let prompt := preTokens g ++ ts ++ postTokens g
  let digest := ((s.resident .model p.model p.modelVer).map (fun r => r.digest)).getD []
  let (bs, mis) := matchPrefix (s.cove c) (chainHashes ((prompt.length - 1) / 64) (digest.take 16) prompt)
  let band := if f.kind.timed then bandOf f.cls else 2
  ⟨f, c, band, p, prompt, cut, bs, mis, ceilDiv (prompt.length + maxNew g) 64 - bs.length + 1⟩

/-- Test 4 of Table 9-3: unprefilled prompt positions of the bands at and above, the request's own included. -/
def State.backlog (s : State) (a : Admission) : Nat :=
  sumBy (s.srv.requests.filter (fun r => r.cove == a.cove && r.state == .prefill && Nat.ble r.band a.band))
    (fun r => promptLen r - r.prefilled) + (a.prompt.length - 64 * a.shared.length)

/-- FLOOR_b. -/
def State.floorOf (s : State) (c band : Nat) : Nat :=
  if band = 0 then 0 else if band = 1 then s.get (Fld.SRV_BRK_FLOOR_MEAN c) else s.get (Fld.SRV_BRK_FLOOR_NEAP c)

/-- PF_b. -/
def State.backlogLimit (s : State) (c band : Nat) : Nat :=
  if band = 0 then s.get (Fld.SRV_BRK_PF_SPRING c) else if band = 1 then s.get (Fld.SRV_BRK_PF_MEAN c) else s.get (Fld.SRV_BRK_PF_NEAP c)

/-- Test 5 of Table 9-3; a replay has no deadline (R396). -/
def State.timeTest (s : State) (a : Admission) : Bool :=
  let ps := s.get (Fld.SRV_BRK_TIME_PF_PS a.cove)
  ps == 0 || !a.frame.kind.timed
    || (!s.reached a.frame.tDl && decide (ceilDiv (s.backlog a * ps) 2000 + s.get (Fld.SRV_BRK_TIME_LABEL_MARGIN_US a.cove) * 500
      < w64 (a.frame.tDl + 2 ^ 64 - s.now)))

/-- R350: the counter of the first test of Table 9-3 that fails. Blocks that the prompt matches are no longer reclaimable (R297). -/
def State.breakwater (s : State) (a : Admission) : Option Fld :=
  let room := s.freeBlocks a.cove + (holdBlocks (s.cove a.cove) a.shared).reclaim.length
  let pf := s.backlogLimit a.cove a.band
  if (s.cove a.cove).wedged then some Fld.SRV_BRK_SLOT_CNT
  else if s.freeSlot.isNone then some Fld.SRV_BRK_SLOT_CNT
  else if room < a.need + s.floorOf a.cove a.band then some Fld.SRV_BRK_BLOCK_CNT
  else if pf ≠ 0 ∧ pf * 1024 < s.backlog a then some Fld.SRV_BRK_BACKLOG_CNT
  else if !s.timeTest a then some Fld.SRV_BRK_TIME_CNT
  else none

/-- The request that an admission makes, in a slot, in ADMITTING. -/
def State.newRequest (s : State) (a : Admission) (slot : Nat) : Request :=
  let f := a.frame
  { slot := slot, gen := Tab.getD s.srv.gens slot 0, state := .admitting, status := 0, frame := f.key, frameId := f.id
    strand := f.strand.getD 0, band := a.band, cove := a.cove, tDl := if f.kind.timed then some f.tDl else none, seed := f.seed
    model := a.pins.model, modelVer := a.pins.modelVer, vocab := a.pins.vocab, vocabVer := a.pins.vocabVer
    aut := a.pins.aut, autVer := a.pins.autVer, prompt := a.prompt, toks := [], truncated := a.cut
    q := autStart a.pins.autBytes, r := 0, carry := [], label := 0, delivered := false, shared := [], priv := []
    need := a.need, prefilled := 0, order := 0, seq := 0, lastStep := 0, cancel := none, doom := none, paused := false
    pauseOrder := 0, place := .hbm, resumeTry := false, counted := true, draft := [], finalPosted := false }

/-- The frame of a request knows it, with what it pinned (R386, Table 10-6). -/
def State.bindRequest (s : State) (a : Admission) (slot : Nat) : State :=
  let p := a.pins
  let digest := ((s.resident .model p.model p.modelVer).map (fun r => r.digest)).getD []
  s.modFrame a.frame.key (fun f => { f with request := some slot, guardDigest := digest
                                            guardPins := [(4, p.vocab, p.vocabVer), (5, p.model, p.modelVer), (7, p.aut, p.autVer)] })

/-- A request that makes no step: it ends with a status, its stage output is delivered, its FINAL record follows. -/
def State.endAtAdmission (s : State) (slot status : Nat) : State :=
  match s.request? slot with
  | none => s
  | some r =>
    let s := (s.endRequest slot status).modRequest slot (fun r => { r with delivered := true })
    let s := s.queueRecord slot 1 [] none s.now
    s.takeOutput r.frame ⟨requestId r, status, 0, outputBytes status 0 r.q 0 r.truncated (requestId r)⟩

/-- R352: a refusal. Where no slot is free there is no request to end: the frame's output carries request ID 0 (log entry 36). -/
def State.refuseRequest (s : State) (a : Admission) (why : Fld) : State :=
  let s := (s.count why).setBits Fld.TID_SAT_STATUS 2
  match s.freeSlot with
  | none => s.takeOutput a.frame.key ⟨0, 7, 0, outputBytes 7 0 0 0 a.cut 0⟩
  | some slot =>
    let s := { s with srv := { s.srv with requests := s.newRequest a slot :: s.srv.requests } }
    (s.bindRequest a slot).endAtAdmission slot 7

/-- R70, R300 step 5, R301: a request is admitted: a slot, references on the blocks matched, its private blocks. -/
def State.admitRequest (s : State) (a : Admission) (slot : Nat) : State :=
  let held := holdBlocks (s.cove a.cove) a.shared
  match allocBlocks (s.get (Fld.SRV_COVE_BLOCKS a.cove)) a.need held with
  | none => s.refuseRequest a Fld.SRV_BRK_BLOCK_CNT
  | some (priv, cove) =>
    let own := Nat.blt (s.slotsCounted (a.frame.strand.getD 0)) (s.slotsOwned (a.frame.strand.getD 0))
    let s := s.count (if own then Fld.TID_STAGE_GRANT_CNT 6 else Fld.TID_STAGE_SPARE_CNT 6)
    let r := { s.newRequest a slot with state := .prefill, shared := a.shared, priv := priv, prefilled := 64 * a.shared.length
                                        order := cove.admitted }
    let s := s.modCove a.cove (fun _ => { cove with admitted := cove.admitted + 1 })
    let s := { s with srv := { s.srv with requests := r :: s.srv.requests } }
    (s.bindRequest a slot).noteActive a.cove

/-- The admission of a frame's guard request, decided at once. A version that is missing or BAD ends it FAULT (R278). -/
def State.decideAdmission (s : State) (f : Frame) : State :=
  let a := s.admissionOf f
  let s := if a.cut then (s.count Fld.SRV_TRUNC_CNT).modFrame f.key (fun f => { f with catFlags := f.catFlags ||| 8 }) else s
  let s := s.countBy (Fld.SRV_COVE_HIT_CNT a.cove) a.shared.length
  let s := if a.mismatch then s.count (Fld.SRV_COVE_MISMATCH_CNT a.cove) else s
  match s.breakwater a, s.freeSlot with
  | some why, _ => s.refuseRequest a why
  | none, none => s.refuseRequest a Fld.SRV_BRK_SLOT_CNT
  | none, some slot =>
    if a.pins.bad then
      let s := { s with srv := { s.srv with requests := s.newRequest a slot :: s.srv.requests } }
      (s.bindRequest a slot).endAtAdmission slot 8
    else s.admitRequest a slot

/-- GUARD_REQUEST_ADMIT: R70, R74, R136, R274, R275, R282, R284, R285, R294, R295, R297, R298, R300, R301, R310, R314, R350 to
R352, R396. Admission is one command, so that no cancel falls inside it. -/
def execGuardRequestAdmit (frame : Nat) (s : State) : Res :=
  match s.frame? frame with
  | some f => if s.admitNext f then .next (s.decideAdmission f) else .next s
  | none => .next s

/-- GUARD_DEADLINE_CHECK: R311, R316, once the tick T_dl − 1 of its frame is reached. -/
def execGuardDeadlineCheck (frame : Nat) (s : State) : Res :=
  let due := fun (r : Request) => r.frame == frame && r.label == 0 && !r.delivered && r.tDl == some (w64 (s.now + 1))
  let rs := mapWhere s.srv.requests due (cancelRequest ⟨5, s.now, none⟩)
  .next { s with srv := { s.srv with requests := rs } }

/-- The guard stage outputs of a Cove that are due. -/
def State.dueOutputs (s : State) (c : Nat) : List OutPost := (s.cove c).outputs.filter (fun o => s.reached o.due)

/-- GUARD_OUTPUT_POST: R307, R309, R310, R81. -/
def execGuardOutputPost (cove : Fin 8) (s : State) : Res :=
  let due := s.dueOutputs cove.val
  let s := s.modCove cove.val (fun c => { c with outputs := c.outputs.filter (fun o => !due.contains o) })
  .next (due.foldl (fun s o => s.takeOutput o.frame ⟨o.req, o.status, o.label, o.bytes⟩) s)

/-- One batch record is posted, with the reply that waits for it (R313, R320). -/
def State.postRecord (s : State) (cove : Nat) (x : RecPost) : State :=
  let (s, _) := s.resultRecord (bits (s.get Fld.HIF_COVE_RING) (4 * cove) 4) 4 x.frameId x.bytes x.req x.seq
  let s := if x.final then s.modRequest x.slot (fun r => { r with finalPosted := true }) else s
  match x.reply with
  | some c => s.complete c Status.cancelled.code []
  | none => s

/-- BATCH_RECORD_POST: R307, R313, R320, R412, R413. The records of a Cove that are due, in the order of their slots. -/
def execBatchRecordPost (cove : Fin 8) (s : State) : Res :=
  let due := (s.cove cove.val).records.filter (fun x => s.reached x.due)
  let s := s.modCove cove.val (fun c => { c with records := c.records.filter (fun x => !due.contains x) })
  .next (due.foldl (fun s x => s.postRecord cove.val x) s)

/-- A cache in transfer between tiers keeps its request's slot until the transfer is over (Table 9-7). -/
def inTransfer (r : Request) : Bool :=
  match r.place with
  | .moving _ => true
  | .reading _ _ => true
  | _ => false

/-- R315: a slot returns to FREE: blocks freed, references dropped, generation raised. -/
def State.freeRequest (s : State) (r : Request) : State :=
  let s := s.modCove r.cove (fun c => (r.priv ++ r.shared).foldl releaseBlock c)
  { s with srv := { s.srv with requests := s.srv.requests.filter (fun x => x.slot != r.slot)
                               gens := Tab.putD 0 s.srv.gens r.slot ((r.gen + 1) % 2 ^ 19)
                               freed := Tab.put s.srv.freed r.slot r.frameId } }

/-- REQUEST_FREE: R137, R284, R297, R298, R314, R315, R318. -/
def execRequestFree (slot : Fin 8192) (s : State) : Res :=
  match s.request? slot.val with
  | some r => if r.state == .ended && r.finalPosted && !inTransfer r then .next (s.freeRequest r) else .next s
  | none => .next s

/-- The request that a GS_CANCEL or GS_QUERY names, and whether it has returned to FREE with no newer request in its slot (R317;
log entry 37). -/
def State.findRequest (s : State) (req frameId : Nat) : Option Request × Bool :=
  if req = 0xFFFFFFFF then (s.srv.requests.find? (fun r => r.frameId == frameId), false)
  else
    let slot := req % 8192
    let live := s.srv.requests.find? (fun r => requestId r == req && r.frameId == frameId)
    let gone := (s.request? slot).isNone && Tab.getD s.srv.gens slot 0 == (req / 8192 + 1) % 2 ^ 19
      && Tab.get? s.srv.freed slot == some frameId
    (live, gone)

/-- R317, R319, R321: what a GS_CANCEL does and answers. -/
def State.runCancel (s : State) (req frameId : Nat) (c : CmdRef) : State :=
  match s.findRequest req frameId with
  | (some r, _) =>
    if r.state = .ended then (s.count Fld.SRV_LATE_CANCEL_CNT).complete c Status.alreadyComplete.code []
    else if r.cancel.isSome then s.complete c Status.alreadyCancelling.code []
    else s.modRequest r.slot (cancelRequest ⟨4, c.tick, some c⟩)
  | (none, true) => (s.count Fld.SRV_LATE_CANCEL_CNT).complete c Status.alreadyComplete.code []
  | (none, false) => s.complete c Status.notFound.code []

/-- GS_CANCEL: R314, R316, R317, R319, R321. -/
def execGsCancel (q : Fin 16) (e : SqEntry) (req : Word) (frameId : BitVec 64) (s : State) : Res :=
  .next (s.sqCommand q.val e 0x20 (fun c s => s.runCancel req.toNat frameId.toNat c))

/-- Codes of Table 8-6. -/
def reqStateCode : ReqState → Nat
  | .admitting => 1
  | .prefill => 2
  | .decode => 3
  | .paused => 4
  | .cancelling => 5
  | .ended => 6

/-- The request record of GS_QUERY: STATE, STATUS, COVE, step number of its last commit, GEN_TOKENS, committed length, shared and
private block counts, LABEL; their places are open (log entry 29). -/
def queryRecord (r : Request) : Bytes :=
  Config.packFields "GS_QUERY" [reqStateCode r.state, r.status, r.cove, r.lastStep, r.toks.length, committedLen r, r.shared.length,
    r.priv.length, r.label]

/-- GS_QUERY: R316, R317, Table 8-8. -/
def execGsQuery (q : Fin 16) (e : SqEntry) (req : Word) (frameId : BitVec 64) (s : State) : Res :=
  .next (s.sqCommand q.val e 0x21 (fun c s =>
    match s.findRequest req.toNat frameId.toNat with
    | (some r, _) => s.complete c Status.ok.code (queryRecord r)
    | (none, _) => s.complete c Status.notFound.code []))

/-- R318: a Cove's prefix table is emptied and its reclaim list freed. -/
def flushPrefix (c : Cove) : Cove :=
  { c with prefixes := [], reclaim := [], blocks := c.reclaim.foldl Tab.del c.blocks }

/-- GS_PREFIX_FLUSH: R298, R316, R318, Table 8-8. A Cove that is not enabled is BAD_INDEX. -/
def execGsPrefixFlush (q : Fin 16) (e : SqEntry) (cove : Fin 256) (s : State) : Res :=
  .next (s.sqCommand q.val e 0x22 (fun c s =>
    if cove.val < 8 && s.flag (Fld.SRV_COVE_CFG_EN cove.val) then
      (s.modCove cove.val flushPrefix).complete c Status.ok.code (Config.packFields "GS_PREFIX_FLUSH" [(s.cove cove.val).reclaim.length])
    else s.complete c Status.badIndex.code []))

/-- COVE_WEDGE_TIMEOUT: R324, Table 11-16, Table 16-2 COVE_WEDGED. -/
def execCoveWedgeTimeout (cove : Fin 8) (s : State) : Res :=
  let c := s.cove cove.val
  match c.activeSince with
  | some t =>
    if !c.wedged && s.coveActive cove.val && Nat.ble 50000000 (s.since t) then
      .next (((s.modCove cove.val (fun c => { c with wedged := true })).event 0x0040 cove.val []).wedge (35 + cove.val) 0x0701)
    else .next s
  | none => .next s

end Sys2Proof.Machine
end

