-- ==== Sys2Proof/Machine/GuardStep.lean ====
section
/-!
DEFINITION. Cove steps: how their rows are composed, what the commit point does (R145 to R156, R286, R291, R296, R302 to R310,
R319, R320, R322, R323, R328 to R349, R353 to R356, R360, R363).
-/
namespace Sys2Proof.Machine

/-- Whether a request may take rows (R303, R354, R363). -/
def takesRows (r : Request) : Bool :=
  (r.state == .prefill || r.state == .decode || r.state == .cancelling) && !r.paused && r.place == .hbm

/-- Rows left in a step, and requests left under BATCH_MAX. -/
structure Room where
  rows : Nat
  reqs : Nat
  deriving DecidableEq, Repr

/-- Band, then admission order (R303). -/
def rowOrder (a b : Request) : Bool := Nat.blt a.band b.band || (a.band == b.band && Nat.blt a.order b.order)

/-- SPEC_NODES of a Cove. -/
def State.specNodes (s : State) (c : Nat) : Nat :=
  s.get (Fld.SRV_COVE_SPEC_SPEC_NODES c) + 1 + 32 * s.get (Fld.SRV_COVE_SAMPLE_NODES_HI c)

/-- SPEC_DEPTH of a Cove. -/
def State.specDepth (s : State) (c : Nat) : Nat := s.get (Fld.SRV_COVE_SPEC_SPEC_DEPTH c) + 1

/-- The tree of a decode row (R328, R331, R332); it ends before R333. -/
def State.treeOf (s : State) (c : Nat) (r : Request) : List TreeNode :=
  let last := (r.toks.getLast?).getD 0
  match s.get (Fld.SRV_COVE_SPEC_DRAFT_SRC c) with
  | 1 =>
    let chains := contextChains (r.prompt ++ r.toks) (s.get (Fld.SRV_COVE_SPEC_LOOK_N c) + 1) (s.specDepth c)
      (s.get (Fld.SRV_COVE_SPEC_BRANCH c))
    trieOf last (s.specNodes c) chains
  | 2 => if r.draft.isEmpty then bareTree last else r.draft
  | _ => bareTree last

/-- R303 item 1, R333: decode rows with their candidate rows. -/
def State.decodeRows (s : State) (c : Nat) : List Request → Room → List (Nat × RowSet) × Room
  | [], room => ([], room)
  | r :: rs, room =>
    if room.rows = 0 ∨ room.reqs = 0 then ([], room)
    else
      let tree := (s.treeOf c r).take room.rows
      let (rest, left) := s.decodeRows c rs ⟨room.rows - tree.length, room.reqs - 1⟩
      ((r.slot, .decode tree) :: rest, left)

/-- R304: the length of a prefill chunk that may take `room` rows; none where it waits. -/
def chunkLen (r : Request) (room : Nat) : Option Nat :=
  let rest := promptLen r - r.prefilled
  if rest ≤ room then some rest
  else if room / 64 = 0 then none
  else some (room / 64 * 64)

/-- R303 item 2, R304: prefill chunks. -/
def prefillRows (chunkMax : Nat) : List Request → Room → List (Nat × RowSet)
  | [], _ => []
  | r :: rs, room =>
    if room.reqs = 0 then []
    else match chunkLen r (min chunkMax room.rows) with
      | none => prefillRows chunkMax rs room
      | some n => (r.slot, .chunk r.prefilled n) :: prefillRows chunkMax rs ⟨room.rows - n, room.reqs - 1⟩

/-- R303: the rows of a step that starts now. -/
def State.composeRows (s : State) (c : Nat) : List (Nat × RowSet) :=
  let rs := sortBy rowOrder ((s.coveRequests c).filter takesRows)
  let room : Room := ⟨s.get (Fld.SRV_COVE_STEP_CFG_STEP_TOK64 c) * 64, s.get (Fld.SRV_COVE_CFG_BATCH_MAX c)⟩
  let (dec, room) := s.decodeRows c (rs.filter inDecode) room
  dec ++ prefillRows (s.get (Fld.SRV_COVE_STEP_CFG_CHUNK64 c) * 64) (rs.filter (fun r => !inDecode r)) room

/-- Whether a request waits for a commit point of its Cove though it may take no rows: a cancel, an end, a resume (log entry 38). -/
def waitsForCommit (r : Request) : Bool := r.state != .ended && r.state != .admitting && (r.cancel.isSome || r.doom.isSome || r.paused)

/-- Whether r has reached MAX_REPEAT in a state (R151). -/
def atMax (aut : Bytes) (q r : Nat) : Bool := bits (autState aut q) 96 16 != 0 && Nat.ble (bits (autState aut q) 96 16) r

/-- The mask cache cut to its size, oldest first. -/
def trimMasks (cap : Nat) : List MaskEntry → List MaskEntry
  | [] => []
  | e :: es => if cap < sumBy (e :: es) (fun x => x.size) then trimMasks cap es else e :: es

/-- R151, R156: a mask is taken from the mask cache or formed and kept there; a speculative one is no miss that counts. -/
def State.useMask (s : State) (p : GuardPins) (q r : Nat) (spec : Bool) : State :=
  let e : MaskEntry := ⟨p.aut, p.autVer, q, atMax p.autBytes q r, ceilDiv (vocTokens p.voc) 8⟩
  if s.maskCache.contains e then s
  else
    let s := if spec then s else s.count Fld.CAT_MASK_MISS_CNT
    { s with maskCache := trimMasks (s.get Fld.CAT_MASK_CACHE * 2 ^ 20) (s.maskCache ++ [e]) }

/-- R154: grammar states of a tree's nodes, first to last; none for a node outside its parent's mask. -/
def nodeStates (p : GuardPins) (q r : Nat) (tree : List TreeNode) : List (Option (Nat × Nat)) :=
  tree.foldl (fun acc n =>
    if acc.isEmpty then [some (q, r)]
    else acc ++ [(acc.getD n.parent none).bind (fun x =>
      if allowed p.voc p.autBytes x.1 x.2 n.token then some (grammarNext p.voc p.autBytes x.1 x.2 n.token) else none)]) []

/-- The masks that a request's rows need. -/
def State.useMasks (s : State) (e : Nat × RowSet) : State :=
  match s.request? e.1 with
  | none => s
  | some r =>
    let p := s.requestPins r
    match e.2 with
    | .chunk first len => if first + len = promptLen r then s.useMask p r.q r.r false else s
    | .decode tree =>
      ((nodeStates p r.q r.r tree).filterMap id).foldl (fun s x => s.useMask p x.1 x.2 (x.1 != r.q || x.2 != r.r)) s

/-- Whether a Cove's next step may start (R303, R324). -/
def State.stepReady (s : State) (c : Nat) : Bool :=
  let x := s.cove c
  s.flag (Fld.SRV_COVE_CFG_EN c) && !s.stopped && !x.wedged && x.step.isNone
    && x.last.all (fun t => Nat.ble 20 (s.since t))

/-- COVE_STEP_START: R151, R154, R156, R291, R303 to R305, R328 to R333, R363. -/
def execCoveStepStart (cove : Fin 8) (s : State) : Res :=
  let rows := s.composeRows cove.val
  if s.stepReady cove.val && (!rows.isEmpty || (s.coveRequests cove.val).any waitsForCommit) then
    let s := s.modCove cove.val (fun c => { c with step := some ⟨s.now, rows, 0⟩ })
    .next (rows.foldl State.useMasks s)
  else .next s

/-- The environment that a request samples in. -/
def State.sampleEnv (s : State) (r : Request) : SampleEnv :=
  let p := s.requestPins r
  ⟨p.voc, p.autBytes, s.requestDigest r, r.prompt, r.seed, maxNew (guardParams p.container), s.sampleCfg r.cove p.container⟩

/-- What a request's rows yield at the commit point: the tokens accepted, and whether it ends. -/
def State.rowResult (s : State) (r : Request) (rows : Option RowSet) : List Accepted × StepEnd :=
  let v := s.sampleEnv r
  match rows with
  | none => ([], none)
  | some (.decode tree) => acceptWalk v tree 10 0 r.toks r.q r.r
  | some (.chunk first len) => if first + len = promptLen r then acceptWalk v (bareTree 0) 1 0 [] r.q r.r else ([], none)

/-- R296: the prompt blocks whose last position a chunk prefills are sealed. -/
def State.sealChunk (s : State) (r : Request) (first len : Nat) : State :=
  let upTo := (first + len) / 64
  let hs := chainHashes upTo ((s.requestDigest r).take 16) r.prompt
  let size := s.get (Fld.SRV_COVE_PREFIX r.cove)
  ((upto upTo).filter (fun j => Nat.ble (first / 64) j)).foldl (fun s j =>
    match (r.shared ++ r.priv)[j]?, hs[j]? with
    | some b, some h => s.modCove r.cove (fun c => sealBlock size c b h.1 h.2)
    | _, _ => s) s

/-- The first of the accepted tokens after which the automaton stands in a label state: how many tokens precede it, its state, the
code (R309, R337). -/
def firstLabel (g : Bytes) : List Accepted → Option (Nat × Nat × Nat)
  | [] => none
  | a :: as =>
    match labelOf g a.q with
    | some code => some (0, a.q, code)
    | none => (firstLabel g as).map (fun x => (x.1 + 1, x.2.1, x.2.2))

/-- A guard stage output joins those that the Cove posts at C + 10. -/
def State.queueOutput (s : State) (slot status label q gen : Nat) : State :=
  match s.request? slot with
  | none => s
  | some r =>
    let o : OutPost := ⟨r.frame, requestId r, status, label, outputBytes status label q gen r.truncated (requestId r), w64 (s.now + 10)⟩
    (s.modRequest slot (fun r => { r with delivered := true })).modCove r.cove (fun c => { c with outputs := c.outputs ++ [o] })

/-- R313: the records of one request for one commit: the text in parts of 4,064 bytes, CONT in every one but the last, which carries
the other flags. -/
def State.postParts (s : State) (slot flags : Nat) (text : Bytes) (reply : Option CmdRef) : State :=
  let due := w64 (s.now + 50)
  let parts := chunks 4064 text
  let last := (parts.getLast?).getD []
  let s := parts.dropLast.foldl (fun s p => s.queueRecord slot 8 p none due) s
  s.queueRecord slot flags last reply due

/-- Table 8-5 FLAGS of a record that is no part with CONT. -/
def recordFlags (final tail label : Bool) : Nat := b2n final + 2 * b2n tail + 4 * b2n label

/-- R309, R310: a request that ends without its output delivered delivers it at its final commit, with its committed state. -/
def State.closeOutput (s : State) (slot status : Nat) : State :=
  match s.request? slot with
  | some r => if r.delivered then s else s.queueOutput slot status r.label r.q r.toks.length
  | none => s

/-- R319, R320: a request ends with none of its step's output: one FINAL record without text. -/
def State.dropEnd (s : State) (slot status : Nat) (reply : Option CmdRef) : State :=
  ((s.endRequest slot status).closeOutput slot status).postParts slot 1 [] reply

/-- R306, R309, R313, R336, R337: a request takes what its rows yielded. -/
def State.applyRows (s : State) (r : Request) (rows : RowSet) : State :=
  let p := s.requestPins r
  let g := guardParams p.container
  let (as, fin) := s.rowResult r (some rows)
  let s := match rows with
    | .chunk first len => (s.sealChunk r first len).modRequest r.slot (fun r => { r with prefilled := first + len })
    | .decode _ => s.countBy Fld.SRV_SPEC_ACCEPT_CNT (as.length - 1)
  let (text, carry) := detokenize p.voc r.carry (as.map (fun a => a.token))
  let tail := fin.isSome && !carry.isEmpty
  let text := if fin.isSome then text ++ carry else text
  let q := (as.getLast?.map (fun a => a.q)).getD r.q
  let rep := (as.getLast?.map (fun a => a.r)).getD r.r
  let lab := if r.label = 0 then
      match firstLabel g as with
      | some x => some x
      | none => if as.isEmpty then (labelOf g r.q).map (fun code => (0, r.q, code)) else none
    else none
  let s := s.modRequest r.slot (fun r =>
    { r with toks := r.toks ++ as.map (fun a => a.token), q := q, r := rep, carry := if fin.isSome then [] else carry
             label := (lab.map (fun x => x.2.2)).getD r.label
             state := if r.state = .prefill && !as.isEmpty then .decode else r.state })
  let s := match fin with
    | some st => s.endRequest r.slot st
    | none => s
  let s := match lab with
    | some (n, ql, code) => s.queueOutput r.slot (fin.getD 1) code ql (r.toks.length + (if as.isEmpty then 0 else n + 1))
    | none => match fin with
      | some st => s.closeOutput r.slot st
      | none => s
  if s.flag (Fld.SRV_COVE_CFG_OUT_MODE r.cove) then
    if !text.isEmpty || lab.isSome || fin.isSome then s.postParts r.slot (recordFlags fin.isSome tail lab.isSome) text none else s
  else if fin.isSome then s.postParts r.slot (recordFlags true false false) [] none else s

/-- R332: the tree that a draft program gives a request for its next step. -/
def State.draftNext (s : State) (slot : Nat) : State :=
  match s.request? slot with
  | none => s
  | some r =>
    if s.get (Fld.SRV_COVE_SPEC_DRAFT_SRC r.cove) = 2 ∧ r.state ≠ .ended ∧ !r.toks.isEmpty then
      let chains := draftChains (s.sampleEnv r) (r.prompt ++ r.toks) (s.specDepth r.cove) (s.get (Fld.SRV_COVE_SPEC_BRANCH r.cove))
      s.modRequest slot (fun r => { r with draft := trieOf ((r.toks.getLast?).getD 0) (s.specNodes r.cove) chains })
    else s

/-- R321: a host cancel registered at the very commit point at which its request ended is answered ALREADY_COMPLETE. -/
def State.answerLate (s : State) (slot : Nat) : State :=
  match s.request? slot with
  | some r =>
    match r.cancel with
    | some ⟨_, t, some c⟩ =>
      if r.state = .ended ∧ t = s.now then (s.count Fld.SRV_LATE_CANCEL_CNT).complete c Status.alreadyComplete.code [] else s
    | _ => s
  | none => s

/-- The cancel that takes effect at a commit point now: one registered at a tick strictly before it (R319). -/
def effective (now : Nat) (r : Request) : Option Cancel :=
  match r.cancel with
  | some c => if c.tick = now then none else some c
  | none => none

/-- R306, R319, R322, R323, R360: the commit point for one request of the Cove, in the step or not. `failed` says that the step's
retries are used up. A request with a version gone BAD ends FAULT (R158, R278). -/
def State.commitRequest (s : State) (slot : Nat) (rows : Option RowSet) (failed : Bool) : State :=
  match s.request? slot with
  | none => s
  | some r =>
    if r.state = .ended ∨ r.state = .admitting then s
    else
      match effective s.now r, r.doom, rows with
      | some c, _, _ => s.dropEnd slot c.status c.cmd
      | none, some st, _ => (s.dropEnd slot st none).answerLate slot
      | none, none, some rows =>
        let s := s.modRequest slot (fun r => { r with lastStep := (s.cove r.cove).stepNo })
        if failed || (s.requestPins r).bad then (s.dropEnd slot 8 none).answerLate slot
        else ((s.applyRows r rows).draftNext slot).answerLate slot
      | none, none, none => s

/-- R323: a block with an uncorrectable error. -/
def State.badBlock (s : State) (c b : Nat) : State := (s.hbmUe 3).blockBad c b

/-- Requests of a Cove in spring or mean bands that decode or prefill (R353, R356). -/
def State.springOrMean (s : State) (c : Nat) : Bool :=
  s.srv.requests.any (fun r => r.cove == c && Nat.blt r.band 2 && (r.state == .prefill || r.state == .decode))

/-- R354: the requests to pause, latest admitted first. -/
def State.pauseVictims (s : State) (c : Nat) : List Request :=
  let cands := (s.coveRequests c).filter (fun r => r.band == 2 && (r.state == .prefill || r.state == .decode))
  (sortBy (fun a b => Nat.blt b.order a.order) cands).take (s.get (Fld.SRV_PAUSE_CTL_PAUSE_BATCH c))

/-- R354, R355, R81: a request is paused. -/
def State.pauseRequest (s : State) (r : Request) : State :=
  let n := (s.cove r.cove).pauses
  let s := (s.count Fld.SRV_PAUSE_CNT).setBits Fld.TID_SAT_STATUS 4
  (s.modRequest r.slot (fun r => { r with state := .paused, paused := true, pauseOrder := n })).modCove r.cove (fun c => { c with pauses := n + 1 })

/-- A resumed request takes rows again (R356, R363). -/
def State.resumeRequest (s : State) (slot : Nat) : State :=
  s.modRequest slot (fun r => { r with paused := false, resumeTry := false
                                       state := if r.state = .paused then (if r.toks.isEmpty then .prefill else .decode) else r.state })

/-- R363: a resume from the Archive tier: the private need is reserved, then the entry is read; `fetch` sends for a remote one. -/
def State.resumeArchived (fetch : Nat → State → State) (s : State) (r : Request) (key : Nat) : State :=
  let room := s.roomBlocks r.cove
  if room < r.need + s.get (Fld.SRV_BRK_FLOOR_NEAP r.cove) then s.modRequest r.slot (fun r => { r with resumeTry := true })
  else match allocBlocks (s.get (Fld.SRV_COVE_BLOCKS r.cove)) r.need (s.cove r.cove) with
    | none => s.modRequest r.slot (fun r => { r with resumeTry := true })
    | some (bs, c) =>
      let s := (s.modCove r.cove (fun _ => c)).modRequest r.slot (fun r =>
        { r with priv := bs, place := .reading key s.now, resumeTry := false })
      let s := s.count Fld.SRV_RESUME_CNT
      if ((s.entry? key).map (fun e => e.remote)).getD false then fetch key s else s

/-- R356, R363: a request whose resume is due. -/
def State.tryResume (fetch : Nat → State → State) (s : State) (r : Request) : State :=
  match r.place with
  | .hbm => (s.count Fld.SRV_RESUME_CNT).resumeRequest r.slot
  | .archived k => s.resumeArchived fetch r k
  | _ => s

/-- R353 to R356, R363: pauses and resumes at a commit point. -/
def State.pauseAndResume (fetch : Nat → State → State) (s : State) (c : Nat) : State :=
  let pauseUs := s.get (Fld.SRV_PAUSE_STEP_PAUSE_STEP_US c)
  let x := s.cove c
  let again := (s.coveRequests c).filter (fun r => r.state == .paused && r.resumeTry)
  let s := if pauseUs ≠ 0 ∧ max 1 (s.get (Fld.SRV_PAUSE_CTL_PAUSE_N c)) ≤ x.longRun ∧ s.springOrMean c then
      (s.modCove c (fun x => { x with longRun := 0 })) |> fun s => (s.pauseVictims c).foldl State.pauseRequest s
    else s
  let due := max 1 (s.get (Fld.SRV_PAUSE_CTL_RESUME_N c)) ≤ x.shortRun || !s.springOrMean c
  let fresh := if due then
      (sortBy (fun a b => Nat.blt a.pauseOrder b.pauseOrder) ((s.coveRequests c).filter (fun r =>
        r.state == .paused && Nat.blt r.pauseOrder x.pauses && !r.resumeTry && !inTransfer r))).take (s.get (Fld.SRV_PAUSE_CTL_PAUSE_BATCH c))
    else []
  (again ++ fresh).foldl (State.tryResume fetch) s

/-- The runs of long and short steps (R353, R356). -/
def State.noteStepTime (s : State) (c : Nat) : State :=
  let x := s.cove c
  match x.last with
  | none => s
  | some t =>
    let d := s.since t
    let long := Nat.blt (s.get (Fld.SRV_PAUSE_STEP_PAUSE_STEP_US c) * 500) d
    let short := Nat.ble d (s.get (Fld.SRV_PAUSE_STEP_RESUME_STEP_US c) * 500)
    s.modCove c (fun x => { x with longRun := if long then x.longRun + 1 else 0, shortRun := if short then x.shortRun + 1 else 0 })

/-- Rows of a step, and nodes among them that are no root. -/
def rowCount : RowSet → Nat
  | .decode t => t.length
  | .chunk _ n => n

/-- Candidate rows of a request. -/
def candidateRows : RowSet → Nat
  | .decode t => t.length - 1
  | .chunk _ _ => 0

/-- R306, R353 to R356: the commit point of a Cove's step. -/
def State.commitStep (fetch : Nat → State → State) (s : State) (c : Nat) (x : CoveStep) (failed : Bool) : State :=
  let s := (s.count (Fld.SRV_COVE_STEP_CNT c)).countBy (Fld.SRV_COVE_ROW_CNT c) (sumBy x.rows (fun e => rowCount e.2))
  let s := s.countBy Fld.SRV_SPEC_ROW_CNT (sumBy x.rows (fun e => candidateRows e.2))
  let s := (s.modCove c (fun y => { y with step := none, stepNo := (y.stepNo + 1) % 2 ^ 64 })).noteStepTime c
  let s := s.modCove c (fun y => { y with last := some s.now })
  let s := (s.coveRequests c).foldl (fun s r => s.commitRequest r.slot ((x.rows.find? (fun e => e.1 == r.slot)).map (fun e => e.2)) failed) s
  let s := s.pauseAndResume fetch c
  (s.modCove c (fun y => { y with activeSince := none })).noteActive c

/-- R277, R322: the Gallery work of a step ended with an error: it is repeated at most three times. -/
def State.endStep (fetch : Nat → State → State) (s : State) (c : Nat) (x : CoveStep) (work : UnitEnd) (gallery : Nat) : State :=
  let u : UnitId := ⟨.gallery, gallery⟩
  let s := match work with
    | .ok => s
    | .ce => (s.count Fld.GAL_ECC_CNT).corrected (some u) 0x0101
    | .ue => s.transient (some u) 0x0102
  if work = .ok then s.commitStep fetch c x false
  else if x.retries < 3 then
    (s.count Fld.FLT_RETRY_CNT).modCove c (fun y => { y with step := some { x with retries := x.retries + 1 } })
  else s.commitStep fetch c x true

end Sys2Proof.Machine
end

