-- ==== Sys2Proof/Machine/Manifest.lean ====
section
/-!
DEFINITION. The fabric manifest (Tables 14-1 to 14-4) as its raw bytes: its entries, its check (R520 to R522, R539), the ports it
uses (R502, R519), and the geometry of routes (R518, R521, R524, R526, R542, R544).
-/
namespace Sys2Proof

/-- Row of a node address (Table 0-4). -/
def nodeRow (a : Nat) : Nat := bits a 10 6
/-- Column of a node address. -/
def nodeCol (a : Nat) : Nat := bits a 4 6
/-- Stack position of a node address. -/
def nodePos (a : Nat) : Nat := bits a 1 3
/-- The address of the Headland of a node. -/
def nodeBase (a : Nat) : Nat := a / 16 * 16
/-- A node address. -/
def nodeAt (row col pos : Nat) : Nat := 1024 * row + 16 * col + 2 * pos

/-- MODE: 0 SINGLE, 1 TORUS, 2 SPLIT. -/
def manMode (m : Bytes) : Nat := byteAt m 8
/-- ROWS. -/
def manRows (m : Bytes) : Nat := byteAt m 9
/-- COLS. -/
def manCols (m : Bytes) : Nat := byteAt m 10
/-- DL_ROW. -/
def manDlRow (m : Bytes) : Nat := byteAt m 11
/-- DL_COL. -/
def manDlCol (m : Bytes) : Nat := byteAt m 12
/-- ORIGIN. -/
def manOrigin (m : Bytes) : Nat := le m 14 2
/-- Node entries (Table 14-2). -/
def manNodes (m : Bytes) : List Bytes := (upto (le m 16 2)).map (fun i => slice m (le m 20 4 + 32 * i) 32)
/-- Route set entries (Table 14-3). -/
def manRsets (m : Bytes) : List Bytes := (upto (byteAt m 18)).map (fun i => slice m (le m 24 4 + 16 * i) 16)
/-- Causeway entries (Table 14-4). -/
def manCauseways (m : Bytes) : List Bytes := (upto (byteAt m 19)).map (fun i => slice m (le m 28 4 + 16 * i) 16)

/-- The node entry of an address. -/
def manNode (m : Bytes) (a : Nat) : Option Bytes := (manNodes m).find? (fun e => le e 0 2 == a)

/-- R517: the address that a manifest gives a device, or the straps'. -/
def manAddress (m device : Bytes) (strap : Nat) : Nat :=
  match (manNodes m).find? (fun e => slice e 8 16 == device) with
  | some e => le e 0 2
  | none => strap

/-- A route set's box. -/
structure Box where
  tenant : Nat
  rowLo : Nat
  rowHi : Nat
  colLo : Nat
  colHi : Nat
  deriving DecidableEq, Repr

/-- The box of a route set; route set 0 spans the fabric and is the operator's. -/
def manBox (m : Bytes) (rset : Nat) : Option Box :=
  if rset = 0 then some ⟨0, 0, manRows m - 1, 0, manCols m - 1⟩
  else ((manRsets m).find? (fun e => byteAt e 0 == rset)).map (fun e => ⟨byteAt e 1, byteAt e 2, byteAt e 3, byteAt e 4, byteAt e 5⟩)

/-- Whether a node lies in a box. -/
def inBox (b : Box) (a : Nat) : Bool :=
  decide (b.rowLo ≤ nodeRow a ∧ nodeRow a ≤ b.rowHi ∧ b.colLo ≤ nodeCol a ∧ nodeCol a ≤ b.colHi)

/-- R521: whether the rows wrap for a box. -/
def rowsWrap (m : Bytes) (b : Box) : Bool := manMode m == 1 && b.rowLo == 0 && b.rowHi + 1 == manRows m
/-- R521: whether the columns wrap for a box. -/
def colsWrap (m : Bytes) (b : Box) : Bool := manMode m == 1 && b.colLo == 0 && b.colHi + 1 == manCols m

/-- R518: the node that port `d` (0 North, 1 South, 2 East, 3 West) faces, at stack position 0; in TORUS mode indices wrap. Whether
the step is a wrap. -/
def facing (m : Bytes) (a d : Nat) : Option (Nat × Bool) :=
  let r := nodeRow a
  let c := nodeCol a
  let torus := manMode m == 1
  match d with
  | 0 => if r = 0 then (if torus then some (nodeAt (manRows m - 1) c 0, true) else none) else some (nodeAt (r - 1) c 0, false)
  | 1 => if r + 1 = manRows m then (if torus then some (nodeAt 0 c 0, true) else none) else some (nodeAt (r + 1) c 0, false)
  | 2 => if c + 1 = manCols m then (if torus then some (nodeAt r 0 0, true) else none) else some (nodeAt r (c + 1) 0, false)
  | _ => if c = 0 then (if torus then some (nodeAt r (manCols m - 1) 0, true) else none) else some (nodeAt r (c - 1) 0, false)

/-- R519: the opposite port. -/
def oppositePort : Nat → Nat
  | 0 => 1
  | 1 => 0
  | 2 => 3
  | 3 => 2
  | 4 => 5
  | _ => 4

/-- STACK_N of a node. -/
def stackSize (m : Bytes) (a : Nat) : Nat := ((manNode m a).map (fun e => byteAt e 3)).getD 1

/-- R502, R519: the partner of port `q`: its node address and its port; none where the port is UNUSED. -/
def manPartner (m : Bytes) (a q : Nat) : Option (Nat × Nat) :=
  if manMode m = 0 ∨ m = [] then none
  else if q < 4 then
    if nodePos a ≠ 0 then none
    else match facing m a q with
      | some (b, _) => if b ≠ a ∧ (manNode m b).isSome then some (b, oppositePort q) else none
      | none => none
  else if q = 4 then (if nodePos a = 0 then none else some (a - 2, 5))
  else if nodePos a + 1 < stackSize m a then some (a + 2, 4) else none

/-- Whether the step from a node over port `d` crosses a dateline (Table 14-1). -/
def crossesDateline (m : Bytes) (a d : Nat) : Bool :=
  match d with
  | 0 => nodeRow a == manDlRow m
  | 1 => (nodeRow a + 1) % manRows m == manDlRow m
  | 2 => (nodeCol a + 1) % manCols m == manDlCol m
  | _ => nodeCol a == manDlCol m

/-- R521: whether the link over port `d` of a node lies in L of a box. -/
def linkIn (m : Bytes) (b : Box) (a d : Nat) : Bool :=
  match facing m a d with
  | none => false
  | some (t, wrap) =>
    inBox b a && inBox b t && (!wrap || (if d < 2 then rowsWrap m b else colsWrap m b))

/-- The nodes of a straight run of `n` hops from a node over port `d`, the start included; none where it leaves the mesh. -/
def straight (m : Bytes) (d : Nat) : Nat → Nat → Option (List Nat)
  | 0, a => some [a]
  | n + 1, a =>
    match facing m a d with
    | none => none
    | some (t, _) => (straight m d n t).map (fun l => a :: l)

/-- R544: the nodes that a leg from a node over port `d` reaches, within the box, to the dateline at most. -/
def legNodes (m : Bytes) (b : Box) (d : Nat) : Nat → Nat → List Nat
  | 0, _ => []
  | n + 1, a =>
    if linkIn m b a d && !crossesDateline m a d then
      match facing m a d with
      | some (t, _) => t :: legNodes m b d n t
      | none => []
    else []

/-- R524: the productive directions of a packet in one dimension; `neg`, `pos` are its ports. -/
def productive (wraps : Bool) (size here target neg pos : Nat) : List Nat :=
  if here = target then []
  else if wraps then
    let f := (target + size - here) % size
    if f ≤ size - f then [pos] else [neg]
  else if here < target then [pos] else [neg]

/-- R526: the escape direction in one dimension. Where the dimension does not wrap, the sign of the difference decides (log entry
42). -/
def escapeDir (wraps : Bool) (size dl here target neg pos : Nat) : List Nat :=
  if here = target then []
  else if wraps then
    if (here + size - dl) % size < (target + size - dl) % size then [pos] else [neg]
  else if here < target then [pos] else [neg]

/-- Productive ports of a packet at a node: columns, then rows. -/
def productivePorts (m : Bytes) (b : Box) (here dest : Nat) : List Nat × List Nat :=
  (productive (colsWrap m b) (manCols m) (nodeCol here) (nodeCol dest) 3 2, productive (rowsWrap m b) (manRows m) (nodeRow here) (nodeRow dest) 0 1)

/-- R526: the port of the escape route: the column dimension first. -/
def escapePort (m : Bytes) (b : Box) (here dest : Nat) : Option Nat :=
  (escapeDir (colsWrap m b) (manCols m) (manDlCol m) (nodeCol here) (nodeCol dest) 3 2
    ++ escapeDir (rowsWrap m b) (manRows m) (manDlRow m) (nodeRow here) (nodeRow dest) 0 1).head?

/-- R522: whether two boxes share a link. -/
def sharesLink (s t : Box) : Bool :=
  let rl := max s.rowLo t.rowLo
  let rh := min s.rowHi t.rowHi
  let cl := max s.colLo t.colLo
  let ch := min s.colHi t.colHi
  decide (rl ≤ rh ∧ cl ≤ ch) && decide (rl < rh ∨ cl < ch)

/-- Steps of a Causeway's path: the node and the outbound port of each hop. -/
def cwPath (m : Bytes) (e : Bytes) : Option (List Nat) := straight m (byteAt e 4 % 4) (byteAt e 5) (le e 2 2)

/-- The hops of a Causeway: the nodes that send. -/
def cwHops (m : Bytes) (e : Bytes) : List Nat := ((cwPath m e).getD []).dropLast

/-- Whether a Causeway's entry passes (Table 14-4, R522, R539). -/
def cwEntryOk (m : Bytes) (e : Bytes) : Bool :=
  let d := byteAt e 4
  decide (byteAt e 0 ≤ 63) && decide (d ≤ 3) && decide (1 ≤ byteAt e 5 ∧ byteAt e 5 ≤ 63) && le e 6 2 == 0 && nodePos (le e 2 2) == 0
    && (manNode m (le e 2 2)).isSome && (cwPath m e).isSome
    && (match manBox m (byteAt e 1) with
      | some b => (cwHops m e).all (fun a => linkIn m b a d && !crossesDateline m a d)
      | none => false)

/-- R539: two Causeways that share a port own different slots. -/
def cwDisjoint (m : Bytes) (e f : Bytes) : Bool :=
  byteAt e 4 != byteAt f 4 || (le e 8 8 &&& le f 8 8) == 0 || (cwHops m e).all (fun a => !(cwHops m f).contains a)

/-- R539: no port's Causeways own more than 48 slots. -/
def cwLoadOk (m : Bytes) (e : Bytes) : Bool :=
  (cwHops m e).all (fun a =>
    decide (sumBy ((manCauseways m).filter (fun f => byteAt f 4 == byteAt e 4 && (cwHops m f).contains a)) (fun f => popCount 64 (le f 8 8)) ≤ 48))

/-- Every pair of a list, apart. -/
def pairsOk {α : Type} (p : α → α → Bool) : List α → Bool
  | [] => true
  | x :: xs => xs.all (p x) && pairsOk p xs

/-- Whether a route set entry passes (Table 14-3). -/
def rsetOk (m : Bytes) (e : Bytes) : Bool :=
  decide (1 ≤ byteAt e 0 ∧ byteAt e 0 ≤ 63) && decide (1 ≤ byteAt e 1) && decide (byteAt e 2 ≤ byteAt e 3 ∧ byteAt e 3 < manRows m)
    && decide (byteAt e 4 ≤ byteAt e 5 ∧ byteAt e 5 < manCols m) && le e 6 10 == 0

/-- The box of an entry. -/
def boxOf (e : Bytes) : Box := ⟨byteAt e 1, byteAt e 2, byteAt e 3, byteAt e 4, byteAt e 5⟩

/-- Whether a node entry passes (Table 14-2): its stack complete, with one STACK_N. -/
def nodeOk (m : Bytes) (e : Bytes) : Bool :=
  let a := le e 0 2
  let n := byteAt e 3
  a % 2 == 0 && decide (nodeRow a < manRows m ∧ nodeCol a < manCols m) && decide (byteAt e 2 ≤ 1) && decide (1 ≤ n ∧ n ≤ 8)
    && le e 4 4 == 0 && le e 24 8 == 0 && decide (nodePos a < n)
    && (upto n).all (fun p => match manNode m (nodeBase a + 2 * p) with
      | some f => byteAt f 3 == n
      | none => false)

/-- Strictly rising node addresses. -/
def nodesRise : List Bytes → Bool
  | [] => true
  | [_] => true
  | a :: b :: t => decide (le a 0 2 < le b 0 2) && nodesRise (b :: t)

/-- R520: the manifest check, against the image header's MANIFEST_EPOCH and this device's address. Route set 0, which is implicit
and spans every link, is no party to the test of R522 (log entry 43). -/
def manifestOk (m : Bytes) (epoch address : Nat) : Bool :=
  let rs := manRsets m
  let cws := manCauseways m
  decide (128 ≤ m.length) && le m 0 4 == 0x4E414D46 && le m 4 2 == 1 && le m 6 2 == epoch && decide (manMode m ≤ 2)
    && decide (1 ≤ manRows m ∧ manRows m ≤ 64) && decide (1 ≤ manCols m ∧ manCols m ≤ 64)
    && decide (manDlRow m < manRows m ∧ manDlCol m < manCols m) && byteAt m 13 == 0
    && decide (1 ≤ le m 16 2 ∧ le m 16 2 ≤ 32768) && decide (byteAt m 18 ≤ 63) && decide (byteAt m 19 ≤ 64)
    && decide (le m 20 4 + 32 * le m 16 2 ≤ m.length) && decide (le m 24 4 + 16 * byteAt m 18 ≤ m.length)
    && decide (le m 28 4 + 16 * byteAt m 19 ≤ m.length) && le m 32 96 == 0
    && nodesRise (manNodes m) && (manNodes m).all (nodeOk m) && (manNode m (manOrigin m)).isSome && (manNode m address).isSome
    && rs.all (rsetOk m) && pairsOk (fun e f => byteAt e 0 != byteAt f 0) rs
    && pairsOk (fun e f => byteAt e 1 == byteAt f 1 || !sharesLink (boxOf e) (boxOf f)) rs
    && cws.all (cwEntryOk m) && pairsOk (fun e f => byteAt e 0 != byteAt f 0) cws && pairsOk (cwDisjoint m) cws && cws.all (cwLoadOk m)

end Sys2Proof
end

