-- ==== Sys2Proof/Machine/FabOps.lean ====
section
/-!
DEFINITION. Ports and packets: the packet's bytes, the queues of a port, routing at a node, sending, consumption (R480, R523 to
R538, R540, R542 to R544).
-/
namespace Sys2Proof.Machine

/-- A Narwyn port. -/
def State.nport (s : State) (q : Nat) : NwlPort := Tab.getD s.nwl q NwlPort.reset

/-- A Narwyn port changed. -/
def State.modNport (s : State) (q : Nat) (f : NwlPort → NwlPort) : State :=
  { s with nwl := Tab.putD NwlPort.reset s.nwl q (f (s.nport q)) }

/-- The manifest in force. -/
def State.man (s : State) : Bytes := s.fab.manifest

/-- Whether the device is part of a fabric (MODE not SINGLE). -/
def State.inFabric (s : State) : Bool := s.get Fld.FAB_STATE_MODE != 0

/-- Whether this device stands at the head of its node: a device of its own, or the Headland. -/
def State.isHead (s : State) : Bool := nodePos s.node == 0

/-- The bytes of a packet without PCRC (Tables 13-3, 14-6). -/
def packetBody (p : Packet) : Bytes :=
  toLe 2 p.dest ++ toLe 2 p.src ++ [byte p.ptype, byte p.pflags, byte p.rset, byte p.hops] ++ toLe 4 p.payload.length ++ toLe 4 p.msgId
    ++ [byte p.rflags, byte p.endIx, byte p.cw, 0] ++ toLe 4 p.xfer ++ toLe 8 p.offset ++ p.payload

/-- The bytes of a packet; a packet that came with a bad PCRC keeps a bad one. -/
def packetBytes (p : Packet) (good : Bool) : Bytes :=
  let b := packetBody p
  b ++ toLe 4 (if good then crc32c b else crc32c b ^^^ 1)

/-- A packet read from its bytes, and whether its PCRC holds. -/
def packetOf (b : Bytes) : Packet × Bool :=
  let n := le b 8 4
  let p : Packet := ⟨le b 0 2, le b 2 2, byteAt b 4, byteAt b 5, byteAt b 6 % 64, byteAt b 7, le b 12 4, byteAt b 16, byteAt b 17, byteAt b 18,
    le b 20 4, le b 24 8, slice b 32 n⟩
  (p, b.length == 36 + n && decide (n ≤ 16384) && le b (32 + n) 4 == crc32c (b.take (32 + n)))

/-- Flits of a packet (R480). -/
def packetFlits (p : Packet) : Nat := ceilDiv (36 + p.payload.length) 244

/-- MARK, MCAST. -/
def isMarked (p : Packet) : Bool := bit p.pflags 0
/-- MCAST of a packet. -/
def isMcast (p : Packet) : Bool := bit p.pflags 2
/-- ESC of a packet. -/
def isEsc (p : Packet) : Bool := bit p.rflags 0
/-- RELAYED of a leg. -/
def isRelayed (p : Packet) : Bool := bit p.rflags 1
/-- STACK_ALL of a packet. -/
def isStackAll (p : Packet) : Bool := bit p.rflags 2

/-- The virtual channel of a packet type (Table 14-5). -/
def ptypeVc (t : Nat) : Nat :=
  if t = 0x04 ∨ t = 0x06 ∨ t = 0x0A ∨ t = 0x0B ∨ t = 0x0C then 1
  else if t = 0x07 ∨ t = 0x0D ∨ t = 0x0E ∨ t = 0x0F ∨ t = 0x10 then 3
  else 0

/-- The VC that a packet takes over port `q` (Table 14-5, R503, R525, R543). -/
def packetVc (p : Packet) (q : Nat) : Nat :=
  if 4 ≤ q then 3 else if p.cw ≠ 0 then 4 else if isEsc p then 2 else ptypeVc p.ptype

/-- Flits of an item still to be sent. -/
def itemFlits : TxItem → Nat
  | .packet p _ _ _ sent => packetFlits p - sent / 244
  | .record _ => 1

/-- Flits of a VC queued for a port. -/
def queuedFlits (p : NwlPort) (v : Nat) : Nat := sumBy (Tab.getD p.queues v []) itemFlits

/-- Something joins a port's queue. -/
def enqueue (v : Nat) (i : TxItem) (p : NwlPort) : NwlPort := { p with queues := Tab.put p.queues v (Tab.getD p.queues v [] ++ [i]) }

/-- A packet joins the queue of port `q`. -/
def State.queuePacket (s : State) (q : Nat) (p : Packet) (good : Bool) (origin : Option (Nat × Nat)) : State :=
  s.modNport q (enqueue (packetVc p q) (.packet p good origin [] 0))

/-- A stack record joins the queue of a stack link. -/
def State.queueRecordOn (s : State) (q vc : Nat) (b : Bytes) : State := s.modNport q (enqueue vc (.record b))

/-- `n` flits leave a receive buffer. -/
def State.freeHeld (s : State) (origin : Option (Nat × Nat)) (n : Nat) : State :=
  match origin with
  | some (q, v) => s.modNport q (fun p => { p with held := Tab.putD 0 p.held v (Tab.getD p.held v 0 - n) })
  | none => s

/-- Whether the transmitter of a port treats a VC as off (R490, R491): told so, or nothing heard for four flit periods. -/
def State.vcOff (s : State) (q v : Nat) : Bool :=
  let p := s.nport q
  bit p.xoffRcvd v || (match p.lastGood with
    | some t => Nat.ble (4 * (if p.lanes = 2 then 5 else 10)) (s.since t)
    | none => true)

/-- Whether a fabric port is UP. -/
def State.portIsUp (s : State) (q : Nat) : Bool := (s.nport q).state == .up

/-- The box of a route set, or none. -/
def State.box (s : State) (rset : Nat) : Option Box := manBox s.man rset

/-- A packet is discarded at this node for want of a route (R528, R542). -/
def State.noRoute (s : State) (t : Transit) : State :=
  (s.freeHeld t.origin (packetFlits t.packet)).count Fld.FAB_NOROUTE_CNT

/-- A packet over a port that the rules fix: there, or discarded where the port is not UP (R526 to R528). -/
def State.routeFixed (s : State) (t : Transit) (q : Option Nat) : State :=
  match q with
  | some q => if s.portIsUp q then s.queuePacket q t.packet t.good t.origin else s.noRoute t
  | none => s.noRoute t

/-- ESC set: the packet moves to VC2 for good (R525). -/
def escaped (t : Transit) : Transit := { t with packet := { t.packet with rflags := t.packet.rflags ||| 1 } }

/-- R525, R526: a packet takes the escape route. -/
def State.routeEscape (s : State) (t : Transit) : State :=
  match s.box t.packet.rset with
  | some b => s.routeFixed t (escapePort s.man b s.node t.packet.dest)
  | none => s.noRoute t

/-- R525: the port that an adaptive packet takes now. -/
def State.adaptivePort (s : State) (b : Box) (p : Packet) : Option Nat :=
  let (cs, rs) := productivePorts s.man b s.node p.dest
  let v := packetVc p 0
  minBy? ((cs ++ rs).filter (fun q => s.portIsUp q && !s.vcOff q v)) (fun q => queuedFlits (s.nport q) v)

/-- R524 to R528: one packet that stands at this node goes on; none where it waits for an eligible port. -/
def State.routeOne (s : State) (t : Transit) : Option State :=
  let p := t.packet
  match s.box p.rset with
  | none => some (s.noRoute t)
  | some b =>
    if ptypeVc p.ptype = 3 ∨ isEsc p then
      some (if s.get Fld.FAB_STATE_MODE = 1 then s.routeEscape t
        else s.routeFixed t (((productivePorts s.man b s.node p.dest).1 ++ (productivePorts s.man b s.node p.dest).2).head?))
    else if s.get Fld.FAB_STATE_MODE = 1 then
      let (cs, rs) := productivePorts s.man b s.node p.dest
      if (cs ++ rs).all (fun q => !s.portIsUp q) then some (s.routeEscape (escaped t))
      else (s.adaptivePort b p).map (fun q => s.queuePacket q p t.good t.origin)
    else
      let (cs, rs) := productivePorts s.man b s.node p.dest
      some (s.routeFixed t (if ptypeVc p.ptype = 1 then (rs ++ cs).head? else (cs ++ rs).head?))

/-- Every packet that waits is tried again, in order. -/
def State.routeWaiting (s : State) : State :=
  s.fab.transits.foldl (fun s t =>
    match s.routeOne t with
    | some s' => s'
    | none => { s with fab := { s.fab with transits := s.fab.transits ++ [t] } }) { s with fab := { s.fab with transits := [] } }

/-- Bytes of the endpoint memory in use (R531). -/
def State.endpointUsed (s : State) : Nat := sumBy s.fab.endpoint (fun p => 36 + p.payload.length)

/-- A packet leaves its source: up the stack from a Shoal (R530), over the fabric from the head of a node. -/
def State.inject (s : State) (p : Packet) : State :=
  let t : Transit := ⟨p, true, none, s.now⟩
  if s.isHead then
    match s.routeOne t with
    | some s' => s'
    | none => { s with fab := { s.fab with transits := s.fab.transits ++ [t] } }
  else s.routeFixed t (some 4)

/-- Whether a packet type is acknowledged end to end (R532). -/
def isAcked (p : Packet) : Bool := !isMcast p && p.ptype != 0x0C && p.ptype != 0x0D

/-- R532: whether the destination has room for one more unacknowledged packet. -/
def State.ackRoom (s : State) (p : Packet) : Bool :=
  !isAcked p || Nat.blt (s.fab.unacked.filter (fun u => u.packet.dest == p.dest)).length 64

/-- The flow to a destination's node. -/
def State.flow? (s : State) (a : Nat) : Option Flow := s.fab.flows.find? (fun f => f.node == nodeBase a)

/-- The credit of a flow now: RATE flits per µs, at most one packet of 68 flits (R536). -/
def State.flowCredit (s : State) (f : Flow) : Nat := min 34000 (f.credit + f.rate * s.since f.creditTick)

/-- R536, R538: whether the pacing of its flow lets a packet go, and the flows after it has. -/
def State.pace (s : State) (p : Packet) : Option (List Flow) :=
  if ptypeVc p.ptype ≠ 0 ∨ p.cw ≠ 0 then some s.fab.flows
  else
    let need := 500 * packetFlits p
    match s.flow? p.dest with
    | some f =>
      if need ≤ s.flowCredit f then
        some (mapWhere s.fab.flows (fun g => g.node == f.node) (fun g =>
          { g with credit := s.flowCredit f - need, creditTick := s.now, lastSend := s.now }))
      else none
    | none =>
      if s.fab.flows.length < 64 then
        some (s.fab.flows ++ [(⟨nodeBase p.dest, s.get Fld.FAB_RATE_A_R_MAX, 34000 - need, s.now, s.now, none, s.now⟩ : Flow)])
      else none

/-- A packet that may go leaves; its resend timer starts (R532). -/
def State.launch (s : State) (p : Packet) (flows : List Flow) : State :=
  let known := s.fab.unacked.any (fun u => u.packet.msgId == p.msgId)
  let un := if !isAcked p then s.fab.unacked
    else if known then mapWhere s.fab.unacked (fun u => u.packet.msgId == p.msgId) (fun u => { u with sent := s.now })
    else s.fab.unacked ++ [(⟨p, s.now, 0⟩ : Unacked)]
  ({ s with fab := { s.fab with flows := flows, unacked := un } }).inject p

/-- Packets held back go as far as R532 and R536 let them: each destination in order. -/
def State.pump (s : State) : State :=
  let (s, _) := s.fab.outbox.foldl (fun acc p =>
    let (s, stuck) := acc
    let known := s.fab.unacked.any (fun u => u.packet.msgId == p.msgId)
    if stuck.contains p.dest || !(known || s.ackRoom p) then ({ s with fab := { s.fab with outbox := s.fab.outbox ++ [p] } }, p.dest :: stuck)
    else match s.pace p with
      | some fl => (s.launch p fl, stuck)
      | none => ({ s with fab := { s.fab with outbox := s.fab.outbox ++ [p] } }, p.dest :: stuck))
    (({ s with fab := { s.fab with outbox := [] } } : State), ([] : List Nat))
  s

/-- A packet made here (R529, R532): MSG_ID, HOPLEFT, source. -/
def State.stamp (s : State) (p : Packet) : Packet × State :=
  ({ p with src := s.node, msgId := s.fab.nextMsg, hops := manRows s.man + manCols s.man },
   { s with fab := { s.fab with nextMsg := w32 (s.fab.nextMsg + 1) } })

/-- A packet with its type, destination, route set, transfer, offset and payload; the rest is filled in as it is sent. -/
def newPacket (ptype dest rset xfer offset : Nat) (payload : Bytes) : Packet :=
  ⟨dest, 0, ptype, 0, rset, 0, 0, 0, 0, 0, xfer, offset, payload⟩

/-- R523, R532, R536: a unicast packet is sent. One for a device outside the box is refused. -/
def State.sendPacket (s : State) (p : Packet) : State :=
  match s.box p.rset with
  | some b =>
    if s.inFabric && inBox b p.dest then
      let (p, s) := s.stamp p
      let s := (s.count Fld.FAB_PKT_TX_CNT)
      ({ s with fab := { s.fab with outbox := s.fab.outbox ++ [p] } }).pump
    else s.count Fld.FAB_NOROUTE_CNT
  | none => s.count Fld.FAB_NOROUTE_CNT

/-- Port `d` of a multicast leg's direction. -/
def legDir (p : Packet) : Nat := bits p.rflags 3 2

/-- R530, R542: a leg goes on over its port, from a Shoal first up the stack; it is dropped where that port is not UP. -/
def State.sendLeg (s : State) (p : Packet) (good : Bool) : State :=
  let q := if s.isHead then legDir p else 4
  if s.portIsUp q then s.queuePacket q p good none else s.count Fld.FAB_NOROUTE_CNT

/-- R543: the OPEN Causeway that covers a leg from this node. -/
def State.legCauseway (s : State) (d rset hops : Nat) : Option Nat :=
  ((manCauseways s.man).find? (fun e => le e 2 2 == s.node && byteAt e 4 == d && byteAt e 1 == rset && Nat.ble hops (byteAt e 5)
    && (Tab.getD s.fab.causeways (byteAt e 0) Causeway.reset).state == 2)).map (fun e => byteAt e 0)

/-- R542 to R544: one leg of a multicast from this node over port `d`. -/
def State.startLeg (s : State) (p : Packet) (b : Box) (d : Nat) (relayed : Bool) : State :=
  let ns := legNodes s.man b d (manRows s.man + manCols s.man) s.node
  match ns.getLast? with
  | none => s
  | some last =>
    let (p, s) := s.stamp p
    let cw := if ptypeVc p.ptype = 0 then s.legCauseway d p.rset ns.length else none
    let p := { p with dest := last, pflags := p.pflags ||| 4, rflags := (2 * b2n relayed + 4 + 8 * d), endIx := if d < 2 then nodeRow last else nodeCol last
                      cw := match cw with
                        | some k => k + 1
                        | none => 0 }
    (s.count Fld.FAB_PKT_TX_CNT).sendLeg p true

/-- R530: a packet goes down the stack. -/
def State.stackDown (s : State) (p : Packet) (good : Bool) (origin : Option (Nat × Nat)) : State :=
  if (manPartner s.man s.node 5).isSome then s.routeFixed ⟨p, good, origin, s.now⟩ (some 5) else s.freeHeld origin (packetFlits p)

/-- R544: a packet is sent over the replication tree of a route set: column legs and row legs from this node, and down this node's
own stack. -/
def State.multicast (s : State) (p : Packet) : State :=
  match s.box p.rset with
  | none => s
  | some b =>
    let s := [0, 1].foldl (fun s d => s.startLeg p b d false) s
    let s := [2, 3].foldl (fun s d => s.startLeg p b d true) s
    if 1 < stackSize s.man s.node then
      let (p, s) := s.stamp p
      let p := { p with dest := nodeBase s.node, pflags := p.pflags ||| 4, rflags := 4 }
      if s.isHead then (s.count Fld.FAB_PKT_TX_CNT).stackDown p true none
      else (s.count Fld.FAB_PKT_TX_CNT).routeFixed ⟨p, true, none, s.now⟩ (some 4)
    else s

/-- R532: the ACK of a packet. -/
def State.ackPacket (s : State) (p : Packet) : State :=
  if isAcked p then s.sendPacket (newPacket 0x0C p.src p.rset 0 0 (toLe 4 p.msgId)) else s

/-- R535: the ECHO of a marked packet. -/
def State.echoPacket (s : State) (p : Packet) : State :=
  let gap := s.get Fld.FAB_RATE_B_ECHO_GAP_US * 500
  let due := match Tab.get? s.fab.echoes p.src with
    | some t => Nat.ble gap (s.since t)
    | none => true
  if isMarked p && due then
    let s := { s with fab := { s.fab with echoes := Tab.put s.fab.echoes p.src s.now } }
    (s.count Fld.FAB_ECHO_CNT).sendPacket { newPacket 0x0D p.src p.rset 0 0 [] with pflags := 2 }
  else s

/-- R531, R532, R535: a packet addressed or copied to this device is consumed. -/
def State.consume (s : State) (p : Packet) (good : Bool) : State :=
  if !good then s.count Fld.FAB_PCRC_CNT
  else if 8 * 2 ^ 20 < s.endpointUsed + 36 + p.payload.length then s.count Fld.FAB_RX_FULL_CNT
  else
    let s := ((s.count Fld.FAB_PKT_RX_CNT).echoPacket p).ackPacket p
    if p.ptype = 0 ∨ 0x10 < p.ptype then s.count Fld.FAB_PCRC_CNT
    else { s with fab := { s.fab with endpoint := s.fab.endpoint ++ [p] } }

/-- R542, R544: a multicast leg at a node it passes: a copy here and down the stack, the leg forwarded, row legs begun. -/
def State.takeLeg (s : State) (p : Packet) (good : Bool) (origin : Option (Nat × Nat)) : State :=
  let s := s.freeHeld origin (packetFlits p)
  let s := s.consume p good
  let s := if isStackAll p then s.stackDown p good none else s
  let here := if legDir p < 2 then nodeRow s.node else nodeCol s.node
  let s := if here = p.endIx then s else s.sendLeg p good
  match s.box p.rset with
  | some b => if legDir p < 2 && !isRelayed p then [2, 3].foldl (fun s d => s.startLeg { p with cw := 0 } b d true) s else s
  | none => s

/-- R529: a packet that arrives over the fabric has made one hop more; none where it is spent. -/
def hopTaken (here : Nat) (p : Packet) : Option Packet :=
  if p.hops ≤ 1 && nodeBase p.dest != nodeBase here then none else some { p with hops := p.hops - 1 }

/-- A unicast packet that has reached its node (R530). -/
def State.atNode (s : State) (p : Packet) (good : Bool) (origin : Option (Nat × Nat)) : State :=
  if p.dest = s.node then (s.freeHeld origin (packetFlits p)).consume p good
  else s.stackDown p good origin

/-- A packet that has arrived whole on port `q` (R529 to R531, R540, R542). -/
def State.arrivePacket (s : State) (q vc : Nat) (p : Packet) (good : Bool) : State :=
  let origin := some (q, vc)
  let away := fun (s : State) (p : Packet) =>
    let t : Transit := ⟨p, good, origin, s.now⟩
    match s.routeOne t with
    | some s' => s'
    | none => { s with fab := { s.fab with transits := s.fab.transits ++ [t] } }
  if q = 4 then
    if isStackAll p then ((s.freeHeld origin (packetFlits p)).consume p good).stackDown p good none
    else s.atNode p good origin
  else if q = 5 then
    if !s.isHead then s.routeFixed ⟨p, good, origin, s.now⟩ (some 4)
    else if isMcast p then
      let s := s.freeHeld origin (packetFlits p)
      if nodeBase p.dest = nodeBase s.node then (s.consume p good).stackDown p good none else s.sendLeg p good
    else if nodeBase p.dest = nodeBase s.node then s.atNode p good origin
    else away s p
  else match hopTaken s.node p with
    | none => (s.freeHeld origin (packetFlits p)).count Fld.FAB_HOP_DROP_CNT
    | some p =>
      if isMcast p then s.takeLeg p good origin
      else if nodeBase p.dest = nodeBase s.node then s.atNode p good origin
      else away s p

/-- The first packet of the endpoint memory, where it is of a type. -/
def State.nextPacket (s : State) (t : Nat) : Option (Packet × State) :=
  match s.fab.endpoint with
  | p :: rest => if p.ptype = t then some (p, { s with fab := { s.fab with endpoint := rest } }) else none
  | [] => none

end Sys2Proof.Machine
end

