-- ==== Sys2Proof/Machine/Rs.lean ====
section
/-!
DEFINITION. The Reed–Solomon parity of a flit (R478): two interleaved RS(140,128) codewords over GF(2^8), field polynomial 0x11D,
generator roots α^0 to α^11.
-/
namespace Sys2Proof

/-- Multiplication by α. -/
def gfDouble (a : Nat) : Nat := if a < 128 then 2 * a else (2 * a) ^^^ 0x11D

/-- Product in GF(2^8), over the bits of `b` from bit `n − 1` down. -/
def gfMulAux (a b : Nat) : Nat → Nat → Nat
  | 0, acc => acc
  | n + 1, acc => gfMulAux a b n (gfDouble acc ^^^ (if bit b n then a else 0))

/-- Product in GF(2^8). -/
def gfMul (a b : Nat) : Nat := gfMulAux a b 8 0

/-- α^n. -/
def gfPow : Nat → Nat
  | 0 => 1
  | n + 1 => gfDouble (gfPow n)

/-- A polynomial, highest coefficient first, times (x + r). -/
def polyTimes (p : List Nat) (r : Nat) : List Nat :=
  List.zipWith (· ^^^ ·) (p ++ [0]) (0 :: p.map (gfMul r))

/-- The generator polynomial, highest coefficient first. -/
def rsGenerator : List Nat := (upto 12).foldl (fun p i => polyTimes p (gfPow i)) [1]

/-- One data symbol divided in: the 12 remainder symbols, highest first. -/
def rsStep (g : List Nat) (rem : List Nat) (d : Nat) : List Nat :=
  let f := d ^^^ rem.headD 0
  List.zipWith (fun x y => x ^^^ gfMul f y) (rem.drop 1 ++ [0]) (g.drop 1)

/-- The 12 parity symbols of a codeword's 128 data symbols. -/
def rsParity (data : List Nat) : List Nat := data.foldl (rsStep rsGenerator) (List.replicate 12 0)

/-- Every second element, from the first. -/
def evens {α : Type} : List α → List α
  | [] => []
  | [x] => [x]
  | x :: _ :: t => x :: evens t

/-- Two lists taken alternately. -/
def interleave {α : Type} : List α → List α → List α
  | x :: xs, y :: ys => x :: y :: interleave xs ys
  | _, _ => []

/-- The 24 parity bytes of a flit: even bytes form codeword 0, odd bytes codeword 1, and so does the parity. -/
def flitParity (f : Bytes) : Bytes :=
  let ns := f.map (fun b => b.toNat)
  (interleave (rsParity (evens ns)) (rsParity (evens (ns.drop 1)))).map byte

end Sys2Proof
end

