-- ==== Sys2Proof/Machine/LinkOps.lean ====
section
/-!
DEFINITION. What a port of a Narwyn link does: flits as bytes, what is sent in a slot, acknowledgement, replay, flow control, the
states of a port (R478 to R501, R508, R514, R515, R534, R541, R599, R600).
-/
namespace Sys2Proof.Machine

/-- d(a, b) of R481. -/
def seqDist (a b : Nat) : Nat := (a + 65536 - b % 65536) % 65536

/-- Receive buffer of a VC, in flits (Table 13-4). -/
def bufferSize (q v : Nat) : Nat :=
  if q < 4 then (if v ≤ 1 then 384 else if v ≤ 3 then 96 else 256)
  else if v ≤ 1 then 256 else if v = 3 then 96 else 0

/-- OFF_v of a port. -/
def State.fcOff (s : State) (q v : Nat) : Nat :=
  match v with
  | 0 => s.get (Fld.NWL_FC0_OFF q)
  | 1 => s.get (Fld.NWL_FC1_OFF q)
  | 2 => s.get (Fld.NWL_FC2_OFF q)
  | 3 => s.get (Fld.NWL_FC3_OFF q)
  | _ => s.get (Fld.NWL_FC4_OFF q)

/-- ON_v of a port. -/
def State.fcOn (s : State) (q v : Nat) : Nat :=
  match v with
  | 0 => s.get (Fld.NWL_FC0_ON q)
  | 1 => s.get (Fld.NWL_FC1_ON q)
  | 2 => s.get (Fld.NWL_FC2_ON q)
  | 3 => s.get (Fld.NWL_FC3_ON q)
  | _ => s.get (Fld.NWL_FC4_ON q)

/-- R490: the XOFF bits of the next flit. -/
def State.xoffNow (s : State) (q : Nat) : Nat :=
  let p := s.nport q
  sumBy ((upto 5).filter (fun v =>
    let size := bufferSize q v
    let room := size - Tab.getD p.held v 0
    size == 0 || Nat.blt room (s.fcOff q v) || (bit p.xoffSent v && Nat.blt room (s.fcOn q v)))) (fun v => 2 ^ v)

/-- Ticks of a flit slot (R478). -/
def flitPeriod (lanes : Nat) : Nat := if lanes = 2 then 5 else 10

/-- Lane numbers of a port (Table 15-7). -/
def portLanes (q : Nat) : List Nat := if q < 4 then [9 + 2 * q, 10 + 2 * q] else [13 + q]

/-- Lanes of a port in service. -/
def State.liveLanes (s : State) (q : Nat) : List Nat := (portLanes q).filter (fun l => !s.isRetired .lane l)

/-- The 280 bytes of a flit before scrambling (R478, Table 13-2). -/
def flitBytes (type vcf seq ack xoff : Nat) (payload fill : Bytes) : Bytes :=
  let head := [byte type, byte vcf] ++ toLe 2 seq ++ toLe 2 ack ++ [byte xoff, byte payload.length]
  let body := head ++ (payload ++ fill).take 244 ++ zeros (244 - (payload ++ fill).length)
  let flit := body ++ toLe 4 (crc32c body)
  flit ++ flitParity flit

/-- A flit is sent in this slot: its header carries ACK = E once UP, and the XOFF bits. -/
def State.sendFlit (s : State) (q type vcf seq : Nat) (payload fill : Bytes) : State :=
  let p := s.nport q
  let x := s.xoffNow q
  let up := p.state == .up
  let f := flitBytes (type + 8 * b2n up) vcf seq (if up then p.e else 0) x payload fill
  (s.modNport q (fun p => { p with xoffSent := x, lastSlot := some s.now })).emit (.flit q f)

/-- Table 13-7: the TRAIN flit of a port, whose LEN is 0 as in every flit but DATA. -/
def State.trainFill (s : State) (q : Nat) : Bytes :=
  let p := s.nport q
  let (echo, hold) := match p.heard with
    | some (st, t) => (st, s.since t)
    | none => (0, 0)
  toLe 4 0x4C574E49 ++ toLe 2 s.node ++ [byte q, byte (b2n (s.flag Fld.STK_CFG_HEADLAND) + 2 * b2n p.passed.isSome)]
    ++ toLe 2 (s.get Fld.IMG_EPOCH_MANIFEST) ++ toLe 2 (s.get Fld.IMG_EPOCH_IMAGE) ++ s.window 0x10 16 ++ s.fab.manifestDig.take 8
    ++ toLe 4 (w32 s.now) ++ toLe 4 echo ++ toLe 4 (w32 hold)

/-- The stored fields of a DATA flit (Table 13-2 VCF). -/
def vcfOf (f : SentFlit) : Nat := f.vc + 8 * b2n f.sop + 16 * b2n f.eop

/-- A DATA flit, new or resent, is sent. -/
def State.sendData (s : State) (q : Nat) (f : SentFlit) : State :=
  (s.sendFlit q 1 (vcfOf f) f.seq f.bytes []).count (Fld.NWL_FLIT_TX_CNT q)

/-- A new DATA flit takes the next SEQ and stays in the replay buffer (R482, R483). -/
def State.sendNew (s : State) (q v : Nat) (sop eop : Bool) (bytes : Bytes) : State :=
  let p := s.nport q
  let f : SentFlit := ⟨p.next, v, sop, eop, bytes⟩
  let s := s.sendData q f
  s.modNport q (fun p => { p with next := (p.next + 1) % 65536, buffer := p.buffer ++ [f]
                                  advanced := if p.buffer.isEmpty then s.now else p.advanced })

/-- R534: whether a packet whose first flit leaves is marked. -/
def State.marks (s : State) (q v : Nat) : Bool :=
  let p := s.nport q
  Nat.ble v 1 && (Nat.blt (s.get Fld.FAB_RATE_B_MARK_Q) (queuedFlits p v)
    || bit p.xoffRcvd v || (match Tab.get? p.xoffSeen v with
      | some t => Nat.ble (s.since t) 500
      | none => false))

/-- The next flit of the VC at the head of a port's queue: up to three stack records, or the next 244 bytes of a packet. -/
def State.sendFrom (s : State) (q v : Nat) : State :=
  match Tab.getD (s.nport q).queues v [] with
  | [] => s
  | .record _ :: _ =>
    let items := Tab.getD (s.nport q).queues v []
    let rs := (items.take 3).takeWhile (fun i => match i with
      | .record _ => true
      | _ => false)
    let bytes := rs.flatMap (fun i => match i with
      | .record b => b
      | _ => [])
    (s.modNport q (fun p => { p with queues := Tab.put p.queues v (items.drop rs.length) })).sendNew q v true true bytes
  | .packet p good origin bytes sent :: rest =>
    let mark := sent == 0 && q < 4 && s.marks q v
    let s := if mark then s.count Fld.FAB_MARK_CNT else s
    let p := if mark then { p with pflags := p.pflags ||| 1 } else p
    let bytes := if sent = 0 then packetBytes p good else bytes
    let part := slice bytes sent 244
    let sentAll := bytes.length ≤ sent + part.length
    let left := if sentAll then rest else .packet p good origin bytes (sent + part.length) :: rest
    let s := s.modNport q (fun x => { x with queues := Tab.put x.queues v left })
    (s.sendNew q v (sent == 0) (decide sentAll) part).freeHeld origin 1

/-- Whether a new flit of a VC may be sent: something waits, the VC is not off, the replay buffer has room (R483, R491). -/
def State.mayNew (s : State) (q v : Nat) : Bool :=
  let p := s.nport q
  !(Tab.getD p.queues v []).isEmpty && !s.vcOff q v && Nat.blt p.buffer.length 1024

/-- The Causeway of the packet at the head of VC4. -/
def headCauseway (p : NwlPort) : Option Nat :=
  match Tab.getD p.queues 4 [] with
  | .packet p _ _ _ _ :: _ => if p.cw = 0 then none else some (p.cw - 1)
  | _ => none

/-- R539, R540: whether the slot that starts now belongs to an armed Causeway whose flit waits on this port. -/
def State.causewaySlot (s : State) (q : Nat) : Bool :=
  let p := s.nport q
  let k := s.now / flitPeriod p.lanes % 64
  q < 4 && s.mayNew q 4 && (manCauseways s.man).any (fun e =>
    headCauseway p == some (byteAt e 0) && byteAt e 4 == q && bit (le e 8 8) k
      && (Tab.getD s.fab.causeways (byteAt e 0) Causeway.reset).armed && (cwHops s.man e).contains s.node)

/-- R507: whether a SEARCH record waits on STK_DN: it goes ahead of every other new flit. -/
def searchWaits (p : NwlPort) : Bool :=
  match Tab.getD p.queues 0 [] with
  | .record b :: _ => byteAt b 0 == 1
  | _ => false

/-- R494: what the transmitter of a port that is UP sends in this slot. -/
def State.transmit (s : State) (q : Nat) : State :=
  let p := s.nport q
  if p.nakDue then
    ((s.sendFlit q 2 0 0 [] []).count (Fld.NWL_NAK_TX_CNT q)).modNport q (fun p => { p with nakDue := false, nakSent := some s.now })
  else match p.replay with
    | some i =>
      match p.buffer[i]? with
      | some f =>
        if s.vcOff q f.vc then s.sendFlit q 0 0 0 [] []
        else (s.sendData q f).modNport q (fun p => { p with replay := if i + 1 < p.buffer.length then some (i + 1) else none })
      | none => (s.sendFlit q 0 0 0 [] []).modNport q (fun p => { p with replay := none })
    | none =>
      if s.causewaySlot q then s.sendFrom q 4
      else
        let order := if q = 5 && searchWaits p then [0, 3, 2, 1, 4] else [3, 2, 1, 0, 4]
        match order.find? (s.mayNew q) with
        | some v => s.sendFrom q v
        | none => s.sendFlit q 0 0 0 [] []

/-- R485: an acknowledgement is applied; whether it was accepted. -/
def State.applyAck (s : State) (q a : Nat) : State × Bool :=
  let p := s.nport q
  let d := seqDist a p.o
  if d ≤ p.buffer.length then
    if d = 0 then (s, true)
    else (s.modNport q (fun p => { p with o := a, buffer := p.buffer.drop d, replays := 0, advanced := s.now
                                          replay := match p.replay with
                                            | some i => if p.buffer.length ≤ d then none else some (i - d)
                                            | none => none }), true)
  else (s.count (Fld.NWL_ACK_BAD_CNT q), false)

/-- What every good flit brings (R484, R485, R491): ACK, XOFF, corrected codewords; whether its ACK was accepted. -/
def State.goodFlit (s : State) (q : Nat) (h : FlitHead) : State × Bool :=
  let s := s.countBy (Fld.NWL_FEC_FIX_CNT q) h.fixes.val
  let (s, ok) := if h.ackValid then s.applyAck q h.ack.toNat else (s, true)
  let x := h.xoff.toNat
  (s.modNport q (fun p =>
    { p with xoffRcvd := x, lastGood := some s.now
             xoffSeen := (upto 5).foldl (fun t v => if bit x v || bit p.xoffRcvd v then Tab.put t v s.now else t) p.xoffSeen }), ok)

/-- R486: a NAK falls due, unless one has gone out within 2 µs and no flit with SEQ = E has been accepted since. -/
def State.oweNak (s : State) (q : Nat) : State :=
  let due := match (s.nport q).nakSent with
    | some t => Nat.ble 1000 (s.since t)
    | none => true
  let s := s.transient none 0x0501
  if due then s.modNport q (fun p => { p with nakDue := true }) else s

/-- R508: the REACH of this member. -/
def State.reachNow (s : State) : Nat :=
  let n := s.get Fld.STK_CFG_SIZE
  let pos := s.get Fld.STK_CFG_POS
  if pos + 1 = n then n - 1
  else if s.portIsUp 5 && s.stk.matchIn then s.stk.linkReach.getD pos else pos

/-- A LINK record (Table 13-8). -/
def linkRecord (reach : Nat) : Bytes := padTo 64 [4, 0, 0, byte reach]

/-- R508: a change of REACH goes up, or is noted by the Headland (Table 14-8 STACK_REACH). -/
def State.noteReach (s : State) : State :=
  let r := s.reachNow
  if s.get Fld.STK_CFG_SIZE ≤ 1 ∨ r = s.stk.reach then s
  else
    let s := { s with stk := { s.stk with reach := r } }
    if s.isHead then s.event 0x008C 0 [r] else s.queueRecordOn 4 1 (linkRecord r)

/-- A port enters a state. -/
def State.enterPort (s : State) (q : Nat) (st : PortState) : State := s.modNport q (fun p => { p with state := st, since := s.now })

/-- Packets that a port loses as it leaves UP: partly received ones, and those with a flit in the replay buffer (R489). -/
def lostPackets (p : NwlPort) : Nat :=
  let partial_ := (p.partFlits.filter (fun e => e.2 != 0)).length
  let whole := (p.buffer.filter (fun f => f.eop)).length
  let open_ := ((upto 5).filter (fun v => match (p.buffer.filter (fun f => f.vc == v)).getLast? with
    | some f => !f.eop
    | none => false)).length
  partial_ + whole + open_

/-- An item whose first flits are lost is sent no further. -/
def begun : TxItem → Bool
  | .packet _ _ _ _ sent => sent != 0
  | .record _ => false

/-- R541: a port on the path of a Causeway has left UP: this node disarms, its source learns of it. -/
def State.causewaysDown (s : State) (q : Nat) : State :=
  ((manCauseways s.man).filter (fun e => byteAt e 4 == q && (cwHops s.man e).contains s.node)).foldl (fun s e =>
    let k := byteAt e 0
    let c := Tab.getD s.fab.causeways k Causeway.reset
    let hit := c.armed || c.state == 2
    let s := { s with fab := { s.fab with causeways := Tab.putD Causeway.reset s.fab.causeways k { c with armed := false } } }
    if !hit then s
    else if le e 2 2 = s.node then
      let s := { s with fab := { s.fab with causeways := Tab.put s.fab.causeways k { c with armed := false, state := 3 } } }
      if c.state = 2 then s.event 0x0083 k [s.node] else s
    else s.sendPacket (newPacket 0x10 (le e 2 2) (byteAt e 1) 0 0 [byte k, 0, 0, 0])) s

/-- R599: a fourth departure from UP within 10 s retires the lane with more uncorrectable codewords; on a tie, lane 1. -/
def State.noteDeparture (s : State) (q : Nat) : State :=
  let p := s.nport q
  let recent := s.now :: p.departures.filter (fun t => Nat.blt (s.since t) 5000000000)
  let bad := if recent.length ≤ 1 then (0, 0) else p.badWords
  let s := s.modNport q (fun p => { p with departures := recent, badWords := bad })
  if recent.length < 4 then s
  else
    let s := s.modNport q (fun p => { p with departures := [], badWords := (0, 0) })
    match s.liveLanes q with
    | [a, b] => s.retireUnit ⟨.lane, if bad.2 < bad.1 then a else b⟩ 0x0503 4
    | [a] => s.retireUnit ⟨.lane, a⟩ 0x0503 4
    | _ => s

/-- R600: the state in which a port stands that is to retrain. -/
def State.trainState (s : State) (q : Nat) : PortState := if (s.liveLanes q).isEmpty then .retired else .train

/-- R489, R514: a port leaves UP: everything in its buffers is lost, SEQ and E start anew. -/
def State.leaveUp (s : State) (q : Nat) (st : PortState) : State :=
  let p := s.nport q
  let s := (s.countBy (Fld.NWL_PKT_LOST_CNT q) (lostPackets p)).count (Fld.NWL_RETRAIN_CNT q)
  let s := s.modNport q (fun p =>
    { p with o := 0, next := 0, buffer := [], replay := none, replayFrom := none, replays := 0, e := 0, nakDue := false, nakSent := none
             held := (upto 5).foldl (fun t v => Tab.putD 0 t v (Tab.getD t v 0 - Tab.getD p.partFlits v 0)) p.held
             parts := [], partFlits := [], queues := p.queues.map (fun e => (e.1, e.2.filter (fun i => !begun i)))
             passed := none, heard := none, samples := 0, xoffRcvd := 0, xoffSeen := [], lastGood := none })
  let s := (s.enterPort q st).transient none 0x0502
  let s := if q = 4 then { s with stk := { s.stk with matchOut := false } }
    else if q = 5 then { s with stk := { s.stk with matchIn := false } } else s
  let s := (s.noteDeparture q)
  let st := if (s.liveLanes q).isEmpty then PortState.retired else st
  let s := (s.enterPort q st).event 0x0081 q [match st with
    | .down => 0
    | .train => 1
    | .align => 2
    | .identify => 3
    | .up => 4
    | .disabled => 5
    | .retired => 6
    | .unused => 7]
  (s.causewaysDown q).noteReach

/-- R487 to R489: a replay begins from O, or the port has replayed too often and retrains. -/
def State.startReplay (s : State) (q : Nat) : State :=
  let p := s.nport q
  if p.buffer.isEmpty then s
  else if max 1 (s.get (Fld.NWL_PORT_CFG_REPLAY_MAX q)) ≤ p.replays + 1 then
    (s.count (Fld.NWL_REPLAY_CNT q)).leaveUp q (s.trainState q)
  else
    (s.count (Fld.NWL_REPLAY_CNT q)).modNport q (fun p =>
      { p with replay := some 0, replayFrom := some (p.o, s.now), replays := p.replays + 1, advanced := s.now })

/-- The stack records of an accepted flit wait for their commands; one of an undefined RTYPE is dropped. The flit leaves its buffer
with its last record. -/
def State.takeRecords (s : State) (q v : Nat) (bytes : Bytes) : State :=
  let rs := (chunks 64 bytes).filter (fun r => decide (1 ≤ byteAt r 0 ∧ byteAt r 0 ≤ 4))
  let n := rs.length
  let xs := (List.zip rs (upto n)).map (fun e => (⟨q, v, e.2 + 1 == n, e.1⟩ : RxRecord))
  if n = 0 then s.freeHeld (some (q, v)) 1 else { s with stk := { s.stk with records := s.stk.records ++ xs } }

/-- An accepted DATA flit joins its packet; at EOP the packet has arrived (R480, R531). -/
def State.acceptFlit (s : State) (q v : Nat) (sop eop : Bool) (bytes : Bytes) : State :=
  let s := s.modNport q (fun p => { p with held := Tab.put p.held v (Tab.getD p.held v 0 + 1) })
  if 4 ≤ q && v ≤ 1 then s.takeRecords q v bytes
  else
    let p := s.nport q
    let stale := if sop then Tab.getD p.partFlits v 0 else 0
    let s := s.freeHeld (some (q, v)) stale
    let buf := (if sop then [] else Tab.getD p.parts v []) ++ bytes
    let n := (if sop then 0 else Tab.getD p.partFlits v 0) + 1
    if eop then
      let s := s.modNport q (fun p => { p with parts := Tab.del p.parts v, partFlits := Tab.del p.partFlits v })
      let (pk, good) := packetOf buf
      if packetFlits pk = n then s.arrivePacket q v pk good else (s.freeHeld (some (q, v)) n).count Fld.FAB_PCRC_CNT
    else s.modNport q (fun p => { p with parts := Tab.put p.parts v buf, partFlits := Tab.put p.partFlits v n })

/-- R484, R486, R493: a good DATA flit. -/
def State.dataFlit (s : State) (q v : Nat) (sop eop : Bool) (seq : Nat) (bytes : Bytes) : State :=
  let p := s.nport q
  let d := seqDist seq p.e
  if d = 0 then
    if bufferSize q v ≤ Tab.getD p.held v 0 then (s.count (Fld.NWL_OVF_CNT q)).oweNak q
    else
      let s := (s.count (Fld.NWL_FLIT_RX_CNT q)).modNport q (fun p => { p with e := (p.e + 1) % 65536, nakSent := none })
      s.acceptFlit q v sop eop bytes
  else if d < 32768 then s.oweNak q
  else s

end Sys2Proof.Machine
end

