-- ==== Sys2Proof/Machine/ContentOps.lean ====
section
/-!
DEFINITION. Loaded content as a whole: items and their versions, targets, stale items and the Strands they exclude, pins, room,
installation (R76, R135 to R137, R240, R241, R274, R275, R427, R523, R550, R551, R557, R665).
-/
namespace Sys2Proof.Machine

/-- The kind of a KIND code (Table 11-12). -/
def kindOfCode : Nat → Option ContentKind
  | 1 => some .table
  | 2 => some .vocabulary
  | 3 => some .model
  | 4 => some .graph
  | 5 => some .automaton
  | _ => none

/-- How many indices a kind has. -/
def kindSize : ContentKind → Nat
  | .table => 64
  | .vocabulary => 16
  | .model => 64
  | .graph => 4
  | .automaton => 32

/-- Number of the first item of a kind in FAB_RSET_MAP and FAB_TARGET. -/
def kindBase : ContentKind → Nat
  | .table => 0
  | .vocabulary => 64
  | .model => 80
  | .graph => 144
  | .automaton => 148

/-- The number of an item. -/
def itemNo (k : ContentKind) (i : Nat) : Nat := kindBase k + i

/-- The item of a number. -/
def itemOf (n : Nat) : ContentKind × Nat :=
  if n < 64 then (.table, n) else if n < 80 then (.vocabulary, n - 64) else if n < 144 then (.model, n - 80)
  else if n < 148 then (.graph, n - 144) else (.automaton, n - 148)

/-- How many items there are. -/
def itemCount : Nat := 180

/-- SOURCE of an event about an item. -/
def itemSource (k : ContentKind) (i : Nat) : Nat := contentCode k * 256 + i

/-- The committed version of an item, 0 where it has none. -/
def State.itemVersion (s : State) (k : ContentKind) (i : Nat) : Nat :=
  match k with
  | .table => (s.vtable i).ver
  | .graph => (s.graph i).ver
  | _ => ((s.currentOf k i).map (fun r => r.version)).getD 0

/-- The target of an item (R550). -/
def State.itemTarget (s : State) (n : Nat) : Nat := s.get (Fld.FAB_TARGET n)

/-- The route set of an item (R523). -/
def State.itemRset (s : State) (n : Nat) : Nat := bits (s.get (Fld.FAB_RSET_MAP (n / 4))) (8 * (n % 4)) 6

/-- The load at the head of a graph's queue: its turn has come (R237). -/
def State.graphTurn (s : State) (g : Nat) : Option Load :=
  (s.graph g).queue.head?.bind (fun k => s.host.loads.find? (fun l => l.key == k))

/-- MODE of a graph load: 1 full. -/
def isFullLoad (l : Load) : Bool := byteAt l.content 5 == 1

/-- R238: a graph is LOADING from a full load's turn until its commit. -/
def State.graphLoading (s : State) (g : Nat) : Bool := ((s.graphTurn g).map isFullLoad).getD false

/-- R240: a graph is stale. -/
def State.graphStale (s : State) (g : Nat) : Bool := (s.graph g).expired || (s.graph g).damaged || s.graphLoading g

/-- Whether an item is stale (R240, R551). -/
def State.itemStale (s : State) (n : Nat) : Bool :=
  match itemOf n with
  | (.graph, g) => s.graphStale g
  | _ => s.fab.stale.contains n

/-- The model and the automaton of a Strand's Cove, where guard is enabled. -/
def State.coveItems (s : State) (i : Nat) : List Nat :=
  if s.flag (Fld.SRV_STRAND_GUARD_EN i) then
    let m := s.get (Fld.SRV_COVE_CFG_MODEL (s.get (Fld.SRV_STRAND_GUARD_COVE i)))
    itemNo .model m :: (match s.currentOf .model m with
      | some r => [itemNo .automaton (byteAt (guardParams r.bytes) 16 % 32)]
      | none => [])
  else []

/-- R551: the items that a Strand uses. -/
def State.strandItems (s : State) (i : Nat) : List Nat :=
  let keys := ((upto 64).map (s.keyMap i)).filter (fun m => bit m 0) |>.map (fun m => itemNo .table (bits m 1 6))
  let slots := ((upto 64).map (s.slotMap i)).filter (fun m => bit m 0) |>.map (fun m => itemNo .vocabulary (bits m 1 4))
  let models := (s.modelList i).map (fun e => itemNo .model (e.2 % 64))
  let graph := if s.flag (Fld.GTH_STRAND_CFG_EN i) then [itemNo .graph (s.graphOf i)] else []
  keys ++ slots ++ models ++ graph ++ s.coveItems i

/-- R76, R240, R557: Strands that use a stale item are EXCLUDED, and return once none of theirs is. -/
def State.reviewStrands (s : State) : State :=
  let stale := (upto itemCount).filter s.itemStale
  (upto 32).foldl (fun s i =>
    match s.strandState i with
    | .serving => if (s.strandItems i).any (fun n => stale.contains n) then s.strandExclude i else s
    | .excluded => if (s.strandItems i).any (fun n => stale.contains n) then s else s.strandReturn i
    | _ => s) s

/-- R240, R241, R551, R557: after a change of an item's version or target. -/
def State.reviewItem (s : State) (k : ContentKind) (i : Nat) : State :=
  let n := itemNo k i
  let ver := s.itemVersion k i
  let below := match Tab.get? s.fab.below n with
    | some t => if ver < s.itemTarget n then Tab.put s.fab.below n t else Tab.del s.fab.below n
    | none => if ver < s.itemTarget n then Tab.put s.fab.below n s.now else s.fab.below
  let s := { s with fab := { s.fab with below := below, pulls := if ver < s.itemTarget n then s.fab.pulls else Tab.del s.fab.pulls n } }
  let s := if k = .graph then
      let g := s.graph i
      if g.ver < s.get (Fld.GTH_GRAPH_TARGET i) then
        s.modGraph i (fun g => { g with behind := some (g.behind.getD s.now) })
      else
        let s := s.modGraph i (fun g => { g with behind := none, expired := false })
        if g.expired then s.event 0x0087 (itemSource k i) [ver] else s
    else if ver < s.itemTarget n || !s.fab.stale.contains n then s
    else ({ s with fab := { s.fab with stale := s.fab.stale.filter (fun m => m != n) } }).event 0x0087 (itemSource k i) [ver]
  s.reviewStrands

/-- STALE_GRACE_MS of an item, and since when it has been behind. -/
def State.graceOf (s : State) (k : ContentKind) (i : Nat) : Nat × Option Nat :=
  if k = .graph then (s.get Fld.GTH_CTL_STALE_GRACE_MS, (s.graph i).behind)
  else (s.get Fld.FAB_REPL_CTL_STALE_GRACE_MS, Tab.get? s.fab.below (itemNo k i))

/-- R240, R551, R557: an item has been behind for longer than its grace. `item` is its number in FAB_TARGET. -/
def execStaleGraceExpiry (item : Fin 180) (s : State) : Res :=
  let (k, i) := itemOf item.val
  let (grace, since) := s.graceOf k i
  let known := if k = .graph then (s.graph i).expired else s.fab.stale.contains item.val
  let target := if k = .graph then s.get (Fld.GTH_GRAPH_TARGET i) else s.itemTarget item.val
  .next (match since with
    | none => s
    | some t =>
      if known || Nat.ble (s.since t) (500000 * grace) then s
      else
        let s := if k = .graph then s.modGraph i (fun g => { g with expired := true })
          else { s with fab := { s.fab with stale := s.fab.stale ++ [item.val] } }
        ((s.count Fld.FAB_STALE_CNT).event 0x0086 (itemSource k i) [s.itemVersion k i, target]).reviewStrands)

/-- R240, R241: T_g of a graph is written. -/
def State.setGraphTarget (s : State) (g v : Nat) : State := (s.set (Fld.GTH_GRAPH_TARGET g) v).reviewItem .graph g

/-- GRAPH_TARGET_WRITE: R240, R241. -/
def execGraphTargetWrite (graph : Fin 4) (value : Word) (s : State) : Res :=
  .next (if s.img.pwrOk && s.flag Fld.HIF_STATUS_CMD_READY then s.setGraphTarget graph.val value.toNat else s)

/-- The vocabulary that a GUARD container names: index and version. -/
def guardVocab (c : Bytes) : Option (Nat × Nat) := if isGuard c then some (byteAt c 24 % 16, le c 28 4) else none

/-- The automaton that a GUARD container names. -/
def guardAut (c : Bytes) : Option (Nat × Nat) :=
  if isGuard c then some (byteAt (guardParams c) 16 % 32, le (guardParams c) 20 4) else none

/-- Whether a replay is to use a version (R396). -/
def replayHolds (k : ContentKind) (i v : Nat) (f : Frame) : Bool :=
  match f.kind with
  | .replay r => r.versions.contains (contentCode k, i, v)
  | _ => false

/-- Whether something still pins or names a version of an item (R136, R137, R150, R274, R275, R287, R396). -/
def State.versionHeld (s : State) (k : ContentKind) (i v : Nat) : Bool :=
  let requests := s.srv.requests.filter (fun r => r.state != .ended)
  s.frames.any (replayHolds k i v) || match k with
  | .vocabulary =>
    s.frames.any (fun f => f.texts.any (fun t => t.vocab == i && t.pin == some v))
      || s.streams.any (fun x => Tab.get? x.pins i == some v)
      || requests.any (fun r => r.vocab == i && r.vocabVer == v)
      || s.content.any (fun r => r.kind == .automaton && autVocab r.bytes == i && autVocabVer r.bytes == v)
      || s.content.any (fun r => r.kind == .model && guardVocab r.bytes == some (i, v))
  | .automaton =>
    requests.any (fun r => r.aut == i && r.autVer == v)
      || s.content.any (fun r => r.kind == .model && guardAut r.bytes == some (i, v))
  | .model =>
    s.frames.any (fun f => f.models.any (fun m => m.model == i && m.pin == some v))
      || requests.any (fun r => r.model == i && r.modelVer == v)
  | _ => false

/-- Superseded versions of a kind that nothing holds any more are freed. -/
def State.freeKind (s : State) (k : ContentKind) : State :=
  { s with content := s.content.filter (fun r => r.kind != k || r.current || s.versionHeld k r.index r.version) }

/-- R137, R275: superseded versions that nothing holds any more are freed. -/
def State.freeOld (s : State) : State := ((s.freeKind .model).freeKind .automaton).freeKind .vocabulary

/-- Bytes of the resident versions of a kind. -/
def State.kindBytes (s : State) (k : ContentKind) : Nat := sumBy (s.content.filter (fun r => r.kind == k)) (fun r => r.bytes.length)

/-- R137, R275: whether a new version of a kind has room. -/
def State.contentRoom (s : State) (k : ContentKind) (n : Nat) : Bool :=
  match k with
  | .model => decide (s.kindBytes .model + n ≤ s.get (Fld.IMG_HBM_REGION 2) * 2 ^ 20)
  | _ => decide (s.kindBytes .vocabulary + s.kindBytes .automaton + n + s.get Fld.CAT_MASK_CACHE * 2 ^ 20 ≤ 32 * 2 ^ 20)

/-- A version of a vocabulary, model or automaton becomes current. -/
def State.installVersion (s : State) (k : ContentKind) (i v : Nat) (digest bytes : Bytes) : State :=
  let old := mapWhere (s.content.filter (fun r => !(r.kind == k && r.index == i && r.version == v))) (fun r => r.kind == k && r.index == i)
    (fun r => { r with current := false })
  ({ s with content := old ++ [(⟨k, i, v, digest, bytes, false, true⟩ : Resident)] }).freeOld

end Sys2Proof.Machine
end

