-- ==== Sys2Proof/Machine/LoadOps.lean ====
section
/-!
DEFINITION. What content loads work with: the checks of each kind, staging room, refusal and commit (R128, R150, R236, R273, R274,
R287, R290, R423 to R430, R545, R547, R552, Table 11-13).
-/
namespace Sys2Proof.Machine

/-- A load in progress. -/
def State.load? (s : State) (k : Nat) : Option Load := s.host.loads.find? (fun l => l.key == k)

/-- A load changed. -/
def State.modLoad (s : State) (k : Nat) (f : Load → Load) : State :=
  { s with host := { s.host with loads := mapWhere s.host.loads (fun l => l.key == k) f } }

/-- The op records of a table batch. -/
def batchRecords (c : Bytes) : List Bytes := chunks 256 (c.drop 32)

/-- Whether a batch's header passes (Table 11-13, R429). -/
def batchHeaderOk (c : Bytes) (index : Nat) : Bool :=
  le c 0 4 == 0x4C425456 && le c 4 4 == index && decide (1 ≤ le c 8 4 ∧ le c 8 4 ≤ 1048576) && le c 12 20 == 0
    && c.length == 32 + 256 * le c 8 4

/-- Whether an op record passes for a table of `w` units per entry (R429). -/
def opRecordOk (w : Nat) (r : Bytes) : Bool :=
  let op := byteAt r 0
  decide (1 ≤ op ∧ op ≤ 6) && le r 2 2 == 0
    && (op == 5 || op == 6 || (le r (8 + 12 * w) (48 - 12 * w) == 0 && le r (56 + 12 * w) (48 - 12 * w) == 0 && le r 240 16 == 0))

/-- The operation of an op record (Table 11-13). FLAGS count only for a table with AGE. -/
def opOfRecord (w : Nat) (ages : Bool) (r : Bytes) : BatchOp :=
  let key := le r 8 (12 * w)
  let mask := le r 56 (12 * w)
  let code := le r 4 4
  let data := slice r 104 128
  let flags := byteAt r 1
  match byteAt r 0 with
  | 1 => .insert ⟨key, mask, ⟨true, true, 0, 0, false, ages && bit flags 1, ages && bit flags 0, false, false, 0, 0⟩,
      ⟨0, code, le r 232 8, 0, 0, data⟩⟩
  | 2 => .modify key mask code data
  | 3 => .delete key mask
  | 4 => .unpin key mask
  | 5 => .rebalance
  | _ => .clear

/-- The first element of a list that fails a test, by its place. -/
def firstFailing {α : Type} (p : α → Bool) : Nat → List α → Option Nat
  | _, [] => none
  | n, x :: xs => if p x then firstFailing p (n + 1) xs else some n

/-- R430: whether a Strand that learns into the table has left LOADING. -/
def State.learnsBegun (s : State) (t : Nat) : Bool :=
  s.flag (Fld.VIT_TABLE_CFG_LEARN t) && (upto 32).any (fun i =>
    (s.strand i).left && (upto 64).any (fun sl => bit (s.keyMap i sl) 0 && bit (s.keyMap i sl) 7 && bits (s.keyMap i sl) 1 6 == t))

/-- Why a load is refused: status and DETAIL. -/
abbrev LoadRefusal := Nat × Nat

/-- R429, R430: the checks of a table batch. -/
def State.batchCheck (s : State) (c : Bytes) (index : Nat) : Option LoadRefusal :=
  let w := s.tableWidth index
  if !batchHeaderOk c index then some (Status.checkFailed.code, 0)
  else match firstFailing (opRecordOk w) 0 (batchRecords c) with
    | some i => some (Status.checkFailed.code, i)
    | none =>
      if s.learnsBegun index && (batchRecords c).any (fun r => byteAt r 0 == 1 || byteAt r 0 == 2) then some (Status.illegalOp.code, 0) else none

/-- Distinct elements. -/
def distinct : List Nat → Bool
  | [] => true
  | x :: xs => !xs.contains x && distinct xs

/-- R274, R287, R290, Table 8-1: the checks of a GUARD container's parameters and of what must be resident beside it. -/
def State.guardOk (s : State) (c : Bytes) (index : Nat) : Bool :=
  let g := guardParams c
  let (vi, vv) := (guardVocab c).getD (0, 0)
  let (ai, av) := (guardAut c).getD (0, 0)
  let pre := le g 24 2
  let post := le g 26 2
  let labels := (upto (le g 14 2)).map (fun i => le g (le g 36 4 + 4 * i) 4)
  let voc := s.resident .vocabulary vi vv
  let aut := s.resident .automaton ai av
  decide (64 ≤ g.length) && le g 2 2 == 0 && (sectId c 5 (le g 0 2)).isSome && decide (1 ≤ le g 4 2 ∧ le g 4 2 ≤ 256)
    && decide (1 ≤ le g 6 2 ∧ le g 6 2 ≤ 64) && decide (16 ≤ le g 8 2 ∧ le g 8 2 ≤ 256 ∧ le g 8 2 % 16 = 0)
    && decide (2 ≤ byteAt g 10 ∧ byteAt g 10 ≤ 4) && decide (byteAt g 11 ≤ 1) && decide (1 ≤ le g 12 2 ∧ le g 12 2 ≤ 16383)
    && decide (le g 14 2 ≤ 64) && decide (byteAt g 16 < 32) && le g 17 3 == 0 && decide (pre ≤ 8192) && decide (post ≤ 1024)
    && le g 40 24 == 0 && decide (pre + post + le g 12 2 ≤ 16383)
    && decide (le g 28 4 + 4 * pre ≤ g.length) && decide (le g 32 4 + 4 * post ≤ g.length) && decide (le g 36 4 + 4 * labels.length ≤ g.length)
    && labels.all (fun l => decide (1 ≤ bits l 16 8) && bits l 24 8 == 0) && distinct (labels.map (fun l => l % 65536))
    && (match voc, aut with
      | some v, some a =>
        labels.all (fun l => decide (l % 65536 < autStates a.bytes))
          && (preTokens g ++ postTokens g).all (fun t => decide (t < vocTokens v.bytes))
      | _, _ => false)
    && (upto 8).all (fun k => !s.flag (Fld.SRV_COVE_CFG_EN k) || s.get (Fld.SRV_COVE_CFG_MODEL k) != index
      || decide (kvBytesPerBlock g ≤ s.get (Fld.SRV_COVE_BLOCK_KIB k) * 1024))

/-- Versions of a graph that frames pin (R219, R238): by walks in contexts and by walks that wait to start again. -/
def State.graphPins (s : State) (g : Nat) : List Nat :=
  s.frames.flatMap (fun f =>
    (match f.walk with
      | some w => if w.graph = g then [w.pin] else []
      | none => [])
    ++ (match f.walkPin, f.strand with
      | some p, some i => if s.graphOf i = g && f.gather.isNone then [p] else []
      | _, _ => [])
    ++ (match f.kind with
      | .replay r => if f.gather.isNone then (r.versions.filter (fun v => v.1 == 4 && v.2.1 == g)).map (fun v => v.2.2) else []
      | _ => []))

/-- The least of a list. -/
def least : List Nat → Option Nat
  | [] => none
  | x :: xs => some (xs.foldl min x)

/-- The region of a graph (R211), and the oldest version pinned. -/
def State.graphGeom (s : State) (g : Nat) : GraphGeom :=
  ⟨s.get (Fld.GTH_GRAPH_GEOM_DIR_LOG2 g), 65536 * s.get (Fld.GTH_GRAPH_GEOM_VTX_64K g), 65536 * s.get (Fld.GTH_GRAPH_BLK g),
   least (s.graphPins g)⟩

/-- R246: whether a graph has a geometry. -/
def State.hasGeometry (s : State) (g : Nat) : Bool :=
  (s.regWord (Fld.GTH_GRAPH_GEOM_DIR_LOG2 g).off).toNat != 0 || s.get (Fld.GTH_GRAPH_BLK g) != 0

/-- R424, R237: the version test of a graph load, once its header is read. -/
def State.graphVersionTest (s : State) (c : Bytes) (g version : Nat) : Option Nat :=
  if le c 12 4 ≠ version then some Status.versionOrder.code
  else if byteAt c 5 = 0 ∧ (le c 8 4 ≠ (s.graph g).ver ∨ le c 12 4 ≠ le c 8 4 + 1) then some Status.versionGap.code
  else none

/-- R236, R237: the checks of a graph load. -/
def State.graphCheck (s : State) (c : Bytes) (g version : Nat) : Option LoadRefusal :=
  if !graphHeaderOk c g then some (Status.checkFailed.code, 0)
  else match s.graphVersionTest c g version with
    | some st => some (st, 0)
    | none => match applyLoad (s.graphGeom g) (s.graph g) c with
      | .ok _ => none
      | .error i => some (Status.checkFailed.code, i)

/-- R423 step 5: the checks of the kind. -/
def State.kindCheck (s : State) (l : Load) (c : Bytes) : Option LoadRefusal :=
  let failed : Option LoadRefusal := some (Status.checkFailed.code, 0)
  match l.kind with
  | .table => s.batchCheck c l.index
  | .vocabulary => if vocabOk c then none else failed
  | .automaton =>
    match s.resident .vocabulary (autVocab c) (autVocabVer c) with
    | some v => if automatonOk c v.bytes then none else failed
    | none => failed
  | .model => if le c 16 8 == l.totalLen && containerOk c && (!isGuard c || s.guardOk c l.index) then none else failed
  | .graph => s.graphCheck c l.index l.version

/-- Staging room taken by rounds that are still arriving. -/
def State.roundBytes (s : State) : Nat :=
  sumBy (s.fab.rounds.filter (fun r => !s.host.loads.any (fun l => l.source == .round r.load.replId))) (fun r => r.totalLen)

/-- Staging room in use (R423, R547, R552). -/
def State.stagingUsed (s : State) : Nat :=
  sumBy (s.host.loads.filter (fun l => l.staged)) (fun l => l.totalLen) + s.roundBytes + sumBy s.fab.kept (fun k => k.content.length)

/-- The staging region. -/
def State.stagingSize (s : State) : Nat := s.get (Fld.IMG_HBM_REGION 4) * 2 ^ 20

/-- R552: the oldest kept loads go until `n` more bytes fit; `fuel` is how many are kept. -/
def State.makeRoom (s : State) (n : Nat) : Nat → Option State
  | 0 => if s.stagingUsed + n ≤ s.stagingSize then some s else none
  | fuel + 1 =>
    if s.stagingUsed + n ≤ s.stagingSize then some s
    else ({ s with fab := { s.fab with kept := s.fab.kept.drop 1 } }).makeRoom n fuel

/-- R423 step 3, R552: staging room for `n` bytes, where there is. -/
def State.stageRoom (s : State) (n : Nat) : Option State := s.makeRoom n s.fab.kept.length

/-- Table 11-14. -/
def loadPayload (version cset detail skipped refused tick : Nat) : Bytes :=
  toLe 4 version ++ toLe 4 cset ++ toLe 4 detail ++ toLe 4 skipped ++ toLe 4 refused ++ toLe 8 tick

/-- STATUS of a REPL_ACK for a refusal (R547). -/
def replStatus (status : Nat) : Nat :=
  if status = Status.digestMismatch.code then 2
  else if status = Status.versionOrder.code then 6
  else if status = Status.versionGap.code then 4
  else if status = Status.noRoom.code ∨ status = Status.tooLarge.code then 5
  else 3

/-- R547: a REPL_ACK to the source of a round. -/
def State.replAck (s : State) (r : Round) (status : Nat) : State :=
  s.sendPacket (newPacket 4 r.src r.rset r.load.replId 0 (toLe 4 r.load.replId ++ [byte status, 0, 0, 0]))

/-- The round that a load came from. -/
def State.roundOf (s : State) (l : Load) : Option Round :=
  match l.source with
  | .round id => s.fab.rounds.find? (fun r => r.load.replId == id)
  | .command _ => none

/-- A round is over. -/
def State.dropRound (s : State) (id : Nat) : State :=
  { s with fab := { s.fab with rounds := s.fab.rounds.filter (fun r => r.load.replId != id) } }

/-- The load leaves the loads in progress. -/
def State.dropLoad (s : State) (l : Load) : State :=
  let s := { s with host := { s.host with loads := s.host.loads.filter (fun x => x.key != l.key) } }
  if l.kind = .graph then s.modGraph l.index (fun g => { g with queue := g.queue.filter (fun k => k != l.key) }) else s

/-- R423: a load is refused. -/
def State.refuseLoad (s : State) (l : Load) (status detail : Nat) : State :=
  let cmdId := match l.source with
    | .command c => c.entry.cmdId.toNat
    | .round _ => 0
  let round := s.roundOf l
  let s := (s.dropLoad l).event 0x0030 (itemSource l.kind l.index) [cmdId, l.version, status, detail]
  let s := if l.kind = .graph then (s.count Fld.GTH_LOAD_REFUSE_CNT).reviewStrands else s
  match l.source, round with
  | .command c, _ => s.complete c status (loadPayload l.version 0 detail l.skipped l.refused 0)
  | .round id, some r => (s.replAck r (replStatus status)).dropRound id
  | .round _, none => s

/-- R552: how many loads of an item are kept. -/
def State.keepOf (s : State) (k : ContentKind) : Nat :=
  match k with
  | .table => s.get Fld.FAB_REPL_CTL_KEEP
  | .graph => s.get Fld.FAB_REPL_CTL_KEEP
  | _ => 1

/-- Loads of an item past the number that is kept are forgotten, the oldest first. -/
def trimKept (n : Nat) (k i : Nat) (ls : List ReplLoad) : List ReplLoad :=
  let mine := (ls.filter (fun l => l.kind == k && l.index == i)).length
  (ls.foldl (fun (acc : List ReplLoad × Nat) l =>
    if l.kind == k && l.index == i && Nat.blt 0 acc.2 then (acc.1, acc.2 - 1) else (acc.1 ++ [l], acc.2)) ([], mine - n)).1

/-- R545, R552: a commit on the origin is kept and queued for replication, or skipped where the queue is full. -/
def State.queueReplication (s : State) (l : Load) (oldVer : Nat) : State :=
  if s.flag Fld.FAB_STATE_ORIGIN && s.inFabric then
    let k := contentCode l.kind
    let id := w32 (s.fab.nextRepl + 1)
    let r : ReplLoad := ⟨id, k, l.index, l.version, oldVer, l.digest, l.content⟩
    let s := { s with fab := { s.fab with nextRepl := id, kept := trimKept (s.keepOf l.kind) k l.index (s.fab.kept ++ [r]) } }
    if 256 ≤ s.fab.queue.length then s.event 0x0085 (itemSource l.kind l.index) [l.version]
    else { s with fab := { s.fab with queue := s.fab.queue ++ [r] } }
  else s

/-- R423 step 6, R385, R665: the version of a load has become current at this tick. -/
def State.loadCommitted (s : State) (l : Load) (oldVer : Nat) : State :=
  let round := s.roundOf l
  let s := (s.dropLoad l).contentCommit (contentCode l.kind) l.index l.version oldVer l.digest
  let s := if l.kind = .graph then s.count Fld.GTH_LOAD_CNT else s
  let s := match l.source, round with
    | .command c, _ =>
      (s.complete c Status.ok.code (loadPayload l.version (s.get Fld.VRD_CSET) 0 l.skipped l.refused s.now)).queueReplication l oldVer
    | .round id, some r => ((s.count Fld.FAB_REPL_CNT).replAck r 0).dropRound id
    | .round _, none => s
  s.reviewItem l.kind l.index

/-- R424, R547: the test of the version against the one now current. -/
def State.versionTest (s : State) (l : Load) : Option Nat :=
  let cur := s.itemVersion l.kind l.index
  match s.roundOf l with
  | some r =>
    if (l.kind = .table ∨ l.kind = .graph) ∧ cur ≠ r.load.oldVer then some Status.versionGap.code
    else if l.kind = .graph then none
    else if cur < l.version then none else some Status.versionOrder.code
  | none => if l.kind = .graph ∨ cur < l.version then none else some Status.versionOrder.code

end Sys2Proof.Machine
end

