-- ==== Sys2Proof/Machine/Loads.lean ====
section
/-!
DEFINITION. The commands of content loading (R179, R219, R236 to R239, R275, R423 to R430, R553, R597, R665).
-/
namespace Sys2Proof.Machine

/-- R423 step 1: status of a descriptor that fails. -/
def State.descriptorTest (s : State) (d : LoadDescriptor) : Option Nat :=
  match kindOfCode d.kind.val with
  | none => some Status.format.code
  | some k =>
    let i := d.index.val
    if d.magic ≠ 0x44414F4C ∨ !d.reservedZero ∨ d.version = 0 ∨ d.segments.foldl (· + ·) 0 ≠ d.totalLen then some Status.format.code
    else if kindSize k ≤ i then some Status.badIndex.code
    else if k = .table ∧ !s.flag (Fld.VIT_TABLE_CFG_EN i) then some Status.badIndex.code
    else if k = .graph ∧ !s.hasGeometry i then some Status.badIndex.code
    else none

/-- R553: whether a device other than the origin takes a CL_LOAD of an item: only while the item is below its target. -/
def State.loadAllowed (s : State) (k : ContentKind) (i : Nat) : Bool :=
  !s.inFabric || s.flag Fld.FAB_STATE_ORIGIN || Nat.blt (s.itemVersion k i) (s.itemTarget (itemNo k i))

/-- Loads in steps 3 to 6 (R425). -/
def State.activeLoads (s : State) : Nat := (s.host.loads.filter (fun l => l.staged)).length

/-- Loads that wait (R425). -/
def State.waitingLoads (s : State) : Nat := (s.host.loads.filter (fun l => !l.staged)).length

/-- Loads of one graph that wait for their turn (R237). -/
def State.graphWaiting (s : State) (g : Nat) : Nat :=
  (s.host.loads.filter (fun l => l.kind == .graph && l.index == g && some l.key != (s.graph g).applying.map (fun a => a.1))).length

/-- R423 steps 1 to 3: the status of a load that is refused as it is taken. -/
def State.loadTest (s : State) (d : LoadDescriptor) : Option Nat :=
  match s.descriptorTest d, kindOfCode d.kind.val with
  | some st, _ => some st
  | none, none => some Status.format.code
  | none, some k =>
    let i := d.index.val
    if !s.loadAllowed k i then some Status.illegalOp.code
    else if k ≠ .graph ∧ d.version.toNat ≤ s.itemVersion k i then some Status.versionOrder.code
    else if s.stagingSize < d.totalLen then some Status.tooLarge.code
    else if 256 ≤ s.waitingLoads ∨ (k = .graph ∧ 16 ≤ s.graphWaiting i) then some Status.queueFull.code
    else none

/-- CL_LOAD: R423 steps 1 to 3, R424, R425, R237, R553. `desc` is what the fetch of the descriptor and segment list returned; none
where a read failed. -/
def execClLoad (q : Fin 16) (e : SqEntry) (desc : Option LoadDescriptor) (s : State) : Res :=
  .next (s.sqCommand q.val e 0x10 (fun c s =>
    match desc with
    | none => (s.event 0x0030 0 [e.cmdId.toNat, 0, Status.dmaError.code, 0]).complete c Status.dmaError.code (loadPayload 0 0 0 0 0 0)
    | some d =>
      let v := d.version.toNat
      match s.loadTest d with
      | some st =>
        let s := if d.kind.val = 4 then s.count Fld.GTH_LOAD_REFUSE_CNT else s
        (s.event 0x0030 (256 * d.kind.val + d.index.val) [e.cmdId.toNat, v, st, 0]).complete c st (loadPayload v 0 0 0 0 0)
      | none =>
        let l : Load := ⟨s.host.nextLoad, .command c, (kindOfCode d.kind.val).getD .table, d.index.val, v, d.totalLen, d.digest, .waiting, 0, [],
          0, 0, false⟩
        { s with host := { s.host with loads := s.host.loads ++ [l], nextLoad := s.host.nextLoad + 1 } }))

/-- Whether an earlier load of the same item is still in progress (R425). -/
def State.earlierLoad (s : State) (l : Load) : Bool :=
  (s.host.loads.takeWhile (fun x => x.key != l.key)).any (fun x => x.kind == l.kind && x.index == l.index)

/-- LOAD_STAGING_READY: R423 steps 3 and 4, R425: the load that has waited longest takes staging room; a load with room begins to
be read once no earlier load of its item is in progress. -/
def execLoadStagingReady (load : Nat) (s : State) : Res :=
  .next (match s.load? load with
    | none => s
    | some l =>
      if l.step != .waiting || s.stopped then s
      else
        let first := (s.host.loads.find? (fun x => !x.staged)).map (fun x => x.key)
        let s := if l.staged then s
          else if first = some l.key ∧ s.activeLoads < 8 then
            match s.stageRoom l.totalLen with
            | some s => s.modLoad l.key (fun l => { l with staged := true })
            | none => s
          else s
        if ((s.load? load).map (fun l => l.staged)).getD false && !s.earlierLoad l then s.modLoad l.key (fun l => { l with step := .reading })
        else s)

/-- R597: a transient fault of a step of a load: the step is repeated, or the load is refused. -/
def State.loadFault (s : State) (l : Load) : State :=
  let s := s.transient none 0
  if l.retries < 3 then (s.count Fld.FLT_RETRY_CNT).modLoad l.key (fun l => { l with retries := l.retries + 1 })
  else s.refuseLoad l Status.checkFailed.code 0xFFFFFFFF

/-- A graph load takes its place in the queue of its graph (R237). -/
def State.queueGraphLoad (s : State) (l : Load) : State :=
  ((s.modGraph l.index (fun g => { g with queue := g.queue ++ [l.key] })).modLoad l.key (fun l => { l with step := .installing })).reviewStrands

/-- R553: on a device other than the origin a graph takes only a full load to its target. -/
def State.replicaGraph (s : State) (l : Load) (c : Bytes) : Bool :=
  match l.source with
  | .round _ => true
  | .command _ => l.kind != .graph || !s.inFabric || s.flag Fld.FAB_STATE_ORIGIN
    || (byteAt c 5 == 1 && le c 12 4 == s.itemTarget (itemNo .graph l.index))

/-- LOAD_DIGEST_DONE: R423 steps 4 and 5, R426, R441, R597. `content` is what the reads of host memory returned, none where one
failed; a replicated round has its own. -/
def execLoadDigestDone (load : Nat) (content : Option Bytes) (fault : Bool) (s : State) : Res :=
  .next (match s.load? load with
    | none => s
    | some l =>
      if l.step != .reading || s.stopped then s
      else if fault then s.loadFault l
      else
        let got := match l.source with
          | .round _ => some l.content
          | .command _ => content
        match got with
        | none => s.refuseLoad l Status.dmaError.code 0
        | some c =>
          if sha384 c != padTo 48 l.digest || c.length != l.totalLen then s.refuseLoad l Status.digestMismatch.code 0
          else if !s.replicaGraph l c then s.refuseLoad l Status.illegalOp.code 0
          else match s.kindCheck l c with
            | some (st, detail) => s.refuseLoad l st detail
            | none =>
              let s := s.modLoad l.key (fun l => { l with content := c, step := .checked, retries := 0 })
              if l.kind = .graph then s.queueGraphLoad { l with content := c } else s)

/-- R179: the operations of a batch join those of their table. -/
def State.queueBatch (s : State) (l : Load) : State :=
  let w := s.tableWidth l.index
  let ages := s.flag (Fld.VIT_TABLE_CFG_AGE l.index)
  let rs := batchRecords l.content
  let ops := (List.zip rs (upto rs.length)).map (fun e => TableOp.batch l.key e.2 l.version (opOfRecord w ages e.1))
  ((s.modVtable l.index (fun t => { t with ops := t.ops ++ ops, batch := some (l.key, l.version) })).modLoad l.key
    (fun l => { l with step := .installing })).settleTable l.index

/-- LOAD_COMMIT: R423 step 6, R424, R545, R597, R665: a checked vocabulary, model or automaton is installed; a checked table batch
begins to be applied. -/
def execLoadCommit (load : Nat) (fault : Bool) (s : State) : Res :=
  .next (match s.load? load with
    | none => s
    | some l =>
      if l.step != .checked || s.stopped then s
      else if fault then s.loadFault l
      else match s.versionTest l with
        | some st => s.refuseLoad l st 0
        | none =>
          let old := s.itemVersion l.kind l.index
          match l.kind with
          | .graph => s
          | .table => s.queueBatch l
          | k =>
            let s := s.freeOld
            if s.contentRoom k l.content.length then (s.installVersion k l.index l.version l.digest l.content).loadCommitted l old
            else s.refuseLoad l Status.noRoom.code 0)

/-- TABLE_BATCH_COMMIT: R179: the last operation of a table's batch has been applied on every live replica. -/
def execTableBatchCommit (table : Fin 64) (s : State) : Res :=
  let t := table.val
  .next (match (s.vtable t).batch with
    | none => s
    | some (key, v) =>
      match s.load? key with
      | none => s
      | some l =>
        if s.batchApplied t key && !s.stopped then
          let old := (s.vtable t).ver
          let ofBatch := fun (op : TableOp) => match op with
            | .batch k _ _ _ => k == key
            | _ => false
          (s.modVtable t (fun x => { x with ver := v, batch := none, ops := x.ops.filter (fun o => !ofBatch o) })).loadCommitted l old
        else s)

/-- GRAPH_LOAD_START: R219, R236 to R238: the load whose turn it is starts writing, once no frame pins a version that it would
overwrite. `lines` is how many lines it reads and writes. -/
def execGraphLoadStart (graph : Fin 4) (lines : Nat) (s : State) : Res :=
  let g := graph.val
  let x := s.graph g
  .next (match s.graphTurn g with
    | none => s
    | some l =>
      let full := isFullLoad l
      let pins := s.graphPins g
      if x.applying.isSome || s.stopped || (if full then !pins.isEmpty else pins.any (fun p => decide (p < x.ver))) then s
      else match s.versionTest l, s.graphVersionTest l.content g l.version with
        | some st, _ => s.refuseLoad l st 0
        | none, some st => s.refuseLoad l st 0
        | none, none =>
          match applyLoad (s.graphGeom g) x l.content with
          | .error i => s.refuseLoad l Status.checkFailed.code i
          | .ok y => s.modGraph g (fun _ => { y with applying := some (l.key, l.version, lines, full) }))

/-- R231, R239: credits that pay for lines: from the delta pool, then from the spare pool where no Strand's read wants it. -/
def State.payLines (s : State) (n : Nat) : Nat × State :=
  let a := min n (s.gth.deltaPool / 5)
  let s := { s with gth := { s.gth with deltaPool := s.gth.deltaPool - 5 * a } }
  let b := if s.spareReader.isNone then min (n - a) (s.get Fld.GTH_SPARE_POOL / 5) else 0
  (n - a - b, s.set Fld.GTH_SPARE_POOL (s.get Fld.GTH_SPARE_POOL - 5 * b))

/-- GRAPH_LOAD_COMMIT: R239, R243: the load's lines are paid for as far as the pools allow; after the last, its version becomes the
graph's at this tick. -/
def execGraphLoadCommit (graph : Fin 4) (s : State) : Res :=
  let g := graph.val
  .next (match (s.graph g).applying with
    | none => s
    | some (key, v, lines, full) =>
      if s.stopped then s
      else
      let (left, s) := s.payLines lines
      if left ≠ 0 then s.modGraph g (fun x => { x with applying := some (key, v, left, full) })
      else match s.load? key with
        | none => s.modGraph g (fun x => { x with applying := none })
        | some l =>
          let old := (s.graph g).ver
          let s := s.modGraph g (fun x => { x with ver := v, applying := none, damaged := x.damaged && !full })
          (s.modGraph g (fun x => x.reclaim (least (s.graphPins g)))).loadCommitted l old)

end Sys2Proof.Machine
end

