-- ==== Sys2Proof/Machine/Repl.lean ====
section
/-!
DEFINITION. Content replication: rounds, answers, targets, catalogs, pulls (R544 to R553, R556 to R558).
-/
namespace Sys2Proof.Machine

/-- Bytes of a fragment (R546). -/
def fragSize : Nat := 16384

/-- The 76 bytes of REPL_BEGIN (Table 14-7). -/
def replBegin (l : ReplLoad) (rset : Nat) : Bytes :=
  [byte l.kind, byte l.index, byte rset, 0] ++ toLe 4 l.version ++ toLe 4 l.oldVer ++ toLe 4 (ceilDiv l.content.length fragSize)
    ++ toLe 8 l.content.length ++ padTo 48 l.digest ++ zeros 4

/-- The packets of a round, in order, for a destination (R546). -/
def roundPackets (l : ReplLoad) (rset dest : Nat) : List Packet :=
  let frags := chunks fragSize l.content
  [newPacket 1 dest rset l.replId 0 (replBegin l rset)]
    ++ (List.zip frags (upto frags.length)).map (fun e => newPacket 2 dest rset l.replId (fragSize * e.2) e.1)
    ++ [newPacket 3 dest rset l.replId 0 (toLe 4 frags.length)]

/-- The item of a replicated load. -/
def replItem (l : ReplLoad) : Nat := itemNo ((kindOfCode l.kind).getD .table) l.index

/-- The devices of a route set's box other than this one. -/
def State.boxDevices (s : State) (rset : Nat) : List Nat :=
  match s.box rset with
  | some b => ((manNodes s.man).map (fun e => le e 0 2)).filter (fun a => inBox b a && a != s.node)
  | none => []

/-- A unicast round to one device (R548, R552). -/
def State.unicastRound (s : State) (l : ReplLoad) (dest : Nat) : State :=
  (roundPackets l (s.itemRset (replItem l)) dest).foldl State.sendPacket s

/-- REPL_ROUND_START: R545, R546, R548: the origin takes the next load from its queue and sends its round over the tree, or sends the
unicast rounds of a retry. -/
def execReplRoundStart (s : State) : Res :=
  .next (if !s.flag Fld.FAB_STATE_ORIGIN || !s.inFabric || s.stopped then s
    else match s.fab.repl, s.fab.queue with
      | none, l :: rest =>
        let s := (roundPackets l (s.itemRset (replItem l)) 0).foldl State.multicast s
        ({ s with fab := { s.fab with queue := rest, repl := some ⟨l, 2, s.now, 0, []⟩ } }).set Fld.FAB_REPL_ID l.replId
      | some r, _ =>
        if r.phase = 3 then
          let missing := (s.boxDevices (s.itemRset (replItem r.load))).filter (fun a => !r.ok.contains a)
          let s := missing.foldl (fun s a => s.unicastRound r.load a) s
          { s with fab := { s.fab with repl := some { r with phase := 2, since := s.now } } }
        else s
      | none, [] => s)

/-- REPL_ACK: R548: an answer to a round. -/
def execReplAck (s : State) : Res :=
  .next (match s.nextPacket 4 with
    | none => s
    | some (p, s) =>
      match s.fab.repl with
      | some r =>
        if r.load.replId = le p.payload 0 4 ∧ byteAt p.payload 4 = 0 ∧ !r.ok.contains p.src then
          { s with fab := { s.fab with repl := some { r with ok := r.ok ++ [p.src] } } }
        else s
      | none => s)

/-- A TARGET entry (Table 14-5). -/
def targetEntry (kind index version : Nat) : Bytes := [byte kind, byte index, 0, 0] ++ toLe 4 version

/-- R548: the delivered set of a load. -/
def State.writeDelivered (s : State) (as : List Nat) : State :=
  let s := (upto 1024).foldl (fun s i => s.set (Fld.FAB_DELIV i) 0) s
  as.foldl (fun s a => let n := a / 2; s.setBits (Fld.FAB_DELIV (n / 32)) (2 ^ (n % 32))) s

/-- REPL_WAIT_EXPIRY: R548: REPL_WAIT_MS after a round's REPL_END. -/
def execReplWaitExpiry (s : State) : Res :=
  .next (match s.fab.repl with
    | none => s
    | some r =>
      if r.phase ≠ 2 ∨ s.since r.since < 500000 * s.get Fld.FAB_REPL_TIME_REPL_WAIT_MS then s
      else
        let rset := s.itemRset (replItem r.load)
        let devices := s.boxDevices rset
        let missed := devices.filter (fun a => !r.ok.contains a)
        if !missed.isEmpty && decide (r.tries < s.get Fld.FAB_REPL_CTL_REPL_RETRY) then
          { s with fab := { s.fab with repl := some { r with phase := 3, tries := r.tries + 1 } } }
        else
          let done := devices.length - missed.length
          let s := s.writeDelivered (s.node :: r.ok)
          let s := (s.set Fld.FAB_REPL_COUNT_DELIVERED done).set Fld.FAB_REPL_COUNT_MISSED missed.length
          let s := ({ s with fab := { s.fab with repl := none } }).event 0x0084 (256 * r.load.kind + r.load.index)
            [r.load.version, r.load.replId, done, missed.length]
          s.multicast (newPacket 7 0 rset 0 0 (toLe 4 1 ++ targetEntry r.load.kind r.load.index r.load.version)))

/-- The round of a transfer. -/
def State.round? (s : State) (id : Nat) : Option Round := s.fab.rounds.find? (fun r => r.load.replId == id)

/-- A round changed. -/
def State.modRound (s : State) (id : Nat) (f : Round → Round) : State :=
  { s with fab := { s.fab with rounds := mapWhere s.fab.rounds (fun r => r.load.replId == id) f } }

/-- REPL_BEGIN: R547 step 1: staging room is reserved, or the round is answered NO_ROOM. -/
def execReplBegin (s : State) : Res :=
  .next (match s.nextPacket 1 with
    | none => s
    | some (p, s) =>
      let b := p.payload
      let total := le b 16 8
      let r : Round := ⟨p.src, p.rset, ⟨p.xfer, byteAt b 0, byteAt b 1, le b 4 4, le b 8 4, slice b 24 48, zeros total⟩, total, [], none⟩
      if (s.round? p.xfer).isSome then s
      else match s.stageRoom total with
        | some s => { s with fab := { s.fab with rounds := s.fab.rounds ++ [r] } }
        | none => s.replAck r 5)

/-- Whether every byte of a round has arrived. -/
def roundWhole (r : Round) : Bool := sumBy r.parts (fun e => e.2) == r.totalLen

/-- R547: the content of a round is whole: it is loaded, or answered at once. -/
def State.startRoundLoad (s : State) (r : Round) : State :=
  match kindOfCode r.load.kind with
  | none => (s.replAck r 3).dropRound r.load.replId
  | some k =>
    let i := r.load.index
    if kindSize k ≤ i ∨ (k = .table ∧ !s.flag (Fld.VIT_TABLE_CFG_EN i)) ∨ (k = .graph ∧ !s.hasGeometry i) then
      (s.replAck r 3).dropRound r.load.replId
    else if s.itemVersion k i = r.load.version then (s.replAck r 0).dropRound r.load.replId
    else if s.host.loads.any (fun l => l.source == .round r.load.replId) then s
    else
      let l : Load := ⟨s.host.nextLoad, .round r.load.replId, k, i, r.load.version, r.totalLen, r.load.digest, .waiting, 0, r.load.content, 0, 0, true⟩
      { s with host := { s.host with loads := s.host.loads ++ [l], nextLoad := s.host.nextLoad + 1 } }

/-- A round that has ended is loaded once it is whole. -/
def State.checkRound (s : State) (id : Nat) : State :=
  match s.round? id with
  | some r => if r.ended.isSome && roundWhole r then s.startRoundLoad r else s
  | none => s

/-- REPL_DATA: R533, R547 step 2: a fragment is written at its offset. -/
def execReplData (s : State) : Res :=
  .next (match s.nextPacket 2 with
    | none => s
    | some (p, s) =>
      let part := (p.offset, p.payload.length)
      let s := s.modRound p.xfer (fun r =>
        if p.offset + p.payload.length ≤ r.totalLen && !r.parts.contains part then
          { r with parts := r.parts ++ [part], load := { r.load with content := overwrite r.load.content p.offset p.payload } }
        else r)
      s.checkRound p.xfer)

/-- REPL_END: R547 step 3. -/
def execReplEnd (s : State) : Res :=
  .next (match s.nextPacket 3 with
    | none => s
    | some (p, s) =>
      (s.modRound p.xfer (fun r => { r with ended := some (r.ended.getD s.now) })).checkRound p.xfer)

/-- REPL_FRAGMENT_WAIT: R547 step 3: 1 ms after REPL_END fragments are still missing. -/
def execReplFragmentWait (replId : Word) (s : State) : Res :=
  .next (match s.round? replId.toNat with
    | none => s
    | some r =>
      match r.ended with
      | some t => if !roundWhole r && Nat.ble 500000 (s.since t) then (s.replAck r 1).dropRound r.load.replId else s
      | none => s)

/-- The kept loads that answer a pull (R552). -/
def State.pullAnswer (s : State) (kind index version : Nat) : List ReplLoad :=
  let mine := s.fab.kept.filter (fun l => l.kind == kind && l.index == index)
  if kind = 1 ∨ kind = 4 then mine.dropWhile (fun l => l.oldVer != version)
  else (mine.getLast?.filter (fun l => decide (version < l.version))).toList

/-- REPL_PULL: R552: the origin answers with unicast rounds, or with REPL_FULL_NEEDED. -/
def execReplPull (s : State) : Res :=
  .next (match s.nextPacket 5 with
    | none => s
    | some (p, s) =>
      let b := p.payload
      match s.pullAnswer (byteAt b 0) (byteAt b 1) (le b 4 4) with
      | [] =>
        let v := match kindOfCode (byteAt b 0) with
          | some k => s.itemVersion k (byteAt b 1)
          | none => 0
        s.sendPacket (newPacket 6 p.src p.rset 0 0 (targetEntry (byteAt b 0) (byteAt b 1) v))
      | ls => ls.foldl (fun s l => s.unicastRound l p.src) s)

/-- REPL_PULL_TIMER: R552: every 100 ms while an item is below its target. -/
def execReplPullTimer (item : Fin 180) (s : State) : Res :=
  let n := item.val
  let (k, i) := itemOf n
  let due := match Tab.get? s.fab.pulls n with
    | some t => Nat.ble 50000000 (s.since t)
    | none => true
  .next (if s.inFabric && !s.stopped && !s.flag Fld.FAB_STATE_ORIGIN && (Tab.get? s.fab.below n).isSome && due then
    let s := ({ s with fab := { s.fab with pulls := Tab.put s.fab.pulls n s.now } }).count Fld.FAB_PULL_CNT
    s.sendPacket (newPacket 5 (manOrigin s.man) (s.itemRset n) 0 0 (targetEntry (contentCode k) i (s.itemVersion k i)))
  else s)

/-- REPL_FULL_NEEDED: R552: the origin keeps nothing that would help: RESYNC_HOST. -/
def execReplFullNeeded (s : State) : Res :=
  .next (match s.nextPacket 6 with
    | none => s
    | some (p, s) =>
      let b := p.payload
      match kindOfCode (byteAt b 0) with
      | some k => s.event 0x0088 (itemSource k (byteAt b 1)) [s.itemVersion k (byteAt b 1), le b 4 4]
      | none => s)

/-- R550: one TARGET entry. -/
def State.takeTarget (s : State) (e : Bytes) : State :=
  match kindOfCode (byteAt e 0) with
  | none => s
  | some k =>
    let i := byteAt e 1
    if kindSize k ≤ i then s
    else
      let n := itemNo k i
      let t := max (s.itemTarget n) (le e 4 4)
      let s := s.set (Fld.FAB_TARGET n) t
      (if k = .graph then s.set (Fld.GTH_GRAPH_TARGET i) t else s).reviewItem k i

/-- TARGET: R550. -/
def execTarget (s : State) : Res :=
  .next (match s.nextPacket 7 with
    | none => s
    | some (p, s) => ((chunks 8 (p.payload.drop 4)).take (le p.payload 0 4)).foldl State.takeTarget s)

/-- CATALOG_TIMER: R549, R558: every CATALOG_MS one TARGET packet for each route set. -/
def execCatalogTimer (s : State) : Res :=
  .next (match s.fab.catalog with
    | none => s
    | some t =>
      if !s.flag Fld.FAB_STATE_ORIGIN || !s.inFabric || s.stopped || Nat.blt (s.since t) (500000 * s.get Fld.FAB_REPL_TIME_CATALOG_MS) then s
      else
        let s := { s with fab := { s.fab with catalog := some s.now } }
        (0 :: (manRsets s.man).map (fun e => byteAt e 0)).foldl (fun s rset =>
          let items := (upto itemCount).filter (fun n => s.itemRset n == rset && s.itemVersion (itemOf n).1 (itemOf n).2 != 0)
          let entries := items.flatMap (fun n => targetEntry (contentCode (itemOf n).1) (itemOf n).2 (s.itemVersion (itemOf n).1 (itemOf n).2))
          s.multicast (newPacket 7 0 rset 0 0 (toLe 4 items.length ++ entries))) s)

end Sys2Proof.Machine
end

