-- ==== Sys2Proof/Machine/Archive.lean ====
section
/-!
DEFINITION. The commit point of a Cove's step, and the Archive tier with its traffic between devices (R306, R357 to R367, R554,
R555).
-/
namespace Sys2Proof.Machine

/-- The route set of a Cove's traffic to its peer (R362, R554). -/
def State.coveRset (s : State) (c : Nat) : Nat := s.itemRset (180 + c)

/-- R555: the fetch of a remote entry. -/
def State.fetchEntry (key : Nat) (s : State) : State :=
  match s.entry? key with
  | some e =>
    s.sendPacket (newPacket 9 (s.get Fld.SRV_ARCH_PEER) (s.coveRset e.cove) e.reqId 0 (toLe 4 e.reqId ++ toLe 8 e.frameId))
  | none => s

/-- COVE_STEP_COMMIT: R306 and what it cites. Operands of the environment: how the Gallery work ended and on which Gallery, KV blocks
read with an uncorrectable error, model versions read with one, speculative n-gram results that came too late (R155). -/
def execCoveStepCommit (cove : Fin 8) (work : UnitEnd) (gallery : Fin 48) (bad : List Nat) (lost : List (Nat × Nat)) (late : Nat) (s : State) :
    Res :=
  let c := cove.val
  let x := s.cove c
  match x.step with
  | none => .next s
  | some t =>
    if s.stopped || x.wedged then .next s
    else
      let s := (bad.filter (fun b => (Tab.get? x.blocks b).isSome)).foldl (fun s b => s.badBlock c b) s
      let s := (lost.filter (fun e => (s.resident .model e.1 e.2).isSome)).foldl (fun s e => (s.hbmUe 2).markBad .model e.1 e.2) s
      let s := s.countBy Fld.CAT_SPEC_DISCARD_CNT late
      .next (s.endStep State.fetchEntry c t work gallery.val)

/-- The private blocks of a request that a move copies: those that hold positions 0 to Lc − 2 (R358). -/
def movedBlocks (r : Request) : List Nat :=
  if committedLen r < 2 then []
  else (upto ((committedLen r - 2) / 64 + 1)).filter (fun j => Nat.ble r.shared.length j)

/-- R358, R362: whether a Cove is short of blocks, with no move under way. -/
def State.moveDue (s : State) (c : Nat) : Bool :=
  s.flag (Fld.SRV_PAUSE_CTL_ARCH_EN c) && s.img.ddrDone && !s.stopped && !(s.cove c).wedged && Nat.blt (s.roomBlocks c) (s.get (Fld.SRV_ARCH_LOW c))
    && (s.coveRequests c).all (fun r => match r.place with
      | .moving _ => false
      | _ => true)

/-- The requests of a Cove that may move, in pause order. -/
def State.movable (s : State) (c : Nat) : List Request :=
  sortBy (fun a b => Nat.blt a.pauseOrder b.pauseOrder)
    ((s.coveRequests c).filter (fun r => r.state == .paused && r.place == .hbm && r.doom.isNone && r.cancel.isNone))

/-- The entry that a move makes. A remote one carries the EXPIRE that a write ending now would have (log entry 46). -/
def State.moveEntry (s : State) (r : Request) (remote : Bool) : ArchEntry :=
  let js := movedBlocks r
  ⟨s.srv.nextEntry, requestId r, r.frameId, (s.requestDigest r).take 16, committedLen r, js, r.cove, s.archiveSize r.cove js.length, remote,
   if remote then some (w64 (s.now + s.get (Fld.SRV_ARCH_TTL r.cove) * 500000000)) else none, none, [], []⟩

/-- A move begins: the request's cache goes to the entry; a remote one is sent, in offset order (R555). -/
def State.startMove (s : State) (r : Request) (remote : Bool) : State :=
  let e := s.moveEntry r remote
  let frags := if remote then chunks 16384 (s.entryBytes e r) else []
  let s := { s with srv := { s.srv with archive := s.srv.archive ++ [e], nextEntry := s.srv.nextEntry + 1 } }
  let s := s.modRequest r.slot (fun r => { r with place := .moving e.key })
  (List.zip frags (upto frags.length)).foldl (fun s p =>
    s.sendPacket (newPacket 8 (s.get Fld.SRV_ARCH_PEER) (s.coveRset r.cove) e.reqId (16384 * p.2) p.1)) s

/-- ARCHIVE_MOVE_START: R358, R362, R555. A request for which there is no room, and no peer, stays in HBM. -/
def execArchiveMoveStart (cove : Fin 8) (s : State) : Res :=
  let c := cove.val
  .next (if s.moveDue c then
    match s.movable c with
    | [] => s
    | r :: _ =>
      if s.archiveRoom (s.moveEntry r false).size then s.startMove r false
      else if s.flag (Fld.SRV_PAUSE_CTL_PEER_EN c) && s.inFabric then s.startMove r true
      else s
  else s)

/-- R358, R359: the write of an entry is complete. An entry whose request has ended meanwhile is freed (Table 9-7). -/
def State.moveDone (s : State) (r : Request) (key : Nat) : State :=
  let s := s.count Fld.SRV_ARCH_OUT_CNT
  if r.state = .ended then (s.dropEntry key).modRequest r.slot (fun r => { r with place := .hbm })
  else
    let due := w64 (s.now + s.get (Fld.SRV_ARCH_TTL r.cove) * 500000000)
    let s := s.modEntry key (fun e => { e with expire := some (e.expire.getD due) })
    (s.freePrivate r.slot).modRequest r.slot (fun r => { r with place := .archived key })

/-- ARCHIVE_WRITE_DONE: R358, R359, for an entry of the local tier. -/
def execArchiveWriteDone (slot : Fin 8192) (s : State) : Res :=
  .next (match s.request? slot.val with
    | some r =>
      match r.place with
      | .moving k => if ((s.entry? k).map (fun e => e.remote)).getD true then s else s.moveDone r k
      | _ => s
    | none => s)

/-- ARCHIVE_EXPIRE: R359 to R361, R555: an entry whose EXPIRE has come is deleted, unless it is being read. -/
def execArchiveExpire (key : Nat) (s : State) : Res :=
  .next (match s.entry? key with
    | none => s
    | some e =>
      match e.expire with
      | none => s
      | some t =>
        if !s.reached t then s
        else match s.entryRequest key with
          | none => s.dropEntry key
          | some r =>
            match r.place with
            | .archived _ => ((s.dropEntry key).doomRequest r.slot 9).modRequest r.slot (fun r => { r with place := .hbm })
            | _ => s)

/-- Whether every byte of an entry that came over the fabric has arrived: its last part is shorter than 16,384 bytes (no entry's
size is a multiple of it; log entry 47). -/
def entryWhole (e : ArchEntry) : Bool :=
  match e.parts.find? (fun p => Nat.blt p.2 16384) with
  | some p => sumBy e.parts (fun x => x.2) == p.1 + p.2
  | none => false

/-- The CRCs of an entry's bytes hold (R363, Table 9-5). -/
def entryGood (b : Bytes) : Bool :=
  let n := le b 36 2
  let list := slice b 64 (8 * n)
  let data := b.drop (64 + 8 * n)
  let size := if n = 0 then 0 else data.length / n
  le b 0 4 == 0x56435241 && le b 60 4 == crc32c (b.take 60 ++ list)
    && (upto n).all (fun i => le list (8 * i) 4 == crc32c (slice data (size * i) size))

/-- R363: the blocks are back in HBM: the request goes on. -/
def State.readBack (s : State) (r : Request) (key : Nat) : State :=
  let s := (s.count Fld.SRV_ARCH_IN_CNT).dropEntry key
  let s := s.modRequest r.slot (fun r => { r with place := .hbm })
  (if r.state = .ended then s else s.resumeRequest r.slot).noteActive r.cove

/-- R364: the entry is lost; the reserved blocks are freed. -/
def State.readLost (s : State) (r : Request) (key : Nat) : State :=
  let s := ((s.count Fld.SRV_ARCH_CRC_CNT).dropEntry key).freePrivate r.slot
  (s.modRequest r.slot (fun r => { r with place := .hbm })).doomRequest r.slot 8

/-- ARCHIVE_READ_DONE: R361, R363, R364. Operands: how the DDR5 read ended, and whether a CRC of a local entry failed; a remote
entry's CRCs are checked over the bytes that came. Which channel a corrected error stands against is open (log entry 30). -/
def execArchiveReadDone (slot : Fin 8192) (work : UnitEnd) (crcFail : Bool) (s : State) : Res :=
  .next (match s.request? slot.val with
    | none => s
    | some r =>
      match r.place with
      | .reading k _ =>
        match s.entry? k with
        | none => s
        | some e =>
          if e.remote && !entryWhole e then s
          else
            let s := if work = .ce && !e.remote then
                let (x, s) := s.free 2
                s.corrected (some ⟨.ddr, x⟩) 0x0301
              else s
            let bad := if e.remote then !entryGood e.bytes else crcFail || work == .ue
            if bad then s.readLost r k else s.readBack r k
      | _ => s)

/-- R365: the entry is not to be had: EXPIRED. -/
def State.fetchFailed (s : State) (r : Request) (key : Nat) : State :=
  ((s.dropEntry key).modRequest r.slot (fun r => { r with place := .hbm })).doomRequest r.slot 9

/-- ARCHIVE_PEER_TIMEOUT: R365: 10 ms after the fetch. -/
def execArchivePeerTimeout (slot : Fin 8192) (s : State) : Res :=
  .next (match s.request? slot.val with
    | none => s
    | some r =>
      match r.place with
      | .reading k sent =>
        match s.entry? k with
        | some e => if e.remote && !entryWhole e && Nat.ble 5000000 (s.since sent) then s.fetchFailed r k else s
        | none => s
      | _ => s)

/-- ARCH_STATUS with its payload (Table 14-5). -/
def State.archStatus (s : State) (p : Packet) (req status : Nat) : State :=
  s.sendPacket (newPacket 0x0B p.src p.rset req 0 (toLe 4 req ++ toLe 4 status))

/-- The entry stored here for a peer. -/
def State.storedFor (s : State) (src req : Nat) : Option ArchEntry :=
  s.srv.archive.find? (fun e => e.owner == some src && e.reqId == req)

/-- A part of an entry written at its offset, once. -/
def putPart (offset : Nat) (b : Bytes) (e : ArchEntry) : ArchEntry :=
  if e.parts.any (fun x => x.1 == offset) then e
  else
    let have_ := padTo (max e.bytes.length (offset + b.length)) e.bytes
    { e with bytes := overwrite have_ offset b, parts := e.parts ++ [(offset, b.length)] }

/-- What the header of a stored entry says, once it has come (Table 9-5). -/
def readHeader (e : ArchEntry) : ArchEntry :=
  if e.parts.any (fun x => x.1 == 0) then
    { e with frameId := le e.bytes 8 8, digest16 := slice e.bytes 16 16, lc := le e.bytes 32 4, cove := byteAt e.bytes 38 % 8
             expire := some (le e.bytes 40 8) }
  else e

/-- ARCH_PUT: R362, R555: a fragment of a peer's entry is stored, or there is no room for it. -/
def execArchPut (s : State) : Res :=
  .next (match s.nextPacket 8 with
    | none => s
    | some (p, s) =>
      let old := s.storedFor p.src p.xfer
      if !s.archiveRoom p.payload.length then
        let s := match old with
          | some e => s.dropEntry e.key
          | none => s
        s.archStatus p p.xfer 1
      else
        let e : ArchEntry := old.getD ⟨s.srv.nextEntry, p.xfer, 0, [], 0, [], 0, 0, false, none, some p.src, [], []⟩
        let e := readHeader (putPart p.offset p.payload e)
        let e := { e with size := sumBy e.parts (fun x => x.2) }
        let s := { s with srv := { s.srv with archive := s.srv.archive.filter (fun x => x.key != e.key) ++ [e]
                                              nextEntry := if old.isSome then s.srv.nextEntry else s.srv.nextEntry + 1 } }
        if entryWhole e then s.archStatus p p.xfer 0 else s)

/-- ARCH_GET: R361, R555: a stored entry is sent and deleted, or it is MISSING. -/
def execArchGet (s : State) : Res :=
  .next (match s.nextPacket 9 with
    | none => s
    | some (p, s) =>
      let req := le p.payload 0 4
      let live := (s.storedFor p.src req).filter (fun e => e.frameId == le p.payload 4 8 && entryWhole e
        && !(e.expire.any (fun t => s.reached t)))
      match live with
      | none => s.archStatus p req 2
      | some e =>
        let frags := chunks 16384 e.bytes
        (List.zip frags (upto frags.length)).foldl (fun s x => s.sendPacket (newPacket 0x0A p.src p.rset req (16384 * x.2) x.1)) (s.dropEntry e.key))

/-- This device's remote entry of a request. -/
def State.remoteEntry (s : State) (req : Nat) : Option ArchEntry :=
  s.srv.archive.find? (fun e => e.remote && e.owner.isNone && e.reqId == req)

/-- ARCH_DATA: R363, R555: bytes of a fetched entry are written at their offset. -/
def execArchData (s : State) : Res :=
  .next (match s.nextPacket 0x0A with
    | none => s
    | some (p, s) =>
      match s.remoteEntry p.xfer with
      | some e => if e.size < p.offset + p.payload.length then s else s.modEntry e.key (putPart p.offset p.payload)
      | none => s)

/-- ARCH_STATUS: R362, R365, R555. -/
def execArchStatus (s : State) : Res :=
  .next (match s.nextPacket 0x0B with
    | none => s
    | some (p, s) =>
      match s.remoteEntry (le p.payload 0 4) with
      | none => s
      | some e =>
        match s.entryRequest e.key with
        | none => s
        | some r =>
          match r.place, le p.payload 4 4 with
          | .moving k, 0 => s.moveDone r k
          | .moving k, 1 => (s.dropEntry k).modRequest r.slot (fun r => { r with place := .hbm })
          | .reading k _, 2 => s.fetchFailed r k
          | _, _ => s)

/-- R554: a Cove whose peer cannot serve loses PEER_EN at start. -/
def State.checkPeers (s : State) : State :=
  let peer := s.get Fld.SRV_ARCH_PEER
  (upto 8).foldl (fun s c =>
    let inside := match s.box (s.coveRset c) with
      | some b => inBox b peer
      | none => false
    let serves := (manNodes s.man).any (fun e => le e 0 2 == peer && bit (byteAt e 2) 0)
    if s.flag (Fld.SRV_PAUSE_CTL_PEER_EN c) && !(inside && serves) then
      (s.set (Fld.SRV_PAUSE_CTL_PEER_EN c) 0).event 0x008B c [peer]
    else s) s

end Sys2Proof.Machine
end

