-- ==== Sys2Proof/Machine/Nwl.lean ====
section
/-!
DEFINITION. The commands of the Narwyn links: flits received, flit slots, replay, bring-up (R478 to R501, R514, R515).
-/
namespace Sys2Proof.Machine

/-- Whether the ports run: the start-up sequence has passed step 10 and the data path is not stopped. -/
def State.linksRun (s : State) : Bool := !s.stopped && (s.img.boot == .memory || s.img.boot == .ready)

/-- Whether a port receives flits: from IDENTIFY on. -/
def State.receives (s : State) (q : Nat) : Bool :=
  s.linksRun && ((s.nport q).state == .identify || (s.nport q).state == .up)

/-- The lanes of a port whose test controls are set (R621). -/
def State.laneTested (s : State) (l : Nat) : Bool :=
  s.flag (Fld.TST_LANE_CTL_GEN_EN l) || s.flag (Fld.TST_LANE_CTL_CHK_EN l) || s.flag (Fld.TST_LANE_CTL_LOOP l)

/-- What training has learnt is forgotten; the port falls to DOWN or RETIRED. -/
def State.failBringup (s : State) (q : Nat) : State :=
  let s := s.modNport q (fun p => { p with passed := none, heard := none, samples := 0, xoffRcvd := 0, xoffSeen := [], lastGood := none })
  s.enterPort q (if (s.liveLanes q).isEmpty then .retired else .down)

/-- The FAULT field of a port. -/
def State.portFault (s : State) (q f : Nat) : State := s.modNport q (fun p => { p with fault := f })

/-- R498: a partner that is not the manifest's: DISABLED, a FAULT record with 64 bytes of detail, the events. -/
def State.nbrMismatch (s : State) (q : Nat) (detail : Bytes) : State :=
  let s := (s.portFault q 1).enterPort q .disabled
  let u := if q < 4 then 183 + q else 0xFFFF
  let (_, s) := s.ledgerRecord 7 (toLe 2 0x0902 ++ toLe 2 u ++ padTo 64 detail)
  let p := s.nport q
  (s.event 0x0080 q [p.nbrNode, p.nbrPort]).wedge u 0x0902

/-- Bytes 4 to 27 of a TRAIN payload (Table 13-7). -/
def trainDetail (f : TrainFields) : Bytes :=
  toLe 2 f.node.toNat ++ [byte f.port.val, byte (b2n f.headland + 2 * b2n f.verified)] ++ toLe 2 f.manifestEpoch.toNat
    ++ toLe 2 f.imageEpoch.toNat ++ padTo 16 f.deviceId

/-- R498: whether the partner's fields are the manifest's. -/
def State.partnerOk (s : State) (q : Nat) (f : TrainFields) : Bool :=
  match manPartner s.man s.node q with
  | none => false
  | some (a, p) =>
    f.node.toNat == a && f.port.val == p && f.manifestEpoch.toNat == s.get Fld.IMG_EPOCH_MANIFEST
      && padTo 8 f.manifestDig == s.fab.manifestDig.take 8
      && (match manNode s.man a with
        | some e => slice e 8 16 == zeros 16 || slice e 8 16 == padTo 16 f.deviceId
        | none => false)

/-- R492: whether the round trip is short enough for every VC with a buffer. -/
def State.rttOk (s : State) (q : Nat) : Bool :=
  let p := s.nport q
  (upto 5).all (fun v => bufferSize q v == 0 || decide (ceilDiv p.rtt (2 * flitPeriod p.lanes) + 4 ≤ s.fcOff q v))

/-- R499, R508: a port comes UP. A member tells the one above its REACH then, too (log entry 44); MATCH_OUT then counts as checked
(log entry 45). -/
def State.comeUp (s : State) (q : Nat) : State :=
  let s := s.enterPort q .up
  let s := if q = 4 then ({ s with stk := { s.stk with matchOut := true } }).queueRecordOn 4 1 (linkRecord s.reachNow) else s
  s.noteReach

/-- R497: the sample of a TRAIN flit. -/
def State.rttSample (s : State) (q : Nat) (f : TrainFields) : State :=
  let x := 2 * w32 (s.now + 2 ^ 33 - f.echo.toNat - f.hold.toNat)
  s.modNport q (fun p =>
    if f.echo = 0 ∨ 16 ≤ p.samples then p
    else { p with rtt := if p.samples = 0 then x else max p.rtt x, samples := p.samples + 1 })

/-- R484 to R486, R491, R493: a good DATA flit on a port. -/
def execDataFlitRx (port : Fin 6) (head : FlitHead) (vc : Fin 5) (sop eop : Bool) (seq : BitVec 16) (payload : Bytes) (s : State) : Res :=
  let q := port.val
  .next (if s.receives q then
    let (s, _) := s.goodFlit q head
    if s.portIsUp q then (s.dataFlit q vc.val sop eop seq.toNat payload).routeWaiting else s
  else s)

/-- R485, R487: a NAK flit: its ACK is applied, then a replay starts from it, unless one from the same A began within 2 µs. -/
def execNakFlitRx (port : Fin 6) (head : FlitHead) (s : State) : Res :=
  let q := port.val
  .next (if s.receives q then
    let (s, ok) := s.goodFlit q head
    let again := match (s.nport q).replayFrom with
      | some (a, t) => a == head.ack.toNat && Nat.blt (s.since t) 1000
      | none => false
    if s.portIsUp q && ok && !again then s.startReplay q else s
  else s)

/-- R485, R491: a good IDLE flit. -/
def execIdleFlitRx (port : Fin 6) (head : FlitHead) (s : State) : Res :=
  .next (if s.receives port.val then (s.goodFlit port.val head).1.routeWaiting else s)

/-- R479, R486: a bad flit; which of its two codewords could not be corrected, and how many were corrected. -/
def execBadFlitRx (port : Fin 6) (lost0 lost1 : Bool) (fixes : Fin 3) (s : State) : Res :=
  let q := port.val
  .next (if s.receives q then
    let s := (s.count (Fld.NWL_BAD_CNT q)).countBy (Fld.NWL_FEC_FIX_CNT q) fixes.val
    let s := s.modNport q (fun p => { p with badWords := (p.badWords.1 + b2n lost0, p.badWords.2 + b2n lost1) })
    if s.portIsUp q then s.oweNak q else s
  else s)

/-- R497 to R499: a TRAIN flit. -/
def execTrainFlitRx (port : Fin 6) (head : FlitHead) (f : TrainFields) (s : State) : Res :=
  let q := port.val
  .next (if s.receives q then
    let (s, _) := s.goodFlit q head
    if (s.nport q).state = .identify then
      let s := s.modNport q (fun p =>
        { p with nbrNode := f.node.toNat, nbrPort := f.port.val, nbrImage := f.imageEpoch.toNat, nbrManifest := f.manifestEpoch.toNat
                 heard := some (f.stamp.toNat, s.now) })
      let s := s.rttSample q f
      if !s.partnerOk q f then s.nbrMismatch q (trainDetail f)
      else
        let s := s.modNport q (fun p => { p with passed := match p.passed with
          | some t => some t
          | none => some s.now })
        if (s.nport q).samples < 16 then s
        else if !s.rttOk q then (s.portFault q 2).enterPort q .disabled
        else if f.verified then s.comeUp q
        else s
    else s
  else s)

/-- R478, R494, R496, R497: a flit slot of a port begins. -/
def execFlitSlot (port : Fin 6) (s : State) : Res :=
  let q := port.val
  let p := s.nport q
  let due := match p.lastSlot with
    | some t => Nat.ble (flitPeriod p.lanes) (s.since t)
    | none => true
  .next (if s.linksRun && due then
    match p.state with
    | .up => (s.routeWaiting.pump).transmit q
    | .align => s.sendFlit q 4 0 0 [] (List.replicate 244 0xA5)
    | .identify => s.sendFlit q 3 0 0 [] (s.trainFill q)
    | _ => s
  else s)

/-- R488: no ACK has advanced O for REPLAY_TMO µs. -/
def execReplayTimeout (port : Fin 6) (s : State) : Res :=
  let q := port.val
  let p := s.nport q
  .next (if s.linksRun && p.state == .up && !p.buffer.isEmpty
      && Nat.ble (500 * s.get (Fld.NWL_PORT_CFG_REPLAY_TMO q)) (s.since p.advanced) then s.startReplay q
  else s)

/-- R496, Table 13-6: training or ALIGN completes on every lane in service. The stage of IDENTIFY completes with a TRAIN flit
(R499). `swap` says whether ALIGN found the lanes swapped. -/
def execBringupStageDone (port : Fin 6) (swap : Bool) (s : State) : Res :=
  let q := port.val
  let lanes := (s.liveLanes q).length
  .next (if s.linksRun then
    match (s.nport q).state with
    | .train => (s.modNport q (fun p => { p with lanes := lanes })).enterPort q .align
    | .align =>
      (s.modNport q (fun p => { p with lanes := lanes, swap := swap && decide (lanes = 2), laneFails := [] })).enterPort q .identify
    | _ => s
  else s)

/-- R599: the lanes that failed a bring-up step; the third failure in a row retires a lane. -/
def State.laneFailures (s : State) (q : Nat) (failed : List Nat) : State :=
  (s.liveLanes q).foldl (fun s l =>
    let n := if failed.contains l then Tab.getD (s.nport q).laneFails l 0 + 1 else 0
    if 3 ≤ n then (s.modNport q (fun p => { p with laneFails := Tab.del p.laneFails l })).retireUnit ⟨.lane, l⟩ 0x0503 n
    else s.modNport q (fun p => { p with laneFails := Tab.putD 0 p.laneFails l n })) s

/-- R496, R514, R599: a bring-up stage has overrun its bound: 500 ms, 200 µs, 50 µs, then 100 µs once this end has verified. `fail0`
and `fail1` say which of the port's lanes kept TRAIN or ALIGN from completing. -/
def execBringupTimeout (port : Fin 6) (fail0 fail1 : Bool) (s : State) : Res :=
  let q := port.val
  let p := s.nport q
  let failed := ((List.zip (portLanes q) [fail0, fail1]).filter (fun e => e.2)).map (fun e => e.1)
  .next (if s.linksRun then
    match p.state with
    | .train =>
      if 250000000 < s.since p.since then (((s.portFault q 3).transient none 0x0502).laneFailures q failed).failBringup q else s
    | .align =>
      if 100000 < s.since p.since then (((s.portFault q 4).transient none 0x0502).laneFailures q failed).failBringup q else s
    | .identify =>
      let tooLong := match p.passed with
        | some t => Nat.blt 50000 (s.since t)
        | none => Nat.blt 25000 (s.since p.since)
      if tooLong then (s.transient none 0x0502).failBringup q else s
    | _ => s
  else s)

/-- R496: 100 ms after it entered DOWN a port leaves it for TRAIN, unless its lanes are under test (R621). -/
def execPortRetryHold (port : Fin 6) (s : State) : Res :=
  let q := port.val
  let p := s.nport q
  .next (if s.linksRun && p.state == .down && Nat.ble 50000000 (s.since p.since) && !(portLanes q).any s.laneTested then
    s.enterPort q (s.trainState q)
  else s)

/-- Whether the blocks behind BAR0 other than IMG_ and GLB_ take an access (R456). -/
def State.blocksOpen (s : State) : Bool := s.img.pwrOk && s.flag Fld.HIF_STATUS_CMD_READY

/-- R489, Table 13-11: a write of 1 to RETRAIN. Only a port that is UP has anything to leave. -/
def State.retrainPort (s : State) (q : Nat) : State := if s.linksRun && s.portIsUp q then s.leaveUp q (s.trainState q) else s

/-- PORT_RETRAIN: R489. -/
def execPortRetrain (port : Fin 6) (s : State) : Res := .next (if s.blocksOpen then s.retrainPort port.val else s)

end Sys2Proof.Machine
end

