-- ==== Sys2Proof/Machine/Vitrine.lean ====
section
/-!
DEFINITION. The Vitrine's commands: search results, update slots, learns, sweeps, removals, scrub (R162 to R197, R206, R207).
-/
namespace Sys2Proof.Machine

/-- R197: the first matching unit of a search failed parity: it is repaired from its shadow, and the search is retried. -/
def State.parityFailed (s : State) (k id b : Nat) (l : Lookup) (shadow : UnitEnd) : State :=
  let a := (s.vgeom l.table).addr l.index
  let s := (s.count Fld.VIT_PARITY_CNT).transient (some ⟨.bank, b⟩) 0x0104
  let s := match shadow with
    | .ok => s.modVbank b (fun x => Bank.repair x a)
    | .ce => (s.hbmCe).modVbank b (fun x => Bank.repair x a)
    | .ue => (s.hbmUe 7).retireUnit ⟨.bank, b⟩ 0x0106 0
  s.repeatSearch k id b

/-- A search granted on bank `b` ends. -/
def State.endSearch (s : State) (f : Frame) (x : Search) (b : Nat) (l : Lookup) (attr : Nat) (pinned : Bool) (work : UnitEnd)
    (parity : Option UnitEnd) : State :=
  let s := { s with grants := s.grants.filter (fun g => !(g.frame == f.key && g.work == Work.search x.id)) }
  let s := s.engineEnd (some ⟨.bank, b⟩) work
  if work = .ue then s.repeatSearch f.key x.id b
  else match parity with
    | some shadow => if l.hit then s.parityFailed f.key x.id b l shadow else s.searchResult f x b l attr pinned
    | none => s.searchResult f x b l attr pinned

/-- VITRINE_SEARCH_RESULT: R164, R167, R168, R170 to R172, R181 to R184, R191 to R193, R197, R206. `parity`: the first matching
unit failed its parity check, and how the read of its shadow ended. -/
def execVitrineSearchResult (frame id : Nat) (work : UnitEnd) (parity : Option UnitEnd) (s : State) : Res :=
  match (s.frame? frame).bind (fun f => (f.searches.find? (fun x => x.id == id)).map (fun x => (f, x))) with
  | some (f, x) =>
    match x.state with
    | .granted b tick l attr pinned =>
      if Nat.ble 10 (s.since tick) then .next ((s.endSearch f x b l attr pinned work parity).touchUnit .vitrine b) else .next s
    | _ => .next s
  | none => .next s

/-- Whether a slot of a wheel is unreserved. -/
def slotFree (w : Wheel) (k : Nat) : Bool := (wheelSlotOwner w.shares k).isNone

/-- R71: whether an update of bank `b` may take the slot that starts now: an unreserved one, or any where the wheel has none. -/
def State.updateSlotFree (s : State) (b : Nat) : Bool :=
  let w := s.wheel .vitrine b
  let w := if w.slot = 0 then s.latchWheel .vitrine w else w
  s.engineRuns .vitrine b && !s.stopped && (slotFree w w.slot || !(upto 256).any (slotFree w))

/-- R71, R180: an update takes the slot that starts now. -/
def State.takeUpdateSlot (s : State) (b : Nat) : State :=
  let w := s.wheel .vitrine b
  let w := if w.slot = 0 then s.latchWheel .vitrine w else w
  let s := if w.slot = 0 then s.modVbank b (fun k => { k with updRev := 0, scrubRev := 0 }) else s
  let s := (s.setWheel .vitrine b { w with slot := (w.slot + 1) % 256 }).count (Fld.VIT_BANK_UPD_CNT b)
  let s := if slotFree w w.slot then s else s.count (Fld.VIT_BANK_STEAL_CNT b)
  s.touchUnit .vitrine b

/-- VITRINE_UPDATE_SLOT: R71, R163, R167, R172 to R177, R179, R180, R194, R195, R207. -/
def execVitrineUpdateSlot (bank : Fin 16) (s : State) : Res :=
  if s.updateSlotFree bank.val && s.updateDue bank.val then .next ((s.takeUpdateSlot bank.val).updateSlot bank.val) else .next s

/-- The learn whose commit is the next operation of a table. -/
def State.learnDue (s : State) (t : Nat) : Option (Learn × LearnEnd × Nat) :=
  match (s.vtable t).cur with
  | some c =>
    match c.op, c.plan with
    | .learn l, .learn how addr :: _ => some (l, how, addr)
    | _, _ => none
  | none => none

/-- LEARN_COMMIT: R174, R185 to R187, R207, in an update slot of the bank that orders the table. -/
def execLearnCommit (table : Fin 64) (s : State) : Res :=
  match s.orderer table.val, s.learnDue table.val with
  | some b, some (l, how, addr) =>
    if s.updateSlotFree b && Nat.blt (s.vbank b).updRev (s.get (Fld.VIT_BANK_CTL_UPD_MAX b)) then
      let s := (s.takeUpdateSlot b).modVbank b (fun k => { k with updRev := k.updRev + 1 })
      .next (((s.commitLearn b table.val l how addr).modVtable table.val (fun x => { x with cur := none })).settleTable table.val)
    else .next s
  | _, _ => .next s

/-- Whether a sweep of a table is due (R189). -/
def State.sweepReady (s : State) (t : Nat) : Bool :=
  s.flag (Fld.VIT_TABLE_CFG_EN t) && s.flag (Fld.VIT_TABLE_CFG_AGE t) && s.reached (s.vtable t).sweepDue && !s.stopped

/-- AGING_SWEEP: R189, R192. The sweep is one step. -/
def execAgingSweep (table : Fin 64) (s : State) : Res :=
  if s.sweepReady table.val then
    let due := w64 (s.now + s.get (Fld.VIT_TABLE_TIMERS_AGE_MS table.val) * 500000)
    .next ((s.sweepTable table.val).modVtable table.val (fun x => { x with sweepDue := due }))
  else .next s

/-- The removal that is the next operation of a table: its head unit. -/
def State.removalDue (s : State) (t : Nat) : Option Nat :=
  match (s.vtable t).cur, (s.vtable t).ops with
  | none, .remove a :: _ => some a
  | _, _ => none

/-- R190: a removal in its update slot. -/
def State.removeEntry (s : State) (b t a : Nat) : State :=
  let s := s.modVtable t (fun x => { x with ops := x.ops.drop 1 })
  let u := (s.vbank b).unit a
  if u.info.valid && u.info.head && u.info.stale then (s.applyPrim b t (.invalidate a)).count Fld.VIT_AGE_REMOVE_CNT else s

/-- AGING_REMOVAL: R176, R190. -/
def execAgingRemoval (table : Fin 64) (s : State) : Res :=
  match s.orderer table.val, s.removalDue table.val with
  | some b, some a =>
    if s.updateSlotFree b && Nat.blt (s.vbank b).updRev (s.get (Fld.VIT_BANK_CTL_UPD_MAX b)) then
      let s := (s.takeUpdateSlot b).modVbank b (fun k => { k with updRev := k.updRev + 1 })
      .next ((s.removeEntry b table.val a).settleTable table.val)
    else .next s
  | _, _ => .next s

/-- R195, R196: one scrub read; `mismatch` says that an upset made the unit differ from its shadow. -/
def State.scrubUnit (s : State) (b : Nat) (mismatch : Bool) (shadow : UnitEnd) : State :=
  let a := (s.vbank b).scrubNext
  let last := a = 65535
  let s := s.modVbank b (fun k =>
    { k with scrubNext := (a + 1) % 65536, scrubRev := k.scrubRev + 1, pass := if last then (k.pass + 1) % 65536 else k.pass })
  match shadow with
  | .ue => (s.hbmUe 7).retireUnit ⟨.bank, b⟩ 0x0106 0
  | e =>
    let s := if e = .ce then s.hbmCe else s
    if mismatch || !shadowAgrees (s.vbank b) a then
      let s := s.modVbank b (fun k => { k with repairs := k.repairs ++ [a] })
      (s.count Fld.VIT_SCRUB_FIX_CNT).transient (some ⟨.bank, b⟩) 0x0105
    else s

/-- SCRUB_READ: R195, R196, R206. -/
def execScrubRead (bank : Fin 16) (mismatch : Bool) (shadow : UnitEnd) (s : State) : Res :=
  if s.engineRuns .vitrine bank.val && !s.stopped && Nat.blt (s.vbank bank.val).scrubRev (s.get (Fld.VIT_BANK_CTL_SCRUB bank.val)) then
    .next (s.scrubUnit bank.val mismatch shadow)
  else .next s

end Sys2Proof.Machine
end

