-- ==== Sys2Proof/Machine/PowerOps.lean ====
section
/-!
DEFINITION. What power, clock and thermal commands work with: throttle levels, the trip response, sensors, trims, the floors of
units, links that go down (R121, R559 to R595, R600).
-/
namespace Sys2Proof.Machine

/-- The trim block in force; empty before step 3. -/
def State.trimBytes (s : State) : Bytes := s.pwr.trims.getD []

/-- VID[L] of the trim block (Table 15-5). -/
def State.vidOf (s : State) (l : Nat) : Nat := byteAt s.trimBytes (64 + l) % 64

/-- A code on VDD_VID (R568). -/
def State.driveVid (s : State) (code : Nat) : State :=
  if s.get Fld.PWR_VID = code then s else (s.set Fld.PWR_VID code).emit (.vid code)

/-- Whether the thermal level is held at 12 (R591, R593). -/
def State.thermHeld (s : State) : Bool := s.flag Fld.THM_STATE_BLIND || !s.pwr.lowHeld.isEmpty

/-- R568, R570, R571: thermal and cap level are set, and L with them: the clocks go down before VDD, and up 20 µs after it. -/
def State.setLevels (s : State) (thermal cap : Nat) : State :=
  let old := s.get Fld.PWR_THR_LEVEL
  let l := max thermal cap
  let s := ((s.set Fld.PWR_THR_THERMAL thermal).set Fld.PWR_THR_CAP cap).set Fld.PWR_THR_LEVEL l
  if l = old then s
  else
    let clock := max s.pwr.clockLevel l
    let s := { s with pwr := { s.pwr with clockLevel := clock, raiseAt := if l < clock then some (w64 (s.now + 10000)) else none } }
    let s := if s.pwr.trims.isSome then s.driveVid (s.vidOf l) else s
    if old = 0 then s.event 0x0071 0 [l] else if l = 0 then s.event 0x0072 0 [] else s

/-- The thermal level is set. -/
def State.setThermal (s : State) (t : Nat) : State := s.setLevels t (s.get Fld.PWR_THR_CAP)

/-- A step of the thermal level. -/
def State.stepThermal (s : State) (t : Nat) : State := ({ s with pwr := { s.pwr with thermStep := s.now } }).setThermal t

/-- R591, R593: a hold begins: level 12. -/
def State.holdThermal (s : State) : State := if s.thermHeld then s.stepThermal 12 else s

/-- A run of a bank's bytes holds what nobody can predict. -/
def State.junkRun (s : State) (b off n : Nat) : State :=
  let (junk, s) := s.freeBytes n
  s.modBank b (fun k => { k with cells := writeCells (eraseCells k.cells off n) off junk, op := none })

/-- R459: an erase in flight is stopped: what its sector then holds is open (free values, log entry 3). -/
def State.stopErase (s : State) (b : Nat) : State :=
  match (s.bank b).op with
  | some (.erase off _) => s.junkRun b off 65536
  | _ => s

/-- R459: the erases of both banks. -/
def State.stopErases (s : State) : State := (s.stopErase 0).stopErase 1

/-- R580: the data path stops. -/
def State.stopPath (s : State) : State := { s with stopped := true }

/-- R580: the trip response with its cause: 1 TEMP, 2 CLOCK. -/
def State.trip (s : State) (cause : Nat) : State :=
  if s.pwr.tripped then s
  else
    let s := { s.stopPath.stopErases with pwr := { s.pwr with tripped := true, latch := cause } }
    (s.wedge 0xFFFF (if cause = 1 then 0x0801 else 0x0802)).emit (.thermTrip true)

/-- The record of a sensor in the trim block (Table 15-5). -/
def sensorTrim (t : Bytes) (i : Nat) : Bytes := slice t (5680 + 16 * i) 16

/-- R586, R594: a raw code converted, in eighths of a °C or in mV. -/
def State.convert (s : State) (i raw : Nat) : Int :=
  match s.pwr.trims with
  | none => raw
  | some t =>
    let r := sensorTrim t i
    ((raw * le r 4 2 + 8192) / 16384 : Nat) + signed 16 (le r 2 2)

/-- A die sensor that counts (R579). -/
def State.sensorCounts (s : State) (i : Nat) : Bool := !s.flag (Fld.THM_SENSOR_STALE i) && !s.flag (Fld.THM_SENSOR_DEGRADED i)

/-- R578, R590: a conversion of one sensor; a STALE one keeps its value. -/
def State.readSensor (s : State) (i raw : Nat) : State :=
  if s.flag (Fld.THM_SENSOR_STALE i) then s else s.set (Fld.THM_SENSOR_VALUE i) (toBitsInt 16 (s.convert i raw))

/-- The reading of a sensor. -/
def State.sensorValue (s : State) (i : Nat) : Int := signed 16 (s.get (Fld.THM_SENSOR_VALUE i))

/-- The hottest of the sensors that count, lowest number first on a tie. -/
def State.hottest (s : State) : Option Nat :=
  ((upto 24).filter s.sensorCounts).foldl (fun best i => match best with
    | none => some i
    | some b => if s.sensorValue b < s.sensorValue i then some i else some b) none

/-- A PLDM PlatformEventMessage to its receiver, where one is set (Table 11-17). -/
def State.platformEvent (s : State) (code arg : Nat) : State :=
  if s.mgmt.receiver.isSome then s.emit (.platformEvent code arg) else s

/-- Table 15-4, warn: set at 95 °C, cleared below 92 °C. -/
def State.judgeWarn (s : State) (sensor : Nat) (v : Int) : State :=
  if 760 ≤ v then
    if s.flag Fld.THM_STATE_WARN then s
    else
      let s := ((s.set Fld.THM_STATE_WARN 1).count Fld.THM_WARN_CNT).event 0x0070 sensor [toBitsInt 16 v]
      s.platformEvent 0x0070 (toBitsInt 16 v)
  else if v < 736 then s.set Fld.THM_STATE_WARN 0 else s

/-- Table 15-4, throttle: set at 100 °C, cleared below 97 °C; the first conversion at or above 100 °C raises the level. -/
def State.judgeThrottle (s : State) (old v : Int) : State :=
  let s := if 800 ≤ v ∧ !s.flag Fld.THM_STATE_THROTTLE then (s.set Fld.THM_STATE_THROTTLE 1).platformEvent 0x0071 (toBitsInt 16 v)
    else if v < 776 then s.set Fld.THM_STATE_THROTTLE 0 else s
  let s := if 776 ≤ old ∧ v < 776 then { s with pwr := { s.pwr with thermStep := s.now } } else s
  if 800 ≤ v ∧ old < 800 then
    if s.thermHeld then s else s.stepThermal (min 12 (s.get Fld.PWR_THR_THERMAL + 1))
  else s

/-- R580, R594: the shutdown threshold. -/
def State.tripPoint (s : State) : Int := if s.pwr.trims.isSome then 880 else 840

/-- R578 to R580: the thresholds applied to a junction maximum. -/
def State.judgeJunction (s : State) : State :=
  match s.hottest with
  | none => s
  | some i =>
    let old := signed 16 (s.get Fld.THM_MAX)
    let v := s.sensorValue i
    let s := s.set Fld.THM_MAX (toBitsInt 16 v)
    let s := (s.judgeWarn i v).judgeThrottle old v
    if s.tripPoint ≤ v then (if s.pwr.tripped then s else s.platformEvent 0x0801 (toBitsInt 16 v)).trip 1 else s

/-- The setpoint of VDD in mV (R568). -/
def State.vddMv (s : State) : Nat := 600 + 5 * s.get Fld.PWR_VID

/-- R593: a VDD sensor's reading is low, or has recovered. -/
def State.judgeVdd (s : State) (k : Nat) : State :=
  if Config.vddSensor (24 + k) && s.img.pwrOk then
    if s.sensorValue (24 + k) + 50 < (s.vddMv : Int) then
      if (Tab.get? s.pwr.lowSince k).isSome then s else { s with pwr := { s.pwr with lowSince := Tab.put s.pwr.lowSince k s.now } }
    else
      let was := s.thermHeld
      let s := { s with pwr := { s.pwr with lowSince := Tab.del s.pwr.lowSince k, lowHeld := s.pwr.lowHeld.filter (fun x => x != k) } }
      if was && !s.thermHeld then { s with pwr := { s.pwr with thermStep := s.now } } else s
  else s

/-- Strands that keep units of a stage up: those not in OFF or RETIRED with a share there (R564). -/
def State.floorStrands (s : State) (st : Stage) : List Strand :=
  s.strands.filter (fun x => x.state != .off && x.state != .retired && x.shares.getD (stageIdx st) 0 != 0)

/-- R42: a class with a W, CHUNK_US or CLOSE_US under 60 µs; the latter two bear on a streamed class only. -/
def State.tightClass (s : State) (c : Nat) : Bool :=
  Nat.blt (s.get (Fld.TID_CLASS_WIN_WIN_US c)) 60 || (s.flag (Fld.TID_CLASS_CTL_STREAMED c)
    && (Nat.blt (s.get (Fld.TID_CLASS_CHUNK_CHUNK_US c)) 60 || Nat.blt (s.get (Fld.TID_CLASS_CLOSE_CLOSE_US c)) 60))

/-- R42, R564: the floor of a unit: 0 Parked, 1 Banked, 2 Running (FLOOR of a Strand counts the other way, Table 1-19). -/
def State.unitFloor (s : State) (u : Nat) : Nat :=
  let (st, e) := unitEngine u
  let xs := s.floorStrands st
  let base := xs.foldl (fun m x => max m (max (2 - x.floor) (if s.tightClass x.cls then 1 else 0))) 0
  let base := if st = .galleries ∧ (upto 8).any (fun c => s.flag (Fld.SRV_COVE_CFG_EN c)) then max base 1 else base
  if st = .vitrine ∧ (s.flag (Fld.VIT_BANK_CTL_SCRUB e) ∨ s.flag (Fld.VIT_BANK_CTL_STK_SHARE e)) then 2 else base

/-- Whether work is eligible for a unit (R565, R566). A walk goes to the lowest live Gather engine with a free context (R234). -/
def State.unitWork (s : State) (u : Nat) : Bool :=
  let (st, e) := unitEngine u
  match st with
  | .gather =>
    s.frames.any (fun f => match f.walk with
      | some w => w.engine == e && screening f
      | none => false)
      || (s.frames.any walkWaits && (match s.freeContext with
        | some (x, _) => x == e
        | none => false))
  | .vitrine => (upto 32).any (fun i => (s.strandWork st e i false).isSome || (s.strandWork st e i true).isSome) 
      || s.updateDue e || (upto 64).any (fun t => s.orderer t == some e && ((s.learnDue t).isSome || (s.removalDue t).isSome))
  | _ => (upto 40).any (s.hasWork st e) || (upto 32).any (fun i => (s.strandWork st e i true).isSome)

/-- Code of a power state (Table 15-2). -/
def powerCode : PowerState → Nat
  | .parked => 0
  | .banked => 1
  | .running => 2

/-- Lanes of a data or Tap port (Table 15-7). -/
def ethLanes (p : Nat) : List Nat := if p = 0 then [0, 1, 2, 3] else if p = 1 then [4, 5, 6, 7] else [8]

/-- R121, R116: a data or Tap link goes up or down. A port with a retired lane stays down (R600); copies that wait for the Tap are
lost with its link. -/
def State.ethLink (s : State) (p : Nat) (up : Bool) : State :=
  let up := up && (ethLanes p).all (fun l => !s.isRetired .lane l)
  let s := s.set (Fld.INT_PORT_CTL_LINK_UP p) (b2n up)
  if p = 2 && !up then { s with tapQueue := [] } else s

/-- R600: the PCIe width that retired lanes leave. -/
def State.pcieLanes (s : State) : Nat :=
  let dead := fun (n : Nat) => (upto n).any (fun i => s.isRetired .lane (19 + i))
  if !dead 16 then 16 else if !dead 8 then 8 else 4

/-- The port of a lane: where it is, or none. -/
inductive LanePort where
  | eth (p : Nat)
  | nwl (q : Nat)
  | pcie
  deriving DecidableEq, Repr

/-- Table 15-7. -/
def lanePort (l : Nat) : LanePort :=
  if l < 4 then .eth 0 else if l < 8 then .eth 1 else if l = 8 then .eth 2 else if l < 17 then .nwl ((l - 9) / 2)
  else if l < 19 then .nwl (l - 13) else .pcie

/-- Whether a lane's port is up. -/
def State.laneUp (s : State) (l : Nat) : Bool :=
  match lanePort l with
  | .eth p => s.flag (Fld.INT_PORT_CTL_LINK_UP p)
  | .nwl q => s.portIsUp q
  | .pcie => s.flag Fld.HIF_STATUS_LINK_UP

/-- R600: a lane is retired, with what that does to its port. -/
def State.laneDead (s : State) (l code count : Nat) : State :=
  let s := s.retireUnit ⟨.lane, l⟩ code count
  match lanePort l with
  | .eth p => s.ethLink p false
  | .nwl q => if s.portIsUp q then s.leaveUp q (s.trainState q) else if (s.liveLanes q).isEmpty then s.enterPort q .retired else s
  | .pcie => s.set Fld.HIF_STATUS_WIDTH (min (s.get Fld.HIF_STATUS_WIDTH) s.pcieLanes)

end Sys2Proof.Machine
end

