-- ==== Sys2Proof/Machine/Image.lean ====
section
/-!
DEFINITION. The Afral image: its header, section table, signature block and register records, and the checks on them
(R446 to R451, R463, R667; Tables 12-3 to 12-7).
-/
namespace Sys2Proof

/-- An entry of the section table (Table 12-4). -/
structure ImgSection where
  type : Nat
  id : Nat
  crc : Nat
  off : Nat
  len : Nat
  digest : Bytes
  deriving DecidableEq, Repr

/-- An entry read from its 64 bytes. -/
def sectionOf (e : Bytes) : ImgSection := ⟨le e 0 2, le e 2 2, le e 4 4, le e 8 4, le e 12 4, slice e 16 48⟩

/-- IMAGE_EPOCH of a header. -/
def hdrEpoch (h : Bytes) : Nat := le h 6 2
/-- SECTIONS of a header. -/
def hdrSections (h : Bytes) : Nat := le h 12 4
/-- SIGNED_LEN of a header. -/
def hdrSigned (h : Bytes) : Nat := le h 20 4

/-- R446, first condition: MAGIC, FORMAT, HDR_CRC, and every field of Table 12-3 in its range. -/
def headerOk (h : Bytes) : Bool :=
  le h 0 4 == 0x4C524641 && le h 4 2 == 1 && le h 32 4 == crc32c (h.take 32 ++ slice h 36 220)
    && decide (4 ≤ hdrSections h ∧ hdrSections h ≤ 64) && le h 16 4 == 256 && hdrSigned h % 256 == 0
    && le h 24 4 == hdrSigned h && le h 28 4 == hdrSigned h + 8192 && decide (hdrSigned h + 8192 ≤ 0x20000000)
    && le h 40 216 == 0

/-- R446, second condition: STEPPING, and a determinism class that the part has (Table 7-1: class 1). -/
def steppingOk (h : Bytes) : Bool := byteAt h 10 == 0xB0 && decide (byteAt h 11 ≤ 1)

/-- How many sections of a type the table has. -/
def countType (t : Nat) (xs : List ImgSection) : Nat := (xs.filter (fun x => x.type == t)).length

/-- Two sections share no byte. -/
def sectionsApart (x y : ImgSection) : Bool := decide (x.off + x.len ≤ y.off) || decide (y.off + y.len ≤ x.off) || x.len == 0 || y.len == 0

/-- R446, third and fourth conditions: places and counts (Tables 12-4, 12-5). -/
def sectionsOk (h : Bytes) (xs : List ImgSection) : Bool :=
  decide (256 + 64 * hdrSections h ≤ hdrSigned h)
    && xs.all (fun x => decide (1 ≤ x.type ∧ x.type ≤ 5) && x.off % 256 == 0 && decide (x.off + x.len ≤ hdrSigned h)
        && (x.type != 1 || decide (x.len ≤ 0x1000000)) && (x.type != 3 || decide (x.id ≤ 31)))
    && pairsOk sectionsApart xs
    && countType 1 xs == 1 && countType 2 xs == 1 && countType 4 xs == 1 && decide (countType 5 xs ≤ 1)
    && (upto 32).all (fun i => decide ((xs.filter (fun x => x.type == 3 && x.id == i)).length ≤ 1))

/-- Records of a section: BAR0 offset and value (R448). -/
def recordsOf (b : Bytes) : List (Nat × Nat) := (chunks 8 b).map (fun r => (le r 0 4, le r 4 4))

/-- Bit masks of the fields of `TID_STRAND_CFG` that a record gives: CLASS, FLOOR (R450). -/
def recClass (v : Nat) : Nat := bits v 0 3
/-- FLOOR of a record for TID_STRAND_CFG. -/
def recFloor (v : Nat) : Nat := bits v 3 2

/-- Table 12-7: whether a word belongs to the registers and windows of Strand `i`. -/
def strandWord (i off : Nat) : Bool :=
  let within := fun (base len : Nat) => decide (base ≤ off ∧ off < base + len)
  within (0x30200 + 0x10 * i) 4 || within (0x30400 + 8 * i) 8 || within (0x60300 + 4 * i) 4 || within (0x61000 + 0x80 * i) 0x80
    || within (0x71000 + 0x100 * i) 0x100 || within (0x80200 + 8 * i) 4 || within (0xA0400 + 4 * i) 4 || within (0xB0400 + 4 * i) 4
    || within (0xC0100 + 8 * i) 8 || within (0xC4000 + 0x1000 * i) 0x1000

/-- Table 12-7, for any Strand. -/
def strandScoped (off : Nat) : Bool := (upto 32).any (fun i => strandWord i off)

/-- LK bits of a word. -/
def lkMask (off : Nat) : Nat := ((regDef off).map (fun d => d.lk)).getD 0

/-- R449: whether a GLOBAL record may name a word. -/
def globalWord (off : Nat) : Bool := off % 4 == 0 && lkMask off != 0 && !strandScoped off

end Sys2Proof

namespace Sys2Proof.Machine

/-- The header of a bank's image. -/
def State.imgHeader (s : State) (b : Nat) : Bytes := s.nvmRead b 0 256

/-- The section table of a bank's image. -/
def State.imgSections (s : State) (b : Nat) : List ImgSection :=
  (upto (hdrSections (s.imgHeader b))).map (fun i => sectionOf (s.nvmRead b (256 + 64 * i) 64))

/-- Bytes of a section. -/
def State.sectionBytes (s : State) (b : Nat) (x : ImgSection) : Bytes := s.nvmRead b x.off x.len

/-- The section of a type and ID in a bank. -/
def State.findSection (s : State) (b type id : Nat) : Option ImgSection :=
  (s.imgSections b).find? (fun x => x.type == type && x.id == id)

/-- R446, R474: the first image fault of a bank, or 0 (Table 12-12). -/
def State.wellFormedFault (s : State) (b : Nat) : Nat :=
  let h := s.imgHeader b
  if bit s.img.dead b then 0x0F
  else if !headerOk h then 0x01
  else if !steppingOk h then 0x02
  else
    let xs := s.imgSections b
    if !sectionsOk h xs then 0x03
    else if xs.any (fun x => x.crc != crc32c (s.sectionBytes b x)) then 0x04
    else if xs.any (fun x => x.digest != sha384 (s.sectionBytes b x)) then 0x05
    else 0

/-- R447: the fault of a bank's signature block, or 0 (Table 12-6). -/
def State.signatureFault (s : State) (b : Nat) : Nat :=
  let n := hdrSigned (s.imgHeader b)
  let d := sha384 (s.nvmRead b 0 n)
  let g := s.nvmRead b n 8192
  match s.img.otp with
  | none => 0x06
  | some o =>
    let ec := byteAt g 4
    let ml := byteAt g 5
    let keyEc := slice g 16 97
    let keyMl := slice g 224 2592
    if le g 0 4 != 0x47495341 || decide (3 < ec) || decide (3 < ml) || bit o.ecRevoked ec || bit o.mlRevoked ml
      || sha384 keyEc != o.ecDigests.getD ec [] || sha384 keyMl != o.mlDigests.getD ml [] then 0x06
    else if !Config.ecdsaVerify keyEc d (slice g 128 96) then 0x07
    else if !Config.mlDsaVerify keyMl d (slice g 2816 4627) then 0x08
    else 0

/-- R448: every LK field returns to its reset value. -/
def State.resetLk (s : State) : State :=
  s.reg.foldl (fun s e =>
    let m := lkMask e.1
    if m = 0 then s
    else s.setWord e.1 (word ((e.2.toNat &&& (0xFFFFFFFF - m)) ||| ((regReset e.1).toNat &&& m)))) s

/-- R448: a record applied to the LK fields of a word. -/
def State.applyRecord (s : State) (r : Nat × Nat) : State :=
  let m := lkMask r.1
  let s := if 0x81000 ≤ r.1 ∧ r.1 < 0x81000 + 160 * 32 then
      { s with img := { s.img with views := s.img.views ||| 2 ^ ((r.1 - 0x81000) / 160) } } else s
  s.setWord r.1 (word (((s.regWord r.1).toNat &&& (0xFFFFFFFF - m)) ||| (r.2 &&& m)))

/-- R448: the GLOBAL section applied to LK fields at reset. -/
def State.applyGlobal (s : State) (recs : List (Nat × Nat)) : State :=
  let s := { s with img := { s.img with views := 0 } }
  recs.foldl State.applyRecord s.resetLk

/-- Banks of a table's configuration, in service or not. -/
def State.tableBanks (s : State) (t : Nat) : List Nat :=
  (upto (s.get (Fld.VIT_TABLE_CFG_REPL t))).map (fun i => s.get (Fld.VIT_TABLE_CFG_BANK_FIRST t) + i)

/-- Enabled Vitrine tables. -/
def State.enabledTables (s : State) : List Nat := (upto 64).filter (fun t => s.flag (Fld.VIT_TABLE_CFG_EN t))

/-- R166: two enabled tables share no unit. -/
def State.tablesApart (s : State) (t u : Nat) : Bool :=
  let lo := fun x => s.get (Fld.VIT_TABLE_REGION_BASE4 x)
  let hi := fun x => s.get (Fld.VIT_TABLE_REGION_BASE4 x) + s.get (Fld.VIT_TABLE_REGION_COUNT4 x)
  !(s.tableBanks t).any (fun b => (s.tableBanks u).contains b) || decide (hi t ≤ lo u) || decide (hi u ≤ lo t)

/-- R166, R188: the tables pass. -/
def State.vitrineOk (s : State) : Bool :=
  let ts := s.enabledTables
  ts.all (fun t =>
      let repl := s.get (Fld.VIT_TABLE_CFG_REPL t)
      decide (1 ≤ repl ∧ s.get (Fld.VIT_TABLE_CFG_BANK_FIRST t) + repl ≤ 16)
        && !(s.flag (Fld.VIT_TABLE_CFG_LEARN t) && s.get (Fld.VIT_TABLE_CFG_STACK t) != 0))
    && pairsOk s.tablesApart ts

/-- R203, R289: shares that the image's STRAND sections take of a stage. -/
def sectionShares (recs : List (Nat × List (Nat × Nat))) (stage : Nat) : Nat :=
  sumBy recs (fun e =>
    let off := 0x30400 + 8 * e.1 + 4 * (stage / 4)
    let v := ((e.2.filter (fun r => r.1 == off)).getLast?.map (fun r => r.2)).getD 0
    bits v (8 * (stage % 4)) 8)

/-- R203: every bank that holds a stacked table keeps its slots for the stack. -/
def State.stackShareOk (s : State) (vitrineShares : Nat) : Bool :=
  (upto 16).all (fun b =>
    !(s.enabledTables.any (fun t => s.get (Fld.VIT_TABLE_CFG_STACK t) != 0 && (s.tableBanks t).contains b))
      || decide (s.get (Fld.VIT_BANK_CTL_STK_SHARE b) + vitrineShares ≤ 256))

/-- R246: the geometries pass: each field in its range, all of them within the graph partition. -/
def State.geometryOk (s : State) : Bool :=
  let gs := (upto 4).filter (fun g => s.hasGeometry g)
  let lines := sumBy gs (fun g => 2 ^ (s.graphGeom g).dirLog2 + (s.graphGeom g).vtxMax + (s.graphGeom g).blkMax)
  gs.all (fun g => decide (16 ≤ (s.graphGeom g).dirLog2 ∧ (s.graphGeom g).dirLog2 ≤ 30)
      && decide (1 ≤ s.get (Fld.GTH_GRAPH_GEOM_VTX_64K g) ∧ s.get (Fld.GTH_GRAPH_GEOM_VTX_64K g) ≤ 32768))
    && decide (64 * lines ≤ s.get (Fld.IMG_HBM_REGION 1) * 2 ^ 20)

/-- R222: every view that the section names passes. -/
def State.viewsOk (s : State) : Bool :=
  (upto 32).all (fun k => !bit s.img.views k || viewOk (s.window (0x81000 + 160 * k) 160) s.hasGeometry)

/-- Enabled Coves. -/
def State.enabledCoves (s : State) : List Nat := (upto 8).filter (fun c => s.flag (Fld.SRV_COVE_CFG_EN c))

/-- Gallery shares of the enabled Coves (R289). -/
def State.coveShares (s : State) : Nat := sumBy s.enabledCoves (fun c => s.get (Fld.SRV_COVE_CFG_GAL_SHARE c))

/-- R289, R332, R356: the Coves' settings pass. -/
def State.covesOk (s : State) (galleryShares : Nat) : Bool :=
  decide (sumBy s.enabledCoves (fun c => s.get (Fld.SRV_COVE_BLOCKS c) * s.get (Fld.SRV_COVE_BLOCK_KIB c)) * 1024
      ≤ s.get (Fld.IMG_HBM_REGION 3) * 2 ^ 20)
    && decide (s.coveShares + galleryShares ≤ 256)
    && s.enabledCoves.all (fun c =>
        (s.get (Fld.SRV_COVE_SPEC_DRAFT_SRC c) != 2
          || decide (s.get (Fld.SRV_COVE_SPEC_BRANCH c) * s.get (Fld.SRV_COVE_SPEC_SPEC_DEPTH c) ≤ 16))
        && (s.get (Fld.SRV_PAUSE_STEP_PAUSE_STEP_US c) == 0
          || decide (s.get (Fld.SRV_PAUSE_STEP_RESUME_STEP_US c) < s.get (Fld.SRV_PAUSE_STEP_PAUSE_STEP_US c))))

/-- R490: flow-control thresholds pass on every VC that has a buffer. -/
def State.flowOk (s : State) : Bool :=
  (upto 6).all (fun q => (upto 5).all (fun v =>
    bufferSize q v == 0 || (decide (s.fcOff q v < s.fcOn q v) && decide (s.fcOn q v ≤ bufferSize q v))))

/-- R449, R667: the GLOBAL checks of a bank's image; the answer is the device with the section applied. -/
def State.globalCheck (s : State) (b : Nat) : Option State :=
  match s.findSection b 2 0 with
  | none => none
  | some x =>
    let bs := s.sectionBytes b x
    let recs := recordsOf bs
    if bs.length % 8 != 0 || !recs.all (fun r => globalWord r.1) then none
    else
      let g := s.applyGlobal recs
      let strands := ((s.imgSections b).filter (fun x => x.type == 3)).map (fun x => (x.id, recordsOf (s.sectionBytes b x)))
      if g.vitrineOk && g.stackShareOk (sectionShares strands 2) && g.geometryOk && g.viewsOk
        && g.covesOk (sectionShares strands 5) && g.flowOk then some g else none

/-- R446, R447, R449: the image fault of a bank, or 0. -/
def State.imageFault (s : State) (b : Nat) : Nat :=
  let w := s.wellFormedFault b
  if w != 0 then w
  else
    let g := s.signatureFault b
    if g != 0 then g else if (s.globalCheck b).isNone then 0x09 else 0

/-- R451: the HBM partition passes; `live` is the HBM left live, in MiB. -/
def State.partitionOk (s : State) (live : Nat) : Bool :=
  let total := sumBy (upto 8) (fun k => s.get (Fld.IMG_HBM_REGION k))
  s.get (Fld.IMG_HBM_REGION 7) == 192 && decide (total ≤ 203945) && decide (total + 2048 ≤ live)

/-- R376: a condition is defined (Tables 10-3, 10-4). -/
def condOk (c : Nat) : Bool :=
  let sel := bits c 4 12
  decide (bits c 16 3 ≤ 6) && (match bits c 0 4 with
    | 0 => decide (sel < 64)
    | 1 => decide (sel < 512) && decide (bits sel 6 3 ≤ 6)
    | 2 => decide (sel ≤ 16)
    | 3 => decide (sel ≤ 1)
    | 4 => sel == 0
    | 5 => sel == 0
    | 6 => decide (sel < 64)
    | 7 => sel == 0
    | _ => false)

/-- R376: the policy of a Strand passes. -/
def State.policyOk (s : State) (i : Nat) : Bool :=
  let n := s.get (Fld.VRD_STRAND_POLICY_RULES i)
  decide (n ≤ 128) && decide (s.get (Fld.VRD_STRAND_POLICY_DEFAULT_VERDICT i) ≤ 3) && decide (s.get (Fld.VRD_STRAND_POLICY_KEEP_LAST i) ≤ 4)
    && (upto n).all (fun k =>
      let r := s.wide (0xC4000 + 0x1000 * i + 32 * k) 8
      !bit r 0 || (decide (bits r 1 3 ≤ 3) && (upto (bits r 4 2)).all (fun j => condOk (bits r (64 + 64 * j) 64))))

/-- R167, R169, R282, R387, Table 4-13: slot map and key map of a Strand pass. -/
def State.mapsOk (s : State) (i : Nat) : Bool :=
  (upto 64).all (fun sl =>
    let m := s.slotMap i sl
    let k := s.keyMap i sl
    let ngram := bit m 0 && bits m 5 3 != 0
    decide (bits m 5 3 ≤ 4)
      && !(ngram && bit k 0 && (s.get (Fld.VIT_TABLE_CFG_WIDTH (bits k 1 6)) != 0 || bit k 7)))
    && decide (((upto 64).filter (fun sl => bit (s.slotMap i sl) 8)).length ≤ 1)

/-- R222, R232: the Gather settings of a Strand pass. -/
def State.gatherOk (s : State) (i : Nat) : Bool :=
  !s.flag (Fld.GTH_STRAND_CFG_EN i) || bit s.img.views (s.get (Fld.GTH_STRAND_CFG_VIEW i))

/-- Model indices are 0 to 63, or 0xFF for none (R271). -/
def State.modelsOk (s : State) (i : Nat) : Bool := (s.modelList i).all (fun e => decide (e.2 < 64))

/-- Words of Strand `i` return to reset (R448). -/
def State.resetStrandWords (s : State) (i : Nat) : State :=
  (s.reg.filter (fun e => strandWord i e.1)).foldl (fun s e => s.setWord e.1 (regReset e.1)) s

/-- The value that a STRAND section gives a word, or 0. -/
def recordFor (recs : List (Nat × Nat)) (off : Nat) : Nat :=
  ((recs.filter (fun r => r.1 == off)).getLast?.map (fun r => r.2)).getD 0

/-- CLASS that a STRAND section binds. -/
def sectionClass (i : Nat) (recs : List (Nat × Nat)) : Nat := recClass (recordFor recs (0x30200 + 0x10 * i))

/-- The eight shares that a STRAND section names, by stage index. -/
def sectionShareList (i : Nat) (recs : List (Nat × Nat)) : List Nat :=
  (upto 8).map (fun k => bits (recordFor recs (0x30400 + 8 * i + 4 * (k / 4))) (8 * (k % 4)) 8)

/-- R450: the words of a STRAND section put in place. -/
def State.applySection (s : State) (i : Nat) (recs : List (Nat × Nat)) : State := recs.foldl State.applyRecord (s.resetStrandWords i)

/-- R450, R667: the STRAND checks of a section whose words are in place in `s`. -/
def State.sectionOk (s : State) (i : Nat) (recs : List (Nat × Nat)) : Bool :=
  recs.all (fun r => r.1 % 4 == 0 && strandWord i r.1) && recFloor (recordFor recs (0x30200 + 0x10 * i)) != 3
    && s.mapsOk i && s.policyOk i && s.gatherOk i && s.modelsOk i

/-- R99: a field descriptor is defined and fits the set's KIND. -/
def descOk (kind d : Nat) : Bool :=
  decide (bits d 4 4 ≤ 6) && decide (descRole d ≤ 8) && (match bits d 0 4 with
    | 2 => true
    | 3 => kind == 0
    | 4 => kind == 1
    | 5 => kind == 2
    | 6 => kind == 0
    | _ => false)

/-- R99: a descriptor set passes. -/
def State.descSetOk (s : State) (d : Nat) : Bool :=
  match s.descSet d with
  | [] => false
  | f :: rest =>
    let kind := bits f 4 2
    let one := fun role => decide ((rest.filter (fun x => descRole x == role)).length ≤ 1)
    bits f 0 4 == 1 && bits f 6 2 != 3 && !(kind == 1 && bits f 20 2 == 3) && rest.all (descOk kind)
      && one 4 && one 5 && one 6 && one 7
      && (kind != 0 || (s.descTables (f :: rest)).layout.all (fun e =>
            !(bit e 25 && !bit e 24) || !(decide (2 ≤ bits e 26 2) || (bits e 30 2 != 0 && bits e 28 2 == 3))))

/-- R99: no class rule nor the default pairs the class with a set that fails. -/
def State.classSetsOk (s : State) (c : Nat) : Bool :=
  let pairs := ((s.classRules.filter (fun r => bit r 0)).map (fun r => (bits r 192 3, bits r 195 6)))
    ++ [(bits s.classDefault 0 3, bits s.classDefault 3 6)]
  (pairs.filter (fun p => p.1 == c)).all (fun p => s.descSetOk p.2)

end Sys2Proof.Machine
end

