-- ==== Sys2Proof/Machine/StrandCmds.lean ====
section
/-!
DEFINITION. What brings Strands from state to state: section loads, entry into SERVING, the end of a drain, Tidal swaps
and rolling change (R26, R65, R83, R160, R209, R245, R280, R327, R368, R455, R461 to R472).
-/
namespace Sys2Proof.Machine

/-- An image fault is noted (IMG_FAULT). -/
def State.imgFault (s : State) (code : Nat) : State := s.set Fld.IMG_FAULT code

/-- A refused image command completes with DETAIL set; where the spec names no code for the case, the code is a free value (log
entry 3). -/
def State.imgRefuse (s : State) (c : CmdRef) (st : Status) (code : Option Nat) (bank : Nat) : State :=
  let (d, s) := match code with
    | some d => (d, s)
    | none => s.free 8
  (s.imgFault d).complete c st.code (imgPayload s d bank)

/-- The force bank. -/
def State.forceBank (s : State) : Nat := s.get Fld.IMG_STATE_FORCE_BANK

/-- R455 step 14: STRANDS_READY once the last Strand with a section is in SERVING or OFF. -/
def State.noteStrandsReady (s : State) : State :=
  let open_ := s.strands.any (fun x => x.hasSection && (x.state == .loading || x.state == .draining))
  if s.get Fld.IMG_STATE_PHASE = 7 ∧ !open_ then
    (s.set Fld.IMG_STATE_PHASE 8).set Fld.IMG_STRANDS_US (s.since s.img.startTick / 500)
  else s

/-- R209: a table of the key map has no live replica. -/
def State.keyMapDead (s : State) (i : Nat) : Bool :=
  (upto 64).any (fun sl => let m := s.keyMap i sl; bit m 0 && (s.liveBanks (bits m 1 6)).isEmpty)

/-- R26: the class that a Strand's section in a bank binds, where there is one. -/
def State.boundClass (s : State) (bank i : Nat) : Option Nat :=
  (s.findSection bank 3 i).map (fun x => sectionClass i (recordsOf (s.sectionBytes bank x)))

/-- R26: the Twin's section of the same bank binds another class, and the Twin is not in OFF. -/
def State.twinDiffers (s : State) (bank i cls : Nat) : Bool :=
  match s.boundClass bank (twinOf i) with
  | some c => c != cls && s.strandState (twinOf i) != .off
  | none => false

/-- A section whose checks pass comes into the Strand (R450). -/
def State.bindSection (s : State) (i bank : Nat) (recs : List (Nat × Nat)) : State :=
  let epoch := hdrEpoch (s.imgHeader bank)
  (s.applySection i recs).modStrand i (fun x =>
    { x with cls := sectionClass i recs, floor := recFloor (recordFor recs (0x30200 + 0x10 * i)), epoch := epoch,
             nextShares := some (sectionShareList i recs), loaded := true, bound := true, policyBad := false, fault := .none })

/-- R26: a mismatch sends the Strand, and its Twin where both are in LOADING, to OFF. -/
def State.twinMismatch (s : State) (i : Nat) : State :=
  let both := s.strandState (twinOf i) == .loading
  let s := s.strandOff i .twinMismatch
  if both then s.strandOff (twinOf i) .twinMismatch else s

/-- R26, R65, R209, R450, R463, R464, R667: the section of a Strand in LOADING has been read from its bank. -/
def State.loadSection (s : State) (i : Nat) : State :=
  let bank := (s.strand i).bank
  match s.findSection bank 3 i with
  | none => s.strandOff i .none
  | some x =>
    let bs := s.sectionBytes bank x
    let recs := recordsOf bs
    let cls := sectionClass i recs
    if sha384 bs != x.digest || bs.length % 8 != 0 || !(s.applySection i recs).sectionOk i recs then s.strandOff i .imgSection
    else if (s.strand i).bound && (s.strand i).cls != cls then s.strandOff i .classChange
    else if s.twinDiffers bank i cls then s.twinMismatch i
    else if !s.sharesFit i (sectionShareList i recs) then
      (s.strandOff i .shareOver).set Fld.TID_SAT_STATUS (s.get Fld.TID_SAT_STATUS ||| 32)
    else
      let s := s.bindSection i bank recs
      if s.keyMapDead i then s.strandOff i .vitNoBank else s

/-- STRAND_SECTION_LOAD: R455 step 11, R463, R476. Sections are taken in index order until STRANDS_READY (R83). -/
def execStrandSectionLoad (strand : Fin 32) (s : State) : Res :=
  let i := strand.val
  let earlier := s.get Fld.IMG_STATE_PHASE = 7 ∧ (upto i).any (fun j => s.strandState j == .loading && !(s.strand j).loaded)
  .next (if s.img.boot = .ready ∧ ¬s.stopped ∧ s.strandState i = .loading ∧ ¬(s.strand i).loaded ∧ ¬earlier then
    ({ s with img := { s.img with readRetries := Tab.del s.img.readRetries (2 + i) } }.loadSection i).noteStrandsReady
  else s)

/-- R327, R368: the Cove of a Strand with guard serving can serve. -/
def State.coveReady (s : State) (c : Nat) : Bool :=
  match s.currentOf .model (s.get (Fld.SRV_COVE_CFG_MODEL c)) with
  | none => false
  | some r =>
    let g := guardParams r.bytes
    let (ai, av) := (guardAut r.bytes).getD (0, 0)
    s.flag (Fld.SRV_COVE_CFG_EN c) && !r.bad && isGuard r.bytes && decide (kvBytesPerBlock g ≤ s.get (Fld.SRV_COVE_BLOCK_KIB c) * 1024)
      && !s.contentBad .automaton ai av
      && (s.get (Fld.SRV_COVE_SPEC_DRAFT_SRC c) != 2 || (sectId r.bytes 5 (s.get (Fld.SRV_COVE_SPEC_DRAFT_PROG c))).isSome)
      && (s.flag (Fld.SRV_COVE_SAMPLE_GREEDY c) || (sectId r.bytes 6 (s.get (Fld.SRV_COVE_SAMPLE_EXP_TABLE c))).isSome)

/-- Whether an item of content is resident and not BAD. -/
def State.itemGood (s : State) (k : ContentKind) (i : Nat) : Bool := ((s.currentOf k i).map (fun r => !r.bad)).getD false

/-- Every condition for a Strand to enter SERVING holds (R23, R37, R47, R99, R160, R209, R245, R280, R327, R368, Table 1-3). -/
def State.strandReady (s : State) (i : Nat) : Bool :=
  let c := (s.strand i).cls
  classValid s c && s.classSetsOk c
    && (upto 64).all (fun sl => let m := s.slotMap i sl; !bit m 0 || s.itemGood .vocabulary (bits m 1 4))
    && (upto 64).all (fun sl => let m := s.keyMap i sl; !bit m 0 || s.flag (Fld.VIT_TABLE_CFG_LEARN (bits m 1 6))
        || s.itemVersion .table (bits m 1 6) != 0)
    && (!s.flag (Fld.GTH_STRAND_CFG_EN i) || s.itemVersion .graph (s.graphOf i) != 0)
    && (s.modelList i).all (fun e => s.itemGood .model e.2)
    && (!s.flag (Fld.SRV_STRAND_GUARD_EN i) || s.coveReady (s.get (Fld.SRV_STRAND_GUARD_COVE i)))
    && !(s.strandItems i).any s.itemStale

/-- STRAND_ENTER_SERVING: R455 step 13, R209. The first Strand in SERVING starts the chains (R400). -/
def execStrandEnterServing (strand : Fin 32) (s : State) : Res :=
  let i := strand.val
  .next (if s.img.boot = .ready ∧ ¬s.stopped ∧ s.strandState i = .loading ∧ (s.strand i).loaded then
    if s.keyMapDead i then (s.strandOff i .vitNoBank).noteStrandsReady
    else if s.strandReady i then
      let s := if s.served then s else ({ s with served := true }).startChains
      (s.strandServe i).noteStrandsReady
    else s
  else s)

/-- STRAND_DRAIN_END: Table 1-3, R471. -/
def execStrandDrainEnd (strand : Fin 32) (s : State) : Res :=
  let i := strand.val
  .next (if s.strandState i = .draining ∧ ¬(s.strand i).stuck ∧ s.inside i = 0 ∧ ¬s.stopped then s.strandLoad i (s.strand i).bank else s)

/-- R471: the ticks within which a Strand's drain ends. -/
def State.drainBound (s : State) (i : Nat) : Nat :=
  let c := (s.strand i).cls
  let w := if s.flag (Fld.TID_CLASS_CTL_STREAMED c) then s.get (Fld.TID_CLASS_CLOSE_CLOSE_US c) else s.get (Fld.TID_CLASS_WIN_WIN_US c)
  w * 500 + s.get Fld.REL_MAX_SHIFT

/-- DRAIN_STUCK: Table 16-2. -/
def execDrainStuck (strand : Fin 32) (s : State) : Res :=
  let i := strand.val
  .next (if s.strandState i = .draining ∧ ¬(s.strand i).stuck ∧ s.drainBound i + 500000 ≤ s.since (s.strand i).since then
    (s.modStrand i (fun x => { x with stuck := true })).wedge i 0x0704
  else s)

/-- IMG_SWAP: R461, Table 12-14. `flags` is payload byte 9; `reserved` says that every other payload byte is 0. -/
def execImgSwap (q : Fin 16) (e : SqEntry) (strand : Fin 256) (flags : Byte) (reserved : Bool) (s : State) : Res :=
  let i := strand.val
  let force := flags.toNat % 2 == 1
  .next (s.sqCommand q.val e 0x40 (fun c s =>
    let b := s.forceBank
    let started := { s with img := { s.img with swaps := s.img.swaps ++ [(⟨c, i, true⟩ : Swap)] } }
    if !reserved || decide (1 < flags.toNat) || decide (31 < i) then s.imgRefuse c .illegalOp none b
    else if s.img.roll.isSome then s.imgRefuse c .illegalOp (some 0x11) b
    else if s.img.swaps.any (fun w => w.strand == i) then s.imgRefuse c .illegalOp none b
    else match s.strandState i with
      | .off => if s.isRetired .strand i then s.imgRefuse c .illegalOp none b else started.strandLoad i b
      | .serving =>
        if force then started.strandDrain i b true
        else if s.strandState (twinOf i) = .serving then started.strandDrain i b false
        else { s with img := { s.img with swaps := s.img.swaps ++ [(⟨c, i, false⟩ : Swap)] } }
      | _ => s.imgRefuse c .illegalOp none b))

/-- IMG_ROLL: R465. `bank`, `flags` and `wait` are payload bytes 8, 9 and 10 to 11. -/
def execImgRoll (q : Fin 16) (e : SqEntry) (bank : Fin 256) (flags : Byte) (wait : BitVec 16) (reserved : Bool) (s : State) : Res :=
  .next (s.sqCommand q.val e 0x41 (fun c s =>
    let b := bank.val % 2
    if !reserved || decide (1 < bank.val) || decide (1 < flags.toNat) || wait.toNat == 0 then s.imgRefuse c .illegalOp none b
    else if s.img.roll.isSome || !s.img.swaps.isEmpty then s.imgRefuse c .illegalOp (some 0x11) b
    else if b = s.forceBank ∨ hdrEpoch (s.imgHeader b) = hdrEpoch (s.imgHeader s.forceBank) then s.imgRefuse c .illegalOp none b
    else
      let g : Roll := ⟨c, b, flags.toNat % 2 == 1, wait.toNat, .verify, [], none, s.now, [], 0, 0⟩
      let s := ((s.set Fld.IMG_ROLL_STATE 1).set Fld.IMG_ROLL_TARGET b).set Fld.IMG_ROLL_DONE 0
      { s with img := { s.img with roll := some g } }))

/-- R465: a roll is refused after its verification. -/
def State.rollRefuse (s : State) (g : Roll) (code : Nat) : State :=
  let s := (({ s with img := { s.img with roll := none } }).set Fld.IMG_ROLL_STATE 5).imgFault code
  s.complete g.cmd Status.checkFailed.code (imgPayload s code g.target)

/-- R465: the sections other than STRAND, with their digests. -/
def State.commonSections (s : State) (b : Nat) : List (Nat × Bytes) :=
  sortBy (fun x y => decide (x.1 < y.1)) (((s.imgSections b).filter (fun x => x.type != 3)).map (fun x => (x.type, x.digest)))

/-- Strands with a section in a bank, one bit each. -/
def State.sectionMask (s : State) (b : Nat) : Nat :=
  sumBy ((upto 32).filter (fun i => (s.findSection b 3 i).isSome)) (fun i => 2 ^ i)

/-- ROLL_VERIFY_DONE: R465, R466. -/
def execRollVerifyDone (s : State) : Res :=
  .next (match s.img.roll with
    | none => s
    | some g =>
      if g.phase != .verify then s
      else
        let w := s.wellFormedFault g.target
        let f := if w = 0 then s.signatureFault g.target else w
        if f ≠ 0 then s.rollRefuse g f
        else if s.commonSections g.target != s.commonSections s.forceBank then s.rollRefuse g 0x0A
        else
          let mask := s.sectionMask g.target
          let both := mask ||| s.sectionMask s.forceBank
          let todo := (upto 32).filter (fun i => bit both i && s.strandState i != .retired && !s.isRetired .strand i)
          let s := ((s.set (Fld.IMG_BANK_EPOCH g.target) (hdrEpoch (s.imgHeader g.target))).set Fld.IMG_ROLL_STATE 2)
          s.rollNext { g with phase := .running, todo := todo, sections := mask, since := s.now })

/-- The bank that a roll's steps load from: the target, or the force bank in a revert (R466, R467). -/
def State.rollBank (s : State) (g : Roll) : Nat := if g.phase = .reverting then s.forceBank else g.target

/-- R466: the swap of Strand `t` begins. -/
def State.rollBegin (s : State) (g : Roll) (t : Nat) (forced : Bool) : State :=
  let s := { s with img := { s.img with roll := some { g with transit := some t } } }
  let s := s.set Fld.IMG_ROLL_STRAND t
  if s.strandState t = .serving then s.strandDrain t (s.rollBank g) forced else s.strandLoad t (s.rollBank g)

/-- The next Strand of a roll whose steps run; Strands retired meanwhile are passed over (R466). -/
def State.rollHead (s : State) : Option (Roll × List Nat) :=
  match s.img.roll with
  | some g => if g.phase != .verify && g.transit.isNone then some (g, g.todo.dropWhile (fun i => s.strandState i == .retired)) else none
  | none => none

/-- ROLL_STRAND_STEP: R466. -/
def execRollStrandStep (s : State) : Res :=
  .next (match s.rollHead with
    | none => s
    | some (g, []) => s.rollNext { g with todo := [] }
    | some (g, t :: rest) =>
      let st := s.strandState t
      if (st = .serving ∨ st = .off) ∧ s.strandState (twinOf t) = .serving ∧ ¬s.stopped then s.rollBegin { g with todo := t :: rest } t false else s)

/-- ROLL_WAIT_EXPIRY: R467, R468. In a revert, a Strand that is still in LOADING is read again from the force bank. -/
def execRollWaitExpiry (s : State) : Res :=
  .next (match s.rollHead with
    | some (g, t :: rest) =>
      let st := s.strandState t
      if s.since g.since < 500000 * g.waitMs ∨ s.stopped then s
      else if g.phase = .running ∧ ¬g.force then s.rollRevert 0x0D
      else if st = .serving ∨ st = .off ∨ (st = .loading ∧ g.phase = .reverting) then s.rollBegin { g with todo := t :: rest } t true
      else s
    | _ => s)

/-- STRAND_LOAD_TIMEOUT: R467. -/
def execStrandLoadTimeout (s : State) : Res :=
  .next (match s.img.roll with
    | some g =>
      match g.transit with
      | some t =>
        if g.phase = .running ∧ s.strandState t = .loading ∧ 5000000 ≤ s.since (s.strand t).since ∧ ¬s.stopped then s.rollRevert 0x0C else s
      | none => s
    | none => s)

/-- IMG_ABORT: R467, R469, Table 12-14. -/
def execImgAbort (q : Fin 16) (e : SqEntry) (reserved : Bool) (s : State) : Res :=
  .next (s.sqCommand q.val e 0x42 (fun c s =>
    let b := s.get Fld.IMG_ROLL_TARGET
    if !reserved then s.imgRefuse c .illegalOp none b
    else match s.img.roll with
      | none =>
        if s.get Fld.IMG_ROLL_STATE = 0 then s.imgRefuse c .illegalOp none b
        else s.complete c Status.alreadyComplete.code (imgPayload s 0 b)
      | some g =>
        if g.phase = .verify then
          let s := (({ s with img := { s.img with roll := none } }).set Fld.IMG_ROLL_STATE 6).imgFault 0x10
          let s := s.complete g.cmd Status.cancelled.code (imgPayload s 0x10 b)
          s.complete c Status.ok.code (imgPayload s 0 b)
        else
          let s := s.rollRevert 0x10
          s.complete c Status.ok.code (imgPayload s 0 b)))

end Sys2Proof.Machine
end

