-- ==== Sys2Proof/Machine/Boot.lean ====
section
/-!
DEFINITION. Power-up and the start-up sequence, from VAON to CMD_READY and the training of memory and of the PCIe link (R446 to
R457, R474, R520, R572, R583, R584, R595, R601, R603, R615, R634, R636, R639; Table 12-9).
-/
namespace Sys2Proof.Machine

/-- The device with everything back at reset but the tide counter, the NVM banks, and the model's own counters; `regs` is the register
file to start with, and completions of commands taken before are discarded. -/
def State.cold (s : State) (regs : RegFile) (img : Img) : State :=
  { State.reset with
    now := s.now, freeCtr := s.freeCtr, pending := s.pending, out := s.out, nvm := s.nvm, reg := regs, img := img,
    host := { HostIf.reset with gen := s.host.gen + 1 },
    pwr := { Power.reset with latch := s.pwr.latch } }

/-- Words kept of a register file. -/
def keepWords (keep : Nat → Bool) (r : RegFile) : RegFile := r.filter (fun e => keep e.1)

/-- R559, R572: words of the always-on domain: PLL_LOCKED, the sensors' readings, the pins of VDD_VID. -/
def aonWord (off : Nat) : Bool :=
  off == Fld.TID_TB_STATE_PLL_LOCKED.off || off == Fld.THM_MAX.off || off == Fld.PWR_VID.off
    || decide (0x140100 ≤ off ∧ off < 0x140218)

/-- PLL_LOCKED alone of TID_TB_STATE outlives a reset. -/
def State.keepLock (s : State) : State := (s.set Fld.TID_TB_STATE_SLEWING 0).set Fld.TID_TB_STATE_PPS_VALID 0

/-- A page program in flight completes on the always-on domain (R581); it is completed at once. -/
def State.finishProgram (s : State) (b : Nat) : State :=
  match (s.bank b).op with
  | some (.ledgerPage page) => s.ledgerPageDone b page false
  | some (.imagePage off data) => s.modBank b (fun k => { k with cells := programCells k.cells off data, op := none })
  | some (.recPage off data) => s.modBank b (fun k => { k with cells := programCells k.cells off data, op := none })
  | _ => s

/-- A page program cut off by a loss of VAON leaves bytes that nobody can predict; each bit has been cleared or not. -/
def State.cutProgram (s : State) (b : Nat) : State :=
  let cut := fun (s : State) (off : Nat) =>
    let (junk, s) := s.freeBytes 256
    s.modBank b (fun k => { k with cells := programCells k.cells off junk, op := none })
  match (s.bank b).op with
  | some (.ledgerPage page) => cut s (pageOff page)
  | some (.imagePage off _) => cut s off
  | some (.recPage off _) => cut s off
  | _ => s

/-- A phase of the start-up sequence. -/
def State.bootPhase (s : State) (b : BootStep) (phase : Nat) : State :=
  ({ s with img := { s.img with boot := b } }).set Fld.IMG_STATE_PHASE phase

/-- R475: BOOT_FAIL with its cause. -/
def State.bootFail (s : State) (cause : Nat) : State :=
  ((s.bootPhase .fail 15).set Fld.IMG_STATE_FAIL cause).imgFault cause

/-- VAON_RISE: R572. -/
def execVaonRise (s : State) : Res := .next (if s.img.vaon then s else { s with img := { s.img with vaon := true }, now := 0 })

/-- VAON_FALL: R572, R584. Every rail is lost with it. -/
def execVaonFall (s : State) : Res :=
  .next (if s.img.vaon then
    let s := ((s.cutProgram 0).cutProgram 1).stopErases
    let t := s.cold [] Img.reset
    { t with now := 0, pwr := Power.reset }
  else s)

/-- VIO_RISE: R636. -/
def execVioRise (s : State) : Res :=
  .next (if s.img.vaon && !s.img.vio then ({ s with img := { s.img with vio := true } }).driveVid 30 else s)

/-- TIDE_PLL_LOCK: R572; the PLL runs from step 8 of Table 12-9 on (Table 15-1). -/
def execTidePllLock (s : State) : Res :=
  .next (if s.img.boot = .memory ∨ s.img.boot = .ready then s.set Fld.TID_TB_STATE_PLL_LOCKED 1 else s)

/-- The straps as a word of GLB_STRAP (R632, R633). -/
def strapWord (node : BitVec 15) (smb : BitVec 3) (test : Bool) : Nat := 2 * node.toNat + 65536 * smb.toNat + 2 ^ 19 * b2n test

/-- PWR_OK_RISE: step 1 of Table 12-9, R632, R633, R584. -/
def execPwrOkRise (node : BitVec 15) (smb : BitVec 3) (test : Bool) (s : State) : Res :=
  .next (if s.img.vaon && s.img.vio && !s.img.pwrOk then
    let s := { s with img := { s.img with pwrOk := true, startTick := s.now } }
    let s := (s.setWord Fld.GLB_STRAP_NODE_ADDR.off (word (strapWord node smb test))).set Fld.HIF_SMB_ADDR (0x60 + smb.toNat)
    (s.set Fld.THM_STATE_TRIP_LAST s.pwr.latch).bootPhase .otp 0
  else s)

/-- PWR_OK_FALL: R639, R459, R583. -/
def execPwrOkFall (s : State) : Res :=
  .next (if s.img.pwrOk then
    let s := ((s.finishProgram 0).finishProgram 1).stopErases
    let released := s.pwr.tripped
    let t := (s.cold (keepWords aonWord s.reg) { Img.reset with vaon := true, vio := s.img.vio }).keepLock
    let t := if released then t.emit (.thermTrip false) else t
    t.driveVid 30
  else s)

/-- R583: the boot ROM waits until the junction maximum is below 100 °C. -/
def State.coolEnough (s : State) : Bool := decide (signed 16 (s.get Fld.THM_MAX) < 800)

/-- OTP_SENSED: step 2 of Table 12-9; R634 holds a part with TEST_EN high in phase OTP. -/
def execOtpSensed (otp : Otp) (s : State) : Res :=
  .next (if s.img.boot = .otp ∧ ¬s.flag Fld.GLB_STRAP_TEST_EN ∧ s.coolEnough then
    let s := { s with img := { s.img with otp := some otp } }
    let s := (upto 4).foldl (fun s i => s.set (Fld.GLB_DEVICE_ID i) (le otp.deviceId (4 * i) 4)) s
    let s := (s.set Fld.GLB_OTP_DEBUG_LOCK (b2n otp.debugLock)).set Fld.GLB_OTP_EC_REVOKED otp.ecRevoked
    let s := (upto 3).foldl (fun s p => s.setWord (Fld.INT_TS_DLY_RX_DLY_PS p).off (word (otp.pathDelays.getD p 0))) s
    (s.set Fld.GLB_OTP_ML_REVOKED otp.mlRevoked).bootPhase .trim 1
  else s)

/-- R454, Table 15-5: the trim block of a bank, where its check word is correct. -/
def State.trimBlock (s : State) (b : Nat) : Option Bytes :=
  let t := s.nvmRead b 0x20000000 6324
  if !bit s.img.dead b && le t 6320 4 == crc32c (s.window 0x10 16 ++ t.take 6320) then some t else none

/-- TRIM_CHECK: step 3 of Table 12-9, R454, R568. -/
def execTrimCheck (s : State) : Res :=
  .next (if s.img.boot = .trim then
    let t := match s.trimBlock 0 with
      | some t => some t
      | none => s.trimBlock 1
    match t with
    | none => s.bootFail 0x0E
    | some t =>
      let s := ({ s with pwr := { s.pwr with trims := some t } }).bootPhase .select 2
      s.driveVid (s.vidOf 0)
  else s)

/-- R452: the preferred bank. -/
def State.preferredBank (s : State) : Nat :=
  match s.led.force.select with
  | some b => b
  | none =>
    let ok := fun b => headerOk (s.imgHeader b) && !bit s.img.dead b
    if ok 1 && (!ok 0 || decide (hdrEpoch (s.imgHeader 0) < hdrEpoch (s.imgHeader 1))) then 1 else 0

/-- State codes of a bank (Table 12-15). -/
inductive BankState where
  | blank
  | programming
  | valid
  | invalid
  | unchecked
  deriving DecidableEq, Repr

/-- The code of a bank's state. -/
def bankCode : BankState → Nat
  | .blank => 0
  | .programming => 1
  | .valid => 2
  | .invalid => 3
  | .unchecked => 4

/-- A bank's state. -/
def State.setBankState (s : State) (b : Nat) (x : BankState) : State := s.set (Fld.IMG_BANK_STATE b) (bankCode x)

/-- Whether a bank's image slot is blank. -/
def State.slotBlank (s : State) (b : Nat) : Bool := blankCells (s.bank b).cells 0 0x20000000

/-- IMG_BANK of a bank after its header has been read. -/
def State.noteHeader (s : State) (b : Nat) : State :=
  let s := s.set (Fld.IMG_BANK_EPOCH b) (if headerOk (s.imgHeader b) then hdrEpoch (s.imgHeader b) else 0)
  let armed := if b = 0 then s.led.force.armedA else s.led.force.armedB
  (s.set (Fld.IMG_BANK_ARMED b) (b2n armed)).setBankState b (if s.slotBlank b then .blank else .unchecked)

/-- R603: a unit recorded as retired starts retired. -/
def State.startRetired (s : State) : State :=
  (upto 32).foldl (fun s i =>
    if s.isRetired .strand i then s.modStrand i (fun x => { x with state := .retired, fault := .retired, since := s.now }) else s) s

/-- IMAGE_HEADERS_READ: step 4 of Table 12-9, R452, R603, R608. -/
def execImageHeadersRead (s : State) : Res :=
  .next (if s.img.boot = .select then
    let s := s.ledgerScan.startRetired
    let s := (s.noteHeader 0).noteHeader 1
    let b := s.preferredBank
    let s := (s.set Fld.IMG_NEXT_FROM_REC (b2n s.led.force.select.isSome)).set Fld.IMG_NEXT_BANK b
    ({ s with img := { s.img with bank := b, retried := false } }).bootPhase .stream 3
  else s)

/-- R453, R474: the bank being tried fails with an image fault: the other bank is tried, or start ends in BOOT_FAIL. -/
def State.tryOther (s : State) (fault : Nat) : State :=
  let s := (s.setBankState s.img.bank .invalid).imgFault fault
  if s.img.retried then s.bootFail fault
  else ({ s with img := { s.img with bank := 1 - s.img.bank, retried := true } }).bootPhase .stream 3

/-- IMAGE_STREAM_DONE: step 5 of Table 12-9, R446. -/
def execImageStreamDone (s : State) : Res :=
  .next (if s.img.boot = .stream then
    let f := s.wellFormedFault s.img.bank
    if f = 0 then ({ s with img := { s.img with readRetries := [] } }).bootPhase .sign 4 else s.tryOther f
  else s)

/-- SIGNATURE_CHECK_DONE: step 6 of Table 12-9, R447. -/
def execSignatureCheckDone (s : State) : Res :=
  .next (if s.img.boot = .sign then
    let f := s.signatureFault s.img.bank
    if f = 0 then ({ s with img := { s.img with sigTick := s.now } }).bootPhase .global 5 else s.tryOther f
  else s)

/-- R451, R601: the live HBM, in MiB. -/
def State.liveHbm (s : State) : Nat := 205993 * ((upto 384).filter (fun i => !s.isRetired .pseudoChannel i)).length / 384

/-- R495, R496: step 10 of Table 12-9: the ports leave DOWN. -/
def State.openPorts (s : State) : State :=
  (upto 6).foldl (fun s q =>
    if (manPartner s.man s.node q).isNone then s.enterPort q .unused else s.enterPort q (s.trainState q)) s

/-- R517, R520, R554: the manifest is checked and the fabric takes its place from it. A bad manifest leaves the device in SINGLE mode;
which entry failed first is not given (log entry 3). -/
def State.applyManifest (s : State) (b : Nat) : State :=
  let m := match s.findSection b 4 0 with
    | some x => s.sectionBytes b x
    | none => []
  let a := manAddress m (s.window 0x10 16) (s.get Fld.GLB_STRAP_NODE_ADDR * 2)
  let epoch := le (s.imgHeader b) 8 2
  let s := s.set Fld.IMG_EPOCH_MANIFEST epoch
  if manifestOk m epoch a then
    let s := { s with fab := { s.fab with manifest := m, manifestDig := sha384 m } }
    let s := ((s.set Fld.FAB_STATE_NODE a).set Fld.FAB_STATE_MODE (manMode m)).set Fld.FAB_ORIGIN (manOrigin m)
    let s := s.set Fld.FAB_STATE_ORIGIN (b2n (manOrigin m == a))
    let n := stackSize m a
    let s := (s.set Fld.STK_CFG_SIZE n).set Fld.STK_CFG_POS (nodePos a)
    (s.set Fld.STK_CFG_HEADLAND (b2n (nodePos a == 0 && decide (2 ≤ n)))).checkPeers
  else
    let (entry, s) := s.free 32
    let s := (s.set Fld.FAB_STATE_NODE (s.get Fld.GLB_STRAP_NODE_ADDR * 2)).set Fld.FAB_STATE_MANIFEST_BAD 1
    ((s.event 0x0089 0 [entry]).wedge 0xFFFF 0x0903).checkPeers

/-- R615: the units whose arrays failed memory BIST are retired. -/
def State.bistResult (s : State) (failed : List UnitId) : State :=
  let map := failed.foldl (fun f u => forceRetire f u.kind u.index) InForce.empty
  let bs := forceBytes map
  let s := (upto 19).foldl (fun s i => s.set (Fld.TST_BIST_FAIL i) (le bs (4 * i) 4)) s
  let s := (s.set Fld.TST_BIST_STATE_RAN 1).set Fld.TST_BIST_STATE_PASS (b2n failed.isEmpty)
  failed.foldl (fun s u => s.retireUnit u 0x0404 1) s

/-- R107, R451: sizes that follow from the regions of HBM: hold cells, the Tap queue, the Accession buffer, staging. -/
def State.regionSizes (s : State) : State :=
  let mib := fun k => s.get (Fld.IMG_HBM_REGION k)
  let s := (s.set Fld.INT_HOLD_CELLS (mib 0 * 4096)).set Fld.REL_TAP_Q_SIZE (min (mib 6 * 2 ^ 20) (2 ^ 32 - 1))
  (s.set Fld.VRD_BUF_SIZE (mib 5)).set Fld.HIF_STAGE_MIB (mib 4)

/-- The start goes on from bank `b`, whose GLOBAL section is in place and locked. -/
def State.startFrom (s : State) (b : Nat) : State :=
  let s := (s.regionSizes.setBankState b .valid).set Fld.GLB_LOCK 1
  let s := (s.set Fld.IMG_STATE_START_BANK b).set Fld.IMG_STATE_FORCE_BANK b
  let s := s.set Fld.IMG_EPOCH_IMAGE (hdrEpoch (s.imgHeader b))
  let mask := s.sectionMask b
  let s := { s with strands := s.strands.mapIdx (fun i (x : Strand) => { x with hasSection := bit mask i }) }
  let s := s.set Fld.IMG_STRAND_SECT mask
  let cert := (s.findSection b 5 0).map (s.sectionBytes b)
  let s := { s with acc := { s.acc with sealKey := (cert.map Config.sealLeaf).getD false } }
  let s := if s.img.retried then (s.ledgerRecord 7 (toLe 2 0x0901 ++ toLe 2 0xFFFF ++ zeros 64)).2 else s
  ((s.applyManifest b).openPorts).bootPhase .memory 6

/-- GLOBAL_APPLY: step 7 of Table 12-9, R448, R449, R451, R453, R595, R615, R667. `failed` and `curatorBad` are what memory BIST found,
where this start runs it. -/
def execGlobalApply (failed : List UnitId) (curatorBad : Bool) (s : State) : Res :=
  .next (if s.img.boot = .global then
    let b := s.img.bank
    match s.globalCheck b with
    | none => s.tryOther 0x09
    | some g =>
      let g := if g.img.bist then g.bistResult failed else g
      if g.img.bist && curatorBad then g.bootFail 0x12
      else if !g.partitionOk g.liveHbm then g.bootFail 0x12
      else g.startFrom b
  else s)

/-- CMD_READY: step 11 of Table 12-9. Strands with a section enter LOADING. -/
def State.commandsReady (s : State) : State :=
  let s := (s.set Fld.HIF_STATUS_CMD_READY 1).bootPhase .ready 7
  let s := s.set Fld.IMG_CMDREADY_US (s.since s.img.startTick / 500)
  let s := { s with img := { s.img with hbmDone := true }, fab := { s.fab with catalog := some s.now } }
  let b := s.forceBank
  let s := (upto 32).foldl (fun s i => if (s.strand i).hasSection && s.strandState i == .off then s.strandLoad i b else s) s
  s.noteStrandsReady

/-- DDR_TRAINING_DONE: step 9 of Table 12-9, R457. What the DIMMs' hubs say: `populated` channels, whether their modules are
`identical`, the rate code and size of a module; `failed` channels failed both attempts. -/
def execDdrTrainingDone (populated failed : BitVec 4) (identical : Bool) (rate : Fin 4) (size16 : Fin 256) (s : State) : Res :=
  .next (if (s.img.boot = .memory ∨ s.img.boot = .ready) ∧ ¬s.img.ddrDone then
    let bad := (upto 4).filter (fun i => bit populated.toNat i && bit failed.toNat i)
    let s := bad.foldl (fun s i => s.retireUnit ⟨.ddr, i⟩ 0x0303 2) s
    let live := (upto 4).filter (fun i => bit populated.toNat i && !s.isRetired .ddr i)
    let differs := populated.toNat != s.get Fld.IMG_DDR_EXPECT_CHANNELS || rate.val != s.get Fld.IMG_DDR_EXPECT_RATE
      || size16.val != s.get Fld.IMG_DDR_EXPECT_SIZE16
    let s := { s with img := { s.img with ddrDone := true } }
    if !identical || differs || live.isEmpty then (upto 8).foldl (fun s c => s.set (Fld.SRV_PAUSE_CTL_ARCH_EN c) 0) s
    else s.set Fld.SRV_ARCH_SIZE (live.length * size16.val * 16384)
  else s)

/-- PCIE_PERST_DEASSERT: R456. -/
def execPciePerstDeassert (s : State) : Res :=
  .next (if s.img.perst then s else { s with img := { s.img with perst := true, perstTick := s.now } })

/-- R622: a test control is set on a PCIe lane. -/
def State.pcieTested (s : State) : Bool :=
  (upto 16).any (fun i => (s.regWord (Fld.TST_LANE_CTL_GEN_EN (19 + i)).off).toNat &&& 0xC3 != 0)

/-- PCIE_LINK_UP: R456, R600, Table 11-2. -/
def execPcieLinkUp (rate : Fin 6) (width : Fin 17) (flit : Bool) (s : State) : Res :=
  .next (if s.img.perst && s.pwr.trims.isSome && !s.flag Fld.HIF_STATUS_LINK_UP && !s.pcieTested then
    let s := (s.set Fld.HIF_STATUS_LINK_UP 1).set Fld.HIF_STATUS_RATE rate.val
    let s := (s.set Fld.HIF_STATUS_WIDTH (min width.val s.pcieLanes)).set Fld.HIF_STATUS_FLIT (b2n flit)
    s.set Fld.HIF_STATUS_BELOW_MIN (b2n (decide (rate.val < 3)))
  else s)

/-- CONFIG_SPACE_READY: R456. -/
def execConfigSpaceReady (s : State) : Res :=
  .next (if s.img.pwrOk && s.img.perst then { s with host := { s.host with configReady := true } } else s)

end Sys2Proof.Machine
end

