-- ==== Sys2Proof/Machine/FabricCmds.lean ====
section
/-!
DEFINITION. The fabric's own commands: acknowledgements, echoes, rates, resends, escapes, Causeways (R525, R532 to R541).
-/
namespace Sys2Proof.Machine

/-- A flow changed, its credit first brought up to now (R536). -/
def State.modFlow (s : State) (node : Nat) (g : Flow → Flow) : State :=
  { s with fab := { s.fab with flows := mapWhere s.fab.flows (fun f => f.node == node) (fun f =>
      g { f with credit := s.flowCredit f, creditTick := s.now }) } }

/-- R532: an ACK packet: the packet that it names is acknowledged. -/
def execAck (s : State) : Res :=
  .next (match s.nextPacket 0x0C with
    | none => s
    | some (p, s) =>
      ({ s with fab := { s.fab with unacked := s.fab.unacked.filter (fun u => !(u.packet.msgId == le p.payload 0 4 && u.packet.dest == p.src))
                                    outbox := s.fab.outbox.filter (fun o => !(o.msgId == le p.payload 0 4 && o.dest == p.src)) } }).pump)

/-- R81, R537: an ECHO packet. -/
def execEcho (s : State) : Res :=
  .next (match s.nextPacket 0x0D with
    | none => s
    | some (p, s) =>
      let gap := 500 * s.get Fld.FAB_RATE_B_DEC_GAP_US
      match s.flow? p.src with
      | none => s
      | some f =>
        if (match f.lastDec with
          | some t => Nat.ble gap (s.since t)
          | none => true) then
          let rate := max (s.get Fld.FAB_RATE_A_R_MIN) (f.rate * (16 - s.get Fld.FAB_RATE_A_MD) / 16)
          ((s.modFlow f.node (fun f => { f with rate := rate, lastDec := some s.now, incTick := s.now })).setBits Fld.TID_SAT_STATUS 8).count
            Fld.FAB_RATE_DEC_CNT
        else s)

/-- R537: INC_US µs without a decrease. -/
def execRateIncrease (node : BitVec 16) (s : State) : Res :=
  .next (match s.flow? node.toNat with
    | none => s
    | some f =>
      if 500 * s.get Fld.FAB_RATE_B_INC_US ≤ s.since f.incTick then
        let rate := min (s.get Fld.FAB_RATE_A_R_MAX) (f.rate + s.get Fld.FAB_RATE_A_AI)
        s.modFlow f.node (fun f => { f with rate := rate, incTick := s.now })
      else s)

/-- R536: a flow that has sent nothing for 1 ms is freed. -/
def execFlowIdle (node : BitVec 16) (s : State) : Res :=
  .next (match s.flow? node.toNat with
    | none => s
    | some f =>
      if 500000 ≤ s.since f.lastSend then
        ({ s with fab := { s.fab with flows := s.fab.flows.filter (fun g => g.node != f.node) } }).pump
      else s)

/-- R525: the head of a packet that waits at this node, the `index`-th, has waited ESC_WAIT_NS with no eligible port. -/
def execEscapeTimeout (index : Nat) (s : State) : Res :=
  .next (match s.fab.transits[index]? with
    | none => s
    | some t =>
      if s.get Fld.FAB_ESC ≤ 2 * s.since t.since then
        let s := { s with fab := { s.fab with transits := s.fab.transits.take index ++ s.fab.transits.drop (index + 1) } }
        match s.routeOne t with
        | some s => s
        | none => s.routeEscape (escaped t)
      else s)

/-- R532, R365, R555: what owns a packet that has failed, fails: a move to a peer leaves the request in HBM, a fetch ends it
EXPIRED. -/
def State.packetFailed (s : State) (p : Packet) : State :=
  match s.srv.archive.find? (fun e => e.remote && e.owner.isNone && e.reqId == p.xfer) with
  | none => s
  | some e =>
    match s.entryRequest e.key with
    | none => s
    | some r =>
      match r.place with
      | .moving _ => if p.ptype = 8 then (s.dropEntry e.key).modRequest r.slot (fun r => { r with place := .hbm }) else s
      | .reading _ _ => if p.ptype = 9 then (s.dropEntry e.key).doomRequest r.slot 9 else s
      | _ => s

/-- R532: no ACK 200 µs after a packet's last send: it is sent again, or has failed. -/
def execE2eResendTimeout (msgId : Word) (s : State) : Res :=
  .next (match s.fab.unacked.find? (fun u => u.packet.msgId == msgId.toNat) with
    | none => s
    | some u =>
      let p := u.packet
      if s.since u.sent < 100000 then s
      else if u.tries < 3 then
        let s := { s with fab := { s.fab with
          unacked := mapWhere s.fab.unacked (fun x => x.packet.msgId == p.msgId) (fun x => { x with sent := s.now, tries := x.tries + 1 })
          outbox := if s.fab.outbox.any (fun o => o.msgId == p.msgId) then s.fab.outbox else s.fab.outbox ++ [p] } }
        (s.count Fld.FAB_E2E_RETRY_CNT).pump
      else
        let s := { s with fab := { s.fab with unacked := s.fab.unacked.filter (fun x => x.packet.msgId != p.msgId)
                                              outbox := s.fab.outbox.filter (fun o => o.msgId != p.msgId) } }
        (((s.count Fld.FAB_E2E_FAIL_CNT).event 0x008A p.ptype [p.dest, p.msgId]).packetFailed p).pump)

/-- A Causeway at this node. -/
def State.causeway (s : State) (k : Nat) : Causeway := Tab.getD s.fab.causeways k Causeway.reset

/-- A Causeway changed. -/
def State.setCauseway (s : State) (k : Nat) (c : Causeway) : State :=
  { s with fab := { s.fab with causeways := Tab.putD Causeway.reset s.fab.causeways k c } }

/-- The manifest's entry of a Causeway. -/
def State.cwEntry (s : State) (k : Nat) : Option Bytes := (manCauseways s.man).find? (fun e => byteAt e 0 == k)

/-- The node after this one on a Causeway's path. -/
def State.cwNext (s : State) (e : Bytes) : Option Nat :=
  (((cwPath s.man e).getD []).dropWhile (fun a => a != s.node))[1]?

/-- R541: this node arms its slots and sends the setup to the next node, where its outbound port is UP. -/
def State.armCauseway (s : State) (e : Bytes) : State :=
  let k := byteAt e 0
  match s.cwNext e with
  | none => s
  | some a =>
    if s.portIsUp (byteAt e 4) then
      (s.setCauseway k { s.causeway k with armed := true }).sendPacket (newPacket 0x0E a (byteAt e 1) 0 0 [byte k, 0, 0, 0])
    else s

/-- R541: the setup of a Causeway from this node, every 100 ms while it is not OPEN. -/
def execCwSetupRetry (causeway : Fin 64) (s : State) : Res :=
  let k := causeway.val
  let c := s.causeway k
  .next (match s.cwEntry k with
    | none => s
    | some e =>
      if s.inFabric && !s.stopped && le e 2 2 == s.node && c.state != 2 && (c.state == 0 || Nat.ble 50000000 (s.since c.setup))
        && s.portIsUp (byteAt e 4) then
        (s.setCauseway k { c with state := 1, setup := s.now }).armCauseway e
      else s)

/-- R541: a CW_SETUP packet. -/
def execCwSetup (s : State) : Res :=
  .next (match s.nextPacket 0x0E with
    | none => s
    | some (p, s) =>
      match s.cwEntry (byteAt p.payload 0) with
      | none => s
      | some e =>
        if ((cwPath s.man e).getD []).getLast? = some s.node then
          s.sendPacket (newPacket 0x0F (le e 2 2) (byteAt e 1) 0 0 [p.payload.getD 0 0, 0, 0, 0])
        else s.armCauseway e)

/-- R541: a CW_CONFIRM packet at the source. -/
def execCwConfirm (s : State) : Res :=
  .next (match s.nextPacket 0x0F with
    | none => s
    | some (p, s) =>
      let k := byteAt p.payload 0
      let c := s.causeway k
      if c.state = 1 then (s.setCauseway k { c with state := 2 }).event 0x0082 k [] else s)

/-- R541: a CW_DOWN packet at the source. -/
def execCwDown (s : State) : Res :=
  .next (match s.nextPacket 0x10 with
    | none => s
    | some (p, s) =>
      let k := byteAt p.payload 0
      let c := s.causeway k
      if c.state = 1 ∨ c.state = 2 then (s.setCauseway k { c with state := 3 }).event 0x0083 k [p.src] else s)

end Sys2Proof.Machine
end

