-- ==== Sys2Proof/Machine/Resets.lean ====
section
/-!
DEFINITION. Full resets: their triggers, the quiesce, what they keep (R611 to R616, Table 16-9).
-/
namespace Sys2Proof.Machine

/-- R612: words that a full reset keeps beside those of the always-on domain. -/
def resetWord (off : Nat) : Bool :=
  aonWord off || off == Fld.HIF_STATUS_LINK_UP.off || off == Fld.GLB_STRAP_NODE_ADDR.off || off == Fld.HIF_SMB_ADDR.off
    || off == Fld.FLT_RESET_COUNT.off || off == Fld.FLT_LAST_RESET_CAUSE.off || off == Fld.FLT_QUIESCE_DROP_CNT.off

/-- The image state with which start resumes at step 2 (R613). -/
def State.resumeImg (s : State) (bist : Bool) : Img :=
  { Img.reset with vaon := true, vio := true, pwrOk := true, boot := .otp, startTick := s.now, perst := s.img.perst,
                   perstTick := s.img.perstTick, bist := bist }

/-- Start resumes at step 2 of Table 12-9, with everything cleared that R612 does not keep. -/
def State.resume (s : State) (bist : Bool) : State :=
  let t := (s.cold (keepWords resetWord s.reg) (s.resumeImg bist)).keepLock
  let t := { t with host := { t.host with configReady := s.host.configReady }, tap := s.tap }
  let t := { t with mgmt := { t.mgmt with ideKeys := s.mgmt.ideKeys, ideSet := s.mgmt.ideSet } }
  let t := (t.set Fld.HIF_STATUS_CMD_READY 0).set Fld.HIF_STATUS_D3HOT 0
  t.set Fld.THM_STATE_TRIP_LAST s.pwr.latch

/-- The reset itself (R612, R613 step 7). -/
def State.performReset (s : State) (r : FullReset) : State :=
  let t := s.resume r.bist
  ((t.set Fld.FLT_LAST_RESET_CAUSE r.cause).set Fld.FLT_LAST_RESET_FORCED (b2n r.forced)).set Fld.FLT_LAST_RESET_BIST (b2n r.bist)

/-- R613 step 6: once the RESET record is programmed and no NVM operation is in flight, the reset happens. Where no page has been
erased since the last reset, the record cannot be programmed, and the reset does not wait for it. -/
def State.resetGo (s : State) : State :=
  match s.rst with
  | none => s
  | some r =>
    let waits := match r.seq with
      | some n => s.led.ready && (s.led.queue.any (fun q => q.seq == n) || ((s.led.program.map (fun g => g.record.seq == n)).getD false))
      | none => false
    if r.step == .record && !waits && (s.bank 0).op.isNone && (s.bank 1).op.isNone then s.performReset r else s

/-- R613 step 6: the RESET record is queued (Table 16-7). -/
def State.recordReset (s : State) (r : FullReset) : State :=
  let (n, s) := s.ledgerRecord 8 [byte r.cause, byte (b2n r.forced), byte (b2n r.bist)]
  ({ s with rst := some { r with step := .record, since := s.now, seq := some n } }).resetGo

/-- R611, R614: a forced reset is triggered. After a trip the device restarts only through its power-up sequence (R583). -/
def State.forceReset (s : State) (cause : Nat) (bist : Bool) : State :=
  if s.img.pwrOk && !s.pwr.tripped then
    match s.rst with
    | some r => if r.step = .record then s else s.stopPath.recordReset { r with cause := cause, forced := true }
    | none => s.stopPath.recordReset ⟨.record, s.now, cause, true, bist, none⟩
  else s

/-- R613 step 1: the quiesce begins. -/
def State.startQuiesce (s : State) (bist : Bool) : State :=
  let s := s.set Fld.FLT_STATE_QUIESCING 1
  let s := { s with srv := { s.srv with requests := s.srv.requests.map (cancelRequest ⟨4, s.now, none⟩) } }
  { s with rst := some ⟨.frames, s.now, 1, false, bist, none⟩ }

/-- R611, R613, R614, R615: a write of 1 to GO. The key must have been written at most 1 ms before. -/
def State.resetGoWrite (s : State) (forced bist : Bool) : State :=
  match s.resetKey with
  | none => s
  | some t =>
    let s := { s with resetKey := none }
    if s.since t ≤ 500000 then
      (if forced then s.forceReset 1 bist
       else if s.rst.isSome || !s.img.pwrOk || s.pwr.tripped then s else s.startQuiesce bist)
    else s

/-- FULL_RESET_GO: R611, R613, R614, R615. -/
def execFullResetGo (forced bist : Bool) (s : State) : Res := .next (s.resetGoWrite forced bist)

/-- SYS_RESET: R611. -/
def execSysReset (s : State) : Res := .next (s.forceReset 2 false)

/-- CURATOR_WDT: R611, Table 16-2. -/
def execCuratorWdt (s : State) : Res :=
  .next (if s.img.boot = .memory ∨ s.img.boot = .ready then
    let s := s.wedge 0xFFFF 0x0703
    if s.flag Fld.FLT_CTL_WDT_EN then s.forceReset 3 false else s
  else s)

/-- QUIESCE_FRAMES_DONE: R613 step 2. -/
def execQuiesceFramesDone (s : State) : Res :=
  .next (match s.rst with
    | some r =>
      if r.step = .frames ∧ s.frames.all (fun f => !f.kind.timed) ∧ ¬s.stopped then
        { s with rst := some { r with step := .guard, since := s.now }, frames := [] }
      else s
    | none => s)

/-- Every request has ended and its records are posted. -/
def State.guardQuiet (s : State) : Bool :=
  s.srv.requests.all (fun r => r.state == .ended) && s.srv.coves.all (fun e => e.2.records.isEmpty)

/-- QUIESCE_GUARD_DONE: R613 steps 3 and 4. -/
def execQuiesceGuardDone (s : State) : Res :=
  .next (match s.rst with
    | some r =>
      if r.step = .guard ∧ (s.guardQuiet ∨ 5000000 ≤ s.since r.since) ∧ ¬s.stopped then
        let s := { s with srv := { s.srv with requests := [] } }
        let s := (upto 33).foldl (fun s ch => if (s.chain ch).started then s.sealChain ch else s) s
        { s with rst := some { r with step := .drain, since := s.now } }
      else s
    | none => s)

/-- QUIESCE_DRAIN_DONE: R613 steps 5 and 6. -/
def execQuiesceDrainDone (s : State) : Res :=
  .next (match s.rst with
    | some r =>
      if r.step = .drain ∧ (s.acc.buffer.isEmpty ∨ s.get Fld.FLT_CTL_DRAIN_MS * 500000 ≤ s.since r.since) ∧ ¬s.stopped then
        ({ s with acc := { s.acc with buffer := [] } }).recordReset r
      else s
    | none => s)

end Sys2Proof.Machine
end

