-- ==== Sys2Proof/Machine/NvmCmds.lean ====
section
/-!
DEFINITION. What runs on the NVM banks: page programs and sector erases that end, housekeeping, bank verification, the image commands
of the submission ring, recovery (R443 to R445, R455, R458 to R460, R474, R475, R584, R604, R609, R610).
-/
namespace Sys2Proof.Machine

/-- A new operation may start on a bank: none runs there, and no trip, test mode or reset stands in the way (R580, R624). -/
def State.nvmFree (s : State) (b : Nat) : Bool := (s.bank b).op.isNone && !s.stopped && !s.pwr.tripped && s.rst.isNone

/-- R609: the ledger sectors that must be erased so that two erased sectors follow the newest one: bank and offset. -/
def State.ledgerErases (s : State) : List (Nat × Nat) :=
  let first := s.led.nextPage / 256
  ([first, (first + 1) % 256].flatMap (fun sec => [(0, ledgerBase + 65536 * sec), (1, ledgerBase + 65536 * sec)])).filter
    (fun e => !blankCells (s.bank e.1).cells e.2 65536)

/-- The bank that the device did not start from. -/
def State.otherBank (s : State) : Nat := 1 - s.get Fld.IMG_STATE_START_BANK

/-- Sectors of a bank's image slot that are not blank. -/
def State.slotSectors (s : State) (b : Nat) : List Nat :=
  ((upto 8192).map (fun i => 65536 * i)).filter (fun off => !blankCells (s.bank b).cells off 65536)

/-- An erase starts. -/
def State.startErase (s : State) (b off : Nat) : State :=
  if s.nvmFree b then s.modBank b (fun k => { k with op := some (.erase off false) }) else s

/-- Housekeeping's place. -/
def State.setHk (s : State) (h : HkStep) : State := { s with img := { s.img with hk := h } }

/-- R609: a page has been erased: what the ledger holds is written. -/
def State.ledgerOpen (s : State) : State :=
  let s := { s with led := { s.led with ready := true } }
  let s := if s.pwr.latch = 0 then s else s.event 0x007A 0 [s.pwr.latch]
  s.ledgerGo

/-- Housekeeping ends: R458. An armed bank whose erase is complete gets a BANK_ERASED record (R459). -/
def State.hkEnd (s : State) : State :=
  let b := s.otherBank
  let s := if s.flag (Fld.IMG_BANK_ARMED b) then ((s.ledgerRecord 5 [byte b]).2).set (Fld.IMG_BANK_ARMED b) 0 else s
  let s := if s.slotBlank b then s.setBankState b .blank else s
  (s.setHk .done).set Fld.IMG_STATE_HK_DONE 1

/-- Housekeeping step 3, or the end where there is nothing to erase. -/
def State.hkErase (s : State) : List Nat → State
  | [] => s.hkEnd
  | off :: rest => (s.setHk (.erase (off :: rest))).startErase s.otherBank off

/-- Housekeeping step 3: the other bank's slot is erased when it is armed or its image is invalid. -/
def State.hkSlot (s : State) : State :=
  let b := s.otherBank
  let erase := s.flag (Fld.IMG_BANK_ARMED b) || s.get (Fld.IMG_BANK_STATE b) == bankCode .invalid
  s.hkErase (if erase then s.slotSectors b else [])

/-- Housekeeping step 2: the other bank is verified unless it is blank. -/
def State.hkVerify (s : State) : State :=
  let b := s.otherBank
  if s.get (Fld.IMG_BANK_STATE b) = bankCode .blank then s.hkSlot
  else { s.setHk .verify with img := { s.img with hk := .verify, verifies := s.img.verifies ++ [(⟨b, .housekeeping⟩ : Verify)] } }

/-- Housekeeping step 1: the ledger's sectors. -/
def State.hkLedger (s : State) : List (Nat × Nat) → State
  | [] => s.ledgerOpen.hkVerify
  | e :: rest => (s.setHk (.ledger (e :: rest))).startErase e.1 e.2

/-- Housekeeping goes on where it waited for a bank. -/
def State.hkGo (s : State) : State :=
  if s.img.boot != .ready then s
  else match s.img.hk with
    | .ledger ((b, off) :: _) => s.startErase b off
    | .erase (off :: _) => s.startErase s.otherBank off
    | _ => s

/-- The next page of the IMG_PROGRAM commands of a bank is programmed. -/
def State.progGo (s : State) (b : Nat) : State :=
  if s.nvmFree b then
    match s.img.progs.find? (fun p => p.bank == b) with
    | some p =>
      match p.pages with
      | (off, data) :: _ => s.modBank b (fun k => { k with op := some (.imagePage off data) })
      | [] => s
    | none => s
  else s

/-- A bank has become free: records, image pages, erases that wait, and a reset that waits (R613). -/
def State.nvmGo (s : State) : State := ((((s.ledgerGo).progGo 0).progGo 1).hkGo).resetGo

/-- HBM_TRAINING_DONE: steps 8 and 11 of Table 12-9; `failed` pseudo-channels are retired (Table 16-2). -/
def execHbmTrainingDone (failed : List (Fin 384)) (s : State) : Res :=
  .next (if s.img.boot = .memory ∧ s.flag Fld.TID_TB_STATE_PLL_LOCKED then
    let s := failed.foldl (fun s i => s.retireUnit ⟨.pseudoChannel, i.val⟩ 0x0203 1) s
    let s := s.commandsReady
    s.hkLedger s.ledgerErases
  else s)

/-- SECTOR_ERASE_DONE: R458, R459, R475. -/
def execSectorEraseDone (bank : Fin 2) (s : State) : Res :=
  let b := bank.val
  .next (match (s.bank b).op with
    | some (.erase off recovery) =>
      let s := s.modBank b (fun k => { k with cells := eraseCells k.cells off 65536, op := none })
      if recovery then ((s.set Fld.IMG_REC_STATUS_BUSY 0).set Fld.IMG_REC_STATUS_FAILED 0).nvmGo
      else match s.img.hk with
        | .ledger todo => (s.hkLedger (todo.filter (fun e => e != (b, off)))).nvmGo
        | .erase todo => (s.hkErase (todo.filter (fun o => o != off))).nvmGo
        | _ => s.nvmGo
    | _ => s)

/-- A page of an IMG_PROGRAM command has been programmed, or has failed: R460. -/
def State.imagePageDone (s : State) (b off : Nat) (failed : Bool) : State :=
  match s.img.progs.find? (fun p => p.bank == b) with
  | none => s
  | some p =>
    let rest := p.pages.filter (fun e => e.1 != off)
    let others := s.img.progs.filter (fun x => x != p)
    if failed then
      let s := ({ s with img := { s.img with progs := others } }).imgFault 0x0F
      s.complete p.cmd Status.checkFailed.code (imgPayload s 0x0F b)
    else if rest.isEmpty then
      let s := { s with img := { s.img with progs := others } }
      s.complete p.cmd Status.ok.code (imgPayload s 0 b)
    else { s with img := { s.img with progs := mapWhere s.img.progs (fun x => x == p) (fun x => { x with pages := rest }) } }

/-- The bytes of a page program that ends; a failed one leaves bits of which nobody can say which were cleared. -/
def State.pageBytes (s : State) (b off : Nat) (data : Bytes) (failed : Bool) : State :=
  let (junk, s) := if failed then s.freeBytes data.length else (data, s)
  s.modBank b (fun k => { k with cells := programCells k.cells off junk, op := none })

/-- NVM_PAGE_PROGRAM_DONE: R460, R475, R604, R610. -/
def execNvmPageProgramDone (bank : Fin 2) (failed : Bool) (s : State) : Res :=
  let b := bank.val
  .next (match (s.bank b).op with
    | some (.ledgerPage page) => (s.ledgerPageDone b page failed).ledgerFinish.2.nvmGo
    | some (.imagePage off data) => ((s.pageBytes b off data failed).imagePageDone b off failed).nvmGo
    | some (.recPage off data) =>
      (((s.pageBytes b off data failed).set Fld.IMG_REC_STATUS_BUSY 0).set Fld.IMG_REC_STATUS_FAILED (b2n failed)).nvmGo
    | _ => s)

/-- The verification of a bank ends with an image fault, or 0. -/
def State.verifyEnd (s : State) (v : Verify) (fault : Nat) : State :=
  let b := v.bank
  let s := { s with img := { s.img with verifies := s.img.verifies.filter (fun x => x != v) } }
  let s := s.set (Fld.IMG_BANK_EPOCH b) (if headerOk (s.imgHeader b) then hdrEpoch (s.imgHeader b) else 0)
  let s := s.setBankState b (if fault = 0 then .valid else .invalid)
  let s := if fault = 0 then s else s.imgFault fault
  match v.why with
  | .command c => s.complete c (if fault = 0 then Status.ok.code else Status.checkFailed.code) (imgPayload s fault b)
  | .housekeeping => s.hkSlot

/-- BANK_VERIFY_DONE: R446, R447, R449, R460, R667. -/
def execBankVerifyDone (bank : Fin 2) (s : State) : Res :=
  .next (match s.img.verifies.find? (fun v => v.bank == bank.val) with
    | some v => s.verifyEnd v (s.imageFault bank.val)
    | none => s)

/-- What follows a read that still fails (R474). -/
def State.readFails (s : State) (b : Nat) (strand : Option (Fin 32)) : State :=
  match strand with
  | some i => if s.strandState i.val = .loading ∧ (s.strand i.val).bank = b then (s.strandOff i.val .imgSection).noteStrandsReady else s
  | none =>
    match s.img.boot with
    | .trim => ({ s with img := { s.img with dead := s.img.dead ||| 2 ^ b } }).imgFault 0x0F
    | .select => ({ s with img := { s.img with dead := s.img.dead ||| 2 ^ b } }).imgFault 0x0F
    | .stream => if s.img.bank = b then s.tryOther 0x0F else s
    | .sign => if s.img.bank = b then s.tryOther 0x0F else s
    | .ready =>
      match s.img.verifies.find? (fun v => v.bank == b) with
      | some v => s.verifyEnd v 0x0F
      | none => s
    | _ => s

/-- Whether a read of a bank is under way: of a Strand's section, or of what start or a verification reads. -/
def State.readRuns (s : State) (b : Nat) (strand : Option (Fin 32)) : Bool :=
  match strand with
  | some i => s.strandState i.val == .loading && !(s.strand i.val).loaded && (s.strand i.val).bank == b
  | none => s.img.boot == .trim || s.img.boot == .select || ((s.img.boot == .stream || s.img.boot == .sign) && s.img.bank == b)
      || (s.img.boot == .ready && s.img.verifies.any (fun v => v.bank == b))

/-- NVM_READ_TIMEOUT: R474. A read of the section of a Strand, or of what start or a verification reads of the bank. -/
def execNvmReadTimeout (bank : Fin 2) (strand : Option (Fin 32)) (s : State) : Res :=
  let key := match strand with
    | some i => 2 + i.val
    | none => bank.val
  let n := Tab.getD s.img.readRetries key 0
  .next (if s.readRuns bank.val strand then
    let s := s.transient none 0x0601
    if n < 3 then
      ({ s with img := { s.img with readRetries := Tab.put s.img.readRetries key (n + 1) } }).count Fld.FLT_RETRY_CNT
    else ({ s with img := { s.img with readRetries := Tab.del s.img.readRetries key } }).readFails bank.val strand
  else s)

/-- IMG_PREPARE: R460. -/
def execImgPrepare (q : Fin 16) (e : SqEntry) (bank : Fin 256) (reserved : Bool) (s : State) : Res :=
  .next (s.sqCommand q.val e 0x43 (fun c s =>
    let b := bank.val
    if !reserved || decide (1 < b) || b == s.forceBank || b == s.get Fld.IMG_NEXT_BANK then s.imgRefuse c .illegalOp none (b % 2)
    else (s.set (Fld.IMG_BANK_ARMED b) 1).commandRecord 4 [byte b] c b))

/-- The pages of an image range. -/
def pagesOf (off : Nat) (data : Bytes) : List (Nat × Bytes) :=
  (upto (data.length / 256)).map (fun i => (off + 256 * i, slice data (256 * i) 256))

/-- IMG_PROGRAM: R460. `data` is what the read of the host address returned; none where it failed. -/
def execImgProgram (q : Fin 16) (e : SqEntry) (bank : Fin 256) (offset length : Word) (data : Option Bytes) (reserved : Bool) (s : State) :
    Res :=
  .next (s.sqCommand q.val e 0x44 (fun c s =>
    let b := bank.val
    let off := offset.toNat
    let len := length.toNat
    let st := s.get (Fld.IMG_BANK_STATE (b % 2))
    if !reserved || decide (1 < b) || off % 256 != 0 || len % 256 != 0 || decide (len < 256) || decide (0x1000000 < len)
        || decide (0x20000000 < off + len) || !s.flag Fld.IMG_STATE_HK_DONE || b == s.forceBank
        || !(st == bankCode .blank || st == bankCode .programming) || !blankCells (s.bank b).cells off len then
      s.imgRefuse c .illegalOp none (b % 2)
    else match data with
      | none => s.complete c Status.dmaError.code (imgPayload s 0 b)
      | some d =>
        let s := s.setBankState b .programming
        ({ s with img := { s.img with progs := s.img.progs ++ [(⟨c, b, pagesOf off (padTo len d), false⟩ : ImgProgram)] } }).progGo b))

/-- IMG_VERIFY: R460. -/
def execImgVerify (q : Fin 16) (e : SqEntry) (bank : Fin 256) (reserved : Bool) (s : State) : Res :=
  .next (s.sqCommand q.val e 0x45 (fun c s =>
    if !reserved || decide (1 < bank.val) then s.imgRefuse c .illegalOp none (bank.val % 2)
    else { s with img := { s.img with verifies := s.img.verifies ++ [(⟨bank.val, .command c⟩ : Verify)] } }))

/-- IMG_SELECT: R460. -/
def execImgSelect (q : Fin 16) (e : SqEntry) (bank : Fin 256) (reserved : Bool) (s : State) : Res :=
  .next (s.sqCommand q.val e 0x46 (fun c s =>
    let b := bank.val
    if !reserved || decide (1 < b) || s.get (Fld.IMG_BANK_STATE (b % 2)) != bankCode .valid then s.imgRefuse c .illegalOp none (b % 2)
    else ((s.set Fld.IMG_NEXT_FROM_REC 1).set Fld.IMG_NEXT_BANK b).commandRecord 3 [byte b] c b))

/-- The bank and offset of IMG_REC_ADDR. -/
def State.recPlace (s : State) : Nat × Nat :=
  let a := s.get Fld.IMG_REC_ADDR
  (a / 2 ^ 31, a % 2 ^ 31)

/-- A recovery operation starts on a bank (R475); a second one while one runs is ignored (Table 0-3). -/
def State.recStart (s : State) (b : Nat) (op : NvmOp) : State :=
  if s.flag Fld.IMG_REC_STATUS_BUSY then s
  else if (s.bank b).op.isSome then s.set Fld.IMG_REC_STATUS_FAILED 1
  else ((s.modBank b (fun k => { k with op := some op })).set Fld.IMG_REC_STATUS_BUSY 1).set Fld.IMG_REC_STATUS_FAILED 0

/-- R475, Table 12-2, Table 12-15: a page of IMG_REC_DATA is programmed. No address past the bank's end exists. -/
def State.recProgram (s : State) : Res :=
  let (b, off) := s.recPlace
  if s.img.boot ≠ .fail then .next s
  else if nvmSize ≤ off then .fault .noSuchAddress
  else .next (s.recStart b (.recPage (off / 256 * 256) (s.window 0x10200 256)))

/-- R475, Table 12-2, Table 12-15: a sector is erased. -/
def State.recErase (s : State) : Res :=
  let (b, off) := s.recPlace
  if s.img.boot ≠ .fail then .next s
  else if nvmSize ≤ off then .fault .noSuchAddress
  else .next (s.recStart b (.erase (off / 65536 * 65536) true))

/-- R475: start resumes at step 2. -/
def State.recRestart (s : State) : State :=
  if s.img.boot = .fail then ((s.finishProgram 0).finishProgram 1).stopErases.resume false else s

/-- REC_PROGRAM_PAGE: R475. -/
def execRecProgramPage (s : State) : Res := s.recProgram

/-- REC_ERASE_SECTOR: R475. -/
def execRecEraseSector (s : State) : Res := s.recErase

/-- REC_RESTART: R475. -/
def execRecRestart (s : State) : Res := .next s.recRestart

end Sys2Proof.Machine
end

