-- ==== Sys2Proof/Machine/Power.lean ====
section
/-!
DEFINITION. The commands of power, clocks, thermal sensing, field verification and the tide timebase (R121, R559 to R595).
-/
namespace Sys2Proof.Machine

/-- THERMAL_CONVERSION: R578 to R580, R584, R586, R590, R593, R594. Operands: the raw codes of sensors 0 to 39, the temperatures that
the HBM stacks report. -/
def execThermalConversion (raw : List (BitVec 12)) (hbm : List (BitVec 16)) (s : State) : Res :=
  if s.img.vaon then
    let s := (List.zip raw (upto 40)).foldl (fun s e => s.readSensor e.2 e.1.toNat) s
    let s := (List.zip hbm (upto 6)).foldl (fun s e => s.set (Fld.THM_HBM e.2) e.1.toNat) s
    .next ((upto 16).foldl State.judgeVdd s.judgeJunction)
  else .next s

/-- CLOCK_LOSS: R560, R580. -/
def execClockLoss (s : State) : Res := .next (if s.img.vaon then s.trip 2 else s)

/-- THROTTLE_STEP: R579, Table 15-4: at or above 100 °C a step up each 100 µs, below 97 °C a step down each 1 ms. -/
def execThrottleStep (s : State) : Res :=
  let v := signed 16 (s.get Fld.THM_MAX)
  let t := s.get Fld.PWR_THR_THERMAL
  .next (if s.thermHeld then s
    else if 800 ≤ v ∧ 50000 ≤ s.since s.pwr.thermStep then s.stepThermal (min 12 (t + 1))
    else if v < 776 ∧ 0 < t ∧ 500000 ≤ s.since s.pwr.thermStep then s.stepThermal (t - 1)
    else s)

/-- POWER_ESTIMATE: R570. `mw` is the estimate. POWER_CAP is posted at each estimate that raises the cap level (log entry 50). -/
def execPowerEstimate (mw : Word) (s : State) : Res :=
  let cap := s.get Fld.PWR_CTL_CAP_W
  let level := s.get Fld.PWR_THR_CAP
  let thermal := s.get Fld.PWR_THR_THERMAL
  let s := s.set Fld.PWR_PKG_MW mw.toNat
  let mark := fun (s : State) => { s with pwr := { s.pwr with capBelow := s.now } }
  .next (if cap = 0 then s.setLevels thermal 0
    else if cap * 1000 < mw.toNat then
      ((mark s).setLevels thermal (min 12 (level + 1))).event 0x0079 0 [mw.toNat]
    else if cap * 950 ≤ mw.toNat then mark s
    else if 500000 ≤ s.since s.pwr.capBelow ∧ 0 < level then (mark s).setLevels thermal (level - 1)
    else s)

/-- CLOCK_RAISE: R568: 20 µs after VDD_VID was raised. -/
def execClockRaise (s : State) : Res :=
  .next (match s.pwr.raiseAt with
    | some t => if s.reached t then { s with pwr := { s.pwr with clockLevel := s.get Fld.PWR_THR_LEVEL, raiseAt := none } } else s
    | none => s)

/-- VDD_LOW: R593, for voltage sensor 24 + `sensor`. -/
def execVddLow (sensor : Fin 16) (s : State) : Res :=
  let k := sensor.val
  .next (match Tab.get? s.pwr.lowSince k with
    | some t =>
      if 50000 ≤ s.since t ∧ !s.pwr.lowHeld.contains k then
        let s := s.event 0x007B (24 + k) [s.get (Fld.THM_SENSOR_VALUE (24 + k))]
        ({ s with pwr := { s.pwr with lowHeld := s.pwr.lowHeld ++ [k] } }).holdThermal
      else s
    | none => s)

/-- A sensor's field verification. -/
def State.sensorVerify (s : State) (i : Nat) : SensorVerify := Tab.getD s.pwr.sensors i ⟨none, 0, 0⟩

/-- A sensor's field verification changed. -/
def State.setSensorVerify (s : State) (i : Nat) (v : SensorVerify) : State :=
  { s with pwr := { s.pwr with sensors := Tab.putD ⟨none, 0, 0⟩ s.pwr.sensors i v } }

/-- Die sensors of one group of three (R590). -/
def sensorGroup (i : Nat) : List Nat := if i < 24 then [3 * (i / 3), 3 * (i / 3) + 1, 3 * (i / 3) + 2] else [i]

/-- SENSOR_CHECK_START: R590: a sensor is switched to its check point. -/
def execSensorCheckStart (sensor : Fin 40) (s : State) : Res :=
  let i := sensor.val
  let v := s.sensorVerify i
  .next (if s.pwr.trims.isSome && (sensorGroup i).all (fun j => !s.flag (Fld.THM_SENSOR_STALE j))
      && Nat.ble (s.get Fld.THM_VERIFY * 500000) (s.since v.last) then
    (s.set (Fld.THM_SENSOR_STALE i) 1).setSensorVerify i { v with check := some s.now, last := s.now }
  else s)

/-- R591: BLIND, as the count of DEGRADED die sensors says. -/
def State.judgeBlind (s : State) : State :=
  let n := ((upto 24).filter (fun i => s.flag (Fld.THM_SENSOR_DEGRADED i))).length
  if 8 < n then
    if s.flag Fld.THM_STATE_BLIND then s
    else ((s.set Fld.THM_STATE_BLIND 1).event 0x0078 0 [n]).holdThermal
  else if s.flag Fld.THM_STATE_BLIND then
    let s := s.set Fld.THM_STATE_BLIND 0
    if s.thermHeld then s else { s with pwr := { s.pwr with thermStep := s.now } }
  else s

/-- R590: a check reading is judged. -/
def State.judgeSensor (s : State) (i raw : Nat) : State :=
  let r := sensorTrim s.trimBytes i
  let v := s.sensorVerify i
  let off := if le r 6 2 ≤ raw then raw - le r 6 2 else le r 6 2 - raw
  if le r 8 2 < off then
    let s := (s.setSensorVerify i { v with check := none, passes := 0 }).set (Fld.THM_SENSOR_DEGRADED i) 1
    (s.event 0x0077 i [raw]).transient none 0x0505
  else
    let s := s.setSensorVerify i { v with check := none, passes := v.passes + 1 }
    if 4 ≤ v.passes + 1 then s.set (Fld.THM_SENSOR_DEGRADED i) 0 else s

/-- SENSOR_CHECK_DONE: R590, R591. `raw` is the code read at the check point. -/
def execSensorCheckDone (sensor : Fin 40) (raw : BitVec 12) (s : State) : Res :=
  let i := sensor.val
  .next (match (s.sensorVerify i).check with
    | some t =>
      if 100000 ≤ s.since t then ((s.set (Fld.THM_SENSOR_STALE i) 0).judgeSensor i raw.toNat).judgeBlind else s
    | none => s)

/-- A lane's field verification. -/
def State.laneVerify (s : State) (l : Nat) : LaneVerify := Tab.getD s.pwr.lanes l ⟨0, 0⟩

/-- A lane's field verification changed. -/
def State.setLaneVerify (s : State) (l : Nat) (v : LaneVerify) : State :=
  { s with pwr := { s.pwr with lanes := Tab.putD ⟨0, 0⟩ s.pwr.lanes l v } }

/-- How far a number is from another. -/
def distance (a b : Int) : Nat := (a - b).natAbs

/-- What a window measured (R588): per level the occupancy in per mille and the mean in codes. -/
structure LaneWindow where
  occupancy : List Nat
  means : List Int
  deriving DecidableEq, Repr

/-- The worst drift of a level mean from LEVEL. -/
def worstDrift (rec_ : Bytes) (w : LaneWindow) : Nat :=
  ((List.zip w.means (upto 4)).map (fun e => distance e.1 (signed 16 (le rec_ (4 + 2 * e.2) 2)))).foldl max 0

/-- The occupancy furthest from 250 per mille. -/
def worstOccupancy (w : LaneWindow) : Nat :=
  w.occupancy.foldl (fun (b o : Nat) => if distance b 250 < distance o 250 then o else b) 250

/-- R588: whether a window passes. -/
def windowPasses (rec_ : Bytes) (w : LaneWindow) : Bool :=
  Nat.ble (distance (worstOccupancy w) 250) (le rec_ 12 2) && Nat.ble (worstDrift rec_ w) (le rec_ 14 2)

/-- R589: a lane whose eighth window in a row has failed; PCIe lanes 0 to 3 are never retired (R599). -/
def State.driftFails (s : State) (l n : Nat) : State :=
  if 8 ≤ n ∧ !(19 ≤ l ∧ l ≤ 22) then s.laneDead l 0x0504 n else s

/-- R589: a completed window is judged. -/
def State.judgeWindow (s : State) (l : Nat) (w : LaneWindow) : State :=
  let rec_ := slice s.trimBytes (80 + 160 * l) 160
  let s := s.set (Fld.PWR_LANE_VERIFY_WINDOWS l) ((s.get (Fld.PWR_LANE_VERIFY_WINDOWS l) + 1) % 65536)
  let s := s.set (Fld.PWR_LANE_VERIFY_STARVED l) 0
  if windowPasses rec_ w then
    let n := (s.laneVerify l).passes + 1
    let s := (s.set (Fld.PWR_LANE_VERIFY_FAILS l) 0).setLaneVerify l ⟨n, s.now⟩
    if 4 ≤ n ∧ s.flag (Fld.PWR_LANE_VERIFY_DEGRADED l) then (s.set (Fld.PWR_LANE_VERIFY_DEGRADED l) 0).event 0x0076 l [] else s
  else
    let n := min 255 (s.get (Fld.PWR_LANE_VERIFY_FAILS l) + 1)
    let s := ((s.set (Fld.PWR_LANE_VERIFY_FAILS l) n).set (Fld.PWR_LANE_VERIFY_DEGRADED l) 1).setLaneVerify l ⟨0, s.now⟩
    ((s.event 0x0075 l [worstOccupancy w, worstDrift rec_ w]).transient none 0x0504).driftFails l n

/-- Whether a lane gathers windows (R588, R621, Table 15-10): trims in force, in service, its test controls 0. -/
def State.laneVerifies (s : State) (l : Nat) : Bool := s.pwr.trims.isSome && !s.isRetired .lane l && !s.laneTested l

/-- LANE_WINDOW_DONE: R588, R589, R600, R621. A window of a lane that is not up is discarded and begins anew. -/
def execLaneWindowDone (lane : Fin 35) (occupancy : List Nat) (means : List Int) (s : State) : Res :=
  let l := lane.val
  .next (if !s.laneVerifies l then s
    else if s.laneUp l then s.judgeWindow l ⟨occupancy, means⟩
    else s.setLaneVerify l { s.laneVerify l with start := s.now })

/-- LANE_WINDOW_STARVED: R589: a window not completed within 10 s. -/
def execLaneWindowStarved (lane : Fin 35) (s : State) : Res :=
  let l := lane.val
  .next (if s.laneVerifies l && Nat.ble 5000000000 (s.since (s.laneVerify l).start) then s.set (Fld.PWR_LANE_VERIFY_STARVED l) 1 else s)

/-- Whether a unit's power is managed now: after step 7, in service. -/
def State.unitManaged (s : State) (u : Nat) : Bool :=
  (s.img.boot == .memory || s.img.boot == .ready) && !s.stopped && !s.engineRetired (unitEngine u).1 (unitEngine u).2

/-- IDLE_BANK: R42, R564, R565. -/
def execIdleBank (unit : Fin 137) (s : State) : Res :=
  let u := unit.val
  let p := s.punit u
  .next (if s.unitManaged u && p.state == .running && !s.unitWork u && Nat.ble (s.unitFloor u) 1
      && Nat.ble (s.get Fld.PWR_CTL_IDLE_BANK_US * 500) (s.since p.since) then
    s.modPunit u (fun p => { p with state := .banked, since := s.now })
  else s)

/-- IDLE_PARK: R564, R565. -/
def execIdlePark (unit : Fin 137) (s : State) : Res :=
  let u := unit.val
  let p := s.punit u
  .next (if s.unitManaged u && p.state == .banked && p.wake.isNone && !s.unitWork u && s.unitFloor u == 0
      && Nat.ble (s.get Fld.PWR_CTL_IDLE_PARK_MS * 500000) (s.since p.since) then
    s.modPunit u (fun p => { p with state := .parked, since := s.now })
  else s)

/-- UNIT_WAKE_START: R564, R566: eligible work, or a floor above the unit's state, starts its wake. -/
def execUnitWakeStart (unit : Fin 137) (s : State) : Res :=
  let u := unit.val
  let p := s.punit u
  .next (if s.unitManaged u && p.state != .running && p.wake.isNone && (s.unitWork u || Nat.blt (powerCode p.state) (s.unitFloor u)) then
    s.modPunit u (fun p => { p with wake := some ⟨s.now, 0⟩ })
  else s)

/-- The units of the clock domain of unit `u` (Table 15-1). -/
def domainUnits (u : Nat) : List Nat :=
  if 32 ≤ u ∧ u < 80 then (upto 48).map (fun i => 32 + i)
  else if 88 ≤ u ∧ u < 136 then (upto 48).map (fun i => 88 + i)
  else (upto 137).filter (fun i => !(decide (32 ≤ i) && decide (i < 80)) && !(decide (88 ≤ i) && decide (i < 136)))

/-- R592: a lock that failed: tried again, or every unit of the domain is retired. The Verdict combiner is no retirable unit
(Table 16-4). -/
def State.lockFails (s : State) (u : Nat) (w : Wake) : State :=
  let s := s.transient none 0x0403
  if w.retries < 3 then (s.count Fld.FLT_RETRY_CNT).modPunit u (fun p => { p with wake := some { w with retries := w.retries + 1 } })
  else
    let s := s.modPunit u (fun p => { p with wake := none })
    (domainUnits u).foldl (fun s i => match stageKind (unitEngine i).1 with
      | some k => s.retireUnit ⟨k, (unitEngine i).2⟩ 0x0403 4
      | none => s) s

/-- R247, R566, R567: a unit is Running. -/
def State.wakeUnit (s : State) (u : Nat) (w : Wake) : State :=
  let p := s.punit u
  let s := if p.state = .parked then s.count Fld.PWR_WAKE_CNT else s
  let s := s.set Fld.PWR_WAKE_MAX (max (s.get Fld.PWR_WAKE_MAX) (min (2 * s.since w.start) 0xFFFFFFFF))
  let s := s.modPunit u (fun _ => ⟨.running, s.now, none⟩)
  if 32 ≤ u ∧ u < 80 then { s with gth := { s.gth with issuing := true } } else s

/-- UNIT_WAKE_DONE: R82, R247, R566, R567, R592. `lockFailed` says that the domain PLL did not lock. -/
def execUnitWakeDone (unit : Fin 137) (lockFailed : Bool) (s : State) : Res :=
  let u := unit.val
  let p := s.punit u
  .next (match p.wake with
    | some w => if lockFailed && p.state == .parked then s.lockFails u w else s.wakeUnit u w
    | none => s)

/-- PPS_EDGE: R576. -/
def execPpsEdge (s : State) : Res :=
  if s.img.vaon then
    let s := ((s.set64 Fld.TID_PPS s.now).count Fld.TID_PPS_CNT).set Fld.TID_TB_STATE_PPS_VALID 1
    let s := if s.pwr.ppsLost then s.event 0x0074 0 (words2 s.now) else s
    .next { s with pwr := { s.pwr with ppsTick := some s.now, ppsLost := false } }
  else .next s

/-- PPS_LOST: R576. -/
def execPpsLost (s : State) : Res :=
  .next (match s.pwr.ppsTick with
    | some t =>
      if !s.pwr.ppsLost && Nat.ble 550000000 (s.since t) then
        let s := (s.set Fld.TID_TB_STATE_PPS_VALID 0).event 0x0073 0 []
        { s with pwr := { s.pwr with ppsLost := true } }
      else s
    | none => s)

/-- R574: ticks that a slew has gained or lost by now. -/
def State.slewDone (s : State) (x : Slew) : Nat :=
  let e := s.since x.start
  min x.ticks (e * x.ppm / (if x.negative then 1000000 - x.ppm else 1000000 + x.ppm))

/-- R574: a write of TID_SLEW: the slew that remains is replaced; a write of 0 leaves none. -/
def State.writeSlew (s : State) (v : Nat) : State :=
  let n := signed 32 v
  let x : Slew := ⟨decide (n < 0), n.natAbs, s.get Fld.TID_SLEW_PPM, s.now⟩
  { s with pwr := { s.pwr with slew := if n = 0 then none else some x } }

/-- SLEW_DONE: R574. -/
def execSlewDone (s : State) : Res :=
  .next (match s.pwr.slew with
    | some x => if x.ticks ≤ s.slewDone x then { s with pwr := { s.pwr with slew := none } } else s
    | none => s)

/-- R575: a write of 1 to TID_SET_CMD. -/
def State.writeTideSet (s : State) : State :=
  if s.strands.any (fun x => x.state == .serving || x.state == .draining) then s.set Fld.TID_TB_STATE_SET_REFUSED 1
  else { s with now := s.get64 Fld.TID_SET }

/-- ETH_LINK_CHANGE: R116, R121, R600, R621. A port trains once start-up has reached step 10 (Table 12-9), unless a lane is under test. -/
def execEthLinkChange (port : EthPort) (up : Bool) (s : State) : Res :=
  let p := portIdx port
  .next (s.ethLink p (up && s.linksRun && !(ethLanes p).any s.laneTested))

end Sys2Proof.Machine
end

