-- ==== Sys2Proof/Machine/Stack.lean ====
section
/-!
DEFINITION. Stacked searches: the Headland, the Shoals, match words, stack records (R198 to R206, R503 to R513, R666).
-/
namespace Sys2Proof.Machine

/-- Stack position of this member. -/
def State.stackPos (s : State) : Nat := s.get Fld.STK_CFG_POS

/-- N of the stack. -/
def State.stackMembers (s : State) : Nat := s.get Fld.STK_CFG_SIZE

/-- A match word with its CRC (Table 5-8, R666). -/
def sealWord (w : Nat) : Nat := let b := w % 2 ^ 128; b + 2 ^ 128 * crc8 b

/-- Whether the CRC of a match word holds. -/
def wordOk (w : Nat) : Bool := bits w 128 8 == crc8 (w % 2 ^ 128)

/-- HIT of a match word. -/
def wordHit (w : Nat) : Bool := bit w 0
/-- MLEN. -/
def wordMlen (w : Nat) : Nat := bits w 1 9
/-- POS. -/
def wordPos (w : Nat) : Nat := bits w 10 3
/-- INDEX. -/
def wordIndex (w : Nat) : Nat := bits w 13 16
/-- TAG. -/
def wordTag (w : Nat) : Nat := bits w 29 16
/-- VER_SKEW. -/
def wordSkew (w : Nat) : Bool := bit w 46

/-- The word of a member that has no result to give: a miss with VER_SKEW (R202, R512). -/
def skewWord (tag : Nat) : Nat := sealWord (tag * 2 ^ 29 + 2 ^ 46)

/-- The match word of a lookup result. -/
def lookupWord (tag pos : Nat) (l : Lookup) : Nat :=
  if l.hit then
    sealWord (1 + 2 * (l.mlen % 512) + 2 ^ 10 * (pos % 8) + 2 ^ 13 * (l.index % 65536) + 2 ^ 29 * tag + 2 ^ 45 * b2n l.staleSeen
      + 2 ^ 64 * w32 l.code + 2 ^ 96 * w32 l.ever)
  else sealWord (2 ^ 29 * tag)

/-- R198: whether word `a` ranks above word `b`. -/
def outranks (a b : Nat) : Bool :=
  if wordHit a != wordHit b then wordHit a
  else if !wordHit a then false
  else if wordMlen a ≠ wordMlen b then decide (wordMlen b < wordMlen a)
  else if wordPos a ≠ wordPos b then decide (wordPos a < wordPos b)
  else decide (wordIndex a < wordIndex b)

/-- R199, R202: the word that goes on, of one's own and the one received: the higher-ranked, with VER_SKEW of either. -/
def joinWords (own got : Nat) : Nat :=
  let w := if outranks got own then got else own
  sealWord (if wordSkew own || wordSkew got then w ||| 2 ^ 46 else w)

/-- R164, R192, R202, R206, R512: this member's own match word for a key. `lost`: the local search could not complete. -/
def State.localWord (s : State) (tag table key version : Nat) (lost : Bool) : Nat × State :=
  match (s.liveBanks table).head? with
  | none => (skewWord tag, s)
  | some b =>
    if lost || (s.vtable table).ver != version then (skewWord tag, s)
    else
      let (l, _, _) := s.lookupAt b table key false
      (lookupWord tag s.stackPos l, if l.hit then s.refreshEntry b table l.index else s)

/-- The lookup result of a match word (R201). -/
def wordLookup (w table version : Nat) (spec : Bool) : Lookup :=
  ⟨wordHit w, bit w 45, 0, false, spec, table, wordIndex w, wordMlen w, bits w 64 32, bits w 96 32, version, zeros 128⟩

/-- A search of a frame here. -/
def State.search? (s : State) (k id : Nat) : Option Search := (s.frame? k).bind (fun f => f.searches.find? (fun x => x.id == id))

/-- R171, R201: a stacked search of a frame here ends with a match word. -/
def State.stackDeliver (s : State) (k id w : Nat) : State :=
  match s.search? k id with
  | none => s
  | some x =>
    let l := wordLookup w x.table (s.vtable x.table).ver false
    (if x.spec then s else s.countSearch l).deliver k id l

/-- R205, R508: a stacked search of a frame here fails: it waits again, or its frame is UNSCREENED. -/
def State.stackFail (s : State) (k id : Nat) : State :=
  let s := s.transient none 0
  let (ok, s) := s.retryFrame k .vitrine
  if ok then s.waitSearch k id else s

/-- A RESULT record (Table 13-8). -/
def resultRecordBytes (h : HeadSearch) (word : Nat) (failed : Bool) : Bytes :=
  padTo 64 ([3, byte (h.table + 64 * h.mode), byte h.origin, 0] ++ toLe 2 h.tag ++ toLe 2 h.otag ++ zeros 4 ++ toLe 16 word
    ++ [byte (b2n failed)])

/-- R506: a search that the Headland issued ends, with its word or as failed: delivered here, or sent down as a RESULT. -/
def State.endHead (s : State) (h : HeadSearch) (word : Option Nat) : State :=
  let s := { s with stk := { s.stk with head := s.stk.head.filter (fun x => x.tag != h.tag) } }
  if h.origin = s.stackPos then
    match word with
    | some w => s.stackDeliver h.frame h.search w
    | none => s.stackFail h.frame h.search
  else s.queueRecordOn 5 1 (resultRecordBytes h (word.getD 0) word.isNone)

/-- R199, R202: the word with which a search ends at the Headland. -/
def State.finishHead (s : State) (h : HeadSearch) (w : Nat) : State := s.endHead h (if wordSkew w then none else some w)

/-- A SEARCH record (Table 13-8). -/
def searchRecordBytes (h : HeadSearch) (width key : Nat) : Bytes :=
  padTo 64 ([1, byte (h.table + 64 * h.mode), byte (h.origin + 8 * h.target), byte width] ++ toLe 2 h.tag ++ toLe 2 h.otag
    ++ toLe 4 h.version ++ toLe 48 key)

/-- R505: the TAG after one. -/
def tagAfter (t : Nat) : Nat := if t + 1 = 0xFFFF then 0 else (t + 1) % 65536

/-- R505, R508: the Headland issues a stacked search. -/
def State.issueHead (s : State) (mode width key : Nat) (h : HeadSearch) : State :=
  let n := s.stackMembers
  let reach := s.reachNow
  let s := { s with stk := { s.stk with nextTag := tagAfter s.stk.nextTag } }
  let s := s.count Fld.STK_SEARCH_CNT
  if mode = 1 then
    if reach + 1 < n then (s.count Fld.STK_DEEP_SHORT_CNT).endHead h none
    else
      let (w, s) := s.localWord h.tag h.table key h.version false
      if n ≤ 1 then s.finishHead h w
      else
        let h := { h with word := some w }
        ({ s with stk := { s.stk with head := s.stk.head ++ [h] } }).queueRecordOn 5 0 (searchRecordBytes h width key)
  else
    let t := if reach < s.stk.rotate then 0 else s.stk.rotate
    let s := { s with stk := { s.stk with rotate := if t < reach then t + 1 else 0 } }
    if t = 0 then
      let (w, s) := s.localWord h.tag h.table key h.version false
      s.finishHead h w
    else
      let h := { h with target := t }
      ({ s with stk := { s.stk with head := s.stk.head ++ [h] } }).queueRecordOn 5 0 (searchRecordBytes h width key)

/-- The first stack record of a type that waits, taken; its flit leaves the receive buffer with its last record. -/
def State.takeRecord (s : State) (type : Nat) : Option (RxRecord × State) :=
  match s.stk.records.find? (fun r => byteAt r.bytes 0 == type) with
  | none => none
  | some r =>
    let before := s.stk.records.takeWhile (fun x => byteAt x.bytes 0 != type)
    let after := s.stk.records.drop (before.length + 1)
    let s := { s with stk := { s.stk with records := before ++ after } }
    some (r, if r.last then s.freeHeld (some (r.port, r.vc)) 1 else s)

/-- TABLE and mode of a record. -/
def recTable (b : Bytes) : Nat := byteAt b 1 % 64
/-- Mode of a record: 1 DEEP, 2 WIDE. -/
def recMode (b : Bytes) : Nat := byteAt b 1 / 64
/-- The key of a SEARCH or REQ record: 12 bytes per unit of width. -/
def recKey (b : Bytes) : Nat := le b 12 (12 * 2 ^ (min 2 (byteAt b 3 % 4)))

/-- R505, R506: a search of a stacked table by a frame here: the Headland issues it, a Shoal asks for it. -/
def execStackSearchIssue (frame id : Nat) (s : State) : Res :=
  .next (match s.search? frame id with
    | none => s
    | some x =>
      let mode := s.get (Fld.VIT_TABLE_CFG_STACK x.table)
      let width := s.get (Fld.VIT_TABLE_CFG_WIDTH x.table)
      if x.state != .waiting || mode == 0 || s.stopped then s
      else if s.stackPos = 0 then
        if 256 ≤ s.stk.head.length then s
        else
          let s := s.modFrame frame (modSearch id (fun x => { x with state := .stacked s.now false }))
          s.issueHead mode width x.key ⟨s.stk.nextTag, 0, 0, frame, id, x.table, mode, 0, s.now, none, (s.vtable x.table).ver⟩
      else
        let otag := s.stk.nextOtag
        let s := s.modFrame frame (modSearch id (fun x => { x with state := .stacked s.now true }))
        let s := { s with stk := { s.stk with nextOtag := (otag + 1) % 65536, asks := s.stk.asks ++ [(⟨otag, frame, id, s.now⟩ : Ask)] } }
        s.queueRecordOn 4 0 (padTo 64 ([2, byte (x.table + 64 * mode), byte s.stackPos, byte width] ++ zeros 2 ++ toLe 2 otag ++ zeros 4
          ++ toLe 48 x.key)))

/-- R511: a Shoal holds a search pending; past 256 the oldest is given up. -/
def State.holdShoal (s : State) (tag : Nat) (word : Option Nat) : State :=
  let l := s.stk.shoal.filter (fun x => x.tag != tag) ++ [(⟨tag, word⟩ : ShoalSearch)]
  { s with stk := { s.stk with shoal := l.drop (l.length - 256) } }

/-- R199, R200, R202, R505, R507, R512: a SEARCH record at a Shoal. `lost`: its local search could not complete. -/
def execSearchRecordRx (lost : Bool) (s : State) : Res :=
  .next (match s.takeRecord 1 with
    | none => s
    | some (r, s) =>
      let b := r.bytes
      let tag := le b 4 2
      let pos := s.stackPos
      let target := bits (byteAt b 2) 3 3
      let deep := recMode b == 1
      let last := if deep then decide (pos + 1 = s.stackMembers) else target == pos
      if deep || decide (pos ≤ target) then
        let s := if last then s else s.queueRecordOn 5 0 b
        if deep || last then
          let (w, s) := s.localWord tag (recTable b) (recKey b) (le b 8 4) lost
          if last then s.emit (.matchWord w) else s.holdShoal tag (some w)
        else s.holdShoal tag none
      else s)

/-- R506: a REQ record: forwarded up by a Shoal, issued by the Headland while fewer than 256 searches are pending. -/
def execReqRecordRx (s : State) : Res :=
  .next (if s.stackPos = 0 && Nat.ble 256 s.stk.head.length then s
    else match s.takeRecord 2 with
    | none => s
    | some (r, s) =>
      let b := r.bytes
      if s.stackPos ≠ 0 then s.queueRecordOn 4 0 b
      else
        let t := recTable b
        (s.count Fld.STK_REQ_CNT).issueHead (recMode b) (byteAt b 3 % 4) (recKey b)
          ⟨s.stk.nextTag, byteAt b 2 % 8, le b 6 2, 0, 0, t, recMode b, 0, s.now, none, (s.vtable t).ver⟩)

/-- R506: a RESULT record: forwarded down, or the end of the search that asked for it. -/
def execResultRecordRx (s : State) : Res :=
  .next (match s.takeRecord 3 with
    | none => s
    | some (r, s) =>
      let b := r.bytes
      if byteAt b 2 % 8 ≠ s.stackPos then s.queueRecordOn 5 1 b
      else
        let failed := byteAt b 28 != 0
        let s := if failed then s.count Fld.STK_RESULT_FAIL_CNT else s
        match s.stk.asks.find? (fun a => a.otag == le b 6 2) with
        | none => s
        | some a =>
          let s := { s with stk := { s.stk with asks := s.stk.asks.filter (fun x => x.otag != a.otag) } }
          if failed then s.stackFail a.frame a.search else s.stackDeliver a.frame a.search (le b 12 16))

/-- R508: a LINK record. -/
def execLinkRecordRx (s : State) : Res :=
  .next (match s.takeRecord 4 with
    | none => s
    | some (r, s) => ({ s with stk := { s.stk with linkReach := some (byteAt r.bytes 3 % 8) } }).noteReach)

/-- R506: no RESULT 4 µs after a REQ: the search has failed. -/
def execReqTimeout (otag : BitVec 16) (s : State) : Res :=
  .next (match s.stk.asks.find? (fun a => a.otag == otag.toNat) with
    | none => s
    | some a =>
      if 2000 ≤ s.since a.tick then
        let s := { s with stk := { s.stk with asks := s.stk.asks.filter (fun x => x.otag != a.otag) } }
        (s.count Fld.STK_RESULT_FAIL_CNT).stackFail a.frame a.search
      else s)

/-- R199 to R204, R511: a match word on MATCH_IN. A training word never enters the search logic (R513). -/
def execMatchWordRx (w : BitVec 136) (s : State) : Res :=
  let w := w.toNat
  let tag := wordTag w
  .next (if tag = 0xFFFF then s
    else if s.stackPos = 0 then
      match s.stk.head.find? (fun h => h.tag == tag) with
      | none => s.count Fld.STK_TAG_MISS_CNT
      | some h =>
        if !wordOk w then (s.count Fld.VIT_STK_TMO_CNT).endHead h none
        else s.finishHead h (match h.word with
          | some own => joinWords own w
          | none => w)
    else if !wordOk w then s.count Fld.STK_MATCH_CRC_CNT
    else match s.stk.shoal.find? (fun x => x.tag == tag) with
      | none => s.count Fld.STK_TAG_MISS_CNT
      | some x =>
        let s := { s with stk := { s.stk with shoal := s.stk.shoal.filter (fun y => y.tag != tag) } }
        s.emit (.matchWord (match x.word with
          | some own => joinWords own w
          | none => w)))

/-- R204, R509: no match word 2 µs after the issue of a search. -/
def execCascadeTimeout (tag : BitVec 16) (s : State) : Res :=
  .next (match s.stk.head.find? (fun h => h.tag == tag.toNat) with
    | none => s
    | some h => if 1000 ≤ s.since h.tick then (s.count Fld.VIT_STK_TMO_CNT).endHead h none else s)

/-- R513: a training word: every 1 µs one goes out on MATCH_OUT while the link to the member above is in IDENTIFY; one that arrives
on MATCH_IN (`word`) while STK_DN is in IDENTIFY is checked. -/
def execMatchTrainingWord (word : Option (BitVec 136)) (s : State) : Res :=
  .next (match word with
    | none =>
      let due := match s.stk.lastTraining with
        | some t => Nat.ble 500 (s.since t)
        | none => true
      if s.linksRun && (s.nport 4).state == .identify && due then
        ({ s with stk := { s.stk with lastTraining := some s.now } }).emit (.matchWord (sealWord (2 ^ 10 * s.stackPos + 2 ^ 29 * 0xFFFF)))
      else s
    | some w =>
      if s.linksRun && (s.nport 5).state == .identify then
        if wordOk w.toNat && wordPos w.toNat == (s.stackPos + 1) % 8 && wordTag w.toNat == 0xFFFF then
          ({ s with stk := { s.stk with matchIn := true } }).noteReach
        else
          let (detail, s) := s.freeBytes 64
          ({ s with stk := { s.stk with matchIn := false } }).nbrMismatch 5 detail
      else s)

end Sys2Proof.Machine
end

