-- ==== Sys2Proof/Machine/RegView.lean ====
section
/-!
DEFINITION. What a read of a register that shows hardware state returns (Table 0-2 code RO): the words that are worked out from the
state rather than kept in the register file.
-/
namespace Sys2Proof.Machine

/-- The index of a word in an array, where it is one of its words. -/
def arrayIndex (off base stride count : Nat) : Option Nat :=
  let i := (off - base) / stride
  if decide (base ≤ off) && decide ((off - base) % stride = 0) && decide (i < count) then some i else none

/-- An array of words whose contents are worked out: BAR0 offset, stride, count, and word i. -/
structure WordView where
  base : Nat
  stride : Nat
  count : Nat
  word : Nat → Nat

/-- The word that an array shows at an offset. -/
def WordView.at (w : WordView) (off : Nat) : Option Nat := (arrayIndex off w.base w.stride w.count).map w.word

/-- A count that saturates at `w` bits. -/
def satBits (w n : Nat) : Nat := min n (2 ^ w - 1)

/-- A bit map of `n` units with the given ones set. -/
def bitMap (xs : List Nat) : Nat := xs.foldl (fun m i => m ||| 2 ^ i) 0

/-! Commanded and observed unit state (Table 11-16) -/

/-- CMD, OBS and BUSY of a unit. -/
structure UnitState where
  cmd : Nat
  obs : Nat
  busy : Bool
  deriving DecidableEq, Repr

/-- A Strand's: an exclusion is the hardware's own, so CMD stays SERVING. -/
def State.strandUnit (s : State) (i : Nat) : UnitState :=
  let x := s.strand i
  let obs := strandCode x.state
  match x.state with
  | .loading => ⟨2, obs, true⟩
  | .draining => ⟨1, obs, !x.stuck⟩
  | .excluded => ⟨2, obs, false⟩
  | _ => ⟨obs, obs, false⟩

/-- The port of an index. -/
def ethPort (p : Nat) : EthPort := if p = 0 then .n else if p = 1 then .s else .tap

/-- A data or Tap port's. -/
def State.portUnit (s : State) (p : Nat) : UnitState :=
  let cmd := b2n (s.flag (Fld.INT_PORT_CTL_ENABLE p) && (ethLanes p).all (fun l => !s.isRetired .lane l))
  let obs := if s.txHalted p then 2 else b2n (s.portUp (ethPort p))
  ⟨cmd, obs, cmd == 1 && obs == 0⟩

/-- A Cove's. -/
def State.coveUnit (s : State) (c : Nat) : UnitState :=
  let en := b2n (s.flag (Fld.SRV_COVE_CFG_EN c))
  ⟨en, if en = 1 ∧ (s.cove c).wedged then 3 else en, false⟩

/-- A retirable engine's: in service once start-up has begun to train memory. -/
def State.engineUnit (s : State) (k : UnitKind) (i : Nat) : UnitState :=
  let v := if s.isRetired k i then 2 else b2n (s.img.boot == .memory || s.img.boot == .ready)
  ⟨v, v, false⟩

/-- A DDR5 channel's. -/
def State.ddrUnit (s : State) (i : Nat) : UnitState :=
  if s.isRetired .ddr i then ⟨2, 2, false⟩
  else
    let want := bit (s.get Fld.IMG_DDR_EXPECT_CHANNELS) i
    if !want then ⟨0, 0, false⟩
    else if !s.img.ddrDone then ⟨1, 0, true⟩
    else
      let v := b2n (s.get Fld.SRV_ARCH_SIZE != 0)
      ⟨v, v, false⟩

/-- A Narwyn port's. -/
def State.nwlUnit (s : State) (q : Nat) : UnitState :=
  match (s.nport q).state with
  | .retired => ⟨2, 2, false⟩
  | .up => ⟨1, 1, false⟩
  | .unused => ⟨0, 0, false⟩
  | .disabled => ⟨0, 0, false⟩
  | _ => ⟨1, 0, true⟩

/-- Table 11-16. -/
def State.unitState (s : State) (u : Nat) : UnitState :=
  if u < 32 then s.strandUnit u
  else if u < 35 then s.portUnit (u - 32)
  else if u < 43 then s.coveUnit (u - 35)
  else if u < 59 then s.engineUnit .bank (u - 43)
  else if u < 107 then s.engineUnit .gather (u - 59)
  else if u < 155 then s.engineUnit .gallery (u - 107)
  else if u < 163 then s.engineUnit .arbor (u - 155)
  else if u < 175 then s.engineUnit .catalogue (u - 163)
  else if u < 179 then s.engineUnit .parser (u - 175)
  else if u < 183 then s.ddrUnit (u - 179)
  else s.nwlUnit (u - 183)

/-- Bit u of HIF_SKEW. -/
def State.skewBit (s : State) (u : Nat) : Bool := bit (s.get (Fld.HIF_SKEW (u / 32))) (u % 32)

/-- HIF_UNIT_STATE[u]. -/
def State.unitWord (s : State) (u : Nat) : Nat :=
  let x := s.unitState u
  b2n (s.skewBit u) * 2 ^ 31 + b2n x.busy * 65536 + x.cmd * 256 + x.obs

/-! The blocks -/

/-- GLB_ and IMG_. -/
def State.viewsGlb (s : State) : List WordView := [
  ⟨0x4, 4, 1, fun _ => if s.img.otp.isSome then 0x2440B001 else 0x2440B000⟩,
  ⟨0x10104, 4, 1, fun _ =>
    let busy := fun (p : NvmOp → Bool) => b2n (s.nvm.any (fun k => (k.op.map p).getD false))
    busy (fun o => match o with
      | .recPage .. => true
      | _ => false)
    + 2 * busy (fun o => match o with
      | .erase _ r => r
      | _ => false)⟩]

/-- HIF_. -/
def State.viewsHif (s : State) : List WordView := [
  ⟨0x20030, 4, 1, fun _ => satBits 9 s.waitingLoads * 65536 + satBits 4 s.activeLoads⟩,
  ⟨0x2010C, 0x20, 50, fun r =>
    if r < 16 then (s.ring r).head % 2 ^ 20
    else (s.ring r).tail % 2 ^ 20 + b2n (s.flag (Fld.HIF_RING_CTL_EN r) && (s.ring r).phase) * 2 ^ 20⟩,
  ⟨0x21000, 4, 187, s.unitWord⟩]

/-- TID_SLEW_LEFT (R574): signed ticks. -/
def State.slewLeft (s : State) : Nat :=
  match s.pwr.slew with
  | some x =>
    let n := x.ticks - s.slewDone x
    if x.negative then (2 ^ 32 - n) % 2 ^ 32 else n
  | none => 0

/-- Engines built at a stage (Table 2-9). -/
def enginesBuilt (k : Nat) : Nat := [4, 12, 16, 48, 8, 48, 0, 1].getD k 0

/-- The stages in order. -/
def stageOf (k : Nat) : Stage := [Stage.intake, .catalogue, .vitrine, .gather, .arbor, .galleries, .guard, .verdict].getD k .verdict

/-- Shares of a Strand as its section names them, from stage `k` on, four to a word. -/
def State.shareWord (s : State) (i k : Nat) : Nat :=
  let x := s.strand i
  leNat (((x.nextShares.getD x.shares).drop k).take 4 |>.map byte)

/-- TID_. -/
def State.viewsTid (s : State) : List WordView := [
  ⟨0x30000, 4, 1, fun _ => w32 s.now⟩,
  ⟨0x30004, 4, 1, fun _ => s.now / 2 ^ 32⟩,
  ⟨0x30200, 0x10, 32, fun i => (s.strand i).epoch * 65536 + (s.strand i).floor * 8 + (s.strand i).cls⟩,
  ⟨0x30204, 0x10, 32, fun i => satBits 16 (s.inside i) * 65536 + strandFaultCode (s.strand i).fault * 256 + strandCode (s.strandState i)⟩,
  ⟨0x30208, 0x10, 32, fun i => w32 (s.strand i).seq⟩,
  ⟨0x3020C, 0x10, 32, fun i => (s.strand i).seq / 2 ^ 32⟩,
  ⟨0x30400, 8, 32, fun i => s.shareWord i 0⟩,
  ⟨0x30404, 8, 32, fun i => s.shareWord i 4⟩,
  ⟨0x30500, 4, 8, fun k =>
    let live := if k = 6 then 0 else (s.liveEngines (stageOf k)).length
    enginesBuilt k * 2 ^ 24 + live * 65536 + s.shareSum k % 512⟩,
  ⟨0x30608, 4, 1, fun _ => s.slewLeft⟩,
  ⟨0x30628, 4, 1, fun _ => (s.regWord 0x30628).toNat % 8 + 8 * b2n s.pwr.slew.isSome⟩]

/-- INT_ and REL_. -/
def State.viewsInt (s : State) : List WordView := [
  ⟨0x4010C, 4, 1, fun _ => s.holdUsed⟩,
  ⟨0x40114, 4, 1, fun _ => (s.streams.filter (fun x => !x.closed)).length⟩,
  ⟨0x50040, 4, 3, fun p => s.get (Fld.REL_PORT_STATE_TX_AN p) * 256 + (s.portUnit p).obs⟩,
  ⟨0x50050, 4, 3, fun p => (s.calendar.filter (fun r => r.port == ethPort p)).length⟩,
  ⟨0x50074, 4, 1, fun _ => s.tapUsed⟩]

/-- VALID and BAD of an item's current version, above its own bits. -/
def State.itemWord (s : State) (k : ContentKind) (i : Nat) (low : Bytes → Nat) : Nat :=
  match s.currentOf k i with
  | some r => 2 ^ 31 + b2n r.bad * 2 ^ 30 + low r.bytes
  | none => 0

/-- Bytes of every resident version of an item. -/
def State.itemBytes (s : State) (k : ContentKind) (i : Nat) : Nat :=
  sumBy (s.content.filter (fun r => r.kind == k && r.index == i)) (fun r => r.bytes.length)

/-- Versions of a vocabulary or model pinned now, once per holder (R136, R275). -/
def State.itemPins (s : State) (k : ContentKind) (i : Nat) : List Nat :=
  let requests := s.srv.requests.filter (fun r => r.state != .ended)
  match k with
  | .vocabulary =>
    s.frames.filterMap (fun f => (f.texts.find? (fun t => t.vocab == i && t.pin.isSome)).bind (fun t => t.pin))
      ++ s.streams.filterMap (fun x => Tab.get? x.pins i)
      ++ (requests.filter (fun r => r.vocab == i)).map (fun r => r.vocabVer)
  | .model =>
    s.frames.filterMap (fun f => (f.models.find? (fun m => m.model == i && m.pin.isSome)).bind (fun m => m.pin))
      ++ (requests.filter (fun r => r.model == i)).map (fun r => r.modelVer)
  | _ => []

/-- OLD and CUR of a pins register: pins on other versions, pins on the current one. -/
def pinsWord (pins : List Nat) (old : Nat → Bool) (cur : Nat) : Nat :=
  satBits 16 (pins.filter old).length * 65536 + satBits 16 (pins.filter (fun v => v == cur)).length

/-- CAT_. -/
def State.viewsCat (s : State) : List WordView := [
  ⟨0x60000, 0x10, 16, fun v => s.itemWord .vocabulary v (fun b => vocTokens b % 2 ^ 19)⟩,
  ⟨0x60004, 0x10, 16, fun v => s.itemVersion .vocabulary v⟩,
  ⟨0x60008, 0x10, 16, fun v => ceilDiv (s.itemBytes .vocabulary v) 1024 % 65536⟩,
  ⟨0x6000C, 0x10, 16, fun v =>
    let cur := s.itemVersion .vocabulary v
    pinsWord (s.itemPins .vocabulary v) (fun p => p != cur) cur⟩,
  ⟨0x60100, 8, 32, fun a => s.itemWord .automaton a (fun b => autVocab b * 2 ^ 17 + autStates b % 2 ^ 17)⟩,
  ⟨0x60104, 8, 32, fun a => s.itemVersion .automaton a⟩,
  ⟨0x60200, 4, 1, fun _ =>
    ceilDiv (s.kindBytes .vocabulary + s.kindBytes .automaton) 1024 + s.get Fld.CAT_MASK_CACHE * 1024⟩,
  ⟨0x60208, 4, 1, fun _ => bitMap (s.liveEngines .catalogue)⟩]

/-- VIT_. -/
def State.viewsVit (s : State) : List WordView := [
  ⟨0x70010, 0x20, 64, fun t => (s.vtable t).ver⟩,
  ⟨0x70014, 0x20, 64, fun t => (s.vtable t).lseq⟩,
  ⟨0x70018, 0x20, 64, fun t =>
    if s.flag (Fld.VIT_TABLE_CFG_EN t) then
      match s.orderer t with
      | some b => (validSlots (s.vbank b) (s.vgeom t)).length
      | none => 0
    else 0⟩,
  ⟨0x70804, 0x10, 16, fun b =>
    let st := if s.isRetired .bank b then 1 else if (s.punit (16 + b)).state == .parked then 2 else 0
    (s.vbank b).pass % 65536 * 65536 + st⟩]

/-- GTH_. -/
def State.viewsGth (s : State) : List WordView := [
  ⟨0x80008, 0x20, 4, fun g =>
    let x := s.graph g
    b2n (x.ver != 0) * 2 ^ 31 + b2n x.damaged * 2 ^ 30 + b2n (s.graphLoading g) * 2 ^ 29 + b2n (s.graphStale g) * 2 ^ 28
      + s.graphWaiting g % 32⟩,
  ⟨0x8000C, 0x20, 4, fun g => (s.graph g).ver⟩,
  ⟨0x80014, 0x20, 4, fun g =>
    let c := (s.graph g).ver
    pinsWord (s.graphPins g) (fun p => p + 1 == c) c⟩,
  ⟨0x80018, 0x20, 4, fun g => (s.graph g).liveCount (s.graph g).ver⟩,
  ⟨0x8001C, 0x20, 4, fun g => s.get (Fld.GTH_GRAPH_BLK g) - (s.graph g).blocksUsed (s.graphGeom g).oldestPin⟩,
  ⟨0x80104, 4, 2, fun i => bitMap (s.liveEngines .gather) / 2 ^ (32 * i) % 2 ^ 32⟩]

/-- ARB_ and GAL_. -/
def State.viewsGal (s : State) : List WordView := [
  ⟨0x90000, 4, 1, fun _ => bitMap (s.liveEngines .arbor)⟩,
  ⟨0xA0000, 0x10, 64, fun m => s.itemWord .model m (fun b => b2n (isGuard b) * 256 + le b 32 2 % 32)⟩,
  ⟨0xA0004, 0x10, 64, fun m => s.itemVersion .model m⟩,
  ⟨0xA0008, 0x10, 64, fun m => ceilDiv (s.itemBytes .model m) (2 ^ 20)⟩,
  ⟨0xA000C, 0x10, 64, fun m =>
    let cur := s.itemVersion .model m
    pinsWord (s.itemPins .model m) (fun p => p != cur) cur⟩,
  ⟨0xA0480, 4, 2, fun i => bitMap (s.liveEngines .galleries) / 2 ^ (32 * i) % 2 ^ 32⟩]

/-- SRV_. -/
def State.viewsSrv (s : State) : List WordView := [
  ⟨0xB0014, 0x40, 8, fun c =>
    b2n (s.cove c).wedged * 2 ^ 31 + b2n (s.cove c).step.isSome * 2 ^ 30 + (s.coveRequests c).length * 65536⟩,
  ⟨0xB0018, 0x40, 8, fun c => w32 (s.cove c).stepNo⟩,
  ⟨0xB001C, 0x40, 8, fun c => (s.cove c).stepNo / 2 ^ 32⟩,
  ⟨0xB0020, 0x40, 8, fun c => s.freeBlocks c⟩,
  ⟨0xB0024, 0x40, 8, fun c => (s.cove c).reclaim.length⟩,
  ⟨0xB0028, 0x40, 8, fun c => (s.cove c).prefixes.length⟩,
  ⟨0xB0500, 4, 1, fun _ => s.srv.requests.length⟩,
  ⟨0xB0524, 4, 1, fun _ => ceilDiv s.archiveUsed (2 ^ 20)⟩,
  ⟨0xB052C, 4, 1, fun _ =>
    let xs := s.srv.requests.filter (fun r => r.paused)
    (xs.filter (fun r => r.place != .hbm)).length * 65536 + xs.length⟩]

/-- VRD_. -/
def State.viewsVrd (s : State) : List WordView := [
  ⟨0xC0008, 4, 1, fun _ => ceilDiv s.acc.buffer.length 8⟩,
  ⟨0xC0400, 8, 33, fun ch => w32 (s.chain ch).count⟩,
  ⟨0xC0404, 8, 33, fun ch => (s.chain ch).count / 2 ^ 32⟩]

/-- Codes of the port states (Table 13-5). -/
def portStateCode : PortState → Nat
  | .down => 0
  | .train => 1
  | .align => 2
  | .identify => 3
  | .up => 4
  | .disabled => 5
  | .retired => 6
  | .unused => 7

/-- NWL_, STK_ and FAB_. -/
def State.viewsNwl (s : State) : List WordView := [
  ⟨0x100008, 0x100, 6, fun q =>
    let p := s.nport q
    p.fault % 256 * 256 + p.lanes % 4 * 16 + b2n p.swap * 8 + portStateCode p.state⟩,
  ⟨0x10000C, 0x100, 6, fun q => (s.nport q).nbrPort % 8 * 65536 + (s.nport q).nbrNode⟩,
  ⟨0x100010, 0x100, 6, fun q => (s.nport q).nbrImage * 65536 + (s.nport q).nbrManifest⟩,
  ⟨0x100014, 0x100, 6, fun q => (s.nport q).rtt % 65536⟩,
  ⟨0x100040, 0x100, 6, fun q => (s.nport q).o * 65536 + (s.nport q).next⟩,
  ⟨0x100044, 0x100, 6, fun q => (s.nport q).buffer.length % 2048 * 65536 + (s.nport q).e⟩,
  ⟨0x100048, 0x100, 6, fun q => (s.nport q).xoffSent * 256 + (s.nport q).xoffRcvd⟩,
  ⟨0x110004, 4, 1, fun _ =>
    let live := if s.stackPos = 0 then 2 ^ (s.reachNow + 1) - 1 else 1
    live * 65536 + b2n s.stk.matchOut * 512 + b2n s.stk.matchIn * 256 + s.reachNow⟩,
  ⟨0x110008, 4, 1, fun _ => (s.stk.head.length + s.stk.shoal.length) % 512 * 65536 + s.stk.nextTag⟩,
  ⟨0x120030, 4, 1, fun _ => s.fab.queue.length % 512 * 65536 + ((s.fab.repl.map (fun r => r.phase)).getD 0)⟩,
  ⟨0x120100, 4, 64, fun k => (s.causeway k).state⟩]

/-- R607, R610: blank pages from the next page of the ledger on, in a bank. -/
def State.blankAhead (s : State) (b : Nat) : Nat :=
  let cells := (s.bank b).cells.filter (fun c => decide (ledgerBase ≤ c.1 ∧ c.1 < ledgerBase + 2 ^ 24))
  let first := pageOff s.led.nextPage
  match cells.find? (fun c => decide (first ≤ c.1)), cells.head? with
  | some c, _ => (c.1 - first) / 256
  | none, some c => (ledgerBase + 2 ^ 24 - first) / 256 + (c.1 - ledgerBase) / 256
  | none, none => 65536

/-- PWR_ and FLT_. -/
def State.viewsFlt (s : State) : List WordView := [
  ⟨0x130100, 4, 137, fun u =>
    let (st, e) := unitEngine u
    s.unitFloor u * 16 + (if s.engineRetired st e then 3 else powerCode (s.punit u).state)⟩,
  ⟨0x150024, 4, 1, fun _ => (s.regWord 0x150024).toNat + b2n s.rst.isSome⟩,
  ⟨0x150034, 4, 1, fun _ => min (s.blankAhead 0) (s.blankAhead 1)⟩,
  ⟨0x150200, 4, 20, fun i => le (forceBytes s.led.force) (4 * i) 4⟩]

/-- Every word that is worked out. -/
def State.views (s : State) : List WordView :=
  s.viewsGlb ++ s.viewsHif ++ s.viewsTid ++ s.viewsInt ++ s.viewsCat ++ s.viewsVit ++ s.viewsGth ++ s.viewsGal ++ s.viewsSrv ++ s.viewsVrd
    ++ s.viewsNwl ++ s.viewsFlt

/-- The value that a word holds for a reader (Table 0-2). -/
def State.viewWord (s : State) (off : Nat) : Nat := (s.views.findSome? (fun w => w.at off)).getD (s.regWord off).toNat

end Sys2Proof.Machine
end

