-- ==== Sys2Proof/Machine/RegOps.lean ====
section
/-!
DEFINITION. Reads and writes of BAR0, BAR2 and BAR4 with everything that a write starts (R5 to R11, R401, R403, R405 to R423, R431, R434,
R440, R441, R456, R600, R604 to R610, R617 to R623, R653 to R662; Tables 0-2, 0-3, 11-8, 11-11, 11-15, 16-17).
-/
namespace Sys2Proof.Machine

/-! Doorbells (R406, R416) -/

/-- Number of a doorbell in the order of Table 11-8, which is the number of its ring. -/
def doorbellAt (off : Nat) : Option Nat :=
  if off = 0x20000 then some 48
  else if off = 0x30000 then some 49
  else if decide (0x20000 ≤ off) then none
  else if off % 0x1000 = 0 then some (if off < 0x10000 then off / 0x1000 else 32 + (off - 0x10000) / 0x1000)
  else if off % 0x1000 = 0x800 && decide (off < 0x10000) then some (16 + off / 0x1000)
  else none

/-- R416: a doorbell write that the device does not take. -/
def State.doorbellBad (s : State) (r v : Nat) : State := s.event 0x0002 r [v]

/-- R406: the tail of a submission ring. A tail equal to the last one takes nothing; otherwise a tail equal to the head makes the ring
full. -/
def State.sqTail (s : State) (q v : Nat) : State :=
  let n := s.ringSize q
  let x := s.ring q
  let t := v % 2 ^ 20
  if n ≤ t then s.doorbellBad q v
  else if t = x.tail then s
  else
    let u := (t + n - x.head % n) % n
    s.setRing q { x with tail := t, used := if u = 0 then n else u }

/-- What a device-written ring does when room returns (R414, R418). -/
def State.roomReturns (s : State) (r : Nat) : State :=
  if r < 32 then s.drainCq (r - 16) else if r = 48 then s.flushLostEvents else s

/-- R411, R416: the head of a device-written ring. -/
def State.ringHead (s : State) (r v : Nat) : State :=
  let n := s.ringSize r
  let x := s.ring r
  let h := v % 2 ^ 20
  let d := (h + n - x.head % n) % n
  if n ≤ h ∨ x.used < d then s.doorbellBad r v
  else (s.setRing r { x with head := h, used := x.used - d }).roomReturns r

/-- R416: a doorbell write. -/
def State.doorbell (s : State) (r v : Nat) : State :=
  if s.img.pwrOk then (if r < 16 then s.sqTail r v else s.ringHead r v) else s

/-- R416: a doorbell read returns the last value accepted. -/
def State.doorbellRead (s : State) (r : Nat) : Nat := if r < 16 then (s.ring r).tail else (s.ring r).head

/-- A doorbell written or, without a value, read. -/
def State.doorbellAccess (s : State) (r : Nat) (v : Option Word) : State :=
  match v with
  | some w => s.doorbell r w.toNat
  | none => if s.img.pwrOk then s.emit (.reply (.data (s.doorbellRead r))) else s

/-! Rings (Table 11-15, R440) -/

/-- A ring is enabled: head, tail and phase start over. -/
def State.enableRing (s : State) (r : Nat) : State :=
  let s := (s.set (Fld.HIF_RING_CTL_EN r) 1).set (Fld.HIF_RING_CTL_HALT r) 0
  (s.setRing r { s.ring r with head := 0, tail := 0, used := 0, phase := true, unsignalled := 0 }).roomReturns r

/-- A write of the EN and SIZE_LOG2 word: SIZE_LOG2 is kept while EN = 1. -/
def State.ringCtl (s : State) (r v : Nat) : State :=
  if s.flag (Fld.HIF_RING_CTL_EN r) then s.set (Fld.HIF_RING_CTL_EN r) (bits v 31 1)
  else
    let s := s.set (Fld.HIF_RING_CTL_SIZE_LOG2 r) (bits v 0 5)
    if bit v 31 then s.enableRing r else s

/-- A load that came as a command. -/
def fromCommand (l : Load) : Bool :=
  match l.source with
  | .command _ => true
  | .round _ => false

/-- R403: every ring is disabled, every window slot free, every vector masked; entries not taken are forgotten; a load or a swap that
waits is discarded, and completions of commands started before are. What a ring has lost stays to be reported (R413, R414). -/
def State.hostReset (s : State) : State :=
  let s := (upto 50).foldl (fun s r =>
    (s.set (Fld.HIF_RING_CTL_EN r) 0).setRing r
      { Ring.empty with afterGap := (s.ring r).afterGap, lostEvents := (s.ring r).lostEvents }) s
  let s := { s with reg := s.reg.filter (fun e => !(decide (0x3F00000 ≤ e.1 ∧ e.1 < 0x3F08000) && e.1 % 16 == 12)) }
  { s with host := { s.host with win := [], gen := s.host.gen + 1, loads := s.host.loads.filter (fun l => !(fromCommand l && l.step == LoadStep.waiting)) }
           img := { s.img with swaps := s.img.swaps.filter (fun w => w.started) } }

/-- The link IDE stream ends (R437); it does so with the link. -/
def State.ideStop (s : State) : State := ({ s with mgmt := { s.mgmt with ideSet := none } }).set Fld.HIF_STATUS_IDE 0

/-! Lane tests (R617 to R622) -/

/-- Whether a lane's port is UP (R621); lanes 35 and 36 are the match lanes. -/
def State.testLaneUp (s : State) (l : Nat) : Bool := if l = 35 then s.stk.matchOut else if l = 36 then s.stk.matchIn else s.laneUp l

/-- R621, R622: a port leaves UP for a test; the PCIe link goes down with all of R403. -/
def State.testTakesPort (s : State) (l : Nat) : State :=
  if l = 35 then ({ s with stk := { s.stk with matchOut := false } }).noteReach
  else if l = 36 then ({ s with stk := { s.stk with matchIn := false } }).noteReach
  else match lanePort l with
    | .eth p => s.ethLink p false
    | .nwl q => s.leaveUp q .down
    | .pcie => (s.set Fld.HIF_STATUS_LINK_UP 0).ideStop.hostReset

/-- R619, R621: a write of TST_LANE_CTL. A checker that is stopped, or given another pattern, loses its lock. -/
def State.laneCtl (s : State) (l v : Nat) : State :=
  let sets := v &&& 0xC3 != 0
  let up := s.testLaneUp l
  if sets && up && !bit v 9 then s.set (Fld.TST_LANE_STAT_REFUSED l) 1
  else
    let old := (s.regWord (Fld.TST_LANE_CTL_GEN_EN l).off).toNat
    let new := v &&& 0x2FF
    let s := s.setWord (Fld.TST_LANE_CTL_GEN_EN l).off (word new)
    let s := if bit new 1 && bits old 1 7 == bits new 1 7 then s else s.set (Fld.TST_LANE_STAT_LOCK l) 0
    let s := if bit v 8 then s.emit (.injected l) else s
    if sets && up then s.testTakesPort l else s

/-! The ledger window (Table 16-16) -/

/-- Pages of a bank's ledger region that hold a record with this SEQ. -/
def State.pagesOf (s : State) (b seq : Nat) : List Bytes :=
  let starts := (s.bank b).cells.filter (fun c => decide (ledgerBase ≤ c.1) && decide (c.1 < ledgerBase + 2 ^ 24) && c.1 % 256 == ledgerBase % 256)
  (starts.map (fun c => s.nvmRead b c.1 256)).filter (fun p => pageSealed p && le p 4 4 == seq)

/-- FETCH: bank A's record comes before bank B's (Table 16-15). Where none is sealed, the window keeps what it held. -/
def State.ledgerFetch (s : State) : State :=
  match (s.pagesOf 0 (s.get Fld.FLT_LEDGER_SEQ) ++ s.pagesOf 1 (s.get Fld.FLT_LEDGER_SEQ)).head? with
  | some p => ((upto 64).foldl (fun s i => s.set (Fld.FLT_LEDGER_WIN i) (le p (4 * i) 4)) s).set Fld.FLT_LEDGER_STATUS 1
  | none => s.set Fld.FLT_LEDGER_STATUS 0

/-! BAR0 -/

/-- R456, R622, R623, R664: whether an access path reaches a word of BAR0. -/
def State.reaches (s : State) (p : Path) (off : Nat) : Bool :=
  s.img.pwrOk && (s.flag Fld.HIF_STATUS_CMD_READY || decide (off < 0x20000)) &&
    match p with
    | .pcie => !decide (0x160000 + 0x20 * 19 ≤ off ∧ off < 0x160000 + 0x20 * 35)
    | .jtag => !s.flag Fld.GLB_OTP_DEBUG_LOCK || decide (off < 0x10000) || decide (0x160000 ≤ off ∧ off < 0x170000)
        || (s.img.boot == .fail && decide (0x10100 ≤ off ∧ off < 0x10300))

/-- The register at a word of BAR0 that a reader or writer meets. Ring blocks of submission rings have no IRQ word (Table 11-15). -/
def regAt (off : Nat) : Option RegDef :=
  if decide (0x20110 ≤ off ∧ off < 0x20310) && off % 0x20 == 0x10 then none else regDef off

/-- R660: a lock violation. -/
def State.lockViolation (s : State) (p : Path) (off v : Nat) : State :=
  let s := (s.count Fld.GLB_LOCK_VIOL_CNT).set Fld.GLB_LOCK_VIOL_ADDR_SRC (b2n (p == .jtag))
  (s.set Fld.GLB_LOCK_VIOL_ADDR_OFFSET off).set Fld.GLB_LOCK_VIOL_DATA v

/-- Table 0-2: the fields of a word after a write, actions apart. -/
def fieldsAfter (d : RegDef) (old v : Nat) : Nat :=
  let set := d.rw ||| d.lk ||| d.wo
  ((old &&& (0xFFFFFFFF - set)) ||| (v &&& set)) &&& (0xFFFFFFFF - (v &&& d.w1c))

/-- R655: a vector that is unmasked is sent if it was pending. -/
def State.unmask (s : State) (v : Nat) : State :=
  let f := Fld.MSIX_PBA (v / 32)
  if !s.flag (Fld.MSIX_CTRL_MASK v) && bit (s.get f) (v % 32) then (s.clearBits f (2 ^ (v % 32))).emit (.msix v) else s

/-- Writes that do more than set fields, in arrays of registers. -/
def State.arrayWrite (s : State) (off v : Nat) : Option State :=
  match arrayIndex off 0x20108 0x20 50 with
  | some r => some (s.ringCtl r v)
  | none =>
  match arrayIndex off 0x20100 0x20 50 <|> arrayIndex off 0x20104 0x20 50 with
  | some r => if s.flag (Fld.HIF_RING_CTL_EN r) then some s else none
  | none =>
  match arrayIndex off 0x80010 0x20 4 with
  | some g => some (s.setGraphTarget g v)
  | none =>
  match arrayIndex off 0x100004 0x100 6 with
  | some q => some (if bit v 0 then s.retrainPort q else s)
  | none =>
  match arrayIndex off 0x160000 0x20 37 with
  | some l => some (s.laneCtl l v)
  | none =>
  match arrayIndex off 0x3F0000C 16 2048 with
  | some x => some ((s.set (Fld.MSIX_CTRL_MASK x) (bits v 0 1)).unmask x)
  | none => none

/-- Writes that do more than set fields, in single registers. -/
def State.singleWrite (s : State) (off v : Nat) : Option State :=
  if off = Fld.TID_SLEW.off then some (s.writeSlew v)
  else if off = Fld.TID_SET_CMD.off then some (if bit v 0 then s.writeTideSet else s)
  else if off = Fld.INT_SA_CMD.off then
    let s := if bit v 0 && s.saExists then s.saInstall else s
    some (if bit v 1 && s.saExists then s.saDisable else s)
  else if off = Fld.FLT_RESET_KEY.off then some { s with resetKey := if v = 0x5254 then some s.now else none }
  else if off = Fld.FLT_RESET_CMD_GO.off then
    let s := (s.set Fld.FLT_RESET_CMD_BIST (bits v 2 1)).set Fld.FLT_RESET_CMD_FORCED (bits v 1 1)
    some (if bit v 0 then s.resetGoWrite (bit v 1) (bit v 2) else s)
  else if off = Fld.FLT_LEDGER_CMD.off then some (if bit v 0 then s.ledgerFetch else s)
  else none

/-- One action after another; a fault ends both. -/
def andThen (r : Res) (f : State → Res) : Res :=
  match r with
  | .next s => f s
  | x => x

/-- IMG_REC_CMD: the actions of its bits, in their order. -/
def State.recCmd (s : State) (v : Nat) : Res :=
  let r := if bit v 0 then s.recProgram else .next s
  let r := if bit v 1 then andThen r State.recErase else r
  if bit v 2 then andThen r (fun s => .next s.recRestart) else r

/-- A 32-bit write to BAR0 (R10, R654, R660). -/
def State.busWrite (s : State) (p : Path) (off v : Nat) : Res :=
  if s.reaches p off then
    match regAt off with
    | none => .next s
    | some d =>
      if d.lk != 0 && s.flag Fld.GLB_LOCK then .next (s.lockViolation p off v)
      else if off = Fld.IMG_REC_CMD.off then s.recCmd v
      else .next (match s.arrayWrite off v <|> s.singleWrite off v with
        | some t => t
        | none => s.setWord off (word (fieldsAfter d (s.regWord off).toNat v)))
  else .next s

/-- Key of a high-word latch: path and offset of the pair (R8). -/
def latchKey (p : Path) (off : Nat) : Nat := b2n (p == .jtag) * 2 ^ 26 + off

/-- R434: a state read of a unit. -/
def State.readUnit (s : State) (u : Nat) : State :=
  let x := s.unitState u
  if x.cmd ≠ x.obs ∧ ¬x.busy then
    let again := Tab.get? s.host.skewSeen u == some x.cmd
    let s := { s with host := { s.host with skewSeen := Tab.put s.host.skewSeen u x.cmd } }
    if again && !s.skewBit u then
      let s := (s.setBits (Fld.HIF_SKEW (u / 32)) (2 ^ (u % 32))).event 0x0050 u [x.cmd, x.obs]
      (s.wedge u 0x0702).platformEvent 0x0050 u
    else s
  else { s with host := { s.host with skewSeen := Tab.del s.host.skewSeen u } }

/-- R619: how much a locked checker has counted since is known only from the bits it received: a free value (log entry 51). -/
def State.checkerCounts (s : State) (off : Nat) : State :=
  match arrayIndex off 0x160008 0x20 37 <|> arrayIndex off 0x160010 0x20 37 with
  | some l =>
    if s.flag (Fld.TST_LANE_STAT_LOCK l) then
      let (n, s) := s.free 64
      s.count64 ⟨off, 0, 32⟩ n
    else s
  | none => s

/-- A 32-bit read of BAR0: its value and what it does (R7, R8, R10, R434). -/
def State.busRead (s : State) (p : Path) (off : Nat) : Nat × State :=
  if s.reaches p off then
    match regAt off with
    | none => (0, s)
    | some d =>
      let high := decide (4 ≤ off) && ((regAt (off - 4)).map (fun x => x.pair)).getD false
      if high then (((Tab.get? s.host.latch (latchKey p (off - 4))).getD 0).toNat, s)
      else
        let s := s.checkerCounts off
        let v := s.viewWord off &&& (0xFFFFFFFF - d.wo)
        let s := if d.pair then
            let hi := word (s.viewWord (off + 4))
            let s := { s with host := { s.host with latch := Tab.put s.host.latch (latchKey p off) hi } }
            if d.rc != 0 then s.setWord (off + 4) 0 else s
          else s
        let s := if d.rc != 0 then s.setWord off (word ((s.regWord off).toNat &&& (0xFFFFFFFF - d.rc))) else s
        let s := match arrayIndex off 0x21000 4 187 with
          | some u => s.readUnit u
          | none => s
        (v, s)
  else (0, s)

/-! The result window (R420, R421, R657) -/

/-- STATUS of a window slot (Table 11-11). -/
def winStatus : Option WinSlot → Nat
  | none => 0
  | some w => if !w.ready then 4 else if w.read then 3 else 1

/-- The bytes of a slot from byte 4 on. -/
def winBytes : Option WinSlot → Bytes
  | none => zeros 252
  | some w => toLe 4 w.cmdId ++ padTo 248 w.result

/-- A read of BAR4: its value, and the slot marked READ by a STATUS read that finds it ready. -/
def State.winRead (s : State) (off size : Nat) : Nat × State :=
  let tag := off / 256
  let slot := Tab.get? s.host.win tag
  let v := le (toLe 4 (winStatus slot) ++ winBytes slot) (off % 256) size
  match slot with
  | some w =>
    if off % 256 < 4 ∧ w.ready then (v, { s with host := { s.host with win := Tab.put s.host.win tag { w with read := true } } }) else (v, s)
  | none => (v, s)

/-- R421: a 32-bit write to a slot. -/
def State.winWrite (s : State) (off v : Nat) : State :=
  let tag := off / 256
  match Tab.get? s.host.win tag with
  | some w =>
    if off % 256 = 4 ∧ w.read ∧ w.cmdId = v then { s with host := { s.host with win := Tab.del s.host.win tag } }
    else s.count Fld.HIF_WIN_ACK_BAD_CNT
  | none => s.count Fld.HIF_WIN_ACK_BAD_CNT

/-! Accesses over PCIe (R401, R441, R655, R656) -/

/-- Size of a BAR (Table 11-2). -/
def barSize : Bar → Nat
  | .bar0 => 2 ^ 26
  | .bar2 => 2 ^ 18
  | .bar4 => 2 ^ 22

/-- R401, R655: the accesses that a BAR takes. -/
def accessOk (b : Bar) (off size : Nat) (write : Bool) : Bool :=
  let wide := match b with
    | .bar0 => decide (0x3F00000 ≤ off ∧ off < 0x3F08100)
    | .bar2 => false
    | .bar4 => !write
  (size == 4 && off % 4 == 0) || (wide && size == 8 && off % 8 == 0)

/-- R456: an access to BAR0 that is not possible before CMD_READY: it reads 0, writes nothing and is not counted. -/
def State.tooEarly (s : State) (b : Bar) (off : Nat) : Bool := b == .bar0 && !s.flag Fld.HIF_STATUS_CMD_READY && decide (0x20000 ≤ off)

/-- A write over PCIe. -/
def State.pcieWrite (s : State) (b : Bar) (off size : Nat) (poisoned : Bool) (v : Nat) : Res :=
  if !s.img.pwrOk || decide (barSize b ≤ off) then .next s
  else if s.tooEarly b off then .next s
  else if poisoned then .next ((s.emit .aer).sendVector 0)
  else if !accessOk b off size true then .next ((s.count Fld.HIF_BAD_ACCESS_CNT).emit (.reply .discarded))
  else match b with
    | .bar0 =>
      if size = 8 then (match s.busWrite .pcie off (v % 2 ^ 32) with
        | .next s => s.busWrite .pcie (off + 4) (v / 2 ^ 32 % 2 ^ 32)
        | x => x)
      else s.busWrite .pcie off (v % 2 ^ 32)
    | .bar2 => .next (match doorbellAt off with
      | some r => s.doorbell r (v % 2 ^ 32)
      | none => s)
    | .bar4 => .next (s.winWrite off (v % 2 ^ 32))

/-- A read over PCIe. -/
def State.pcieRead (s : State) (b : Bar) (off size : Nat) : State :=
  if !s.img.pwrOk || decide (barSize b ≤ off) then s
  else if s.tooEarly b off then s.emit (.reply (.data 0))
  else if !accessOk b off size false then (s.count Fld.HIF_BAD_ACCESS_CNT).emit (.reply .unsupportedRequest)
  else match b with
    | .bar0 =>
      let (lo, s) := s.busRead .pcie off
      if size = 8 then
        let (hi, s) := s.busRead .pcie (off + 4)
        s.emit (.reply (.data (lo + 2 ^ 32 * hi)))
      else s.emit (.reply (.data lo))
    | .bar2 => s.emit (.reply (.data (((doorbellAt off).map s.doorbellRead).getD 0)))
    | .bar4 =>
      let (v, s) := s.winRead off size
      s.emit (.reply (.data v))

/-- A read on either path. -/
def State.pathRead (s : State) (p : Path) (off size : Nat) : State :=
  match p with
  | .pcie => s.pcieRead .bar0 off size
  | .jtag =>
    let (v, s) := s.busRead .jtag (off / 4 * 4)
    s.emit (.reply (.data v))

/-- A 32-bit write on either path. -/
def State.pathWrite (s : State) (p : Path) (off v : Nat) : Res :=
  match p with
  | .pcie => s.pcieWrite .bar0 off 4 false v
  | .jtag => s.busWrite .jtag off v

end Sys2Proof.Machine
end

