-- ==== Sys2Proof/Machine/HostCmds.lean ====
section
/-!
DEFINITION. Host commands that are not register accesses: NOP, undefined opcodes, doorbells, failed fetches, the interrupt timer, PCIe
resets and D3hot; and the time limit of grant units (R403, R404, R406, R411, R414 to R418, R431, R440, R597; Tables 11-8 to 11-10).
-/
namespace Sys2Proof.Machine

/-- NOP (R418): completes OK with no payload. -/
def execNop (q : Fin 16) (e : SqEntry) (s : State) : Res :=
  .next (s.sqCommand q.val e 0x01 (fun c s => s.complete c Status.ok.code []))

/-- The opcodes of Table 11-9 and of the commands that its ranges hold. -/
def definedOpcode (o : Nat) : Bool := o == 1 || o == 0x10 || decide (0x20 ≤ o ∧ o ≤ 0x22) || o == 0x30 || decide (0x40 ≤ o ∧ o ≤ 0x46)

/-- BAD_OPCODE (R418): completes on the CQ only. It takes no slot, and BAD_FLAGS comes first. -/
def execBadOpcode (q : Fin 16) (e : SqEntry) (opcode : Fin 256) (s : State) : Res :=
  .next (if s.sqReady q.val e && !definedOpcode opcode.val then
    let c : CmdRef := ⟨q.val, e, opcode.val, s.host.gen, s.now⟩
    (s.takeEntry q.val).completeCq c (if e.resultTo = 3 then Status.badFlags else Status.badOpcode).code
  else s)

/-- SQ_TAIL_DOORBELL (R406, R416). -/
def execSqTailDoorbell (q : Fin 16) (v : Option Word) (s : State) : Res := .next (s.doorbellAccess q.val v)

/-- CQ_HEAD_DOORBELL (R416, R418). -/
def execCqHeadDoorbell (q : Fin 16) (v : Option Word) (s : State) : Res := .next (s.doorbellAccess (ringCq q.val) v)

/-- RR_HEAD_DOORBELL (R411, R416). -/
def execRrHeadDoorbell (r : Fin 16) (v : Option Word) (s : State) : Res := .next (s.doorbellAccess (ringRr r.val) v)

/-- EVENT_HEAD_DOORBELL (R414, R416). -/
def execEventHeadDoorbell (v : Option Word) (s : State) : Res := .next (s.doorbellAccess ringEvt v)

/-- ACCESSION_HEAD_DOORBELL (R415, R416). -/
def execAccessionHeadDoorbell (v : Option Word) (s : State) : Res := .next (s.doorbellAccess ringAcc v)

/-- SQ_FETCH_FAIL (R440): the cause less one, in the order of Table 11-6. -/
def execSqFetchFail (q : Fin 16) (cause : Fin 3) (s : State) : Res :=
  .next (if s.flag Fld.HIF_STATUS_CMD_READY && s.ringOpen q.val && !s.flag (Fld.HIF_RING_CTL_HALT q.val) && decide (0 < (s.ring q.val).used) then
    (s.set (Fld.HIF_RING_CTL_HALT q.val) 1).event 0x0003 q.val [(s.ring q.val).head, cause.val + 1]
  else s)

/-- IRQ_TIMER (R431): TIME_US after the first record not yet signalled; a TIME_US of 0 sets no time. -/
def execIrqTimer (r : Fin 50) (s : State) : Res :=
  let x := s.ring r.val
  let t := s.get (Fld.HIF_RING_IRQ_TIME_US r.val)
  .next (if decide (16 ≤ r.val) && s.flag (Fld.HIF_RING_IRQ_EN r.val) && t != 0 && decide (0 < x.unsignalled)
      && decide (t * 500 ≤ s.since x.firstTick) then s.sendRingIrq r.val
  else s)

/-- What resets the host interface (R403): a hot reset, a link-down, a return to D0. -/
def State.pcieReset (s : State) (c : PcieReset) : State :=
  match c with
  | .hotReset => s.ideStop.hostReset
  | .linkDown => (s.set Fld.HIF_STATUS_LINK_UP 0).ideStop.hostReset
  | .toD0 => if s.flag Fld.HIF_STATUS_D3HOT then (s.set Fld.HIF_STATUS_D3HOT 0).hostReset else s

/-- PCIE_RESET (R403). -/
def execPcieReset (c : PcieReset) (s : State) : Res := .next (if s.img.pwrOk && s.flag Fld.HIF_STATUS_LINK_UP then s.pcieReset c else s)

/-- D3HOT_ENTRY (R404). -/
def execD3hotEntry (s : State) : Res := .next (if s.img.pwrOk && s.flag Fld.HIF_STATUS_LINK_UP then s.set Fld.HIF_STATUS_D3HOT 1 else s)

/-- Ticks of a slot at nominal clock (Table 2-1). -/
def slotTicks : Stage → Nat
  | .intake => 1
  | .catalogue => 16
  | .vitrine => 1
  | .arbor => 10
  | .galleries => 40
  | .verdict => 4
  | .gather => 0
  | .guard => 0

/-- R62, Table 15-3: ticks of a slot under the clocks in force, rounded up. -/
def State.slotTicks (s : State) (st : Stage) : Nat :=
  let l := s.pwr.clockLevel
  match st with
  | .galleries => ceilDiv (Machine.slotTicks st * 16) (16 - min l 8)
  | _ => ceilDiv (Machine.slotTicks st * 10) (10 - (l - 8))

/-- The unit of an engine, where the stage's engines are units (Table 16-4). -/
def engineUnit (st : Stage) (e : Nat) : Option UnitId :=
  match st with
  | .intake => some ⟨.parser, e⟩
  | .catalogue => some ⟨.catalogue, e⟩
  | .vitrine => some ⟨.bank, e⟩
  | .gather => some ⟨.gather, e⟩
  | .arbor => some ⟨.arbor, e⟩
  | .galleries => some ⟨.gallery, e⟩
  | .guard => none
  | .verdict => none

/-- UNIT_TIMEOUT (R597, UNIT_TMO of Table 16-2): a grant not complete 20 µs after its slot. -/
def execUnitTimeout (st : Stage) (e : Fin 48) (s : State) : Res :=
  .next (match s.grantOn st e.val with
    | some g =>
      if s.slotTicks st + 10000 ≤ s.since g.tick ∧ ¬s.stopped then
        let s := s.transient (engineUnit st e.val) 0x0401
        if s.grants.contains g then s.repeatGrant g else s
      else s
    | none => s)

end Sys2Proof.Machine
end

