-- ==== Sys2Proof/Machine/Mgmt.lean ====
section
/-!
DEFINITION. Management over SMBus, attestation and IDE key management (R434 to R439; Tables 11-16 to 11-19). The spec names the standards
(MCTP, PLDM, SPDM, DOE, IDE_KM); what it says of an answer is the message's content, and the standards lay out its bytes (log entry 9).
Sessions of a transport are numbered 0 and 1; their identifiers on the wire are part of the messages' bytes.
-/
namespace Sys2Proof.Machine

/-- A message is answered. -/
def State.answer (s : State) (what : String) (content request : Bytes) : State :=
  s.emit (.message what content (Config.answer what content request))

/-- A management command runs while the device is powered. -/
def State.manage (s : State) (run : State → State) : Res := .next (if s.img.pwrOk then run s else s)

/-! MCTP control -/

/-- 0 and 0xFF identify no endpoint (log entry 9). -/
def endpointOk (e : Byte) : Bool := e != 0 && e != 0xFF

/-- SET_ENDPOINT_ID (R436). -/
def execSetEndpointId (eid : Byte) (s : State) : Res :=
  s.manage (fun s =>
    let s := if endpointOk eid then { s with mgmt := { s.mgmt with eid := eid.toNat } } else s
    s.answer "SET_ENDPOINT_ID" [byte (b2n (!endpointOk eid)), byte s.mgmt.eid] [eid])

/-- GET_ENDPOINT_ID (R436). -/
def execGetEndpointId (s : State) : Res := s.manage (fun s => s.answer "GET_ENDPOINT_ID" [byte s.mgmt.eid] [])

/-- GET_ENDPOINT_UUID (R436). -/
def execGetEndpointUuid (s : State) : Res := s.manage (fun s => s.answer "GET_ENDPOINT_UUID" (s.window 0x10 16) [])

/-- GET_MCTP_VERSION_SUPPORT (R436). -/
def execGetMctpVersionSupport (type : Byte) (s : State) : Res := s.manage (fun s => s.answer "GET_MCTP_VERSION_SUPPORT" [] [type])

/-- GET_MESSAGE_TYPE_SUPPORT (R436, Table 11-17). -/
def execGetMessageTypeSupport (s : State) : Res := s.manage (fun s => s.answer "GET_MESSAGE_TYPE_SUPPORT" [0, 1, 5] [])

/-- MCTP_UNSUPPORTED_CMD (R436, Table 11-17): an unsupported control message; a message of an unsupported type is discarded. Supported
messages are commands of their own. -/
def execMctpUnsupportedCmd (type command : Byte) (s : State) : Res :=
  s.manage (fun s => if type = 0 ∧ ¬(1 ≤ command.toNat ∧ command.toNat ≤ 5) then s.answer "ERROR_UNSUPPORTED_CMD" [command] [command] else s)

/-! PLDM -/

/-- GET_TID (R436). -/
def execGetTid (s : State) : Res := s.manage (fun s => s.answer "GET_TID" [byte s.mgmt.tid] [])

/-- SET_TID (R436). -/
def execSetTid (tid : Byte) (s : State) : Res :=
  s.manage (fun s =>
    let s := if endpointOk tid then { s with mgmt := { s.mgmt with tid := tid.toNat } } else s
    s.answer "SET_TID" [byte (b2n (!endpointOk tid))] [tid])

/-- GET_PLDM_VERSION (R436). -/
def execGetPldmVersion (type : Byte) (s : State) : Res := s.manage (fun s => s.answer "GET_PLDM_VERSION" [] [type])

/-- GET_PLDM_TYPES (R436): base and monitoring. -/
def execGetPldmTypes (s : State) : Res := s.manage (fun s => s.answer "GET_PLDM_TYPES" [0, 2] [])

/-- GET_PLDM_COMMANDS (R436). -/
def execGetPldmCommands (type : Byte) (s : State) : Res := s.manage (fun s => s.answer "GET_PLDM_COMMANDS" [] [type])

/-- GET_PDR_REPOSITORY_INFO (R436): 9 numeric sensors and 187 state sensors (Tables 11-16, 11-17). -/
def execGetPdrRepositoryInfo (s : State) : Res := s.manage (fun s => s.answer "GET_PDR_REPOSITORY_INFO" (toLe 2 9 ++ toLe 2 187) [])

/-- GET_PDR (R436). -/
def execGetPdr (handle : Word) (s : State) : Res := s.manage (fun s => s.answer "GET_PDR" [] (toLe 4 handle.toNat))

/-- Table 11-17: the numeric sensors: highest junction temperature, six HBM stacks, package power, VDD. -/
def State.numericSensor (s : State) (k : Nat) : Nat :=
  if k = 0 then s.get Fld.THM_MAX
  else if k ≤ 6 then s.get (Fld.THM_HBM (k - 1))
  else if k = 7 then s.get Fld.PWR_PKG_MW
  else match (upto 16).find? (fun v => Config.vddSensor (24 + v)) with
    | some v => s.get (Fld.THM_SENSOR_VALUE (24 + v))
    | none => 0

/-- GET_SENSOR_READING (R436). -/
def execGetSensorReading (sensor : Fin 9) (s : State) : Res :=
  s.manage (fun s => s.answer "GET_SENSOR_READING" (toLe 4 (s.numericSensor sensor.val)) [byte sensor.val])

/-- GET_STATE_SENSOR_READINGS (R434): a state read of a unit. -/
def execGetStateSensorReadings (u : Fin 187) (s : State) : Res :=
  s.manage (fun s =>
    let v := s.viewWord (0x21000 + 4 * u.val)
    (s.readUnit u.val).answer "GET_STATE_SENSOR_READINGS" (toLe 4 v) [byte u.val])

/-- SET_EVENT_RECEIVER (R436). -/
def execSetEventReceiver (receiver : Option Byte) (s : State) : Res :=
  s.manage (fun s => ({ s with mgmt := { s.mgmt with receiver := receiver.map BitVec.toNat } }).answer "SET_EVENT_RECEIVER" [] [])

/-! SPDM -/

/-- What a transport's connection has negotiated. -/
def State.conn (s : State) (t : Transport) : Connection :=
  match t with
  | .doe => s.mgmt.doe
  | .mctp => s.mgmt.smbus

/-- A connection changed. -/
def State.setConn (s : State) (t : Transport) (c : Connection) : State :=
  match t with
  | .doe => { s with mgmt := { s.mgmt with doe := c } }
  | .mctp => { s with mgmt := { s.mgmt with smbus := c } }

/-- An SPDM ERROR, by the name of its code. -/
def State.spdmError (s : State) (code : String) (request : Bytes) : State := s.answer ("ERROR " ++ code) [] request

/-- An SPDM response; one larger than the requester takes is kept to be read in chunks. -/
def State.respond (s : State) (t : Transport) (what : String) (content request : Bytes) : State :=
  let b := Config.answer what content request
  let c := s.conn t
  if c.maxMessage ≠ 0 ∧ c.maxMessage < b.length then
    let (h, s) := s.free 8
    (s.setConn t { c with chunksOut := some (h, b) }).emit (.message "ERROR LargeResponse" [byte h] (Config.answer "ERROR LargeResponse" [byte h] request))
  else s.emit (.message what content b)

/-- A request that needs the algorithms to have been negotiated. -/
def State.negotiated (s : State) (t : Transport) (request : Bytes) (run : State → State) : Res :=
  s.manage (fun s => if (s.conn t).algorithms then run s else s.spdmError "UnexpectedRequest" request)

/-- The certificate chain of a slot (R437). -/
def State.certChain (s : State) (slot : Nat) : Option Bytes :=
  if slot = 0 then s.img.otp.map (fun o => o.chain)
  else if slot = 1 then (s.findSection s.img.bank 5 0).map (s.sectionBytes s.img.bank)
  else none

/-- GET_VERSION (R437): the supported versions; the connection starts over. -/
def execGetVersion (t : Transport) (s : State) : Res :=
  s.manage (fun s =>
    let s := s.setConn t Connection.reset
    let s := { s with mgmt := { s.mgmt with sessions := s.mgmt.sessions.filter (fun x => x.transport != t) } }
    s.respond t "VERSION" [0x13, 0x12] [])

/-- Table 11-18: CERT, CHAL, MEAS with signature, MEAS_FRESH, ENCRYPT, MAC, KEY_EX, HBEAT, KEY_UPD, CHUNK, CSR as the flag bits of DSP0274
(PRESUMED, log entry 9). -/
def spdmCapabilities : Nat :=
  2 ^ 1 + 2 ^ 2 + 2 ^ 4 + 2 ^ 5 + 2 ^ 6 + 2 ^ 7 + 2 ^ 9 + 2 ^ 13 + 2 ^ 14 + 2 ^ 17 + 2 ^ 20

/-- GET_CAPABILITIES (R437): the version asked for, and the largest message that the requester takes. -/
def execGetCapabilities (t : Transport) (version : Byte) (maxMessage : Word) (s : State) : Res :=
  s.manage (fun s =>
    if version = 0x13 ∨ version = 0x12 then
      (s.setConn t { Connection.reset with version := version.toNat, maxMessage := maxMessage.toNat }).respond t "CAPABILITIES" (toLe 4 spdmCapabilities) [version]
    else s.spdmError "VersionMismatch" [version])

/-- NEGOTIATE_ALGORITHMS (R437): whether the requester offers ECDSA P-384, SHA-384, secp384r1 and AES-256-GCM. -/
def execNegotiateAlgorithms (t : Transport) (offered : Bool) (request : Bytes) (s : State) : Res :=
  s.manage (fun s =>
    let c := s.conn t
    if c.version = 0 then s.spdmError "UnexpectedRequest" request
    else if offered then (s.setConn t { c with algorithms := true }).respond t "ALGORITHMS" [] request
    else s.spdmError "InvalidRequest" request)

/-- GET_DIGESTS (R437): of the chains in slots 0 and 1. -/
def execGetDigests (t : Transport) (s : State) : Res :=
  s.negotiated t [] (fun s => s.respond t "DIGESTS" ([0, 1].flatMap (fun k => ((s.certChain k).map sha384).getD [])) [])

/-- GET_CERTIFICATE (R437): a part of a slot's chain, with its length and what remains after it. -/
def execGetCertificate (t : Transport) (slot : Byte) (off len : BitVec 16) (s : State) : Res :=
  let request := [slot] ++ toLe 2 off.toNat ++ toLe 2 len.toNat
  s.negotiated t request (fun s =>
    match s.certChain slot.toNat with
    | some c =>
      if off.toNat ≤ c.length then
        let part := (c.drop off.toNat).take len.toNat
        s.respond t "CERTIFICATE" (toLe 2 part.length ++ toLe 2 (c.length - off.toNat - part.length) ++ part) request
      else s.spdmError "InvalidRequest" request
    | none => s.spdmError "InvalidRequest" request)

/-- R437: only slot 0 signs. -/
def State.signed (s : State) (t : Transport) (slot : Byte) (what : String) (content request : Bytes) : State :=
  if slot = 0 then s.respond t what content request else s.spdmError "InvalidRequest" request

/-- CHALLENGE (R437). -/
def execChallenge (t : Transport) (slot : Byte) (request : Bytes) (s : State) : Res :=
  s.negotiated t request (fun s => s.signed t slot "CHALLENGE_AUTH" [] request)

/-- Table 11-19: a measurement block (R439). -/
def State.measurement (s : State) (k : Nat) : Option Bytes :=
  let b := s.get Fld.IMG_STATE_FORCE_BANK
  if k = 1 then some Config.romDigest
  else if k = 2 then some (sha384 (((s.imgSections s.img.bank).find? (fun x => x.type == 1)).map (s.sectionBytes s.img.bank) |>.getD []))
  else if k = 3 then some ([byte b] ++ toLe 2 (s.get Fld.IMG_EPOCH_IMAGE) ++ sha384 (s.nvmRead b 0 (hdrSigned (s.imgHeader b))))
  else if k = 4 then some (sha384 s.trimBytes)
  else if k = 5 then some ([0xB0, byte (s.get Fld.GLB_ID_PART_DET_CLASS)] ++ s.window Fld.GLB_OTP_DEBUG_LOCK.off 4)
  else if k = 6 then some (s.window Fld.VRD_CSET.off 4 ++ s.acc.digest)
  else if k = 7 then some (toLe 2 (s.get Fld.IMG_EPOCH_MANIFEST) ++ s.fab.manifestDig)
  else none

/-- Measurement blocks one after another: index, length, bytes. -/
def State.measurements (s : State) (ks : List Nat) : Bytes :=
  ks.flatMap (fun k => match s.measurement k with
    | some m => [byte k] ++ toLe 2 m.length ++ m
    | none => [])

/-- GET_MEASUREMENTS (R439): the number of blocks (index 0), all of them (0xFF) or one, signed by the slot given or unsigned. -/
def execGetMeasurements (t : Transport) (index : Byte) (sign : Option Byte) (request : Bytes) (s : State) : Res :=
  s.negotiated t request (fun s =>
    let k := index.toNat
    if 8 ≤ k ∧ k ≠ 255 then s.spdmError "InvalidRequest" request
    else
      let content := if k = 0 then [7] else if k = 255 then s.measurements [1, 2, 3, 4, 5, 6, 7] else s.measurements [k]
      match sign with
      | some slot => s.signed t slot "MEASUREMENTS signed" content request
      | none => s.respond t "MEASUREMENTS" content request)

/-- GET_CSR (R438): over the Accession seal key. -/
def execGetCsr (t : Transport) (request : Bytes) (s : State) : Res :=
  s.negotiated t request (fun s => s.respond t "CSR" [] request)

/-! Secured sessions -/

/-- A session of a transport. -/
def State.session? (s : State) (t : Transport) (k : Nat) : Option Session := s.mgmt.sessions.find? (fun x => x.transport == t && x.slot == k)

/-- A session changed. -/
def State.modSession (s : State) (t : Transport) (k : Nat) (f : Session → Session) : State :=
  { s with mgmt := { s.mgmt with sessions := mapWhere s.mgmt.sessions (fun x => x.transport == t && x.slot == k) f } }

/-- KEY_EXCHANGE (R437, Table 11-18): at most 2 sessions per transport. -/
def execKeyExchange (t : Transport) (slot : Byte) (request : Bytes) (s : State) : Res :=
  s.negotiated t request (fun s =>
    if slot ≠ 0 then s.spdmError "InvalidRequest" request
    else match (upto 2).find? (fun k => (s.session? t k).isNone) with
      | none => s.spdmError "SessionLimitExceeded" request
      | some k =>
        let s := { s with mgmt := { s.mgmt with sessions := s.mgmt.sessions ++ [(⟨t, k, false, 0, s.now⟩ : Session)] } }
        s.respond t "KEY_EXCHANGE_RSP" [byte k] request)

/-- A message in a session of which FINISH has been received or not. -/
def State.inSession (s : State) (t : Transport) (k : Nat) (established : Bool) (run : State → State) : Res :=
  s.manage (fun s => match s.session? t k with
    | some x => if x.established = established then run (s.modSession t k (fun x => { x with last := s.now })) else s.spdmError "UnexpectedRequest" []
    | none => s.spdmError "UnexpectedRequest" [])

/-- FINISH (R437): `ok` says that its verification data is correct; otherwise the session ends. -/
def execFinish (t : Transport) (k : Fin 2) (ok : Bool) (s : State) : Res :=
  s.inSession t k.val false (fun s =>
    if ok then (s.modSession t k.val (fun x => { x with established := true })).respond t "FINISH_RSP" [byte k.val] []
    else ({ s with mgmt := { s.mgmt with sessions := s.mgmt.sessions.filter (fun x => !(x.transport == t && x.slot == k.val)) } }).spdmError "DecryptError" [])

/-- HEARTBEAT (R437). -/
def execHeartbeat (t : Transport) (k : Fin 2) (s : State) : Res :=
  s.inSession t k.val true (fun s => s.respond t "HEARTBEAT_ACK" [byte k.val] [])

/-- KEY_UPDATE (R437). -/
def execKeyUpdate (t : Transport) (k : Fin 2) (s : State) : Res :=
  s.inSession t k.val true (fun s => (s.modSession t k.val (fun x => { x with updates := x.updates + 1 })).respond t "KEY_UPDATE_ACK" [byte k.val] [])

/-- END_SESSION (R437). -/
def execEndSession (t : Transport) (k : Fin 2) (s : State) : Res :=
  s.inSession t k.val true (fun s =>
    ({ s with mgmt := { s.mgmt with sessions := s.mgmt.sessions.filter (fun x => !(x.transport == t && x.slot == k.val)) } }).respond t
      "END_SESSION_ACK" [byte k.val] [])

/-! Large messages -/

/-- CHUNK_SEND (R437): a chunk of a large request; the request that is complete with its last chunk is a command of its own. -/
def execChunkSend (t : Transport) (handle : Byte) (first last : Bool) (data : Bytes) (s : State) : Res :=
  s.negotiated t data (fun s =>
    let c := s.conn t
    let whole := if first then some data else match c.chunksIn with
      | some (h, b) => if h = handle.toNat then some (b ++ data) else none
      | none => none
    match whole with
    | some b => (s.setConn t { c with chunksIn := if last then none else some (handle.toNat, b) }).answer "CHUNK_SEND_ACK" [handle] data
    | none => (s.setConn t { c with chunksIn := none }).spdmError "InvalidRequest" data)

/-- CHUNK_GET (R437): chunk `seq` of a large response, in parts as large as the requester takes; the last part ends it. -/
def execChunkGet (t : Transport) (handle : Byte) (seq : BitVec 16) (s : State) : Res :=
  let request := [handle] ++ toLe 2 seq.toNat
  s.negotiated t request (fun s =>
    let c := s.conn t
    match c.chunksOut with
    | some (h, b) =>
      if h = handle.toNat ∧ c.maxMessage * seq.toNat < b.length then
        let s := if b.length ≤ c.maxMessage * (seq.toNat + 1) then s.setConn t { c with chunksOut := none } else s
        s.answer "CHUNK_RESPONSE" ((b.drop (c.maxMessage * seq.toNat)).take c.maxMessage) request
      else s.spdmError "InvalidRequest" request
    | none => s.spdmError "InvalidRequest" request)

/-! DOE and IDE -/

/-- DOE_DISCOVERY (Table 11-1): Discovery, CMA/SPDM, Secured CMA/SPDM by index, and the next index or 0. -/
def execDoeDiscovery (index : Byte) (s : State) : Res :=
  s.manage (fun s => s.answer "DOE_DISCOVERY" (if index.toNat < 3 then [index, byte ((index.toNat + 1) % 3)] else []) [index])

/-- IDE_KM runs in a secured session over DOE only (Table 11-18). -/
def State.ideKm (s : State) (k : Nat) (run : State → State) : Res :=
  s.manage (fun s => match s.session? .doe k with
    | some x => if x.established then run (s.modSession .doe k (fun x => { x with last := s.now })) else s
    | none => s)

/-- IDE_KM_QUERY (R437). -/
def execIdeKmQuery (k : Fin 2) (s : State) : Res := s.ideKm k.val (fun s => s.respond .doe "QUERY_RESP" [] [])

/-- IDE_KM_KEY_PROG (R437): a key for a sub-stream, a direction and a key set. -/
def execIdeKmKeyProg (k : Fin 2) (sub : Fin 8) (transmit keySet : Bool) (key : Bytes) (s : State) : Res :=
  s.ideKm k.val (fun s =>
    let i := 4 * sub.val + 2 * b2n transmit + b2n keySet
    ({ s with mgmt := { s.mgmt with ideKeys := Tab.put s.mgmt.ideKeys i key } }).respond .doe "KP_ACK" [] [])

/-- IDE_KM_K_SET_GO (R437): a key set with a key becomes active, and the link IDE stream with it. -/
def execIdeKmKSetGo (k : Fin 2) (keySet : Bool) (s : State) : Res :=
  s.ideKm k.val (fun s =>
    if s.mgmt.ideKeys.any (fun e => e.1 % 2 == b2n keySet) then
      (({ s with mgmt := { s.mgmt with ideSet := some (b2n keySet) } }).set Fld.HIF_STATUS_IDE 1).respond .doe "K_GOSTOP_ACK" [] []
    else s.respond .doe "K_GOSTOP_ACK" [] [])

/-- IDE_KM_K_SET_STOP (R437): the key set in use stops, and the stream with it. -/
def execIdeKmKSetStop (k : Fin 2) (keySet : Bool) (s : State) : Res :=
  s.ideKm k.val (fun s =>
    let s := if s.mgmt.ideSet = some (b2n keySet) then s.ideStop else s
    s.respond .doe "K_GOSTOP_ACK" [] [])

end Sys2Proof.Machine
end

