-- ==== Sys2Proof/Machine/Models.lean ====
section
/-!
DEFINITION. Screening models at work: the feature assembler, Arbor units, Gallery programs (R249, R264, R266 to R271, R275 to
R279).
-/
namespace Sys2Proof.Machine

/-- R269: the FP32 word of a source by CONV (Table 7-7). -/
def featConv (conv v : Nat) : Nat :=
  match conv with
  | 0 => intToF32 (v % 2 ^ 32 : Nat)
  | 1 => intToF32 (signed 32 v)
  | 2 => v % 2 ^ 32
  | 3 => intToF32 (v % 256 : Nat)
  | 4 => bf16ToF32 (v % 65536)
  | _ => intToF32 (v % 2 ^ 64 : Nat)

/-- Bytes that a CONV reads. -/
def convSize (conv : Nat) : Nat :=
  match conv with
  | 3 => 1
  | 4 => 2
  | 5 => 8
  | _ => 4

/-- The lookup that a slot stands for: a KEY slot's own, an n-gram slot's first hit. -/
def slotLookup (f : Frame) (slot : Nat) : Option Lookup :=
  match slotSearches f slot with
  | [] => none
  | x :: _ => if x.ngram then (slotHits f slot).head?.map (fun h => h.2) else x.result

/-- The value of a feature map entry's source at list position `pos`, or nothing where it is absent (R269, R270, Table 7-8). A
field whose conversion yields bytes is read little-endian. -/
def featSource (f : Frame) (pos e : Nat) : Option Nat :=
  let slot := bits e 14 6
  let sel := bits e 20 8
  match bits e 10 4 with
  | 1 => (fieldAt f slot).map (fun x => x.num.getD (leNat (x.val.take 8)))
  | 2 =>
    if (slotSearches f slot).isEmpty then none
    else
      let r := slotResult f slot
      some (match sel with
        | 0 => bits r 0 1
        | 1 => bits r 1 1
        | 2 => bits r 2 3
        | 3 => bits r 5 1
        | 4 => bits r 32 9
        | 5 => bits r 48 32
        | _ => bits r 112 16)
  | 3 => (slotLookup f slot).bind (fun l => if l.hit then some (le l.data sel (convSize (bits e 28 3))) else none)
  | 4 => f.gather.map (fun g => g.feats.getD sel 0)
  | 5 => f.gather.map (fun g => bits g.flags sel 1)
  | 6 => some (bits f.catFlags sel 1)
  | 7 =>
    if sel / 16 < pos then (f.models.find? (fun m => m.pos == sel / 16)).bind (fun m => m.outs.getD (sel % 16) none) else none
  | _ => none

/-- A feature (R269). -/
def featureOf (f : Frame) (pos e : Nat) : Nat :=
  if bits e 10 4 = 0 then bits e 32 32
  else match featSource f pos e with
    | some v => featConv (bits e 28 3) v
    | none => if bit e 31 then bits e 32 32 else nan32

/-- The 1,024 features of a model at a list position. -/
def assemble (f : Frame) (pos : Nat) (c : Bytes) : List Nat :=
  let es := featureMap c
  (upto 1024).map (fun i => match es.find? (fun e => bits e 0 10 == i) with
    | some e => featureOf f pos e
    | none => nan32)

/-- Whether a stage that the frame uses has delivered. -/
def delivered (f : Frame) (st : Stage) : Bool := !usesStage f st || stageDelivered f st

/-- R271: whether every stage that a feature map draws on has delivered. -/
def sourcesReady (f : Frame) (pos : Nat) (c : Bytes) : Bool :=
  (featureMap c).all (fun e => match bits e 10 4 with
    | 2 => delivered f .vitrine
    | 3 => delivered f .vitrine
    | 4 => delivered f .gather
    | 5 => delivered f .gather
    | 6 => delivered f .catalogue
    | 7 => Nat.ble pos (bits e 24 4) || (match f.models.find? (fun m => m.pos == bits e 24 4) with
        | some m => m.finished
        | none => true)
    | _ => true)

/-- The next model of a frame's list (R271). -/
def nextModel (f : Frame) : Option ModelJob := f.models.find? (fun m => !m.started)

/-- R275: every model of a frame's list is pinned when the frame first enters the feature assembler. -/
def State.pinModels (s : State) (f : Frame) : Frame :=
  if f.models.any (fun m => m.pin.isSome) then f
  else { f with models := f.models.map (fun m =>
    let v := s.pinVersion f .model m.model
    { m with pin := v, digest := ((v.bind (fun v => s.resident .model m.model v)).map (fun r => r.digest)).getD [] }) }

/-- The outputs of a finished program as the frame holds them. -/
def programOuts (p : ProgRun) : List (Option Nat) := (upto 16).map (fun o => Tab.get? p.outs o)

/-- R264: a model's program completes. -/
def State.finishModel (s : State) (f : Frame) (m : ModelJob) (c : Bytes) : State :=
  let p := runProgram c m.feats
  let outs := programOuts p
  let nans := (outs.filter (fun o => match o with
    | some w => isNan32 w
    | none => false)).length
  let s := ((((s.count Fld.GAL_PROG_CNT).countBy Fld.GAL_SAT_CNT p.sat).countBy Fld.ARB_MISS_CNT p.miss).countBy Fld.GAL_NAN_CNT nans)
  let s := { s with grants := s.grants.filter (fun g => !(g.frame == f.key && g.work == Work.program m.pos)) }
  s.modFrame f.key (fun f => settleStages (modModel m.pos (fun m => { m with outs := outs, finished := true }) f))

/-- R271: a model starts: its features are assembled, its Arbor units and Gallery slots become eligible. -/
def State.startModel (s : State) (f : Frame) (m : ModelJob) (c : Bytes) : State :=
  let t := arborUnits c
  let g := programSlots c
  let m := { m with started := true, treesToGrant := t, treesToDo := t, slotsToGrant := g, slotsToDo := g, feats := assemble f m.pos c }
  s.putFrame (settleStages (modModel m.pos (fun _ => m) f))

/-- Whether the next model of a frame may start, with the version it pins. -/
def State.modelReady (s : State) (f : Frame) : Option (Frame × ModelJob) :=
  if screening f && !s.stopped then
    let f := s.pinModels f
    (nextModel f).bind (fun m => if sourcesReady f m.pos (s.contentOf .model m.model (m.pin.getD 0)) then some (f, m) else none)
  else none

/-- MODEL_START: R269 to R271, R275, R278. A version that is missing or BAD uses up the frame's retries. -/
def execModelStart (frame : Nat) (s : State) : Res :=
  match (s.frame? frame).bind s.modelReady with
  | some (f, m) =>
    if s.contentBad .model m.model (m.pin.getD 0) then .next ((s.putFrame f).retryFrame frame .galleries).2
    else .next (s.startModel f m (s.contentOf .model m.model (m.pin.getD 0)))
  | none => .next s

/-- R278: an uncorrectable error in a resident container. -/
def State.modelLost (s : State) (f : Frame) (pos : Nat) : State :=
  match (f.models.find? (fun m => m.pos == pos)).bind (fun m => m.pin.map (fun v => (m.model, v))) with
  | some (i, v) => (s.hbmUe 2).markBad .model i v
  | none => s

/-- R277: an ECC-corrected error or an engine fault in Arbor or a Gallery is transient. -/
def State.classifierEnd (s : State) (u : UnitId) (e : UnitEnd) (ecc : Fld) : State :=
  match e with
  | .ok => s
  | .ce => (s.count ecc).corrected (some u) 0x0101
  | .ue => s.transient (some u) 0x0102

/-- A group of trees completes. -/
def State.treesDone (s : State) (g : Grant) (pos : Nat) : State :=
  let s := (s.endGrant g).count Fld.ARB_UNIT_CNT
  s.modFrame g.frame (fun f => settleStages (modModel pos (fun m =>
    { m with treesToDo := m.treesToDo - 1, readyAt := if m.treesToDo = 1 then some (w64 (s.now + 20)) else m.readyAt }) f))

/-- The end of an Arbor unit. -/
def State.endTrees (s : State) (g : Grant) (pos : Nat) (work : UnitEnd) (contentUe : Bool) : State :=
  let s := match contentUe, s.frame? g.frame with
    | true, some f => s.modelLost f pos
    | _, _ => s
  let s := s.classifierEnd ⟨.arbor, g.engine⟩ work Fld.ARB_ECC_CNT
  if work = .ok && !contentUe then s.treesDone g pos else s.repeatGrant g

/-- ARBOR_UNIT_DONE: R266 to R268, R277 to R279. A unit takes one slot of 20 ns; the scores are ready 40 ns after the last. -/
def execArborUnitDone (engine : Fin 8) (work : UnitEnd) (contentUe : Bool) (s : State) : Res :=
  match s.grantOn .arbor engine.val with
  | some g =>
    match g.work with
    | .trees pos _ _ => if Nat.ble 10 (s.since g.tick) then .next ((s.endTrees g pos work contentUe).touchUnit .arbor engine.val) else .next s
    | _ => .next s
  | none => .next s

/-- The slots of a program granted so far. -/
def State.programGrants (s : State) (k pos : Nat) : List Grant := s.grants.filter (fun g => g.frame == k && g.work == Work.program pos)

/-- The program of a frame at a list position whose every unit and slot is over, 100 ns after the last slot. -/
def State.programOver (s : State) (frame pos : Nat) : Option (Frame × ModelJob) :=
  (s.frame? frame).bind (fun f => (f.models.find? (fun m => m.pos == pos)).bind (fun m =>
    if screening f && m.started && !m.finished && m.treesToDo == 0 && m.slotsToGrant == 0 && m.readyAt.all s.reached
      && (s.programGrants frame pos).all (fun g => Nat.ble 90 (s.since g.tick)) then some (f, m) else none))

/-- The end of a program. -/
def State.endProgram (s : State) (f : Frame) (m : ModelJob) (work : UnitEnd) (contentUe : Bool) : State :=
  let s := if contentUe then s.modelLost f m.pos else s
  let e := m.gallery.getD 0
  let s := (s.classifierEnd ⟨.gallery, e⟩ work Fld.GAL_ECC_CNT).touchUnit .galleries e
  if work = .ok && !contentUe && !s.contentBad .model m.model (m.pin.getD 0) then
    s.finishModel f m (s.contentOf .model m.model (m.pin.getD 0))
  else
    let (ok, s) := s.retryFrame f.key .galleries
    if ok then s.restartProgram f.key m.pos else s

/-- GALLERY_PROGRAM_DONE: R254 to R264, R267, R277 to R279. -/
def execGalleryProgramDone (frame : Nat) (pos : Fin 4) (work : UnitEnd) (contentUe : Bool) (s : State) : Res :=
  match s.programOver frame pos.val with
  | some (f, m) => .next (s.endProgram f m work contentUe)
  | none => .next s

end Sys2Proof.Machine
end

