-- ==== Sys2Proof/Machine/RegCmds.lean ====
section
/-!
DEFINITION. The register accesses that are commands of their own, lane tests and the test access port (R7, R8, R10, R89, R125, R420, R421,
R434, R440, R573 to R575, R606, R617 to R624, R660, R664; Tables 16-10, 16-11). Reads on the JTAG path stand for the access that
REG_ACCESS makes.
-/
namespace Sys2Proof.Machine

/-! Accesses -/

/-- REGISTER_WRITE (R10, R401, R441, R654, R656): a write of `size` bytes over PCIe. -/
def execRegisterWrite (b : Bar) (off : BitVec 26) (size : Fin 9) (poisoned : Bool) (v : BitVec 64) (s : State) : Res :=
  s.pcieWrite b off.toNat size.val poisoned v.toNat

/-- LOW_WORD_READ (R7, R8): a read, which latches the high word of a pair. -/
def execLowWordRead (p : Path) (off : BitVec 26) (size : Fin 9) (s : State) : Res := .next (s.pathRead p off.toNat size.val)

/-- COUNTER_READ_CLEAR (R8): a read, which clears what has access code RC. -/
def execCounterReadClear (p : Path) (off : BitVec 26) (size : Fin 9) (s : State) : Res := .next (s.pathRead p off.toNat size.val)

/-- UNIT_STATE_READ (R434): a read of HIF_UNIT_STATE. -/
def execUnitStateRead (p : Path) (u : Fin 187) (s : State) : Res := .next (s.pathRead p (0x21000 + 4 * u.val) 4)

/-- WINDOW_STATUS_READ (R420): a read of BAR4. -/
def execWindowStatusRead (off : BitVec 22) (size : Fin 9) (s : State) : Res := .next (s.pcieRead .bar4 off.toNat size.val)

/-- WINDOW_ACK (R421): a write to BAR4. -/
def execWindowAck (off : BitVec 22) (size : Fin 9) (v : BitVec 64) (s : State) : Res :=
  s.pcieWrite .bar4 off.toNat size.val false v.toNat

/-- RING_ENABLE (R440): a write of a ring's EN and SIZE_LOG2 over PCIe. -/
def execRingEnable (p : Path) (r : Fin 50) (v : Word) (s : State) : Res := s.pathWrite p (Fld.HIF_RING_CTL_EN r.val).off v.toNat

/-- TID_RATE_WRITE (R573). -/
def execTidRateWrite (p : Path) (v : Word) (s : State) : Res := s.pathWrite p Fld.TID_RATE.off v.toNat

/-- TID_SLEW_WRITE (R574). -/
def execTidSlewWrite (p : Path) (v : Word) (s : State) : Res := s.pathWrite p Fld.TID_SLEW.off v.toNat

/-- TID_SET_CMD (R575). -/
def execTidSetCmd (p : Path) (s : State) : Res := s.pathWrite p Fld.TID_SET_CMD.off 1

/-- SA_INSTALL (R125). -/
def execSaInstall (p : Path) (s : State) : Res := s.pathWrite p Fld.INT_SA_CMD.off 1

/-- SA_DISABLE (R89). -/
def execSaDisable (p : Path) (s : State) : Res := s.pathWrite p Fld.INT_SA_CMD.off 2

/-- LEDGER_FETCH (R606). -/
def execLedgerFetch (p : Path) (s : State) : Res := s.pathWrite p Fld.FLT_LEDGER_CMD.off 1

/-! Lane tests -/

/-- LANE_TEST_CONTROL (R617 to R622): a write of TST_LANE_CTL. -/
def execLaneTestControl (p : Path) (l : Fin 37) (v : Word) (s : State) : Res := s.pathWrite p (Fld.TST_LANE_CTL_GEN_EN l.val).off v.toNat

/-- ERROR_INJECT (R619): a write of 1 to INJECT that leaves the other controls. -/
def execErrorInject (p : Path) (l : Fin 37) (s : State) : Res :=
  s.pathWrite p (Fld.TST_LANE_CTL_GEN_EN l.val).off ((s.regWord (Fld.TST_LANE_CTL_GEN_EN l.val).off).toNat ||| 0x100)

/-- CHECKER_LOCK (R619). -/
def execCheckerLock (l : Fin 37) (s : State) : Res :=
  .next (if s.flag (Fld.TST_LANE_CTL_CHK_EN l.val) then s.set (Fld.TST_LANE_STAT_LOCK l.val) 1 else s)

/-- CHECKER_LOCK_LOSS (R619): the bits and errors counted since the counters last changed, and the errors in the last 256 bits. -/
def execCheckerLockLoss (l : Fin 37) (counted errors : Nat) (recent : Fin 257) (s : State) : Res :=
  .next (
    if s.flag (Fld.TST_LANE_STAT_LOCK l.val) && decide (32 ≤ recent.val) then
      let s := (s.count64 (Fld.TST_LANE_BITS l.val) counted).count64 (Fld.TST_LANE_ERR l.val) errors
      let s := (s.set (Fld.TST_LANE_STAT_LOCK l.val) 0).count (Fld.TST_LANE_LOSS_CNT l.val)
      s.event 0x0068 l.val [recent.val]
    else s)

/-! The test access port -/

/-- The TAP works whenever VAON and VIO are present. -/
def State.tapOn (s : State) : Bool := s.img.vaon && s.img.vio

/-- An instruction loaded. -/
def State.tapLoad (s : State) (ir : Nat) : State := { s with tap := { s.tap with ir := ir, driving := false } }

/-- R624: an instruction that stops the data path. -/
def State.tapStop (s : State) (ir : Nat) : State := (s.tapLoad ir).stopPath

/-- R624: an instruction that drives the balls from the boundary register, shifted in as given. -/
def State.tapDrive (s : State) (ir boundary : Nat) : State :=
  let s := s.tapStop ir
  { s with tap := { s.tap with boundary := boundary, driving := true } }

/-- IDCODE (R664): stepping B0, part 0x2440, the manufacturer field of GLB_IDCODE. -/
def execIdcode (s : State) : Res := .next (if s.tapOn then (s.tapLoad 1).emit (.tdo 32 0x1244056F) else s)

/-- SAMPLE_PRELOAD (R624): what is preloaded. -/
def execSamplePreload (boundary : Nat) (s : State) : Res :=
  .next (if s.tapOn then
    let s := s.tapLoad 2
    { s with tap := { s.tap with boundary := boundary } }
  else s)

/-- EXTEST (R624). -/
def execExtest (boundary : Nat) (s : State) : Res := .next (if s.tapOn then s.tapDrive 3 boundary else s)

/-- CLAMP (R624): the boundary outputs hold. -/
def execClamp (s : State) : Res := .next (if s.tapOn then s.tapDrive 4 s.tap.boundary else s)

/-- HIGHZ (R624): the outputs float. -/
def execHighz (s : State) : Res := .next (if s.tapOn then s.tapStop 5 else s)

/-- EXTEST_PULSE (R624). -/
def execExtestPulse (boundary : Nat) (s : State) : Res := .next (if s.tapOn then s.tapDrive 6 boundary else s)

/-- EXTEST_TRAIN (R624). -/
def execExtestTrain (boundary : Nat) (s : State) : Res := .next (if s.tapOn then s.tapDrive 7 boundary else s)

/-- BYPASS (R623, Table 16-11): BYPASS or an undefined opcode. -/
def execBypass (s : State) : Res := .next (if s.tapOn then (s.tapLoad 0xFF).emit (.tdo 1 0) else s)

/-- TEST_LOGIC_RESET (R624): IDCODE is loaded; a stopped data path stays stopped. -/
def execTestLogicReset (s : State) : Res := .next (if s.tapOn then { s with tap := { s.tap with ir := 1, driving := false } } else s)

/-- REG_ACCESS (R8, R622, R623, R660, Table 16-11): the shift brings out what the last access left, Update-DR makes the next one. -/
def execRegAccess (write : Bool) (off : BitVec 26) (data : Word) (s : State) : Res :=
  if s.tapOn then
    let o := off.toNat
    let s := (s.tapLoad 0x20).emit (.tdo 64 s.tap.dr)
    let keep := fun (s : State) (d : Nat) => { s with tap := { s.tap with dr := b2n write * 2 ^ 63 + o * 2 ^ 32 + d } }
    if o % 4 ≠ 0 then .next (if s.reaches .jtag o then (keep s 0).count Fld.HIF_BAD_ACCESS_CNT else keep s 0)
    else if write then s.busWrite .jtag o data.toNat |> fun r => match r with
      | .next s => .next (keep s data.toNat)
      | x => x
    else
      let (v, s) := s.busRead .jtag o
      .next (keep s v)
  else .next s

end Sys2Proof.Machine
end

