-- ==== Sys2Proof/Machine/Replay.lean ====
section
/-!
DEFINITION. Replay of a recorded frame (R395 to R397; Table 10-11).
-/
namespace Sys2Proof.Machine

/-- A replay descriptor (Table 10-11). -/
structure ReplayDescr where
  port : Nat
  record : Bytes
  entries : List Bytes
  /-- Version entries: kind, index, version. -/
  items : List (Nat × Nat × Nat)
  frame : Bytes
  deriving DecidableEq, Repr

/-- The entries of a DETAIL record. -/
def detailEntries (r : Bytes) : List Bytes := (upto (byteAt r 3)).map (fun k => slice r (16 + 16 * k) 16)

/-- Whether a DETAIL record is one of a frame's (Table 10-9): PART in order, 1 to 5 entries of known kinds. -/
def detailOk (frameId : Nat) (part : Nat) (r : Bytes) : Bool :=
  byteAt r 0 == 2 && byteAt r 1 == 1 && byteAt r 2 == part && decide (1 ≤ byteAt r 3 ∧ byteAt r 3 ≤ 5) && le r 8 8 == frameId
    && (detailEntries r).all (fun e => decide (1 ≤ byteAt e 0 ∧ byteAt e 0 ≤ 7))

/-- A descriptor read; nothing where it is malformed (FORMAT). `len` is the descriptor length of the command. -/
def readReplay (len : Nat) (d : Bytes) : Option ReplayDescr :=
  let n := le d 4 4
  let items := le d 10 2
  let record := slice d 64 128
  let details := byteAt record 86
  let recs := (upto details).map (fun k => slice d (192 + 128 * k) 128)
  let at_ := 192 + 128 * details
  let vers := (upto items).map (fun k => slice d (at_ + 8 * k) 8)
  if d.length == len && decide (192 ≤ len) && le d 0 4 == 0x52504C59 && decide (byteAt d 8 ≤ 1) && byteAt d 9 == 0 && le d 12 52 == 0
      && byteAt record 0 == 1 && byteAt record 1 == 1 && len == at_ + 8 * items + n && decide (14 ≤ n ∧ n ≤ 9212)
      && (List.zip recs (upto details)).all (fun p => detailOk (le record 8 8) (p.2 + 1) p.1)
      && vers.all (fun v => decide (1 ≤ byteAt v 0 ∧ byteAt v 0 ≤ 5) && le v 2 2 == 0) then
    some ⟨byteAt d 8, record, recs.flatMap detailEntries, vers.map (fun v => (byteAt v 0, byteAt v 1, le v 4 4)), slice d (at_ + 8 * items) n⟩
  else none

/-- The version that a DETAIL entry names: of its table, or of what the frame pinned; for NGRAM that of the last search too. -/
def entryVersions (e : Bytes) : List (Nat × Nat × Nat) :=
  if byteAt e 0 = 2 then [(1, byteAt e 1, le e 4 4), (1, byteAt e 1, le e 8 4)]
  else if byteAt e 0 ≤ 3 then [(1, byteAt e 1, le e 4 4)]
  else [(byteAt e 0 - 2, byteAt e 1, le e 4 4)]

/-- Every version that a replay names. -/
def ReplayDescr.versions (d : ReplayDescr) : List (Nat × Nat × Nat) := d.items ++ d.entries.flatMap entryVersions

/-- Whether a version is resident: of tables and graphs the device holds one version. -/
def State.versionResident (s : State) (v : Nat × Nat × Nat) : Bool :=
  match v.1 with
  | 1 => decide (v.2.1 < 64) && (s.vtable v.2.1).ver == v.2.2
  | 2 => (s.resident .vocabulary v.2.1 v.2.2).isSome
  | 3 => (s.resident .model v.2.1 v.2.2).isSome
  | 4 => decide (v.2.1 < 4) && (s.graph v.2.1).ver == v.2.2
  | _ => (s.resident .automaton v.2.1 v.2.2).isSome

/-- R395: the first reply that refuses a replay. -/
def State.replayRefusal (s : State) (strand : Nat) (d : ReplayDescr) : Option Status :=
  if (sha256 d.frame).take 16 ≠ slice d.record 48 16 then some .digestMismatch
  else if (s.strand strand).epoch ≠ le d.record 26 2 then some .epochMismatch
  else if 31 < strand ∨ s.strandState strand ≠ .serving ∨ (s.strand strand).cls ≠ bits (byteAt d.record 5) 0 3 then some .strandMismatch
  else if d.versions.all s.versionResident then none
  else some .versionAbsent

/-- R396: the frame of a replay, waiting for its parse. -/
def State.replayFrame (s : State) (c : CmdRef) (strand : Nat) (d : ReplayDescr) : Frame :=
  let port := if d.port = 1 then EthPort.s else .n
  let (_, dset, _) := classify s.classRules s.classDefault d.port d.frame (layerWalk d.frame)
  let f := newFrame s.nextFrame port d.frame (d.frame.length + 4) (slice d.record 48 16)
  { f with kind := .replay ⟨c, d.record, d.entries, d.versions⟩, cls := bits (byteAt d.record 5) 0 3
           dset := dset, final := bit (le d.record 6 2) 2, tArr := le d.record 16 8, shift := le d.record 24 2
           strand := some strand, id := le d.record 8 8, cset := le d.record 36 4, epoch := le d.record 26 2, seed := le d.record 40 8
           seedDefaulted := bit (le d.record 6 2) 3, beatsToGrant := ceilDiv (d.frame.length + 4) 64 }

/-- A replay starts. -/
def State.startRerun (s : State) (c : CmdRef) (strand : Nat) (d : ReplayDescr) : State :=
  let f := s.replayFrame c strand d
  let s := { s with nextFrame := f.key + 1, frames := s.frames ++ [f] }
  if (s.liveEngines .intake).isEmpty then s.cause f.key .stageFault else s

/-- A replay is refused. -/
def State.refuseReplay (s : State) (c : CmdRef) (st : Status) : State := (s.count Fld.VRD_REPLAY_FAIL_CNT).complete c st.code []

/-- VRD_REPLAY (R395, R396): descriptor length, Strand, whether the payload's reserved bytes are 0, and the descriptor as it reads from
host memory; none where the read fails. -/
def execVrdReplay (q : Fin 16) (e : SqEntry) (len : Word) (strand : Fin 256) (reserved : Bool) (data : Option Bytes) (s : State) : Res :=
  .next (s.sqCommand q.val e 0x30 (fun c s =>
    match data with
    | none => s.refuseReplay c .dmaError
    | some b =>
      match (if reserved then readReplay len.toNat b else none) with
      | none => s.refuseReplay c .format
      | some d => match s.replayRefusal strand.val d with
        | some st => s.refuseReplay c st
        | none => s.startRerun c strand.val d))

/-- R397: the FRAME record of a replay. What only the recorded frame's arrival and release decided stands as recorded; REPLAY is set and
CHAIN is zero. -/
def State.replayRecord (s : State) (f : Frame) (recorded : Bytes) : Bytes :=
  let (offs, matches_) := s.redactOffsets f
  let f := { f with redacted := !offs.isEmpty, redactBytes := offs.length, redactMatches := matches_ }
  let r := padTo 128 (frameRecord f false false (isClosing f) true (byteAt recorded 86))
  let keep := le recorded 6 2 &&& 0x06FE
  overwrite r 6 (toLe 2 (keep + b2n f.redacted + 2048 * b2n f.redactOver + 4096))

/-- REPLAY_DONE (R397): screening has completed, or a cause of UNSCREENED has been met. -/
def execReplayDone (frame : Nat) (s : State) : Res :=
  match s.frame? frame with
  | some f =>
    match f.kind with
    | .replay r =>
      if (f.verdict.isSome || !f.causes.isEmpty) && !s.stopped then
        let f := s.settleVerdict f
        let s := (s.count Fld.VRD_REPLAY_CNT).complete r.cmd Status.ok.code (s.replayRecord f r.record)
        .next (s.forgetFrame f).freeOld
      else .next s
    | _ => .next s
  | none => .next s

end Sys2Proof.Machine
end

