-- ==== Sys2Proof/Machine/Dispatch.lean ====
section
/-!
DEFINITION. What each command does: one arm per command, in the order of the table.
-/
namespace Sys2Proof.Machine

/-- The effect of a command on everything but the queue of commands that wait. -/
def exec (i : Instr) (s : State) : Host.Outcome State Fault Refusal :=
  match i with
  | .frameRx port ps wire => Sys2Proof.Machine.execFrameRx port ps wire s
  | .intakeParseDone frame work => Sys2Proof.Machine.execIntakeParseDone frame work s
  | .streamIdleTimeout stream => Sys2Proof.Machine.execStreamIdleTimeout stream s
  | .wheelSlot stage engine => Sys2Proof.Machine.execWheelSlot stage engine s
  | .catalogueUnitDone engine work contentUe => Sys2Proof.Machine.execCatalogueUnitDone engine work contentUe s
  | .vitrineSearchResult frame id work parity => Sys2Proof.Machine.execVitrineSearchResult frame id work parity s
  | .vitrineUpdateSlot bank => Sys2Proof.Machine.execVitrineUpdateSlot bank s
  | .learnCommit table => Sys2Proof.Machine.execLearnCommit table s
  | .agingSweep table => Sys2Proof.Machine.execAgingSweep table s
  | .agingRemoval table => Sys2Proof.Machine.execAgingRemoval table s
  | .scrubRead bank mismatch shadow => Sys2Proof.Machine.execScrubRead bank mismatch shadow s
  | .tableBatchCommit table => Sys2Proof.Machine.execTableBatchCommit table s
  | .stackSearchIssue frame id => Sys2Proof.Machine.execStackSearchIssue frame id s
  | .searchRecordRx lost => Sys2Proof.Machine.execSearchRecordRx lost s
  | .reqRecordRx => Sys2Proof.Machine.execReqRecordRx s
  | .resultRecordRx => Sys2Proof.Machine.execResultRecordRx s
  | .linkRecordRx => Sys2Proof.Machine.execLinkRecordRx s
  | .reqTimeout otag => Sys2Proof.Machine.execReqTimeout otag s
  | .matchWordRx w => Sys2Proof.Machine.execMatchWordRx w s
  | .cascadeTimeout tag => Sys2Proof.Machine.execCascadeTimeout tag s
  | .matchTrainingWord word => Sys2Proof.Machine.execMatchTrainingWord word s
  | .gatherWalkStart frame => Sys2Proof.Machine.execGatherWalkStart frame s
  | .gatherReadGrant strand => Sys2Proof.Machine.execGatherReadGrant strand s
  | .gatherReadReturn frame pos read => Sys2Proof.Machine.execGatherReadReturn frame pos read s
  | .gatherReadTimeout frame pos => Sys2Proof.Machine.execGatherReadTimeout frame pos s
  | .creditBoundary => Sys2Proof.Machine.execCreditBoundary s
  | .creditDeadline frame => Sys2Proof.Machine.execCreditDeadline frame s
  | .arborUnitDone engine work contentUe => Sys2Proof.Machine.execArborUnitDone engine work contentUe s
  | .galleryProgramDone frame pos work contentUe => Sys2Proof.Machine.execGalleryProgramDone frame pos work contentUe s
  | .modelStart frame => Sys2Proof.Machine.execModelStart frame s
  | .verdictCommit frame work policyUe => Sys2Proof.Machine.execVerdictCommit frame work policyUe s
  | .frameDeadline frame => Sys2Proof.Machine.execFrameDeadline frame s
  | .releaseLead frame fetch => Sys2Proof.Machine.execReleaseLead frame fetch s
  | .frameRelease frame => Sys2Proof.Machine.execFrameRelease frame s
  | .tapCopyTx => Sys2Proof.Machine.execTapCopyTx s
  | .sealTimer chain => Sys2Proof.Machine.execSealTimer chain s
  | .accessionDrain read => Sys2Proof.Machine.execAccessionDrain read s
  | .strandSectionLoad strand => Sys2Proof.Machine.execStrandSectionLoad strand s
  | .strandEnterServing strand => Sys2Proof.Machine.execStrandEnterServing strand s
  | .strandDrainEnd strand => Sys2Proof.Machine.execStrandDrainEnd strand s
  | .drainStuck strand => Sys2Proof.Machine.execDrainStuck strand s
  | .staleGraceExpiry item => Sys2Proof.Machine.execStaleGraceExpiry item s
  | .guardRequestAdmit frame => Sys2Proof.Machine.execGuardRequestAdmit frame s
  | .coveStepStart cove => Sys2Proof.Machine.execCoveStepStart cove s
  | .coveStepCommit cove work gallery bad lost late => Sys2Proof.Machine.execCoveStepCommit cove work gallery bad lost late s
  | .guardOutputPost cove => Sys2Proof.Machine.execGuardOutputPost cove s
  | .batchRecordPost cove => Sys2Proof.Machine.execBatchRecordPost cove s
  | .requestFree slot => Sys2Proof.Machine.execRequestFree slot s
  | .guardDeadlineCheck frame => Sys2Proof.Machine.execGuardDeadlineCheck frame s
  | .coveWedgeTimeout cove => Sys2Proof.Machine.execCoveWedgeTimeout cove s
  | .archiveMoveStart cove => Sys2Proof.Machine.execArchiveMoveStart cove s
  | .archiveWriteDone slot => Sys2Proof.Machine.execArchiveWriteDone slot s
  | .archiveExpire key => Sys2Proof.Machine.execArchiveExpire key s
  | .archiveReadDone slot work crcFail => Sys2Proof.Machine.execArchiveReadDone slot work crcFail s
  | .archivePeerTimeout slot => Sys2Proof.Machine.execArchivePeerTimeout slot s
  | .nop q e => Sys2Proof.Machine.execNop q e s
  | .clLoad q e desc => Sys2Proof.Machine.execClLoad q e desc s
  | .loadStagingReady load => Sys2Proof.Machine.execLoadStagingReady load s
  | .loadDigestDone load content fault => Sys2Proof.Machine.execLoadDigestDone load content fault s
  | .loadCommit load fault => Sys2Proof.Machine.execLoadCommit load fault s
  | .graphLoadStart graph lines => Sys2Proof.Machine.execGraphLoadStart graph lines s
  | .graphLoadCommit graph => Sys2Proof.Machine.execGraphLoadCommit graph s
  | .gsCancel q e req frameId => Sys2Proof.Machine.execGsCancel q e req frameId s
  | .gsQuery q e req frameId => Sys2Proof.Machine.execGsQuery q e req frameId s
  | .gsPrefixFlush q e cove => Sys2Proof.Machine.execGsPrefixFlush q e cove s
  | .vrdReplay q e len strand reserved data => Sys2Proof.Machine.execVrdReplay q e len strand reserved data s
  | .replayDone frame => Sys2Proof.Machine.execReplayDone frame s
  | .badOpcode q e opcode => Sys2Proof.Machine.execBadOpcode q e opcode s
  | .imgSwap q e strand flags reserved => Sys2Proof.Machine.execImgSwap q e strand flags reserved s
  | .imgRoll q e bank flags wait reserved => Sys2Proof.Machine.execImgRoll q e bank flags wait reserved s
  | .rollVerifyDone => Sys2Proof.Machine.execRollVerifyDone s
  | .rollStrandStep => Sys2Proof.Machine.execRollStrandStep s
  | .rollWaitExpiry => Sys2Proof.Machine.execRollWaitExpiry s
  | .strandLoadTimeout => Sys2Proof.Machine.execStrandLoadTimeout s
  | .imgAbort q e reserved => Sys2Proof.Machine.execImgAbort q e reserved s
  | .imgPrepare q e bank reserved => Sys2Proof.Machine.execImgPrepare q e bank reserved s
  | .imgProgram q e bank offset length data reserved => Sys2Proof.Machine.execImgProgram q e bank offset length data reserved s
  | .imgVerify q e bank reserved => Sys2Proof.Machine.execImgVerify q e bank reserved s
  | .imgSelect q e bank reserved => Sys2Proof.Machine.execImgSelect q e bank reserved s
  | .sqTailDoorbell q v => Sys2Proof.Machine.execSqTailDoorbell q v s
  | .sqFetchFail q cause => Sys2Proof.Machine.execSqFetchFail q cause s
  | .cqHeadDoorbell q v => Sys2Proof.Machine.execCqHeadDoorbell q v s
  | .rrHeadDoorbell r v => Sys2Proof.Machine.execRrHeadDoorbell r v s
  | .eventHeadDoorbell v => Sys2Proof.Machine.execEventHeadDoorbell v s
  | .accessionHeadDoorbell v => Sys2Proof.Machine.execAccessionHeadDoorbell v s
  | .ringEnable p r v => Sys2Proof.Machine.execRingEnable p r v s
  | .irqTimer r => Sys2Proof.Machine.execIrqTimer r s
  | .windowStatusRead off size => Sys2Proof.Machine.execWindowStatusRead off size s
  | .windowAck off size v => Sys2Proof.Machine.execWindowAck off size v s
  | .pcieReset c => Sys2Proof.Machine.execPcieReset c s
  | .d3hotEntry => Sys2Proof.Machine.execD3hotEntry s
  | .unitStateRead p u => Sys2Proof.Machine.execUnitStateRead p u s
  | .setEndpointId eid => Sys2Proof.Machine.execSetEndpointId eid s
  | .getEndpointId => Sys2Proof.Machine.execGetEndpointId s
  | .getEndpointUuid => Sys2Proof.Machine.execGetEndpointUuid s
  | .getMctpVersionSupport type => Sys2Proof.Machine.execGetMctpVersionSupport type s
  | .getMessageTypeSupport => Sys2Proof.Machine.execGetMessageTypeSupport s
  | .getTid => Sys2Proof.Machine.execGetTid s
  | .setTid tid => Sys2Proof.Machine.execSetTid tid s
  | .getPldmVersion type => Sys2Proof.Machine.execGetPldmVersion type s
  | .getPldmTypes => Sys2Proof.Machine.execGetPldmTypes s
  | .getPldmCommands type => Sys2Proof.Machine.execGetPldmCommands type s
  | .getPdrRepositoryInfo => Sys2Proof.Machine.execGetPdrRepositoryInfo s
  | .getPdr handle => Sys2Proof.Machine.execGetPdr handle s
  | .getSensorReading sensor => Sys2Proof.Machine.execGetSensorReading sensor s
  | .getStateSensorReadings u => Sys2Proof.Machine.execGetStateSensorReadings u s
  | .setEventReceiver receiver => Sys2Proof.Machine.execSetEventReceiver receiver s
  | .getCertificate t slot off len => Sys2Proof.Machine.execGetCertificate t slot off len s
  | .challenge t slot request => Sys2Proof.Machine.execChallenge t slot request s
  | .getMeasurements t index sign request => Sys2Proof.Machine.execGetMeasurements t index sign request s
  | .getCsr t request => Sys2Proof.Machine.execGetCsr t request s
  | .keyExchange t slot request => Sys2Proof.Machine.execKeyExchange t slot request s
  | .pwrOkRise node smb test => Sys2Proof.Machine.execPwrOkRise node smb test s
  | .otpSensed otp => Sys2Proof.Machine.execOtpSensed otp s
  | .trimCheck => Sys2Proof.Machine.execTrimCheck s
  | .imageHeadersRead => Sys2Proof.Machine.execImageHeadersRead s
  | .imageStreamDone => Sys2Proof.Machine.execImageStreamDone s
  | .signatureCheckDone => Sys2Proof.Machine.execSignatureCheckDone s
  | .globalApply failed curatorBad => Sys2Proof.Machine.execGlobalApply failed curatorBad s
  | .hbmTrainingDone failed => Sys2Proof.Machine.execHbmTrainingDone failed s
  | .ddrTrainingDone populated failed identical rate size16 => Sys2Proof.Machine.execDdrTrainingDone populated failed identical rate size16 s
  | .pciePerstDeassert => Sys2Proof.Machine.execPciePerstDeassert s
  | .sectorEraseDone bank => Sys2Proof.Machine.execSectorEraseDone bank s
  | .nvmPageProgramDone bank failed => Sys2Proof.Machine.execNvmPageProgramDone bank failed s
  | .nvmReadTimeout bank strand => Sys2Proof.Machine.execNvmReadTimeout bank strand s
  | .recProgramPage => Sys2Proof.Machine.execRecProgramPage s
  | .recEraseSector => Sys2Proof.Machine.execRecEraseSector s
  | .recRestart => Sys2Proof.Machine.execRecRestart s
  | .pwrOkFall => Sys2Proof.Machine.execPwrOkFall s
  | .sysReset => Sys2Proof.Machine.execSysReset s
  | .fullResetGo forced bist => Sys2Proof.Machine.execFullResetGo forced bist s
  | .quiesceFramesDone => Sys2Proof.Machine.execQuiesceFramesDone s
  | .quiesceGuardDone => Sys2Proof.Machine.execQuiesceGuardDone s
  | .quiesceDrainDone => Sys2Proof.Machine.execQuiesceDrainDone s
  | .curatorWdt => Sys2Proof.Machine.execCuratorWdt s
  | .thermalConversion raw hbm => Sys2Proof.Machine.execThermalConversion raw hbm s
  | .clockLoss => Sys2Proof.Machine.execClockLoss s
  | .throttleStep => Sys2Proof.Machine.execThrottleStep s
  | .powerEstimate mw => Sys2Proof.Machine.execPowerEstimate mw s
  | .clockRaise => Sys2Proof.Machine.execClockRaise s
  | .vddLow sensor => Sys2Proof.Machine.execVddLow sensor s
  | .sensorCheckStart sensor => Sys2Proof.Machine.execSensorCheckStart sensor s
  | .sensorCheckDone sensor raw => Sys2Proof.Machine.execSensorCheckDone sensor raw s
  | .laneWindowDone lane occupancy means => Sys2Proof.Machine.execLaneWindowDone lane occupancy means s
  | .laneWindowStarved lane => Sys2Proof.Machine.execLaneWindowStarved lane s
  | .idleBank unit => Sys2Proof.Machine.execIdleBank unit s
  | .idlePark unit => Sys2Proof.Machine.execIdlePark unit s
  | .unitWakeStart unit => Sys2Proof.Machine.execUnitWakeStart unit s
  | .unitWakeDone unit lockFailed => Sys2Proof.Machine.execUnitWakeDone unit lockFailed s
  | .ppsEdge => Sys2Proof.Machine.execPpsEdge s
  | .ppsLost => Sys2Proof.Machine.execPpsLost s
  | .tidRateWrite p v => Sys2Proof.Machine.execTidRateWrite p v s
  | .tidSlewWrite p v => Sys2Proof.Machine.execTidSlewWrite p v s
  | .slewDone => Sys2Proof.Machine.execSlewDone s
  | .tidSetCmd p => Sys2Proof.Machine.execTidSetCmd p s
  | .saInstall p => Sys2Proof.Machine.execSaInstall p s
  | .saDisable p => Sys2Proof.Machine.execSaDisable p s
  | .ethLinkChange port up => Sys2Proof.Machine.execEthLinkChange port up s
  | .graphTargetWrite graph value => Sys2Proof.Machine.execGraphTargetWrite graph value s
  | .dataFlitRx port head vc sop eop seq payload => Sys2Proof.Machine.execDataFlitRx port head vc sop eop seq payload s
  | .nakFlitRx port head => Sys2Proof.Machine.execNakFlitRx port head s
  | .idleFlitRx port head => Sys2Proof.Machine.execIdleFlitRx port head s
  | .badFlitRx port lost0 lost1 fixes => Sys2Proof.Machine.execBadFlitRx port lost0 lost1 fixes s
  | .trainFlitRx port head f => Sys2Proof.Machine.execTrainFlitRx port head f s
  | .flitSlot port => Sys2Proof.Machine.execFlitSlot port s
  | .replayTimeout port => Sys2Proof.Machine.execReplayTimeout port s
  | .bringupStageDone port swap => Sys2Proof.Machine.execBringupStageDone port swap s
  | .bringupTimeout port fail0 fail1 => Sys2Proof.Machine.execBringupTimeout port fail0 fail1 s
  | .portRetryHold port => Sys2Proof.Machine.execPortRetryHold port s
  | .portRetrain port => Sys2Proof.Machine.execPortRetrain port s
  | .replRoundStart => Sys2Proof.Machine.execReplRoundStart s
  | .replBegin => Sys2Proof.Machine.execReplBegin s
  | .replData => Sys2Proof.Machine.execReplData s
  | .replEnd => Sys2Proof.Machine.execReplEnd s
  | .replFragmentWait replId => Sys2Proof.Machine.execReplFragmentWait replId s
  | .replAck => Sys2Proof.Machine.execReplAck s
  | .replWaitExpiry => Sys2Proof.Machine.execReplWaitExpiry s
  | .replPull => Sys2Proof.Machine.execReplPull s
  | .replPullTimer item => Sys2Proof.Machine.execReplPullTimer item s
  | .replFullNeeded => Sys2Proof.Machine.execReplFullNeeded s
  | .target => Sys2Proof.Machine.execTarget s
  | .catalogTimer => Sys2Proof.Machine.execCatalogTimer s
  | .archPut => Sys2Proof.Machine.execArchPut s
  | .archGet => Sys2Proof.Machine.execArchGet s
  | .archData => Sys2Proof.Machine.execArchData s
  | .archStatus => Sys2Proof.Machine.execArchStatus s
  | .ack => Sys2Proof.Machine.execAck s
  | .echo => Sys2Proof.Machine.execEcho s
  | .cwSetup => Sys2Proof.Machine.execCwSetup s
  | .cwConfirm => Sys2Proof.Machine.execCwConfirm s
  | .cwDown => Sys2Proof.Machine.execCwDown s
  | .cwSetupRetry causeway => Sys2Proof.Machine.execCwSetupRetry causeway s
  | .e2eResendTimeout msgId => Sys2Proof.Machine.execE2eResendTimeout msgId s
  | .escapeTimeout index => Sys2Proof.Machine.execEscapeTimeout index s
  | .flowIdle node => Sys2Proof.Machine.execFlowIdle node s
  | .rateIncrease node => Sys2Proof.Machine.execRateIncrease node s
  | .unitTimeout st e => Sys2Proof.Machine.execUnitTimeout st e s
  | .ledgerFetch p => Sys2Proof.Machine.execLedgerFetch p s
  | .laneTestControl p l v => Sys2Proof.Machine.execLaneTestControl p l v s
  | .errorInject p l => Sys2Proof.Machine.execErrorInject p l s
  | .idcode => Sys2Proof.Machine.execIdcode s
  | .samplePreload boundary => Sys2Proof.Machine.execSamplePreload boundary s
  | .extest boundary => Sys2Proof.Machine.execExtest boundary s
  | .clamp => Sys2Proof.Machine.execClamp s
  | .highz => Sys2Proof.Machine.execHighz s
  | .extestPulse boundary => Sys2Proof.Machine.execExtestPulse boundary s
  | .extestTrain boundary => Sys2Proof.Machine.execExtestTrain boundary s
  | .regAccess write off data => Sys2Proof.Machine.execRegAccess write off data s
  | .bypass => Sys2Proof.Machine.execBypass s
  | .testLogicReset => Sys2Proof.Machine.execTestLogicReset s
  | .lowWordRead p off size => Sys2Proof.Machine.execLowWordRead p off size s
  | .counterReadClear p off size => Sys2Proof.Machine.execCounterReadClear p off size s
  | .registerWrite b off size poisoned v => Sys2Proof.Machine.execRegisterWrite b off size poisoned v s
  | .vaonRise => Sys2Proof.Machine.execVaonRise s
  | .vaonFall => Sys2Proof.Machine.execVaonFall s
  | .vioRise => Sys2Proof.Machine.execVioRise s
  | .tidePllLock => Sys2Proof.Machine.execTidePllLock s
  | .bankVerifyDone bank => Sys2Proof.Machine.execBankVerifyDone bank s
  | .pcieLinkUp rate width flit => Sys2Proof.Machine.execPcieLinkUp rate width flit s
  | .configSpaceReady => Sys2Proof.Machine.execConfigSpaceReady s
  | .checkerLock l => Sys2Proof.Machine.execCheckerLock l s
  | .checkerLockLoss l counted errors recent => Sys2Proof.Machine.execCheckerLockLoss l counted errors recent s
  | .getVersion t => Sys2Proof.Machine.execGetVersion t s
  | .getCapabilities t version maxMessage => Sys2Proof.Machine.execGetCapabilities t version maxMessage s
  | .negotiateAlgorithms t offered request => Sys2Proof.Machine.execNegotiateAlgorithms t offered request s
  | .getDigests t => Sys2Proof.Machine.execGetDigests t s
  | .finish t k ok => Sys2Proof.Machine.execFinish t k ok s
  | .heartbeat t k => Sys2Proof.Machine.execHeartbeat t k s
  | .keyUpdate t k => Sys2Proof.Machine.execKeyUpdate t k s
  | .endSession t k => Sys2Proof.Machine.execEndSession t k s
  | .chunkSend t handle first last data => Sys2Proof.Machine.execChunkSend t handle first last data s
  | .chunkGet t handle seq => Sys2Proof.Machine.execChunkGet t handle seq s
  | .doeDiscovery index => Sys2Proof.Machine.execDoeDiscovery index s
  | .ideKmQuery k => Sys2Proof.Machine.execIdeKmQuery k s
  | .ideKmKeyProg k sub transmit keySet key => Sys2Proof.Machine.execIdeKmKeyProg k sub transmit keySet key s
  | .ideKmKSetGo k keySet => Sys2Proof.Machine.execIdeKmKSetGo k keySet s
  | .ideKmKSetStop k keySet => Sys2Proof.Machine.execIdeKmKSetStop k keySet s
  | .mctpUnsupportedCmd type command => Sys2Proof.Machine.execMctpUnsupportedCmd type command s

end Sys2Proof.Machine
end

