-- ==== Sys2Proof/Machine/Tick.lean ====
section
/-!
DEFINITION. What time alone does (R15, R572, Table 15-12; log entry 1).
-/
namespace Sys2Proof.Machine

/-- Ticks that a step of idling lasts: one, or before the PLL locks one cycle of the 25 MHz reference, 20 ticks (R572). -/
def State.stride (s : State) : Nat := if s.flag Fld.TID_TB_STATE_PLL_LOCKED then 1 else 20

/-- A moment passes without a command: the tide counter advances while VAON is present, and THM_THROTTLE_US counts the microseconds spent
at a throttle level above 0 (Table 15-12). -/
def State.tick (s : State) : State :=
  if s.img.vaon then
    let t := { s with now := w64 (s.now + s.stride) }
    if t.now / 500 ≠ s.now / 500 ∧ s.get Fld.PWR_THR_LEVEL ≠ 0 then t.count Fld.THM_THROTTLE_US else t
  else s

end Sys2Proof.Machine
end

