-- ==== Sys2Proof/Safety.lean ====
section
/-!
DEFINITION. What every reachable state keeps: the terms in which claims are stated.
-/
namespace Sys2Proof.Machine

/-- The register file in its canonical form: strictly rising offsets, no word equal to its reset value. -/
def regFileWf (r : RegFile) : Bool := Tab.canon regReset r

/-- There are 32 Strands and two NVM banks; the register file and both banks are in canonical form. -/
structure State.Inv (s : State) : Prop where
  regs : regFileWf s.reg = true
  strands : s.strands.length = 32
  banks : s.nvm.length = 2
  cells : ∀ b ∈ s.nvm, Memory.wf b.cells = true

/-! What a command may change. -/

/-- The parts of the state: its fields, the NVM banks as their bytes and what runs on them; the command queue is none of them, since
only a step changes it. -/
inductive Part where
  | now | freeCtr | out | reg | host | cells | ops | led | acc | strands
  | wheels | grants | frames | nextFrame | streams | calendar | tapQueue | sas | lastHanded
  | refused | stopped | served | content | maskCache | vit | gth | srv | img
  | pwr | nwl | stk | fab | mgmt | tap | rst | resetKey
  deriving DecidableEq, Repr

/-- What a write of a register may change. -/
def Part.bus : List Part :=
  [.now, .freeCtr, .out, .reg, .host, .cells, .ops, .led] ++ ([.strands, .grants, .frames, .tapQueue, .sas, .stopped] ++
    ([.content, .vit, .gth, .srv, .img, .pwr, .nwl] ++ [.stk, .fab, .mgmt, .tap, .rst, .resetKey]))

/-- Every part. -/
def Part.every : List Part :=
  [.now, .freeCtr, .out, .reg, .host, .cells, .ops, .led, .acc] ++ ([.strands, .wheels, .grants, .frames, .nextFrame, .streams, .calendar] ++
    ([.tapQueue, .sas, .lastHanded, .refused, .stopped, .served, .content, .maskCache] ++
      ([.vit, .gth, .srv, .img, .pwr, .nwl, .stk] ++ [.fab, .mgmt, .tap, .rst, .resetKey])))

/-- A part is as it was. -/
def Part.same : Part → State → State → Prop
  | .now, b, t => t.now = b.now
  | .freeCtr, b, t => t.freeCtr = b.freeCtr
  | .out, b, t => t.out = b.out
  | .reg, b, t => t.reg = b.reg
  | .host, b, t => t.host = b.host
  | .cells, b, t => t.nvm.map NvmBank.cells = b.nvm.map NvmBank.cells
  | .ops, b, t => t.nvm.map NvmBank.op = b.nvm.map NvmBank.op
  | .led, b, t => t.led = b.led
  | .acc, b, t => t.acc = b.acc
  | .strands, b, t => t.strands = b.strands
  | .wheels, b, t => t.wheels = b.wheels
  | .grants, b, t => t.grants = b.grants
  | .frames, b, t => t.frames = b.frames
  | .nextFrame, b, t => t.nextFrame = b.nextFrame
  | .streams, b, t => t.streams = b.streams
  | .calendar, b, t => t.calendar = b.calendar
  | .tapQueue, b, t => t.tapQueue = b.tapQueue
  | .sas, b, t => t.sas = b.sas
  | .lastHanded, b, t => t.lastHanded = b.lastHanded
  | .refused, b, t => t.refused = b.refused
  | .stopped, b, t => t.stopped = b.stopped
  | .served, b, t => t.served = b.served
  | .content, b, t => t.content = b.content
  | .maskCache, b, t => t.maskCache = b.maskCache
  | .vit, b, t => t.vit = b.vit
  | .gth, b, t => t.gth = b.gth
  | .srv, b, t => t.srv = b.srv
  | .img, b, t => t.img = b.img
  | .pwr, b, t => t.pwr = b.pwr
  | .nwl, b, t => t.nwl = b.nwl
  | .stk, b, t => t.stk = b.stk
  | .fab, b, t => t.fab = b.fab
  | .mgmt, b, t => t.mgmt = b.mgmt
  | .tap, b, t => t.tap = b.tap
  | .rst, b, t => t.rst = b.rst
  | .resetKey, b, t => t.resetKey = b.resetKey

/-- There are two banks, each in canonical form. -/
def banksOk (l : List NvmBank) : Prop := l.length = 2 ∧ ∀ x ∈ l, Memory.wf x.cells = true

/-- What holds of a part that an operation changes: the log only grows, free values are only taken, the register file and the banks keep
their canonical form, and the Strands stay 32. -/
def Part.grows : Part → State → State → Prop
  | .freeCtr, b, t => b.freeCtr ≤ t.freeCtr
  | .out, b, t => ∃ new, t.out = new ++ b.out
  | .reg, b, t => regFileWf b.reg = true → regFileWf t.reg = true
  | .cells, b, t => banksOk b.nvm → banksOk t.nvm
  | .strands, b, t => b.strands.length = 32 → t.strands.length = 32
  | _, _, _ => True

/-- `t` comes from `b` by changes to the parts of `ps` alone; the queue is as it was. -/
def Touches (ps : List Part) (b t : State) : Prop :=
  t.pending = b.pending ∧ ∀ p, (p ∈ ps ∧ p.grows b t) ∨ p.same b t

/-- The answer is a next state that comes from `b` by changes to the parts of `ps` alone. -/
def Answers (ps : List Part) (b : State) (r : Res) : Prop := ∃ t, r = .next t ∧ Touches ps b t

/-- If the answer is a next state, it comes from `b` by changes to the parts of `ps` alone. -/
def Stays (ps : List Part) (b : State) (r : Res) : Prop := ∀ t, r = .next t → Touches ps b t

/-- Every register word but those at the offsets of `offs` is as it was. -/
def OnlyWords (offs : List Nat) (b t : State) : Prop := ∀ off, off ∉ offs → t.regWord off = b.regWord off

/-! How a submission command ends. -/

/-- The entry `e` of submission ring `q` is taken and is not refused at once (R406, R418, R419). -/
def Takes (q : Fin 16) (e : SqEntry) (s : State) : Prop := s.sqReady q.val e = true ∧ e.resultTo ≠ 3 ∧ s.slotBusy e = false

/-- A completion with this KEY joined CQ `q`: it is held back, or a record that left since `b` bears it (R418, Table 11-4). -/
def OnCq (q : Nat) (key : Bytes) (b t : State) : Prop :=
  (∃ h ∈ (t.ring (ringCq q)).held, h.key = key)
    ∨ ∃ i bs, Output.ringRecord (ringCq q) i bs ∈ t.out.take (t.out.length - b.out.length) ∧ slice bs 8 8 = key

/-- The completion KEY of the entry `e` of ring `q`, taken now. -/
def keyOf (q : Fin 16) (e : SqEntry) (opcode : Nat) (st : Status) (b : State) : Bytes :=
  completionKey ⟨q.val, e, opcode, b.host.gen, b.now⟩ st.code

/-- The command of the entry `e` completes with a status, on its CQ, in its window slot, or on both, as RESULT_TO asks (R418, R420). -/
def Completed (q : Fin 16) (e : SqEntry) (opcode : Nat) (st : Status) (b t : State) : Prop :=
  (e.resultTo ≠ 1 → OnCq q.val (keyOf q e opcode st b) b t)
    ∧ (e.resultTo = 1 ∨ e.resultTo = 2 →
        ∃ w, Tab.get? t.host.win e.tag.val = some w ∧ w.ready = true ∧ slice w.result 8 8 = keyOf q e opcode st b)

/-! What a management message is answered with. -/

/-- One answer left, with what the spec says of its content; its bytes are laid out by the standards (log entry 9). -/
def Says (what : String) (content : Bytes) (b t : State) : Prop := ∃ bytes, t.out = .message what content bytes :: b.out

/-- An SPDM response of a transport left, or, where it is larger than the requester takes, waits to be read in chunks (R437). -/
def Replies (tr : Transport) (what : String) (content request : Bytes) (b t : State) : Prop :=
  let m := Config.answer what content request
  if (t.conn tr).maxMessage ≠ 0 ∧ (t.conn tr).maxMessage < m.length then
    ∃ h, (t.conn tr).chunksOut = some (h, m) ∧ Says "ERROR LargeResponse" [byte h] b t
  else Says what content b t

end Sys2Proof.Machine
end

