-- ==== Sys2Proof/Certificates/Slice0/Obligations.lean ====
section
/-!
DEFINITION. What is claimed of the device: the statements for the provers.
-/
open Sys2Proof Sys2Proof.Machine

/-- O1. Power rails, OTP and trim. VAON_RISE starts the tide counter from 0. VAON_FALL loses it, every register and the trip latch; the
banks keep their form and the queue stays. VIO_RISE drives VDD_VID to code 30. TIDE_PLL_LOCK sets PLL_LOCKED. Each changes only the parts
named; where its condition does not hold, nothing changes. PWR_OK_RISE samples the straps and enters phase OTP with the latched trip cause
in THM_STATE. OTP_SENSED, with TEST_EN low and the junction below 100 °C, fills GLB_OTP and enters phase TRIM. TRIM_CHECK applies the trim
block of bank A, or of bank B where that of A is bad, and drives VDD_VID; with neither it enters BOOT_FAIL with cause 0x0E.
IMAGE_HEADERS_READ picks a bank and enters STREAM. PWR_OK_FALL takes the device outside the always-on domain back to reset. -/
def Obligations.RailsAndSensing : Prop :=
  (∀ (s : State), s.img.vaon = false → ∃ t, exec .vaonRise s = .next t ∧ t.img.vaon = true ∧ t.now = 0 ∧ Touches [.now, .img] s t)
  ∧ (∀ (s : State), s.img.vaon = true → exec .vaonRise s = .next s)
  ∧ (∀ (s : State), s.img.vaon = true → ∃ t, exec .vaonFall s = .next t ∧ t.img = Img.reset ∧ t.now = 0 ∧ t.pwr = Power.reset ∧
      t.reg = [] ∧ t.strands = State.reset.strands ∧ t.frames = [] ∧ Touches Part.every s t)
  ∧ (∀ (s : State), s.img.vaon = false → exec .vaonFall s = .next s)
  ∧ (∀ (s : State), regFileWf s.reg = true → s.img.vaon = true → s.img.vio = false → ∃ t, exec .vioRise s = .next t ∧ t.img.vio = true ∧
      t.get Fld.PWR_VID = 30 ∧ OnlyWords [Fld.PWR_VID.off] s t ∧ Touches [.out, .reg, .img] s t)
  ∧ (∀ (s : State), s.img.vio = true → exec .vioRise s = .next s)
  ∧ (∀ (s : State), regFileWf s.reg = true → s.img.boot = .memory ∨ s.img.boot = .ready → ∃ t, exec .tidePllLock s = .next t ∧
      t.get Fld.TID_TB_STATE_PLL_LOCKED = 1 ∧ OnlyWords [Fld.TID_TB_STATE_PLL_LOCKED.off] s t ∧ Touches [.reg] s t)
  ∧ (∀ (node : BitVec 15) (smb : BitVec 3) (test : Bool) (s : State), regFileWf s.reg = true → s.img.vaon = true → s.img.vio = true →
      s.img.pwrOk = false → ∃ t, exec (.pwrOkRise node smb test) s = .next t ∧ t.img.pwrOk = true ∧ t.img.boot = .otp ∧
      t.img.startTick = s.now ∧ t.get Fld.GLB_STRAP_NODE_ADDR = node.toNat ∧ t.get Fld.GLB_STRAP_SMB_ADDR = smb.toNat ∧
      t.get Fld.GLB_STRAP_TEST_EN = b2n test ∧ t.get Fld.HIF_SMB_ADDR = 0x60 + smb.toNat ∧
      t.get Fld.THM_STATE_TRIP_LAST = s.pwr.latch % 4 ∧ t.get Fld.IMG_STATE_PHASE = 0 ∧
      OnlyWords [Fld.GLB_STRAP_NODE_ADDR.off, Fld.HIF_SMB_ADDR.off, Fld.THM_STATE_TRIP_LAST.off, Fld.IMG_STATE_PHASE.off] s t ∧
      Touches [.reg, .img] s t)
  ∧ (∀ (s : State), regFileWf s.reg = true → s.img.pwrOk = true → ∃ t, exec .pwrOkFall s = .next t ∧ t.img.pwrOk = false ∧
      t.img.boot = Img.reset.boot ∧ t.now = s.now ∧ t.strands = State.reset.strands ∧ t.frames = [] ∧ t.get Fld.PWR_VID = 30 ∧
      Touches Part.every s t)
  ∧ (∀ (otp : Otp) (s : State), regFileWf s.reg = true → s.img.boot = .otp → s.flag Fld.GLB_STRAP_TEST_EN = false → s.coolEnough = true →
      ∃ t, exec (.otpSensed otp) s = .next t ∧ t.img.otp = some otp ∧ t.img.boot = .trim ∧ t.get Fld.IMG_STATE_PHASE = 1 ∧
      t.get Fld.GLB_OTP_DEBUG_LOCK = b2n otp.debugLock ∧ t.get Fld.GLB_OTP_EC_REVOKED = otp.ecRevoked % 16 ∧
      t.get Fld.GLB_OTP_ML_REVOKED = otp.mlRevoked % 16 ∧ Touches [.reg, .img] s t)
  ∧ (∀ (otp : Otp) (s : State), s.flag Fld.GLB_STRAP_TEST_EN = true → exec (.otpSensed otp) s = .next s)
  ∧ (∀ (b : Bytes) (s : State), regFileWf s.reg = true → s.trimBlock 0 = some b → s.img.boot = .trim → ∃ t, exec .trimCheck s = .next t ∧
      t.pwr.trims = some b ∧ t.img.boot = .select ∧ t.get Fld.PWR_VID = byteAt b 64 % 64 ∧ Touches [.out, .reg, .img, .pwr] s t)
  ∧ (∀ (b : Bytes) (s : State), regFileWf s.reg = true → s.trimBlock 1 = some b → s.img.boot = .trim → s.trimBlock 0 = none →
      ∃ t, exec .trimCheck s = .next t ∧ t.pwr.trims = some b ∧ t.img.boot = .select ∧ t.get Fld.PWR_VID = byteAt b 64 % 64 ∧
      Touches [.out, .reg, .img, .pwr] s t)
  ∧ (∀ (s : State), regFileWf s.reg = true → s.img.boot = .trim → s.trimBlock 0 = none → s.trimBlock 1 = none →
      ∃ t, exec .trimCheck s = .next t ∧ t.img.boot = .fail ∧ t.get Fld.IMG_STATE_PHASE = 15 ∧ t.get Fld.IMG_STATE_FAIL = 0x0E ∧
      t.pwr = s.pwr ∧ Touches [.out, .reg, .img, .pwr] s t)
  ∧ (∀ (s : State), regFileWf s.reg = true → s.img.boot = .select → ∃ t, exec .imageHeadersRead s = .next t ∧ t.img.boot = .stream ∧
      t.img.retried = false ∧ t.get Fld.IMG_STATE_PHASE = 3 ∧ t.get Fld.IMG_NEXT_BANK = t.img.bank % 2 ∧
      Touches [.freeCtr, .reg, .led, .strands, .img] s t)

/-- O2. The start-up sequence: image, memory, PCIe. IMAGE_STREAM_DONE and SIGNATURE_CHECK_DONE move the start on where the bank passes;
where it fails, the other bank is tried once, and a second failure is BOOT_FAIL with its cause. GLOBAL_APPLY refuses a bank whose GLOBAL
section is missing or fails (fault 0x09). HBM_TRAINING_DONE, with the PLL locked, sets CMD_READY. DDR_TRAINING_DONE counts once; where the
modules differ, every ARCH_EN is 0. The signature and training verdicts come from outside the device. PCIE_PERST_DEASSERT notes its tick
once. PCIE_LINK_UP, with the trims applied, no link yet and no PCIe test control set, writes LINK_UP, RATE, WIDTH (at most the live
lanes), FLIT and BELOW_MIN, and no other register. CONFIG_SPACE_READY ends the Request Retry answers. Each leaves everything else as it
was. -/
def Obligations.StartUpSequence : Prop :=
  (∀ (s : State), regFileWf s.reg = true → s.img.boot = .stream → ∃ t, exec .imageStreamDone s = .next t ∧
      (s.wellFormedFault s.img.bank = 0 → t.img = { s.img with readRetries := [], boot := .sign } ∧ t.get Fld.IMG_STATE_PHASE = 4 ∧
      t.get Fld.IMG_FAULT = s.get Fld.IMG_FAULT) ∧ (s.wellFormedFault s.img.bank ≠ 0 → s.img.retried = false →
      t.img = { s.img with bank := 1 - s.img.bank, retried := true, boot := .stream } ∧ t.get Fld.IMG_STATE_PHASE = 3) ∧
      (s.wellFormedFault s.img.bank ≠ 0 → s.img.retried = true → t.img = { s.img with boot := .fail } ∧ t.get Fld.IMG_STATE_PHASE = 15 ∧
      t.get Fld.IMG_STATE_FAIL = s.wellFormedFault s.img.bank % 256) ∧ (s.wellFormedFault s.img.bank ≠ 0 →
      t.get Fld.IMG_FAULT = s.wellFormedFault s.img.bank % 256) ∧ Touches [.reg, .img] s t)
  ∧ (∀ (s : State), regFileWf s.reg = true → s.img.boot = .sign → ∃ t, exec .signatureCheckDone s = .next t ∧
      (s.signatureFault s.img.bank = 0 → t.img = { s.img with sigTick := s.now, boot := .global } ∧ t.get Fld.IMG_STATE_PHASE = 5 ∧
      t.get Fld.IMG_FAULT = s.get Fld.IMG_FAULT) ∧ (s.signatureFault s.img.bank ≠ 0 → s.img.retried = false →
      t.img = { s.img with bank := 1 - s.img.bank, retried := true, boot := .stream } ∧ t.get Fld.IMG_STATE_PHASE = 3) ∧
      (s.signatureFault s.img.bank ≠ 0 → s.img.retried = true → t.img = { s.img with boot := .fail } ∧ t.get Fld.IMG_STATE_PHASE = 15 ∧
      t.get Fld.IMG_STATE_FAIL = s.signatureFault s.img.bank % 256) ∧ (s.signatureFault s.img.bank ≠ 0 →
      t.get Fld.IMG_FAULT = s.signatureFault s.img.bank % 256) ∧ Touches [.reg, .img] s t)
  ∧ (∀ (failed : List UnitId) (curatorBad : Bool) (s : State), regFileWf s.reg = true → s.img.boot = .global →
      ∃ t, exec (.globalApply failed curatorBad) s = .next t ∧ (s.globalCheck s.img.bank = none → t.get Fld.IMG_FAULT = 9 ∧
      t.led = s.led ∧ t.strands = s.strands) ∧ (s.globalCheck s.img.bank = none → s.img.retried = false →
      t.img = { s.img with bank := 1 - s.img.bank, retried := true, boot := .stream } ∧ t.get Fld.IMG_STATE_PHASE = 3) ∧
      (s.globalCheck s.img.bank = none → s.img.retried = true → t.img = { s.img with boot := .fail } ∧ t.get Fld.IMG_STATE_PHASE = 15) ∧
      (∀ g ∈ (s.globalCheck s.img.bank).toList, g.img.bist = false → g.partitionOk g.liveHbm = true → t.img.boot = .memory ∧
      t.get Fld.IMG_STATE_PHASE = 6) ∧ (∀ g ∈ (s.globalCheck s.img.bank).toList, g.img.bist = false → g.partitionOk g.liveHbm = false →
      t.img.boot = .fail ∧ t.get Fld.IMG_STATE_FAIL = 0x12 ∧ t.strands = s.strands ∧ t.nwl = s.nwl ∧ t.fab = s.fab) ∧
      Touches [.freeCtr, .out, .reg, .host, .ops, .led, .acc, .strands, .grants, .frames, .content, .vit, .gth, .srv, .img, .nwl, .fab] s t)
  ∧ (∀ (failed : List (Fin 384)) (s : State), s.img.boot = .memory → s.flag Fld.TID_TB_STATE_PLL_LOCKED = true →
      ∃ t, exec (.hbmTrainingDone failed) s = .next t ∧ t.img.boot = .ready ∧ t.img.hbmDone = true ∧ t.fab.catalog = some s.now ∧
      Touches [.freeCtr, .out, .reg, .host, .ops, .led, .strands, .grants, .frames, .content, .vit, .gth, .srv, .img, .fab] s t)
  ∧ (∀ (failed : List (Fin 384)) (s : State), s.flag Fld.TID_TB_STATE_PLL_LOCKED = false → exec (.hbmTrainingDone failed) s = .next s)
  ∧ (∀ (populated : BitVec 4) (failed : BitVec 4) (identical : Bool) (rate : Fin 4) (size16 : Fin 256) (s : State), regFileWf s.reg = true →
      s.img.boot = .memory ∨ s.img.boot = .ready → s.img.ddrDone = false →
      ∃ t, exec (.ddrTrainingDone populated failed identical rate size16) s = .next t ∧ t.img = { s.img with ddrDone := true } ∧
      (identical = false → ∀ c < 8, t.get (Fld.SRV_PAUSE_CTL_ARCH_EN c) = 0) ∧
      Touches [.freeCtr, .out, .reg, .host, .ops, .led, .strands, .grants, .frames, .content, .vit, .gth, .srv, .img] s t)
  ∧ (∀ (populated : BitVec 4) (failed : BitVec 4) (identical : Bool) (rate : Fin 4) (size16 : Fin 256) (s : State), s.img.ddrDone = true →
      exec (.ddrTrainingDone populated failed identical rate size16) s = .next s)
  ∧ (∀ (s : State), s.img.perst = false → ∃ t, exec .pciePerstDeassert s = .next t ∧
      t.img = { s.img with perst := true, perstTick := s.now } ∧ Touches [.img] s t)
  ∧ (∀ (s : State), s.img.perst = true → exec .pciePerstDeassert s = .next s)
  ∧ (∀ (rate : Fin 6) (width : Fin 17) (flit : Bool) (s : State), regFileWf s.reg = true → s.img.perst = true →
      s.pwr.trims.isSome = true → s.flag Fld.HIF_STATUS_LINK_UP = false → s.pcieTested = false →
      ∃ t, exec (.pcieLinkUp rate width flit) s = .next t ∧ t.get Fld.HIF_STATUS_LINK_UP = 1 ∧ t.get Fld.HIF_STATUS_RATE = rate.val ∧
      t.get Fld.HIF_STATUS_WIDTH = min width.val s.pcieLanes ∧ t.get Fld.HIF_STATUS_FLIT = b2n flit ∧
      t.get Fld.HIF_STATUS_BELOW_MIN = b2n (decide (rate.val < 3)) ∧ t.get Fld.HIF_STATUS_CMD_READY = s.get Fld.HIF_STATUS_CMD_READY ∧
      t.get Fld.HIF_STATUS_D3HOT = s.get Fld.HIF_STATUS_D3HOT ∧ t.get Fld.HIF_STATUS_IDE = s.get Fld.HIF_STATUS_IDE ∧
      OnlyWords [Fld.HIF_STATUS_LINK_UP.off] s t ∧ Touches [.reg] s t)
  ∧ (∀ (rate : Fin 6) (width : Fin 17) (flit : Bool) (s : State), s.flag Fld.HIF_STATUS_LINK_UP = true →
      exec (.pcieLinkUp rate width flit) s = .next s)
  ∧ (∀ (s : State), s.img.pwrOk = true → s.img.perst = true → ∃ t, exec .configSpaceReady s = .next t ∧
      t.host = { s.host with configReady := true } ∧ Touches [.host] s t)
  ∧ (∀ (s : State), s.img.perst = false → exec .configSpaceReady s = .next s)

/-- O3. Full resets: the key, the quiesce and the forced reset. A write of GO without the key, or more than 1 ms after it, does nothing
but use the key up. With the key in time, a quiesced GO starts the quiesce at its first step, with every guard request cancelled.
QUIESCE_FRAMES_DONE, QUIESCE_GUARD_DONE and QUIESCE_DRAIN_DONE move it on. A forced GO, SYS_RESET and an enabled CURATOR_WDT go straight
to the RESET record; where that is not held up, the start resumes at step 2 with LAST_RESET_CAUSE, FORCED and BIST written. After a trip
no reset is taken. -/
def Obligations.FullResets : Prop :=
  (∀ (forced : Bool) (bist : Bool) (s : State), s.resetKey = none → exec (.fullResetGo forced bist) s = .next s)
  ∧ (∀ (forced : Bool) (bist : Bool) (k : Nat) (s : State), s.resetKey = some k → 500000 < s.since k →
      ∃ t, exec (.fullResetGo forced bist) s = .next t ∧ t.resetKey = none ∧ Touches [.resetKey] s t)
  ∧ (∀ (bist : Bool) (k : Nat) (s : State), regFileWf s.reg = true → s.resetKey = some k → s.since k ≤ 500000 → s.rst = none →
      s.img.pwrOk = true → s.pwr.tripped = false → ∃ t, exec (.fullResetGo false bist) s = .next t ∧ t.resetKey = none ∧
      t.rst = some ⟨.frames, s.now, 1, false, bist, none⟩ ∧ t.get Fld.FLT_STATE_QUIESCING = 1 ∧
      t.srv.requests = s.srv.requests.map (cancelRequest ⟨4, s.now, none⟩) ∧ OnlyWords [Fld.FLT_STATE_QUIESCING.off] s t ∧
      Touches [.reg, .srv, .rst, .resetKey] s t)
  ∧ (∀ (bist : Bool) (k : Nat) (s : State), s.resetKey = some k → s.since k ≤ 500000 → s.rst = none → s.img.pwrOk = true →
      s.pwr.tripped = false → ∃ t, exec (.fullResetGo true bist) s = .next t ∧ (t.img.boot = .otp ∨ ∃ r, t.rst = some r ∧
      r.step = .record ∧ r.cause = 1 ∧ r.forced = true ∧ r.bist = bist ∧ t.stopped = true) ∧ Touches Part.every s t)
  ∧ (∀ (s : State), regFileWf s.reg = true → s.rst = none → s.img.pwrOk = true → s.pwr.tripped = false → ∃ t, exec .sysReset s = .next t ∧
      (t.img.boot = .otp ∧ t.get Fld.FLT_LAST_RESET_CAUSE = 2 ∧ t.get Fld.FLT_LAST_RESET_FORCED = 1 ∧
      t.get Fld.FLT_LAST_RESET_BIST = 0 ∨ ∃ r, t.rst = some r ∧ r.step = .record ∧ r.cause = 2 ∧ r.forced = true ∧ t.stopped = true) ∧
      Touches Part.every s t)
  ∧ (∀ (s : State), s.pwr.tripped = true → exec .sysReset s = .next s)
  ∧ (∀ (s : State), regFileWf s.reg = true → s.img.boot = .ready → s.flag Fld.FLT_CTL_WDT_EN = true → s.rst = none → s.img.pwrOk = true →
      s.pwr.tripped = false → ∃ t, exec .curatorWdt s = .next t ∧ (t.img.boot = .otp ∧ t.get Fld.FLT_LAST_RESET_CAUSE = 3 ∧
      t.get Fld.FLT_LAST_RESET_FORCED = 1 ∨ ∃ r, t.rst = some r ∧ r.step = .record ∧ r.cause = 3 ∧ r.forced = true ∧ t.stopped = true) ∧
      Touches Part.every s t)
  ∧ (∀ (s : State), s.img.boot = .ready → s.flag Fld.FLT_CTL_WDT_EN = false → ∃ t, exec .curatorWdt s = .next t ∧ t.img = s.img ∧
      t.rst = s.rst ∧ t.frames = s.frames ∧ Touches [.out, .reg, .host] s t)
  ∧ (∀ (s : State), s.img.boot = .off → exec .curatorWdt s = .next s)
  ∧ (∀ (r : FullReset) (s : State), s.rst = some r → r.step = .frames → s.frames.all (fun f => !f.kind.timed) = true → s.stopped = false →
      ∃ t, exec .quiesceFramesDone s = .next t ∧ t.frames = [] ∧ t.rst = some { r with step := .guard, since := s.now } ∧
      Touches [.frames, .rst] s t)
  ∧ (∀ (s : State), s.rst = none → exec .quiesceFramesDone s = .next s)
  ∧ (∀ (r : FullReset) (s : State), s.rst = some r → r.step = .guard → s.guardQuiet = true ∨ 5000000 ≤ s.since r.since →
      s.stopped = false → ∃ t, exec .quiesceGuardDone s = .next t ∧ t.srv.requests = [] ∧
      t.rst = some { r with step := .drain, since := s.now } ∧ Touches [.reg, .acc, .srv, .rst] s t)
  ∧ (∀ (s : State), s.rst = none → exec .quiesceGuardDone s = .next s)
  ∧ (∀ (r : FullReset) (s : State), regFileWf s.reg = true → s.rst = some r → r.step = .drain →
      s.acc.buffer.isEmpty = true ∨ s.get Fld.FLT_CTL_DRAIN_MS * 500000 ≤ s.since r.since → s.stopped = false →
      ∃ t, exec .quiesceDrainDone s = .next t ∧ (t.img.boot = .otp ∧
      t.get Fld.FLT_LAST_RESET_CAUSE = r.cause % 256 ∨ ∃ x, t.rst = some x ∧
      x = { r with step := .record, since := s.now, seq := x.seq }) ∧ Touches Part.every s t)
  ∧ (∀ (s : State), s.rst = none → exec .quiesceDrainDone s = .next s)

/-- O4. NVM: programming, erasing, recovery, read errors. SECTOR_ERASE_DONE makes the 64 KiB of its erase blank in its bank and leaves
every other byte of that bank and the whole other bank as they were. NVM_PAGE_PROGRAM_DONE of an image or recovery page that succeeds
makes each byte the AND of what stood there and what was programmed, and leaves every byte outside the page. A bank on which nothing runs
is not changed. Both hold while no full reset is under way. In BOOT_FAIL, REC_PROGRAM_PAGE starts the program of IMG_REC_DATA at the page,
and REC_ERASE_SECTOR the erase of the sector, that IMG_REC_ADDR names: BUSY is set and no byte changes yet. While BUSY is set the command
is ignored; where the bank runs something else, FAILED is set. An offset at or past 0x2101_0000 is no address: the step faults.
REC_RESTART resumes the start at step 2. Outside BOOT_FAIL none of the three does anything. BANK_VERIFY_DONE of a commanded verification
sets the bank VALID or INVALID as its checks say, notes the first fault, and drops the verification. NVM_READ_TIMEOUT repeats a read that
is under way up to three times; a read of a bank being streamed or checked at start that still fails takes the start to the other bank, or
to BOOT_FAIL with cause 0x0F where both have been tried. Where no read is under way nothing happens. -/
def Obligations.NvmOperations : Prop :=
  (∀ (bank : Fin 2) (off : Nat) (rec : Bool) (s : State), s.rst = none → bank.val < s.nvm.length →
      (s.bank bank.val).op = some (.erase off rec) → ∃ t, exec (.sectorEraseDone bank) s = .next t ∧
      (t.bank bank.val).cells = eraseCells (s.bank bank.val).cells off 65536 ∧
      (t.bank (1 - bank.val)).cells = (s.bank (1 - bank.val)).cells ∧ Touches Part.every s t)
  ∧ (∀ (bank : Fin 2) (s : State), (s.bank bank.val).op = none → exec (.sectorEraseDone bank) s = .next s)
  ∧ (∀ (bank : Fin 2) (off : Nat) (data : Bytes) (s : State), s.rst = none → bank.val < s.nvm.length →
      (s.bank bank.val).op = some (.imagePage off data) → ∃ t, exec (.nvmPageProgramDone bank false) s = .next t ∧
      (t.bank bank.val).cells = programCells (s.bank bank.val).cells off data ∧
      (t.bank (1 - bank.val)).cells = (s.bank (1 - bank.val)).cells ∧ t.rst = none ∧ Touches Part.every s t)
  ∧ (∀ (bank : Fin 2) (off : Nat) (data : Bytes) (s : State), s.rst = none → bank.val < s.nvm.length →
      (s.bank bank.val).op = some (.recPage off data) → ∃ t, exec (.nvmPageProgramDone bank false) s = .next t ∧
      (t.bank bank.val).cells = programCells (s.bank bank.val).cells off data ∧
      (t.bank (1 - bank.val)).cells = (s.bank (1 - bank.val)).cells ∧ t.rst = none ∧ Touches Part.every s t)
  ∧ (∀ (bank : Fin 2) (failed : Bool) (s : State), (s.bank bank.val).op = none → exec (.nvmPageProgramDone bank failed) s = .next s)
  ∧ (∀ (s : State), regFileWf s.reg = true → s.img.boot = .fail → s.recPlace.2 < nvmSize → s.flag Fld.IMG_REC_STATUS_BUSY = false →
      (s.bank s.recPlace.1).op = none → s.recPlace.1 < s.nvm.length → ∃ t, exec .recProgramPage s = .next t ∧
      (t.bank s.recPlace.1).op = some (.recPage (s.recPlace.2 / 256 * 256) (s.window 0x10200 256)) ∧ t.get Fld.IMG_REC_STATUS_BUSY = 1 ∧
      t.get Fld.IMG_REC_STATUS_FAILED = 0 ∧ OnlyWords [Fld.IMG_REC_STATUS_BUSY.off] s t ∧ Touches [.reg, .ops] s t)
  ∧ (∀ (s : State), s.img.boot = .fail → s.recPlace.2 < nvmSize → s.flag Fld.IMG_REC_STATUS_BUSY = true →
      exec .recProgramPage s = .next s)
  ∧ (∀ (s : State), regFileWf s.reg = true → s.img.boot = .fail → s.recPlace.2 < nvmSize → s.flag Fld.IMG_REC_STATUS_BUSY = false →
      (s.bank s.recPlace.1).op = none → s.recPlace.1 < s.nvm.length → ∃ t, exec .recEraseSector s = .next t ∧
      (t.bank s.recPlace.1).op = some (.erase (s.recPlace.2 / 65536 * 65536) true) ∧ t.get Fld.IMG_REC_STATUS_BUSY = 1 ∧
      t.get Fld.IMG_REC_STATUS_FAILED = 0 ∧ OnlyWords [Fld.IMG_REC_STATUS_BUSY.off] s t ∧ Touches [.reg, .ops] s t)
  ∧ (∀ (s : State), regFileWf s.reg = true → s.img.boot = .fail → s.recPlace.2 < nvmSize → s.flag Fld.IMG_REC_STATUS_BUSY = false →
      (s.bank s.recPlace.1).op ≠ none → ∃ t, exec .recEraseSector s = .next t ∧ t.get Fld.IMG_REC_STATUS_FAILED = 1 ∧
      OnlyWords [Fld.IMG_REC_STATUS_FAILED.off] s t ∧ Touches [.reg] s t)
  ∧ (∀ (s : State), s.img.boot ≠ .fail → exec .recEraseSector s = .next s)
  ∧ (∀ (s : State), s.img.boot ≠ .fail → exec .recProgramPage s = .next s)
  ∧ (∀ (s : State), regFileWf s.reg = true → s.img.boot = .fail → ∃ t, exec .recRestart s = .next t ∧ t.img.boot = .otp ∧
      t.img.startTick = s.now ∧ t.now = s.now ∧ t.get Fld.HIF_STATUS_CMD_READY = 0 ∧ Touches Part.every s t)
  ∧ (∀ (s : State), s.img.boot ≠ .fail → exec .recRestart s = .next s)
  ∧ (∀ (bank : Fin 2) (c : CmdRef) (s : State), regFileWf s.reg = true →
      s.img.verifies.find? (fun v => v.bank == bank.val) = some ⟨bank.val, .command c⟩ → ∃ t, exec (.bankVerifyDone bank) s = .next t ∧
      t.get (Fld.IMG_BANK_STATE bank.val) = (if s.imageFault bank.val = 0 then 2 else 3) ∧ (s.imageFault bank.val ≠ 0 →
      t.get Fld.IMG_FAULT = s.imageFault bank.val % 256) ∧ t.img.verifies = s.img.verifies.filter (fun v => v != ⟨bank.val, .command c⟩) ∧
      Touches [.freeCtr, .out, .reg, .host, .ops, .led, .img] s t)
  ∧ (∀ (bank : Fin 2) (s : State), s.img.verifies = [] → exec (.bankVerifyDone bank) s = .next s)
  ∧ (∀ (bank : Fin 2) (s : State), s.readRuns bank.val none = true → Tab.getD s.img.readRetries bank.val 0 < 3 →
      ∃ t, exec (.nvmReadTimeout bank none) s = .next t ∧
      Tab.getD t.img.readRetries bank.val 0 = Tab.getD s.img.readRetries bank.val 0 + 1 ∧ t.img.boot = s.img.boot ∧
      t.img.bank = s.img.bank ∧
      Touches [.freeCtr, .out, .reg, .host, .ops, .led, .strands, .grants, .frames, .content, .vit, .gth, .srv, .img] s t)
  ∧ (∀ (bank : Fin 2) (s : State), regFileWf s.reg = true → s.img.boot = .stream → s.img.bank = bank.val →
      3 ≤ Tab.getD s.img.readRetries bank.val 0 → s.img.retried = false → ∃ t, exec (.nvmReadTimeout bank none) s = .next t ∧
      t.img.bank = 1 - bank.val ∧ t.img.retried = true ∧ t.img.boot = .stream ∧ t.get Fld.IMG_FAULT = 0x0F ∧
      Touches [.freeCtr, .out, .reg, .host, .ops, .led, .strands, .grants, .frames, .content, .vit, .gth, .srv, .img] s t)
  ∧ (∀ (bank : Fin 2) (s : State), regFileWf s.reg = true → s.img.boot = .stream → s.img.bank = bank.val →
      3 ≤ Tab.getD s.img.readRetries bank.val 0 → s.img.retried = true → ∃ t, exec (.nvmReadTimeout bank none) s = .next t ∧
      t.img.boot = .fail ∧ t.get Fld.IMG_STATE_FAIL = 0x0F ∧
      Touches [.freeCtr, .out, .reg, .host, .ops, .led, .strands, .grants, .frames, .content, .vit, .gth, .srv, .img] s t)
  ∧ (∀ (bank : Fin 2) (strand : Option (Fin 32)) (s : State), s.readRuns bank.val strand = false →
      exec (.nvmReadTimeout bank strand) s = .next s)

/-- O5. An NVM offset at or past 0x2101_0000 stops the step, and nothing else does. Of every command, only REC_PROGRAM_PAGE,
REC_ERASE_SECTOR and a write of a register (which may write IMG_REC_CMD) can answer a fault; the fault is the missing NVM address, and it
means that the device is in BOOT_FAIL with an offset of 0x2101_0000 or more in IMG_REC_ADDR. Every other command answers a next state in
every state, and no command is refused by the model. -/
def Obligations.NvmAddressEnds : Prop :=
  (∀ (s : State), s.img.boot = .fail → nvmSize ≤ s.recPlace.2 →
      exec .recProgramPage s = .fault .noSuchAddress ∧ exec .recEraseSector s = .fault .noSuchAddress)
  ∧ (∀ (i : Instr) (s : State), (∃ t, exec i s = .next t) ∨ exec i s = .fault .noSuchAddress)
  ∧ (∀ (i : Instr) (s : State), exec i s = .fault .noSuchAddress → s.img.boot = .fail ∧ nvmSize ≤ s.recPlace.2
      ∧ (match i with
        | .recProgramPage | .recEraseSector | .registerWrite .. | .regAccess .. => True
        | _ => False))

/-- O6. Thermal trip and throttle levels. With VAON present THERMAL_CONVERSION gives every sensor that is not STALE its converted reading,
leaves a STALE one, stores the six HBM temperatures, and trips where a sensor that counts reads the shutdown threshold or more. CLOCK_LOSS
trips with cause CLOCK: THERM_TRIP_N is driven, the data path stops and the latch holds 2; frames stay where they are. A device already
tripped, or without VAON, is not changed by CLOCK_LOSS. THROTTLE_STEP raises the thermal level by one, to at most 12, at or above 100 °C
and 100 µs after the last step, and lowers it below 97 °C after 1 ms; a held level stays. POWER_ESTIMATE stores the estimate and moves the
cap level: 0 without a cap, one up above the cap, one down after 1 ms below 95 % of it. The level L is the greater of the two. CLOCK_RAISE
lets the clocks follow. No level moves a release time. It rests on what the model chose in log entry 50. -/
def Obligations.ThermalLimits : Prop :=
  (∀ (raw : List (BitVec 12)) (hbm : List (BitVec 16)) (s : State), regFileWf s.reg = true → s.img.vaon = true → raw.length = 40 →
      hbm.length = 6 → ∃ t, exec (.thermalConversion raw hbm) s = .next t ∧ (∀ i < 40, s.flag (Fld.THM_SENSOR_STALE i) = false →
      t.get (Fld.THM_SENSOR_VALUE i) = toBitsInt 16 (s.convert i (raw.getD i 0).toNat)) ∧
      (∀ i < 40, s.flag (Fld.THM_SENSOR_STALE i) = true → t.get (Fld.THM_SENSOR_VALUE i) = s.get (Fld.THM_SENSOR_VALUE i)) ∧
      (∀ i < 6, t.get (Fld.THM_HBM i) = (hbm.getD i 0).toNat) ∧ (∀ i < 24, t.sensorCounts i = true → s.tripPoint ≤ t.sensorValue i →
      t.pwr.tripped = true) ∧ Touches [.freeCtr, .out, .reg, .host, .cells, .ops, .stopped, .pwr] s t)
  ∧ (∀ (raw : List (BitVec 12)) (hbm : List (BitVec 16)) (s : State), s.img.vaon = false → exec (.thermalConversion raw hbm) s = .next s)
  ∧ (∀ (s : State), s.img.vaon = true → s.pwr.tripped = false → ∃ t, exec .clockLoss s = .next t ∧ t.pwr.tripped = true ∧
      t.pwr.latch = 2 ∧ t.stopped = true ∧ t.out.head? = some (.thermTrip true) ∧
      Touches [.freeCtr, .out, .reg, .host, .cells, .ops, .stopped, .pwr] s t)
  ∧ (∀ (s : State), s.pwr.tripped = true → exec .clockLoss s = .next s)
  ∧ (∀ (s : State), s.img.vaon = false → exec .clockLoss s = .next s)
  ∧ (∀ (s : State), regFileWf s.reg = true → s.thermHeld = false → 800 ≤ signed 16 (s.get Fld.THM_MAX) → 50000 ≤ s.since s.pwr.thermStep →
      ∃ t, exec .throttleStep s = .next t ∧ t.get Fld.PWR_THR_THERMAL = min 12 (s.get Fld.PWR_THR_THERMAL + 1) ∧
      t.get Fld.PWR_THR_CAP = s.get Fld.PWR_THR_CAP ∧
      t.get Fld.PWR_THR_LEVEL = max (min 12 (s.get Fld.PWR_THR_THERMAL + 1)) (s.get Fld.PWR_THR_CAP) ∧ t.pwr.thermStep = s.now ∧
      t.pwr.trims = s.pwr.trims ∧ Touches [.out, .reg, .host, .pwr] s t)
  ∧ (∀ (s : State), regFileWf s.reg = true → s.thermHeld = false → signed 16 (s.get Fld.THM_MAX) < 776 → 0 < s.get Fld.PWR_THR_THERMAL →
      500000 ≤ s.since s.pwr.thermStep → ∃ t, exec .throttleStep s = .next t ∧ t.get Fld.PWR_THR_THERMAL = s.get Fld.PWR_THR_THERMAL - 1 ∧
      t.get Fld.PWR_THR_CAP = s.get Fld.PWR_THR_CAP ∧
      t.get Fld.PWR_THR_LEVEL = max (s.get Fld.PWR_THR_THERMAL - 1) (s.get Fld.PWR_THR_CAP) ∧ t.pwr.thermStep = s.now ∧
      Touches [.out, .reg, .host, .pwr] s t)
  ∧ (∀ (s : State), s.thermHeld = true → exec .throttleStep s = .next s)
  ∧ (∀ (mw : Word) (s : State), regFileWf s.reg = true → s.get Fld.PWR_CTL_CAP_W = 0 → ∃ t, exec (.powerEstimate mw) s = .next t ∧
      t.get Fld.PWR_PKG_MW = mw.toNat ∧ t.get Fld.PWR_THR_CAP = 0 ∧ t.get Fld.PWR_THR_THERMAL = s.get Fld.PWR_THR_THERMAL ∧
      t.get Fld.PWR_THR_LEVEL = s.get Fld.PWR_THR_THERMAL ∧ t.pwr.capBelow = s.pwr.capBelow ∧ Touches [.out, .reg, .host, .pwr] s t)
  ∧ (∀ (mw : Word) (s : State), regFileWf s.reg = true → 0 < s.get Fld.PWR_CTL_CAP_W → s.get Fld.PWR_CTL_CAP_W * 1000 < mw.toNat →
      ∃ t, exec (.powerEstimate mw) s = .next t ∧ t.get Fld.PWR_PKG_MW = mw.toNat ∧
      t.get Fld.PWR_THR_CAP = min 12 (s.get Fld.PWR_THR_CAP + 1) ∧ t.get Fld.PWR_THR_THERMAL = s.get Fld.PWR_THR_THERMAL ∧
      t.get Fld.PWR_THR_LEVEL = max (s.get Fld.PWR_THR_THERMAL) (min 12 (s.get Fld.PWR_THR_CAP + 1)) ∧ t.pwr.capBelow = s.now ∧
      Touches [.out, .reg, .host, .pwr] s t)
  ∧ (∀ (mw : Word) (s : State), regFileWf s.reg = true → 0 < s.get Fld.PWR_CTL_CAP_W → s.get Fld.PWR_CTL_CAP_W * 950 ≤ mw.toNat →
      mw.toNat ≤ s.get Fld.PWR_CTL_CAP_W * 1000 → ∃ t, exec (.powerEstimate mw) s = .next t ∧ t.get Fld.PWR_PKG_MW = mw.toNat ∧
      t.pwr = { s.pwr with capBelow := s.now } ∧ OnlyWords [Fld.PWR_PKG_MW.off] s t ∧ Touches [.reg, .pwr] s t)
  ∧ (∀ (x : Nat) (s : State), s.pwr.raiseAt = some x → s.reached x = true → ∃ t, exec .clockRaise s = .next t ∧
      t.pwr = { s.pwr with clockLevel := s.get Fld.PWR_THR_LEVEL, raiseAt := none } ∧ Touches [.pwr] s t)
  ∧ (∀ (s : State), s.pwr.raiseAt = none → exec .clockRaise s = .next s)

/-- O7. Sensors, supply and lane windows. VDD_LOW holds the thermal level at 12 once a VDD sensor has read low for 100 µs, and reports it
once. SENSOR_CHECK_START marks a sensor STALE when its check is due and no sensor of its group is STALE. SENSOR_CHECK_DONE, 200 µs later,
clears STALE, and where the check reading is too far off sets DEGRADED. With more than 8 die sensors DEGRADED, BLIND is set and the level
held at 12. A window of a lane that is up is judged: WINDOWS counts on, STARVED clears, a window that passes clears FAILS, one that fails
raises FAILS, sets DEGRADED and starts the passing count over. A window of a lane that is down begins anew. LANE_WINDOW_STARVED sets
STARVED after 10 s. A lane that is retired or under test gathers nothing. -/
def Obligations.SensorsAndLanes : Prop :=
  (∀ (sensor : Fin 16) (x : Nat) (s : State), regFileWf s.reg = true → Tab.get? s.pwr.lowSince sensor.val = some x → 50000 ≤ s.since x →
      s.pwr.lowHeld.contains sensor.val = false → ∃ t, exec (.vddLow sensor) s = .next t ∧ t.pwr.lowHeld = s.pwr.lowHeld ++ [sensor.val] ∧
      t.get Fld.PWR_THR_THERMAL = 12 ∧ t.thermHeld = true ∧ Touches [.out, .reg, .host, .pwr] s t)
  ∧ (∀ (sensor : Fin 16) (s : State), Tab.get? s.pwr.lowSince sensor.val = none → exec (.vddLow sensor) s = .next s)
  ∧ (∀ (sensor : Fin 40) (s : State), regFileWf s.reg = true → s.pwr.trims.isSome = true →
      (sensorGroup sensor.val).all (fun j => !s.flag (Fld.THM_SENSOR_STALE j)) = true →
      s.get Fld.THM_VERIFY * 500000 ≤ s.since (s.sensorVerify sensor.val).last → ∃ t, exec (.sensorCheckStart sensor) s = .next t ∧
      t.flag (Fld.THM_SENSOR_STALE sensor.val) = true ∧
      t.sensorVerify sensor.val = { s.sensorVerify sensor.val with check := some s.now, last := s.now } ∧
      OnlyWords [(Fld.THM_SENSOR_STALE sensor.val).off] s t ∧ Touches [.reg, .pwr] s t)
  ∧ (∀ (sensor : Fin 40) (s : State), s.pwr.trims = none → exec (.sensorCheckStart sensor) s = .next s)
  ∧ (∀ (sensor : Fin 40) (raw : BitVec 12) (x : Nat) (s : State), regFileWf s.reg = true → (s.sensorVerify sensor.val).check = some x →
      100000 ≤ s.since x → ∃ t, exec (.sensorCheckDone sensor raw) s = .next t ∧ t.flag (Fld.THM_SENSOR_STALE sensor.val) = false ∧
      (t.sensorVerify sensor.val).check = none ∧
      (le (sensorTrim s.trimBytes sensor.val) 8 2 < Int.natAbs ((raw.toNat : Int) - le (sensorTrim s.trimBytes sensor.val) 6 2) →
      t.flag (Fld.THM_SENSOR_DEGRADED sensor.val) = true) ∧ (8 < ((upto 24).filter (fun i => t.flag (Fld.THM_SENSOR_DEGRADED i))).length →
      t.flag Fld.THM_STATE_BLIND = true) ∧ (((upto 24).filter (fun i => t.flag (Fld.THM_SENSOR_DEGRADED i))).length ≤ 8 →
      t.flag Fld.THM_STATE_BLIND = false) ∧
      Touches [.freeCtr, .out, .reg, .host, .ops, .led, .strands, .grants, .frames, .content, .vit, .gth, .srv, .img, .pwr] s t)
  ∧ (∀ (sensor : Fin 40) (raw : BitVec 12) (s : State), (s.sensorVerify sensor.val).check = none →
      exec (.sensorCheckDone sensor raw) s = .next s)
  ∧ (∀ (lane : Fin 35) (occupancy : List Nat) (means : List Int) (s : State), regFileWf s.reg = true → s.laneVerifies lane.val = true →
      s.laneUp lane.val = true → windowPasses (slice s.trimBytes (80 + 160 * lane.val) 160) ⟨occupancy, means⟩ = true →
      ∃ t, exec (.laneWindowDone lane occupancy means) s = .next t ∧
      t.get (Fld.PWR_LANE_VERIFY_WINDOWS lane.val) = (s.get (Fld.PWR_LANE_VERIFY_WINDOWS lane.val) + 1) % 65536 ∧
      t.get (Fld.PWR_LANE_VERIFY_FAILS lane.val) = 0 ∧ t.get (Fld.PWR_LANE_VERIFY_STARVED lane.val) = 0 ∧
      t.laneVerify lane.val = ⟨(s.laneVerify lane.val).passes + 1, s.now⟩ ∧ t.led = s.led ∧
      Touches [.freeCtr, .out, .reg, .host, .ops, .led, .strands, .grants, .frames, .tapQueue, .content, .vit, .gth, .srv, .img, .pwr, .nwl, .stk, .fab] s t)
  ∧ (∀ (lane : Fin 35) (occupancy : List Nat) (means : List Int) (s : State), regFileWf s.reg = true → s.laneVerifies lane.val = true →
      s.laneUp lane.val = true → windowPasses (slice s.trimBytes (80 + 160 * lane.val) 160) ⟨occupancy, means⟩ = false →
      ∃ t, exec (.laneWindowDone lane occupancy means) s = .next t ∧
      t.get (Fld.PWR_LANE_VERIFY_WINDOWS lane.val) = (s.get (Fld.PWR_LANE_VERIFY_WINDOWS lane.val) + 1) % 65536 ∧
      t.get (Fld.PWR_LANE_VERIFY_FAILS lane.val) = min 255 (s.get (Fld.PWR_LANE_VERIFY_FAILS lane.val) + 1) ∧
      t.get (Fld.PWR_LANE_VERIFY_DEGRADED lane.val) = 1 ∧ t.laneVerify lane.val = ⟨0, s.now⟩ ∧
      Touches [.freeCtr, .out, .reg, .host, .ops, .led, .strands, .grants, .frames, .tapQueue, .content, .vit, .gth, .srv, .img, .pwr, .nwl, .stk, .fab] s t)
  ∧ (∀ (lane : Fin 35) (occupancy : List Nat) (means : List Int) (s : State), s.laneVerifies lane.val = true → s.laneUp lane.val = false →
      ∃ t, exec (.laneWindowDone lane occupancy means) s = .next t ∧
      t.laneVerify lane.val = { s.laneVerify lane.val with start := s.now } ∧ Touches [.pwr] s t)
  ∧ (∀ (lane : Fin 35) (occupancy : List Nat) (means : List Int) (s : State), s.laneVerifies lane.val = false →
      exec (.laneWindowDone lane occupancy means) s = .next s)
  ∧ (∀ (lane : Fin 35) (s : State), regFileWf s.reg = true → s.laneVerifies lane.val = true →
      5000000000 ≤ s.since (s.laneVerify lane.val).start → ∃ t, exec (.laneWindowStarved lane) s = .next t ∧
      t.get (Fld.PWR_LANE_VERIFY_STARVED lane.val) = 1 ∧ OnlyWords [(Fld.PWR_LANE_VERIFY_STARVED lane.val).off] s t ∧ Touches [.reg] s t)
  ∧ (∀ (lane : Fin 35) (s : State), s.since (s.laneVerify lane.val).start < 5000000000 → exec (.laneWindowStarved lane) s = .next s)

/-- O8. Units go Banked and Parked when idle, and wake for work. IDLE_BANK takes an idle Running unit to Banked and IDLE_PARK an idle
Banked one to Parked, each once its time has passed and never below the floor of the unit. UNIT_WAKE_START begins a wake where there is
work or the floor asks for it; UNIT_WAKE_DONE makes the unit Running and counts a wake from Parked. Only the unit named changes. A unit
with work never goes down. -/
def Obligations.UnitPower : Prop :=
  (∀ (unit : Fin 137) (s : State), s.unitManaged unit.val = true → (s.punit unit.val).state = .running → s.unitWork unit.val = false →
      s.unitFloor unit.val ≤ 1 → s.get Fld.PWR_CTL_IDLE_BANK_US * 500 ≤ s.since (s.punit unit.val).since →
      ∃ t, exec (.idleBank unit) s = .next t ∧ t.punit unit.val = { s.punit unit.val with state := .banked, since := s.now } ∧
      (∀ u < 137, u ≠ unit.val → t.punit u = s.punit u) ∧ Touches [.pwr] s t)
  ∧ (∀ (unit : Fin 137) (s : State), s.unitWork unit.val = true → exec (.idleBank unit) s = .next s)
  ∧ (∀ (unit : Fin 137) (s : State), 1 < s.unitFloor unit.val → exec (.idleBank unit) s = .next s)
  ∧ (∀ (unit : Fin 137) (s : State), s.unitManaged unit.val = true → (s.punit unit.val).state = .banked → (s.punit unit.val).wake = none →
      s.unitWork unit.val = false → s.unitFloor unit.val = 0 →
      s.get Fld.PWR_CTL_IDLE_PARK_MS * 500000 ≤ s.since (s.punit unit.val).since → ∃ t, exec (.idlePark unit) s = .next t ∧
      t.punit unit.val = { s.punit unit.val with state := .parked, since := s.now } ∧ (∀ u < 137, u ≠ unit.val → t.punit u = s.punit u) ∧
      Touches [.pwr] s t)
  ∧ (∀ (unit : Fin 137) (s : State), 0 < s.unitFloor unit.val → exec (.idlePark unit) s = .next s)
  ∧ (∀ (unit : Fin 137) (s : State), s.unitManaged unit.val = true → (s.punit unit.val).state ≠ .running →
      (s.punit unit.val).wake = none → s.unitWork unit.val = true ∨ powerCode (s.punit unit.val).state < s.unitFloor unit.val →
      ∃ t, exec (.unitWakeStart unit) s = .next t ∧ t.punit unit.val = { s.punit unit.val with wake := some ⟨s.now, 0⟩ } ∧
      (∀ u < 137, u ≠ unit.val → t.punit u = s.punit u) ∧ Touches [.pwr] s t)
  ∧ (∀ (unit : Fin 137) (lockFailed : Bool) (w : Wake) (s : State), regFileWf s.reg = true → (s.punit unit.val).wake = some w →
      lockFailed = false ∨ (s.punit unit.val).state ≠ .parked → ∃ t, exec (.unitWakeDone unit lockFailed) s = .next t ∧
      t.punit unit.val = ⟨.running, s.now, none⟩ ∧ (∀ u < 137, u ≠ unit.val → t.punit u = s.punit u) ∧
      t.get Fld.PWR_WAKE_CNT = (if (s.punit unit.val).state = .parked then min (s.get Fld.PWR_WAKE_CNT + 1) 0xFFFFFFFF else s.get Fld.PWR_WAKE_CNT) ∧
      OnlyWords [Fld.PWR_WAKE_CNT.off, Fld.PWR_WAKE_MAX.off] s t ∧ Touches [.reg, .gth, .pwr] s t)
  ∧ (∀ (unit : Fin 137) (w : Wake) (s : State), (s.punit unit.val).wake = some w → (s.punit unit.val).state = .parked → w.retries < 3 →
      ∃ t, exec (.unitWakeDone unit true) s = .next t ∧
      t.punit unit.val = { s.punit unit.val with wake := some { w with retries := w.retries + 1 } } ∧
      Touches [.freeCtr, .out, .reg, .host, .ops, .led, .strands, .grants, .frames, .content, .vit, .gth, .srv, .img, .pwr] s t)
  ∧ (∀ (unit : Fin 137) (lockFailed : Bool) (s : State), (s.punit unit.val).wake = none →
      exec (.unitWakeDone unit lockFailed) s = .next s)

/-- O9. PPS capture, PPS loss, the end of a slew and the Ethernet links. PPS_EDGE captures the tide counter into TID_PPS, counts it and
sets PPS_VALID; PPS_LOST clears PPS_VALID after 550,000,000 ticks without an edge, once. SLEW_DONE ends a slew that has gained or lost its
ticks. ETH_LINK_CHANGE writes LINK_UP of its port; a Tap link that goes down loses the copies that wait. None of them moves the tide
counter. -/
def Obligations.TideTime : Prop :=
  (∀ (s : State), regFileWf s.reg = true → s.img.vaon = true → s.now < 2 ^ 64 → ∃ t, exec .ppsEdge s = .next t ∧
      t.get64 Fld.TID_PPS = s.now ∧ t.get Fld.TID_PPS_CNT = min (s.get Fld.TID_PPS_CNT + 1) 0xFFFFFFFF ∧
      t.get Fld.TID_TB_STATE_PPS_VALID = 1 ∧ t.pwr = { s.pwr with ppsTick := some s.now, ppsLost := false } ∧ t.now = s.now ∧
      Touches [.out, .reg, .host, .pwr] s t)
  ∧ (∀ (s : State), s.img.vaon = false → exec .ppsEdge s = .next s)
  ∧ (∀ (x : Nat) (s : State), regFileWf s.reg = true → s.pwr.ppsTick = some x → s.pwr.ppsLost = false → 550000000 ≤ s.since x →
      ∃ t, exec .ppsLost s = .next t ∧ t.get Fld.TID_TB_STATE_PPS_VALID = 0 ∧ t.pwr = { s.pwr with ppsLost := true } ∧ t.now = s.now ∧
      Touches [.out, .reg, .host, .pwr] s t)
  ∧ (∀ (s : State), s.pwr.ppsTick = none → exec .ppsLost s = .next s)
  ∧ (∀ (x : Slew) (s : State), s.pwr.slew = some x → x.ticks ≤ s.slewDone x → ∃ t, exec .slewDone s = .next t ∧
      t.pwr = { s.pwr with slew := none } ∧ Touches [.pwr] s t)
  ∧ (∀ (s : State), s.pwr.slew = none → exec .slewDone s = .next s)
  ∧ (∀ (port : EthPort) (up : Bool) (s : State), regFileWf s.reg = true → ∃ t, exec (.ethLinkChange port up) s = .next t ∧
      t.get (Fld.INT_PORT_CTL_LINK_UP (portIdx port)) = b2n (up && s.linksRun && !(ethLanes (portIdx port)).any s.laneTested && (ethLanes (portIdx port)).all (fun l => !s.isRetired .lane l)) ∧
      OnlyWords [(Fld.INT_PORT_CTL_LINK_UP (portIdx port)).off] s t ∧ (t.tapQueue = s.tapQueue ∨ port = .tap ∧ t.tapQueue = [] ∧
      t.get (Fld.INT_PORT_CTL_LINK_UP 2) = 0) ∧ Touches [.reg, .tapQueue] s t)

/-- O10. No command is taken from a submission ring that is not ready. Where a submission ring is not ready (CMD_READY low, ring disabled,
halted, in D3hot, empty, or a BARRIER with commands outstanding), none of the 13 commands of the submission rings changes anything; the
entry waits. It rests on what the model chose in log entry 5. -/
def Obligations.SqEntryWaits : Prop :=
  (∀ (q : Fin 16) (e : SqEntry) (s : State), s.sqReady q.val e = false → exec (.nop q e) s = .next s)
  ∧ (∀ (q : Fin 16) (e : SqEntry) (desc : Option LoadDescriptor) (s : State), s.sqReady q.val e = false →
      exec (.clLoad q e desc) s = .next s)
  ∧ (∀ (q : Fin 16) (e : SqEntry) (req : Word) (frameId : BitVec 64) (s : State), s.sqReady q.val e = false →
      exec (.gsCancel q e req frameId) s = .next s)
  ∧ (∀ (q : Fin 16) (e : SqEntry) (req : Word) (frameId : BitVec 64) (s : State), s.sqReady q.val e = false →
      exec (.gsQuery q e req frameId) s = .next s)
  ∧ (∀ (q : Fin 16) (e : SqEntry) (cove : Fin 256) (s : State), s.sqReady q.val e = false → exec (.gsPrefixFlush q e cove) s = .next s)
  ∧ (∀ (q : Fin 16) (e : SqEntry) (len : Word) (strand : Fin 256) (reserved : Bool) (data : Option Bytes) (s : State), s.sqReady q.val e = false →
      exec (.vrdReplay q e len strand reserved data) s = .next s)
  ∧ (∀ (q : Fin 16) (e : SqEntry) (strand : Fin 256) (flags : Byte) (reserved : Bool) (s : State), s.sqReady q.val e = false →
      exec (.imgSwap q e strand flags reserved) s = .next s)
  ∧ (∀ (q : Fin 16) (e : SqEntry) (bank : Fin 256) (flags : Byte) (wait : BitVec 16) (reserved : Bool) (s : State), s.sqReady q.val e = false →
      exec (.imgRoll q e bank flags wait reserved) s = .next s)
  ∧ (∀ (q : Fin 16) (e : SqEntry) (reserved : Bool) (s : State), s.sqReady q.val e = false → exec (.imgAbort q e reserved) s = .next s)
  ∧ (∀ (q : Fin 16) (e : SqEntry) (bank : Fin 256) (reserved : Bool) (s : State), s.sqReady q.val e = false →
      exec (.imgPrepare q e bank reserved) s = .next s)
  ∧ (∀ (q : Fin 16) (e : SqEntry) (bank : Fin 256) (offset : Word) (length : Word) (data : Option Bytes) (reserved : Bool) (s : State), s.sqReady q.val e = false →
      exec (.imgProgram q e bank offset length data reserved) s = .next s)
  ∧ (∀ (q : Fin 16) (e : SqEntry) (bank : Fin 256) (reserved : Bool) (s : State), s.sqReady q.val e = false →
      exec (.imgVerify q e bank reserved) s = .next s)
  ∧ (∀ (q : Fin 16) (e : SqEntry) (bank : Fin 256) (reserved : Bool) (s : State), s.sqReady q.val e = false →
      exec (.imgSelect q e bank reserved) s = .next s)
  ∧ (∀ (q : Fin 16) (e : SqEntry) (opcode : Fin 256) (s : State), s.sqReady q.val e = false → exec (.badOpcode q e opcode) s = .next s)

/-- O11. Submission entries refused at once: BAD_FLAGS and TAG_BUSY. Each of the 13 commands of the submission rings, taken from its ring
with RESULT_TO = 3, completes on its completion ring with status BAD_FLAGS, takes no window slot, starts no load and touches nothing but
the rings, their registers and the log. Each of the 13 commands of the submission rings whose TAG names a window slot that is not FREE
completes on its completion ring with status TAG_BUSY, is counted in HIF_TAG_BUSY_CNT, and leaves the slot, the loads and everything but
the rings, their registers and the log as they were. It rests on what the model chose in log entry 5. -/
def Obligations.SqEntryRefused : Prop :=
  (∀ (q : Fin 16) (e : SqEntry) (s : State), s.sqReady q.val e = true → e.resultTo = 3 → ∃ t, exec (.nop q e) s = .next t ∧
      OnCq q.val (keyOf q e 0x01 .badFlags s) s t ∧ t.host.win = s.host.win ∧ t.host.loads = s.host.loads ∧
      Touches [.freeCtr, .out, .reg, .host] s t)
  ∧ (∀ (q : Fin 16) (e : SqEntry) (desc : Option LoadDescriptor) (s : State), s.sqReady q.val e = true → e.resultTo = 3 →
      ∃ t, exec (.clLoad q e desc) s = .next t ∧ OnCq q.val (keyOf q e 0x10 .badFlags s) s t ∧ t.host.win = s.host.win ∧
      t.host.loads = s.host.loads ∧ Touches [.freeCtr, .out, .reg, .host] s t)
  ∧ (∀ (q : Fin 16) (e : SqEntry) (req : Word) (frameId : BitVec 64) (s : State), s.sqReady q.val e = true → e.resultTo = 3 →
      ∃ t, exec (.gsCancel q e req frameId) s = .next t ∧ OnCq q.val (keyOf q e 0x20 .badFlags s) s t ∧ t.host.win = s.host.win ∧
      t.host.loads = s.host.loads ∧ Touches [.freeCtr, .out, .reg, .host] s t)
  ∧ (∀ (q : Fin 16) (e : SqEntry) (req : Word) (frameId : BitVec 64) (s : State), s.sqReady q.val e = true → e.resultTo = 3 →
      ∃ t, exec (.gsQuery q e req frameId) s = .next t ∧ OnCq q.val (keyOf q e 0x21 .badFlags s) s t ∧ t.host.win = s.host.win ∧
      t.host.loads = s.host.loads ∧ Touches [.freeCtr, .out, .reg, .host] s t)
  ∧ (∀ (q : Fin 16) (e : SqEntry) (cove : Fin 256) (s : State), s.sqReady q.val e = true → e.resultTo = 3 →
      ∃ t, exec (.gsPrefixFlush q e cove) s = .next t ∧ OnCq q.val (keyOf q e 0x22 .badFlags s) s t ∧ t.host.win = s.host.win ∧
      t.host.loads = s.host.loads ∧ Touches [.freeCtr, .out, .reg, .host] s t)
  ∧ (∀ (q : Fin 16) (e : SqEntry) (len : Word) (strand : Fin 256) (reserved : Bool) (data : Option Bytes) (s : State), s.sqReady q.val e = true →
      e.resultTo = 3 → ∃ t, exec (.vrdReplay q e len strand reserved data) s = .next t ∧ OnCq q.val (keyOf q e 0x30 .badFlags s) s t ∧
      t.host.win = s.host.win ∧ t.host.loads = s.host.loads ∧ Touches [.freeCtr, .out, .reg, .host] s t)
  ∧ (∀ (q : Fin 16) (e : SqEntry) (strand : Fin 256) (flags : Byte) (reserved : Bool) (s : State), s.sqReady q.val e = true →
      e.resultTo = 3 → ∃ t, exec (.imgSwap q e strand flags reserved) s = .next t ∧ OnCq q.val (keyOf q e 0x40 .badFlags s) s t ∧
      t.host.win = s.host.win ∧ t.host.loads = s.host.loads ∧ Touches [.freeCtr, .out, .reg, .host] s t)
  ∧ (∀ (q : Fin 16) (e : SqEntry) (bank : Fin 256) (flags : Byte) (wait : BitVec 16) (reserved : Bool) (s : State), s.sqReady q.val e = true →
      e.resultTo = 3 → ∃ t, exec (.imgRoll q e bank flags wait reserved) s = .next t ∧ OnCq q.val (keyOf q e 0x41 .badFlags s) s t ∧
      t.host.win = s.host.win ∧ t.host.loads = s.host.loads ∧ Touches [.freeCtr, .out, .reg, .host] s t)
  ∧ (∀ (q : Fin 16) (e : SqEntry) (reserved : Bool) (s : State), s.sqReady q.val e = true → e.resultTo = 3 →
      ∃ t, exec (.imgAbort q e reserved) s = .next t ∧ OnCq q.val (keyOf q e 0x42 .badFlags s) s t ∧ t.host.win = s.host.win ∧
      t.host.loads = s.host.loads ∧ Touches [.freeCtr, .out, .reg, .host] s t)
  ∧ (∀ (q : Fin 16) (e : SqEntry) (bank : Fin 256) (reserved : Bool) (s : State), s.sqReady q.val e = true → e.resultTo = 3 →
      ∃ t, exec (.imgPrepare q e bank reserved) s = .next t ∧ OnCq q.val (keyOf q e 0x43 .badFlags s) s t ∧ t.host.win = s.host.win ∧
      t.host.loads = s.host.loads ∧ Touches [.freeCtr, .out, .reg, .host] s t)
  ∧ (∀ (q : Fin 16) (e : SqEntry) (bank : Fin 256) (offset : Word) (length : Word) (data : Option Bytes) (reserved : Bool) (s : State), s.sqReady q.val e = true →
      e.resultTo = 3 → ∃ t, exec (.imgProgram q e bank offset length data reserved) s = .next t ∧
      OnCq q.val (keyOf q e 0x44 .badFlags s) s t ∧ t.host.win = s.host.win ∧ t.host.loads = s.host.loads ∧
      Touches [.freeCtr, .out, .reg, .host] s t)
  ∧ (∀ (q : Fin 16) (e : SqEntry) (bank : Fin 256) (reserved : Bool) (s : State), s.sqReady q.val e = true → e.resultTo = 3 →
      ∃ t, exec (.imgVerify q e bank reserved) s = .next t ∧ OnCq q.val (keyOf q e 0x45 .badFlags s) s t ∧ t.host.win = s.host.win ∧
      t.host.loads = s.host.loads ∧ Touches [.freeCtr, .out, .reg, .host] s t)
  ∧ (∀ (q : Fin 16) (e : SqEntry) (bank : Fin 256) (reserved : Bool) (s : State), s.sqReady q.val e = true → e.resultTo = 3 →
      ∃ t, exec (.imgSelect q e bank reserved) s = .next t ∧ OnCq q.val (keyOf q e 0x46 .badFlags s) s t ∧ t.host.win = s.host.win ∧
      t.host.loads = s.host.loads ∧ Touches [.freeCtr, .out, .reg, .host] s t)
  ∧ (∀ (q : Fin 16) (e : SqEntry) (s : State), regFileWf s.reg = true → s.sqReady q.val e = true → s.slotBusy e = true →
      ∃ t, exec (.nop q e) s = .next t ∧ OnCq q.val (keyOf q e 0x01 .tagBusy s) s t ∧ t.host.win = s.host.win ∧
      t.host.loads = s.host.loads ∧ t.get Fld.HIF_TAG_BUSY_CNT = min (s.get Fld.HIF_TAG_BUSY_CNT + 1) 0xFFFFFFFF ∧
      Touches [.freeCtr, .out, .reg, .host] s t)
  ∧ (∀ (q : Fin 16) (e : SqEntry) (desc : Option LoadDescriptor) (s : State), regFileWf s.reg = true → s.sqReady q.val e = true →
      s.slotBusy e = true → ∃ t, exec (.clLoad q e desc) s = .next t ∧ OnCq q.val (keyOf q e 0x10 .tagBusy s) s t ∧
      t.host.win = s.host.win ∧ t.host.loads = s.host.loads ∧
      t.get Fld.HIF_TAG_BUSY_CNT = min (s.get Fld.HIF_TAG_BUSY_CNT + 1) 0xFFFFFFFF ∧ Touches [.freeCtr, .out, .reg, .host] s t)
  ∧ (∀ (q : Fin 16) (e : SqEntry) (req : Word) (frameId : BitVec 64) (s : State), regFileWf s.reg = true → s.sqReady q.val e = true →
      s.slotBusy e = true → ∃ t, exec (.gsCancel q e req frameId) s = .next t ∧ OnCq q.val (keyOf q e 0x20 .tagBusy s) s t ∧
      t.host.win = s.host.win ∧ t.host.loads = s.host.loads ∧
      t.get Fld.HIF_TAG_BUSY_CNT = min (s.get Fld.HIF_TAG_BUSY_CNT + 1) 0xFFFFFFFF ∧ Touches [.freeCtr, .out, .reg, .host] s t)
  ∧ (∀ (q : Fin 16) (e : SqEntry) (req : Word) (frameId : BitVec 64) (s : State), regFileWf s.reg = true → s.sqReady q.val e = true →
      s.slotBusy e = true → ∃ t, exec (.gsQuery q e req frameId) s = .next t ∧ OnCq q.val (keyOf q e 0x21 .tagBusy s) s t ∧
      t.host.win = s.host.win ∧ t.host.loads = s.host.loads ∧
      t.get Fld.HIF_TAG_BUSY_CNT = min (s.get Fld.HIF_TAG_BUSY_CNT + 1) 0xFFFFFFFF ∧ Touches [.freeCtr, .out, .reg, .host] s t)
  ∧ (∀ (q : Fin 16) (e : SqEntry) (cove : Fin 256) (s : State), regFileWf s.reg = true → s.sqReady q.val e = true → s.slotBusy e = true →
      ∃ t, exec (.gsPrefixFlush q e cove) s = .next t ∧ OnCq q.val (keyOf q e 0x22 .tagBusy s) s t ∧ t.host.win = s.host.win ∧
      t.host.loads = s.host.loads ∧ t.get Fld.HIF_TAG_BUSY_CNT = min (s.get Fld.HIF_TAG_BUSY_CNT + 1) 0xFFFFFFFF ∧
      Touches [.freeCtr, .out, .reg, .host] s t)
  ∧ (∀ (q : Fin 16) (e : SqEntry) (len : Word) (strand : Fin 256) (reserved : Bool) (data : Option Bytes) (s : State), regFileWf s.reg = true →
      s.sqReady q.val e = true → s.slotBusy e = true → ∃ t, exec (.vrdReplay q e len strand reserved data) s = .next t ∧
      OnCq q.val (keyOf q e 0x30 .tagBusy s) s t ∧ t.host.win = s.host.win ∧ t.host.loads = s.host.loads ∧
      t.get Fld.HIF_TAG_BUSY_CNT = min (s.get Fld.HIF_TAG_BUSY_CNT + 1) 0xFFFFFFFF ∧ Touches [.freeCtr, .out, .reg, .host] s t)
  ∧ (∀ (q : Fin 16) (e : SqEntry) (strand : Fin 256) (flags : Byte) (reserved : Bool) (s : State), regFileWf s.reg = true →
      s.sqReady q.val e = true → s.slotBusy e = true → ∃ t, exec (.imgSwap q e strand flags reserved) s = .next t ∧
      OnCq q.val (keyOf q e 0x40 .tagBusy s) s t ∧ t.host.win = s.host.win ∧ t.host.loads = s.host.loads ∧
      t.get Fld.HIF_TAG_BUSY_CNT = min (s.get Fld.HIF_TAG_BUSY_CNT + 1) 0xFFFFFFFF ∧ Touches [.freeCtr, .out, .reg, .host] s t)
  ∧ (∀ (q : Fin 16) (e : SqEntry) (bank : Fin 256) (flags : Byte) (wait : BitVec 16) (reserved : Bool) (s : State), regFileWf s.reg = true →
      s.sqReady q.val e = true → s.slotBusy e = true → ∃ t, exec (.imgRoll q e bank flags wait reserved) s = .next t ∧
      OnCq q.val (keyOf q e 0x41 .tagBusy s) s t ∧ t.host.win = s.host.win ∧ t.host.loads = s.host.loads ∧
      t.get Fld.HIF_TAG_BUSY_CNT = min (s.get Fld.HIF_TAG_BUSY_CNT + 1) 0xFFFFFFFF ∧ Touches [.freeCtr, .out, .reg, .host] s t)
  ∧ (∀ (q : Fin 16) (e : SqEntry) (reserved : Bool) (s : State), regFileWf s.reg = true → s.sqReady q.val e = true → s.slotBusy e = true →
      ∃ t, exec (.imgAbort q e reserved) s = .next t ∧ OnCq q.val (keyOf q e 0x42 .tagBusy s) s t ∧ t.host.win = s.host.win ∧
      t.host.loads = s.host.loads ∧ t.get Fld.HIF_TAG_BUSY_CNT = min (s.get Fld.HIF_TAG_BUSY_CNT + 1) 0xFFFFFFFF ∧
      Touches [.freeCtr, .out, .reg, .host] s t)
  ∧ (∀ (q : Fin 16) (e : SqEntry) (bank : Fin 256) (reserved : Bool) (s : State), regFileWf s.reg = true → s.sqReady q.val e = true →
      s.slotBusy e = true → ∃ t, exec (.imgPrepare q e bank reserved) s = .next t ∧ OnCq q.val (keyOf q e 0x43 .tagBusy s) s t ∧
      t.host.win = s.host.win ∧ t.host.loads = s.host.loads ∧
      t.get Fld.HIF_TAG_BUSY_CNT = min (s.get Fld.HIF_TAG_BUSY_CNT + 1) 0xFFFFFFFF ∧ Touches [.freeCtr, .out, .reg, .host] s t)
  ∧ (∀ (q : Fin 16) (e : SqEntry) (bank : Fin 256) (offset : Word) (length : Word) (data : Option Bytes) (reserved : Bool) (s : State), regFileWf s.reg = true →
      s.sqReady q.val e = true → s.slotBusy e = true → ∃ t, exec (.imgProgram q e bank offset length data reserved) s = .next t ∧
      OnCq q.val (keyOf q e 0x44 .tagBusy s) s t ∧ t.host.win = s.host.win ∧ t.host.loads = s.host.loads ∧
      t.get Fld.HIF_TAG_BUSY_CNT = min (s.get Fld.HIF_TAG_BUSY_CNT + 1) 0xFFFFFFFF ∧ Touches [.freeCtr, .out, .reg, .host] s t)
  ∧ (∀ (q : Fin 16) (e : SqEntry) (bank : Fin 256) (reserved : Bool) (s : State), regFileWf s.reg = true → s.sqReady q.val e = true →
      s.slotBusy e = true → ∃ t, exec (.imgVerify q e bank reserved) s = .next t ∧ OnCq q.val (keyOf q e 0x45 .tagBusy s) s t ∧
      t.host.win = s.host.win ∧ t.host.loads = s.host.loads ∧
      t.get Fld.HIF_TAG_BUSY_CNT = min (s.get Fld.HIF_TAG_BUSY_CNT + 1) 0xFFFFFFFF ∧ Touches [.freeCtr, .out, .reg, .host] s t)
  ∧ (∀ (q : Fin 16) (e : SqEntry) (bank : Fin 256) (reserved : Bool) (s : State), regFileWf s.reg = true → s.sqReady q.val e = true →
      s.slotBusy e = true → ∃ t, exec (.imgSelect q e bank reserved) s = .next t ∧ OnCq q.val (keyOf q e 0x46 .tagBusy s) s t ∧
      t.host.win = s.host.win ∧ t.host.loads = s.host.loads ∧
      t.get Fld.HIF_TAG_BUSY_CNT = min (s.get Fld.HIF_TAG_BUSY_CNT + 1) 0xFFFFFFFF ∧ Touches [.freeCtr, .out, .reg, .host] s t)

/-- O12. NOP completes OK, an undefined opcode BAD_OPCODE. NOP, where its ring takes it and nothing refuses it, completes with status OK
on its CQ, in its window slot, or both. BAD_OPCODE, with an opcode outside Table 11-9, completes on the CQ with status BAD_OPCODE
(BAD_FLAGS where RESULT_TO is 3). The ring advances by one entry. Both touch only the rings, their registers and the log. It rests on what
the model chose in log entry 5. -/
def Obligations.NopAndBadOpcode : Prop :=
  (∀ (q : Fin 16) (e : SqEntry) (s : State), Takes q e s → ∃ t, exec (.nop q e) s = .next t ∧ Completed q e 0x01 .ok s t ∧
      (t.ring q.val).used = (s.ring q.val).used - 1 ∧ (t.ring q.val).outstanding = (s.ring q.val).outstanding ∧
      Touches [.freeCtr, .out, .reg, .host] s t)
  ∧ (∀ (q : Fin 16) (e : SqEntry) (opcode : Fin 256) (s : State), s.sqReady q.val e = true → definedOpcode opcode.val = false →
      e.resultTo ≠ 3 → ∃ t, exec (.badOpcode q e opcode) s = .next t ∧ OnCq q.val (keyOf q e opcode.val .badOpcode s) s t ∧
      (t.ring q.val).used = (s.ring q.val).used - 1 ∧ t.host.win = s.host.win ∧ Touches [.freeCtr, .out, .reg, .host] s t)
  ∧ (∀ (q : Fin 16) (e : SqEntry) (opcode : Fin 256) (s : State), s.sqReady q.val e = true → definedOpcode opcode.val = false →
      e.resultTo = 3 → ∃ t, exec (.badOpcode q e opcode) s = .next t ∧ OnCq q.val (keyOf q e opcode.val .badFlags s) s t ∧
      t.host.win = s.host.win ∧ Touches [.freeCtr, .out, .reg, .host] s t)
  ∧ (∀ (q : Fin 16) (e : SqEntry) (opcode : Fin 256) (s : State), definedOpcode opcode.val = true →
      exec (.badOpcode q e opcode) s = .next s)

/-- O13. Doorbells, fetches, interrupts and PCIe resets. A read of a doorbell returns the last value accepted. A write of a head that the
ring can hold is accepted; a write of SQ_TAIL within the ring sets the tail and, where it moved, the entries between head and tail, a tail
equal to the head meaning a full ring. Without PWR_OK a doorbell does nothing. SQ_FETCH_FAIL halts its ring and posts the event. IRQ_TIMER
sends the ring vector when its time has passed. PCIE_RESET disables every ring, frees every window slot and raises the generation, so that
later completions are discarded; a return to D0 does so only from D3hot. D3HOT_ENTRY sets D3HOT and nothing else. Without a PCIe link
PCIE_RESET and D3HOT_ENTRY do nothing. -/
def Obligations.HostEvents : Prop :=
  (∀ (q : Fin 16) (s : State), s.img.pwrOk = true → ∃ t, exec (.sqTailDoorbell q none) s = .next t ∧
      t.out = .reply (.data (s.ring q.val).tail) :: s.out ∧ Touches [.out] s t)
  ∧ (∀ (q : Fin 16) (w : Word) (s : State), s.img.pwrOk = true → w.toNat % 2 ^ 20 < s.ringSize q.val →
      w.toNat % 2 ^ 20 ≠ (s.ring q.val).tail → ∃ t, exec (.sqTailDoorbell q (some w)) s = .next t ∧
      (t.ring q.val).tail = w.toNat % 2 ^ 20 ∧ 0 < (t.ring q.val).used ∧ (t.ring q.val).used ≤ s.ringSize q.val ∧
      ((t.ring q.val).head + (t.ring q.val).used) % s.ringSize q.val = (t.ring q.val).tail ∧ Touches [.host] s t)
  ∧ (∀ (q : Fin 16) (w : Word) (s : State), s.img.pwrOk = true → s.ringSize q.val ≤ w.toNat % 2 ^ 20 →
      ∃ t, exec (.sqTailDoorbell q (some w)) s = .next t ∧ (t.ring q.val) = (s.ring q.val) ∧ Touches [.out, .reg, .host] s t)
  ∧ (∀ (q : Fin 16) (s : State), s.img.pwrOk = true → ∃ t, exec (.cqHeadDoorbell q none) s = .next t ∧
      t.out = .reply (.data (s.ring (ringCq q.val)).head) :: s.out ∧ Touches [.out] s t)
  ∧ (∀ (q : Fin 16) (w : Word) (s : State), s.img.pwrOk = true → w.toNat % 2 ^ 20 < s.ringSize (ringCq q.val) →
      (w.toNat % 2 ^ 20 + s.ringSize (ringCq q.val) - (s.ring (ringCq q.val)).head % s.ringSize (ringCq q.val)) % s.ringSize (ringCq q.val) ≤ (s.ring (ringCq q.val)).used →
      ∃ t, exec (.cqHeadDoorbell q (some w)) s = .next t ∧ (t.ring (ringCq q.val)).head = w.toNat % 2 ^ 20 ∧
      Touches [.out, .reg, .host] s t)
  ∧ (∀ (q : Fin 16) (v : Option Word) (s : State), s.img.pwrOk = false → exec (.cqHeadDoorbell q v) s = .next s)
  ∧ (∀ (r : Fin 16) (s : State), s.img.pwrOk = true → ∃ t, exec (.rrHeadDoorbell r none) s = .next t ∧
      t.out = .reply (.data (s.ring (ringRr r.val)).head) :: s.out ∧ Touches [.out] s t)
  ∧ (∀ (r : Fin 16) (w : Word) (s : State), s.img.pwrOk = true → w.toNat % 2 ^ 20 < s.ringSize (ringRr r.val) →
      (w.toNat % 2 ^ 20 + s.ringSize (ringRr r.val) - (s.ring (ringRr r.val)).head % s.ringSize (ringRr r.val)) % s.ringSize (ringRr r.val) ≤ (s.ring (ringRr r.val)).used →
      ∃ t, exec (.rrHeadDoorbell r (some w)) s = .next t ∧ (t.ring (ringRr r.val)).head = w.toNat % 2 ^ 20 ∧
      Touches [.out, .reg, .host] s t)
  ∧ (∀ (r : Fin 16) (v : Option Word) (s : State), s.img.pwrOk = false → exec (.rrHeadDoorbell r v) s = .next s)
  ∧ (∀ (s : State), s.img.pwrOk = true → ∃ t, exec (.eventHeadDoorbell none) s = .next t ∧
      t.out = .reply (.data (s.ring ringEvt).head) :: s.out ∧ Touches [.out] s t)
  ∧ (∀ (w : Word) (s : State), s.img.pwrOk = true → w.toNat % 2 ^ 20 < s.ringSize ringEvt →
      (w.toNat % 2 ^ 20 + s.ringSize ringEvt - (s.ring ringEvt).head % s.ringSize ringEvt) % s.ringSize ringEvt ≤ (s.ring ringEvt).used →
      ∃ t, exec (.eventHeadDoorbell (some w)) s = .next t ∧ (t.ring ringEvt).head = w.toNat % 2 ^ 20 ∧ Touches [.out, .reg, .host] s t)
  ∧ (∀ (v : Option Word) (s : State), s.img.pwrOk = false → exec (.eventHeadDoorbell v) s = .next s)
  ∧ (∀ (s : State), s.img.pwrOk = true → ∃ t, exec (.accessionHeadDoorbell none) s = .next t ∧
      t.out = .reply (.data (s.ring ringAcc).head) :: s.out ∧ Touches [.out] s t)
  ∧ (∀ (w : Word) (s : State), s.img.pwrOk = true → w.toNat % 2 ^ 20 < s.ringSize ringAcc →
      (w.toNat % 2 ^ 20 + s.ringSize ringAcc - (s.ring ringAcc).head % s.ringSize ringAcc) % s.ringSize ringAcc ≤ (s.ring ringAcc).used →
      ∃ t, exec (.accessionHeadDoorbell (some w)) s = .next t ∧ (t.ring ringAcc).head = w.toNat % 2 ^ 20 ∧
      Touches [.out, .reg, .host] s t)
  ∧ (∀ (v : Option Word) (s : State), s.img.pwrOk = false → exec (.accessionHeadDoorbell v) s = .next s)
  ∧ (∀ (q : Fin 16) (cause : Fin 3) (s : State), regFileWf s.reg = true → s.flag Fld.HIF_STATUS_CMD_READY = true → s.ringOpen q.val = true →
      s.flag (Fld.HIF_RING_CTL_HALT q.val) = false → 0 < (s.ring q.val).used → ∃ t, exec (.sqFetchFail q cause) s = .next t ∧
      t.flag (Fld.HIF_RING_CTL_HALT q.val) = true ∧ t.ring q.val = s.ring q.val ∧ Touches [.out, .reg, .host] s t)
  ∧ (∀ (q : Fin 16) (cause : Fin 3) (s : State), (s.ring q.val).used = 0 → exec (.sqFetchFail q cause) s = .next s)
  ∧ (∀ (r : Fin 50) (s : State), 16 ≤ r.val → s.flag (Fld.HIF_RING_IRQ_EN r.val) = true → s.get (Fld.HIF_RING_IRQ_TIME_US r.val) ≠ 0 →
      0 < (s.ring r.val).unsignalled → s.get (Fld.HIF_RING_IRQ_TIME_US r.val) * 500 ≤ s.since (s.ring r.val).firstTick →
      ∃ t, exec (.irqTimer r) s = .next t ∧ (t.ring r.val).unsignalled = 0 ∧
      (t.out = .msix (s.get (Fld.HIF_RING_IRQ_VECTOR r.val)) :: s.out ∨ s.flag (Fld.MSIX_CTRL_MASK (s.get (Fld.HIF_RING_IRQ_VECTOR r.val))) = true ∧
      t.out = s.out) ∧ Touches [.out, .reg, .host] s t)
  ∧ (∀ (r : Fin 50) (s : State), (s.ring r.val).unsignalled = 0 → exec (.irqTimer r) s = .next s)
  ∧ (∀ (c : PcieReset) (s : State), regFileWf s.reg = true → s.img.pwrOk = true → s.flag Fld.HIF_STATUS_LINK_UP = true →
      c ≠ .toD0 ∨ s.flag Fld.HIF_STATUS_D3HOT = true → ∃ t, exec (.pcieReset c) s = .next t ∧ t.host.win = [] ∧
      t.host.gen = s.host.gen + 1 ∧ (∀ r < 50, t.flag (Fld.HIF_RING_CTL_EN r) = false ∧ (t.ring r).used = 0 ∧ (t.ring r).held = []) ∧
      t.flag Fld.HIF_STATUS_LINK_UP = (c != .linkDown) ∧ t.img.boot = s.img.boot ∧ Touches [.reg, .host, .img, .mgmt] s t)
  ∧ (∀ (c : PcieReset) (s : State), s.flag Fld.HIF_STATUS_LINK_UP = false → exec (.pcieReset c) s = .next s)
  ∧ (∀ (s : State), regFileWf s.reg = true → s.img.pwrOk = true → s.flag Fld.HIF_STATUS_LINK_UP = true →
      ∃ t, exec .d3hotEntry s = .next t ∧ t.flag Fld.HIF_STATUS_D3HOT = true ∧ t.get Fld.HIF_STATUS_LINK_UP = 1 ∧
      OnlyWords [Fld.HIF_STATUS_D3HOT.off] s t ∧ Touches [.reg] s t)
  ∧ (∀ (s : State), s.flag Fld.HIF_STATUS_LINK_UP = false → exec .d3hotEntry s = .next s)

/-- O14. A PCIe write of a register, and the writes that are turned away. REGISTER_WRITE of a word without a row of its own changes that
word alone: RW fields take the value, W1C bits written 1 clear, the rest stays (LK fields as well once LOCKED is clear). A write of a word
with LK fields while LOCKED is set is counted as a lock violation and changes nothing but GLB_LOCK_VIOL. A misaligned or wrongly sized
access is counted and discarded; a poisoned one is reported; nothing happens without PWR_OK, past the BAR, before CMD_READY, or at an
offset that names no register. -/
def Obligations.RegisterWrites : Prop :=
  (∀ (off : BitVec 26) (v : BitVec 64) (d : RegDef) (s : State), regFileWf s.reg = true → regAt off.toNat = some d →
      s.reaches .pcie off.toNat = true → off.toNat % 4 = 0 → d.lk = 0 ∨ s.flag Fld.GLB_LOCK = false → off.toNat ≠ Fld.IMG_REC_CMD.off →
      (s.arrayWrite off.toNat (v.toNat % 2 ^ 32)).isNone = true → (s.singleWrite off.toNat (v.toNat % 2 ^ 32)).isNone = true →
      ∃ t, exec (.registerWrite .bar0 off 4 false v) s = .next t ∧
      t.regWord off.toNat = word (fieldsAfter d (s.regWord off.toNat).toNat (v.toNat % 2 ^ 32)) ∧ OnlyWords [off.toNat] s t ∧
      Touches [.reg] s t)
  ∧ (∀ (off : BitVec 26) (v : BitVec 64) (d : RegDef) (s : State), regFileWf s.reg = true → regAt off.toNat = some d →
      s.reaches .pcie off.toNat = true → off.toNat % 4 = 0 → d.lk ≠ 0 → s.flag Fld.GLB_LOCK = true →
      ∃ t, exec (.registerWrite .bar0 off 4 false v) s = .next t ∧
      t.get Fld.GLB_LOCK_VIOL_CNT = min (s.get Fld.GLB_LOCK_VIOL_CNT + 1) 0xFFFFFFFF ∧ t.get Fld.GLB_LOCK_VIOL_ADDR_OFFSET = off.toNat ∧
      t.get Fld.GLB_LOCK_VIOL_ADDR_SRC = 0 ∧ t.get Fld.GLB_LOCK_VIOL_DATA = v.toNat % 2 ^ 32 ∧
      OnlyWords [Fld.GLB_LOCK_VIOL_CNT.off, Fld.GLB_LOCK_VIOL_ADDR_OFFSET.off, Fld.GLB_LOCK_VIOL_DATA.off] s t ∧ Touches [.reg] s t)
  ∧ (∀ (b : Bar) (off : BitVec 26) (size : Fin 9) (v : BitVec 64) (s : State), regFileWf s.reg = true → s.img.pwrOk = true →
      off.toNat < barSize b → s.tooEarly b off.toNat = false → accessOk b off.toNat size.val true = false →
      ∃ t, exec (.registerWrite b off size false v) s = .next t ∧ t.out = .reply .discarded :: s.out ∧
      t.get Fld.HIF_BAD_ACCESS_CNT = min (s.get Fld.HIF_BAD_ACCESS_CNT + 1) 0xFFFFFFFF ∧ OnlyWords [Fld.HIF_BAD_ACCESS_CNT.off] s t ∧
      Touches [.out, .reg] s t)
  ∧ (∀ (b : Bar) (off : BitVec 26) (size : Fin 9) (v : BitVec 64) (s : State), s.img.pwrOk = true → off.toNat < barSize b →
      s.tooEarly b off.toNat = false → s.flag (Fld.MSIX_CTRL_MASK 0) = false → ∃ t, exec (.registerWrite b off size true v) s = .next t ∧
      t.out = .msix 0 :: .aer :: s.out ∧ Touches [.out] s t)
  ∧ (∀ (b : Bar) (off : BitVec 26) (size : Fin 9) (poisoned : Bool) (v : BitVec 64) (s : State), s.img.pwrOk = false ∨ barSize b ≤ off.toNat ∨ s.tooEarly b off.toNat = true →
      exec (.registerWrite b off size poisoned v) s = .next s)
  ∧ (∀ (off : BitVec 26) (v : BitVec 64) (s : State), off.toNat % 4 = 0 → regAt off.toNat = none →
      exec (.registerWrite .bar0 off 4 false v) s = .next s)

/-- O15. A BAR2 offset that Table 11-8 does not name reads 0, and a write to it is discarded. At every BAR2 offset that no row of Table
11-8 names, a read that the BAR takes answers 0, and a write of any size changes at most HIF_BAD_ACCESS_CNT and the log (a write that the
BAR takes changes nothing); no event is posted, so no DOORBELL_BAD. -/
def Obligations.Bar2OffsetsWithoutName : Prop :=
  (∀ (off : BitVec 26) (size : Fin 9) (v : BitVec 64) (s : State), regFileWf s.reg = true → doorbellAt off.toNat = none →
      ∃ t, exec (.registerWrite .bar2 off size false v) s = .next t ∧ t.host = s.host ∧ OnlyWords [Fld.HIF_BAD_ACCESS_CNT.off] s t ∧
      Touches [.out, .reg] s t)
  ∧ (∀ (off : BitVec 26) (v : BitVec 64) (s : State), doorbellAt off.toNat = none → off.toNat % 4 = 0 →
      exec (.registerWrite .bar2 off 4 false v) s = .next s)
  ∧ (∀ (s : State) (off : Nat), s.img.pwrOk = true → off < barSize .bar2 → off % 4 = 0 → doorbellAt off = none →
      s.pcieRead .bar2 off 4 = s.emit (.reply (.data 0)))

/-- O16. Register reads, the command window and rings. LOW_WORD_READ of the low word of a pair answers that word and latches the high word
on its path. COUNTER_READ_CLEAR answers the word and clears its RC fields and no other word. WINDOW_STATUS_READ answers the bytes of the
slot and marks a READY slot READ. UNIT_STATE_READ answers the unit word; CMD and OBS that differ with BUSY = 0 on two reads running set
the skew bit of the unit. A JTAG read that does not reach the word answers 0. WINDOW_ACK of the CMD_ID of a slot that has been READ frees
it; any other write is counted in HIF_WIN_ACK_BAD_CNT and leaves every slot. RING_ENABLE takes SIZE_LOG2 and, with EN, starts head and
tail over at 0; on an enabled ring it writes EN only. -/
def Obligations.ReadsAndRings : Prop :=
  (∀ (p : Path) (off : BitVec 26) (d : RegDef) (s : State), regAt off.toNat = some d → s.reaches p off.toNat = true → off.toNat % 4 = 0 →
      d.pair = true → d.rc = 0 → ((regAt (off.toNat - 4)).map (fun x => x.pair)).getD false = false →
      (∀ l < 37, s.flag (Fld.TST_LANE_STAT_LOCK l) = false) → ∃ t, exec (.lowWordRead p off 4) s = .next t ∧
      t.out = .reply (.data (s.viewWord off.toNat &&& (0xFFFFFFFF - d.wo))) :: s.out ∧
      Tab.get? t.host.latch (latchKey p off.toNat) = some (word (s.viewWord (off.toNat + 4))) ∧ t.host.rings = s.host.rings ∧
      Touches [.out, .host] s t)
  ∧ (∀ (off : BitVec 26) (size : Fin 9) (s : State), s.reaches .jtag (off.toNat / 4 * 4) = false →
      ∃ t, exec (.lowWordRead .jtag off size) s = .next t ∧ t.out = .reply (.data 0) :: s.out ∧ Touches [.out] s t)
  ∧ (∀ (p : Path) (off : BitVec 26) (d : RegDef) (s : State), regFileWf s.reg = true → regAt off.toNat = some d →
      s.reaches p off.toNat = true → off.toNat % 4 = 0 → d.rc ≠ 0 → d.pair = false →
      ((regAt (off.toNat - 4)).map (fun x => x.pair)).getD false = false → (∀ l < 37, s.flag (Fld.TST_LANE_STAT_LOCK l) = false) →
      ∃ t, exec (.counterReadClear p off 4) s = .next t ∧ t.out = .reply (.data (s.viewWord off.toNat &&& (0xFFFFFFFF - d.wo))) :: s.out ∧
      t.regWord off.toNat = word ((s.regWord off.toNat).toNat &&& (0xFFFFFFFF - d.rc)) ∧ OnlyWords [off.toNat] s t ∧
      Touches [.out, .reg] s t)
  ∧ (∀ (off : BitVec 22) (size : Fin 9) (s : State), s.img.pwrOk = true → accessOk .bar4 off.toNat size.val false = true →
      ∃ t, exec (.windowStatusRead off size) s = .next t ∧
      t.out = .reply (.data (le (toLe 4 (winStatus (Tab.get? s.host.win (off.toNat / 256))) ++ winBytes (Tab.get? s.host.win (off.toNat / 256))) (off.toNat % 256) size.val)) :: s.out ∧
      (off.toNat % 256 < 4 →
      (Tab.get? t.host.win (off.toNat / 256)) = (Tab.get? s.host.win (off.toNat / 256)).map (fun w => { w with read := w.read || w.ready })) ∧
      (4 ≤ off.toNat % 256 → t.host = s.host) ∧ t.host.rings = s.host.rings ∧ Touches [.out, .host] s t)
  ∧ (∀ (off : BitVec 22) (size : Fin 9) (s : State), s.img.pwrOk = false → exec (.windowStatusRead off size) s = .next s)
  ∧ (∀ (p : Path) (u : Fin 187) (s : State), s.reaches p (0x21000 + 4 * u.val) = true →
      (s.unitState u.val).cmd = (s.unitState u.val).obs ∨ (s.unitState u.val).busy = true → ∃ t, exec (.unitStateRead p u) s = .next t ∧
      t.out = .reply (.data (s.unitWord u.val)) :: s.out ∧ Tab.get? t.host.skewSeen u.val = none ∧ Touches [.out, .host] s t)
  ∧ (∀ (p : Path) (u : Fin 187) (s : State), regFileWf s.reg = true → s.reaches p (0x21000 + 4 * u.val) = true →
      (s.unitState u.val).cmd ≠ (s.unitState u.val).obs → (s.unitState u.val).busy = false → ∃ t, exec (.unitStateRead p u) s = .next t ∧
      t.out.head? = some (.reply (.data (s.unitWord u.val))) ∧ Tab.get? t.host.skewSeen u.val = some (s.unitState u.val).cmd ∧
      (Tab.get? s.host.skewSeen u.val = some (s.unitState u.val).cmd → t.skewBit u.val = true) ∧ Touches [.out, .reg, .host] s t)
  ∧ (∀ (off : BitVec 22) (v : BitVec 64) (w : WinSlot) (s : State), Tab.get? s.host.win (off.toNat / 256) = some w → s.img.pwrOk = true →
      off.toNat % 256 = 4 → w.read = true → w.cmdId = v.toNat % 2 ^ 32 → ∃ t, exec (.windowAck off 4 v) s = .next t ∧
      Tab.get? t.host.win (off.toNat / 256) = none ∧ (∀ k < 16384, k ≠ off.toNat / 256 → Tab.get? t.host.win k = Tab.get? s.host.win k) ∧
      t.host.rings = s.host.rings ∧ Touches [.host] s t)
  ∧ (∀ (off : BitVec 22) (v : BitVec 64) (s : State), regFileWf s.reg = true → s.img.pwrOk = true → off.toNat % 4 = 0 →
      Tab.get? s.host.win (off.toNat / 256) = none → ∃ t, exec (.windowAck off 4 v) s = .next t ∧
      t.get Fld.HIF_WIN_ACK_BAD_CNT = min (s.get Fld.HIF_WIN_ACK_BAD_CNT + 1) 0xFFFFFFFF ∧ OnlyWords [Fld.HIF_WIN_ACK_BAD_CNT.off] s t ∧
      Touches [.reg] s t)
  ∧ (∀ (p : Path) (r : Fin 50) (v : Word) (s : State), regFileWf s.reg = true → s.reaches p (Fld.HIF_RING_CTL_EN r.val).off = true →
      s.flag (Fld.HIF_RING_CTL_EN r.val) = false → bit v.toNat 31 = false → ∃ t, exec (.ringEnable p r v) s = .next t ∧
      t.get (Fld.HIF_RING_CTL_SIZE_LOG2 r.val) = bits v.toNat 0 5 ∧ t.flag (Fld.HIF_RING_CTL_EN r.val) = false ∧
      OnlyWords [(Fld.HIF_RING_CTL_EN r.val).off] s t ∧ Touches [.reg] s t)
  ∧ (∀ (p : Path) (r : Fin 50) (v : Word) (s : State), regFileWf s.reg = true → s.reaches p (Fld.HIF_RING_CTL_EN r.val).off = true →
      s.flag (Fld.HIF_RING_CTL_EN r.val) = false → bit v.toNat 31 = true → ∃ t, exec (.ringEnable p r v) s = .next t ∧
      t.get (Fld.HIF_RING_CTL_SIZE_LOG2 r.val) = bits v.toNat 0 5 ∧ t.flag (Fld.HIF_RING_CTL_EN r.val) = true ∧ (t.ring r.val).head = 0 ∧
      (r.val < 16 ∨ r.val = 49 → (t.ring r.val).tail = 0 ∧ (t.ring r.val).used = 0 ∧ (t.ring r.val).phase = true) ∧
      Touches [.out, .reg, .host] s t)
  ∧ (∀ (p : Path) (r : Fin 50) (v : Word) (s : State), regFileWf s.reg = true → s.reaches p (Fld.HIF_RING_CTL_EN r.val).off = true →
      s.flag (Fld.HIF_RING_CTL_EN r.val) = true → ∃ t, exec (.ringEnable p r v) s = .next t ∧
      t.get (Fld.HIF_RING_CTL_SIZE_LOG2 r.val) = s.get (Fld.HIF_RING_CTL_SIZE_LOG2 r.val) ∧
      t.flag (Fld.HIF_RING_CTL_EN r.val) = bit v.toNat 31 ∧ OnlyWords [(Fld.HIF_RING_CTL_EN r.val).off] s t ∧ Touches [.reg] s t)
  ∧ (∀ (p : Path) (r : Fin 50) (v : Word) (s : State), s.img.pwrOk = false → exec (.ringEnable p r v) s = .next s)

/-- O17. Security associations and the tide registers. SA_INSTALL with a selection that exists puts the association of INT_SA_SEL,
INT_SA_KEY, INT_SA_SALT, INT_SA_PN and INT_SA_WIN in place, enabled, and leaves every other association; SA_DISABLE leaves it installed
but not enabled. A selection that names no association, or none installed, changes nothing. The SCI that a transmit association sends is
the choice of log entry 25. A write of TID_RATE changes that word alone. A write of TID_SLEW replaces the slew under way, with sign, ticks
and SLEW_PPM, and a write of 0 leaves none. TID_SET_CMD loads TID_SET into the counter while no Strand is SERVING or DRAINING; otherwise
it changes nothing but SET_REFUSED. No other command than these loads and the rise or fall of VAON moves the counter. -/
def Obligations.TideAndSa : Prop :=
  (∀ (p : Path) (s : State), s.reaches p Fld.INT_SA_CMD.off = true → s.saExists = true → ∃ t, exec (.saInstall p) s = .next t ∧
      Tab.get? t.sas (saIndex (s.get Fld.INT_SA_SEL_PORT) (s.flag Fld.INT_SA_SEL_DIR) (s.get Fld.INT_SA_SEL_SC) (s.get Fld.INT_SA_SEL_AN)) = some ⟨toLe 32 (s.wide 0x40204 8), toLe 12 (s.wide 0x40224 3), s.get Fld.INT_SA_SSCI, if s.flag Fld.INT_SA_SEL_DIR then s.get Fld.INT_SA_SEL_PORT else s.get64 Fld.INT_SA_SCI, s.get64 Fld.INT_SA_PN, s.get Fld.INT_SA_WIN, s.flag Fld.INT_SA_SEL_XPN, true⟩ ∧
      (∀ k < 512, k ≠ saIndex (s.get Fld.INT_SA_SEL_PORT) (s.flag Fld.INT_SA_SEL_DIR) (s.get Fld.INT_SA_SEL_SC) (s.get Fld.INT_SA_SEL_AN) →
      Tab.get? t.sas k = Tab.get? s.sas k) ∧ OnlyWords [(Fld.REL_PORT_STATE_TX (s.get Fld.INT_SA_SEL_PORT)).off] s t ∧
      Touches [.reg, .sas] s t)
  ∧ (∀ (p : Path) (s : State), s.saExists = false → exec (.saInstall p) s = .next s)
  ∧ (∀ (p : Path) (x : Sa) (s : State), Tab.get? s.sas (saIndex (s.get Fld.INT_SA_SEL_PORT) (s.flag Fld.INT_SA_SEL_DIR) (s.get Fld.INT_SA_SEL_SC) (s.get Fld.INT_SA_SEL_AN)) = some x →
      s.reaches p Fld.INT_SA_CMD.off = true → s.saExists = true → ∃ t, exec (.saDisable p) s = .next t ∧
      Tab.get? t.sas (saIndex (s.get Fld.INT_SA_SEL_PORT) (s.flag Fld.INT_SA_SEL_DIR) (s.get Fld.INT_SA_SEL_SC) (s.get Fld.INT_SA_SEL_AN)) = some { x with enabled := false } ∧
      Touches Part.every s t)
  ∧ (∀ (p : Path) (s : State), s.saExists = false → exec (.saDisable p) s = .next s)
  ∧ (∀ (p : Path) (v : Word) (s : State), regFileWf s.reg = true → s.reaches p Fld.TID_RATE.off = true →
      ∃ t, exec (.tidRateWrite p v) s = .next t ∧ t.get Fld.TID_RATE = v.toNat ∧ OnlyWords [Fld.TID_RATE.off] s t ∧ Touches [.reg] s t)
  ∧ (∀ (p : Path) (v : Word) (s : State), s.reaches p Fld.TID_SLEW.off = true → v.toNat = 0 → ∃ t, exec (.tidSlewWrite p v) s = .next t ∧
      t.pwr = { s.pwr with slew := none } ∧ Touches [.pwr] s t)
  ∧ (∀ (p : Path) (v : Word) (s : State), s.reaches p Fld.TID_SLEW.off = true → v.toNat ≠ 0 → ∃ t, exec (.tidSlewWrite p v) s = .next t ∧
      t.pwr = { s.pwr with slew := some ⟨decide (2 ^ 31 ≤ v.toNat), if 2 ^ 31 ≤ v.toNat then 2 ^ 32 - v.toNat else v.toNat, s.get Fld.TID_SLEW_PPM, s.now⟩ } ∧
      Touches [.pwr] s t)
  ∧ (∀ (p : Path) (s : State), s.reaches p Fld.TID_SET_CMD.off = true → ((∀ x ∈ s.strands, x.state ≠ .serving ∧ x.state ≠ .draining)) →
      ∃ t, exec (.tidSetCmd p) s = .next t ∧ t.now = s.get64 Fld.TID_SET ∧ Touches [.now] s t)
  ∧ (∀ (p : Path) (s : State), regFileWf s.reg = true → s.reaches p Fld.TID_SET_CMD.off = true →
      s.strands.any (fun x => x.state == .serving || x.state == .draining) = true → ∃ t, exec (.tidSetCmd p) s = .next t ∧ t.now = s.now ∧
      t.get Fld.TID_TB_STATE_SET_REFUSED = 1 ∧ OnlyWords [Fld.TID_TB_STATE_SET_REFUSED.off] s t ∧ Touches [.reg] s t)
  ∧ (∀ (p : Path) (s : State), s.img.pwrOk = false → exec (.tidSetCmd p) s = .next s)

/-- O18. The ledger window, lane test controls, error injection and the PRBS checkers. LEDGER_FETCH of a sealed record copies its 256
bytes to FLT_LEDGER_WIN and sets STATUS; without one it clears STATUS only. LANE_TEST_CONTROL of a port that is UP without force is
refused and changes nothing but REFUSED; on a port that is not up it writes the controls. ERROR_INJECT inverts one bit. CHECKER_LOCK sets
LOCK of an enabled checker; CHECKER_LOCK_LOSS, at 32 errors in 256 bits, counts, drops LOCK and counts the loss. -/
def Obligations.LedgerFetchAndLaneTests : Prop :=
  (∀ (p : Path) (x : Bytes) (s : State), regFileWf s.reg = true →
      (s.pagesOf 0 (s.get Fld.FLT_LEDGER_SEQ) ++ s.pagesOf 1 (s.get Fld.FLT_LEDGER_SEQ)).head? = some x →
      s.reaches p Fld.FLT_LEDGER_CMD.off = true → ∃ t, exec (.ledgerFetch p) s = .next t ∧
      (∀ i < 64, t.get (Fld.FLT_LEDGER_WIN i) = le x (4 * i) 4) ∧ t.get Fld.FLT_LEDGER_STATUS = 1 ∧ Touches [.reg] s t)
  ∧ (∀ (p : Path) (s : State), regFileWf s.reg = true → s.reaches p Fld.FLT_LEDGER_CMD.off = true →
      s.pagesOf 0 (s.get Fld.FLT_LEDGER_SEQ) ++ s.pagesOf 1 (s.get Fld.FLT_LEDGER_SEQ) = [] → ∃ t, exec (.ledgerFetch p) s = .next t ∧
      t.get Fld.FLT_LEDGER_STATUS = 0 ∧ OnlyWords [Fld.FLT_LEDGER_STATUS.off] s t ∧ Touches [.reg] s t)
  ∧ (∀ (p : Path) (l : Fin 37) (v : Word) (s : State), regFileWf s.reg = true → s.reaches p (Fld.TST_LANE_CTL_GEN_EN l.val).off = true →
      v.toNat &&& 0xC3 ≠ 0 → s.testLaneUp l.val = true → bit v.toNat 9 = false → ∃ t, exec (.laneTestControl p l v) s = .next t ∧
      t.get (Fld.TST_LANE_STAT_REFUSED l.val) = 1 ∧ OnlyWords [(Fld.TST_LANE_STAT_REFUSED l.val).off] s t ∧ Touches [.reg] s t)
  ∧ (∀ (p : Path) (l : Fin 37) (v : Word) (s : State), regFileWf s.reg = true → s.reaches p (Fld.TST_LANE_CTL_GEN_EN l.val).off = true →
      s.testLaneUp l.val = false → ∃ t, exec (.laneTestControl p l v) s = .next t ∧
      t.regWord (Fld.TST_LANE_CTL_GEN_EN l.val).off = word (v.toNat &&& 0x2FF) ∧
      OnlyWords [(Fld.TST_LANE_CTL_GEN_EN l.val).off, (Fld.TST_LANE_STAT_LOCK l.val).off] s t ∧
      t.out = (if bit v.toNat 8 then .injected l.val :: s.out else s.out) ∧ Touches [.out, .reg] s t)
  ∧ (∀ (p : Path) (l : Fin 37) (s : State), regFileWf s.reg = true → s.reaches p (Fld.TST_LANE_CTL_GEN_EN l.val).off = true →
      s.testLaneUp l.val = false → bit (s.regWord (Fld.TST_LANE_CTL_GEN_EN l.val).off).toNat 8 = false →
      ∃ t, exec (.errorInject p l) s = .next t ∧ t.out = .injected l.val :: s.out ∧
      OnlyWords [(Fld.TST_LANE_CTL_GEN_EN l.val).off, (Fld.TST_LANE_STAT_LOCK l.val).off] s t ∧ Touches [.out, .reg] s t)
  ∧ (∀ (l : Fin 37) (s : State), regFileWf s.reg = true → s.flag (Fld.TST_LANE_CTL_CHK_EN l.val) = true →
      ∃ t, exec (.checkerLock l) s = .next t ∧ t.get (Fld.TST_LANE_STAT_LOCK l.val) = 1 ∧
      OnlyWords [(Fld.TST_LANE_STAT_LOCK l.val).off] s t ∧ Touches [.reg] s t)
  ∧ (∀ (l : Fin 37) (s : State), s.flag (Fld.TST_LANE_CTL_CHK_EN l.val) = false → exec (.checkerLock l) s = .next s)
  ∧ (∀ (l : Fin 37) (counted : Nat) (errors : Nat) (recent : Fin 257) (s : State), regFileWf s.reg = true →
      s.flag (Fld.TST_LANE_STAT_LOCK l.val) = true → 32 ≤ recent.val → ∃ t, exec (.checkerLockLoss l counted errors recent) s = .next t ∧
      t.get (Fld.TST_LANE_STAT_LOCK l.val) = 0 ∧
      t.get (Fld.TST_LANE_LOSS_CNT l.val) = min (s.get (Fld.TST_LANE_LOSS_CNT l.val) + 1) (2 ^ (Fld.TST_LANE_LOSS_CNT l.val).width - 1) ∧
      t.get64 (Fld.TST_LANE_BITS l.val) = min (s.get64 (Fld.TST_LANE_BITS l.val) + counted) (2 ^ 64 - 1) ∧
      t.get64 (Fld.TST_LANE_ERR l.val) = min (s.get64 (Fld.TST_LANE_ERR l.val) + errors) (2 ^ 64 - 1) ∧ Touches [.out, .reg, .host] s t)
  ∧ (∀ (l : Fin 37) (counted : Nat) (errors : Nat) (recent : Fin 257) (s : State), recent.val < 32 →
      exec (.checkerLockLoss l counted errors recent) s = .next s)

/-- O19. The JTAG instructions. With VAON and VIO present: IDCODE shifts out 0x1244056F; SAMPLE_PRELOAD preloads the boundary register;
EXTEST, CLAMP, EXTEST_PULSE and EXTEST_TRAIN drive the balls and stop the data path; HIGHZ stops it with the balls floating; BYPASS
selects the one-bit register; TEST_LOGIC_RESET loads IDCODE and leaves a stopped data path stopped. REG_ACCESS makes one BAR0 access,
subject to the debug lock. Without the rails none does anything. -/
def Obligations.TestAccessPort : Prop :=
  (∀ (s : State), s.tapOn = true → ∃ t, exec .idcode s = .next t ∧ t.out = .tdo 32 0x1244056F :: s.out ∧
      t.tap = { s.tap with ir := 1, driving := false } ∧ Touches [.out, .tap] s t)
  ∧ (∀ (boundary : Nat) (s : State), s.tapOn = true → ∃ t, exec (.samplePreload boundary) s = .next t ∧
      t.tap = { s.tap with ir := 2, driving := false, boundary := boundary } ∧ t.stopped = s.stopped ∧ Touches [.tap] s t)
  ∧ (∀ (boundary : Nat) (s : State), s.tapOn = true → ∃ t, exec (.extest boundary) s = .next t ∧
      t.tap = { s.tap with ir := 3, driving := true, boundary := boundary } ∧ t.stopped = true ∧ Touches [.stopped, .tap] s t)
  ∧ (∀ (s : State), s.tapOn = true → ∃ t, exec .clamp s = .next t ∧ t.tap = { s.tap with ir := 4, driving := true } ∧ t.stopped = true ∧
      Touches [.stopped, .tap] s t)
  ∧ (∀ (s : State), s.tapOn = true → ∃ t, exec .highz s = .next t ∧ t.tap = { s.tap with ir := 5, driving := false } ∧ t.stopped = true ∧
      Touches [.stopped, .tap] s t)
  ∧ (∀ (boundary : Nat) (s : State), s.tapOn = true → ∃ t, exec (.extestPulse boundary) s = .next t ∧
      t.tap = { s.tap with ir := 6, driving := true, boundary := boundary } ∧ t.stopped = true ∧ Touches [.stopped, .tap] s t)
  ∧ (∀ (boundary : Nat) (s : State), s.tapOn = true → ∃ t, exec (.extestTrain boundary) s = .next t ∧
      t.tap = { s.tap with ir := 7, driving := true, boundary := boundary } ∧ t.stopped = true ∧ Touches [.stopped, .tap] s t)
  ∧ (∀ (s : State), s.tapOn = true → ∃ t, exec .bypass s = .next t ∧ t.out = .tdo 1 0 :: s.out ∧
      t.tap = { s.tap with ir := 0xFF, driving := false } ∧ Touches [.out, .tap] s t)
  ∧ (∀ (s : State), s.tapOn = true → ∃ t, exec .testLogicReset s = .next t ∧ t.tap = { s.tap with ir := 1, driving := false } ∧
      t.stopped = s.stopped ∧ Touches [.tap] s t)
  ∧ (∀ (write : Bool) (off : BitVec 26) (data : Word) (s : State), s.tapOn = true → s.reaches .jtag off.toNat = false →
      ∃ t, exec (.regAccess write off data) s = .next t ∧ t.out = .tdo 64 s.tap.dr :: s.out ∧
      t.tap = { s.tap with ir := 0x20, driving := false, dr := b2n write * 2 ^ 63 + off.toNat * 2 ^ 32 + (if off.toNat % 4 = 0 ∧
      write = true then data.toNat else 0) } ∧ t.reg = s.reg ∧ Touches [.out, .tap] s t)
  ∧ (∀ (off : BitVec 26) (data : Word) (d : RegDef) (s : State), regFileWf s.reg = true → regAt off.toNat = some d → s.tapOn = true →
      s.reaches .jtag off.toNat = true → off.toNat % 4 = 0 → d.lk = 0 ∨ s.flag Fld.GLB_LOCK = false → off.toNat ≠ Fld.IMG_REC_CMD.off →
      (s.arrayWrite off.toNat data.toNat).isNone = true → (s.singleWrite off.toNat data.toNat).isNone = true →
      ∃ t, exec (.regAccess true off data) s = .next t ∧
      t.regWord off.toNat = word (fieldsAfter d (s.regWord off.toNat).toNat data.toNat) ∧ OnlyWords [off.toNat] s t ∧
      Touches [.out, .reg, .tap] s t)
  ∧ (∀ (s : State), s.tapOn = false → exec .idcode s = .next s)
  ∧ (∀ (boundary : Nat) (s : State), s.tapOn = false → exec (.samplePreload boundary) s = .next s)
  ∧ (∀ (boundary : Nat) (s : State), s.tapOn = false → exec (.extest boundary) s = .next s)
  ∧ (∀ (s : State), s.tapOn = false → exec .clamp s = .next s)
  ∧ (∀ (s : State), s.tapOn = false → exec .highz s = .next s)
  ∧ (∀ (s : State), s.tapOn = false → exec .bypass s = .next s)
  ∧ (∀ (s : State), s.tapOn = false → exec .testLogicReset s = .next s)
  ∧ (∀ (write : Bool) (off : BitVec 26) (data : Word) (s : State), s.tapOn = false → exec (.regAccess write off data) s = .next s)

/-- O20. MCTP control and PLDM. With the device powered: SET_ENDPOINT_ID stores an endpoint ID other than 0 and 0xFF, and every other
query answers what Table 11-17 gives and changes nothing but the log: the stored ID, the device ID as UUID, the supported types 0, 1 and
5. A control command outside 1 to 5 is answered ERROR_UNSUPPORTED_CMD; a message of another type is discarded. That 0 and 0xFF name no
endpoint is presumed (log entry 9). Without power nothing is answered. With the device powered: SET_TID stores a terminus ID other than 0
and 0xFF, GET_TID answers it, SET_EVENT_RECEIVER stores the receiver, GET_SENSOR_READING answers the register behind the sensor,
GET_STATE_SENSOR_READINGS answers the unit word and is a state read of the unit, GET_PDR_REPOSITORY_INFO counts 9 numeric and 187 state
sensors. The queries change nothing but the log. -/
def Obligations.MctpAndPldm : Prop :=
  (∀ (eid : Byte) (s : State), s.img.pwrOk = true → endpointOk eid = true → ∃ t, exec (.setEndpointId eid) s = .next t ∧
      Says "SET_ENDPOINT_ID" [0, eid] s t ∧ t.mgmt = { s.mgmt with eid := eid.toNat } ∧ Touches [.out, .mgmt] s t)
  ∧ (∀ (eid : Byte) (s : State), s.img.pwrOk = true → endpointOk eid = false → ∃ t, exec (.setEndpointId eid) s = .next t ∧
      Says "SET_ENDPOINT_ID" [1, byte s.mgmt.eid] s t ∧ t.mgmt = s.mgmt ∧ Touches [.out, .mgmt] s t)
  ∧ (∀ (s : State), s.img.pwrOk = true → ∃ t, exec .getEndpointId s = .next t ∧ Says "GET_ENDPOINT_ID" [byte s.mgmt.eid] s t ∧
      Touches [.out] s t)
  ∧ (∀ (s : State), s.img.pwrOk = true → ∃ t, exec .getEndpointUuid s = .next t ∧ Says "GET_ENDPOINT_UUID" (s.window 0x10 16) s t ∧
      Touches [.out] s t)
  ∧ (∀ (type : Byte) (s : State), s.img.pwrOk = true → ∃ t, exec (.getMctpVersionSupport type) s = .next t ∧
      Says "GET_MCTP_VERSION_SUPPORT" [] s t ∧ Touches [.out] s t)
  ∧ (∀ (s : State), s.img.pwrOk = true → ∃ t, exec .getMessageTypeSupport s = .next t ∧ Says "GET_MESSAGE_TYPE_SUPPORT" [0, 1, 5] s t ∧
      Touches [.out] s t)
  ∧ (∀ (command : Byte) (s : State), s.img.pwrOk = true → command.toNat = 0 ∨ 5 < command.toNat →
      ∃ t, exec (.mctpUnsupportedCmd 0 command) s = .next t ∧ Says "ERROR_UNSUPPORTED_CMD" [command] s t ∧ Touches [.out] s t)
  ∧ (∀ (type : Byte) (command : Byte) (s : State), type ≠ 0 → exec (.mctpUnsupportedCmd type command) s = .next s)
  ∧ (∀ (eid : Byte) (s : State), s.img.pwrOk = false → exec (.setEndpointId eid) s = .next s)
  ∧ (∀ (s : State), s.img.pwrOk = false → exec .getEndpointId s = .next s)
  ∧ (∀ (s : State), s.img.pwrOk = false → exec .getEndpointUuid s = .next s)
  ∧ (∀ (type : Byte) (s : State), s.img.pwrOk = false → exec (.getMctpVersionSupport type) s = .next s)
  ∧ (∀ (s : State), s.img.pwrOk = false → exec .getMessageTypeSupport s = .next s)
  ∧ (∀ (s : State), s.img.pwrOk = true → ∃ t, exec .getTid s = .next t ∧ Says "GET_TID" [byte s.mgmt.tid] s t ∧ Touches [.out] s t)
  ∧ (∀ (tid : Byte) (s : State), s.img.pwrOk = true → endpointOk tid = true → ∃ t, exec (.setTid tid) s = .next t ∧
      Says "SET_TID" [0] s t ∧ t.mgmt = { s.mgmt with tid := tid.toNat } ∧ Touches [.out, .mgmt] s t)
  ∧ (∀ (tid : Byte) (s : State), s.img.pwrOk = true → endpointOk tid = false → ∃ t, exec (.setTid tid) s = .next t ∧
      Says "SET_TID" [1] s t ∧ t.mgmt = s.mgmt ∧ Touches [.out, .mgmt] s t)
  ∧ (∀ (type : Byte) (s : State), s.img.pwrOk = true → ∃ t, exec (.getPldmVersion type) s = .next t ∧ Says "GET_PLDM_VERSION" [] s t ∧
      Touches [.out] s t)
  ∧ (∀ (s : State), s.img.pwrOk = true → ∃ t, exec .getPldmTypes s = .next t ∧ Says "GET_PLDM_TYPES" [0, 2] s t ∧ Touches [.out] s t)
  ∧ (∀ (type : Byte) (s : State), s.img.pwrOk = true → ∃ t, exec (.getPldmCommands type) s = .next t ∧ Says "GET_PLDM_COMMANDS" [] s t ∧
      Touches [.out] s t)
  ∧ (∀ (s : State), s.img.pwrOk = true → ∃ t, exec .getPdrRepositoryInfo s = .next t ∧
      Says "GET_PDR_REPOSITORY_INFO" (toLe 2 9 ++ toLe 2 187) s t ∧ Touches [.out] s t)
  ∧ (∀ (handle : Word) (s : State), s.img.pwrOk = true → ∃ t, exec (.getPdr handle) s = .next t ∧ Says "GET_PDR" [] s t ∧
      Touches [.out] s t)
  ∧ (∀ (sensor : Fin 9) (s : State), s.img.pwrOk = true → ∃ t, exec (.getSensorReading sensor) s = .next t ∧
      Says "GET_SENSOR_READING" (toLe 4 (s.numericSensor sensor.val)) s t ∧ Touches [.out] s t)
  ∧ (∀ (u : Fin 187) (s : State), s.img.pwrOk = true →
      (s.unitState u.val).cmd = (s.unitState u.val).obs ∨ (s.unitState u.val).busy = true →
      ∃ t, exec (.getStateSensorReadings u) s = .next t ∧ Says "GET_STATE_SENSOR_READINGS" (toLe 4 (s.unitWord u.val)) s t ∧
      Tab.get? t.host.skewSeen u.val = none ∧ t.host.rings = s.host.rings ∧ Touches [.out, .host] s t)
  ∧ (∀ (receiver : Option Byte) (s : State), s.img.pwrOk = true → ∃ t, exec (.setEventReceiver receiver) s = .next t ∧
      Says "SET_EVENT_RECEIVER" [] s t ∧ t.mgmt = { s.mgmt with receiver := receiver.map BitVec.toNat } ∧ Touches [.out, .mgmt] s t)
  ∧ (∀ (tid : Byte) (s : State), s.img.pwrOk = false → exec (.setTid tid) s = .next s)
  ∧ (∀ (u : Fin 187) (s : State), s.img.pwrOk = false → exec (.getStateSensorReadings u) s = .next s)
  ∧ (∀ (receiver : Option Byte) (s : State), s.img.pwrOk = false → exec (.setEventReceiver receiver) s = .next s)
  ∧ (∀ (sensor : Fin 9) (s : State), s.img.pwrOk = false → exec (.getSensorReading sensor) s = .next s)

/-- O21. SPDM: connection, certificates, measurements, chunks. GET_VERSION answers 1.3 and 1.2, starts the connection over and drops the
sessions of its transport. GET_CAPABILITIES takes versions 1.3 and 1.2 and keeps the largest message of the requester.
NEGOTIATE_ALGORITHMS needs a version and an offer of the four algorithms. GET_DIGESTS, GET_CERTIFICATE, CHALLENGE (slot 0) and GET_CSR
answer once algorithms stand, and are refused UnexpectedRequest before. Nothing but the connections, the sessions, the log and the free
values changes. The capability bits are presumed (log entry 9). GET_MEASUREMENTS answers the number of blocks for index 0, all of them for
0xFF and one for 1 to 7, signed for slot 0 or unsigned; another index is InvalidRequest. CHUNK_SEND puts a large request together, chunk
after chunk under one handle. CHUNK_GET returns part seq of the response kept under its handle, and the last part ends it. DOE_DISCOVERY
answers the three protocols by index. -/
def Obligations.SpdmMessages : Prop :=
  (∀ (tr : Transport) (s : State), s.img.pwrOk = true → ∃ t, exec (.getVersion tr) s = .next t ∧
      Replies tr "VERSION" [0x13, 0x12] [] s t ∧ (t.conn tr).version = 0 ∧ (t.conn tr).algorithms = false ∧
      (∀ x ∈ t.mgmt.sessions, x.transport ≠ tr) ∧ t.mgmt.eid = s.mgmt.eid ∧ t.mgmt.ideSet = s.mgmt.ideSet ∧
      Touches [.freeCtr, .out, .mgmt] s t)
  ∧ (∀ (version : Byte) (maxMessage : Word) (tr : Transport) (s : State), s.img.pwrOk = true → version = 0x13 ∨ version = 0x12 →
      ∃ t, exec (.getCapabilities tr version maxMessage) s = .next t ∧ Replies tr "CAPABILITIES" (toLe 4 spdmCapabilities) [version] s t ∧
      (t.conn tr).version = version.toNat ∧ (t.conn tr).maxMessage = maxMessage.toNat ∧ (t.conn tr).algorithms = false ∧
      t.mgmt.sessions = s.mgmt.sessions ∧ Touches [.freeCtr, .out, .mgmt] s t)
  ∧ (∀ (version : Byte) (maxMessage : Word) (tr : Transport) (s : State), s.img.pwrOk = true → version ≠ 0x13 → version ≠ 0x12 →
      ∃ t, exec (.getCapabilities tr version maxMessage) s = .next t ∧ Says "ERROR VersionMismatch" [] s t ∧ Touches [.out] s t)
  ∧ (∀ (request : Bytes) (tr : Transport) (s : State), s.img.pwrOk = true → (s.conn tr).version ≠ 0 →
      ∃ t, exec (.negotiateAlgorithms tr true request) s = .next t ∧ Replies tr "ALGORITHMS" [] request s t ∧
      (t.conn tr).algorithms = true ∧ (t.conn tr).version = (s.conn tr).version ∧ t.mgmt.sessions = s.mgmt.sessions ∧
      Touches [.freeCtr, .out, .mgmt] s t)
  ∧ (∀ (offered : Bool) (request : Bytes) (tr : Transport) (s : State), s.img.pwrOk = true → (s.conn tr).version = 0 →
      ∃ t, exec (.negotiateAlgorithms tr offered request) s = .next t ∧ Says "ERROR UnexpectedRequest" [] s t ∧ Touches [.out] s t)
  ∧ (∀ (tr : Transport) (s : State), s.img.pwrOk = true → (s.conn tr).algorithms = true → ∃ t, exec (.getDigests tr) s = .next t ∧
      Replies tr "DIGESTS" (((s.certChain 0).map sha384).getD [] ++ ((s.certChain 1).map sha384).getD []) [] s t ∧
      t.mgmt.sessions = s.mgmt.sessions ∧ Touches [.freeCtr, .out, .mgmt] s t)
  ∧ (∀ (tr : Transport) (s : State), s.img.pwrOk = true → (s.conn tr).algorithms = false → ∃ t, exec (.getDigests tr) s = .next t ∧
      Says "ERROR UnexpectedRequest" [] s t ∧ Touches [.out] s t)
  ∧ (∀ (slot : Byte) (off : BitVec 16) (len : BitVec 16) (tr : Transport) (x : Bytes) (s : State), s.certChain slot.toNat = some x →
      s.img.pwrOk = true → (s.conn tr).algorithms = true → off.toNat ≤ x.length →
      ∃ t, exec (.getCertificate tr slot off len) s = .next t ∧
      Replies tr "CERTIFICATE" (toLe 2 (min len.toNat (x.length - off.toNat)) ++ toLe 2 (x.length - off.toNat - min len.toNat (x.length - off.toNat)) ++ (x.drop off.toNat).take len.toNat) ([slot] ++ toLe 2 off.toNat ++ toLe 2 len.toNat) s t ∧
      t.mgmt.sessions = s.mgmt.sessions ∧ Touches [.freeCtr, .out, .mgmt] s t)
  ∧ (∀ (slot : Byte) (off : BitVec 16) (len : BitVec 16) (tr : Transport) (s : State), s.img.pwrOk = true →
      (s.conn tr).algorithms = true → s.certChain slot.toNat = none → ∃ t, exec (.getCertificate tr slot off len) s = .next t ∧
      Says "ERROR InvalidRequest" [] s t ∧ Touches [.out] s t)
  ∧ (∀ (request : Bytes) (tr : Transport) (s : State), s.img.pwrOk = true → (s.conn tr).algorithms = true →
      ∃ t, exec (.challenge tr 0 request) s = .next t ∧ Replies tr "CHALLENGE_AUTH" [] request s t ∧ t.mgmt.sessions = s.mgmt.sessions ∧
      Touches [.freeCtr, .out, .mgmt] s t)
  ∧ (∀ (slot : Byte) (request : Bytes) (tr : Transport) (s : State), s.img.pwrOk = true → (s.conn tr).algorithms = true → slot ≠ 0 →
      ∃ t, exec (.challenge tr slot request) s = .next t ∧ Says "ERROR InvalidRequest" [] s t ∧ Touches [.out] s t)
  ∧ (∀ (request : Bytes) (tr : Transport) (s : State), s.img.pwrOk = true → (s.conn tr).algorithms = true →
      ∃ t, exec (.getCsr tr request) s = .next t ∧ Replies tr "CSR" [] request s t ∧ t.mgmt.sessions = s.mgmt.sessions ∧
      Touches [.freeCtr, .out, .mgmt] s t)
  ∧ (∀ (request : Bytes) (tr : Transport) (s : State), s.img.pwrOk = true → (s.conn tr).algorithms = true →
      ∃ t, exec (.getMeasurements tr 0 none request) s = .next t ∧ Replies tr "MEASUREMENTS" [7] request s t ∧
      Touches [.freeCtr, .out, .mgmt] s t)
  ∧ (∀ (request : Bytes) (tr : Transport) (s : State), s.img.pwrOk = true → (s.conn tr).algorithms = true →
      ∃ t, exec (.getMeasurements tr 0xFF (some 0) request) s = .next t ∧
      Replies tr "MEASUREMENTS signed" (s.measurements [1, 2, 3, 4, 5, 6, 7]) request s t ∧ Touches [.freeCtr, .out, .mgmt] s t)
  ∧ (∀ (index : Byte) (request : Bytes) (tr : Transport) (s : State), s.img.pwrOk = true → (s.conn tr).algorithms = true →
      1 ≤ index.toNat → index.toNat ≤ 7 → ∃ t, exec (.getMeasurements tr index none request) s = .next t ∧
      Replies tr "MEASUREMENTS" (s.measurements [index.toNat]) request s t ∧ Touches [.freeCtr, .out, .mgmt] s t)
  ∧ (∀ (index : Byte) (sign : Option Byte) (request : Bytes) (tr : Transport) (s : State), s.img.pwrOk = true →
      (s.conn tr).algorithms = true → 8 ≤ index.toNat → index.toNat ≠ 255 →
      ∃ t, exec (.getMeasurements tr index sign request) s = .next t ∧ Says "ERROR InvalidRequest" [] s t ∧ Touches [.out] s t)
  ∧ (∀ (handle : Byte) (last : Bool) (data : Bytes) (tr : Transport) (s : State), s.img.pwrOk = true → (s.conn tr).algorithms = true →
      ∃ t, exec (.chunkSend tr handle true last data) s = .next t ∧ Says "CHUNK_SEND_ACK" [handle] s t ∧
      t.conn tr = { s.conn tr with chunksIn := if last then none else some (handle.toNat, data) } ∧ Touches [.out, .mgmt] s t)
  ∧ (∀ (handle : Byte) (last : Bool) (data : Bytes) (tr : Transport) (x : Nat × Bytes) (s : State), (s.conn tr).chunksIn = some x →
      s.img.pwrOk = true → (s.conn tr).algorithms = true → x.1 = handle.toNat →
      ∃ t, exec (.chunkSend tr handle false last data) s = .next t ∧ Says "CHUNK_SEND_ACK" [handle] s t ∧
      t.conn tr = { s.conn tr with chunksIn := if last then none else some (handle.toNat, x.2 ++ data) } ∧ Touches [.out, .mgmt] s t)
  ∧ (∀ (handle : Byte) (last : Bool) (data : Bytes) (tr : Transport) (s : State), s.img.pwrOk = true → (s.conn tr).algorithms = true →
      (s.conn tr).chunksIn = none → ∃ t, exec (.chunkSend tr handle false last data) s = .next t ∧ Says "ERROR InvalidRequest" [] s t ∧
      t.mgmt = s.mgmt ∧ Touches [.out, .mgmt] s t)
  ∧ (∀ (handle : Byte) (seq : BitVec 16) (tr : Transport) (x : Nat × Bytes) (s : State), (s.conn tr).chunksOut = some x →
      s.img.pwrOk = true → (s.conn tr).algorithms = true → x.1 = handle.toNat → (s.conn tr).maxMessage * seq.toNat < x.2.length →
      ∃ t, exec (.chunkGet tr handle seq) s = .next t ∧
      Says "CHUNK_RESPONSE" ((x.2.drop ((s.conn tr).maxMessage * seq.toNat)).take (s.conn tr).maxMessage) s t ∧
      (t.conn tr).chunksOut = (if x.2.length ≤ (s.conn tr).maxMessage * (seq.toNat + 1) then none else (s.conn tr).chunksOut) ∧
      t.mgmt.sessions = s.mgmt.sessions ∧ Touches [.out, .mgmt] s t)
  ∧ (∀ (handle : Byte) (seq : BitVec 16) (tr : Transport) (s : State), s.img.pwrOk = true → (s.conn tr).algorithms = true →
      (s.conn tr).chunksOut = none → ∃ t, exec (.chunkGet tr handle seq) s = .next t ∧ Says "ERROR InvalidRequest" [] s t ∧
      Touches [.out] s t)
  ∧ (∀ (index : Byte) (s : State), s.img.pwrOk = true → ∃ t, exec (.doeDiscovery index) s = .next t ∧
      Says "DOE_DISCOVERY" (if index.toNat < 3 then [index, byte ((index.toNat + 1) % 3)] else []) s t ∧ Touches [.out] s t)
  ∧ (∀ (index : Byte) (s : State), s.img.pwrOk = false → exec (.doeDiscovery index) s = .next s)

/-- O22. SPDM sessions and IDE keys. KEY_EXCHANGE opens the first free one of the two sessions of its transport, and refuses a third.
FINISH with correct data establishes the session, and ends it otherwise. HEARTBEAT and KEY_UPDATE keep an established session, END_SESSION
closes it; each notes the tick of the message, and other sessions stay as they are. A session that does not exist is UnexpectedRequest. In
an established session over DOE, KEY_PROG stores the key of a sub-stream, direction and key set; K_SET_GO with a key in the set makes the
set active and sets HIF_STATUS IDE, without one it does not; K_SET_STOP of the set in use ends the stream and clears IDE; QUERY only
answers. Outside such a session nothing happens. HIF_STATUS is the only register that any of them writes. -/
def Obligations.SessionsAndKeys : Prop :=
  (∀ (request : Bytes) (tr : Transport) (s : State), s.img.pwrOk = true → (s.conn tr).algorithms = true → s.session? tr 0 = none →
      ∃ t, exec (.keyExchange tr 0 request) s = .next t ∧ Replies tr "KEY_EXCHANGE_RSP" [0] request s t ∧
      t.mgmt.sessions = s.mgmt.sessions ++ [⟨tr, 0, false, 0, s.now⟩] ∧ Touches [.freeCtr, .out, .mgmt] s t)
  ∧ (∀ (request : Bytes) (tr : Transport) (s : State), s.img.pwrOk = true → (s.conn tr).algorithms = true → s.session? tr 0 ≠ none →
      s.session? tr 1 = none → ∃ t, exec (.keyExchange tr 0 request) s = .next t ∧ Replies tr "KEY_EXCHANGE_RSP" [1] request s t ∧
      t.mgmt.sessions = s.mgmt.sessions ++ [⟨tr, 1, false, 0, s.now⟩] ∧ Touches [.freeCtr, .out, .mgmt] s t)
  ∧ (∀ (request : Bytes) (tr : Transport) (s : State), s.img.pwrOk = true → (s.conn tr).algorithms = true → s.session? tr 0 ≠ none →
      s.session? tr 1 ≠ none → ∃ t, exec (.keyExchange tr 0 request) s = .next t ∧ Says "ERROR SessionLimitExceeded" [] s t ∧
      Touches [.out] s t)
  ∧ (∀ (k : Fin 2) (tr : Transport) (x : Session) (s : State), s.session? tr k.val = some x → s.img.pwrOk = true → x.established = false →
      ∃ t, exec (.finish tr k true) s = .next t ∧ Replies tr "FINISH_RSP" [byte k.val] [] s t ∧
      t.session? tr k.val = some { x with established := true, last := s.now } ∧
      (∀ y ∈ s.mgmt.sessions, y.transport ≠ tr ∨ y.slot ≠ k.val → y ∈ t.mgmt.sessions) ∧ Touches [.freeCtr, .out, .mgmt] s t)
  ∧ (∀ (k : Fin 2) (tr : Transport) (x : Session) (s : State), s.session? tr k.val = some x → s.img.pwrOk = true → x.established = false →
      ∃ t, exec (.finish tr k false) s = .next t ∧ Says "ERROR DecryptError" [] s t ∧ t.session? tr k.val = none ∧
      Touches [.freeCtr, .out, .mgmt] s t)
  ∧ (∀ (k : Fin 2) (tr : Transport) (x : Session) (s : State), s.session? tr k.val = some x → s.img.pwrOk = true → x.established = true →
      ∃ t, exec (.heartbeat tr k) s = .next t ∧ Replies tr "HEARTBEAT_ACK" [byte k.val] [] s t ∧
      t.session? tr k.val = some { x with last := s.now } ∧ t.mgmt.sessions.length = s.mgmt.sessions.length ∧
      Touches [.freeCtr, .out, .mgmt] s t)
  ∧ (∀ (k : Fin 2) (tr : Transport) (x : Session) (s : State), s.session? tr k.val = some x → s.img.pwrOk = true → x.established = true →
      ∃ t, exec (.keyUpdate tr k) s = .next t ∧ Replies tr "KEY_UPDATE_ACK" [byte k.val] [] s t ∧
      t.session? tr k.val = some { x with last := s.now, updates := x.updates + 1 } ∧ t.mgmt.sessions.length = s.mgmt.sessions.length ∧
      Touches [.freeCtr, .out, .mgmt] s t)
  ∧ (∀ (k : Fin 2) (tr : Transport) (x : Session) (s : State), s.session? tr k.val = some x → s.img.pwrOk = true → x.established = true →
      ∃ t, exec (.endSession tr k) s = .next t ∧ Replies tr "END_SESSION_ACK" [byte k.val] [] s t ∧ t.session? tr k.val = none ∧
      (∀ y ∈ s.mgmt.sessions, y.transport ≠ tr ∨ y.slot ≠ k.val → y ∈ t.mgmt.sessions) ∧ Touches [.freeCtr, .out, .mgmt] s t)
  ∧ (∀ (k : Fin 2) (ok : Bool) (tr : Transport) (s : State), s.img.pwrOk = true → s.session? tr k.val = none →
      ∃ t, exec (.finish tr k ok) s = .next t ∧ Says "ERROR UnexpectedRequest" [] s t ∧ Touches [.out] s t)
  ∧ (∀ (k : Fin 2) (tr : Transport) (s : State), s.img.pwrOk = true → s.session? tr k.val = none →
      ∃ t, exec (.heartbeat tr k) s = .next t ∧ Says "ERROR UnexpectedRequest" [] s t ∧ Touches [.out] s t)
  ∧ (∀ (k : Fin 2) (tr : Transport) (s : State), s.img.pwrOk = true → s.session? tr k.val = none →
      ∃ t, exec (.keyUpdate tr k) s = .next t ∧ Says "ERROR UnexpectedRequest" [] s t ∧ Touches [.out] s t)
  ∧ (∀ (k : Fin 2) (tr : Transport) (s : State), s.img.pwrOk = true → s.session? tr k.val = none →
      ∃ t, exec (.endSession tr k) s = .next t ∧ Says "ERROR UnexpectedRequest" [] s t ∧ Touches [.out] s t)
  ∧ (∀ (k : Fin 2) (x : Session) (s : State), s.session? .doe k.val = some x → s.img.pwrOk = true → x.established = true →
      ∃ t, exec (.ideKmQuery k) s = .next t ∧ Replies .doe "QUERY_RESP" [] [] s t ∧ t.mgmt.ideKeys = s.mgmt.ideKeys ∧
      t.mgmt.ideSet = s.mgmt.ideSet ∧ Touches [.freeCtr, .out, .mgmt] s t)
  ∧ (∀ (k : Fin 2) (sub : Fin 8) (transmit : Bool) (keySet : Bool) (key : Bytes) (x : Session) (s : State), s.session? .doe k.val = some x →
      s.img.pwrOk = true → x.established = true → ∃ t, exec (.ideKmKeyProg k sub transmit keySet key) s = .next t ∧
      Replies .doe "KP_ACK" [] [] s t ∧ Tab.get? t.mgmt.ideKeys (4 * sub.val + 2 * b2n transmit + b2n keySet) = some key ∧
      (∀ i < 32, i ≠ 4 * sub.val + 2 * b2n transmit + b2n keySet → Tab.get? t.mgmt.ideKeys i = Tab.get? s.mgmt.ideKeys i) ∧
      t.mgmt.ideSet = s.mgmt.ideSet ∧ Touches [.freeCtr, .out, .mgmt] s t)
  ∧ (∀ (k : Fin 2) (keySet : Bool) (x : Session) (s : State), s.session? .doe k.val = some x → s.img.pwrOk = true → x.established = true →
      s.mgmt.ideKeys.any (fun e => e.1 % 2 == b2n keySet) = true → regFileWf s.reg = true →
      ∃ t, exec (.ideKmKSetGo k keySet) s = .next t ∧ Replies .doe "K_GOSTOP_ACK" [] [] s t ∧ t.mgmt.ideSet = some (b2n keySet) ∧
      t.flag Fld.HIF_STATUS_IDE = true ∧ t.get Fld.HIF_STATUS_LINK_UP = s.get Fld.HIF_STATUS_LINK_UP ∧
      OnlyWords [Fld.HIF_STATUS_IDE.off] s t ∧ Touches [.freeCtr, .out, .mgmt, .reg] s t)
  ∧ (∀ (k : Fin 2) (keySet : Bool) (x : Session) (s : State), s.session? .doe k.val = some x → s.img.pwrOk = true → x.established = true →
      s.mgmt.ideKeys.any (fun e => e.1 % 2 == b2n keySet) = false → ∃ t, exec (.ideKmKSetGo k keySet) s = .next t ∧
      Replies .doe "K_GOSTOP_ACK" [] [] s t ∧ t.mgmt.ideSet = s.mgmt.ideSet ∧ Touches [.freeCtr, .out, .mgmt] s t)
  ∧ (∀ (k : Fin 2) (keySet : Bool) (x : Session) (s : State), s.session? .doe k.val = some x → s.img.pwrOk = true → x.established = true →
      s.mgmt.ideSet = some (b2n keySet) → regFileWf s.reg = true → ∃ t, exec (.ideKmKSetStop k keySet) s = .next t ∧
      Replies .doe "K_GOSTOP_ACK" [] [] s t ∧ t.mgmt.ideSet = none ∧ t.flag Fld.HIF_STATUS_IDE = false ∧
      OnlyWords [Fld.HIF_STATUS_IDE.off] s t ∧ Touches [.freeCtr, .out, .mgmt, .reg] s t)
  ∧ (∀ (k : Fin 2) (keySet : Bool) (x : Session) (s : State), s.session? .doe k.val = some x → s.img.pwrOk = true → x.established = true →
      s.mgmt.ideSet ≠ some (b2n keySet) → ∃ t, exec (.ideKmKSetStop k keySet) s = .next t ∧ Replies .doe "K_GOSTOP_ACK" [] [] s t ∧
      t.mgmt.ideSet = s.mgmt.ideSet ∧ Touches [.freeCtr, .out, .mgmt] s t)
  ∧ (∀ (k : Fin 2) (s : State), s.session? .doe k.val = none → exec (.ideKmQuery k) s = .next s)
  ∧ (∀ (k : Fin 2) (sub : Fin 8) (transmit : Bool) (keySet : Bool) (key : Bytes) (s : State), s.session? .doe k.val = none →
      exec (.ideKmKeyProg k sub transmit keySet key) s = .next s)
  ∧ (∀ (k : Fin 2) (keySet : Bool) (s : State), s.session? .doe k.val = none → exec (.ideKmKSetGo k keySet) s = .next s)
  ∧ (∀ (k : Fin 2) (keySet : Bool) (s : State), s.session? .doe k.val = none → exec (.ideKmKSetStop k keySet) s = .next s)

/-- O23. Strands load, serve and drain. STRAND_SECTION_LOAD sends a Strand in LOADING whose bank holds no section, or one that is not
whole records, to OFF (the latter with fault IMG_SECTION); otherwise it ends in OFF or with the section loaded. STRAND_ENTER_SERVING takes
a loaded Strand whose conditions hold to SERVING with its new shares. STRAND_DRAIN_END takes a drained Strand to LOADING. DRAIN_STUCK
marks a Strand 1 ms past its bound. Outside its state none does anything. -/
def Obligations.StrandLifecycle : Prop :=
  (∀ (strand : Fin 32) (s : State), s.img.boot = .ready → s.stopped = false → s.strandState strand.val = .loading →
      (s.strand strand.val).loaded = false → s.get Fld.IMG_STATE_PHASE ≠ 7 →
      s.findSection (s.strand strand.val).bank 3 strand.val = none → s.strands.length = 32 →
      ∃ t, exec (.strandSectionLoad strand) s = .next t ∧ t.strandState strand.val = .off ∧ (t.strand strand.val).loaded = false ∧
      t.now = s.now ∧ Touches [.freeCtr, .out, .reg, .host, .ops, .led, .strands, .img] s t)
  ∧ (∀ (strand : Fin 32) (x : ImgSection) (s : State), s.findSection (s.strand strand.val).bank 3 strand.val = some x →
      s.img.boot = .ready → s.stopped = false → s.strandState strand.val = .loading → (s.strand strand.val).loaded = false →
      s.get Fld.IMG_STATE_PHASE ≠ 7 → (s.sectionBytes (s.strand strand.val).bank x).length % 8 ≠ 0 → s.strands.length = 32 →
      ∃ t, exec (.strandSectionLoad strand) s = .next t ∧ t.strandState strand.val = .off ∧ (t.strand strand.val).fault = .imgSection ∧
      Touches [.freeCtr, .out, .reg, .host, .ops, .led, .strands, .img] s t)
  ∧ (∀ (strand : Fin 32) (s : State), s.img.boot = .ready → s.stopped = false → s.strandState strand.val = .loading →
      (s.strand strand.val).loaded = false → s.get Fld.IMG_STATE_PHASE ≠ 7 → s.strands.length = 32 →
      ∃ t, exec (.strandSectionLoad strand) s = .next t ∧ (t.strandState strand.val = .off ∨ t.strandState strand.val = .loading ∧
      (t.strand strand.val).loaded = true ∧ (t.strand strand.val).bound = true) ∧
      Touches [.freeCtr, .out, .reg, .host, .ops, .led, .strands, .img] s t)
  ∧ (∀ (strand : Fin 32) (s : State), s.strandState strand.val ≠ .loading → exec (.strandSectionLoad strand) s = .next s)
  ∧ (∀ (strand : Fin 32) (s : State), s.img.boot = .ready → s.stopped = false → s.strandState strand.val = .loading →
      (s.strand strand.val).loaded = true → s.keyMapDead strand.val = false → s.strandReady strand.val = true →
      (∀ w ∈ s.img.swaps, w.started = true) → s.strands.length = 32 → ∃ t, exec (.strandEnterServing strand) s = .next t ∧
      t.strandState strand.val = .serving ∧ t.served = true ∧
      (t.strand strand.val).shares = (s.strand strand.val).nextShares.getD (s.strand strand.val).shares ∧
      (t.strand strand.val).since = s.now ∧
      Touches [.freeCtr, .out, .reg, .host, .ops, .led, .acc, .strands, .frames, .served, .srv, .img] s t)
  ∧ (∀ (strand : Fin 32) (s : State), s.img.boot = .ready → s.stopped = false → s.strandState strand.val = .loading →
      (s.strand strand.val).loaded = true → s.keyMapDead strand.val = true → s.strands.length = 32 →
      ∃ t, exec (.strandEnterServing strand) s = .next t ∧ t.strandState strand.val = .off ∧ (t.strand strand.val).fault = .vitNoBank ∧
      Touches [.freeCtr, .out, .reg, .host, .ops, .led, .acc, .strands, .frames, .served, .srv, .img] s t)
  ∧ (∀ (strand : Fin 32) (s : State), (s.strand strand.val).loaded = false → exec (.strandEnterServing strand) s = .next s)
  ∧ (∀ (strand : Fin 32) (s : State), s.strandState strand.val = .draining → (s.strand strand.val).stuck = false →
      s.inside strand.val = 0 → s.stopped = false → s.strands.length = 32 → ∃ t, exec (.strandDrainEnd strand) s = .next t ∧
      t.strandState strand.val = .loading ∧ (t.strand strand.val).loaded = false ∧
      (t.strand strand.val).bank = (s.strand strand.val).bank ∧ (∀ i < 32, i ≠ strand.val → t.strand i = s.strand i) ∧
      Touches [.strands] s t)
  ∧ (∀ (strand : Fin 32) (s : State), 0 < s.inside strand.val → exec (.strandDrainEnd strand) s = .next s)
  ∧ (∀ (strand : Fin 32) (s : State), regFileWf s.reg = true → s.strandState strand.val = .draining →
      (s.strand strand.val).stuck = false → s.drainBound strand.val + 500000 ≤ s.since (s.strand strand.val).since →
      s.strands.length = 32 → ∃ t, exec (.drainStuck strand) s = .next t ∧ t.strandState strand.val = .draining ∧
      (t.strand strand.val).stuck = true ∧ t.get Fld.FLT_WEDGE_CNT = min (s.get Fld.FLT_WEDGE_CNT + 1) (2 ^ Fld.FLT_WEDGE_CNT.width - 1) ∧
      Touches [.out, .reg, .host, .strands] s t)
  ∧ (∀ (strand : Fin 32) (s : State), s.strandState strand.val ≠ .draining → exec (.drainStuck strand) s = .next s)

/-- O24. IMG_SWAP. A swap of a Strand in OFF that is not retired begins to load it from the force bank; a forced swap of a SERVING Strand
begins a forced drain, an unforced one a drain where its Twin serves too, and waits where it does not. A swap with a bad operand, of a
Strand in another state, or with a roll under way completes with ILLEGAL_OP, and no Strand changes. -/
def Obligations.TidalSwap : Prop :=
  (∀ (q : Fin 16) (e : SqEntry) (strand : Fin 256) (s : State), Takes q e s → s.img.roll = none →
      s.img.swaps.any (fun w => w.strand == strand.val) = false → s.strands.length = 32 → strand.val < 32 →
      s.strandState strand.val = .off → s.isRetired .strand strand.val = false → ∃ t, exec (.imgSwap q e strand 0 true) s = .next t ∧
      t.strandState strand.val = .loading ∧ (t.strand strand.val).bank = s.forceBank ∧ (∀ i < 32, i ≠ strand.val →
      t.strand i = s.strand i) ∧ t.img.swaps = s.img.swaps ++ [⟨⟨q.val, e, 0x40, s.host.gen, s.now⟩, strand.val, true⟩] ∧
      Touches [.freeCtr, .out, .reg, .host, .strands, .frames, .srv, .img] s t)
  ∧ (∀ (q : Fin 16) (e : SqEntry) (strand : Fin 256) (s : State), Takes q e s → s.img.roll = none →
      s.img.swaps.any (fun w => w.strand == strand.val) = false → s.strands.length = 32 → strand.val < 32 →
      s.strandState strand.val = .serving → ∃ t, exec (.imgSwap q e strand 1 true) s = .next t ∧ t.strandState strand.val = .draining ∧
      (t.strand strand.val).forced = true ∧ t.img.swaps = s.img.swaps ++ [⟨⟨q.val, e, 0x40, s.host.gen, s.now⟩, strand.val, true⟩] ∧
      Touches [.freeCtr, .out, .reg, .host, .strands, .frames, .srv, .img] s t)
  ∧ (∀ (q : Fin 16) (e : SqEntry) (strand : Fin 256) (s : State), Takes q e s → s.img.roll = none →
      s.img.swaps.any (fun w => w.strand == strand.val) = false → s.strands.length = 32 → strand.val < 32 →
      s.strandState strand.val = .serving → s.strandState (twinOf strand.val) = .serving →
      ∃ t, exec (.imgSwap q e strand 0 true) s = .next t ∧ t.strandState strand.val = .draining ∧ (t.strand strand.val).forced = false ∧
      t.frames = s.frames ∧ t.img.swaps = s.img.swaps ++ [⟨⟨q.val, e, 0x40, s.host.gen, s.now⟩, strand.val, true⟩] ∧
      Touches [.freeCtr, .out, .reg, .host, .strands, .frames, .srv, .img] s t)
  ∧ (∀ (q : Fin 16) (e : SqEntry) (strand : Fin 256) (s : State), Takes q e s → s.img.roll = none →
      s.img.swaps.any (fun w => w.strand == strand.val) = false → s.strands.length = 32 → strand.val < 32 →
      s.strandState strand.val = .serving → s.strandState (twinOf strand.val) ≠ .serving →
      ∃ t, exec (.imgSwap q e strand 0 true) s = .next t ∧
      t.img.swaps = s.img.swaps ++ [⟨⟨q.val, e, 0x40, s.host.gen, s.now⟩, strand.val, false⟩] ∧ Touches [.host, .img] s t)
  ∧ (∀ (q : Fin 16) (e : SqEntry) (strand : Fin 256) (flags : Byte) (reserved : Bool) (s : State), Takes q e s →
      reserved = false ∨ 1 < flags.toNat ∨ 31 < strand.val → ∃ t, exec (.imgSwap q e strand flags reserved) s = .next t ∧
      Completed q e 0x40 .illegalOp s t ∧ Touches [.freeCtr, .out, .reg, .host] s t)
  ∧ (∀ (q : Fin 16) (e : SqEntry) (strand : Fin 256) (flags : Byte) (s : State), Takes q e s → s.img.roll.isSome = true →
      ∃ t, exec (.imgSwap q e strand flags true) s = .next t ∧ Completed q e 0x40 .illegalOp s t ∧
      Touches [.freeCtr, .out, .reg, .host] s t)
  ∧ (∀ (q : Fin 16) (e : SqEntry) (strand : Fin 256) (flags : Byte) (reserved : Bool) (s : State), Takes q e s →
      s.strandState strand.val = .draining → ∃ t, exec (.imgSwap q e strand flags reserved) s = .next t ∧
      Completed q e 0x40 .illegalOp s t ∧ Touches [.freeCtr, .out, .reg, .host] s t)

/-- O25. A roll: its start and its steps. IMG_ROLL of the other bank, with another epoch, no swap and no roll under way, starts the
verification of the roll. A bad operand, a swap or a roll under way, or the force bank itself is refused with ILLEGAL_OP and starts
nothing. IMG_ABORT of a roll being verified ends it with OK; of a roll that runs it makes the roll revert; without a roll since reset it
is ILLEGAL_OP, after a roll ALREADY_COMPLETE. ROLL_VERIFY_DONE ends a roll whose target bank fails its checks, with the fault in IMG_FAULT
and state 5; it ends no roll that runs. ROLL_STRAND_STEP drains the next Strand of the roll, or loads it where it is OFF, once its Twin
serves. ROLL_WAIT_EXPIRY without FORCE and STRAND_LOAD_TIMEOUT make a running roll revert, with faults 0x0D and 0x0C. Without a roll none
does anything. -/
def Obligations.Rolls : Prop :=
  (∀ (q : Fin 16) (e : SqEntry) (bank : Fin 256) (flags : Byte) (wait : BitVec 16) (s : State), regFileWf s.reg = true → Takes q e s →
      bank.val < 2 → flags.toNat < 2 → wait ≠ 0 → s.img.roll = none → s.img.swaps = [] → bank.val ≠ s.forceBank →
      hdrEpoch (s.imgHeader bank.val) ≠ hdrEpoch (s.imgHeader s.forceBank) → ∃ t, exec (.imgRoll q e bank flags wait true) s = .next t ∧
      t.img.roll = some ⟨⟨q.val, e, 0x41, s.host.gen, s.now⟩, bank.val, flags.toNat == 1, wait.toNat, .verify, [], none, s.now, [], 0, 0⟩ ∧
      t.get Fld.IMG_ROLL_STATE = 1 ∧ t.get Fld.IMG_ROLL_TARGET = bank.val ∧ t.get Fld.IMG_ROLL_DONE = 0 ∧ t.strands = s.strands ∧
      Touches [.reg, .host, .img] s t)
  ∧ (∀ (q : Fin 16) (e : SqEntry) (bank : Fin 256) (flags : Byte) (wait : BitVec 16) (reserved : Bool) (s : State), Takes q e s →
      reserved = false ∨ 1 < bank.val ∨ 1 < flags.toNat ∨ wait = 0 → ∃ t, exec (.imgRoll q e bank flags wait reserved) s = .next t ∧
      Completed q e 0x41 .illegalOp s t ∧ t.img = s.img ∧ Touches [.freeCtr, .out, .reg, .host] s t)
  ∧ (∀ (q : Fin 16) (e : SqEntry) (bank : Fin 256) (flags : Byte) (wait : BitVec 16) (reserved : Bool) (s : State), Takes q e s →
      s.img.roll.isSome = true ∨ s.img.swaps ≠ [] → ∃ t, exec (.imgRoll q e bank flags wait reserved) s = .next t ∧
      Completed q e 0x41 .illegalOp s t ∧ t.img = s.img ∧ Touches [.freeCtr, .out, .reg, .host] s t)
  ∧ (∀ (q : Fin 16) (e : SqEntry) (bank : Fin 256) (flags : Byte) (wait : BitVec 16) (reserved : Bool) (s : State), Takes q e s →
      bank.val = s.forceBank → ∃ t, exec (.imgRoll q e bank flags wait reserved) s = .next t ∧ Completed q e 0x41 .illegalOp s t ∧
      t.img = s.img ∧ Touches [.freeCtr, .out, .reg, .host] s t)
  ∧ (∀ (q : Fin 16) (e : SqEntry) (s : State), Takes q e s → s.img.roll = none → s.get Fld.IMG_ROLL_STATE = 0 →
      ∃ t, exec (.imgAbort q e true) s = .next t ∧ Completed q e 0x42 .illegalOp s t ∧ t.img = s.img ∧
      Touches [.freeCtr, .out, .reg, .host, .ops, .led, .strands, .img] s t)
  ∧ (∀ (q : Fin 16) (e : SqEntry) (s : State), Takes q e s → s.img.roll = none → s.get Fld.IMG_ROLL_STATE ≠ 0 →
      ∃ t, exec (.imgAbort q e true) s = .next t ∧ Completed q e 0x42 .alreadyComplete s t ∧ t.img = s.img ∧
      Touches [.freeCtr, .out, .reg, .host, .ops, .led, .strands, .img] s t)
  ∧ (∀ (q : Fin 16) (e : SqEntry) (g : Roll) (s : State), regFileWf s.reg = true → s.img.roll = some g → Takes q e s → g.phase = .verify →
      ∃ t, exec (.imgAbort q e true) s = .next t ∧ Completed q e 0x42 .ok s t ∧ t.img.roll = none ∧ t.get Fld.IMG_ROLL_STATE = 6 ∧
      t.get Fld.IMG_FAULT = 0x10 ∧ t.strands = s.strands ∧ Touches [.freeCtr, .out, .reg, .host, .ops, .led, .strands, .img] s t)
  ∧ (∀ (q : Fin 16) (e : SqEntry) (g : Roll) (s : State), regFileWf s.reg = true → s.img.roll = some g → Takes q e s →
      g.phase = .running → ∃ t, exec (.imgAbort q e true) s = .next t ∧ Completed q e 0x42 .ok s t ∧ t.get Fld.IMG_FAULT = 0x10 ∧
      (t.img.roll = none ∧ t.get Fld.IMG_ROLL_STATE = 6 ∨ ∃ h, t.img.roll = some h ∧ h.phase = .reverting ∧
      t.get Fld.IMG_ROLL_STATE = 3) ∧ Touches [.freeCtr, .out, .reg, .host, .ops, .led, .strands, .img] s t)
  ∧ (∀ (g : Roll) (s : State), regFileWf s.reg = true → s.img.roll = some g → g.phase = .verify → ∃ t, exec .rollVerifyDone s = .next t ∧
      (s.wellFormedFault g.target ≠ 0 → t.img.roll = none ∧ t.get Fld.IMG_ROLL_STATE = 5 ∧
      t.get Fld.IMG_FAULT = s.wellFormedFault g.target % 256 ∧ t.strands = s.strands) ∧ (s.wellFormedFault g.target = 0 →
      s.signatureFault g.target ≠ 0 → t.img.roll = none ∧ t.get Fld.IMG_ROLL_STATE = 5 ∧
      t.get Fld.IMG_FAULT = s.signatureFault g.target % 256) ∧ Touches [.freeCtr, .out, .reg, .host, .ops, .led, .strands, .img] s t)
  ∧ (∀ (s : State), s.img.roll = none → exec .rollVerifyDone s = .next s)
  ∧ (∀ (g : Roll) (i : Nat) (rest : List Nat) (s : State), regFileWf s.reg = true → s.rollHead = some (g, i :: rest) →
      s.strandState i = .serving → s.strandState (twinOf i) = .serving → s.stopped = false → i < 32 → s.strands.length = 32 →
      ∃ t, exec .rollStrandStep s = .next t ∧ t.strandState i = .draining ∧ (t.strand i).forced = false ∧
      (t.strand i).bank = s.rollBank g ∧ t.img.roll = some { g with todo := i :: rest, transit := some i } ∧
      t.get Fld.IMG_ROLL_STRAND = i ∧ (∀ j < 32, j ≠ i → t.strand j = s.strand j) ∧
      Touches [.freeCtr, .out, .reg, .host, .ops, .led, .strands, .frames, .srv, .img] s t)
  ∧ (∀ (g : Roll) (i : Nat) (rest : List Nat) (s : State), s.rollHead = some (g, i :: rest) → s.strandState i = .off →
      s.strandState (twinOf i) = .serving → s.stopped = false → i < 32 → s.strands.length = 32 → ∃ t, exec .rollStrandStep s = .next t ∧
      t.strandState i = .loading ∧ (t.strand i).bank = s.rollBank g ∧ t.img.roll = some { g with todo := i :: rest, transit := some i } ∧
      Touches [.freeCtr, .out, .reg, .host, .ops, .led, .strands, .frames, .srv, .img] s t)
  ∧ (∀ (s : State), s.rollHead = none → exec .rollStrandStep s = .next s)
  ∧ (∀ (g : Roll) (i : Nat) (rest : List Nat) (s : State), regFileWf s.reg = true → s.rollHead = some (g, i :: rest) →
      500000 * g.waitMs ≤ s.since g.since → s.stopped = false → g.phase = .running → g.force = false →
      ∃ t, exec .rollWaitExpiry s = .next t ∧ t.get Fld.IMG_FAULT = 0x0D ∧ (t.img.roll = none ∨ ∃ h, t.img.roll = some h ∧
      h.phase = .reverting ∧ h.fault = 0x0D) ∧ Touches [.freeCtr, .out, .reg, .host, .ops, .led, .strands, .frames, .srv, .img] s t)
  ∧ (∀ (g : Roll) (i : Nat) (rest : List Nat) (s : State), s.rollHead = some (g, i :: rest) → 500000 * g.waitMs ≤ s.since g.since →
      s.stopped = false → g.phase = .running → g.force = true → s.strandState i = .serving → i < 32 → s.strands.length = 32 →
      ∃ t, exec .rollWaitExpiry s = .next t ∧ t.strandState i = .draining ∧ (t.strand i).forced = true ∧
      t.img.roll = some { g with todo := i :: rest, transit := some i } ∧
      Touches [.freeCtr, .out, .reg, .host, .ops, .led, .strands, .frames, .srv, .img] s t)
  ∧ (∀ (s : State), s.rollHead = none → exec .rollWaitExpiry s = .next s)
  ∧ (∀ (g : Roll) (i : Nat) (s : State), regFileWf s.reg = true → s.img.roll = some g → g.transit = some i → g.phase = .running →
      s.strandState i = .loading → 5000000 ≤ s.since (s.strand i).since → s.stopped = false → ∃ t, exec .strandLoadTimeout s = .next t ∧
      t.get Fld.IMG_FAULT = 0x0C ∧ (t.img.roll = none ∨ ∃ h, t.img.roll = some h ∧ h.phase = .reverting ∧ h.fault = 0x0C) ∧
      Touches [.freeCtr, .out, .reg, .host, .ops, .led, .strands, .img] s t)
  ∧ (∀ (s : State), s.img.roll = none → exec .strandLoadTimeout s = .next s)

/-- O26. IMG_PREPARE, IMG_PROGRAM, IMG_VERIFY and IMG_SELECT. IMG_PREPARE arms the bank that is neither the force bank nor the next one.
IMG_PROGRAM queues the pages of a page-aligned range of the other, blank bank and marks it PROGRAMMING; a failed host read completes with
DMA_ERROR. IMG_VERIFY queues the verification of a bank; IMG_SELECT of a VALID bank makes it the next. Anything else is refused with
ILLEGAL_OP, and the bank, the queue of programs and the verifications stay. -/
def Obligations.ImagePreparation : Prop :=
  (∀ (q : Fin 16) (e : SqEntry) (bank : Fin 256) (s : State), regFileWf s.reg = true → Takes q e s → bank.val < 2 →
      bank.val ≠ s.forceBank → bank.val ≠ s.get Fld.IMG_NEXT_BANK → ∃ t, exec (.imgPrepare q e bank true) s = .next t ∧
      t.get (Fld.IMG_BANK_ARMED bank.val) = 1 ∧ t.led.force = forceApply s.led.force 4 [byte bank.val] ∧
      Touches [.freeCtr, .out, .reg, .host, .ops, .led] s t)
  ∧ (∀ (q : Fin 16) (e : SqEntry) (bank : Fin 256) (reserved : Bool) (s : State), Takes q e s →
      reserved = false ∨ 1 < bank.val ∨ bank.val = s.forceBank ∨ bank.val = s.get Fld.IMG_NEXT_BANK →
      ∃ t, exec (.imgPrepare q e bank reserved) s = .next t ∧ Completed q e 0x43 .illegalOp s t ∧ t.led = s.led ∧
      Touches [.freeCtr, .out, .reg, .host] s t)
  ∧ (∀ (q : Fin 16) (e : SqEntry) (bank : Fin 256) (offset : Word) (length : Word) (x : Bytes) (s : State), regFileWf s.reg = true →
      Takes q e s → bank.val < 2 → offset.toNat % 256 = 0 → length.toNat % 256 = 0 → 256 ≤ length.toNat → length.toNat ≤ 0x1000000 →
      offset.toNat + length.toNat ≤ 0x20000000 → s.flag Fld.IMG_STATE_HK_DONE = true → bank.val ≠ s.forceBank →
      s.get (Fld.IMG_BANK_STATE bank.val) = 0 ∨ s.get (Fld.IMG_BANK_STATE bank.val) = 1 →
      blankCells (s.bank bank.val).cells offset.toNat length.toNat = true →
      ∃ t, exec (.imgProgram q e bank offset length (some x) true) s = .next t ∧
      t.img.progs = s.img.progs ++ [⟨⟨q.val, e, 0x44, s.host.gen, s.now⟩, bank.val, pagesOf offset.toNat (padTo length.toNat x), false⟩] ∧
      t.get (Fld.IMG_BANK_STATE bank.val) = 1 ∧ OnlyWords [(Fld.IMG_BANK_STATE bank.val).off] s t ∧ Touches [.reg, .host, .ops, .img] s t)
  ∧ (∀ (q : Fin 16) (e : SqEntry) (bank : Fin 256) (offset : Word) (length : Word) (s : State), Takes q e s → bank.val < 2 →
      offset.toNat % 256 = 0 → length.toNat % 256 = 0 → 256 ≤ length.toNat → length.toNat ≤ 0x1000000 →
      offset.toNat + length.toNat ≤ 0x20000000 → s.flag Fld.IMG_STATE_HK_DONE = true → bank.val ≠ s.forceBank →
      s.get (Fld.IMG_BANK_STATE bank.val) = 0 ∨ s.get (Fld.IMG_BANK_STATE bank.val) = 1 →
      blankCells (s.bank bank.val).cells offset.toNat length.toNat = true →
      ∃ t, exec (.imgProgram q e bank offset length none true) s = .next t ∧ Completed q e 0x44 .dmaError s t ∧ t.img = s.img ∧
      Touches [.freeCtr, .out, .reg, .host] s t)
  ∧ (∀ (q : Fin 16) (e : SqEntry) (bank : Fin 256) (offset : Word) (length : Word) (data : Option Bytes) (reserved : Bool) (s : State), Takes q e s →
      reserved = false ∨ 1 < bank.val ∨ offset.toNat % 256 ≠ 0 ∨ length.toNat % 256 ≠ 0 ∨ length = 0 ∨ 0x1000000 < length.toNat ∨ bank.val = s.forceBank ∨ s.flag Fld.IMG_STATE_HK_DONE = false →
      ∃ t, exec (.imgProgram q e bank offset length data reserved) s = .next t ∧ Completed q e 0x44 .illegalOp s t ∧ t.img = s.img ∧
      Touches [.freeCtr, .out, .reg, .host] s t)
  ∧ (∀ (q : Fin 16) (e : SqEntry) (bank : Fin 256) (s : State), Takes q e s → bank.val < 2 →
      ∃ t, exec (.imgVerify q e bank true) s = .next t ∧
      t.img = { s.img with verifies := s.img.verifies ++ [⟨bank.val, .command ⟨q.val, e, 0x45, s.host.gen, s.now⟩⟩] } ∧
      Touches [.host, .img] s t)
  ∧ (∀ (q : Fin 16) (e : SqEntry) (bank : Fin 256) (reserved : Bool) (s : State), Takes q e s → reserved = false ∨ 1 < bank.val →
      ∃ t, exec (.imgVerify q e bank reserved) s = .next t ∧ Completed q e 0x45 .illegalOp s t ∧ t.img = s.img ∧
      Touches [.freeCtr, .out, .reg, .host] s t)
  ∧ (∀ (q : Fin 16) (e : SqEntry) (bank : Fin 256) (s : State), regFileWf s.reg = true → Takes q e s → bank.val < 2 →
      s.get (Fld.IMG_BANK_STATE bank.val) = 2 → ∃ t, exec (.imgSelect q e bank true) s = .next t ∧ t.get Fld.IMG_NEXT_BANK = bank.val ∧
      t.get Fld.IMG_NEXT_FROM_REC = 1 ∧ t.led.force = forceApply s.led.force 3 [byte bank.val] ∧
      Touches [.freeCtr, .out, .reg, .host, .ops, .led] s t)
  ∧ (∀ (q : Fin 16) (e : SqEntry) (bank : Fin 256) (reserved : Bool) (s : State), Takes q e s →
      reserved = false ∨ 1 < bank.val ∨ s.get (Fld.IMG_BANK_STATE (bank.val % 2)) ≠ 2 →
      ∃ t, exec (.imgSelect q e bank reserved) s = .next t ∧ Completed q e 0x46 .illegalOp s t ∧ t.led = s.led ∧
      Touches [.freeCtr, .out, .reg, .host] s t)

/-- O27. Arrival of a frame: what is discarded at once, and the times of what is kept. FRAME_RX on a port that carries traffic: on the Tap
port, or with the control EtherType, it is counted in CTRL_CNT; shorter than 64 or longer than 9216 bytes, or with a wrong FCS, in
ERR_CNT; while the reset quiesces, in RX_CNT and QUIESCE_DROP_CNT; before any Strand has served, in RX_CNT and PREREADY_CNT. Otherwise the
frame is either discarded under a refusal ID, or stands among the frames with T_arr from the PCS stamp less RX_DLY, T_dl = T_arr + W - 300
ticks and T_rel = T_arr + W + shift, and every frame that was inside stays. On a port that is down nothing happens. -/
def Obligations.FramesArrive : Prop :=
  (∀ (port : EthPort) (ps : Nat) (wire : Bytes) (s : State), s.stopped = true ∨ s.flag (Fld.INT_PORT_CTL_LINK_UP (portIdx port)) = false ∨ s.flag (Fld.INT_PORT_CTL_ENABLE (portIdx port)) = false →
      (s.liveEngines .intake).isEmpty = false → exec (.frameRx port ps wire) s = .next s)
  ∧ (∀ (ps : Nat) (wire : Bytes) (s : State), s.stopped = false → s.flag (Fld.INT_PORT_CTL_LINK_UP 2) = true →
      s.flag (Fld.INT_PORT_CTL_ENABLE 2) = true → (s.liveEngines .intake).isEmpty = false →
      ∃ t, exec (.frameRx .tap ps wire) s = .next t ∧
      t.get (Fld.INT_PORT_CTRL_CNT 2) = min (s.get (Fld.INT_PORT_CTRL_CNT 2) + 1) 0xFFFFFFFF ∧
      OnlyWords [(Fld.INT_PORT_CTRL_CNT 2).off] s t ∧ Touches [.reg] s t)
  ∧ (∀ (port : EthPort) (ps : Nat) (wire : Bytes) (s : State), s.stopped = false →
      s.flag (Fld.INT_PORT_CTL_LINK_UP (portIdx port)) = true → s.flag (Fld.INT_PORT_CTL_ENABLE (portIdx port)) = true → port ≠ .tap →
      wire.length < 64 ∨ 9216 < wire.length ∨ le wire (wire.length - 4) 4 ≠ crc32 (wire.take (wire.length - 4)) →
      (s.liveEngines .intake).isEmpty = false → ∃ t, exec (.frameRx port ps wire) s = .next t ∧
      t.get (Fld.INT_PORT_ERR_CNT (portIdx port)) = min (s.get (Fld.INT_PORT_ERR_CNT (portIdx port)) + 1) 0xFFFFFFFF ∧
      OnlyWords [(Fld.INT_PORT_ERR_CNT (portIdx port)).off] s t ∧ Touches [.reg] s t)
  ∧ (∀ (port : EthPort) (ps : Nat) (wire : Bytes) (s : State), s.stopped = false →
      s.flag (Fld.INT_PORT_CTL_LINK_UP (portIdx port)) = true → s.flag (Fld.INT_PORT_CTL_ENABLE (portIdx port)) = true → port ≠ .tap →
      64 ≤ wire.length → wire.length ≤ 9216 → le wire (wire.length - 4) 4 = crc32 (wire.take (wire.length - 4)) →
      be (wire.take (wire.length - 4)) 12 2 = 0x8808 → (s.liveEngines .intake).isEmpty = false →
      ∃ t, exec (.frameRx port ps wire) s = .next t ∧
      t.get (Fld.INT_PORT_CTRL_CNT (portIdx port)) = min (s.get (Fld.INT_PORT_CTRL_CNT (portIdx port)) + 1) 0xFFFFFFFF ∧
      OnlyWords [(Fld.INT_PORT_CTRL_CNT (portIdx port)).off] s t ∧ Touches [.reg] s t)
  ∧ (∀ (port : EthPort) (ps : Nat) (wire : Bytes) (s : State), s.stopped = false →
      s.flag (Fld.INT_PORT_CTL_LINK_UP (portIdx port)) = true → s.flag (Fld.INT_PORT_CTL_ENABLE (portIdx port)) = true → port ≠ .tap →
      64 ≤ wire.length → wire.length ≤ 9216 → le wire (wire.length - 4) 4 = crc32 (wire.take (wire.length - 4)) →
      be (wire.take (wire.length - 4)) 12 2 ≠ 0x8808 → s.msec (portIdx port) = false → s.flag Fld.FLT_STATE_QUIESCING = true →
      (s.liveEngines .intake).isEmpty = false → ∃ t, exec (.frameRx port ps wire) s = .next t ∧
      t.get (Fld.INT_PORT_RX_CNT (portIdx port)) = min (s.get (Fld.INT_PORT_RX_CNT (portIdx port)) + 1) 0xFFFFFFFF ∧
      t.get Fld.FLT_QUIESCE_DROP_CNT = min (s.get Fld.FLT_QUIESCE_DROP_CNT + 1) 0xFFFFFFFF ∧
      OnlyWords [(Fld.INT_PORT_RX_CNT (portIdx port)).off, Fld.FLT_QUIESCE_DROP_CNT.off] s t ∧ Touches [.reg] s t)
  ∧ (∀ (port : EthPort) (ps : Nat) (wire : Bytes) (s : State), s.stopped = false →
      s.flag (Fld.INT_PORT_CTL_LINK_UP (portIdx port)) = true → s.flag (Fld.INT_PORT_CTL_ENABLE (portIdx port)) = true → port ≠ .tap →
      64 ≤ wire.length → wire.length ≤ 9216 → le wire (wire.length - 4) 4 = crc32 (wire.take (wire.length - 4)) →
      be (wire.take (wire.length - 4)) 12 2 ≠ 0x8808 → s.msec (portIdx port) = false → s.flag Fld.FLT_STATE_QUIESCING = false →
      s.served = false → (s.liveEngines .intake).isEmpty = false → ∃ t, exec (.frameRx port ps wire) s = .next t ∧
      t.get (Fld.INT_PORT_RX_CNT (portIdx port)) = min (s.get (Fld.INT_PORT_RX_CNT (portIdx port)) + 1) 0xFFFFFFFF ∧
      t.get Fld.INT_PREREADY_CNT = min (s.get Fld.INT_PREREADY_CNT + 1) 0xFFFFFFFF ∧
      OnlyWords [(Fld.INT_PORT_RX_CNT (portIdx port)).off, Fld.INT_PREREADY_CNT.off] s t ∧ Touches [.reg] s t)
  ∧ (∀ (port : EthPort) (ps : Nat) (wire : Bytes) (s : State), s.stopped = false →
      s.flag (Fld.INT_PORT_CTL_LINK_UP (portIdx port)) = true → s.flag (Fld.INT_PORT_CTL_ENABLE (portIdx port)) = true → port ≠ .tap →
      64 ≤ wire.length → wire.length ≤ 9216 → le wire (wire.length - 4) 4 = crc32 (wire.take (wire.length - 4)) →
      be (wire.take (wire.length - 4)) 12 2 ≠ 0x8808 → s.msec (portIdx port) = false → s.flag Fld.FLT_STATE_QUIESCING = false →
      s.served = true → (s.liveEngines .intake).isEmpty = false → ∃ t, exec (.frameRx port ps wire) s = .next t ∧
      (∀ f ∈ s.frames, f.key < s.nextFrame → f ∈ t.frames) ∧ ((t.frames = s.frames ∧
      t.refused = (s.refused + 1) % 2 ^ 42) ∨ (∃ f ∈ t.frames, s.nextFrame ≤ f.key ∧ f.port = port ∧
      f.tArr = w64 ((ps - s.get (Fld.INT_TS_DLY_RX_DLY_PS (portIdx port))) / 2000) ∧
      f.tDl = w64 (f.tArr + s.windowTicks f.cls (!f.invalidClass) f.stream.isSome f.final - 300) ∧
      f.tRel = w64 (f.tArr + s.windowTicks f.cls (!f.invalidClass) f.stream.isSome f.final + f.shift) ∧
      (f.phase = .parsing ∨ f.phase = .refused))) ∧
      t.get (Fld.INT_PORT_RX_CNT (portIdx port)) = min (s.get (Fld.INT_PORT_RX_CNT (portIdx port)) + 1) 0xFFFFFFFF ∧
      Touches [.freeCtr, .out, .reg, .host, .acc, .frames, .nextFrame, .streams, .calendar, .sas, .lastHanded, .refused, .srv] s t)

/-- O28. Ends of parses and of idle streams. INTAKE_PARSE_DONE of a frame whose every beat has been granted, without an error: where the
parse graph accepts the bytes the frame is handed to its Strand, with the parsed fields, the hand-off tick, and the frame ID of node,
Strand and sequence number, which the Strand then advances; where it does not, the frame is refused with cause PARSE and counted. Either
way no Intake grant of it is left. Before that the command changes nothing. STREAM_IDLE_TIMEOUT of an open stream idle for longer than
STREAM_IDLE_US closes it; where its Strand is SERVING a closing screening stands among the frames, with its arrival now and its deadline
from CLOSE_US; where the Strand is not, the screening ends at once and the stream is gone (log entry 33). A stream that is not idle for so
long stays as it is. -/
def Obligations.ParsesAndStreams : Prop :=
  (∀ (frame : Nat) (i : Nat) (f : Frame) (s : State), s.frame? frame = some f → s.parseReady f = true → f.strand = some i →
      f.kind.timed = true → parseFrame (s.descSet f.dset) (s.descTables (s.descSet f.dset)) f.bytes = none →
      ∃ t, exec (.intakeParseDone frame .ok) s = .next t ∧ (∃ g ∈ t.frames, g.key = frame ∧ g.phase = .refused ∧ g.causes = [.parse] ∧
      g.strand = none) ∧ (∀ g ∈ t.frames, g.key = frame → g.phase = .refused) ∧
      t.grants = s.grants.filter (fun g => !(g.frame == frame && g.stage == .intake)) ∧
      t.get Fld.INT_PARSE_CNT = min (s.get Fld.INT_PARSE_CNT + 1) 0xFFFFFFFF ∧ t.refused = (s.refused + 1) % 2 ^ 42 ∧
      Touches [.freeCtr, .out, .reg, .host, .ops, .led, .strands, .grants, .frames, .streams, .refused, .content, .vit, .gth, .srv, .img] s t)
  ∧ (∀ (frame : Nat) (i : Nat) (fields : List PField) (f : Frame) (s : State), s.Inv → s.frame? frame = some f → s.parseReady f = true →
      f.strand = some i → i < 32 → f.kind.timed = true →
      parseFrame (s.descSet f.dset) (s.descTables (s.descSet f.dset)) f.bytes = some fields →
      ∃ t, exec (.intakeParseDone frame .ok) s = .next t ∧ (∃ g ∈ t.frames, g.key = frame ∧ g.phase = .inside ∧ g.fields = fields ∧
      g.handTick = s.now ∧ g.strand = some i ∧ g.id = s.frameId i (s.strand i).seq) ∧
      t.grants = s.grants.filter (fun g => !(g.frame == frame && g.stage == .intake)) ∧
      (t.strand i).seq = ((s.strand i).seq + 1) % (if i = 31 then 2 ^ 42 else 2 ^ 43) ∧
      Touches [.freeCtr, .out, .reg, .host, .ops, .led, .strands, .grants, .frames, .streams, .refused, .content, .vit, .gth, .srv, .img] s t)
  ∧ (∀ (frame : Nat) (work : UnitEnd) (f : Frame) (s : State), s.frame? frame = some f → s.parseReady f = false →
      exec (.intakeParseDone frame work) s = .next s)
  ∧ (∀ (frame : Nat) (work : UnitEnd) (s : State), s.frame? frame = none → exec (.intakeParseDone frame work) s = .next s)
  ∧ (∀ (stream : Nat) (x : Stream) (s : State), s.stream? stream = some x → s.streamIdle x = true → s.strandState x.strand = .serving →
      ∃ t, exec (.streamIdleTimeout stream) s = .next t ∧ (∀ y ∈ t.streams, y.key = stream → y.closed = true) ∧
      t.nextFrame = s.nextFrame + 1 ∧ (∃ f ∈ t.frames, f.key = s.nextFrame ∧ f.kind = .streamClose x.chunks x.frameId ∧
      f.strand = some x.strand ∧ f.tArr = s.now ∧ f.tDl = w64 (s.now + s.get (Fld.TID_CLASS_CLOSE_CLOSE_US x.cls) * 500 - 300)) ∧
      Touches [.reg, .acc, .frames, .nextFrame, .streams, .calendar, .srv] s t)
  ∧ (∀ (stream : Nat) (x : Stream) (s : State), s.stream? stream = some x → s.streamIdle x = true → s.strandState x.strand ≠ .serving →
      ∃ t, exec (.streamIdleTimeout stream) s = .next t ∧ (∀ y ∈ t.streams, y.key ≠ stream) ∧
      t.frames.all (fun f => f.key != s.nextFrame) = true ∧ Touches [.reg, .acc, .frames, .nextFrame, .streams, .calendar, .srv] s t)
  ∧ (∀ (stream : Nat) (x : Stream) (s : State), s.stream? stream = some x → s.streamIdle x = false →
      exec (.streamIdleTimeout stream) s = .next s)
  ∧ (∀ (stream : Nat) (s : State), s.stream? stream = none → exec (.streamIdleTimeout stream) s = .next s)

/-- O29. Verdicts commit, deadlines decide. With no error, at least four slots after the grant: a frame whose deadline has not come takes
verdict, rule, code and vector from the policy evaluation, at this tick; a frame past T_dl keeps everything and LATE_CNT of its class
counts. With an uncorrectable error in the policy region the Strand is marked and faults POLICY_UE. Earlier the command changes nothing.
FRAME_DEADLINE of an undecided wire frame at or after T_dl: no frame leaves; the frame is decided and has a verdict; with a cause met or
no verdict it is UNSCREENED, with a reason and the fail action of its class (DROP_WITH_NOTICE for an invalid class); without a cause and
with a verdict, outside Tap mode 2, the verdict stays and the action is none. The closing screening of a stream leaves the frames. Before
T_dl, on a decided frame and on a replay the command changes nothing. It rests on what the model chose in log entry 21. -/
def Obligations.VerdictsAndDeadlines : Prop :=
  (∀ (frame : Nat) (f : Frame) (g : Grant) (s : State), s.frame? frame = some f → s.combineOf frame = some g → 4 ≤ s.since g.tick →
      f.decided = false → f.causes = [] → f.kind.timed = true → s.reached f.tDl = true →
      ∃ t, exec (.verdictCommit frame .ok false) s = .next t ∧ t.grants = s.grants.filter (fun h => h != g) ∧
      t.get (Fld.TID_CLASS_LATE_CNT f.cls) = min (s.get (Fld.TID_CLASS_LATE_CNT f.cls) + 1) 0xFFFFFFFF ∧
      OnlyWords [(Fld.TID_CLASS_LATE_CNT f.cls).off] s t ∧ Touches [.reg, .grants] s t)
  ∧ (∀ (frame : Nat) (f : Frame) (g : Grant) (s : State), s.frame? frame = some f → s.combineOf frame = some g → 4 ≤ s.since g.tick →
      f.decided = false → f.causes = [] → f.kind = .wire → s.reached f.tDl = false →
      ∃ t, exec (.verdictCommit frame .ok false) s = .next t ∧ t.grants = s.grants.filter (fun h => h != g) ∧
      t.frames = mapWhere s.frames (fun x => x.key == frame) (fun _ => s.evaluate g.strand f) ∧
      (s.evaluate g.strand f).verdict.isSome = true ∧ (s.evaluate g.strand f).commitTick = s.now ∧
      (s.evaluate g.strand f).vector = some (combinerVector f) ∧ Touches [.grants, .frames] s t)
  ∧ (∀ (frame : Nat) (work : UnitEnd) (f : Frame) (g : Grant) (s : State), s.Inv → s.frame? frame = some f → s.combineOf frame = some g →
      4 ≤ s.since g.tick → g.strand < 32 → ∃ t, exec (.verdictCommit frame work true) s = .next t ∧ (t.strand g.strand).policyBad = true ∧
      (t.strand g.strand).fault = .policyUe ∧ t.grants = s.grants.filter (fun h => h != g) ∧
      (∀ h ∈ t.frames, insideStrand g.strand h = true → h.decided = true ∨ .stageFault ∈ h.causes) ∧
      Touches [.freeCtr, .out, .reg, .host, .ops, .led, .acc, .strands, .grants, .frames, .streams, .calendar, .content, .vit, .gth, .srv, .img] s t)
  ∧ (∀ (frame : Nat) (work : UnitEnd) (policyUe : Bool) (g : Grant) (s : State), s.combineOf frame = some g → s.since g.tick < 4 →
      exec (.verdictCommit frame work policyUe) s = .next s)
  ∧ (∀ (frame : Nat) (work : UnitEnd) (policyUe : Bool) (s : State), s.combineOf frame = none →
      exec (.verdictCommit frame work policyUe) s = .next s)
  ∧ (∀ (frame : Nat) (f : Frame) (s : State), s.frame? frame = some f → f.decided = false → f.kind = .wire → s.reached f.tDl = true →
      s.stopped = false → ∃ t, exec (.frameDeadline frame) s = .next t ∧ t.frames.map (fun g => g.key) = s.frames.map (fun g => g.key) ∧
      (∀ g ∈ t.frames, g.key = frame → g.decided = true ∧ g.verdict.isSome = true ∧ ((f.causes ≠ [] ∨ f.verdict = none) →
      g.verdict = some .unscreened ∧ g.reason.isSome = true ∧
      g.action = (if f.invalidClass then .dropWithNotice else failActionOf (s.get (Fld.TID_CLASS_CTL_FAIL_ACTION f.cls))))) ∧
      (∀ g ∈ t.frames, g.key = frame → f.causes = [] → f.verdict ≠ none → f.phase ≠ .parsing →
      s.get (Fld.REL_CLASS_OUT_TAP_MODE f.cls) ≠ 2 → g.verdict = f.verdict ∧ g.reason = none ∧ g.action = .none) ∧
      Touches [.reg, .acc, .strands, .grants, .frames, .streams, .calendar, .tapQueue, .srv] s t)
  ∧ (∀ (frame : Nat) (f : Frame) (s : State), s.frame? frame = some f → f.decided = false → f.kind.timed = true → f.kind ≠ .wire →
      s.reached f.tDl = true → s.stopped = false → ∃ t, exec (.frameDeadline frame) s = .next t ∧ (∀ g ∈ t.frames, g.key ≠ frame) ∧
      (∀ r ∈ t.calendar, r.frame ≠ frame) ∧ Touches [.reg, .acc, .strands, .grants, .frames, .streams, .calendar, .tapQueue, .srv] s t)
  ∧ (∀ (frame : Nat) (f : Frame) (s : State), s.frame? frame = some f →
      f.decided = true ∨ f.kind.timed = false ∨ s.reached f.tDl = false ∨ s.stopped = true → exec (.frameDeadline frame) s = .next s)
  ∧ (∀ (frame : Nat) (s : State), s.frame? frame = none → exec (.frameDeadline frame) s = .next s)

/-- O30. RELEASE_LEAD, FRAME_RELEASE and TAP_COPY_TX: what leaves, and when. RELEASE_LEAD of a decided frame, from 300 ticks before T_rel,
marks it led; an uncorrectable error in its held bytes sets HOLD_ECC and turns it into a notice; the frame that goes out of a port without
MACsec has the length in which it came (R44), a notice or nothing goes out where its action says so. FRAME_RELEASE at T_rel, in order,
takes the frame and its reservation off the books and puts its bytes with their FCS on the opposite port, or counts the loss. TAP_COPY_TX
sends the next Tap copy not before its T_rel. None of them does anything early. -/
def Obligations.ReleasesLeave : Prop :=
  (∀ (frame : Nat) (f : Frame) (s : State), s.frame? frame = some f → s.leadDue f = true → f.led = false →
      ∃ t, exec (.releaseLead frame .ok) s = .next t ∧ (∀ g ∈ t.frames, g.key = frame → g.led = true ∧ g.holdEcc = false ∧
      g.verdict = f.verdict ∧ g.action = f.action ∧ g.tRel = f.tRel) ∧ t.frames.map (fun g => g.key) = s.frames.map (fun g => g.key) ∧
      (f.holdEcc = false → s.msec (portIdx (opposite f.port)) = false → ∀ g ∈ t.frames, g.key = frame → (g.out = none ∧
      s.emission f = .nothing) ∨ (s.emission f = .frame ∧ g.out.map List.length = some f.bytes.length) ∨ (s.emission f = .notice ∧
      g.out.isSome = true)) ∧
      Touches [.freeCtr, .out, .reg, .host, .ops, .led, .strands, .grants, .frames, .tapQueue, .sas, .content, .vit, .gth, .srv, .img] s t)
  ∧ (∀ (frame : Nat) (f : Frame) (s : State), s.frame? frame = some f → s.leadDue f = true → f.invalidClass = false →
      ∃ t, exec (.releaseLead frame .ue) s = .next t ∧ (∀ g ∈ t.frames, g.key = frame → g.led = true ∧ g.holdEcc = true ∧
      g.action = .dropWithNotice ∧ g.redactMatches = 0) ∧
      Touches [.freeCtr, .out, .reg, .host, .ops, .led, .strands, .grants, .frames, .tapQueue, .sas, .content, .vit, .gth, .srv, .img] s t)
  ∧ (∀ (frame : Nat) (fetch : UnitEnd) (f : Frame) (s : State), s.frame? frame = some f → s.leadDue f = false →
      exec (.releaseLead frame fetch) s = .next s)
  ∧ (∀ (frame : Nat) (fetch : UnitEnd) (s : State), s.frame? frame = none → exec (.releaseLead frame fetch) s = .next s)
  ∧ (∀ (frame : Nat) (f : Frame) (s : State), s.frame? frame = some f → s.releaseDue f = true →
      ∃ t, exec (.frameRelease frame) s = .next t ∧ t.frames = s.frames.filter (fun g => g.key != frame) ∧
      t.calendar = s.calendar.filter (fun r => r.frame != frame) ∧ (f.egressLost = false → s.portUp (opposite f.port) = true →
      s.txHalted (portIdx (opposite f.port)) = false →
      ∀ bs ∈ f.out.toList, .wire (opposite f.port) f.tRel (bs ++ toLe 4 (crc32 bs)) ∈ t.out) ∧
      (f.egressLost = true ∨ (f.out.isSome = true ∧ s.portUp (opposite f.port) = false) →
      t.get (Fld.REL_EGRESS_LOST_CNT (portIdx (opposite f.port))) = min (s.get (Fld.REL_EGRESS_LOST_CNT (portIdx (opposite f.port))) + 1) 0xFFFFFFFF) ∧
      ((s.chain (frameChain f)).started = true → s.acc.buffer.length < s.bufRoom →
      (s.chain (frameChain f)).count < (t.chain (frameChain f)).count) ∧
      Touches [.freeCtr, .out, .reg, .host, .acc, .frames, .streams, .calendar] s t)
  ∧ (∀ (frame : Nat) (f : Frame) (s : State), s.frame? frame = some f → s.releaseDue f = false → exec (.frameRelease frame) s = .next s)
  ∧ (∀ (frame : Nat) (s : State), s.frame? frame = none → exec (.frameRelease frame) s = .next s)
  ∧ (∀ (c : TapCopy) (s : State), s.nextTap = some c → c.bytes ≠ [] → s.reached c.tRel = true → s.portUp .tap = true → s.stopped = false →
      s.msec 2 = false → ∃ t, exec .tapCopyTx s = .next t ∧ t.out = .wire .tap s.now (c.bytes ++ toLe 4 (crc32 c.bytes)) :: s.out ∧
      t.tapQueue = s.tapQueue.filter (fun d => d.frame != c.frame) ∧ (∀ f ∈ t.frames, f.key = c.frame → f.tap = .sent) ∧
      Touches [.out, .frames, .tapQueue] s t)
  ∧ (∀ (c : TapCopy) (s : State), s.nextTap = some c →
      s.reached c.tRel = false ∨ c.bytes = [] ∨ s.portUp .tap = false ∨ s.stopped = true → exec .tapCopyTx s = .next s)
  ∧ (∀ (s : State), s.nextTap = none → exec .tapCopyTx s = .next s)

/-- O31. Seals are due by time, and Kartona records drain to the accession ring. SEAL_TIMER seals a started chain that has records and
whose last seal is 500,000,000 ticks old: the seal pair is counted, its tick is now, the other chains keep theirs. ACCESSION_DRAIN without
lost records moves records off the front of the buffer only; where the ring takes a record it moves at least one, and an uncorrectable
error loses the oldest. Neither does anything before its time or while the data path is stopped. -/
def Obligations.RecordsAndSeals : Prop :=
  (∀ (chain : Fin 33) (s : State), (s.chain chain.val).started = true → s.stopped = false → 0 < (s.chain chain.val).sinceSeal →
      500000000 ≤ s.since (s.chain chain.val).sealTick → ∃ t, exec (.sealTimer chain) s = .next t ∧ (t.chain chain.val).sinceSeal = 0 ∧
      (t.chain chain.val).sealTick = s.now ∧ t.get Fld.VRD_SEAL_CNT = min (s.get Fld.VRD_SEAL_CNT + 1) 0xFFFFFFFF ∧
      (∀ k < 33, k ≠ chain.val → t.chain k = s.chain k) ∧ OnlyWords [Fld.VRD_SEAL_CNT.off, Fld.VRD_LOST_CNT.off] s t ∧
      (s.acc.buffer.length + 2 ≤ s.bufRoom → t.acc.buffer.length = s.acc.buffer.length + 2 ∧
      (t.chain chain.val).count = (s.chain chain.val).count + 2) ∧ Touches [.reg, .acc] s t)
  ∧ (∀ (chain : Fin 33) (s : State), (s.chain chain.val).started = false ∨ s.stopped = true ∨ (s.chain chain.val).sinceSeal = 0 ∨ s.since (s.chain chain.val).sealTick < 500000000 →
      exec (.sealTimer chain) s = .next s)
  ∧ (∀ (s : State), s.stopped = false → (∀ k < 33, (s.chain k).lostAny = false) → ∃ t, exec (.accessionDrain .ok) s = .next t ∧
      t.acc.buffer = s.acc.buffer.drop (s.acc.buffer.length - t.acc.buffer.length) ∧ (t.acc.buffer.length ≤ s.acc.buffer.length) ∧
      t.acc.chains = s.acc.chains ∧
      ((s.acc.buffer.head?.bind (fun k => s.writeRecord ringAcc 6 0 (byte k.chain :: toLe 7 k.count) k.bytes)).isSome = true →
      t.acc.buffer.length < s.acc.buffer.length) ∧ Touches [.out, .reg, .host, .acc] s t)
  ∧ (∀ (k : KRec) (s : State), s.acc.buffer.head? = some k → s.stopped = false → (s.chain k.chain).started = false →
      ∃ t, exec (.accessionDrain .ue) s = .next t ∧ t.acc.buffer = s.acc.buffer.tail ∧
      t.get Fld.VRD_GAP_CNT = min (s.get Fld.VRD_GAP_CNT + 1) 0xFFFFFFFF ∧
      Touches [.freeCtr, .out, .reg, .host, .ops, .led, .acc, .strands, .grants, .frames, .content, .vit, .gth, .srv, .img] s t)
  ∧ (∀ (read : UnitEnd) (s : State), s.stopped = true → exec (.accessionDrain read) s = .next s)

/-- O32. A wheel slot: the owner with eligible work is served, then spare takers, then replays. WHEEL_SLOT on an engine in service and
Running moves its wheel one slot of 256 and no other wheel; at most one unit is granted. Inside a revolution, where the slot has an owner
among the Strands with work eligible, the last grant is that Strand's on this engine now, and GRANT_CNT of the stage counts. On an engine
that does not run, or a stage without wheels, nothing changes. -/
def Obligations.WheelSlots : Prop :=
  (∀ (stage : Stage) (engine : Fin 48) (s : State), regFileWf s.reg = true → wheelStage stage = true → engine.val < stage.engines →
      s.engineRuns stage engine.val = true → s.stopped = false → ∃ t, exec (.wheelSlot stage engine) s = .next t ∧
      (t.wheel stage engine.val).slot = ((s.wheel stage engine.val).slot + 1) % 256 ∧ (∀ k < 512, k ≠ 64 * stageIdx stage + engine.val →
      Tab.get? t.wheels k = Tab.get? s.wheels k) ∧ (t.grants = s.grants ∨ (t.grants.length = s.grants.length + 1 ∧
      t.grants.take s.grants.length = s.grants)) ∧ ((s.wheel stage engine.val).slot ≠ 0 →
      ∀ i ∈ (slotOwner (s.wheel stage engine.val)).toList, i < 32 → s.hasWork stage engine.val i = true →
      (t.grants.getLast?).map (fun g => (g.strand, g.stage, g.engine, g.tick)) = some (i, stage, engine.val, s.now) ∧
      t.get (Fld.TID_STAGE_GRANT_CNT (stageIdx stage)) = min (s.get (Fld.TID_STAGE_GRANT_CNT (stageIdx stage)) + 1) 0xFFFFFFFF) ∧
      t.frames.map (fun g => g.key) = s.frames.map (fun g => g.key) ∧ Touches [.reg, .wheels, .grants, .frames, .streams, .vit, .pwr] s t)
  ∧ (∀ (stage : Stage) (engine : Fin 48) (s : State), wheelStage stage = false ∨ stage.engines ≤ engine.val ∨ s.engineRuns stage engine.val = false ∨ s.stopped = true →
      exec (.wheelSlot stage engine) s = .next s)

/-- O33. Units of the stages: results, timeouts, retries. CATALOGUE_UNIT_DONE of a slot that has run 16 ticks, without error and with its
vocabulary good, ends the grant and counts the unit; while units are left the TEXT job has one more done. ARBOR_UNIT_DONE after 10 ticks,
without error, ends its grant, counts it and leaves the model one group fewer. GALLERY_PROGRAM_DONE of a program that is over, without
error and with its model good, finishes the model with the outputs of the program and counts it. MODEL_START starts the next model of a
frame with the groups and slots of its container, or uses up a retry where the version is BAD. Earlier, or without such a unit, nothing
changes. UNIT_TIMEOUT of a grant 10,000 ticks past the end of its slot counts a transient fault and ends that grant; where its frame is
still being screened before its deadline with fewer than three retries at the stage, the retry is counted. Before that time, with no grant
on the engine, or while the data path is stopped, nothing changes. It rests on what the model chose in log entry 16. -/
def Obligations.StageUnits : Prop :=
  (∀ (engine : Fin 12) (slot : Nat) (g : Grant) (s : State), s.grantOn .catalogue engine.val = some g → g.work = .text slot →
      16 ≤ s.since g.tick → (∀ f ∈ (s.frame? g.frame).toList, ∀ x ∈ f.texts, x.slot = slot →
      ∀ v ∈ x.pin.toList, s.contentBad .vocabulary x.vocab v = false) → ∃ t, exec (.catalogueUnitDone engine .ok false) s = .next t ∧
      t.grants = s.grants.filter (fun h => h != g) ∧ t.get Fld.CAT_UNIT_CNT = min (s.get Fld.CAT_UNIT_CNT + 1) 0xFFFFFFFF ∧
      (∀ f ∈ (s.frame? g.frame).toList, ∀ x ∈ (f.texts.find? (fun y => y.slot == slot && !y.finished)).toList, x.done + 1 < x.units →
      ∀ h ∈ t.frames, h.key = g.frame → ∀ y ∈ h.texts, y.slot = slot → y.done = x.done + 1 ∧ y.tokens = x.tokens) ∧
      t.frames.map (fun f => f.key) = s.frames.map (fun f => f.key) ∧
      Touches [.freeCtr, .out, .reg, .host, .ops, .led, .strands, .grants, .frames, .content, .vit, .gth, .srv, .img, .pwr] s t)
  ∧ (∀ (engine : Fin 12) (work : UnitEnd) (contentUe : Bool) (g : Grant) (s : State), s.grantOn .catalogue engine.val = some g →
      s.since g.tick < 16 → exec (.catalogueUnitDone engine work contentUe) s = .next s)
  ∧ (∀ (engine : Fin 12) (work : UnitEnd) (contentUe : Bool) (s : State), s.grantOn .catalogue engine.val = none →
      exec (.catalogueUnitDone engine work contentUe) s = .next s)
  ∧ (∀ (engine : Fin 8) (pos : Nat) (ens : Nat) (grp : Nat) (g : Grant) (s : State), s.grantOn .arbor engine.val = some g →
      g.work = .trees pos ens grp → 10 ≤ s.since g.tick → ∃ t, exec (.arborUnitDone engine .ok false) s = .next t ∧
      t.grants = s.grants.filter (fun h => h != g) ∧ t.get Fld.ARB_UNIT_CNT = min (s.get Fld.ARB_UNIT_CNT + 1) 0xFFFFFFFF ∧
      (∀ f ∈ (s.frame? g.frame).toList, ∀ h ∈ (t.frame? g.frame).toList, h.models.map (fun m => m.treesToDo) = f.models.map (fun m => if m.pos = pos then m.treesToDo - 1 else m.treesToDo)) ∧
      OnlyWords [Fld.ARB_UNIT_CNT.off] s t ∧ Touches [.reg, .grants, .frames, .pwr] s t)
  ∧ (∀ (engine : Fin 8) (work : UnitEnd) (contentUe : Bool) (g : Grant) (s : State), s.grantOn .arbor engine.val = some g →
      s.since g.tick < 10 → exec (.arborUnitDone engine work contentUe) s = .next s)
  ∧ (∀ (engine : Fin 8) (work : UnitEnd) (contentUe : Bool) (s : State), s.grantOn .arbor engine.val = none →
      exec (.arborUnitDone engine work contentUe) s = .next s)
  ∧ (∀ (frame : Nat) (pos : Fin 4) (f : Frame) (m : ModelJob) (s : State), s.programOver frame pos.val = some (f, m) →
      s.contentBad .model m.model (m.pin.getD 0) = false → ∃ t, exec (.galleryProgramDone frame pos .ok false) s = .next t ∧
      t.get Fld.GAL_PROG_CNT = min (s.get Fld.GAL_PROG_CNT + 1) 0xFFFFFFFF ∧ (∀ h ∈ t.frames, h.key = frame →
      ∀ x ∈ h.models, x.pos = pos.val → x.finished = true ∧
      x.outs = programOuts (runProgram (s.contentOf .model m.model (m.pin.getD 0)) m.feats)) ∧
      t.grants = s.grants.filter (fun g => !(g.frame == frame && g.work == Work.program pos.val)) ∧
      OnlyWords [Fld.GAL_PROG_CNT.off, Fld.GAL_SAT_CNT.off, Fld.ARB_MISS_CNT.off, Fld.GAL_NAN_CNT.off] s t ∧
      Touches [.reg, .grants, .frames, .pwr] s t)
  ∧ (∀ (frame : Nat) (pos : Fin 4) (work : UnitEnd) (contentUe : Bool) (s : State), s.programOver frame pos.val = none →
      exec (.galleryProgramDone frame pos work contentUe) s = .next s)
  ∧ (∀ (frame : Nat) (f : Frame) (m : ModelJob) (s : State), (s.frame? frame).bind s.modelReady = some (f, m) →
      s.contentBad .model m.model (m.pin.getD 0) = false → ∃ t, exec (.modelStart frame) s = .next t ∧ (∀ h ∈ t.frames, h.key = frame →
      ∀ x ∈ h.models, x.pos = m.pos → x.started = true ∧ x.pin = m.pin ∧
      x.treesToGrant = arborUnits (s.contentOf .model m.model (m.pin.getD 0)) ∧
      x.slotsToGrant = programSlots (s.contentOf .model m.model (m.pin.getD 0))) ∧ Touches [.frames] s t)
  ∧ (∀ (frame : Nat) (f : Frame) (m : ModelJob) (s : State), (s.frame? frame).bind s.modelReady = some (f, m) →
      s.contentBad .model m.model (m.pin.getD 0) = true → ∃ t, exec (.modelStart frame) s = .next t ∧ (Tab.getD f.retries 5 0 < 3 →
      t.get Fld.FLT_RETRY_CNT = min (s.get Fld.FLT_RETRY_CNT + 1) 0xFFFFFFFF ∧ ∀ h ∈ t.frames, h.key = frame → h.causes = f.causes) ∧
      (3 ≤ Tab.getD f.retries 5 0 → ∀ h ∈ t.frames, h.key = frame → .stageFault ∈ h.causes) ∧ Touches [.reg, .frames, .srv] s t)
  ∧ (∀ (frame : Nat) (s : State), (s.frame? frame).bind s.modelReady = none → exec (.modelStart frame) s = .next s)
  ∧ (∀ (st : Stage) (e : Fin 48) (g : Grant) (s : State), s.grantOn st e.val = some g → s.slotTicks st + 10000 ≤ s.since g.tick →
      s.stopped = false → ∃ t, exec (.unitTimeout st e) s = .next t ∧ g ∉ t.grants ∧
      t.get Fld.FLT_T_CNT = min (s.get Fld.FLT_T_CNT + 1) 0xFFFFFFFF ∧ t.tapQueue = s.tapQueue ∧
      Touches [.freeCtr, .out, .reg, .host, .ops, .led, .strands, .grants, .frames, .content, .vit, .gth, .srv, .img] s t)
  ∧ (∀ (st : Stage) (e : Fin 48) (g : Grant) (s : State), s.grantOn st e.val = some g →
      s.since g.tick < s.slotTicks st + 10000 ∨ s.stopped = true → exec (.unitTimeout st e) s = .next s)
  ∧ (∀ (st : Stage) (e : Fin 48) (s : State), s.grantOn st e.val = none → exec (.unitTimeout st e) s = .next s)

/-- O34. Search results, update slots, learns, scrubbing and batches of the Vitrine. VITRINE_SEARCH_RESULT ten ticks after the grant,
without error and without a learn, ends the grant and delivers the match of the slot. VITRINE_UPDATE_SLOT takes one slot of the bank's
wheel: a repair rewrites its unit from the shadow, else the next operation is presented. LEARN_COMMIT and AGING_REMOVAL take an update
slot of the ordering bank; a learn ends with a result for its search, a removal leaves the queue and a stale head loses VALID. SCRUB_READ
moves on by one unit and queues a repair where the unit differs. TABLE_BATCH_COMMIT makes the batch's version current and raises CSET. Out
of turn each changes nothing. -/
def Obligations.VitrineWork : Prop :=
  (∀ (frame : Nat) (id : Nat) (f : Frame) (x : Search) (b : Nat) (tick : Nat) (l : Lookup) (attr : Nat) (pinned : Bool) (s : State), (s.frame? frame).bind (fun f => (f.searches.find? (fun x => x.id == id)).map (fun x => (f, x))) = some (f, x) →
      x.state = .granted b tick l attr pinned → 10 ≤ s.since tick → x.learn = none → f.kind.timed = true →
      ∃ t, exec (.vitrineSearchResult frame id .ok none) s = .next t ∧
      t.grants = s.grants.filter (fun g => !(g.frame == frame && g.work == Work.search id)) ∧ (∀ h ∈ t.frames, h.key = frame →
      ∀ y ∈ h.searches, y.id = id → y.state = .done ∧ y.result = some l) ∧ Touches [.reg, .grants, .frames, .vit, .pwr] s t)
  ∧ (∀ (frame : Nat) (id : Nat) (work : UnitEnd) (parity : Option UnitEnd) (f : Frame) (x : Search) (b : Nat) (tick : Nat) (l : Lookup) (attr : Nat) (pinned : Bool) (s : State), (s.frame? frame).bind (fun f => (f.searches.find? (fun x => x.id == id)).map (fun x => (f, x))) = some (f, x) →
      x.state = .granted b tick l attr pinned → s.since tick < 10 → exec (.vitrineSearchResult frame id work parity) s = .next s)
  ∧ (∀ (frame : Nat) (id : Nat) (work : UnitEnd) (parity : Option UnitEnd) (s : State), s.frame? frame = none →
      exec (.vitrineSearchResult frame id work parity) s = .next s)
  ∧ (∀ (bank : Fin 16) (s : State), regFileWf s.reg = true → s.updateSlotFree bank.val = true → s.updateDue bank.val = true →
      ∃ t, exec (.vitrineUpdateSlot bank) s = .next t ∧ (t.wheel .vitrine bank.val).slot = ((s.wheel .vitrine bank.val).slot + 1) % 256 ∧
      t.get (Fld.VIT_BANK_UPD_CNT bank.val) = min (s.get (Fld.VIT_BANK_UPD_CNT bank.val) + 1) 0xFFFFFFFF ∧
      (∀ a ∈ (s.vbank bank.val).repairs.head?.toList, (t.vbank bank.val).repairs = (s.vbank bank.val).repairs.tail ∧
      (t.vbank bank.val).unit a = { (Tab.getD (s.vbank bank.val).shadow a VUnit.hole) with info := { (Tab.getD (s.vbank bank.val).shadow a VUnit.hole).info with stale := ((s.vbank bank.val).unit a).info.stale } }) ∧
      ((s.vbank bank.val).repairs = [] →
      (t.vbank bank.val).updRev = (if (s.wheel .vitrine bank.val).slot = 0 then 1 else (s.vbank bank.val).updRev + 1)) ∧
      Touches [.out, .reg, .host, .wheels, .vit, .pwr] s t)
  ∧ (∀ (bank : Fin 16) (s : State), s.updateSlotFree bank.val = false ∨ s.updateDue bank.val = false →
      exec (.vitrineUpdateSlot bank) s = .next s)
  ∧ (∀ (table : Fin 64) (b : Nat) (l : Learn) (how : LearnEnd) (addr : Nat) (s : State), regFileWf s.reg = true →
      s.orderer table.val = some b → s.learnDue table.val = some (l, how, addr) → s.updateSlotFree b = true →
      (s.vbank b).updRev < s.get (Fld.VIT_BANK_CTL_UPD_MAX b) → ∃ t, exec (.learnCommit table) s = .next t ∧
      (t.wheel .vitrine b).slot = ((s.wheel .vitrine b).slot + 1) % 256 ∧
      t.get (Fld.VIT_BANK_UPD_CNT b) = min (s.get (Fld.VIT_BANK_UPD_CNT b) + 1) 0xFFFFFFFF ∧ (∀ h ∈ t.frames, h.key = l.frame →
      ∀ y ∈ h.searches, y.id = l.slot → y.state = .done ∧
      y.result.map (fun r => r.outcome) = some (match how with | .insert => 3 | .move => 2 | .same => 1 | .pinned => 4 | .dropped => 5)) ∧
      (how = .insert ∨ how = .move → (t.vtable table.val).lseq = w32 ((s.vtable table.val).lseq + 1)) ∧ (how = .dropped →
      t.get Fld.VIT_LEARN_DROP_CNT = min (s.get Fld.VIT_LEARN_DROP_CNT + 1) 0xFFFFFFFF) ∧
      Touches [.out, .reg, .host, .wheels, .frames, .vit, .pwr] s t)
  ∧ (∀ (table : Fin 64) (s : State), s.learnDue table.val = none → exec (.learnCommit table) s = .next s)
  ∧ (∀ (table : Fin 64) (s : State), regFileWf s.reg = true → s.sweepReady table.val = true → ∃ t, exec (.agingSweep table) s = .next t ∧
      (t.vtable table.val).sweepDue = w64 (s.now + s.get (Fld.VIT_TABLE_TIMERS_AGE_MS table.val) * 500000) ∧
      (t.vtable table.val).ver = (s.vtable table.val).ver ∧
      (t.vtable table.val).ops.take (s.vtable table.val).ops.length = (s.vtable table.val).ops ∧
      OnlyWords [Fld.VIT_AGE_MARK_CNT.off] s t ∧ (∀ k < 64, k ≠ table.val → t.vtable k = s.vtable k) ∧ Touches [.reg, .vit] s t)
  ∧ (∀ (table : Fin 64) (s : State), s.sweepReady table.val = false → exec (.agingSweep table) s = .next s)
  ∧ (∀ (table : Fin 64) (b : Nat) (a : Nat) (s : State), regFileWf s.reg = true → s.orderer table.val = some b →
      s.removalDue table.val = some a → s.updateSlotFree b = true → (s.vbank b).updRev < s.get (Fld.VIT_BANK_CTL_UPD_MAX b) →
      ∃ t, exec (.agingRemoval table) s = .next t ∧ (t.vtable table.val).ops.length < (s.vtable table.val).ops.length ∧
      t.get (Fld.VIT_BANK_UPD_CNT b) = min (s.get (Fld.VIT_BANK_UPD_CNT b) + 1) 0xFFFFFFFF ∧ (((s.vbank b).unit a).info.valid = true →
      ((s.vbank b).unit a).info.head = true → ((s.vbank b).unit a).info.stale = true → ((t.vbank b).unit a).info.valid = false ∧
      t.get Fld.VIT_AGE_REMOVE_CNT = min (s.get Fld.VIT_AGE_REMOVE_CNT + 1) 0xFFFFFFFF) ∧ (((s.vbank b).unit a).info.stale = false →
      (t.vbank b).units = (s.vbank b).units) ∧ Touches [.out, .reg, .host, .wheels, .vit, .pwr] s t)
  ∧ (∀ (table : Fin 64) (s : State), s.removalDue table.val = none → exec (.agingRemoval table) s = .next s)
  ∧ (∀ (bank : Fin 16) (mismatch : Bool) (s : State), regFileWf s.reg = true → s.engineRuns .vitrine bank.val = true → s.stopped = false →
      (s.vbank bank.val).scrubRev < s.get (Fld.VIT_BANK_CTL_SCRUB bank.val) → ∃ t, exec (.scrubRead bank mismatch .ok) s = .next t ∧
      (t.vbank bank.val).scrubNext = ((s.vbank bank.val).scrubNext + 1) % 65536 ∧ (t.vbank bank.val).units = (s.vbank bank.val).units ∧
      (mismatch = true → (t.vbank bank.val).repairs = (s.vbank bank.val).repairs ++ [(s.vbank bank.val).scrubNext] ∧
      t.get Fld.VIT_SCRUB_FIX_CNT = min (s.get Fld.VIT_SCRUB_FIX_CNT + 1) 0xFFFFFFFF) ∧ (mismatch = false →
      shadowAgrees (s.vbank bank.val) (s.vbank bank.val).scrubNext = true → (t.vbank bank.val).repairs = (s.vbank bank.val).repairs) ∧
      Touches [.freeCtr, .out, .reg, .host, .ops, .led, .strands, .grants, .frames, .content, .vit, .gth, .srv, .img] s t)
  ∧ (∀ (bank : Fin 16) (mismatch : Bool) (shadow : UnitEnd) (s : State), s.engineRuns .vitrine bank.val = false ∨ s.stopped = true ∨ s.get (Fld.VIT_BANK_CTL_SCRUB bank.val) ≤ (s.vbank bank.val).scrubRev →
      exec (.scrubRead bank mismatch shadow) s = .next s)
  ∧ (∀ (table : Fin 64) (key : Nat) (v : Nat) (l : Load) (s : State), regFileWf s.reg = true →
      (s.vtable table.val).batch = some (key, v) → s.load? key = some l → s.batchApplied table.val key = true → s.stopped = false →
      ∃ t, exec (.tableBatchCommit table) s = .next t ∧ (t.vtable table.val).ver = v ∧ (t.vtable table.val).batch = none ∧
      t.get Fld.VRD_CSET = w32 (s.get Fld.VRD_CSET + 1) ∧ t.load? key = none ∧
      Touches [.freeCtr, .out, .reg, .host, .acc, .strands, .frames, .vit, .gth, .srv, .img, .nwl, .fab] s t)
  ∧ (∀ (table : Fin 64) (s : State), (s.vtable table.val).batch = none → exec (.tableBatchCommit table) s = .next s)

/-- O35. Walks, credits and their boundaries. GATHER_WALK_START takes a waiting frame into the lowest free context and pins its version,
or ends the walk where no read is left. GATHER_READ_GRANT charges 5 fifths to a pool that covers them, else to the spare pool, and marks
the read granted now. GATHER_READ_RETURN, 75 ticks after the grant, moves the walk on or ends it with its output. GATHER_READ_TIMEOUT
after 5,000 ticks gives the walk up and counts a transient fault. CREDIT_DEADLINE ends a walk that still lacks a grant with cause CREDIT.
Out of turn none of them changes anything. CREDIT_BOUNDARY at a multiple of 2,048 ticks, once, latches who holds each Strand's share;
while credits are issued the pool of a Strand takes 152 times its share (0 for a Strand in OFF) and the delta pool 152 times DELTA_SHARE.
STALE_GRACE_EXPIRY of an item that has been behind for longer than its grace marks it stale and counts it. Otherwise neither changes
anything. -/
def Obligations.WalksAndCredits : Prop :=
  (∀ (frame : Nat) (e : Nat) (c : Nat) (i : Nat) (f : Frame) (s : State), s.frame? frame = some f → s.freeContext = some (e, c) →
      f.strand = some i → walkWaits f = true → s.creditsLate f i = false → s.engineRuns .gather e = true → s.stopped = false →
      ∃ t, exec (.gatherWalkStart frame) s = .next t ∧ (∀ h ∈ t.frames, h.key = frame → h.walkStarted = true ∧ h.walkPin = none ∧
      ((∃ w, h.walk = some w ∧ w.engine = e ∧ w.ctx = c ∧ w.pin = s.graphPin f i) ∨ (h.walk = none ∧
      h.gather.map (fun g => g.version) = some (s.graphPin f i)))) ∧ Touches [.reg, .frames, .pwr] s t)
  ∧ (∀ (frame : Nat) (f : Frame) (s : State), s.frame? frame = some f → walkWaits f = false ∨ s.stopped = true →
      exec (.gatherWalkStart frame) s = .next s)
  ∧ (∀ (frame : Nat) (s : State), s.frame? frame = none → exec (.gatherWalkStart frame) s = .next s)
  ∧ (∀ (strand : Fin 32) (r : ReadWait) (j : Nat) (s : State), regFileWf s.reg = true → s.stopped = false →
      s.nextRead strand.val false = some r → s.poolFor strand.val = some j → ∃ t, exec (.gatherReadGrant strand) s = .next t ∧
      t.get (Fld.GTH_STRAND_POOL j) = s.get (Fld.GTH_STRAND_POOL j) - 5 ∧ (∃ h ∈ t.frames, h.key = r.frame ∧ (∃ w, h.walk = some w ∧
      (w.active[r.pos]?).map (fun x => x.granted) = some (some s.now))) ∧
      t.get (Fld.TID_STAGE_GRANT_CNT 3) = min (s.get (Fld.TID_STAGE_GRANT_CNT 3) + 1) 0xFFFFFFFF ∧
      t.get Fld.GTH_READ_CNT = min (s.get Fld.GTH_READ_CNT + 1) 0xFFFFFFFF ∧
      OnlyWords [(Fld.GTH_STRAND_POOL j).off, (Fld.TID_STAGE_GRANT_CNT 3).off, Fld.GTH_READ_CNT.off] s t ∧ Touches [.reg, .frames] s t)
  ∧ (∀ (strand : Fin 32) (r : ReadWait) (s : State), regFileWf s.reg = true → s.stopped = false → s.nextRead strand.val false = some r →
      s.poolFor strand.val = none → s.spareReader = some strand.val → 5 ≤ s.get Fld.GTH_SPARE_POOL →
      ∃ t, exec (.gatherReadGrant strand) s = .next t ∧ t.get Fld.GTH_SPARE_POOL = s.get Fld.GTH_SPARE_POOL - 5 ∧
      (∃ h ∈ t.frames, h.key = r.frame ∧ (∃ w, h.walk = some w ∧ (w.active[r.pos]?).map (fun x => x.granted) = some (some s.now))) ∧
      t.get (Fld.TID_STAGE_SPARE_CNT 3) = min (s.get (Fld.TID_STAGE_SPARE_CNT 3) + 1) 0xFFFFFFFF ∧
      t.get Fld.GTH_READ_CNT = min (s.get Fld.GTH_READ_CNT + 1) 0xFFFFFFFF ∧ Touches [.reg, .frames, .gth] s t)
  ∧ (∀ (strand : Fin 32) (s : State), s.nextRead strand.val false = none → s.nextRead strand.val true = none →
      exec (.gatherReadGrant strand) s = .next s)
  ∧ (∀ (strand : Fin 32) (s : State), s.poolFor strand.val = none → s.get Fld.GTH_SPARE_POOL < 5 →
      exec (.gatherReadGrant strand) s = .next s)
  ∧ (∀ (frame : Nat) (pos : Nat) (f : Frame) (i : Nat) (w : Walk) (tick : Nat) (s : State), s.readAt frame pos = some (f, i, w, tick) →
      75 ≤ s.since tick → ∃ t, exec (.gatherReadReturn frame pos .ok) s = .next t ∧ (∀ h ∈ t.frames, h.key = frame →
      (walkOver (returnRead s.now pos w) = false ∧ h.walk = some (returnRead s.now pos w)) ∨ (walkOver (returnRead s.now pos w) = true ∧
      h.walk = none ∧ h.gather.isSome = true)) ∧ (walkOver (returnRead s.now pos w) = true →
      t.get Fld.GTH_WALK_CNT = min (s.get Fld.GTH_WALK_CNT + 1) 0xFFFFFFFF) ∧ Touches [.reg, .frames, .pwr] s t)
  ∧ (∀ (frame : Nat) (pos : Nat) (read : UnitEnd) (s : State), s.readAt frame pos = none →
      exec (.gatherReadReturn frame pos read) s = .next s)
  ∧ (∀ (frame : Nat) (pos : Nat) (read : UnitEnd) (f : Frame) (i : Nat) (w : Walk) (tick : Nat) (s : State), s.readAt frame pos = some (f, i, w, tick) →
      s.since tick < 75 → exec (.gatherReadReturn frame pos read) s = .next s)
  ∧ (∀ (frame : Nat) (pos : Nat) (f : Frame) (i : Nat) (w : Walk) (tick : Nat) (s : State), s.readAt frame pos = some (f, i, w, tick) →
      5000 ≤ s.since tick → ∃ t, exec (.gatherReadTimeout frame pos) s = .next t ∧ (∀ h ∈ t.frames, h.key = frame → h.walk = none) ∧
      t.get Fld.GTH_READ_TMO_CNT = min (s.get Fld.GTH_READ_TMO_CNT + 1) 0xFFFFFFFF ∧
      t.get Fld.FLT_T_CNT = min (s.get Fld.FLT_T_CNT + 1) 0xFFFFFFFF ∧
      Touches [.freeCtr, .out, .reg, .host, .ops, .led, .strands, .grants, .frames, .content, .vit, .gth, .srv, .img] s t)
  ∧ (∀ (frame : Nat) (pos : Nat) (f : Frame) (i : Nat) (w : Walk) (tick : Nat) (s : State), s.readAt frame pos = some (f, i, w, tick) →
      s.since tick < 5000 → exec (.gatherReadTimeout frame pos) s = .next s)
  ∧ (∀ (frame : Nat) (pos : Nat) (s : State), s.readAt frame pos = none → exec (.gatherReadTimeout frame pos) s = .next s)
  ∧ (∀ (frame : Nat) (i : Nat) (f : Frame) (s : State), s.frame? frame = some f → f.strand = some i → lacksCredit f = true →
      s.creditsLate f i = true → ∃ t, exec (.creditDeadline frame) s = .next t ∧ (∀ h ∈ t.frames, h.key = frame → h.walk = none ∧
      (h.decided = true ∨ .credit ∈ h.causes)) ∧ t.get Fld.GTH_CREDIT_FAIL_CNT = min (s.get Fld.GTH_CREDIT_FAIL_CNT + 1) 0xFFFFFFFF ∧
      t.get Fld.TID_SAT_STATUS = s.get Fld.TID_SAT_STATUS ||| 1 ∧ OnlyWords [Fld.GTH_CREDIT_FAIL_CNT.off, Fld.TID_SAT_STATUS.off] s t ∧
      Touches [.reg, .frames, .srv] s t)
  ∧ (∀ (frame : Nat) (f : Frame) (s : State), s.frame? frame = some f → lacksCredit f = false → exec (.creditDeadline frame) s = .next s)
  ∧ (∀ (frame : Nat) (s : State), s.frame? frame = none → exec (.creditDeadline frame) s = .next s)
  ∧ (∀ (s : State), regFileWf s.reg = true → s.now % 2048 = 0 → s.gth.period ≠ some (s.now / 2048) → ∃ t, exec .creditBoundary s = .next t ∧
      t.gth.period = some (s.now / 2048) ∧ t.gth.holder = (upto 32).map s.shareHolder ∧ (s.gth.issuing = false → t.reg = s.reg ∧
      t.gth.deltaPool = s.gth.deltaPool) ∧ (s.gth.issuing = true → t.gth.deltaPool = 152 * s.get Fld.GTH_CTL_DELTA_SHARE) ∧
      (∀ i < 32, s.gth.issuing = true →
      t.get (Fld.GTH_STRAND_POOL i) = (if s.strandState i = .off then 0 else 152 * (s.strand i).shares.getD 3 0) % 2 ^ (Fld.GTH_STRAND_POOL i).width) ∧
      t.srv.requests.map (fun r => { r with counted := true }) = s.srv.requests.map (fun r => { r with counted := true }) ∧
      Touches [.reg, .gth, .srv] s t)
  ∧ (∀ (s : State), s.now % 2048 ≠ 0 ∨ s.gth.period = some (s.now / 2048) → exec .creditBoundary s = .next s)
  ∧ (∀ (item : Fin 180) (tick : Nat) (s : State), (s.graceOf (itemOf item.val).1 (itemOf item.val).2).2 = some tick →
      500000 * (s.graceOf (itemOf item.val).1 (itemOf item.val).2).1 < s.since tick →
      (if (itemOf item.val).1 = .graph then (s.graph (itemOf item.val).2).expired else s.fab.stale.contains item.val) = false →
      ∃ t, exec (.staleGraceExpiry item) s = .next t ∧ t.get Fld.FAB_STALE_CNT = min (s.get Fld.FAB_STALE_CNT + 1) 0xFFFFFFFF ∧
      (if (itemOf item.val).1 = .graph then (t.graph (itemOf item.val).2).expired else t.fab.stale.contains item.val) = true ∧
      t.itemStale item.val = true ∧ Touches [.out, .reg, .host, .strands, .frames, .gth, .srv, .img, .fab] s t)
  ∧ (∀ (item : Fin 180) (s : State), (s.graceOf (itemOf item.val).1 (itemOf item.val).2).2 = none →
      exec (.staleGraceExpiry item) s = .next s)
  ∧ (∀ (item : Fin 180) (tick : Nat) (s : State), (s.graceOf (itemOf item.val).1 (itemOf item.val).2).2 = some tick →
      s.since tick ≤ 500000 * (s.graceOf (itemOf item.val).1 (itemOf item.val).2).1 → exec (.staleGraceExpiry item) s = .next s)

/-- O36. GUARD_REQUEST_ADMIT: Breakwater admits or refuses, and what it leaves behind. GUARD_REQUEST_ADMIT of the frame that comes next on
its Cove: where a test of Breakwater fails, its counter rises, LOAD_SHED of TID_SAT_STATUS is set and the frame has a guard output with
status 7; where every test passes, the pins are good and the blocks are there, a request in PREFILL stands in the lowest free slot with
its private blocks. Any other frame waits. It rests on what the model chose in log entry 35. -/
def Obligations.GuardAdmission : Prop :=
  (∀ (frame : Nat) (why : Fld) (f : Frame) (s : State), regFileWf s.reg = true → s.frame? frame = some f → s.admitNext f = true →
      s.breakwater (s.admissionOf f) = some why → ∃ t, exec (.guardRequestAdmit frame) s = .next t ∧
      t.get why = min (s.get why + 1) (2 ^ why.width - 1) ∧ bit (t.get Fld.TID_SAT_STATUS) 1 = true ∧ (∀ h ∈ t.frames, h.key = frame →
      h.decided = true ∨ h.guard.map (fun g => (g.status, g.label)) = some (7, 0)) ∧
      (∀ slot ∈ s.freeSlot.toList, (t.request? slot).map (fun r => (r.state, r.status, r.frame)) = some (.ended, 7, frame)) ∧
      Touches [.reg, .frames, .srv] s t)
  ∧ (∀ (frame : Nat) (slot : Nat) (f : Frame) (s : State), s.frame? frame = some f → s.admitNext f = true →
      s.breakwater (s.admissionOf f) = none → s.freeSlot = some slot → (s.admissionOf f).pins.bad = false →
      (allocBlocks (s.get (Fld.SRV_COVE_BLOCKS (s.coveOf f))) (s.admissionOf f).need (holdBlocks (s.cove (s.coveOf f)) (s.admissionOf f).shared)).isSome = true →
      ∃ t, exec (.guardRequestAdmit frame) s = .next t ∧
      (t.request? slot).map (fun r => (r.state, r.frame, r.strand, r.cove, r.prompt)) = some (.prefill, frame, f.strand.getD 0, s.coveOf f, (s.admissionOf f).prompt) ∧
      (t.request? slot).map (fun r => r.priv.length) = some (s.admissionOf f).need ∧
      (t.request? slot).map (fun r => r.shared) = some (s.admissionOf f).shared ∧ (∀ h ∈ t.frames, h.key = frame →
      h.request = some slot) ∧ t.srv.requests.tail = s.srv.requests ∧ Touches [.reg, .frames, .srv] s t)
  ∧ (∀ (frame : Nat) (f : Frame) (s : State), s.frame? frame = some f → s.admitNext f = false →
      exec (.guardRequestAdmit frame) s = .next s)
  ∧ (∀ (frame : Nat) (s : State), s.frame? frame = none → exec (.guardRequestAdmit frame) s = .next s)

/-- O37. Steps of a Cove: start, commit point, retries, cancels. COVE_STEP_START of a Cove that is ready, with rows or with a request that
waits for a commit point, starts a step with the rows of the composition rule now and leaves every request as it was. COVE_STEP_COMMIT
without an error ends the step at a commit point now and counts it, and every request of the Cove with a cancel registered earlier has
ended with its status. A step with an uncorrectable error is retried, at most three times. Without a step, on a wedged Cove or while the
data path is stopped the commit changes nothing. It rests on what the model chose in log entry 38. -/
def Obligations.CoveSteps : Prop :=
  (∀ (cove : Fin 8) (s : State), s.stepReady cove.val = true →
      s.composeRows cove.val ≠ [] ∨ (s.coveRequests cove.val).any waitsForCommit = true → ∃ t, exec (.coveStepStart cove) s = .next t ∧
      (t.cove cove.val).step = some ⟨s.now, s.composeRows cove.val, 0⟩ ∧ t.srv.requests = s.srv.requests ∧ (∀ k < 8, k ≠ cove.val →
      t.cove k = s.cove k) ∧ OnlyWords [Fld.CAT_MASK_MISS_CNT.off] s t ∧ Touches [.reg, .maskCache, .srv] s t)
  ∧ (∀ (cove : Fin 8) (s : State), s.stepReady cove.val = false → exec (.coveStepStart cove) s = .next s)
  ∧ (∀ (cove : Fin 8) (s : State), s.composeRows cove.val = [] → (s.coveRequests cove.val).any waitsForCommit = false →
      exec (.coveStepStart cove) s = .next s)
  ∧ (∀ (cove : Fin 8) (gallery : Fin 48) (late : Nat) (x : CoveStep) (s : State), (s.cove cove.val).step = some x → s.stopped = false →
      (s.cove cove.val).wedged = false → ∃ t, exec (.coveStepCommit cove .ok gallery ([]) ([]) late) s = .next t ∧
      (t.cove cove.val).step = none ∧ (t.cove cove.val).last = some s.now ∧
      (t.cove cove.val).stepNo = ((s.cove cove.val).stepNo + 1) % 2 ^ 64 ∧
      t.get (Fld.SRV_COVE_STEP_CNT cove.val) = min (s.get (Fld.SRV_COVE_STEP_CNT cove.val) + 1) 0xFFFFFFFF ∧
      (∀ r ∈ s.srv.requests, r.cove = cove.val → s.request? r.slot = some r → r.state ≠ .ended → r.state ≠ .admitting →
      ∀ c ∈ r.cancel.toList, c.tick ≠ s.now → (t.request? r.slot).map (fun y => (y.state, y.status)) = some (.ended, c.status)) ∧
      Touches [.freeCtr, .out, .reg, .host, .ops, .led, .strands, .grants, .frames, .content, .vit, .gth, .srv, .img, .nwl, .fab] s t)
  ∧ (∀ (cove : Fin 8) (gallery : Fin 48) (late : Nat) (x : CoveStep) (s : State), (s.cove cove.val).step = some x → s.stopped = false →
      (s.cove cove.val).wedged = false → x.retries < 3 → ∃ t, exec (.coveStepCommit cove .ue gallery ([]) ([]) late) s = .next t ∧
      (t.cove cove.val).step = some { x with retries := x.retries + 1 } ∧ (t.cove cove.val).last = (s.cove cove.val).last ∧
      t.get Fld.FLT_T_CNT = min (s.get Fld.FLT_T_CNT + 1) 0xFFFFFFFF ∧
      t.get Fld.FLT_RETRY_CNT = min (s.get Fld.FLT_RETRY_CNT + 1) 0xFFFFFFFF ∧
      Touches [.freeCtr, .out, .reg, .host, .ops, .led, .strands, .grants, .frames, .content, .vit, .gth, .srv, .img, .nwl, .fab] s t)
  ∧ (∀ (cove : Fin 8) (work : UnitEnd) (gallery : Fin 48) (bad : List Nat) (lost : List (Nat × Nat)) (late : Nat) (s : State), s.stopped = true ∨ (s.cove cove.val).wedged = true →
      exec (.coveStepCommit cove work gallery bad lost late) s = .next s)
  ∧ (∀ (cove : Fin 8) (work : UnitEnd) (gallery : Fin 48) (bad : List Nat) (lost : List (Nat × Nat)) (late : Nat) (s : State), (s.cove cove.val).step = none →
      exec (.coveStepCommit cove work gallery bad lost late) s = .next s)

/-- O38. Guard outputs, records, deadlines and the host's guard commands. GUARD_OUTPUT_POST delivers the outputs that are due to their
undecided frames and keeps the others. BATCH_RECORD_POST posts the records that are due, a FINAL one noted in its request.
GUARD_DEADLINE_CHECK at T_dl - 1 registers a cancel on every unlabelled, undelivered request of the frame. REQUEST_FREE of an ended
request whose FINAL record is posted and whose cache is not in transfer empties its slot and raises its generation. COVE_WEDGE_TIMEOUT
after 100 ms without a commit point marks the Cove wedged and counts it. Taken from a submission ring, GS_CANCEL of a request that runs
registers a cancel with status 4 now, its completion to follow at the commit point; one that has a cancel is answered ALREADY_CANCELLING,
one that has ended or returned to FREE ALREADY_COMPLETE and counted late, one that is not found NOT_FOUND. GS_QUERY answers OK with the
request, or NOT_FOUND, and changes no request. GS_PREFIX_FLUSH empties the prefix table and the reclaim list of an enabled Cove, else
BAD_INDEX. It rests on what the model chose in log entry 37. -/
def Obligations.GuardOutputsAndCommands : Prop :=
  (∀ (cove : Fin 8) (s : State), ∃ t, exec (.guardOutputPost cove) s = .next t ∧
      (t.cove cove.val).outputs = (s.cove cove.val).outputs.filter (fun o => !(s.dueOutputs cove.val).contains o) ∧
      (∀ o ∈ s.dueOutputs cove.val, ∀ h ∈ t.frames, h.key = o.frame → h.decided = true ∨ h.guard.isSome = true) ∧
      t.frames.map (fun h => h.key) = s.frames.map (fun h => h.key) ∧ Touches [.frames, .srv] s t)
  ∧ (∀ (cove : Fin 8) (s : State), ∃ t, exec (.batchRecordPost cove) s = .next t ∧
      (t.cove cove.val).records = (s.cove cove.val).records.filter (fun x => !s.reached x.due) ∧
      (∀ x ∈ (s.cove cove.val).records, s.reached x.due = true → x.final = true → ∀ r ∈ t.srv.requests, r.slot = x.slot →
      r.finalPosted = true) ∧
      t.srv.requests.map (fun r => { r with finalPosted := true }) = s.srv.requests.map (fun r => { r with finalPosted := true }) ∧
      Touches [.freeCtr, .out, .reg, .host, .srv] s t)
  ∧ (∀ (frame : Nat) (s : State), ∃ t, exec (.guardDeadlineCheck frame) s = .next t ∧ (∀ r ∈ t.srv.requests, r.frame = frame →
      r.label = 0 → r.delivered = false → r.tDl = some (w64 (s.now + 1)) → r.state = .ended ∨ r.cancel.isSome = true) ∧
      (∀ r ∈ s.srv.requests, r.frame ≠ frame → r ∈ t.srv.requests) ∧ t.srv.coves = s.srv.coves ∧ Touches [.srv] s t)
  ∧ (∀ (slot : Fin 8192) (r : Request) (s : State), s.request? slot.val = some r → r.state = .ended → r.finalPosted = true →
      inTransfer r = false → ∃ t, exec (.requestFree slot) s = .next t ∧ t.request? slot.val = none ∧
      Tab.getD t.srv.gens slot.val 0 = (r.gen + 1) % 2 ^ 19 ∧ Tab.get? t.srv.freed slot.val = some r.frameId ∧
      t.srv.requests = s.srv.requests.filter (fun x => x.slot != slot.val) ∧ Touches [.srv] s t)
  ∧ (∀ (slot : Fin 8192) (r : Request) (s : State), s.request? slot.val = some r →
      r.state ≠ .ended ∨ r.finalPosted = false ∨ inTransfer r = true → exec (.requestFree slot) s = .next s)
  ∧ (∀ (slot : Fin 8192) (s : State), s.request? slot.val = none → exec (.requestFree slot) s = .next s)
  ∧ (∀ (cove : Fin 8) (since : Nat) (s : State), (s.cove cove.val).activeSince = some since → (s.cove cove.val).wedged = false →
      s.coveActive cove.val = true → 50000000 ≤ s.since since → ∃ t, exec (.coveWedgeTimeout cove) s = .next t ∧
      (t.cove cove.val) = { s.cove cove.val with wedged := true } ∧
      t.get Fld.FLT_WEDGE_CNT = min (s.get Fld.FLT_WEDGE_CNT + 1) 0xFFFFFFFF ∧ t.srv.requests = s.srv.requests ∧ (∀ k < 8, k ≠ cove.val →
      t.cove k = s.cove k) ∧ Touches [.out, .reg, .host, .srv] s t)
  ∧ (∀ (cove : Fin 8) (s : State), (s.cove cove.val).wedged = true ∨ (s.cove cove.val).activeSince = none ∨ s.coveActive cove.val = false →
      exec (.coveWedgeTimeout cove) s = .next s)
  ∧ (∀ (q : Fin 16) (e : SqEntry) (req : Word) (frameId : BitVec 64) (r : Request) (s : State), Takes q e s →
      (s.findRequest req.toNat frameId.toNat).1 = some r → r.state ≠ .ended → r.cancel = none →
      ∃ t, exec (.gsCancel q e req frameId) s = .next t ∧ (∀ x ∈ t.srv.requests, x.slot = r.slot →
      x.state = .ended ∨ x.cancel.isSome = true) ∧
      (∃ x ∈ t.srv.requests, x = { r with state := .cancelling, cancel := some ⟨4, s.now, some ⟨q.val, e, 0x20, s.host.gen, s.now⟩⟩ }) ∧
      t.reg = s.reg ∧ Touches [.freeCtr, .out, .reg, .host, .srv] s t)
  ∧ (∀ (q : Fin 16) (e : SqEntry) (req : Word) (frameId : BitVec 64) (r : Request) (s : State), Takes q e s →
      (s.findRequest req.toNat frameId.toNat).1 = some r → r.state ≠ .ended → r.cancel.isSome = true →
      ∃ t, exec (.gsCancel q e req frameId) s = .next t ∧ Completed q e 0x20 .alreadyCancelling s t ∧ t.srv = s.srv ∧
      Touches [.freeCtr, .out, .reg, .host, .srv] s t)
  ∧ (∀ (q : Fin 16) (e : SqEntry) (req : Word) (frameId : BitVec 64) (r : Request) (s : State), Takes q e s →
      (s.findRequest req.toNat frameId.toNat).1 = some r → r.state = .ended → ∃ t, exec (.gsCancel q e req frameId) s = .next t ∧
      Completed q e 0x20 .alreadyComplete s t ∧ t.srv = s.srv ∧
      t.get Fld.SRV_LATE_CANCEL_CNT = min (s.get Fld.SRV_LATE_CANCEL_CNT + 1) 0xFFFFFFFF ∧
      Touches [.freeCtr, .out, .reg, .host, .srv] s t)
  ∧ (∀ (q : Fin 16) (e : SqEntry) (req : Word) (frameId : BitVec 64) (s : State), Takes q e s →
      s.findRequest req.toNat frameId.toNat = (none, true) → ∃ t, exec (.gsCancel q e req frameId) s = .next t ∧
      Completed q e 0x20 .alreadyComplete s t ∧ t.srv = s.srv ∧
      t.get Fld.SRV_LATE_CANCEL_CNT = min (s.get Fld.SRV_LATE_CANCEL_CNT + 1) 0xFFFFFFFF ∧
      Touches [.freeCtr, .out, .reg, .host, .srv] s t)
  ∧ (∀ (q : Fin 16) (e : SqEntry) (req : Word) (frameId : BitVec 64) (s : State), Takes q e s →
      s.findRequest req.toNat frameId.toNat = (none, false) → ∃ t, exec (.gsCancel q e req frameId) s = .next t ∧
      Completed q e 0x20 .notFound s t ∧ t.srv = s.srv ∧ Touches [.freeCtr, .out, .reg, .host, .srv] s t)
  ∧ (∀ (q : Fin 16) (e : SqEntry) (req : Word) (frameId : BitVec 64) (s : State), Takes q e s →
      (s.findRequest req.toNat frameId.toNat).1.isSome = true → ∃ t, exec (.gsQuery q e req frameId) s = .next t ∧
      Completed q e 0x21 .ok s t ∧ t.srv = s.srv ∧ Touches [.freeCtr, .out, .reg, .host] s t)
  ∧ (∀ (q : Fin 16) (e : SqEntry) (req : Word) (frameId : BitVec 64) (s : State), Takes q e s →
      (s.findRequest req.toNat frameId.toNat).1 = none → ∃ t, exec (.gsQuery q e req frameId) s = .next t ∧
      Completed q e 0x21 .notFound s t ∧ t.srv = s.srv ∧ Touches [.freeCtr, .out, .reg, .host] s t)
  ∧ (∀ (q : Fin 16) (e : SqEntry) (cove : Fin 256) (s : State), Takes q e s → cove.val < 8 →
      s.flag (Fld.SRV_COVE_CFG_EN cove.val) = true → ∃ t, exec (.gsPrefixFlush q e cove) s = .next t ∧ Completed q e 0x22 .ok s t ∧
      (t.cove cove.val).prefixes = [] ∧ (t.cove cove.val).reclaim = [] ∧
      (∀ b ∈ (s.cove cove.val).reclaim, Tab.get? (t.cove cove.val).blocks b = none) ∧ t.srv.requests = s.srv.requests ∧
      (∀ k < 8, k ≠ cove.val → t.cove k = s.cove k) ∧ Touches [.freeCtr, .out, .reg, .host, .srv] s t)
  ∧ (∀ (q : Fin 16) (e : SqEntry) (cove : Fin 256) (s : State), Takes q e s → 8 ≤ cove.val →
      ∃ t, exec (.gsPrefixFlush q e cove) s = .next t ∧ Completed q e 0x22 .badIndex s t ∧ t.srv = s.srv ∧
      Touches [.freeCtr, .out, .reg, .host, .srv] s t)

/-- O39. The Archive tier: moves, writes, reads, expiry, a peer that does not answer. ARCHIVE_MOVE_START on a Cove that is short of blocks
gives the cache of the request paused first a new entry where the tier has room; without room and without a peer nothing moves.
ARCHIVE_WRITE_DONE frees the blocks of a request whose local write was under way. ARCHIVE_READ_DONE brings a local entry back and drops
it, or, where a CRC fails, loses it and dooms its request with status 8. ARCHIVE_EXPIRE drops an entry whose EXPIRE has come, its archived
request doomed with status 9; ARCHIVE_PEER_TIMEOUT gives a fetch up after 10 ms in the same way. Where no such transfer is under way
nothing changes. It rests on what the model chose in log entries 30, 46 and 47. -/
def Obligations.ArchiveTier : Prop :=
  (∀ (cove : Fin 8) (r : Request) (s : State), (s.movable cove.val).head? = some r → s.moveDue cove.val = true →
      s.archiveRoom (s.moveEntry r false).size = true → ∃ t, exec (.archiveMoveStart cove) s = .next t ∧
      t.srv.archive = s.srv.archive ++ [s.moveEntry r false] ∧ t.srv.nextEntry = s.srv.nextEntry + 1 ∧
      (∀ x ∈ t.srv.requests, x.slot = r.slot → x.place = .moving s.srv.nextEntry) ∧ t.srv.coves = s.srv.coves ∧ Touches [.srv] s t)
  ∧ (∀ (cove : Fin 8) (r : Request) (s : State), (s.movable cove.val).head? = some r → s.moveDue cove.val = true →
      s.archiveRoom (s.moveEntry r false).size = false → s.flag (Fld.SRV_PAUSE_CTL_PEER_EN cove.val) = false →
      exec (.archiveMoveStart cove) s = .next s)
  ∧ (∀ (cove : Fin 8) (s : State), s.moveDue cove.val = false ∨ s.movable cove.val = [] → exec (.archiveMoveStart cove) s = .next s)
  ∧ (∀ (slot : Fin 8192) (k : Nat) (e : ArchEntry) (r : Request) (s : State), s.request? slot.val = some r → r.place = .moving k →
      s.entry? k = some e → e.remote = false → r.state ≠ .ended → ∃ t, exec (.archiveWriteDone slot) s = .next t ∧
      (∀ x ∈ t.srv.requests, x.slot = slot.val → x.place = .archived k ∧ x.priv = []) ∧ (∀ x ∈ t.srv.archive, x.key = k →
      x.expire.isSome = true) ∧ t.get Fld.SRV_ARCH_OUT_CNT = min (s.get Fld.SRV_ARCH_OUT_CNT + 1) 0xFFFFFFFF ∧
      OnlyWords [Fld.SRV_ARCH_OUT_CNT.off] s t ∧ Touches [.reg, .srv] s t)
  ∧ (∀ (slot : Fin 8192) (r : Request) (s : State), s.request? slot.val = some r → r.place = .hbm →
      exec (.archiveWriteDone slot) s = .next s)
  ∧ (∀ (slot : Fin 8192) (s : State), s.request? slot.val = none → exec (.archiveWriteDone slot) s = .next s)
  ∧ (∀ (slot : Fin 8192) (k : Nat) (sent : Nat) (e : ArchEntry) (r : Request) (s : State), s.request? slot.val = some r →
      r.place = .reading k sent → s.entry? k = some e → e.remote = false → r.state = .paused →
      ∃ t, exec (.archiveReadDone slot .ok false) s = .next t ∧ (∀ x ∈ t.srv.requests, x.slot = slot.val → x.place = .hbm ∧
      x.paused = false) ∧ t.entry? k = none ∧ t.get Fld.SRV_ARCH_IN_CNT = min (s.get Fld.SRV_ARCH_IN_CNT + 1) 0xFFFFFFFF ∧
      OnlyWords [Fld.SRV_ARCH_IN_CNT.off] s t ∧
      Touches [.freeCtr, .out, .reg, .host, .ops, .led, .strands, .grants, .frames, .content, .vit, .gth, .srv, .img] s t)
  ∧ (∀ (slot : Fin 8192) (k : Nat) (sent : Nat) (e : ArchEntry) (r : Request) (s : State), s.request? slot.val = some r →
      r.place = .reading k sent → s.entry? k = some e → e.remote = false → r.doom = none →
      ∃ t, exec (.archiveReadDone slot .ok true) s = .next t ∧ (∀ x ∈ t.srv.requests, x.slot = slot.val → x.place = .hbm ∧ x.priv = []) ∧
      (r.state ≠ .ended → (t.request? slot.val).map (fun x => x.doom) = some (some 8)) ∧ t.entry? k = none ∧
      t.get Fld.SRV_ARCH_CRC_CNT = min (s.get Fld.SRV_ARCH_CRC_CNT + 1) 0xFFFFFFFF ∧
      Touches [.freeCtr, .out, .reg, .host, .ops, .led, .strands, .grants, .frames, .content, .vit, .gth, .srv, .img] s t)
  ∧ (∀ (slot : Fin 8192) (work : UnitEnd) (crcFail : Bool) (r : Request) (s : State), s.request? slot.val = some r → r.place = .hbm →
      exec (.archiveReadDone slot work crcFail) s = .next s)
  ∧ (∀ (slot : Fin 8192) (work : UnitEnd) (crcFail : Bool) (s : State), s.request? slot.val = none →
      exec (.archiveReadDone slot work crcFail) s = .next s)
  ∧ (∀ (key : Nat) (due : Nat) (e : ArchEntry) (s : State), s.entry? key = some e → e.expire = some due → s.reached due = true →
      s.entryRequest key = none → ∃ t, exec (.archiveExpire key) s = .next t ∧ t.entry? key = none ∧ t.srv.requests = s.srv.requests ∧
      Touches [.srv] s t)
  ∧ (∀ (key : Nat) (due : Nat) (k : Nat) (r : Request) (e : ArchEntry) (s : State), s.entry? key = some e → e.expire = some due →
      s.reached due = true → s.entryRequest key = some r → r.place = .archived k → r.state ≠ .ended → r.doom = none →
      ∃ t, exec (.archiveExpire key) s = .next t ∧ t.entry? key = none ∧
      (t.request? r.slot).map (fun x => (x.doom, x.place)) = some (some 9, .hbm) ∧ Touches [.srv] s t)
  ∧ (∀ (key : Nat) (e : ArchEntry) (s : State), s.entry? key = some e → (∀ x ∈ e.expire.toList, s.reached x = false) →
      exec (.archiveExpire key) s = .next s)
  ∧ (∀ (key : Nat) (s : State), s.entry? key = none → exec (.archiveExpire key) s = .next s)
  ∧ (∀ (slot : Fin 8192) (k : Nat) (sent : Nat) (e : ArchEntry) (r : Request) (s : State), s.request? slot.val = some r →
      r.place = .reading k sent → s.entry? k = some e → e.remote = true → entryWhole e = false → 5000000 ≤ s.since sent →
      r.state ≠ .ended → r.doom = none → ∃ t, exec (.archivePeerTimeout slot) s = .next t ∧ t.entry? k = none ∧
      (t.request? slot.val).map (fun x => (x.doom, x.place)) = some (some 9, .hbm) ∧ Touches [.srv] s t)
  ∧ (∀ (slot : Fin 8192) (s : State), s.request? slot.val = none → exec (.archivePeerTimeout slot) s = .next s)
  ∧ (∀ (slot : Fin 8192) (r : Request) (s : State), s.request? slot.val = some r → r.place = .hbm →
      exec (.archivePeerTimeout slot) s = .next s)

/-- O40. Content loads from the command to the commit. CL_LOAD completes with DMA_ERROR where the fetch failed and FORMAT where the magic
is wrong; a descriptor that passes joins the loads. LOAD_STAGING_READY gives the load that has waited longest its room and lets it be read
once no earlier load of its item is in progress. LOAD_DIGEST_DONE ends a load whose read failed or whose SHA-384 or length differs,
repeats one with a transient fault, and marks one that passes CHECKED. LOAD_COMMIT installs a checked vocabulary, model or automaton,
which becomes current, and raises CSET; a version that is not newer is refused. Out of turn each changes nothing. -/
def Obligations.ContentLoads : Prop :=
  (∀ (q : Fin 16) (e : SqEntry) (s : State), Takes q e s → ∃ t, exec (.clLoad q e none) s = .next t ∧ Completed q e 0x10 .dmaError s t ∧
      t.host.loads = s.host.loads ∧ Touches [.freeCtr, .out, .reg, .host] s t)
  ∧ (∀ (q : Fin 16) (e : SqEntry) (d : LoadDescriptor) (s : State), Takes q e s → d.magic ≠ 0x44414F4C →
      ∃ t, exec (.clLoad q e (some d)) s = .next t ∧ Completed q e 0x10 .format s t ∧ t.host.loads = s.host.loads ∧
      Touches [.freeCtr, .out, .reg, .host] s t)
  ∧ (∀ (q : Fin 16) (e : SqEntry) (d : LoadDescriptor) (s : State), Takes q e s → s.loadTest d = none →
      ∃ t, exec (.clLoad q e (some d)) s = .next t ∧ t.host.nextLoad = s.host.nextLoad + 1 ∧
      t.host.loads.take s.host.loads.length = s.host.loads ∧
      t.host.loads.drop s.host.loads.length = [⟨s.host.nextLoad, .command ⟨q.val, e, 0x10, s.host.gen, s.now⟩, (kindOfCode d.kind.val).getD .table, d.index.val, d.version.toNat, d.totalLen, d.digest, .waiting, 0, [], 0, 0, false⟩] ∧
      t.out = s.out ∧ t.reg = s.reg ∧ Touches [.freeCtr, .out, .reg, .host] s t)
  ∧ (∀ (load : Nat) (l : Load) (s : State), s.load? load = some l → l.step = .waiting → s.stopped = false → l.staged = true →
      s.earlierLoad l = false → ∃ t, exec (.loadStagingReady load) s = .next t ∧ (∀ x ∈ t.host.loads, x.key = load → x.step = .reading) ∧
      t.fab = s.fab ∧ (∀ x ∈ s.host.loads, x.key ≠ load → x ∈ t.host.loads) ∧ Touches [.host, .fab] s t)
  ∧ (∀ (load : Nat) (l : Load) (s : State), s.load? load = some l → l.step = .waiting → s.stopped = false → l.staged = false →
      (s.host.loads.find? (fun x => !x.staged)).map (fun x => x.key) = some load → s.activeLoads < 8 →
      s.stagingUsed + l.totalLen ≤ s.stagingSize → ∃ t, exec (.loadStagingReady load) s = .next t ∧ (∀ x ∈ t.host.loads, x.key = load →
      x.staged = true) ∧ t.fab = s.fab ∧ Touches [.host, .fab] s t)
  ∧ (∀ (load : Nat) (l : Load) (s : State), s.load? load = some l → l.step ≠ .waiting ∨ s.stopped = true →
      exec (.loadStagingReady load) s = .next s)
  ∧ (∀ (load : Nat) (s : State), s.load? load = none → exec (.loadStagingReady load) s = .next s)
  ∧ (∀ (load : Nat) (c : CmdRef) (l : Load) (s : State), s.load? load = some l → l.step = .reading → s.stopped = false →
      l.source = .command c → ∃ t, exec (.loadDigestDone load none false) s = .next t ∧ t.load? load = none ∧ t.content = s.content ∧
      Touches [.freeCtr, .out, .reg, .host, .ops, .led, .strands, .grants, .frames, .content, .vit, .gth, .srv, .img, .nwl, .fab] s t)
  ∧ (∀ (load : Nat) (c : CmdRef) (b : Bytes) (l : Load) (s : State), s.load? load = some l → l.step = .reading → s.stopped = false →
      l.source = .command c → sha384 b ≠ padTo 48 l.digest ∨ b.length ≠ l.totalLen →
      ∃ t, exec (.loadDigestDone load (some b) false) s = .next t ∧ t.load? load = none ∧ t.content = s.content ∧
      Touches [.freeCtr, .out, .reg, .host, .ops, .led, .strands, .grants, .frames, .content, .vit, .gth, .srv, .img, .nwl, .fab] s t)
  ∧ (∀ (load : Nat) (c : CmdRef) (b : Bytes) (l : Load) (s : State), s.load? load = some l → l.step = .reading → s.stopped = false →
      l.source = .command c → sha384 b = padTo 48 l.digest → b.length = l.totalLen → l.kind ≠ .graph → s.kindCheck l b = none →
      ∃ t, exec (.loadDigestDone load (some b) false) s = .next t ∧ (∀ x ∈ t.host.loads, x.key = load → x.step = .checked ∧
      x.content = b) ∧ t.host.rings = s.host.rings ∧ Touches [.host] s t)
  ∧ (∀ (load : Nat) (content : Option Bytes) (l : Load) (s : State), s.load? load = some l → l.step = .reading → s.stopped = false →
      l.retries < 3 → ∃ t, exec (.loadDigestDone load content true) s = .next t ∧
      (t.load? load).map (fun x => (x.step, x.retries)) = some (.reading, l.retries + 1) ∧
      t.get Fld.FLT_T_CNT = min (s.get Fld.FLT_T_CNT + 1) 0xFFFFFFFF ∧
      t.get Fld.FLT_RETRY_CNT = min (s.get Fld.FLT_RETRY_CNT + 1) 0xFFFFFFFF ∧ Touches [.reg, .host] s t)
  ∧ (∀ (load : Nat) (content : Option Bytes) (fault : Bool) (l : Load) (s : State), s.load? load = some l →
      l.step ≠ .reading ∨ s.stopped = true → exec (.loadDigestDone load content fault) s = .next s)
  ∧ (∀ (load : Nat) (content : Option Bytes) (fault : Bool) (s : State), s.load? load = none →
      exec (.loadDigestDone load content fault) s = .next s)
  ∧ (∀ (load : Nat) (l : Load) (s : State), s.load? load = some l → l.step = .checked → s.stopped = false → s.versionTest l = none →
      l.kind = .vocabulary ∨ l.kind = .model ∨ l.kind = .automaton → s.freeOld.contentRoom l.kind l.content.length = true →
      ∃ t, exec (.loadCommit load false) s = .next t ∧ t.itemVersion l.kind l.index = l.version ∧ t.load? load = none ∧
      t.get Fld.VRD_CSET = w32 (s.get Fld.VRD_CSET + 1) ∧
      t.acc.commits.head?.map (fun c => (c.cset, c.kind, c.index, c.newVer)) = some (w32 (s.get Fld.VRD_CSET + 1), contentCode l.kind, l.index, l.version) ∧
      Touches [.freeCtr, .out, .reg, .host, .ops, .led, .acc, .strands, .grants, .frames, .content, .vit, .gth, .srv, .img, .nwl, .fab] s t)
  ∧ (∀ (load : Nat) (l : Load) (s : State), s.load? load = some l → l.step = .checked → s.stopped = false →
      (s.versionTest l).isSome = true → ∃ t, exec (.loadCommit load false) s = .next t ∧ t.load? load = none ∧ t.content = s.content ∧
      t.get Fld.VRD_CSET = s.get Fld.VRD_CSET ∧
      Touches [.freeCtr, .out, .reg, .host, .ops, .led, .acc, .strands, .grants, .frames, .content, .vit, .gth, .srv, .img, .nwl, .fab] s t)
  ∧ (∀ (load : Nat) (fault : Bool) (l : Load) (s : State), s.load? load = some l → l.step ≠ .checked ∨ s.stopped = true →
      exec (.loadCommit load fault) s = .next s)
  ∧ (∀ (load : Nat) (fault : Bool) (s : State), s.load? load = none → exec (.loadCommit load fault) s = .next s)

/-- O41. Graph loads, graph targets, and the replay of a recorded frame. GRAPH_LOAD_START of the load whose turn it is, with nothing
pinned, starts writing it, or refuses it where it does not apply. GRAPH_LOAD_COMMIT pays for lines as far as the pools allow; with the
last the version of the load becomes the graph's and CSET rises. GRAPH_TARGET_WRITE sets T_g, and a graph below it is behind from then on.
VRD_REPLAY completes with DMA_ERROR, FORMAT or the refusal of the descriptor, counted; otherwise its frame stands among the frames with
the recorded ID, outside time. REPLAY_DONE of a replay that has a verdict or a cause counts it and takes it off the books. -/
def Obligations.GraphLoadsAndReplays : Prop :=
  (∀ (graph : Fin 4) (lines : Nat) (l : Load) (s : State), s.graphTurn graph.val = some l → (s.graph graph.val).applying = none →
      s.stopped = false → s.graphPins graph.val = [] → s.versionTest l = none → s.graphVersionTest l.content graph.val l.version = none →
      ∃ t, exec (.graphLoadStart graph lines) s = .next t ∧
      ((applyLoad (s.graphGeom graph.val) (s.graph graph.val) l.content).toOption.isSome = true →
      (t.graph graph.val).applying = some (l.key, l.version, lines, isFullLoad l) ∧ t.host = s.host) ∧
      ((applyLoad (s.graphGeom graph.val) (s.graph graph.val) l.content).toOption.isSome = false → t.load? l.key = none) ∧
      Touches [.freeCtr, .out, .reg, .host, .strands, .frames, .gth, .srv, .img, .nwl, .fab] s t)
  ∧ (∀ (graph : Fin 4) (lines : Nat) (s : State), s.graphTurn graph.val = none → exec (.graphLoadStart graph lines) s = .next s)
  ∧ (∀ (graph : Fin 4) (lines : Nat) (s : State), (s.graph graph.val).applying.isSome = true ∨ s.stopped = true →
      exec (.graphLoadStart graph lines) s = .next s)
  ∧ (∀ (graph : Fin 4) (key : Nat) (v : Nat) (lines : Nat) (full : Bool) (s : State), (s.graph graph.val).applying = some (key, v, lines, full) →
      s.stopped = false → (s.payLines lines).1 ≠ 0 → ∃ t, exec (.graphLoadCommit graph) s = .next t ∧
      (t.graph graph.val).applying = some (key, v, (s.payLines lines).1, full) ∧ (t.graph graph.val).ver = (s.graph graph.val).ver ∧
      t.get Fld.VRD_CSET = s.get Fld.VRD_CSET ∧
      Touches [.freeCtr, .out, .reg, .host, .acc, .strands, .frames, .gth, .srv, .img, .nwl, .fab] s t)
  ∧ (∀ (graph : Fin 4) (key : Nat) (v : Nat) (lines : Nat) (full : Bool) (l : Load) (s : State), (s.graph graph.val).applying = some (key, v, lines, full) →
      s.stopped = false → (s.payLines lines).1 = 0 → s.load? key = some l → ∃ t, exec (.graphLoadCommit graph) s = .next t ∧
      (t.graph graph.val).ver = v ∧ (t.graph graph.val).applying = none ∧ t.load? key = none ∧
      t.get Fld.VRD_CSET = w32 (s.get Fld.VRD_CSET + 1) ∧ (l.kind = .graph →
      t.get Fld.GTH_LOAD_CNT = min (s.get Fld.GTH_LOAD_CNT + 1) 0xFFFFFFFF) ∧
      Touches [.freeCtr, .out, .reg, .host, .acc, .strands, .frames, .gth, .srv, .img, .nwl, .fab] s t)
  ∧ (∀ (graph : Fin 4) (s : State), (s.graph graph.val).applying = none ∨ s.stopped = true → exec (.graphLoadCommit graph) s = .next s)
  ∧ (∀ (graph : Fin 4) (value : Word) (s : State), s.img.pwrOk = true → s.flag Fld.HIF_STATUS_CMD_READY = true →
      ∃ t, exec (.graphTargetWrite graph value) s = .next t ∧ t.get (Fld.GTH_GRAPH_TARGET graph.val) = value.toNat ∧
      ((s.graph graph.val).ver < value.toNat → (t.graph graph.val).behind.isSome = true) ∧ (value.toNat ≤ (s.graph graph.val).ver →
      (t.graph graph.val).behind = none ∧ (t.graph graph.val).expired = false) ∧ (t.graph graph.val).ver = (s.graph graph.val).ver ∧
      Touches [.out, .reg, .host, .strands, .frames, .gth, .srv, .img, .fab] s t)
  ∧ (∀ (graph : Fin 4) (value : Word) (s : State), s.img.pwrOk = false ∨ s.flag Fld.HIF_STATUS_CMD_READY = false →
      exec (.graphTargetWrite graph value) s = .next s)
  ∧ (∀ (q : Fin 16) (e : SqEntry) (len : Word) (strand : Fin 256) (reserved : Bool) (s : State), Takes q e s →
      ∃ t, exec (.vrdReplay q e len strand reserved none) s = .next t ∧ Completed q e 0x30 .dmaError s t ∧ t.frames = s.frames ∧
      t.get Fld.VRD_REPLAY_FAIL_CNT = min (s.get Fld.VRD_REPLAY_FAIL_CNT + 1) 0xFFFFFFFF ∧
      Touches [.freeCtr, .out, .reg, .host, .frames, .nextFrame, .srv] s t)
  ∧ (∀ (q : Fin 16) (e : SqEntry) (len : Word) (strand : Fin 256) (reserved : Bool) (b : Bytes) (s : State), Takes q e s →
      reserved = false ∨ readReplay len.toNat b = none → ∃ t, exec (.vrdReplay q e len strand reserved (some b)) s = .next t ∧
      Completed q e 0x30 .format s t ∧ t.frames = s.frames ∧
      t.get Fld.VRD_REPLAY_FAIL_CNT = min (s.get Fld.VRD_REPLAY_FAIL_CNT + 1) 0xFFFFFFFF ∧
      Touches [.freeCtr, .out, .reg, .host, .frames, .nextFrame, .srv] s t)
  ∧ (∀ (q : Fin 16) (e : SqEntry) (len : Word) (strand : Fin 256) (b : Bytes) (d : ReplayDescr) (st : Status) (s : State), Takes q e s →
      readReplay len.toNat b = some d → s.replayRefusal strand.val d = some st →
      ∃ t, exec (.vrdReplay q e len strand true (some b)) s = .next t ∧ Completed q e 0x30 st s t ∧ t.frames = s.frames ∧
      t.get Fld.VRD_REPLAY_FAIL_CNT = min (s.get Fld.VRD_REPLAY_FAIL_CNT + 1) 0xFFFFFFFF ∧
      Touches [.freeCtr, .out, .reg, .host, .frames, .nextFrame, .srv] s t)
  ∧ (∀ (q : Fin 16) (e : SqEntry) (len : Word) (strand : Fin 256) (b : Bytes) (d : ReplayDescr) (s : State), Takes q e s →
      readReplay len.toNat b = some d → s.replayRefusal strand.val d = none →
      ∃ t, exec (.vrdReplay q e len strand true (some b)) s = .next t ∧ (∃ f ∈ t.frames, f.key = s.nextFrame ∧ f.kind.timed = false ∧
      f.strand = some strand.val ∧ f.id = le d.record 8 8 ∧ f.bytes = d.frame) ∧ t.nextFrame = s.nextFrame + 1 ∧ t.reg = s.reg ∧
      t.calendar = s.calendar ∧ Touches [.freeCtr, .out, .reg, .host, .frames, .nextFrame, .srv] s t)
  ∧ (∀ (frame : Nat) (f : Frame) (s : State), s.frame? frame = some f → f.kind.timed = false → f.verdict.isSome = true ∨ f.causes ≠ [] →
      s.stopped = false → ∃ t, exec (.replayDone frame) s = .next t ∧ (∀ g ∈ t.frames, g.key ≠ frame) ∧
      t.get Fld.VRD_REPLAY_CNT = min (s.get Fld.VRD_REPLAY_CNT + 1) 0xFFFFFFFF ∧ t.acc = s.acc ∧
      Touches [.freeCtr, .out, .reg, .host, .frames, .streams, .calendar, .content] s t)
  ∧ (∀ (frame : Nat) (f : Frame) (s : State), s.frame? frame = some f → (f.kind.timed = true ∨ s.stopped = true ∨ (f.verdict = none ∧
      f.causes = [])) → exec (.replayDone frame) s = .next s)
  ∧ (∀ (frame : Nat) (s : State), s.frame? frame = none → exec (.replayDone frame) s = .next s)

/-- O42. Stacked searches: issue, requests, records, match words and their timeouts. STACK_SEARCH_ISSUE at the Headland takes the next
TAG, and a WIDE search of another member joins the pending ones and goes down as a SEARCH record; a Shoal asks with the next OTAG. A
SEARCH record is forwarded and held pending, or, at the last member that takes part, answered with a match word of its TAG. REQ, RESULT
and LINK records are forwarded or taken. A match word ends the search of its TAG, is merged by a Shoal, or is counted where its CRC or its
TAG does not fit. No RESULT within 4 µs and no match word within 2 µs end a search as failed. Anything else changes nothing. -/
def Obligations.StackedSearch : Prop :=
  (∀ (frame : Nat) (id : Nat) (x : Search) (s : State), s.search? frame id = some x → x.state = .waiting →
      s.get (Fld.VIT_TABLE_CFG_STACK x.table) ≠ 0 → s.stopped = false → s.stackPos = 0 → s.stk.head.length < 256 →
      ∃ t, exec (.stackSearchIssue frame id) s = .next t ∧ t.stk.nextTag = tagAfter s.stk.nextTag ∧
      t.get Fld.STK_SEARCH_CNT = min (s.get Fld.STK_SEARCH_CNT + 1) 0xFFFFFFFF ∧ t.stk.asks = s.stk.asks ∧
      Touches [.freeCtr, .out, .reg, .host, .ops, .led, .strands, .grants, .frames, .content, .vit, .gth, .srv, .img, .nwl, .stk] s t)
  ∧ (∀ (frame : Nat) (id : Nat) (x : Search) (s : State), s.search? frame id = some x → x.state = .waiting →
      s.get (Fld.VIT_TABLE_CFG_STACK x.table) = 2 → s.stopped = false → s.stackPos = 0 → s.stk.head.length < 256 → s.stk.rotate ≠ 0 →
      s.stk.rotate ≤ s.reachNow → ∃ t, exec (.stackSearchIssue frame id) s = .next t ∧
      t.stk.head = s.stk.head ++ [⟨s.stk.nextTag, 0, 0, frame, id, x.table, 2, s.stk.rotate, s.now, none, (s.vtable x.table).ver⟩] ∧
      t.stk.rotate = (if s.stk.rotate < s.reachNow then s.stk.rotate + 1 else 0) ∧
      (t.nport 5).queues = Tab.put (s.nport 5).queues 0 (Tab.getD (s.nport 5).queues 0 [] ++ [.record (searchRecordBytes ⟨s.stk.nextTag, 0, 0, frame, id, x.table, 2, s.stk.rotate, s.now, none, (s.vtable x.table).ver⟩ (s.get (Fld.VIT_TABLE_CFG_WIDTH x.table)) x.key)]) ∧
      (∀ h ∈ t.frames, h.key = frame → ∀ y ∈ h.searches, y.id = id → y.state = .stacked s.now false) ∧
      OnlyWords [Fld.STK_SEARCH_CNT.off] s t ∧ Touches [.reg, .frames, .nwl, .stk] s t)
  ∧ (∀ (frame : Nat) (id : Nat) (x : Search) (s : State), s.search? frame id = some x → x.state = .waiting →
      s.get (Fld.VIT_TABLE_CFG_STACK x.table) ≠ 0 → s.stopped = false → s.stackPos ≠ 0 →
      ∃ t, exec (.stackSearchIssue frame id) s = .next t ∧ t.stk.asks = s.stk.asks ++ [⟨s.stk.nextOtag, frame, id, s.now⟩] ∧
      t.stk.nextOtag = (s.stk.nextOtag + 1) % 65536 ∧ t.stk.head = s.stk.head ∧ (∀ h ∈ t.frames, h.key = frame →
      ∀ y ∈ h.searches, y.id = id → y.state = .stacked s.now true) ∧
      (Tab.getD (t.nport 4).queues 0 []).length = (Tab.getD (s.nport 4).queues 0 []).length + 1 ∧ Touches [.frames, .nwl, .stk] s t)
  ∧ (∀ (frame : Nat) (id : Nat) (x : Search) (s : State), s.search? frame id = some x →
      x.state ≠ .waiting ∨ s.get (Fld.VIT_TABLE_CFG_STACK x.table) = 0 ∨ s.stopped = true → exec (.stackSearchIssue frame id) s = .next s)
  ∧ (∀ (frame : Nat) (id : Nat) (s : State), s.stackPos = 0 → 256 ≤ s.stk.head.length → exec (.stackSearchIssue frame id) s = .next s)
  ∧ (∀ (frame : Nat) (id : Nat) (s : State), s.search? frame id = none → exec (.stackSearchIssue frame id) s = .next s)
  ∧ (∀ (lost : Bool) (r : RxRecord) (u : State) (s : State), s.takeRecord 1 = some (r, u) → recMode r.bytes = 1 →
      s.stackPos + 1 ≠ s.stackMembers → ∃ t, exec (.searchRecordRx lost) s = .next t ∧ u.stk.records.length + 1 = s.stk.records.length ∧
      t.stk.records = u.stk.records ∧ (t.stk.shoal.getLast?).map (fun x => x.tag) = some (le r.bytes 4 2) ∧ t.stk.shoal.length ≤ 256 ∧
      (t.nport 5).queues = Tab.put (u.nport 5).queues 0 (Tab.getD (u.nport 5).queues 0 [] ++ [.record r.bytes]) ∧ t.out = s.out ∧
      Touches [.out, .vit, .nwl, .stk] s t)
  ∧ (∀ (lost : Bool) (r : RxRecord) (u : State) (s : State), s.takeRecord 1 = some (r, u) → (recMode r.bytes = 1 ∧
      s.stackPos + 1 = s.stackMembers ∨ recMode r.bytes ≠ 1 ∧ bits (byteAt r.bytes 2) 3 3 = s.stackPos) →
      ∃ t, exec (.searchRecordRx lost) s = .next t ∧ u.stk.records.length + 1 = s.stk.records.length ∧ t.stk = u.stk ∧
      t.out = .matchWord (u.localWord (le r.bytes 4 2) (recTable r.bytes) (recKey r.bytes) (le r.bytes 8 4) lost).1 :: s.out ∧
      wordOk (u.localWord (le r.bytes 4 2) (recTable r.bytes) (recKey r.bytes) (le r.bytes 8 4) lost).1 = true ∧
      wordTag (u.localWord (le r.bytes 4 2) (recTable r.bytes) (recKey r.bytes) (le r.bytes 8 4) lost).1 = le r.bytes 4 2 ∧
      Touches [.out, .vit, .nwl, .stk] s t)
  ∧ (∀ (lost : Bool) (r : RxRecord) (u : State) (s : State), s.takeRecord 1 = some (r, u) → recMode r.bytes ≠ 1 →
      s.stackPos < bits (byteAt r.bytes 2) 3 3 → ∃ t, exec (.searchRecordRx lost) s = .next t ∧
      u.stk.records.length + 1 = s.stk.records.length ∧ (t.stk.shoal.getLast?) = some ⟨le r.bytes 4 2, none⟩ ∧
      (t.nport 5).queues = Tab.put (u.nport 5).queues 0 (Tab.getD (u.nport 5).queues 0 [] ++ [.record r.bytes]) ∧
      Touches [.nwl, .stk] s t)
  ∧ (∀ (lost : Bool) (r : RxRecord) (u : State) (s : State), s.takeRecord 1 = some (r, u) → recMode r.bytes ≠ 1 →
      bits (byteAt r.bytes 2) 3 3 < s.stackPos → ∃ t, exec (.searchRecordRx lost) s = .next t ∧ t = u ∧ Touches [.nwl, .stk] s t)
  ∧ (∀ (lost : Bool) (s : State), s.takeRecord 1 = none → exec (.searchRecordRx lost) s = .next s)
  ∧ (∀ (r : RxRecord) (u : State) (s : State), s.takeRecord 2 = some (r, u) → s.stackPos ≠ 0 → ∃ t, exec .reqRecordRx s = .next t ∧
      u.stk.records.length + 1 = s.stk.records.length ∧ t.stk = u.stk ∧
      (t.nport 4).queues = Tab.put (u.nport 4).queues 0 (Tab.getD (u.nport 4).queues 0 [] ++ [.record r.bytes]) ∧
      Touches [.nwl, .stk] s t)
  ∧ (∀ (r : RxRecord) (u : State) (s : State), s.takeRecord 2 = some (r, u) → s.stackPos = 0 → s.stk.head.length < 256 →
      ∃ t, exec .reqRecordRx s = .next t ∧ u.stk.records.length + 1 = s.stk.records.length ∧
      t.get Fld.STK_REQ_CNT = min (s.get Fld.STK_REQ_CNT + 1) 0xFFFFFFFF ∧
      t.get Fld.STK_SEARCH_CNT = min (s.get Fld.STK_SEARCH_CNT + 1) 0xFFFFFFFF ∧ t.stk.nextTag = tagAfter s.stk.nextTag ∧
      Touches [.freeCtr, .out, .reg, .host, .ops, .led, .strands, .grants, .frames, .content, .vit, .gth, .srv, .img, .nwl, .stk] s t)
  ∧ (∀ (s : State), s.takeRecord 2 = none → exec .reqRecordRx s = .next s)
  ∧ (∀ (s : State), s.stackPos = 0 → 256 ≤ s.stk.head.length → exec .reqRecordRx s = .next s)
  ∧ (∀ (r : RxRecord) (u : State) (s : State), s.takeRecord 3 = some (r, u) → byteAt r.bytes 2 % 8 ≠ s.stackPos →
      ∃ t, exec .resultRecordRx s = .next t ∧ u.stk.records.length + 1 = s.stk.records.length ∧ t.stk = u.stk ∧
      (t.nport 5).queues = Tab.put (u.nport 5).queues 1 (Tab.getD (u.nport 5).queues 1 [] ++ [.record r.bytes]) ∧
      Touches [.nwl, .stk] s t)
  ∧ (∀ (r : RxRecord) (u : State) (a : Ask) (s : State), s.takeRecord 3 = some (r, u) → byteAt r.bytes 2 % 8 = s.stackPos →
      s.stk.asks.find? (fun a => a.otag == le r.bytes 6 2) = some a → ∃ t, exec .resultRecordRx s = .next t ∧
      u.stk.records.length + 1 = s.stk.records.length ∧ t.stk.asks = s.stk.asks.filter (fun x => x.otag != a.otag) ∧
      (byteAt r.bytes 28 = 0 → ∀ y ∈ (s.search? a.frame a.search).toList, ∀ h ∈ t.frames, h.key = a.frame →
      ∀ z ∈ h.searches, z.id = a.search → z.state = .done) ∧ (byteAt r.bytes 28 ≠ 0 →
      t.get Fld.STK_RESULT_FAIL_CNT = min (s.get Fld.STK_RESULT_FAIL_CNT + 1) 0xFFFFFFFF) ∧
      Touches [.freeCtr, .out, .reg, .host, .ops, .led, .strands, .grants, .frames, .content, .vit, .gth, .srv, .img, .nwl, .stk] s t)
  ∧ (∀ (s : State), s.takeRecord 3 = none → exec .resultRecordRx s = .next s)
  ∧ (∀ (r : RxRecord) (u : State) (s : State), s.takeRecord 4 = some (r, u) → ∃ t, exec .linkRecordRx s = .next t ∧
      u.stk.records.length + 1 = s.stk.records.length ∧ t.stk.records = u.stk.records ∧ t.stk.linkReach = some (byteAt r.bytes 3 % 8) ∧
      (1 < s.get Fld.STK_CFG_SIZE → t.stk.reach = t.reachNow) ∧ Touches [.out, .reg, .host, .nwl, .stk] s t)
  ∧ (∀ (s : State), s.takeRecord 4 = none → exec .linkRecordRx s = .next s)
  ∧ (∀ (otag : BitVec 16) (a : Ask) (s : State), s.stk.asks.find? (fun a => a.otag == otag.toNat) = some a → 2000 ≤ s.since a.tick →
      ∃ t, exec (.reqTimeout otag) s = .next t ∧ t.stk.asks = s.stk.asks.filter (fun x => x.otag != otag.toNat) ∧
      t.get Fld.STK_RESULT_FAIL_CNT = min (s.get Fld.STK_RESULT_FAIL_CNT + 1) 0xFFFFFFFF ∧
      t.get Fld.FLT_T_CNT = min (s.get Fld.FLT_T_CNT + 1) 0xFFFFFFFF ∧
      Touches [.freeCtr, .out, .reg, .host, .ops, .led, .strands, .grants, .frames, .content, .vit, .gth, .srv, .img, .stk] s t)
  ∧ (∀ (otag : BitVec 16) (a : Ask) (s : State), s.stk.asks.find? (fun a => a.otag == otag.toNat) = some a → s.since a.tick < 2000 →
      exec (.reqTimeout otag) s = .next s)
  ∧ (∀ (otag : BitVec 16) (s : State), s.stk.asks.find? (fun a => a.otag == otag.toNat) = none → exec (.reqTimeout otag) s = .next s)
  ∧ (∀ (w : BitVec 136) (s : State), wordTag w.toNat = 0xFFFF → exec (.matchWordRx w) s = .next s)
  ∧ (∀ (w : BitVec 136) (s : State), wordTag w.toNat ≠ 0xFFFF → s.stackPos = 0 →
      s.stk.head.find? (fun h => h.tag == wordTag w.toNat) = none → ∃ t, exec (.matchWordRx w) s = .next t ∧
      t.get Fld.STK_TAG_MISS_CNT = min (s.get Fld.STK_TAG_MISS_CNT + 1) 0xFFFFFFFF ∧ OnlyWords [Fld.STK_TAG_MISS_CNT.off] s t ∧
      Touches [.reg] s t)
  ∧ (∀ (w : BitVec 136) (h : HeadSearch) (s : State), wordTag w.toNat ≠ 0xFFFF → s.stackPos = 0 →
      s.stk.head.find? (fun h => h.tag == wordTag w.toNat) = some h → wordOk w.toNat = false → ∃ t, exec (.matchWordRx w) s = .next t ∧
      t.get Fld.VIT_STK_TMO_CNT = min (s.get Fld.VIT_STK_TMO_CNT + 1) 0xFFFFFFFF ∧
      t.stk.head = s.stk.head.filter (fun x => x.tag != wordTag w.toNat) ∧
      Touches [.freeCtr, .out, .reg, .host, .ops, .led, .strands, .grants, .frames, .content, .vit, .gth, .srv, .img, .nwl, .stk] s t)
  ∧ (∀ (w : BitVec 136) (h : HeadSearch) (s : State), wordTag w.toNat ≠ 0xFFFF → s.stackPos = 0 →
      s.stk.head.find? (fun h => h.tag == wordTag w.toNat) = some h → wordOk w.toNat = true → h.origin ≠ 0 →
      ∃ t, exec (.matchWordRx w) s = .next t ∧ t.stk.head = s.stk.head.filter (fun x => x.tag != wordTag w.toNat) ∧
      (t.nport 5).queues = Tab.put (s.nport 5).queues 1 (Tab.getD (s.nport 5).queues 1 [] ++ [.record (if wordSkew ((h.word.map (fun own => joinWords own w.toNat)).getD w.toNat) then resultRecordBytes h 0 true else resultRecordBytes h ((h.word.map (fun own => joinWords own w.toNat)).getD w.toNat) false)]) ∧
      Touches [.nwl, .stk] s t)
  ∧ (∀ (w : BitVec 136) (h : HeadSearch) (s : State), wordTag w.toNat ≠ 0xFFFF → s.stackPos = 0 →
      s.stk.head.find? (fun h => h.tag == wordTag w.toNat) = some h → wordOk w.toNat = true → h.origin = 0 →
      wordSkew ((h.word.map (fun own => joinWords own w.toNat)).getD w.toNat) = false → ∃ t, exec (.matchWordRx w) s = .next t ∧
      t.stk.head = s.stk.head.filter (fun x => x.tag != wordTag w.toNat) ∧
      (∀ y ∈ (s.search? h.frame h.search).toList, ∀ k ∈ t.frames, k.key = h.frame → ∀ z ∈ k.searches, z.id = h.search → z.state = .done ∧
      z.result = some (wordLookup ((h.word.map (fun own => joinWords own w.toNat)).getD w.toNat) y.table (s.vtable y.table).ver false)) ∧
      Touches [.freeCtr, .out, .reg, .host, .ops, .led, .strands, .grants, .frames, .content, .vit, .gth, .srv, .img, .nwl, .stk] s t)
  ∧ (∀ (w : BitVec 136) (s : State), wordTag w.toNat ≠ 0xFFFF → s.stackPos ≠ 0 → wordOk w.toNat = false →
      ∃ t, exec (.matchWordRx w) s = .next t ∧ t.get Fld.STK_MATCH_CRC_CNT = min (s.get Fld.STK_MATCH_CRC_CNT + 1) 0xFFFFFFFF ∧
      OnlyWords [Fld.STK_MATCH_CRC_CNT.off] s t ∧ Touches [.reg] s t)
  ∧ (∀ (w : BitVec 136) (s : State), wordTag w.toNat ≠ 0xFFFF → s.stackPos ≠ 0 → wordOk w.toNat = true →
      s.stk.shoal.find? (fun x => x.tag == wordTag w.toNat) = none → ∃ t, exec (.matchWordRx w) s = .next t ∧
      t.get Fld.STK_TAG_MISS_CNT = min (s.get Fld.STK_TAG_MISS_CNT + 1) 0xFFFFFFFF ∧ OnlyWords [Fld.STK_TAG_MISS_CNT.off] s t ∧
      Touches [.reg] s t)
  ∧ (∀ (w : BitVec 136) (x : ShoalSearch) (s : State), wordTag w.toNat ≠ 0xFFFF → s.stackPos ≠ 0 → wordOk w.toNat = true →
      s.stk.shoal.find? (fun x => x.tag == wordTag w.toNat) = some x → ∃ t, exec (.matchWordRx w) s = .next t ∧
      t.stk.shoal = s.stk.shoal.filter (fun y => y.tag != wordTag w.toNat) ∧
      t.out = .matchWord ((x.word.map (fun own => joinWords own w.toNat)).getD w.toNat) :: s.out ∧ t.stk.head = s.stk.head ∧
      Touches [.out, .stk] s t)
  ∧ (∀ (tag : BitVec 16) (h : HeadSearch) (s : State), s.stk.head.find? (fun h => h.tag == tag.toNat) = some h → 1000 ≤ s.since h.tick →
      ∃ t, exec (.cascadeTimeout tag) s = .next t ∧ t.get Fld.VIT_STK_TMO_CNT = min (s.get Fld.VIT_STK_TMO_CNT + 1) 0xFFFFFFFF ∧
      t.stk.head = s.stk.head.filter (fun x => x.tag != tag.toNat) ∧
      Touches [.freeCtr, .out, .reg, .host, .ops, .led, .strands, .grants, .frames, .content, .vit, .gth, .srv, .img, .nwl, .stk] s t)
  ∧ (∀ (tag : BitVec 16) (h : HeadSearch) (s : State), s.stk.head.find? (fun h => h.tag == tag.toNat) = some h → s.since h.tick < 1000 →
      exec (.cascadeTimeout tag) s = .next s)
  ∧ (∀ (tag : BitVec 16) (s : State), s.stk.head.find? (fun h => h.tag == tag.toNat) = none → exec (.cascadeTimeout tag) s = .next s)
  ∧ (∀ (s : State), s.linksRun = true → (s.nport 4).state = .identify →
      s.stk.lastTraining = none ∨ s.stk.lastTraining.any (fun k => Nat.ble 500 (s.since k)) = true →
      ∃ t, exec (.matchTrainingWord none) s = .next t ∧ t.out = .matchWord (sealWord (2 ^ 10 * s.stackPos + 2 ^ 29 * 0xFFFF)) :: s.out ∧
      t.stk = { s.stk with lastTraining := some s.now } ∧ Touches [.out, .stk] s t)
  ∧ (∀ (s : State), s.linksRun = false ∨ (s.nport 4).state ≠ .identify ∨ s.stk.lastTraining.any (fun k => Nat.blt (s.since k) 500) = true →
      exec (.matchTrainingWord none) s = .next s)
  ∧ (∀ (v : BitVec 136) (s : State), s.linksRun = true → (s.nport 5).state = .identify → wordOk v.toNat = true →
      wordPos v.toNat = (s.stackPos + 1) % 8 → wordTag v.toNat = 0xFFFF → ∃ t, exec (.matchTrainingWord (some v)) s = .next t ∧
      t.stk.matchIn = true ∧ (t.nport 5).state = .identify ∧ Touches [.freeCtr, .out, .reg, .host, .ops, .led, .nwl, .stk] s t)
  ∧ (∀ (v : BitVec 136) (s : State), s.linksRun = true → (s.nport 5).state = .identify →
      wordOk v.toNat = false ∨ wordPos v.toNat ≠ (s.stackPos + 1) % 8 ∨ wordTag v.toNat ≠ 0xFFFF →
      ∃ t, exec (.matchTrainingWord (some v)) s = .next t ∧ t.stk.matchIn = false ∧ (t.nport 5).state = .disabled ∧
      (t.nport 5).fault = 1 ∧ Touches [.freeCtr, .out, .reg, .host, .ops, .led, .nwl, .stk] s t)
  ∧ (∀ (v : BitVec 136) (s : State), s.linksRun = false ∨ (s.nport 5).state ≠ .identify → exec (.matchTrainingWord (some v)) s = .next s)

/-- O43. Flits received: sequence, acknowledgement, NAK, replay, bad flits, TRAIN. On a port from IDENTIFY on, every good flit brings XOFF
and its ACK: one within the replay buffer frees what it acknowledges, another is counted bad. On a port that is UP a DATA flit with SEQ =
E is accepted and E advances, counted; one out of order, one beyond its receive buffer and a bad flit make a NAK due and count a transient
fault; a duplicate does not. A NAK starts a replay from the oldest flit, or, once REPLAY_MAX is reached, the port leaves UP with its
buffers empty and SEQ anew. In IDENTIFY a TRAIN flit of another partner disables the port; of the manifest's partner it is noted, and
after sixteen samples and with the partner verified the port comes UP. A port before IDENTIFY takes no flit. It rests on what the model
chose in log entry 45. -/
def Obligations.FlitsArrive : Prop :=
  (∀ (port : Fin 6) (head : FlitHead) (vc : Fin 5) (sop : Bool) (eop : Bool) (seq : BitVec 16) (payload : Bytes) (s : State), regFileWf s.reg = true →
      s.receives port.val = true → s.portIsUp port.val = true → seqDist seq.toNat (s.nport port.val).e = 0 →
      Tab.getD (s.nport port.val).held vc.val 0 < bufferSize port.val vc.val →
      ∃ t, exec (.dataFlitRx port head vc sop eop seq payload) s = .next t ∧ (t.nport port.val).e = ((s.nport port.val).e + 1) % 65536 ∧
      t.get (Fld.NWL_FLIT_RX_CNT port.val) = min (s.get (Fld.NWL_FLIT_RX_CNT port.val) + 1) 0xFFFFFFFF ∧
      (t.nport port.val).nakSent = none ∧ (t.nport port.val).xoffRcvd = head.xoff.toNat ∧ (t.nport port.val).lastGood = some s.now ∧
      (t.nport port.val).state = .up ∧ t.get (Fld.NWL_BAD_CNT port.val) = s.get (Fld.NWL_BAD_CNT port.val) ∧
      Touches [.freeCtr, .out, .reg, .host, .ops, .led, .strands, .grants, .frames, .content, .vit, .gth, .srv, .img, .nwl, .stk, .fab] s t)
  ∧ (∀ (port : Fin 6) (head : FlitHead) (vc : Fin 5) (sop : Bool) (eop : Bool) (seq : BitVec 16) (payload : Bytes) (s : State), s.receives port.val = true →
      s.portIsUp port.val = true → seqDist seq.toNat (s.nport port.val).e = 0 →
      bufferSize port.val vc.val ≤ Tab.getD (s.nport port.val).held vc.val 0 →
      ∃ t, exec (.dataFlitRx port head vc sop eop seq payload) s = .next t ∧ (t.nport port.val).e = (s.nport port.val).e ∧
      t.get (Fld.NWL_OVF_CNT port.val) = min (s.get (Fld.NWL_OVF_CNT port.val) + 1) 0xFFFFFFFF ∧ ((s.nport port.val).nakSent = none →
      (t.nport port.val).nakDue = true) ∧ t.get Fld.FLT_T_CNT = min (s.get Fld.FLT_T_CNT + 1) 0xFFFFFFFF ∧
      Touches [.freeCtr, .out, .reg, .host, .ops, .led, .strands, .grants, .frames, .content, .vit, .gth, .srv, .img, .nwl, .stk, .fab] s t)
  ∧ (∀ (port : Fin 6) (head : FlitHead) (vc : Fin 5) (sop : Bool) (eop : Bool) (seq : BitVec 16) (payload : Bytes) (s : State), regFileWf s.reg = true →
      s.receives port.val = true → s.portIsUp port.val = true → 0 < seqDist seq.toNat (s.nport port.val).e →
      seqDist seq.toNat (s.nport port.val).e < 32768 → ∃ t, exec (.dataFlitRx port head vc sop eop seq payload) s = .next t ∧
      (t.nport port.val).e = (s.nport port.val).e ∧ t.get (Fld.NWL_FLIT_RX_CNT port.val) = s.get (Fld.NWL_FLIT_RX_CNT port.val) ∧
      ((s.nport port.val).nakSent = none → (t.nport port.val).nakDue = true) ∧
      t.get Fld.FLT_T_CNT = min (s.get Fld.FLT_T_CNT + 1) 0xFFFFFFFF ∧
      Touches [.freeCtr, .out, .reg, .host, .ops, .led, .strands, .grants, .frames, .content, .vit, .gth, .srv, .img, .nwl, .stk, .fab] s t)
  ∧ (∀ (port : Fin 6) (head : FlitHead) (vc : Fin 5) (sop : Bool) (eop : Bool) (seq : BitVec 16) (payload : Bytes) (s : State), regFileWf s.reg = true →
      s.receives port.val = true → s.portIsUp port.val = true → 32768 ≤ seqDist seq.toNat (s.nport port.val).e →
      ∃ t, exec (.dataFlitRx port head vc sop eop seq payload) s = .next t ∧ (t.nport port.val).e = (s.nport port.val).e ∧
      (t.nport port.val).nakDue = (s.nport port.val).nakDue ∧ t.get Fld.FLT_T_CNT = s.get Fld.FLT_T_CNT ∧
      Touches [.freeCtr, .out, .reg, .host, .ops, .led, .strands, .grants, .frames, .content, .vit, .gth, .srv, .img, .nwl, .stk, .fab] s t)
  ∧ (∀ (port : Fin 6) (head : FlitHead) (vc : Fin 5) (sop : Bool) (eop : Bool) (seq : BitVec 16) (payload : Bytes) (s : State), s.receives port.val = true →
      (s.nport port.val).state = .identify → ∃ t, exec (.dataFlitRx port head vc sop eop seq payload) s = .next t ∧
      (t.nport port.val).e = (s.nport port.val).e ∧ (t.nport port.val).xoffRcvd = head.xoff.toNat ∧
      (t.nport port.val).held = (s.nport port.val).held ∧
      Touches [.freeCtr, .out, .reg, .host, .ops, .led, .strands, .grants, .frames, .content, .vit, .gth, .srv, .img, .nwl, .stk, .fab] s t)
  ∧ (∀ (port : Fin 6) (head : FlitHead) (vc : Fin 5) (sop : Bool) (eop : Bool) (seq : BitVec 16) (payload : Bytes) (s : State), s.receives port.val = false →
      exec (.dataFlitRx port head vc sop eop seq payload) s = .next s)
  ∧ (∀ (port : Fin 6) (head : FlitHead) (s : State), regFileWf s.reg = true → s.receives port.val = true →
      seqDist head.ack.toNat (s.nport port.val).o ≤ (s.nport port.val).buffer.length → ∃ t, exec (.idleFlitRx port head) s = .next t ∧
      (t.nport port.val).buffer = (if head.ackValid then (s.nport port.val).buffer.drop (seqDist head.ack.toNat (s.nport port.val).o) else (s.nport port.val).buffer) ∧
      (head.ackValid = true → seqDist head.ack.toNat (s.nport port.val).o ≠ 0 → (t.nport port.val).o = head.ack.toNat ∧
      (t.nport port.val).replays = 0) ∧ (t.nport port.val).xoffRcvd = head.xoff.toNat ∧ (t.nport port.val).lastGood = some s.now ∧
      t.get (Fld.NWL_FEC_FIX_CNT port.val) = min (s.get (Fld.NWL_FEC_FIX_CNT port.val) + head.fixes.val) 0xFFFFFFFF ∧
      Touches [.reg, .nwl, .fab] s t)
  ∧ (∀ (port : Fin 6) (head : FlitHead) (s : State), regFileWf s.reg = true → s.receives port.val = true → head.ackValid = true →
      (s.nport port.val).buffer.length < seqDist head.ack.toNat (s.nport port.val).o → ∃ t, exec (.idleFlitRx port head) s = .next t ∧
      (t.nport port.val).buffer = (s.nport port.val).buffer ∧ (t.nport port.val).o = (s.nport port.val).o ∧
      t.get (Fld.NWL_ACK_BAD_CNT port.val) = min (s.get (Fld.NWL_ACK_BAD_CNT port.val) + 1) 0xFFFFFFFF ∧ Touches [.reg, .nwl, .fab] s t)
  ∧ (∀ (port : Fin 6) (head : FlitHead) (s : State), s.receives port.val = false → exec (.idleFlitRx port head) s = .next s)
  ∧ (∀ (port : Fin 6) (head : FlitHead) (s : State), regFileWf s.reg = true → s.receives port.val = true → s.portIsUp port.val = true →
      head.ackValid = true → seqDist head.ack.toNat (s.nport port.val).o = 0 → (s.nport port.val).buffer ≠ [] →
      (s.nport port.val).replayFrom.all (fun e => e.1 != head.ack.toNat || Nat.ble 1000 (s.since e.2)) = true →
      (s.nport port.val).replays + 1 < s.get (Fld.NWL_PORT_CFG_REPLAY_MAX port.val) → ∃ t, exec (.nakFlitRx port head) s = .next t ∧
      (t.nport port.val).replay = some 0 ∧ (t.nport port.val).replays = (s.nport port.val).replays + 1 ∧
      (t.nport port.val).replayFrom = some ((s.nport port.val).o, s.now) ∧ (t.nport port.val).buffer = (s.nport port.val).buffer ∧
      t.get (Fld.NWL_REPLAY_CNT port.val) = min (s.get (Fld.NWL_REPLAY_CNT port.val) + 1) 0xFFFFFFFF ∧ (t.nport port.val).state = .up ∧
      Touches [.freeCtr, .out, .reg, .host, .ops, .led, .strands, .grants, .frames, .content, .vit, .gth, .srv, .img, .nwl, .stk, .fab] s t)
  ∧ (∀ (port : Fin 6) (head : FlitHead) (s : State), regFileWf s.reg = true → s.receives port.val = true → s.portIsUp port.val = true →
      head.ackValid = true → seqDist head.ack.toNat (s.nport port.val).o = 0 → (s.nport port.val).buffer ≠ [] →
      (s.nport port.val).replayFrom.all (fun e => e.1 != head.ack.toNat || Nat.ble 1000 (s.since e.2)) = true →
      max 1 (s.get (Fld.NWL_PORT_CFG_REPLAY_MAX port.val)) ≤ (s.nport port.val).replays + 1 →
      ∃ t, exec (.nakFlitRx port head) s = .next t ∧ (t.nport port.val).state = .train ∨ (t.nport port.val).state = .retired ∧
      (t.nport port.val).since = s.now ∧ (t.nport port.val).buffer = [] ∧ (t.nport port.val).e = 0 ∧ (t.nport port.val).next = 0 ∧
      (t.nport port.val).o = 0 ∧ t.get (Fld.NWL_RETRAIN_CNT port.val) = min (s.get (Fld.NWL_RETRAIN_CNT port.val) + 1) 0xFFFFFFFF ∧
      t.get (Fld.NWL_REPLAY_CNT port.val) = min (s.get (Fld.NWL_REPLAY_CNT port.val) + 1) 0xFFFFFFFF ∧
      Touches [.freeCtr, .out, .reg, .host, .ops, .led, .strands, .grants, .frames, .content, .vit, .gth, .srv, .img, .nwl, .stk, .fab] s t)
  ∧ (∀ (port : Fin 6) (head : FlitHead) (s : State), s.receives port.val = true → (s.nport port.val).state = .identify →
      ∃ t, exec (.nakFlitRx port head) s = .next t ∧
      (t.nport port.val).replay = none ∨ (t.nport port.val).replay.isSome = (s.nport port.val).replay.isSome ∧
      (t.nport port.val).state = .identify ∧ (t.nport port.val).xoffRcvd = head.xoff.toNat ∧
      Touches [.freeCtr, .out, .reg, .host, .ops, .led, .strands, .grants, .frames, .content, .vit, .gth, .srv, .img, .nwl, .stk, .fab] s t)
  ∧ (∀ (port : Fin 6) (head : FlitHead) (s : State), s.receives port.val = false → exec (.nakFlitRx port head) s = .next s)
  ∧ (∀ (port : Fin 6) (lost0 : Bool) (lost1 : Bool) (fixes : Fin 3) (s : State), regFileWf s.reg = true → s.receives port.val = true →
      s.portIsUp port.val = true → ∃ t, exec (.badFlitRx port lost0 lost1 fixes) s = .next t ∧
      t.get (Fld.NWL_BAD_CNT port.val) = min (s.get (Fld.NWL_BAD_CNT port.val) + 1) 0xFFFFFFFF ∧
      t.get (Fld.NWL_FEC_FIX_CNT port.val) = min (s.get (Fld.NWL_FEC_FIX_CNT port.val) + fixes.val) 0xFFFFFFFF ∧
      (t.nport port.val).badWords = ((s.nport port.val).badWords.1 + b2n lost0, (s.nport port.val).badWords.2 + b2n lost1) ∧
      (t.nport port.val).e = (s.nport port.val).e ∧ (t.nport port.val).o = (s.nport port.val).o ∧ ((s.nport port.val).nakSent = none →
      (t.nport port.val).nakDue = true) ∧ t.get Fld.FLT_T_CNT = min (s.get Fld.FLT_T_CNT + 1) 0xFFFFFFFF ∧
      Touches [.freeCtr, .out, .reg, .host, .ops, .led, .strands, .grants, .frames, .content, .vit, .gth, .srv, .img, .nwl] s t)
  ∧ (∀ (port : Fin 6) (lost0 : Bool) (lost1 : Bool) (fixes : Fin 3) (s : State), regFileWf s.reg = true → s.receives port.val = true →
      (s.nport port.val).state = .identify → ∃ t, exec (.badFlitRx port lost0 lost1 fixes) s = .next t ∧
      t.get (Fld.NWL_BAD_CNT port.val) = min (s.get (Fld.NWL_BAD_CNT port.val) + 1) 0xFFFFFFFF ∧
      (t.nport port.val).nakDue = (s.nport port.val).nakDue ∧
      OnlyWords [(Fld.NWL_BAD_CNT port.val).off, (Fld.NWL_FEC_FIX_CNT port.val).off] s t ∧ Touches [.reg, .nwl] s t)
  ∧ (∀ (port : Fin 6) (lost0 : Bool) (lost1 : Bool) (fixes : Fin 3) (s : State), s.receives port.val = false →
      exec (.badFlitRx port lost0 lost1 fixes) s = .next s)
  ∧ (∀ (port : Fin 6) (head : FlitHead) (f : TrainFields) (s : State), s.receives port.val = true → (s.nport port.val).state = .identify →
      s.partnerOk port.val f = false → ∃ t, exec (.trainFlitRx port head f) s = .next t ∧ (t.nport port.val).state = .disabled ∧
      (t.nport port.val).fault = 1 ∧ (t.nport port.val).nbrNode = f.node.toNat ∧ (t.nport port.val).nbrPort = f.port.val ∧
      Touches [.freeCtr, .out, .reg, .host, .ops, .led, .nwl, .stk] s t)
  ∧ (∀ (port : Fin 6) (head : FlitHead) (f : TrainFields) (s : State), s.receives port.val = true → (s.nport port.val).state = .identify →
      s.partnerOk port.val f = true → (s.nport port.val).samples < 15 → ∃ t, exec (.trainFlitRx port head f) s = .next t ∧
      (t.nport port.val).state = .identify ∧ (t.nport port.val).nbrNode = f.node.toNat ∧
      (t.nport port.val).nbrImage = f.imageEpoch.toNat ∧ (t.nport port.val).heard = some (f.stamp.toNat, s.now) ∧
      (t.nport port.val).passed = some ((s.nport port.val).passed.getD s.now) ∧
      (t.nport port.val).samples = (if f.echo = 0 then (s.nport port.val).samples else (s.nport port.val).samples + 1) ∧
      Touches [.freeCtr, .out, .reg, .host, .ops, .led, .nwl, .stk] s t)
  ∧ (∀ (port : Fin 6) (head : FlitHead) (f : TrainFields) (s : State), s.receives port.val = true → (s.nport port.val).state = .identify →
      s.partnerOk port.val f = true → 16 ≤ (s.nport port.val).samples → s.rttOk port.val = true → f.verified = true →
      ∃ t, exec (.trainFlitRx port head f) s = .next t ∧ (t.nport port.val).state = .up ∧ (t.nport port.val).since = s.now ∧
      (port.val = 4 → t.stk.matchOut = true) ∧ Touches [.freeCtr, .out, .reg, .host, .ops, .led, .nwl, .stk] s t)
  ∧ (∀ (port : Fin 6) (head : FlitHead) (f : TrainFields) (s : State), s.receives port.val = true → (s.nport port.val).state = .identify →
      s.partnerOk port.val f = true → 16 ≤ (s.nport port.val).samples → s.rttOk port.val = false →
      ∃ t, exec (.trainFlitRx port head f) s = .next t ∧ (t.nport port.val).state = .disabled ∧ (t.nport port.val).fault = 2 ∧
      Touches [.freeCtr, .out, .reg, .host, .ops, .led, .nwl, .stk] s t)
  ∧ (∀ (port : Fin 6) (head : FlitHead) (f : TrainFields) (s : State), s.receives port.val = true → s.portIsUp port.val = true →
      ∃ t, exec (.trainFlitRx port head f) s = .next t ∧ (t.nport port.val).state = .up ∧
      (t.nport port.val).nbrNode = (s.nport port.val).nbrNode ∧ (t.nport port.val).xoffRcvd = head.xoff.toNat ∧
      Touches [.freeCtr, .out, .reg, .host, .ops, .led, .nwl, .stk] s t)
  ∧ (∀ (port : Fin 6) (head : FlitHead) (f : TrainFields) (s : State), s.receives port.val = false →
      exec (.trainFlitRx port head f) s = .next s)

/-- O44. Flit slots, replay timeouts, bring-up, retries and retraining of a port. FLIT_SLOT of a port in ALIGN, IDENTIFY or UP sends one
flit; a NAK that is due goes first and is counted. REPLAY_TIMEOUT of a port that is UP, with flits unacknowledged for REPLAY_TMO µs,
starts a replay, or takes the port out of UP where it has replayed too often. BRINGUP_STAGE_DONE takes a port from TRAIN to ALIGN and on
to IDENTIFY; BRINGUP_TIMEOUT past the stage's bound takes it to DOWN (RETIRED without a lane) and counts a transient fault.
PORT_RETRY_HOLD 100 ms later starts anew; PORT_RETRAIN takes a port out of UP. Ports stand still before the start-up sequence is past step
10 and while the data path is stopped. -/
def Obligations.PortsRun : Prop :=
  (∀ (port : Fin 6) (s : State), s.linksRun = true →
      (s.nport port.val).lastSlot.all (fun k => Nat.ble (flitPeriod (s.nport port.val).lanes) (s.since k)) = true →
      (s.nport port.val).state = .up → (s.nport port.val).nakDue = false → ∃ t, exec (.flitSlot port) s = .next t ∧ t.out.tail = s.out ∧
      t.out.head?.any (fun o => match o with | .flit p _ => p == port.val | _ => false) = true ∧
      (t.nport port.val).lastSlot = some s.now ∧ (t.nport port.val).nakDue = false ∧ (t.nport port.val).e = (s.nport port.val).e ∧
      (t.nport port.val).o = (s.nport port.val).o ∧ Touches [.out, .reg, .nwl, .fab] s t)
  ∧ (∀ (port : Fin 6) (s : State), regFileWf s.reg = true → s.linksRun = true →
      (s.nport port.val).lastSlot.all (fun k => Nat.ble (flitPeriod (s.nport port.val).lanes) (s.since k)) = true →
      (s.nport port.val).state = .up → (s.nport port.val).nakDue = true → ∃ t, exec (.flitSlot port) s = .next t ∧ t.out.tail = s.out ∧
      t.out.head?.any (fun o => match o with | .flit p _ => p == port.val | _ => false) = true ∧
      (t.nport port.val).lastSlot = some s.now ∧ (t.nport port.val).nakDue = false ∧ (t.nport port.val).nakSent = some s.now ∧
      t.get (Fld.NWL_NAK_TX_CNT port.val) = min (s.get (Fld.NWL_NAK_TX_CNT port.val) + 1) 0xFFFFFFFF ∧
      (t.nport port.val).buffer = (s.nport port.val).buffer ∧ (t.nport port.val).next = (s.nport port.val).next ∧
      Touches [.out, .reg, .nwl, .fab] s t)
  ∧ (∀ (port : Fin 6) (s : State), s.linksRun = true →
      (s.nport port.val).lastSlot.all (fun k => Nat.ble (flitPeriod (s.nport port.val).lanes) (s.since k)) = true →
      (s.nport port.val).state = .align ∨ (s.nport port.val).state = .identify → ∃ t, exec (.flitSlot port) s = .next t ∧
      t.out.tail = s.out ∧ t.out.head?.any (fun o => match o with | .flit p _ => p == port.val | _ => false) = true ∧
      (t.nport port.val).lastSlot = some s.now ∧ (t.nport port.val).state = (s.nport port.val).state ∧ Touches [.out, .nwl] s t)
  ∧ (∀ (port : Fin 6) (s : State), (s.linksRun = false ∨ ((s.nport port.val).state ≠ .up ∧ (s.nport port.val).state ≠ .align ∧
      (s.nport port.val).state ≠ .identify) ∨ (s.nport port.val).lastSlot.any (fun k => Nat.blt (s.since k) (flitPeriod (s.nport port.val).lanes)) = true) →
      exec (.flitSlot port) s = .next s)
  ∧ (∀ (port : Fin 6) (s : State), regFileWf s.reg = true → s.linksRun = true → (s.nport port.val).state = .up →
      (s.nport port.val).buffer ≠ [] → 500 * s.get (Fld.NWL_PORT_CFG_REPLAY_TMO port.val) ≤ s.since (s.nport port.val).advanced →
      (s.nport port.val).replays + 1 < s.get (Fld.NWL_PORT_CFG_REPLAY_MAX port.val) → ∃ t, exec (.replayTimeout port) s = .next t ∧
      (t.nport port.val).replay = some 0 ∧ (t.nport port.val).replays = (s.nport port.val).replays + 1 ∧
      (t.nport port.val).advanced = s.now ∧ (t.nport port.val).buffer = (s.nport port.val).buffer ∧
      t.get (Fld.NWL_REPLAY_CNT port.val) = min (s.get (Fld.NWL_REPLAY_CNT port.val) + 1) 0xFFFFFFFF ∧
      OnlyWords [(Fld.NWL_REPLAY_CNT port.val).off] s t ∧ Touches [.reg, .nwl] s t)
  ∧ (∀ (port : Fin 6) (s : State), regFileWf s.reg = true → s.linksRun = true → (s.nport port.val).state = .up →
      (s.nport port.val).buffer ≠ [] → 500 * s.get (Fld.NWL_PORT_CFG_REPLAY_TMO port.val) ≤ s.since (s.nport port.val).advanced →
      max 1 (s.get (Fld.NWL_PORT_CFG_REPLAY_MAX port.val)) ≤ (s.nport port.val).replays + 1 →
      ∃ t, exec (.replayTimeout port) s = .next t ∧ (t.nport port.val).state = .train ∨ (t.nport port.val).state = .retired ∧
      (t.nport port.val).since = s.now ∧ (t.nport port.val).buffer = [] ∧ (t.nport port.val).e = 0 ∧ (t.nport port.val).next = 0 ∧
      (t.nport port.val).o = 0 ∧ t.get (Fld.NWL_RETRAIN_CNT port.val) = min (s.get (Fld.NWL_RETRAIN_CNT port.val) + 1) 0xFFFFFFFF ∧
      t.get (Fld.NWL_REPLAY_CNT port.val) = min (s.get (Fld.NWL_REPLAY_CNT port.val) + 1) 0xFFFFFFFF ∧
      Touches [.freeCtr, .out, .reg, .host, .ops, .led, .strands, .grants, .frames, .content, .vit, .gth, .srv, .img, .nwl, .stk, .fab] s t)
  ∧ (∀ (port : Fin 6) (s : State), s.linksRun = false ∨ (s.nport port.val).state ≠ .up ∨ (s.nport port.val).buffer = [] ∨ s.since (s.nport port.val).advanced < 500 * s.get (Fld.NWL_PORT_CFG_REPLAY_TMO port.val) →
      exec (.replayTimeout port) s = .next s)
  ∧ (∀ (port : Fin 6) (swap : Bool) (s : State), s.linksRun = true → (s.nport port.val).state = .train →
      ∃ t, exec (.bringupStageDone port swap) s = .next t ∧ (t.nport port.val).state = .align ∧ (t.nport port.val).since = s.now ∧
      (t.nport port.val).lanes = (s.liveLanes port.val).length ∧ (∀ q < 6, q ≠ port.val → t.nport q = s.nport q) ∧ Touches [.nwl] s t)
  ∧ (∀ (port : Fin 6) (swap : Bool) (s : State), s.linksRun = true → (s.nport port.val).state = .align →
      ∃ t, exec (.bringupStageDone port swap) s = .next t ∧ (t.nport port.val).state = .identify ∧ (t.nport port.val).since = s.now ∧
      (t.nport port.val).lanes = (s.liveLanes port.val).length ∧
      (t.nport port.val).swap = (swap && decide ((s.liveLanes port.val).length = 2)) ∧ (t.nport port.val).laneFails = [] ∧
      Touches [.nwl] s t)
  ∧ (∀ (port : Fin 6) (swap : Bool) (s : State), (s.linksRun = false ∨ ((s.nport port.val).state ≠ .train ∧
      (s.nport port.val).state ≠ .align)) → exec (.bringupStageDone port swap) s = .next s)
  ∧ (∀ (port : Fin 6) (fail0 : Bool) (fail1 : Bool) (s : State), s.linksRun = true → (s.nport port.val).state = .train →
      250000000 < s.since (s.nport port.val).since → ∃ t, exec (.bringupTimeout port fail0 fail1) s = .next t ∧
      (t.nport port.val).state = .down ∨ (t.nport port.val).state = .retired ∧ (t.nport port.val).fault = 3 ∧
      (t.nport port.val).since = s.now ∧ t.get Fld.FLT_T_CNT = min (s.get Fld.FLT_T_CNT + 1) 0xFFFFFFFF ∧
      Touches [.freeCtr, .out, .reg, .host, .ops, .led, .strands, .grants, .frames, .content, .vit, .gth, .srv, .img, .nwl] s t)
  ∧ (∀ (port : Fin 6) (fail0 : Bool) (fail1 : Bool) (s : State), s.linksRun = true → (s.nport port.val).state = .align →
      100000 < s.since (s.nport port.val).since → ∃ t, exec (.bringupTimeout port fail0 fail1) s = .next t ∧
      (t.nport port.val).state = .down ∨ (t.nport port.val).state = .retired ∧ (t.nport port.val).fault = 4 ∧
      (t.nport port.val).since = s.now ∧ t.get Fld.FLT_T_CNT = min (s.get Fld.FLT_T_CNT + 1) 0xFFFFFFFF ∧
      Touches [.freeCtr, .out, .reg, .host, .ops, .led, .strands, .grants, .frames, .content, .vit, .gth, .srv, .img, .nwl] s t)
  ∧ (∀ (port : Fin 6) (fail0 : Bool) (fail1 : Bool) (s : State), s.linksRun = true → (s.nport port.val).state = .identify →
      (if (s.nport port.val).passed.isSome then 50000 else 25000) < s.since ((s.nport port.val).passed.getD (s.nport port.val).since) →
      ∃ t, exec (.bringupTimeout port fail0 fail1) s = .next t ∧ (t.nport port.val).state = .down ∨ (t.nport port.val).state = .retired ∧
      (t.nport port.val).passed = none ∧ (t.nport port.val).since = s.now ∧
      t.get Fld.FLT_T_CNT = min (s.get Fld.FLT_T_CNT + 1) 0xFFFFFFFF ∧
      Touches [.freeCtr, .out, .reg, .host, .ops, .led, .strands, .grants, .frames, .content, .vit, .gth, .srv, .img, .nwl] s t)
  ∧ (∀ (port : Fin 6) (fail0 : Bool) (fail1 : Bool) (s : State), (s.nport port.val).state = .train →
      s.since (s.nport port.val).since ≤ 250000000 → exec (.bringupTimeout port fail0 fail1) s = .next s)
  ∧ (∀ (port : Fin 6) (fail0 : Bool) (fail1 : Bool) (s : State), (s.nport port.val).state = .align →
      s.since (s.nport port.val).since ≤ 100000 → exec (.bringupTimeout port fail0 fail1) s = .next s)
  ∧ (∀ (port : Fin 6) (fail0 : Bool) (fail1 : Bool) (s : State), (s.linksRun = false ∨ ((s.nport port.val).state ≠ .train ∧
      (s.nport port.val).state ≠ .align ∧ (s.nport port.val).state ≠ .identify)) → exec (.bringupTimeout port fail0 fail1) s = .next s)
  ∧ (∀ (port : Fin 6) (s : State), s.linksRun = true → (s.nport port.val).state = .down → 50000000 ≤ s.since (s.nport port.val).since →
      (portLanes port.val).any s.laneTested = false → ∃ t, exec (.portRetryHold port) s = .next t ∧
      (t.nport port.val).state = (if (s.liveLanes port.val).isEmpty then .retired else .train) ∧ (t.nport port.val).since = s.now ∧
      Touches [.nwl] s t)
  ∧ (∀ (port : Fin 6) (s : State), s.linksRun = false ∨ (s.nport port.val).state ≠ .down ∨ s.since (s.nport port.val).since < 50000000 ∨ (portLanes port.val).any s.laneTested = true →
      exec (.portRetryHold port) s = .next s)
  ∧ (∀ (port : Fin 6) (s : State), regFileWf s.reg = true → s.blocksOpen = true → s.linksRun = true → s.portIsUp port.val = true →
      ∃ t, exec (.portRetrain port) s = .next t ∧ (t.nport port.val).state = .train ∨ (t.nport port.val).state = .retired ∧
      (t.nport port.val).since = s.now ∧ (t.nport port.val).buffer = [] ∧ (t.nport port.val).e = 0 ∧ (t.nport port.val).next = 0 ∧
      (t.nport port.val).o = 0 ∧ t.get (Fld.NWL_RETRAIN_CNT port.val) = min (s.get (Fld.NWL_RETRAIN_CNT port.val) + 1) 0xFFFFFFFF ∧
      Touches [.freeCtr, .out, .reg, .host, .ops, .led, .strands, .grants, .frames, .content, .vit, .gth, .srv, .img, .nwl, .stk, .fab] s t)
  ∧ (∀ (port : Fin 6) (s : State), s.blocksOpen = false ∨ s.linksRun = false ∨ s.portIsUp port.val = false →
      exec (.portRetrain port) s = .next s)

/-- O45. The origin: rounds, answers, waits, retries, pulls, catalogs. REPL_ROUND_START at the origin takes the next load from its queue,
with its REPL_ID, or starts the unicast rounds of a retry. An OK answer is noted once. REPL_WAIT_EXPIRY after REPL_WAIT_MS begins a retry
where a device is missing and retries are left; else it ends the load, with the delivered set and the counts of delivered and missed
devices. REPL_PULL is answered without changing what is kept. CATALOG_TIMER starts its period anew. Elsewhere, early, without a load or a
packet none of them changes anything. -/
def Obligations.OriginReplicates : Prop :=
  (∀ (l : ReplLoad) (s : State), s.flag Fld.FAB_STATE_ORIGIN = true → s.inFabric = true → s.stopped = false → s.fab.repl = none →
      s.fab.queue.head? = some l → ∃ t, exec .replRoundStart s = .next t ∧ t.fab.queue = s.fab.queue.tail ∧
      t.fab.repl = some ⟨l, 2, s.now, 0, []⟩ ∧ t.get Fld.FAB_REPL_ID = l.replId % 2 ^ 32 ∧ Touches [.reg, .nwl, .fab] s t)
  ∧ (∀ (r : Repl) (s : State), s.flag Fld.FAB_STATE_ORIGIN = true → s.inFabric = true → s.stopped = false → s.fab.repl = some r →
      r.phase = 3 → ∃ t, exec .replRoundStart s = .next t ∧ t.fab.repl = some { r with phase := 2, since := s.now } ∧
      t.fab.queue = s.fab.queue ∧ Touches [.reg, .nwl, .fab] s t)
  ∧ (∀ (s : State), s.flag Fld.FAB_STATE_ORIGIN = false ∨ s.inFabric = false ∨ s.stopped = true → exec .replRoundStart s = .next s)
  ∧ (∀ (s : State), s.fab.repl = none → s.fab.queue = [] → exec .replRoundStart s = .next s)
  ∧ (∀ (s : State), s.fab.repl.any (fun r => r.phase != 3) = true → exec .replRoundStart s = .next s)
  ∧ (∀ (p : Packet) (r : Repl) (s : State), s.fab.endpoint.head? = some p → p.ptype = 4 → s.fab.repl = some r →
      ∃ t, exec .replAck s = .next t ∧ t.fab.endpoint = s.fab.endpoint.tail ∧ t.fab.repl = some (if r.load.replId = le p.payload 0 4 ∧
      byteAt p.payload 4 = 0 ∧ r.ok.contains p.src = false then { r with ok := r.ok ++ [p.src] } else r) ∧ t.fab.queue = s.fab.queue ∧
      Touches [.fab] s t)
  ∧ (∀ (p : Packet) (s : State), s.fab.endpoint.head? = some p → p.ptype = 4 → s.fab.repl = none → ∃ t, exec .replAck s = .next t ∧
      t.fab.endpoint = s.fab.endpoint.tail ∧ t.fab = { s.fab with endpoint := s.fab.endpoint.tail } ∧ Touches [.fab] s t)
  ∧ (∀ (s : State), s.nextPacket 4 = none → exec .replAck s = .next s)
  ∧ (∀ (r : Repl) (s : State), s.fab.repl = some r → r.phase = 2 → 500000 * s.get Fld.FAB_REPL_TIME_REPL_WAIT_MS ≤ s.since r.since →
      (s.boxDevices (s.itemRset (replItem r.load))).filter (fun a => !r.ok.contains a) ≠ [] →
      r.tries < s.get Fld.FAB_REPL_CTL_REPL_RETRY → ∃ t, exec .replWaitExpiry s = .next t ∧
      t.fab = { s.fab with repl := some { r with phase := 3, tries := r.tries + 1 } } ∧ Touches [.fab] s t)
  ∧ (∀ (r : Repl) (s : State), s.fab.repl = some r → r.phase = 2 → 500000 * s.get Fld.FAB_REPL_TIME_REPL_WAIT_MS ≤ s.since r.since →
      (s.boxDevices (s.itemRset (replItem r.load))).filter (fun a => !r.ok.contains a) = [] ∨ s.get Fld.FAB_REPL_CTL_REPL_RETRY ≤ r.tries →
      ∃ t, exec .replWaitExpiry s = .next t ∧ t.fab.repl = none ∧
      t.get Fld.FAB_REPL_COUNT_MISSED = ((s.boxDevices (s.itemRset (replItem r.load))).filter (fun a => !r.ok.contains a)).length % 2 ^ 16 ∧
      t.get Fld.FAB_REPL_COUNT_DELIVERED = ((s.boxDevices (s.itemRset (replItem r.load))).length - ((s.boxDevices (s.itemRset (replItem r.load))).filter (fun a => !r.ok.contains a)).length) % 2 ^ 16 ∧
      (∀ a ∈ s.node :: r.ok, a < 65536 → bit (t.get (Fld.FAB_DELIV (a / 2 / 32))) (a / 2 % 32) = true) ∧
      Touches [.out, .reg, .host, .nwl, .fab] s t)
  ∧ (∀ (s : State), s.fab.repl.all (fun r => r.phase != 2 || Nat.blt (s.since r.since) (500000 * s.get Fld.FAB_REPL_TIME_REPL_WAIT_MS)) = true →
      exec .replWaitExpiry s = .next s)
  ∧ (∀ (p : Packet) (s : State), s.fab.endpoint.head? = some p → p.ptype = 5 →
      s.pullAnswer (byteAt p.payload 0) (byteAt p.payload 1) (le p.payload 4 4) = [] → ∃ t, exec .replPull s = .next t ∧
      t.fab.endpoint = s.fab.endpoint.tail ∧ t.fab.kept = s.fab.kept ∧
      (s.inFabric = false ∨ (s.box p.rset).any (fun b => inBox b p.src) = false →
      t.get Fld.FAB_NOROUTE_CNT = min (s.get Fld.FAB_NOROUTE_CNT + 1) 0xFFFFFFFF) ∧ (s.inFabric = true ∧
      (s.box p.rset).any (fun b => inBox b p.src) = true → t.get Fld.FAB_PKT_TX_CNT = min (s.get Fld.FAB_PKT_TX_CNT + 1) 0xFFFFFFFF) ∧
      Touches [.reg, .nwl, .fab] s t)
  ∧ (∀ (p : Packet) (s : State), s.fab.endpoint.head? = some p → p.ptype = 5 →
      s.pullAnswer (byteAt p.payload 0) (byteAt p.payload 1) (le p.payload 4 4) ≠ [] → ∃ t, exec .replPull s = .next t ∧
      t.fab.endpoint = s.fab.endpoint.tail ∧ t.fab.kept = s.fab.kept ∧ t.fab.repl = s.fab.repl ∧ Touches [.reg, .nwl, .fab] s t)
  ∧ (∀ (s : State), s.nextPacket 5 = none → exec .replPull s = .next s)
  ∧ (∀ (k : Nat) (s : State), s.flag Fld.FAB_STATE_ORIGIN = true → s.inFabric = true → s.stopped = false → s.fab.catalog = some k →
      500000 * s.get Fld.FAB_REPL_TIME_CATALOG_MS ≤ s.since k → ∃ t, exec .catalogTimer s = .next t ∧ t.fab.catalog = some s.now ∧
      t.fab.kept = s.fab.kept ∧ t.fab.repl = s.fab.repl ∧ Touches [.reg, .nwl, .fab] s t)
  ∧ (∀ (s : State), s.flag Fld.FAB_STATE_ORIGIN = false ∨ s.inFabric = false ∨ s.stopped = true ∨ s.fab.catalog.all (fun k => Nat.blt (s.since k) (500000 * s.get Fld.FAB_REPL_TIME_CATALOG_MS)) = true →
      exec .catalogTimer s = .next s)

/-- O46. A device that receives rounds: begin, fragments, end, pulls and targets. REPL_BEGIN of an unknown round reserves staging room and
opens the round as its payload says, or is answered NO_ROOM. REPL_DATA writes a fragment at its offset. REPL_END notes the end: a whole
round of another version becomes a load, one of the version in force is answered and dropped, another waits; 1 ms later a round with
fragments missing is answered and dropped. TARGET raises the target of every item that it names, and lowers none. REPL_PULL_TIMER of an
item below its target pulls and counts; REPL_FULL_NEEDED posts the event. Without such a packet nothing changes. -/
def Obligations.RoundsArrive : Prop :=
  (∀ (p : Packet) (s : State), s.fab.endpoint.head? = some p → p.ptype = 1 → s.round? p.xfer = none →
      (s.stageRoom (le p.payload 16 8)).isSome = true → ∃ t, exec .replBegin s = .next t ∧ t.fab.endpoint = s.fab.endpoint.tail ∧
      t.fab.rounds = s.fab.rounds ++ [⟨p.src, p.rset, ⟨p.xfer, byteAt p.payload 0, byteAt p.payload 1, le p.payload 4 4, le p.payload 8 4, slice p.payload 24 48, zeros (le p.payload 16 8)⟩, le p.payload 16 8, [], none⟩] ∧
      Touches [.reg, .nwl, .fab] s t)
  ∧ (∀ (p : Packet) (s : State), s.fab.endpoint.head? = some p → p.ptype = 1 → s.round? p.xfer = none →
      (s.stageRoom (le p.payload 16 8)).isSome = false → ∃ t, exec .replBegin s = .next t ∧ t.fab.endpoint = s.fab.endpoint.tail ∧
      t.fab.rounds = s.fab.rounds ∧ (s.inFabric = false ∨ (s.box p.rset).any (fun b => inBox b p.src) = false →
      t.get Fld.FAB_NOROUTE_CNT = min (s.get Fld.FAB_NOROUTE_CNT + 1) 0xFFFFFFFF) ∧ (s.inFabric = true ∧
      (s.box p.rset).any (fun b => inBox b p.src) = true → t.get Fld.FAB_PKT_TX_CNT = min (s.get Fld.FAB_PKT_TX_CNT + 1) 0xFFFFFFFF) ∧
      Touches [.reg, .nwl, .fab] s t)
  ∧ (∀ (p : Packet) (s : State), s.fab.endpoint.head? = some p → p.ptype = 1 → (s.round? p.xfer).isSome = true →
      ∃ t, exec .replBegin s = .next t ∧ t.fab.endpoint = s.fab.endpoint.tail ∧ t.reg = s.reg ∧
      t.fab = { s.fab with endpoint := s.fab.endpoint.tail } ∧ Touches [.reg, .nwl, .fab] s t)
  ∧ (∀ (s : State), s.nextPacket 1 = none → exec .replBegin s = .next s)
  ∧ (∀ (p : Packet) (s : State), s.fab.endpoint.head? = some p → p.ptype = 2 → s.round? p.xfer = none → ∃ t, exec .replData s = .next t ∧
      t.fab.endpoint = s.fab.endpoint.tail ∧ t.fab = { s.fab with endpoint := s.fab.endpoint.tail } ∧ Touches [.fab] s t)
  ∧ (∀ (p : Packet) (r : Round) (s : State), s.fab.endpoint.head? = some p → p.ptype = 2 → s.round? p.xfer = some r →
      p.offset + p.payload.length ≤ r.totalLen → r.parts.contains (p.offset, p.payload.length) = false → r.ended = none →
      ∃ t, exec .replData s = .next t ∧ t.fab.endpoint = s.fab.endpoint.tail ∧
      t.round? p.xfer = some { r with parts := r.parts ++ [(p.offset, p.payload.length)], load := { r.load with content := overwrite r.load.content p.offset p.payload } } ∧
      t.fab.rounds.length = s.fab.rounds.length ∧ Touches [.fab] s t)
  ∧ (∀ (s : State), s.nextPacket 2 = none → exec .replData s = .next s)
  ∧ (∀ (p : Packet) (r : Round) (s : State), s.fab.endpoint.head? = some p → p.ptype = 3 → s.round? p.xfer = some r →
      roundWhole r = false → ∃ t, exec .replEnd s = .next t ∧ t.fab.endpoint = s.fab.endpoint.tail ∧
      t.round? p.xfer = some { r with ended := some (r.ended.getD s.now) } ∧ Touches [.fab] s t)
  ∧ (∀ (p : Packet) (r : Round) (k : ContentKind) (s : State), s.fab.endpoint.head? = some p → p.ptype = 3 → s.round? p.xfer = some r →
      roundWhole r = true → kindOfCode r.load.kind = some k → r.load.index < kindSize k →
      k ≠ .table ∨ s.flag (Fld.VIT_TABLE_CFG_EN r.load.index) = true → k ≠ .graph ∨ s.hasGeometry r.load.index = true →
      s.itemVersion k r.load.index ≠ r.load.version → s.host.loads.any (fun l => l.source == .round r.load.replId) = false →
      ∃ t, exec .replEnd s = .next t ∧ t.fab.endpoint = s.fab.endpoint.tail ∧
      t.host.loads = s.host.loads ++ [⟨s.host.nextLoad, .round r.load.replId, k, r.load.index, r.load.version, r.totalLen, r.load.digest, .waiting, 0, r.load.content, 0, 0, true⟩] ∧
      t.host.nextLoad = s.host.nextLoad + 1 ∧ (t.round? p.xfer).isSome = true ∧ Touches [.host, .fab] s t)
  ∧ (∀ (p : Packet) (r : Round) (k : ContentKind) (s : State), s.fab.endpoint.head? = some p → p.ptype = 3 → s.round? p.xfer = some r →
      roundWhole r = true → kindOfCode r.load.kind = some k → r.load.index < kindSize k →
      k ≠ .table ∨ s.flag (Fld.VIT_TABLE_CFG_EN r.load.index) = true → k ≠ .graph ∨ s.hasGeometry r.load.index = true →
      s.itemVersion k r.load.index = r.load.version → ∃ t, exec .replEnd s = .next t ∧ t.fab.endpoint = s.fab.endpoint.tail ∧
      t.round? p.xfer = none ∧ t.host = s.host ∧ Touches [.reg, .host, .nwl, .fab] s t)
  ∧ (∀ (p : Packet) (r : Round) (s : State), s.fab.endpoint.head? = some p → p.ptype = 3 → s.round? p.xfer = some r →
      roundWhole r = true → kindOfCode r.load.kind = none → ∃ t, exec .replEnd s = .next t ∧ t.fab.endpoint = s.fab.endpoint.tail ∧
      t.round? p.xfer = none ∧ t.host = s.host ∧ Touches [.reg, .host, .nwl, .fab] s t)
  ∧ (∀ (s : State), s.nextPacket 3 = none → exec .replEnd s = .next s)
  ∧ (∀ (replId : Word) (r : Round) (k : Nat) (s : State), s.round? replId.toNat = some r → r.ended = some k → roundWhole r = false →
      500000 ≤ s.since k → ∃ t, exec (.replFragmentWait replId) s = .next t ∧
      t.fab.rounds = s.fab.rounds.filter (fun x => x.load.replId != replId.toNat) ∧ Touches [.reg, .nwl, .fab] s t)
  ∧ (∀ (replId : Word) (s : State), (s.round? replId.toNat).all (fun r => roundWhole r || r.ended.all (fun k => Nat.blt (s.since k) 500000)) = true →
      exec (.replFragmentWait replId) s = .next s)
  ∧ (∀ (p : Packet) (s : State), s.fab.endpoint.head? = some p → p.ptype = 7 → ∃ t, exec .target s = .next t ∧
      t.fab.endpoint = s.fab.endpoint.tail ∧
      (∀ e ∈ (chunks 8 (p.payload.drop 4)).take (le p.payload 0 4), ∀ k ∈ (kindOfCode (byteAt e 0)).toList, byteAt e 1 < kindSize k →
      le e 4 4 ≤ t.itemTarget (itemNo k (byteAt e 1))) ∧ (∀ n < itemCount, s.itemTarget n ≤ t.itemTarget n) ∧
      Touches [.out, .reg, .host, .strands, .frames, .gth, .srv, .img, .fab] s t)
  ∧ (∀ (s : State), s.nextPacket 7 = none → exec .target s = .next s)
  ∧ (∀ (item : Fin 180) (s : State), s.inFabric = true → s.stopped = false → s.flag Fld.FAB_STATE_ORIGIN = false →
      (Tab.get? s.fab.below item.val).isSome = true → (Tab.get? s.fab.pulls item.val).all (fun k => Nat.ble 50000000 (s.since k)) = true →
      ∃ t, exec (.replPullTimer item) s = .next t ∧ t.get Fld.FAB_PULL_CNT = min (s.get Fld.FAB_PULL_CNT + 1) 0xFFFFFFFF ∧
      Tab.get? t.fab.pulls item.val = some s.now ∧ t.fab.below = s.fab.below ∧ Touches [.reg, .nwl, .fab] s t)
  ∧ (∀ (item : Fin 180) (s : State), s.inFabric = false ∨ s.stopped = true ∨ s.flag Fld.FAB_STATE_ORIGIN = true ∨ Tab.get? s.fab.below item.val = none ∨ (Tab.get? s.fab.pulls item.val).any (fun k => Nat.blt (s.since k) 50000000) = true →
      exec (.replPullTimer item) s = .next s)
  ∧ (∀ (p : Packet) (k : ContentKind) (s : State), s.fab.endpoint.head? = some p → p.ptype = 6 →
      kindOfCode (byteAt p.payload 0) = some k → ∃ t, exec .replFullNeeded s = .next t ∧ t.fab.endpoint = s.fab.endpoint.tail ∧
      t = ({ s with fab := { s.fab with endpoint := s.fab.endpoint.tail } }).event 0x0088 (itemSource k (byteAt p.payload 1)) [s.itemVersion k (byteAt p.payload 1), le p.payload 4 4] ∧
      Touches [.out, .reg, .host, .fab] s t)
  ∧ (∀ (p : Packet) (s : State), s.fab.endpoint.head? = some p → p.ptype = 6 → kindOfCode (byteAt p.payload 0) = none →
      ∃ t, exec .replFullNeeded s = .next t ∧ t.fab.endpoint = s.fab.endpoint.tail ∧
      t.fab = { s.fab with endpoint := s.fab.endpoint.tail } ∧ Touches [.fab] s t)
  ∧ (∀ (s : State), s.nextPacket 6 = none → exec .replFullNeeded s = .next s)

/-- O47. ACK, ECHO, rates, resends, escapes, idle flows. An ACK ends the wait of the packet that it names, and of no other. An ECHO
multiplies the rate of its flow down, not below R_MIN, at most once per DEC_GAP_US, counts it and sets its bit of TID_SAT_STATUS;
RATE_INCREASE adds AI, not above R_MAX, INC_US after the last change. FLOW_IDLE frees a flow that has sent nothing for 1 ms. No ACK 200 µs
after a send: the packet is sent again, at most three times, then it has failed; both are counted. ESCAPE_TIMEOUT takes a packet that has
waited ESC_WAIT_NS out of those that wait. Otherwise none of them changes anything. -/
def Obligations.PacketsAcked : Prop :=
  (∀ (p : Packet) (s : State), s.fab.endpoint.head? = some p → p.ptype = 12 → ∃ t, exec .ack s = .next t ∧
      t.fab.endpoint = s.fab.endpoint.tail ∧ (∀ u ∈ t.fab.unacked, ¬(u.packet.msgId = le p.payload 0 4 ∧ u.packet.dest = p.src)) ∧
      (∀ u ∈ s.fab.unacked, ¬(u.packet.msgId = le p.payload 0 4 ∧ u.packet.dest = p.src) → ∃ v ∈ t.fab.unacked, v.packet = u.packet) ∧
      Touches [.reg, .nwl, .fab] s t)
  ∧ (∀ (s : State), s.nextPacket 12 = none → exec .ack s = .next s)
  ∧ (∀ (p : Packet) (f : Flow) (s : State), regFileWf s.reg = true → s.fab.endpoint.head? = some p → p.ptype = 13 →
      s.flow? p.src = some f → f.lastDec.all (fun k => Nat.ble (500 * s.get Fld.FAB_RATE_B_DEC_GAP_US) (s.since k)) = true →
      ∃ t, exec .echo s = .next t ∧ t.fab.endpoint = s.fab.endpoint.tail ∧
      (t.flow? p.src).map (fun g => g.rate) = some (max (s.get Fld.FAB_RATE_A_R_MIN) (f.rate * (16 - s.get Fld.FAB_RATE_A_MD) / 16)) ∧
      (t.flow? p.src).map (fun g => (g.lastDec, g.incTick)) = some (some s.now, s.now) ∧
      t.get Fld.FAB_RATE_DEC_CNT = min (s.get Fld.FAB_RATE_DEC_CNT + 1) 0xFFFFFFFF ∧
      t.get Fld.TID_SAT_STATUS = s.get Fld.TID_SAT_STATUS ||| 8 ∧ OnlyWords [Fld.FAB_RATE_DEC_CNT.off, Fld.TID_SAT_STATUS.off] s t ∧
      Touches [.reg, .fab] s t)
  ∧ (∀ (p : Packet) (s : State), s.fab.endpoint.head? = some p → p.ptype = 13 →
      (s.flow? p.src).all (fun f => f.lastDec.any (fun k => Nat.blt (s.since k) (500 * s.get Fld.FAB_RATE_B_DEC_GAP_US))) = true →
      ∃ t, exec .echo s = .next t ∧ t.fab.endpoint = s.fab.endpoint.tail ∧ t.fab = { s.fab with endpoint := s.fab.endpoint.tail } ∧
      Touches [.fab] s t)
  ∧ (∀ (s : State), s.nextPacket 13 = none → exec .echo s = .next s)
  ∧ (∀ (node : BitVec 16) (f : Flow) (s : State), s.flow? node.toNat = some f → 500 * s.get Fld.FAB_RATE_B_INC_US ≤ s.since f.incTick →
      ∃ t, exec (.rateIncrease node) s = .next t ∧
      (t.flow? node.toNat).map (fun g => (g.rate, g.incTick)) = some (min (s.get Fld.FAB_RATE_A_R_MAX) (f.rate + s.get Fld.FAB_RATE_A_AI), s.now) ∧
      t.fab.flows.length = s.fab.flows.length ∧ (∀ g ∈ s.fab.flows, g.node ≠ f.node → g ∈ t.fab.flows) ∧ t.fab.outbox = s.fab.outbox ∧
      Touches [.fab] s t)
  ∧ (∀ (node : BitVec 16) (s : State), (s.flow? node.toNat).all (fun f => Nat.blt (s.since f.incTick) (500 * s.get Fld.FAB_RATE_B_INC_US)) = true →
      exec (.rateIncrease node) s = .next s)
  ∧ (∀ (node : BitVec 16) (f : Flow) (s : State), s.flow? node.toNat = some f → 500000 ≤ s.since f.lastSend →
      ∃ t, exec (.flowIdle node) s = .next t ∧ (t.flow? node.toNat).all (fun g => g.lastSend == s.now) = true ∧ (s.fab.outbox = [] →
      t.fab = { s.fab with flows := s.fab.flows.filter (fun g => g.node != f.node) }) ∧ Touches [.reg, .nwl, .fab] s t)
  ∧ (∀ (node : BitVec 16) (s : State), (s.flow? node.toNat).all (fun f => Nat.blt (s.since f.lastSend) 500000) = true →
      exec (.flowIdle node) s = .next s)
  ∧ (∀ (msgId : Word) (u : Unacked) (s : State), s.fab.unacked.find? (fun u => u.packet.msgId == msgId.toNat) = some u →
      100000 ≤ s.since u.sent → u.tries < 3 → ∃ t, exec (.e2eResendTimeout msgId) s = .next t ∧
      (t.fab.unacked.find? (fun v => v.packet.msgId == msgId.toNat)).map (fun v => (v.packet, v.sent, v.tries)) = some (u.packet, s.now, u.tries + 1) ∧
      t.get Fld.FAB_E2E_RETRY_CNT = min (s.get Fld.FAB_E2E_RETRY_CNT + 1) 0xFFFFFFFF ∧ t.fab.endpoint = s.fab.endpoint ∧
      Touches [.reg, .nwl, .fab] s t)
  ∧ (∀ (msgId : Word) (u : Unacked) (s : State), regFileWf s.reg = true →
      s.fab.unacked.find? (fun u => u.packet.msgId == msgId.toNat) = some u → 100000 ≤ s.since u.sent → 3 ≤ u.tries →
      ∃ t, exec (.e2eResendTimeout msgId) s = .next t ∧ (∀ v ∈ t.fab.unacked, v.packet.msgId ≠ msgId.toNat) ∧
      (∀ v ∈ t.fab.outbox, v.msgId ≠ msgId.toNat) ∧ t.get Fld.FAB_E2E_FAIL_CNT = min (s.get Fld.FAB_E2E_FAIL_CNT + 1) 0xFFFFFFFF ∧
      Touches [.out, .reg, .host, .srv, .nwl, .fab] s t)
  ∧ (∀ (msgId : Word) (s : State), (s.fab.unacked.find? (fun u => u.packet.msgId == msgId.toNat)).all (fun u => Nat.blt (s.since u.sent) 100000) = true →
      exec (.e2eResendTimeout msgId) s = .next s)
  ∧ (∀ (index : Nat) (x : Transit) (s : State), s.fab.transits[index]? = some x → s.get Fld.FAB_ESC ≤ 2 * s.since x.since →
      ∃ t, exec (.escapeTimeout index) s = .next t ∧ t.fab.transits = s.fab.transits.take index ++ s.fab.transits.drop (index + 1) ∧
      t.fab.endpoint = s.fab.endpoint ∧ Touches [.reg, .nwl, .fab] s t)
  ∧ (∀ (index : Nat) (x : Transit) (s : State), s.fab.transits[index]? = some x → 2 * s.since x.since < s.get Fld.FAB_ESC →
      exec (.escapeTimeout index) s = .next s)
  ∧ (∀ (index : Nat) (s : State), s.fab.transits[index]? = none → exec (.escapeTimeout index) s = .next s)

/-- O48. Causeways come and go; entries of the Archive between devices. CW_SETUP_RETRY at the source of a Causeway that is not OPEN, every
100 ms, sets it up anew; CW_SETUP arms the slots of a node on its path or is confirmed by the last; CW_CONFIRM opens it, CW_DOWN marks it
down. ARCH_PUT stores a part of a peer's entry, or drops the entry for want of room and says so; ARCH_GET sends and deletes the entry of
its request and frame, or says MISSING; ARCH_DATA adds a part to a fetched entry; ARCH_STATUS ends a move, takes it back, or ends a fetch.
Without such a packet nothing changes. It rests on what the model chose in log entry 47. -/
def Obligations.CausewaysAndPeers : Prop :=
  (∀ (causeway : Fin 64) (e : Bytes) (s : State), s.cwEntry causeway.val = some e → s.inFabric = true → s.stopped = false →
      le e 2 2 = s.node → (s.causeway causeway.val).state ≠ 2 →
      (s.causeway causeway.val).state = 0 ∨ 50000000 ≤ s.since (s.causeway causeway.val).setup → s.portIsUp (byteAt e 4) = true →
      ∃ t, exec (.cwSetupRetry causeway) s = .next t ∧ (t.causeway causeway.val).state = 1 ∧ (t.causeway causeway.val).setup = s.now ∧
      ((s.cwNext e).isSome = true → (t.causeway causeway.val).armed = true) ∧ Touches [.reg, .nwl, .fab] s t)
  ∧ (∀ (causeway : Fin 64) (s : State), (s.cwEntry causeway.val = none ∨ s.inFabric = false ∨ s.stopped = true ∨ (s.causeway causeway.val).state = 2 ∨ ((s.causeway causeway.val).state ≠ 0 ∧
      s.since (s.causeway causeway.val).setup < 50000000)) → exec (.cwSetupRetry causeway) s = .next s)
  ∧ (∀ (p : Packet) (e : Bytes) (s : State), s.fab.endpoint.head? = some p → p.ptype = 14 → s.cwEntry (byteAt p.payload 0) = some e →
      ((cwPath s.man e).getD []).getLast? = some s.node → ∃ t, exec .cwSetup s = .next t ∧ t.fab.endpoint = s.fab.endpoint.tail ∧
      t.fab.causeways = s.fab.causeways ∧ (s.inFabric = false →
      t.get Fld.FAB_NOROUTE_CNT = min (s.get Fld.FAB_NOROUTE_CNT + 1) 0xFFFFFFFF) ∧ Touches [.reg, .nwl, .fab] s t)
  ∧ (∀ (p : Packet) (e : Bytes) (s : State), s.fab.endpoint.head? = some p → p.ptype = 14 → s.cwEntry (byteAt p.payload 0) = some e →
      ((cwPath s.man e).getD []).getLast? ≠ some s.node → s.cwNext e ≠ none → s.portIsUp (byteAt e 4) = true →
      ∃ t, exec .cwSetup s = .next t ∧ t.fab.endpoint = s.fab.endpoint.tail ∧ (t.causeway (byteAt e 0)).armed = true ∧
      (t.causeway (byteAt e 0)).state = (s.causeway (byteAt e 0)).state ∧ Touches [.reg, .nwl, .fab] s t)
  ∧ (∀ (p : Packet) (s : State), s.fab.endpoint.head? = some p → p.ptype = 14 → s.cwEntry (byteAt p.payload 0) = none →
      ∃ t, exec .cwSetup s = .next t ∧ t.fab.endpoint = s.fab.endpoint.tail ∧ t.fab = { s.fab with endpoint := s.fab.endpoint.tail } ∧
      t.reg = s.reg ∧ Touches [.reg, .nwl, .fab] s t)
  ∧ (∀ (s : State), s.nextPacket 14 = none → exec .cwSetup s = .next s)
  ∧ (∀ (p : Packet) (s : State), s.fab.endpoint.head? = some p → p.ptype = 15 → (s.causeway (byteAt p.payload 0)).state = 1 →
      ∃ t, exec .cwConfirm s = .next t ∧ t.fab.endpoint = s.fab.endpoint.tail ∧ (t.causeway (byteAt p.payload 0)).state = 2 ∧
      (t.causeway (byteAt p.payload 0)).armed = (s.causeway (byteAt p.payload 0)).armed ∧ Touches [.out, .reg, .host, .fab] s t)
  ∧ (∀ (p : Packet) (s : State), s.fab.endpoint.head? = some p → p.ptype = 15 → (s.causeway (byteAt p.payload 0)).state ≠ 1 →
      ∃ t, exec .cwConfirm s = .next t ∧ t.fab.endpoint = s.fab.endpoint.tail ∧ t.fab = { s.fab with endpoint := s.fab.endpoint.tail } ∧
      Touches [.fab] s t)
  ∧ (∀ (s : State), s.nextPacket 15 = none → exec .cwConfirm s = .next s)
  ∧ (∀ (p : Packet) (s : State), s.fab.endpoint.head? = some p → p.ptype = 16 →
      (s.causeway (byteAt p.payload 0)).state = 1 ∨ (s.causeway (byteAt p.payload 0)).state = 2 → ∃ t, exec .cwDown s = .next t ∧
      t.fab.endpoint = s.fab.endpoint.tail ∧ (t.causeway (byteAt p.payload 0)).state = 3 ∧ Touches [.out, .reg, .host, .fab] s t)
  ∧ (∀ (p : Packet) (s : State), s.fab.endpoint.head? = some p → p.ptype = 16 → (s.causeway (byteAt p.payload 0)).state ≠ 1 →
      (s.causeway (byteAt p.payload 0)).state ≠ 2 → ∃ t, exec .cwDown s = .next t ∧ t.fab.endpoint = s.fab.endpoint.tail ∧
      t.fab = { s.fab with endpoint := s.fab.endpoint.tail } ∧ Touches [.fab] s t)
  ∧ (∀ (s : State), s.nextPacket 16 = none → exec .cwDown s = .next s)
  ∧ (∀ (p : Packet) (s : State), s.fab.endpoint.head? = some p → p.ptype = 8 → s.archiveRoom p.payload.length = true →
      ∃ t, exec .archPut s = .next t ∧ t.fab.endpoint = s.fab.endpoint.tail ∧ (∃ e ∈ t.srv.archive, e.owner = some p.src ∧
      e.reqId = p.xfer ∧ e.parts.any (fun x => x.1 == p.offset) = true) ∧
      (∀ e ∈ s.srv.archive, (s.storedFor p.src p.xfer).map (fun x => x.key) ≠ some e.key → e.key ≠ s.srv.nextEntry → e ∈ t.srv.archive) ∧
      Touches [.reg, .srv, .nwl, .fab] s t)
  ∧ (∀ (p : Packet) (s : State), s.fab.endpoint.head? = some p → p.ptype = 8 → s.archiveRoom p.payload.length = false →
      ∃ t, exec .archPut s = .next t ∧ t.fab.endpoint = s.fab.endpoint.tail ∧ (∀ e ∈ t.srv.archive, e ∈ s.srv.archive) ∧
      (∀ x ∈ (s.storedFor p.src p.xfer).toList, ∀ e ∈ t.srv.archive, e.key ≠ x.key) ∧
      (s.inFabric = false ∨ (s.box p.rset).any (fun b => inBox b p.src) = false →
      t.get Fld.FAB_NOROUTE_CNT = min (s.get Fld.FAB_NOROUTE_CNT + 1) 0xFFFFFFFF) ∧ (s.inFabric = true ∧
      (s.box p.rset).any (fun b => inBox b p.src) = true → t.get Fld.FAB_PKT_TX_CNT = min (s.get Fld.FAB_PKT_TX_CNT + 1) 0xFFFFFFFF) ∧
      Touches [.reg, .srv, .nwl, .fab] s t)
  ∧ (∀ (s : State), s.nextPacket 8 = none → exec .archPut s = .next s)
  ∧ (∀ (p : Packet) (e : ArchEntry) (s : State), s.fab.endpoint.head? = some p → p.ptype = 9 →
      s.storedFor p.src (le p.payload 0 4) = some e → e.frameId = le p.payload 4 8 → entryWhole e = true →
      e.expire.any (fun k => s.reached k) = false → ∃ t, exec .archGet s = .next t ∧ t.fab.endpoint = s.fab.endpoint.tail ∧
      t.srv.archive = s.srv.archive.filter (fun x => x.key != e.key) ∧ t.srv.requests = s.srv.requests ∧
      Touches [.reg, .srv, .nwl, .fab] s t)
  ∧ (∀ (p : Packet) (s : State), s.fab.endpoint.head? = some p → p.ptype = 9 →
      (s.storedFor p.src (le p.payload 0 4)).all (fun e => e.frameId != le p.payload 4 8 || !entryWhole e || e.expire.any (fun k => s.reached k)) = true →
      ∃ t, exec .archGet s = .next t ∧ t.fab.endpoint = s.fab.endpoint.tail ∧ t.srv = s.srv ∧
      (s.inFabric = false ∨ (s.box p.rset).any (fun b => inBox b p.src) = false →
      t.get Fld.FAB_NOROUTE_CNT = min (s.get Fld.FAB_NOROUTE_CNT + 1) 0xFFFFFFFF) ∧ (s.inFabric = true ∧
      (s.box p.rset).any (fun b => inBox b p.src) = true → t.get Fld.FAB_PKT_TX_CNT = min (s.get Fld.FAB_PKT_TX_CNT + 1) 0xFFFFFFFF) ∧
      Touches [.reg, .srv, .nwl, .fab] s t)
  ∧ (∀ (s : State), s.nextPacket 9 = none → exec .archGet s = .next s)
  ∧ (∀ (p : Packet) (e : ArchEntry) (s : State), s.fab.endpoint.head? = some p → p.ptype = 10 → s.remoteEntry p.xfer = some e →
      p.offset + p.payload.length ≤ e.size → ∃ t, exec .archData s = .next t ∧ t.fab.endpoint = s.fab.endpoint.tail ∧
      (∀ x ∈ t.srv.archive, x.key = e.key → x.parts.any (fun y => y.1 == p.offset) = true) ∧ (∀ x ∈ s.srv.archive, x.key ≠ e.key →
      x ∈ t.srv.archive) ∧ t.srv.requests = s.srv.requests ∧ Touches [.srv, .fab] s t)
  ∧ (∀ (p : Packet) (s : State), s.fab.endpoint.head? = some p → p.ptype = 10 →
      (s.remoteEntry p.xfer).all (fun e => Nat.blt e.size (p.offset + p.payload.length)) = true → ∃ t, exec .archData s = .next t ∧
      t.fab.endpoint = s.fab.endpoint.tail ∧ t.fab = { s.fab with endpoint := s.fab.endpoint.tail } ∧ Touches [.fab] s t)
  ∧ (∀ (s : State), s.nextPacket 10 = none → exec .archData s = .next s)
  ∧ (∀ (p : Packet) (e : ArchEntry) (r : Request) (k : Nat) (s : State), regFileWf s.reg = true → s.fab.endpoint.head? = some p →
      p.ptype = 11 → s.remoteEntry (le p.payload 0 4) = some e → s.entryRequest e.key = some r → r.place = .moving k →
      le p.payload 4 4 = 0 → r.state ≠ .ended → ∃ t, exec .archStatus s = .next t ∧ t.fab.endpoint = s.fab.endpoint.tail ∧
      t.get Fld.SRV_ARCH_OUT_CNT = min (s.get Fld.SRV_ARCH_OUT_CNT + 1) 0xFFFFFFFF ∧
      (t.request? r.slot).map (fun x => x.place) = some (.archived e.key) ∧ (∀ x ∈ t.srv.archive, x.key = e.key →
      x.expire.isSome = true) ∧ Touches [.reg, .srv, .fab] s t)
  ∧ (∀ (p : Packet) (e : ArchEntry) (r : Request) (k : Nat) (s : State), s.fab.endpoint.head? = some p → p.ptype = 11 →
      s.remoteEntry (le p.payload 0 4) = some e → s.entryRequest e.key = some r → r.place = .moving k → le p.payload 4 4 = 1 →
      ∃ t, exec .archStatus s = .next t ∧ t.fab.endpoint = s.fab.endpoint.tail ∧ (t.request? r.slot).map (fun x => x.place) = some .hbm ∧
      t.srv.archive = s.srv.archive.filter (fun x => x.key != e.key) ∧ Touches [.srv, .fab] s t)
  ∧ (∀ (p : Packet) (e : ArchEntry) (r : Request) (k : Nat) (n : Nat) (s : State), s.fab.endpoint.head? = some p → p.ptype = 11 →
      s.remoteEntry (le p.payload 0 4) = some e → s.entryRequest e.key = some r → r.place = .reading k n → le p.payload 4 4 = 2 →
      ∃ t, exec .archStatus s = .next t ∧ t.fab.endpoint = s.fab.endpoint.tail ∧ (t.request? r.slot).map (fun x => x.place) = some .hbm ∧
      t.srv.archive = s.srv.archive.filter (fun x => x.key != e.key) ∧ Touches [.reg, .srv, .fab] s t)
  ∧ (∀ (p : Packet) (s : State), s.fab.endpoint.head? = some p → p.ptype = 11 → s.remoteEntry (le p.payload 0 4) = none →
      ∃ t, exec .archStatus s = .next t ∧ t.fab.endpoint = s.fab.endpoint.tail ∧ t.fab = { s.fab with endpoint := s.fab.endpoint.tail } ∧
      Touches [.fab] s t)
  ∧ (∀ (s : State), s.nextPacket 11 = none → exec .archStatus s = .next s)

/-- O49. A step runs the command at the front of the queue. For every command c, queue and state: a step with c at the front is exec of c
on the state with the rest of the queue, whatever it answers. -/
def Obligations.StepRunsTheFront : Prop :=
  ∀ (c : Instr) (rest : List Instr) (s : State), s.pending = c :: rest → step s = exec c { s with pending := rest }

/-- O50. On an empty queue a step is a moment of time. The model's choice (log entry 1): with no command waiting a step answers a next
state. While VAON is present the tide counter has advanced by 1, or by 20 before the PLL locks, modulo 2^64; without VAON nothing changes.
The queue, the frames, the log and every register word but THM_THROTTLE_US stay as they were. -/
def Obligations.EmptyQueueIsTime : Prop :=
  ∀ s : State, s.pending = [] → ∃ t, step s = .next t
    ∧ (s.img.vaon = true → t.now = (s.now + (if s.flag Fld.TID_TB_STATE_PLL_LOCKED then 1 else 20)) % 2 ^ 64)
    ∧ (s.img.vaon = false → t = s)
    ∧ t.pending = [] ∧ OnlyWords [Fld.THM_THROTTLE_US.off] s t ∧ Touches [.now, .reg] s t

/-- O51. What reset leaves. After reset the tide counter is 0, no command waits, no frame, stream, content, flow, round, queue entry or
kept load is there, every Strand is in OFF, every fabric target is 0, every Causeway is IDLE, FAB_DELIV is 0, SEQ, E, O and the TAG
counter are 0, every replay buffer is empty, and REPLAY_TMO, REPLAY_MAX, CATALOG_MS, REPL_WAIT_MS, ESC_WAIT_NS, R_MAX and R_MIN read the
reset values of their tables. -/
def Obligations.ResetHolds : Prop :=
  State.reset.now = 0 ∧ State.reset.pending = [] ∧ State.reset.frames = [] ∧ State.reset.streams = [] ∧ State.reset.content = []
    ∧ (∀ i < 32, State.reset.strandState i = .off)
    ∧ State.reset.fab.flows = [] ∧ State.reset.fab.rounds = [] ∧ State.reset.fab.queue = [] ∧ State.reset.fab.kept = []
    ∧ (∀ n < itemCount, State.reset.itemTarget n = 0) ∧ (∀ k < 64, (State.reset.causeway k).state = 0)
    ∧ (∀ i < 1024, State.reset.get (Fld.FAB_DELIV i) = 0)
    ∧ (∀ q < 6, (State.reset.nport q).next = 0 ∧ (State.reset.nport q).e = 0 ∧ (State.reset.nport q).o = 0
        ∧ (State.reset.nport q).buffer = [] ∧ (State.reset.nport q).state = .down)
    ∧ State.reset.stk.nextTag = 0
    ∧ (∀ q < 6, State.reset.get (Fld.NWL_PORT_CFG_REPLAY_TMO q) = 4 ∧ State.reset.get (Fld.NWL_PORT_CFG_REPLAY_MAX q) = 8)
    ∧ State.reset.get Fld.FAB_REPL_TIME_CATALOG_MS = 1000 ∧ State.reset.get Fld.FAB_REPL_TIME_REPL_WAIT_MS = 100
    ∧ State.reset.get Fld.FAB_ESC = 1000 ∧ State.reset.get Fld.FAB_RATE_A_R_MAX = 100 ∧ State.reset.get Fld.FAB_RATE_A_R_MIN = 2

/-- O52. The invariant holds at reset. At reset the register file is in canonical form, there are 32 Strands and two NVM banks, and the
contents of both banks are in canonical form. -/
def Obligations.InvariantAtReset : Prop :=
  State.reset.Inv

/-- O53. Every step keeps the invariant. For every state with the invariant, whatever command is at the front of its queue or none: if a
step answers a next state, the invariant holds of that state: the register file is in canonical form, there are 32 Strands and two NVM
banks, and both banks' contents are in canonical form. -/
def Obligations.InvariantKept : Prop :=
  ∀ s t : State, s.Inv → step s = .next t → t.Inv

/-- O54. No command touches the queue, and the log only grows. For every command and state: if exec answers a next state, the queue is as
it was, the outputs seen before are still there, in the same order, behind the new ones, and the counter of free values has not gone back.
-/
def Obligations.CommandsKeepQueueAndLog : Prop :=
  ∀ (c : Instr) (s t : State), exec c s = .next t →
    t.pending = s.pending ∧ (∃ new, t.out = new ++ s.out) ∧ s.freeCtr ≤ t.freeCtr

/-- O55. A wheel gives every competitor as many slots as its share. For shares that fit a wheel of 256 slots, whatever free value the
model takes for the assignment (log entry 8): competitor i owns as many slots as its share, and no slot belongs to anybody but a
competitor. -/
def Obligations.WheelSharesKept : Prop :=
  ∀ shares : List Nat, sumBy shares (fun a => a) ≤ 256 →
    (∀ i < shares.length, ((upto 256).filter (fun k => wheelSlotOwner shares k == some i)).length = shares.getD i 0)
    ∧ (∀ k < 256, ∀ i, wheelSlotOwner shares k = some i → i < shares.length)

/-- O56. What a sensor's raw code converts to. For every sensor whose trim block is there, with its SLOPE and OFFSET as stored, and every
12-bit raw code r: the reading is ((r × SLOPE + 2^13) >> 14) + OFFSET. -/
def Obligations.SensorConversion : Prop :=
  ∀ (s : State) (trims : Bytes) (i r : Nat), s.pwr.trims = some trims → r < 2 ^ 12 →
    s.convert i r = (((r * le (sensorTrim trims i) 4 2 + 2 ^ 13) >>> 14 : Nat) : Int) + signed 16 (le (sensorTrim trims i) 2 2)

/-- O57. The tide counter does not jump while a Strand serves. For every command and every state with VAON present: if exec answers a next
state in which any Strand is in SERVING or DRAINING, the tide counter is as it was. So a command that moves the counter (TID_SET_CMD, or a
loss of VAON) leaves no Strand in SERVING or DRAINING. -/
def Obligations.NoJumpWhileServing : Prop :=
  ∀ (c : Instr) (s t : State), s.img.vaon = true → exec c s = .next t →
    (∃ x ∈ t.strands, x.state = .serving ∨ x.state = .draining) → t.now = s.now
end

