-- ==== Sys2Proof/Laws/Tables.lean ====
section
/-!
SUPPORT. What the table and memory operations keep: the canonical form; and what a read after a write finds.
-/
namespace Sys2Proof

theorem Tab.all_put {α : Type} (P : Nat × α → Bool) (t : Tab α) (k : Nat) (v : α) (h : t.all P = true) (hv : P (k, v) = true) :
    (Tab.put t k v).all P = true := by
  induction t with
  | nil => simp [Tab.put, hv]
  | cons e t ih =>
    obtain ⟨k', v'⟩ := e
    simp only [List.all_cons, Bool.and_eq_true] at h
    simp only [Tab.put]
    split
    · simp only [List.all_cons, Bool.and_eq_true]; exact ⟨hv, h.1, h.2⟩
    · split
      · simp only [List.all_cons, Bool.and_eq_true]; exact ⟨hv, h.2⟩
      · simp only [List.all_cons, Bool.and_eq_true]; exact ⟨h.1, ih h.2⟩
theorem Tab.all_del {α : Type} (P : Nat × α → Bool) (t : Tab α) (k : Nat) (h : t.all P = true) : (Tab.del t k).all P = true := by
  induction t with
  | nil => rfl
  | cons e t ih =>
    obtain ⟨k', v'⟩ := e
    simp only [List.all_cons, Bool.and_eq_true] at h
    simp only [Tab.del]
    split
    · exact h.2
    · simp only [List.all_cons, Bool.and_eq_true]; exact ⟨h.1, ih h.2⟩
theorem Tab.sorted_put {α : Type} (t : Tab α) (k : Nat) (v : α) (h : Tab.sorted t = true) : Tab.sorted (Tab.put t k v) = true := by
  induction t with
  | nil => simp [Tab.put, Tab.sorted]
  | cons e t ih =>
    obtain ⟨k', v'⟩ := e
    simp only [Tab.sorted, Bool.and_eq_true] at h
    simp only [Tab.put]
    split
    · rename_i hk
      simp only [Tab.sorted, Bool.and_eq_true, List.all_cons, decide_eq_true_eq]
      refine ⟨⟨hk, ?_⟩, h.1, h.2⟩
      simp only [List.all_eq_true, decide_eq_true_eq] at h ⊢
      exact fun e he => Nat.lt_trans hk (h.1 e he)
    · split
      · rename_i hk; subst hk
        simp only [Tab.sorted, Bool.and_eq_true]; exact h
      · simp only [Tab.sorted, Bool.and_eq_true]
        exact ⟨Tab.all_put _ _ _ _ h.1 (by simp; omega), ih h.2⟩
theorem Tab.sorted_del {α : Type} (t : Tab α) (k : Nat) (h : Tab.sorted t = true) : Tab.sorted (Tab.del t k) = true := by
  induction t with
  | nil => rfl
  | cons e t ih =>
    obtain ⟨k', v'⟩ := e
    simp only [Tab.sorted, Bool.and_eq_true] at h
    simp only [Tab.del]
    split
    · exact h.2
    · simp only [Tab.sorted, Bool.and_eq_true]; exact ⟨Tab.all_del _ _ _ h.1, ih h.2⟩
theorem Tab.canon_putD {α : Type} [DecidableEq α] (d : Nat → α) (t : Tab α) (k : Nat) (v : α) (h : Tab.canon d t = true) :
    Tab.canon d (Tab.putD (d k) t k v) = true := by
  simp only [Tab.canon, Bool.and_eq_true] at *
  unfold Tab.putD
  split
  · exact ⟨Tab.sorted_del _ _ h.1, Tab.all_del _ _ _ h.2⟩
  · rename_i hv
    exact ⟨Tab.sorted_put _ _ _ h.1, Tab.all_put _ _ _ _ h.2 (by simpa using hv)⟩
theorem Tab.sorted_filter {α : Type} (t : Tab α) (p : Nat × α → Bool) (h : Tab.sorted t = true) : Tab.sorted (t.filter p) = true := by
  induction t with
  | nil => rfl
  | cons e t ih =>
    obtain ⟨k', v'⟩ := e
    simp only [Tab.sorted, Bool.and_eq_true] at h
    simp only [List.filter_cons]
    split
    · simp only [Tab.sorted, Bool.and_eq_true]
      refine ⟨?_, ih h.2⟩
      simp only [List.all_eq_true] at *
      exact fun e he => h.1 e (List.mem_filter.mp he).1
    · exact ih h.2
theorem Tab.canon_filter {α : Type} [DecidableEq α] (d : Nat → α) (t : Tab α) (p : Nat × α → Bool) (h : Tab.canon d t = true) :
    Tab.canon d (t.filter p) = true := by
  simp only [Tab.canon, Bool.and_eq_true] at *
  refine ⟨Tab.sorted_filter _ _ h.1, ?_⟩
  simp only [List.all_eq_true] at *
  exact fun e he => h.2 e (List.mem_filter.mp he).1

theorem length_modifyAt {α : Type} (l : List α) (i : Nat) (f : α → α) : (modifyAt l i f).length = l.length := by
  induction l generalizing i with
  | nil => cases i <;> rfl
  | cons x xs ih => cases i <;> simp [modifyAt, ih]

theorem all_modifyAt {α : Type} (P : α → Prop) (l : List α) (i : Nat) (f : α → α) (hf : ∀ x, P x → P (f x)) (h : ∀ x ∈ l, P x) :
    ∀ x ∈ modifyAt l i f, P x := by
  induction l generalizing i with
  | nil => cases i <;> exact fun x hx => nomatch hx
  | cons y ys ih =>
    cases i with
    | zero =>
      intro x hx
      rcases List.mem_cons.mp hx with rfl | hx
      · exact hf y (h y List.mem_cons_self)
      · exact h x (List.mem_cons_of_mem _ hx)
    | succ i =>
      intro x hx
      rcases List.mem_cons.mp hx with rfl | hx
      · exact h _ List.mem_cons_self
      · exact ih i (fun z hz => h z (List.mem_cons_of_mem _ hz)) x hx

namespace Machine

theorem wf_writeCell {m : Memory} (a : Nat) (v : Byte) (h : Memory.wf m = true) : Memory.wf (writeCell m a v) = true :=
  Tab.canon_putD _ _ _ _ h

theorem wf_writeCells {m : Memory} (a : Nat) (bs : Bytes) (h : Memory.wf m = true) : Memory.wf (writeCells m a bs) = true := by
  induction bs generalizing m a with
  | nil => exact h
  | cons b bs ih => exact ih (a + 1) (wf_writeCell a b h)

theorem wf_programCells {m : Memory} (a : Nat) (bs : Bytes) (h : Memory.wf m = true) : Memory.wf (programCells m a bs) = true :=
  wf_writeCells a _ h

theorem wf_eraseCells {m : Memory} (a n : Nat) (h : Memory.wf m = true) : Memory.wf (eraseCells m a n) = true :=
  Tab.canon_filter _ _ _ h

end Machine
end Sys2Proof
end

