-- ==== Sys2Proof/Laws/Touches.lean ====
section
/-!
SUPPORT. The relation of Safety.lean that every frame lemma states: how such facts compose, and what follows from one.
-/
namespace Sys2Proof.Machine

/-- Every part of `qs` stands in `ps`, in the same order. -/
def sub : List Part → List Part → Bool
  | [], _ => true
  | _ :: _, [] => false
  | q :: qs, p :: ps => if q = p then sub qs ps else sub (q :: qs) ps

theorem sub_mem {qs ps : List Part} (h : sub qs ps = true) {p : Part} (hp : p ∈ qs) : p ∈ ps := by
  induction ps generalizing qs with
  | nil => cases qs with
    | nil => cases hp
    | cons q qs => simp [sub] at h
  | cons x ps ih =>
    cases qs with
    | nil => cases hp
    | cons q qs =>
      simp only [sub] at h
      split at h
      · rename_i hq
        cases hp with
        | head => rw [hq]; exact List.mem_cons_self
        | tail _ hp => exact List.mem_cons_of_mem _ (ih h hp)
      · exact List.mem_cons_of_mem _ (ih h hp)

theorem Part.grows_refl (p : Part) (b : State) : p.grows b b := by
  cases p <;> simp [Part.grows]

theorem Part.same_refl (p : Part) (b : State) : p.same b b := by
  cases p <;> rfl

theorem banksOk_congr {l k : List NvmBank} (h : k.map NvmBank.cells = l.map NvmBank.cells) (hl : banksOk l) : banksOk k := by
  have hn : k.length = l.length := by simpa using congrArg List.length h
  refine ⟨hn.trans hl.1, fun x hx => ?_⟩
  have hm : x.cells ∈ l.map NvmBank.cells := h ▸ List.mem_map_of_mem hx
  obtain ⟨y, hy, e⟩ := List.mem_map.mp hm
  rw [← e]
  exact hl.2 y hy

theorem Part.grows_of_same {p : Part} {b t : State} (h : p.same b t) : p.grows b t := by
  cases p
  case cells => exact banksOk_congr h
  all_goals simp_all [Part.same, Part.grows]

theorem Part.grows_trans {p : Part} {a b c : State} (h : p.grows a b) (k : p.grows b c) : p.grows a c := by
  cases p <;> simp_all [Part.grows]
  case freeCtr => omega
  case out =>
    obtain ⟨n, h⟩ := h
    obtain ⟨m, k⟩ := k
    exact ⟨m ++ n, by rw [k, h, List.append_assoc]⟩

theorem Part.same_trans {p : Part} {a b c : State} (h : p.same a b) (k : p.same b c) : p.same a c := by
  cases p <;> exact Eq.trans k h

theorem Touches.refl (ps : List Part) (s : State) : Touches ps s s := ⟨rfl, fun p => .inr (p.same_refl s)⟩

theorem Touches.trans {ps : List Part} {a b c : State} (h : Touches ps a b) (k : Touches ps b c) : Touches ps a c := by
  refine ⟨k.1.trans h.1, fun p => ?_⟩
  rcases h.2 p with ⟨m, h⟩ | h
  · rcases k.2 p with ⟨_, k⟩ | k
    · exact .inl ⟨m, p.grows_trans h k⟩
    · exact .inl ⟨m, p.grows_trans h (p.grows_of_same k)⟩
  · rcases k.2 p with ⟨m, k⟩ | k
    · exact .inl ⟨m, p.grows_trans (p.grows_of_same h) k⟩
    · exact .inr (p.same_trans h k)

theorem Touches.mono {qs ps : List Part} {a b : State} (hs : sub qs ps = true) (h : Touches qs a b) : Touches ps a b :=
  ⟨h.1, fun p => (h.2 p).imp (fun k => ⟨sub_mem hs k.1, k.2⟩) id⟩

/-- An operation after others. -/
theorem Touches.after {qs ps : List Part} {a b c : State} (k : Touches qs b c) (hs : sub qs ps = true) (h : Touches ps a b) :
    Touches ps a c := h.trans (k.mono hs)

theorem sub_drop {q : Part} {qs ps : List Part} (h : sub (q :: qs) ps = true) : sub qs ps = true := by
  induction ps generalizing q qs with
  | nil => simp [sub] at h
  | cons p ps ih =>
    cases qs with
    | nil => rfl
    | cons r qs =>
      simp only [sub] at h ⊢
      split at h
      · split
        · exact ih h
        · exact h
      · split
        · exact ih (ih h)
        · exact ih h

theorem sub_trans {qs ps rs : List Part} (h : sub qs ps = true) (k : sub ps rs = true) : sub qs rs = true := by
  induction rs generalizing qs ps with
  | nil =>
    cases ps with
    | nil => exact h
    | cons p ps => simp [sub] at k
  | cons r rs ih =>
    cases qs with
    | nil => rfl
    | cons q qs =>
      cases ps with
      | nil => simp [sub] at h
      | cons p ps =>
        simp only [sub] at h k ⊢
        split at k
        · rename_i hp
          subst hp
          split at h
          · rename_i hq
            rw [if_pos hq]
            exact ih h k
          · split
            · rename_i hn hq
              exact absurd hq hn
            · exact ih h k
        · split
          · rename_i hn hq
            subst hq
            have : sub (q :: qs) (p :: ps) = true := by simpa only [sub] using h
            have := ih this k
            cases rs with
            | nil => simp [sub] at this
            | cons r rs => exact sub_drop this
          · have : sub (q :: qs) (p :: ps) = true := by simpa only [sub] using h
            exact ih this k

theorem Touches.ite {ps : List Part} {b x y : State} {c : Prop} [Decidable c] (hx : Touches ps b x) (hy : Touches ps b y) :
    Touches ps b (if c then x else y) := by
  split
  · exact hx
  · exact hy

theorem Touches.ite_fst {α : Type} {ps : List Part} {b : State} {x y : State × α} {c : Prop} [Decidable c]
    (hx : Touches ps b x.1) (hy : Touches ps b y.1) : Touches ps b (if c then x else y).1 := by
  split
  · exact hx
  · exact hy

theorem Touches.ite_snd {α : Type} {ps : List Part} {b : State} {x y : α × State} {c : Prop} [Decidable c]
    (hx : Touches ps b x.2) (hy : Touches ps b y.2) : Touches ps b (if c then x else y).2 := by
  split
  · exact hx
  · exact hy

theorem Touches.foldl {α : Type} {ps : List Part} {b i : State} {g : State → α → State} {l : List α} (h : Touches ps b i)
    (hg : ∀ t x, Touches ps b t → Touches ps b (g t x)) : Touches ps b (l.foldl g i) := by
  induction l generalizing i with
  | nil => exact h
  | cons x l ih => exact ih (hg i x h)

theorem Touches.foldl_fst {α β : Type} {ps : List Part} {b : State} {i : State × β} {g : State × β → α → State × β} {l : List α}
    (h : Touches ps b i.1) (hg : ∀ t x, Touches ps b t.1 → Touches ps b (g t x).1) : Touches ps b (l.foldl g i).1 := by
  induction l generalizing i with
  | nil => exact h
  | cons x l ih => exact ih (hg i x h)

theorem Touches.foldl_snd {α β : Type} {ps : List Part} {b : State} {i : β × State} {g : β × State → α → β × State} {l : List α}
    (h : Touches ps b i.2) (hg : ∀ t x, Touches ps b t.2 → Touches ps b (g t x).2) : Touches ps b (l.foldl g i).2 := by
  induction l generalizing i with
  | nil => exact h
  | cons x l ih => exact ih (hg i x h)

theorem Touches.of_fst {α : Type} {ps : List Part} {b t : State} {a : α} {p : State × α} (e : p = (t, a)) (h : Touches ps b p.1) :
    Touches ps b t := by
  rw [e] at h; exact h

theorem Touches.of_snd {α : Type} {ps : List Part} {b t : State} {a : α} {p : α × State} (e : p = (a, t)) (h : Touches ps b p.2) :
    Touches ps b t := by
  rw [e] at h; exact h

theorem Touches.getD {ps : List Part} {b d : State} {o : Option State} (hd : Touches ps b d) (h : ∀ t, o = some t → Touches ps b t) :
    Touches ps b (o.getD d) := by
  cases o with
  | none => exact hd
  | some t => exact h t rfl

theorem Touches.some_ {ps : List Part} {b x : State} (h : Touches ps b x) : ∀ t, some x = some t → Touches ps b t :=
  fun _ e => Option.some.inj e ▸ h

theorem Touches.none_ {ps : List Part} {b : State} : ∀ t, (none : Option State) = some t → Touches ps b t :=
  fun _ e => nomatch e

theorem Touches.ite_some {ps : List Part} {b : State} {x y : Option State} {c : Prop} [Decidable c]
    (hx : ∀ t, x = some t → Touches ps b t) (hy : ∀ t, y = some t → Touches ps b t) :
    ∀ t, (if c then x else y) = some t → Touches ps b t := by
  split
  · exact hx
  · exact hy

theorem Answers.next {ps : List Part} {b t : State} (h : Touches ps b t) : Answers ps b (.next t) := ⟨t, rfl, h⟩

theorem Answers.mono {qs ps : List Part} {b : State} {r : Res} (hs : sub qs ps = true) (h : Answers qs b r) : Answers ps b r :=
  h.imp (fun _ k => ⟨k.1, k.2.mono hs⟩)

theorem Answers.after {qs ps : List Part} {a b : State} {r : Res} (k : Answers qs b r) (hs : sub qs ps = true) (h : Touches ps a b) :
    Answers ps a r := k.imp (fun _ k => ⟨k.1, h.trans (k.2.mono hs)⟩)

theorem Answers.ite {ps : List Part} {b : State} {x y : Res} {c : Prop} [Decidable c] (hx : Answers ps b x) (hy : Answers ps b y) :
    Answers ps b (if c then x else y) := by
  split
  · exact hx
  · exact hy

theorem Answers.stays {ps : List Part} {b : State} {r : Res} (h : Answers ps b r) : Stays ps b r := by
  obtain ⟨t, rfl, h⟩ := h
  intro u e
  cases e
  exact h

theorem Stays.mono {qs ps : List Part} {b : State} {r : Res} (hs : sub qs ps = true) (h : Stays qs b r) : Stays ps b r :=
  fun t e => (h t e).mono hs

theorem Stays.after {qs ps : List Part} {a b : State} {r : Res} (k : Stays qs b r) (hs : sub qs ps = true) (h : Touches ps a b) :
    Stays ps a r := fun t e => h.trans ((k t e).mono hs)

theorem Stays.next {ps : List Part} {b t : State} (h : Touches ps b t) : Stays ps b (.next t) := fun _ e => by cases e; exact h

theorem Stays.fault {ps : List Part} {b : State} {f : Fault} : Stays ps b (.fault f) := fun _ e => nomatch e

theorem Stays.ite {ps : List Part} {b : State} {x y : Res} {c : Prop} [Decidable c] (hx : Stays ps b x) (hy : Stays ps b y) :
    Stays ps b (if c then x else y) := by
  split
  · exact hx
  · exact hy

theorem sub_refl (ps : List Part) : sub ps ps = true := by
  induction ps with
  | nil => rfl
  | cons p ps ih => simpa [sub] using ih

theorem Touches.cut {ps : List Part} {b x y : State} (hx : Touches ps b x) (h : Touches ps b x → Touches ps b y) : Touches ps b y :=
  h hx

theorem Touches.of_some {ps : List Part} {b t : State} {o : Option State} (e : o = some t)
    (h : ∀ t, o = some t → Touches ps b t) : Touches ps b t := h t e

theorem Touches.of_some_snd {α : Type} {ps : List Part} {b t : State} {a : α} {o : Option (α × State)} (e : o = some (a, t))
    (h : ∀ a t, o = some (a, t) → Touches ps b t) : Touches ps b t := h a t e

theorem Touches.of_snd_snd {α β : Type} {ps : List Part} {b t : State} {a : α} {c : β} {p : α × β × State} (e : p = (a, c, t))
    (h : Touches ps b p.2.2) : Touches ps b t := by
  rw [e] at h; exact h

theorem Touches.ite_snd_snd {α β : Type} {ps : List Part} {b : State} {x y : α × β × State} {c : Prop} [Decidable c]
    (hx : Touches ps b x.2.2) (hy : Touches ps b y.2.2) : Touches ps b (if c then x else y).2.2 := by
  split
  · exact hx
  · exact hy

theorem Touches.fst_mk {α : Type} {ps : List Part} {b t : State} {a : α} (h : Touches ps b t) : Touches ps b (t, a).1 := h

theorem Touches.snd_mk {α : Type} {ps : List Part} {b t : State} {a : α} (h : Touches ps b t) : Touches ps b (a, t).2 := h

theorem Touches.snd_snd_mk {α β : Type} {ps : List Part} {b t : State} {a : α} {c : β} (h : Touches ps b t) :
    Touches ps b (a, c, t).2.2 := h

theorem Touches.some_snd {α : Type} {ps : List Part} {b x : State} {c : α} (h : Touches ps b x) :
    ∀ a t, some (c, x) = some (a, t) → Touches ps b t :=
  fun _ _ e => (Prod.mk.inj (Option.some.inj e)).2 ▸ h

theorem Touches.none_snd {α : Type} {ps : List Part} {b : State} : ∀ (a : α) t, (none : Option (α × State)) = some (a, t) → Touches ps b t :=
  fun _ _ e => nomatch e

theorem Touches.ite_some_snd {α : Type} {ps : List Part} {b : State} {x y : Option (α × State)} {c : Prop} [Decidable c]
    (hx : ∀ a t, x = some (a, t) → Touches ps b t) (hy : ∀ a t, y = some (a, t) → Touches ps b t) :
    ∀ a t, (if c then x else y) = some (a, t) → Touches ps b t := by
  split
  · exact hx
  · exact hy

theorem Answers.cut {ps : List Part} {b x : State} {r : Res} (hx : Touches ps b x) (h : Touches ps b x → Answers ps b r) :
    Answers ps b r := h hx

theorem Answers.trans {ps : List Part} {a b : State} {r : Res} (h : Touches ps a b) (k : Answers ps b r) : Answers ps a r :=
  k.imp (fun _ k => ⟨k.1, h.trans k.2⟩)

theorem Stays.cut {ps : List Part} {b x : State} {r : Res} (hx : Touches ps b x) (h : Touches ps b x → Stays ps b r) :
    Stays ps b r := h hx

theorem Stays.trans {ps : List Part} {a b : State} {r : Res} (h : Touches ps a b) (k : Stays ps b r) : Stays ps a r :=
  fun t e => h.trans (k t e)

theorem Stays.andThen {ps : List Part} {b : State} {r : Res} {f : State → Res} (h : Stays ps b r) (hf : ∀ u, Stays ps u (f u)) :
    Stays ps b (andThen r f) := by
  cases r with
  | next u => exact fun t e => (h u rfl).trans (hf u t e)
  | fault _ => exact fun _ e => nomatch e
  | refused _ => exact fun _ e => nomatch e

theorem Touches.cutP {P : Prop} {ps : List Part} {b x : State} (hx : Touches ps b x) (h : Touches ps b x → P) : P := h hx

theorem Touches.cutO {P : Prop} {ps : List Part} {b : State} {o : Option State} (hx : ∀ t, o = some t → Touches ps b t)
    (h : (∀ t, o = some t → Touches ps b t) → P) : P := h hx

theorem Touches.cutOP {P : Prop} {α : Type} {ps : List Part} {b : State} {o : Option (α × State)}
    (hx : ∀ a t, o = some (a, t) → Touches ps b t) (h : (∀ a t, o = some (a, t) → Touches ps b t) → P) : P := h hx

theorem Touches.of_next {ps : List Part} {b t : State} {r : Res} (e : r = .next t) (h : Stays ps b r) : Touches ps b t := h t e

theorem Touches.omap {α : Type} {ps : List Part} {b : State} {o : Option α} {g : α → State} (h : ∀ x, Touches ps b (g x)) :
    ∀ t, o.map g = some t → Touches ps b t := by
  cases o with
  | none => exact fun _ e => nomatch e
  | some x => exact fun t e => Option.some.inj e ▸ h x

theorem Touches.orElse {ps : List Part} {b : State} {x : Option State} {y : Option State} (hx : ∀ t, x = some t → Touches ps b t)
    (hy : ∀ t, y = some t → Touches ps b t) : ∀ t, (x <|> y) = some t → Touches ps b t := by
  cases x with
  | none => exact hy
  | some a => exact hx

/-! What follows from the relation. -/

/-- A part that is not named is as it was. -/
theorem Touches.same {ps : List Part} {b t : State} (h : Touches ps b t) (p : Part) (hp : p ∉ ps) : p.same b t :=
  (h.2 p).resolve_left (fun k => hp k.1)

/-- Whatever is named, a part changes only as it may. -/
theorem Touches.grows {ps : List Part} {b t : State} (h : Touches ps b t) (p : Part) : p.grows b t := by
  rcases h.2 p with k | k
  · exact k.2
  · exact p.grows_of_same k

theorem Touches.pending {ps : List Part} {b t : State} (h : Touches ps b t) : t.pending = b.pending := h.1

/-- The invariant of the device is kept. -/
theorem Touches.inv {ps : List Part} {b t : State} (h : Touches ps b t) (i : b.Inv) : t.Inv :=
  ⟨h.grows .reg i.regs, h.grows .strands i.strands, (h.grows .cells ⟨i.banks, i.cells⟩).1, (h.grows .cells ⟨i.banks, i.cells⟩).2⟩

theorem Touches.now_eq {ps : List Part} {b t : State} (h : Touches ps b t) (hp : Part.now ∉ ps) : t.now = b.now := h.same .now hp

theorem Touches.freeCtr_eq {ps : List Part} {b t : State} (h : Touches ps b t) (hp : Part.freeCtr ∉ ps) : t.freeCtr = b.freeCtr := h.same .freeCtr hp

theorem Touches.out_eq {ps : List Part} {b t : State} (h : Touches ps b t) (hp : Part.out ∉ ps) : t.out = b.out := h.same .out hp

theorem Touches.reg_eq {ps : List Part} {b t : State} (h : Touches ps b t) (hp : Part.reg ∉ ps) : t.reg = b.reg := h.same .reg hp

theorem Touches.host_eq {ps : List Part} {b t : State} (h : Touches ps b t) (hp : Part.host ∉ ps) : t.host = b.host := h.same .host hp

theorem Touches.cells_eq {ps : List Part} {b t : State} (h : Touches ps b t) (hp : Part.cells ∉ ps) :
    t.nvm.map NvmBank.cells = b.nvm.map NvmBank.cells := h.same .cells hp

theorem Touches.ops_eq {ps : List Part} {b t : State} (h : Touches ps b t) (hp : Part.ops ∉ ps) :
    t.nvm.map NvmBank.op = b.nvm.map NvmBank.op := h.same .ops hp

/-- The bytes of each bank. -/
theorem bank_cells {s t : State} (h : t.nvm.map NvmBank.cells = s.nvm.map NvmBank.cells) (b : Nat) :
    (t.bank b).cells = (s.bank b).cells := by
  have k := congrArg (fun l => l[b]?.getD []) h
  simp only [List.getElem?_map] at k
  simp only [State.bank, List.getD_eq_getElem?_getD]
  cases h1 : t.nvm[b]? <;> cases h2 : s.nvm[b]? <;> simp_all [NvmBank.blank]

theorem Touches.bank_cells {ps : List Part} {s t : State} (h : Touches ps s t) (hp : Part.cells ∉ ps) (b : Nat) :
    (t.bank b).cells = (s.bank b).cells := Machine.bank_cells (h.cells_eq hp) b

theorem Touches.led_eq {ps : List Part} {b t : State} (h : Touches ps b t) (hp : Part.led ∉ ps) : t.led = b.led := h.same .led hp

theorem Touches.acc_eq {ps : List Part} {b t : State} (h : Touches ps b t) (hp : Part.acc ∉ ps) : t.acc = b.acc := h.same .acc hp

theorem Touches.strands_eq {ps : List Part} {b t : State} (h : Touches ps b t) (hp : Part.strands ∉ ps) : t.strands = b.strands := h.same .strands hp

theorem Touches.wheels_eq {ps : List Part} {b t : State} (h : Touches ps b t) (hp : Part.wheels ∉ ps) : t.wheels = b.wheels := h.same .wheels hp

theorem Touches.grants_eq {ps : List Part} {b t : State} (h : Touches ps b t) (hp : Part.grants ∉ ps) : t.grants = b.grants := h.same .grants hp

theorem Touches.frames_eq {ps : List Part} {b t : State} (h : Touches ps b t) (hp : Part.frames ∉ ps) : t.frames = b.frames := h.same .frames hp

theorem Touches.nextFrame_eq {ps : List Part} {b t : State} (h : Touches ps b t) (hp : Part.nextFrame ∉ ps) : t.nextFrame = b.nextFrame := h.same .nextFrame hp

theorem Touches.streams_eq {ps : List Part} {b t : State} (h : Touches ps b t) (hp : Part.streams ∉ ps) : t.streams = b.streams := h.same .streams hp

theorem Touches.calendar_eq {ps : List Part} {b t : State} (h : Touches ps b t) (hp : Part.calendar ∉ ps) : t.calendar = b.calendar := h.same .calendar hp

theorem Touches.tapQueue_eq {ps : List Part} {b t : State} (h : Touches ps b t) (hp : Part.tapQueue ∉ ps) : t.tapQueue = b.tapQueue := h.same .tapQueue hp

theorem Touches.sas_eq {ps : List Part} {b t : State} (h : Touches ps b t) (hp : Part.sas ∉ ps) : t.sas = b.sas := h.same .sas hp

theorem Touches.lastHanded_eq {ps : List Part} {b t : State} (h : Touches ps b t) (hp : Part.lastHanded ∉ ps) : t.lastHanded = b.lastHanded := h.same .lastHanded hp

theorem Touches.refused_eq {ps : List Part} {b t : State} (h : Touches ps b t) (hp : Part.refused ∉ ps) : t.refused = b.refused := h.same .refused hp

theorem Touches.stopped_eq {ps : List Part} {b t : State} (h : Touches ps b t) (hp : Part.stopped ∉ ps) : t.stopped = b.stopped := h.same .stopped hp

theorem Touches.served_eq {ps : List Part} {b t : State} (h : Touches ps b t) (hp : Part.served ∉ ps) : t.served = b.served := h.same .served hp

theorem Touches.content_eq {ps : List Part} {b t : State} (h : Touches ps b t) (hp : Part.content ∉ ps) : t.content = b.content := h.same .content hp

theorem Touches.maskCache_eq {ps : List Part} {b t : State} (h : Touches ps b t) (hp : Part.maskCache ∉ ps) : t.maskCache = b.maskCache := h.same .maskCache hp

theorem Touches.vit_eq {ps : List Part} {b t : State} (h : Touches ps b t) (hp : Part.vit ∉ ps) : t.vit = b.vit := h.same .vit hp

theorem Touches.gth_eq {ps : List Part} {b t : State} (h : Touches ps b t) (hp : Part.gth ∉ ps) : t.gth = b.gth := h.same .gth hp

theorem Touches.srv_eq {ps : List Part} {b t : State} (h : Touches ps b t) (hp : Part.srv ∉ ps) : t.srv = b.srv := h.same .srv hp

theorem Touches.img_eq {ps : List Part} {b t : State} (h : Touches ps b t) (hp : Part.img ∉ ps) : t.img = b.img := h.same .img hp

theorem Touches.pwr_eq {ps : List Part} {b t : State} (h : Touches ps b t) (hp : Part.pwr ∉ ps) : t.pwr = b.pwr := h.same .pwr hp

theorem Touches.nwl_eq {ps : List Part} {b t : State} (h : Touches ps b t) (hp : Part.nwl ∉ ps) : t.nwl = b.nwl := h.same .nwl hp

theorem Touches.stk_eq {ps : List Part} {b t : State} (h : Touches ps b t) (hp : Part.stk ∉ ps) : t.stk = b.stk := h.same .stk hp

theorem Touches.fab_eq {ps : List Part} {b t : State} (h : Touches ps b t) (hp : Part.fab ∉ ps) : t.fab = b.fab := h.same .fab hp

theorem Touches.mgmt_eq {ps : List Part} {b t : State} (h : Touches ps b t) (hp : Part.mgmt ∉ ps) : t.mgmt = b.mgmt := h.same .mgmt hp

theorem Touches.tap_eq {ps : List Part} {b t : State} (h : Touches ps b t) (hp : Part.tap ∉ ps) : t.tap = b.tap := h.same .tap hp

theorem Touches.rst_eq {ps : List Part} {b t : State} (h : Touches ps b t) (hp : Part.rst ∉ ps) : t.rst = b.rst := h.same .rst hp

theorem Touches.resetKey_eq {ps : List Part} {b t : State} (h : Touches ps b t) (hp : Part.resetKey ∉ ps) : t.resetKey = b.resetKey := h.same .resetKey hp

/-! One part, or two, written. -/

theorem Touches.put_now {ps : List Part} {b s : State} {v_now} (hs : sub [.now] ps = true) (h : Touches ps b s) :
    Touches ps b { s with now := v_now } := by
  refine h.trans ⟨rfl, fun p => ?_⟩
  cases p <;> first | exact .inr rfl | exact .inl ⟨sub_mem hs (by simp), trivial⟩

theorem Touches.put_host {ps : List Part} {b s : State} {v_host} (hs : sub [.host] ps = true) (h : Touches ps b s) :
    Touches ps b { s with host := v_host } := by
  refine h.trans ⟨rfl, fun p => ?_⟩
  cases p <;> first | exact .inr rfl | exact .inl ⟨sub_mem hs (by simp), trivial⟩

theorem Touches.put_led {ps : List Part} {b s : State} {v_led} (hs : sub [.led] ps = true) (h : Touches ps b s) :
    Touches ps b { s with led := v_led } := by
  refine h.trans ⟨rfl, fun p => ?_⟩
  cases p <;> first | exact .inr rfl | exact .inl ⟨sub_mem hs (by simp), trivial⟩

theorem Touches.put_acc {ps : List Part} {b s : State} {v_acc} (hs : sub [.acc] ps = true) (h : Touches ps b s) :
    Touches ps b { s with acc := v_acc } := by
  refine h.trans ⟨rfl, fun p => ?_⟩
  cases p <;> first | exact .inr rfl | exact .inl ⟨sub_mem hs (by simp), trivial⟩

theorem Touches.put_wheels {ps : List Part} {b s : State} {v_wheels} (hs : sub [.wheels] ps = true) (h : Touches ps b s) :
    Touches ps b { s with wheels := v_wheels } := by
  refine h.trans ⟨rfl, fun p => ?_⟩
  cases p <;> first | exact .inr rfl | exact .inl ⟨sub_mem hs (by simp), trivial⟩

theorem Touches.put_grants {ps : List Part} {b s : State} {v_grants} (hs : sub [.grants] ps = true) (h : Touches ps b s) :
    Touches ps b { s with grants := v_grants } := by
  refine h.trans ⟨rfl, fun p => ?_⟩
  cases p <;> first | exact .inr rfl | exact .inl ⟨sub_mem hs (by simp), trivial⟩

theorem Touches.put_frames {ps : List Part} {b s : State} {v_frames} (hs : sub [.frames] ps = true) (h : Touches ps b s) :
    Touches ps b { s with frames := v_frames } := by
  refine h.trans ⟨rfl, fun p => ?_⟩
  cases p <;> first | exact .inr rfl | exact .inl ⟨sub_mem hs (by simp), trivial⟩

theorem Touches.put_nextFrame {ps : List Part} {b s : State} {v_nextFrame} (hs : sub [.nextFrame] ps = true) (h : Touches ps b s) :
    Touches ps b { s with nextFrame := v_nextFrame } := by
  refine h.trans ⟨rfl, fun p => ?_⟩
  cases p <;> first | exact .inr rfl | exact .inl ⟨sub_mem hs (by simp), trivial⟩

theorem Touches.put_streams {ps : List Part} {b s : State} {v_streams} (hs : sub [.streams] ps = true) (h : Touches ps b s) :
    Touches ps b { s with streams := v_streams } := by
  refine h.trans ⟨rfl, fun p => ?_⟩
  cases p <;> first | exact .inr rfl | exact .inl ⟨sub_mem hs (by simp), trivial⟩

theorem Touches.put_calendar {ps : List Part} {b s : State} {v_calendar} (hs : sub [.calendar] ps = true) (h : Touches ps b s) :
    Touches ps b { s with calendar := v_calendar } := by
  refine h.trans ⟨rfl, fun p => ?_⟩
  cases p <;> first | exact .inr rfl | exact .inl ⟨sub_mem hs (by simp), trivial⟩

theorem Touches.put_tapQueue {ps : List Part} {b s : State} {v_tapQueue} (hs : sub [.tapQueue] ps = true) (h : Touches ps b s) :
    Touches ps b { s with tapQueue := v_tapQueue } := by
  refine h.trans ⟨rfl, fun p => ?_⟩
  cases p <;> first | exact .inr rfl | exact .inl ⟨sub_mem hs (by simp), trivial⟩

theorem Touches.put_sas {ps : List Part} {b s : State} {v_sas} (hs : sub [.sas] ps = true) (h : Touches ps b s) :
    Touches ps b { s with sas := v_sas } := by
  refine h.trans ⟨rfl, fun p => ?_⟩
  cases p <;> first | exact .inr rfl | exact .inl ⟨sub_mem hs (by simp), trivial⟩

theorem Touches.put_lastHanded {ps : List Part} {b s : State} {v_lastHanded} (hs : sub [.lastHanded] ps = true) (h : Touches ps b s) :
    Touches ps b { s with lastHanded := v_lastHanded } := by
  refine h.trans ⟨rfl, fun p => ?_⟩
  cases p <;> first | exact .inr rfl | exact .inl ⟨sub_mem hs (by simp), trivial⟩

theorem Touches.put_refused {ps : List Part} {b s : State} {v_refused} (hs : sub [.refused] ps = true) (h : Touches ps b s) :
    Touches ps b { s with refused := v_refused } := by
  refine h.trans ⟨rfl, fun p => ?_⟩
  cases p <;> first | exact .inr rfl | exact .inl ⟨sub_mem hs (by simp), trivial⟩

theorem Touches.put_stopped {ps : List Part} {b s : State} {v_stopped} (hs : sub [.stopped] ps = true) (h : Touches ps b s) :
    Touches ps b { s with stopped := v_stopped } := by
  refine h.trans ⟨rfl, fun p => ?_⟩
  cases p <;> first | exact .inr rfl | exact .inl ⟨sub_mem hs (by simp), trivial⟩

theorem Touches.put_served {ps : List Part} {b s : State} {v_served} (hs : sub [.served] ps = true) (h : Touches ps b s) :
    Touches ps b { s with served := v_served } := by
  refine h.trans ⟨rfl, fun p => ?_⟩
  cases p <;> first | exact .inr rfl | exact .inl ⟨sub_mem hs (by simp), trivial⟩

theorem Touches.put_content {ps : List Part} {b s : State} {v_content} (hs : sub [.content] ps = true) (h : Touches ps b s) :
    Touches ps b { s with content := v_content } := by
  refine h.trans ⟨rfl, fun p => ?_⟩
  cases p <;> first | exact .inr rfl | exact .inl ⟨sub_mem hs (by simp), trivial⟩

theorem Touches.put_maskCache {ps : List Part} {b s : State} {v_maskCache} (hs : sub [.maskCache] ps = true) (h : Touches ps b s) :
    Touches ps b { s with maskCache := v_maskCache } := by
  refine h.trans ⟨rfl, fun p => ?_⟩
  cases p <;> first | exact .inr rfl | exact .inl ⟨sub_mem hs (by simp), trivial⟩

theorem Touches.put_vit {ps : List Part} {b s : State} {v_vit} (hs : sub [.vit] ps = true) (h : Touches ps b s) :
    Touches ps b { s with vit := v_vit } := by
  refine h.trans ⟨rfl, fun p => ?_⟩
  cases p <;> first | exact .inr rfl | exact .inl ⟨sub_mem hs (by simp), trivial⟩

theorem Touches.put_gth {ps : List Part} {b s : State} {v_gth} (hs : sub [.gth] ps = true) (h : Touches ps b s) :
    Touches ps b { s with gth := v_gth } := by
  refine h.trans ⟨rfl, fun p => ?_⟩
  cases p <;> first | exact .inr rfl | exact .inl ⟨sub_mem hs (by simp), trivial⟩

theorem Touches.put_srv {ps : List Part} {b s : State} {v_srv} (hs : sub [.srv] ps = true) (h : Touches ps b s) :
    Touches ps b { s with srv := v_srv } := by
  refine h.trans ⟨rfl, fun p => ?_⟩
  cases p <;> first | exact .inr rfl | exact .inl ⟨sub_mem hs (by simp), trivial⟩

theorem Touches.put_img {ps : List Part} {b s : State} {v_img} (hs : sub [.img] ps = true) (h : Touches ps b s) :
    Touches ps b { s with img := v_img } := by
  refine h.trans ⟨rfl, fun p => ?_⟩
  cases p <;> first | exact .inr rfl | exact .inl ⟨sub_mem hs (by simp), trivial⟩

theorem Touches.put_pwr {ps : List Part} {b s : State} {v_pwr} (hs : sub [.pwr] ps = true) (h : Touches ps b s) :
    Touches ps b { s with pwr := v_pwr } := by
  refine h.trans ⟨rfl, fun p => ?_⟩
  cases p <;> first | exact .inr rfl | exact .inl ⟨sub_mem hs (by simp), trivial⟩

theorem Touches.put_nwl {ps : List Part} {b s : State} {v_nwl} (hs : sub [.nwl] ps = true) (h : Touches ps b s) :
    Touches ps b { s with nwl := v_nwl } := by
  refine h.trans ⟨rfl, fun p => ?_⟩
  cases p <;> first | exact .inr rfl | exact .inl ⟨sub_mem hs (by simp), trivial⟩

theorem Touches.put_stk {ps : List Part} {b s : State} {v_stk} (hs : sub [.stk] ps = true) (h : Touches ps b s) :
    Touches ps b { s with stk := v_stk } := by
  refine h.trans ⟨rfl, fun p => ?_⟩
  cases p <;> first | exact .inr rfl | exact .inl ⟨sub_mem hs (by simp), trivial⟩

theorem Touches.put_fab {ps : List Part} {b s : State} {v_fab} (hs : sub [.fab] ps = true) (h : Touches ps b s) :
    Touches ps b { s with fab := v_fab } := by
  refine h.trans ⟨rfl, fun p => ?_⟩
  cases p <;> first | exact .inr rfl | exact .inl ⟨sub_mem hs (by simp), trivial⟩

theorem Touches.put_mgmt {ps : List Part} {b s : State} {v_mgmt} (hs : sub [.mgmt] ps = true) (h : Touches ps b s) :
    Touches ps b { s with mgmt := v_mgmt } := by
  refine h.trans ⟨rfl, fun p => ?_⟩
  cases p <;> first | exact .inr rfl | exact .inl ⟨sub_mem hs (by simp), trivial⟩

theorem Touches.put_tap {ps : List Part} {b s : State} {v_tap} (hs : sub [.tap] ps = true) (h : Touches ps b s) :
    Touches ps b { s with tap := v_tap } := by
  refine h.trans ⟨rfl, fun p => ?_⟩
  cases p <;> first | exact .inr rfl | exact .inl ⟨sub_mem hs (by simp), trivial⟩

theorem Touches.put_rst {ps : List Part} {b s : State} {v_rst} (hs : sub [.rst] ps = true) (h : Touches ps b s) :
    Touches ps b { s with rst := v_rst } := by
  refine h.trans ⟨rfl, fun p => ?_⟩
  cases p <;> first | exact .inr rfl | exact .inl ⟨sub_mem hs (by simp), trivial⟩

theorem Touches.put_resetKey {ps : List Part} {b s : State} {v_resetKey} (hs : sub [.resetKey] ps = true) (h : Touches ps b s) :
    Touches ps b { s with resetKey := v_resetKey } := by
  refine h.trans ⟨rfl, fun p => ?_⟩
  cases p <;> first | exact .inr rfl | exact .inl ⟨sub_mem hs (by simp), trivial⟩

theorem Touches.put_gth_srv {ps : List Part} {b s : State} {v_gth v_srv} (hs : sub [.gth, .srv] ps = true) (h : Touches ps b s) :
    Touches ps b { s with gth := v_gth, srv := v_srv } := by
  refine h.trans ⟨rfl, fun p => ?_⟩
  cases p <;> first | exact .inr rfl | exact .inl ⟨sub_mem hs (by simp), trivial⟩

theorem Touches.put_host_img {ps : List Part} {b s : State} {v_host v_img} (hs : sub [.host, .img] ps = true) (h : Touches ps b s) :
    Touches ps b { s with host := v_host, img := v_img } := by
  refine h.trans ⟨rfl, fun p => ?_⟩
  cases p <;> first | exact .inr rfl | exact .inl ⟨sub_mem hs (by simp), trivial⟩

theorem Touches.put_now_pwr {ps : List Part} {b s : State} {v_now v_pwr} (hs : sub [.now, .pwr] ps = true) (h : Touches ps b s) :
    Touches ps b { s with now := v_now, pwr := v_pwr } := by
  refine h.trans ⟨rfl, fun p => ?_⟩
  cases p <;> first | exact .inr rfl | exact .inl ⟨sub_mem hs (by simp), trivial⟩

theorem Touches.put_now_img {ps : List Part} {b s : State} {v_now v_img} (hs : sub [.now, .img] ps = true) (h : Touches ps b s) :
    Touches ps b { s with now := v_now, img := v_img } := by
  refine h.trans ⟨rfl, fun p => ?_⟩
  cases p <;> first | exact .inr rfl | exact .inl ⟨sub_mem hs (by simp), trivial⟩

theorem Touches.put_frames_srv {ps : List Part} {b s : State} {v_frames v_srv} (hs : sub [.frames, .srv] ps = true) (h : Touches ps b s) :
    Touches ps b { s with frames := v_frames, srv := v_srv } := by
  refine h.trans ⟨rfl, fun p => ?_⟩
  cases p <;> first | exact .inr rfl | exact .inl ⟨sub_mem hs (by simp), trivial⟩

theorem Touches.put_frames_rst {ps : List Part} {b s : State} {v_frames v_rst} (hs : sub [.frames, .rst] ps = true) (h : Touches ps b s) :
    Touches ps b { s with frames := v_frames, rst := v_rst } := by
  refine h.trans ⟨rfl, fun p => ?_⟩
  cases p <;> first | exact .inr rfl | exact .inl ⟨sub_mem hs (by simp), trivial⟩

theorem Touches.put_frames_nextFrame {ps : List Part} {b s : State} {v_frames v_nextFrame} (hs : sub [.frames, .nextFrame] ps = true) (h : Touches ps b s) :
    Touches ps b { s with frames := v_frames, nextFrame := v_nextFrame } := by
  refine h.trans ⟨rfl, fun p => ?_⟩
  cases p <;> first | exact .inr rfl | exact .inl ⟨sub_mem hs (by simp), trivial⟩

theorem Touches.put_frames_calendar {ps : List Part} {b s : State} {v_frames v_calendar} (hs : sub [.frames, .calendar] ps = true) (h : Touches ps b s) :
    Touches ps b { s with frames := v_frames, calendar := v_calendar } := by
  refine h.trans ⟨rfl, fun p => ?_⟩
  cases p <;> first | exact .inr rfl | exact .inl ⟨sub_mem hs (by simp), trivial⟩

theorem Touches.put_img_fab {ps : List Part} {b s : State} {v_img v_fab} (hs : sub [.img, .fab] ps = true) (h : Touches ps b s) :
    Touches ps b { s with img := v_img, fab := v_fab } := by
  refine h.trans ⟨rfl, fun p => ?_⟩
  cases p <;> first | exact .inr rfl | exact .inl ⟨sub_mem hs (by simp), trivial⟩

theorem Touches.put_nextFrame_streams {ps : List Part} {b s : State} {v_nextFrame v_streams} (hs : sub [.nextFrame, .streams] ps = true) (h : Touches ps b s) :
    Touches ps b { s with nextFrame := v_nextFrame, streams := v_streams } := by
  refine h.trans ⟨rfl, fun p => ?_⟩
  cases p <;> first | exact .inr rfl | exact .inl ⟨sub_mem hs (by simp), trivial⟩

theorem Touches.put_host_tap {ps : List Part} {b s : State} {v_host v_tap} (hs : sub [.host, .tap] ps = true) (h : Touches ps b s) :
    Touches ps b { s with host := v_host, tap := v_tap } := by
  refine h.trans ⟨rfl, fun p => ?_⟩
  cases p <;> first | exact .inr rfl | exact .inl ⟨sub_mem hs (by simp), trivial⟩

theorem Touches.put_freeCtr {ps : List Part} {b s : State} {v_freeCtr} (hs : sub [.freeCtr] ps = true) (hw : s.freeCtr ≤ v_freeCtr) (h : Touches ps b s) :
    Touches ps b { s with freeCtr := v_freeCtr } := by
  refine h.trans ⟨rfl, fun p => ?_⟩
  cases p <;> first | exact .inr rfl | exact .inl ⟨sub_mem hs (by simp), hw⟩

theorem Touches.put_out {ps : List Part} {b s : State} {v_out} (hs : sub [.out] ps = true) (hw : ∃ new, v_out = new ++ s.out) (h : Touches ps b s) :
    Touches ps b { s with out := v_out } := by
  refine h.trans ⟨rfl, fun p => ?_⟩
  cases p <;> first | exact .inr rfl | exact .inl ⟨sub_mem hs (by simp), hw⟩

theorem Touches.put_reg {ps : List Part} {b s : State} {v_reg} (hs : sub [.reg] ps = true) (hw : regFileWf s.reg = true → regFileWf v_reg = true) (h : Touches ps b s) :
    Touches ps b { s with reg := v_reg } := by
  refine h.trans ⟨rfl, fun p => ?_⟩
  cases p <;> first | exact .inr rfl | exact .inl ⟨sub_mem hs (by simp), hw⟩

theorem Touches.put_nvm {ps : List Part} {b s : State} {v_nvm} (hs : sub [.cells, .ops] ps = true) (hw : banksOk s.nvm → banksOk v_nvm)
    (h : Touches ps b s) : Touches ps b { s with nvm := v_nvm } := by
  refine h.trans ⟨rfl, fun p => ?_⟩
  cases p <;> first | exact .inr rfl | exact .inl ⟨sub_mem hs (by simp), hw⟩ | exact .inl ⟨sub_mem hs (by simp), trivial⟩

theorem map_modifyAt {α β : Type} (g : α → β) (l : List α) (i : Nat) (f : α → α) (hf : ∀ x, g (f x) = g x) :
    (modifyAt l i f).map g = l.map g := by
  induction l generalizing i with
  | nil => cases i <;> rfl
  | cons x xs ih => cases i <;> simp [modifyAt, hf, ih]

/-- A bank's operation alone changes. -/
theorem State.modBank_ops (s : State) (b : Nat) (f : NvmBank → NvmBank) (hf : ∀ k, (f k).cells = k.cells) :
    Touches [.ops] s (s.modBank b f) := by
  refine ⟨rfl, fun p => ?_⟩
  cases p
  case ops => exact .inl ⟨by simp, trivial⟩
  case cells => exact .inr (map_modifyAt _ _ _ _ hf)
  all_goals exact .inr rfl

theorem Touches.put_strands {ps : List Part} {b s : State} {v_strands} (hs : sub [.strands] ps = true) (hw : s.strands.length = 32 → v_strands.length = 32) (h : Touches ps b s) :
    Touches ps b { s with strands := v_strands } := by
  refine h.trans ⟨rfl, fun p => ?_⟩
  cases p <;> first | exact .inr rfl | exact .inl ⟨sub_mem hs (by simp), hw⟩

theorem Touches.put_strands_img {ps : List Part} {b s : State} {v_strands v_img} (hs : sub [.strands, .img] ps = true)
    (hw : s.strands.length = 32 → v_strands.length = 32) (h : Touches ps b s) :
    Touches ps b { s with strands := v_strands, img := v_img } := by
  refine h.trans ⟨rfl, fun p => ?_⟩
  cases p <;> first | exact .inr rfl | exact .inl ⟨sub_mem hs (by simp), hw⟩ | exact .inl ⟨sub_mem hs (by simp), trivial⟩

end Sys2Proof.Machine
end

