-- ==== Sys2Proof/Laws/TouchesHost.lean ====
section
/-!
SUPPORT. What the operations of the registers, the rings, the chains, the NVM and the ledger may change: one lemma each.
-/
namespace Sys2Proof.Machine

/-! Machine/Ops.lean -/

theorem State.setWord_touches (s off w) :
    Touches [.reg] s (State.setWord s off w) := by
  exact Touches.put_reg rfl (fun hw => Tab.canon_putD _ _ _ _ hw) (Touches.refl _ _)

theorem State.set_touches (s f v) :
    Touches [.reg] s (State.set s f v) := by
  unfold State.set
  exact Touches.mono rfl (State.setWord_touches _ _ _)

theorem State.clearBits_touches (s f m) :
    Touches [.reg] s (State.clearBits s f m) := by
  unfold State.clearBits
  exact Touches.mono rfl (State.set_touches _ _ _)

theorem State.countBy_touches (s f n) :
    Touches [.reg] s (State.countBy s f n) := by
  unfold State.countBy
  exact Touches.mono rfl (State.set_touches _ _ _)

theorem State.count_touches (s f) :
    Touches [.reg] s (State.count s f) := by
  unfold State.count
  exact Touches.mono rfl (State.countBy_touches _ _ _)

theorem State.set64_touches (s f v) :
    Touches [.reg] s (State.set64 s f v) := by
  unfold State.set64
  exact Touches.after (State.setWord_touches _ _ _) rfl (Touches.mono rfl (State.set_touches _ _ _))

theorem State.count64_touches (s f n) :
    Touches [.reg] s (State.count64 s f n) := by
  unfold State.count64
  exact Touches.mono rfl (State.set64_touches _ _ _)

theorem State.emit_touches (s o) :
    Touches [.out] s (State.emit s o) := by
  unfold State.emit
  exact Touches.put_out rfl ⟨[_], rfl⟩ (Touches.refl _ _)

theorem State.free_touches (s w) :
    Touches [.freeCtr] s (State.free s w).2 := by
  unfold State.free
  exact Touches.snd_mk (Touches.put_freeCtr rfl (Nat.le_succ _) (Touches.refl _ _))

theorem State.modFrame_touches (s k f) :
    Touches [.frames] s (State.modFrame s k f) := by
  unfold State.modFrame
  exact Touches.put_frames rfl (Touches.refl _ _)

theorem State.modStrand_touches (s i f) :
    Touches [.strands] s (State.modStrand s i f) := by
  exact Touches.put_strands rfl (fun hw => (length_modifyAt _ _ _).trans hw) (Touches.refl _ _)

theorem State.setBits_touches (s f m) :
    Touches [.reg] s (State.setBits s f m) := by
  unfold State.setBits
  exact Touches.mono rfl (State.set_touches _ _ _)

/-! Machine/Rings.lean -/

theorem State.sendVector_touches (s v) :
    Touches [.out, .reg] s (State.sendVector s v) := by
  unfold State.sendVector
  refine Touches.ite ?_ ?_
  · exact Touches.mono rfl (State.setBits_touches _ _ _)
  · exact Touches.mono rfl (State.emit_touches _ _)

theorem State.writeWindow_touches (s tag flags key payload) :
    Touches [.freeCtr, .out, .reg, .host] s (State.writeWindow s tag flags key payload) := by
  unfold State.writeWindow
  split
  rename_i x0 x1 x2 h3
  refine Touches.cut (Touches.of_snd h3 ?_) (fun k4 => ?_)
  · exact Touches.mono rfl (State.free_touches _ _)
  extract_lets +onlyGivenNames x5
  clear_value x5
  extract_lets +onlyGivenNames x6
  clear_value x6
  extract_lets +onlyGivenNames x7
  refine Touches.cut (x := x7) ?_ (fun h8 => ?_)
  · unfold x7
    split
    · rename_i x9 x10 h11
      exact Touches.put_host rfl k4
    · rename_i x12 h13
      assumption
  clear_value x7
  refine Touches.ite ?_ ?_
  · exact Touches.after (State.sendVector_touches _ _) rfl h8
  · exact h8

theorem State.setRing_touches (s r x) :
    Touches [.host] s (State.setRing s r x) := by
  unfold State.setRing
  exact Touches.put_host rfl (Touches.refl _ _)

theorem State.sendRingIrq_touches (s r) :
    Touches [.out, .reg, .host] s (State.sendRingIrq s r) := by
  unfold State.sendRingIrq
  extract_lets +onlyGivenNames x0
  clear_value x0
  extract_lets +onlyGivenNames x1
  refine Touches.cut (x := x1) ?_ (fun h2 => ?_)
  · unfold x1
    exact Touches.mono rfl (State.setRing_touches _ _ _)
  clear_value x1
  exact Touches.after (State.sendVector_touches _ _) rfl h2

theorem State.noteRecord_touches (s r) :
    Touches [.out, .reg, .host] s (State.noteRecord s r) := by
  unfold State.noteRecord
  extract_lets +onlyGivenNames x0
  clear_value x0
  extract_lets +onlyGivenNames x1
  clear_value x1
  extract_lets +onlyGivenNames x2
  refine Touches.cut (x := x2) ?_ (fun h3 => ?_)
  · unfold x2
    exact Touches.mono rfl (State.setRing_touches _ _ _)
  clear_value x2
  refine Touches.ite ?_ ?_
  · exact Touches.after (State.sendRingIrq_touches _ _) rfl h3
  · exact h3

theorem State.writeRecord_touches (s r kind flags key payload) :
    ∀ y, (State.writeRecord s r kind flags key payload) = some y → Touches [.out, .reg, .host] s y := by
  unfold State.writeRecord
  extract_lets +onlyGivenNames x0
  clear_value x0
  extract_lets +onlyGivenNames x1
  clear_value x1
  extract_lets +onlyGivenNames x2
  clear_value x2
  extract_lets +onlyGivenNames x3
  clear_value x3
  extract_lets +onlyGivenNames x4
  clear_value x4
  refine Touches.ite_some ?_ ?_
  · extract_lets +onlyGivenNames x5
    refine Touches.cutP (ps := [.out, .reg, .host]) (b := s) (x := x5) ?_ (fun h6 => ?_)
    · unfold x5
      refine Touches.ite ?_ ?_
      · exact Touches.refl _ _
      · exact Touches.mono rfl (State.emit_touches _ _)
    clear_value x5
    extract_lets +onlyGivenNames x7
    clear_value x7
    extract_lets +onlyGivenNames x8
    clear_value x8
    extract_lets +onlyGivenNames x9
    clear_value x9
    extract_lets +onlyGivenNames x10
    refine Touches.cutP (ps := [.out, .reg, .host]) (b := s) (x := x10) ?_ (fun h11 => ?_)
    · unfold x10
      exact Touches.after (State.emit_touches _ _) rfl h6
    clear_value x10
    exact Touches.some_ (Touches.after (State.noteRecord_touches _ _) rfl (Touches.after (State.setRing_touches _ _ _) rfl h11))
  · exact Touches.none_

theorem State.flushHeld_touches (s q a2) :
    Touches [.out, .reg, .host] s (State.flushHeld s q a2) := by
  induction a2 generalizing s with
  | zero => 
    unfold State.flushHeld
    exact Touches.refl _ _
  | succ m ih =>
    unfold State.flushHeld
    split
    · rename_i x0 h1
      exact Touches.refl _ _
    · rename_i x2 x3 x4 h5
      split
      · rename_i x6 h7
        exact Touches.refl _ _
      · rename_i x8 x9 h10
        refine Touches.cut (Touches.of_some h10 ?_) (fun k11 => ?_)
        · exact fun y e => Touches.after (State.writeRecord_touches _ _ _ _ _ _ y e) rfl (Touches.refl _ _)
        refine Touches.trans ?_ (ih _)
        exact Touches.after (State.setRing_touches _ _ _) rfl k11

theorem State.drainCq_touches (s q) :
    Touches [.out, .reg, .host] s (State.drainCq s q) := by
  unfold State.drainCq
  exact Touches.mono rfl (State.flushHeld_touches _ _ _)

theorem State.pushCq_touches (s q h) :
    Touches [.out, .reg, .host] s (State.pushCq s q h) := by
  unfold State.pushCq
  extract_lets +onlyGivenNames x0
  clear_value x0
  exact Touches.after (State.drainCq_touches _ _) rfl (Touches.mono rfl (State.setRing_touches _ _ _))

theorem State.settle_touches (s q) :
    Touches [.host] s (State.settle s q) := by
  unfold State.settle
  exact Touches.mono rfl (State.setRing_touches _ _ _)

theorem State.complete_touches (s c status payload) :
    Touches [.freeCtr, .out, .reg, .host] s (State.complete s c status payload) := by
  unfold State.complete
  refine Touches.ite ?_ ?_
  · exact Touches.refl _ _
  · extract_lets +onlyGivenNames x0
    extract_lets +onlyGivenNames x1
    clear_value x1
    extract_lets +onlyGivenNames x2
    refine Touches.cut (x := x2) ?_ (fun h3 => ?_)
    · unfold x2
      refine Touches.ite ?_ ?_
      · exact Touches.mono rfl (State.writeWindow_touches _ _ _ _ _)
      · exact Touches.refl _ _
    clear_value x2
    extract_lets +onlyGivenNames x4
    refine Touches.cut (x := x4) ?_ (fun h5 => ?_)
    · unfold x4
      refine Touches.ite ?_ ?_
      · exact Touches.after (State.pushCq_touches _ _ _) rfl h3
      · exact h3
    clear_value x4
    exact Touches.after (State.settle_touches _ _) rfl h5

theorem State.completeCq_touches (s c status) :
    Touches [.out, .reg, .host] s (State.completeCq s c status) := by
  unfold State.completeCq
  exact Touches.after (State.settle_touches _ _) rfl (Touches.mono rfl (State.pushCq_touches _ _ _))

theorem State.writeEvent_touches (s code source args) :
    ∀ y, (State.writeEvent s code source args) = some y → Touches [.out, .reg, .host] s y := by
  unfold State.writeEvent
  exact fun y e => Touches.after (State.writeRecord_touches _ _ _ _ _ _ y e) rfl (Touches.refl _ _)

theorem State.flushLostEvents_touches (s) :
    Touches [.out, .reg, .host] s (State.flushLostEvents s) := by
  unfold State.flushLostEvents
  extract_lets +onlyGivenNames x0
  clear_value x0
  refine Touches.ite ?_ ?_
  · exact Touches.refl _ _
  · split
    · rename_i x1 x2 h3
      refine Touches.cut (Touches.of_some h3 ?_) (fun k4 => ?_)
      · exact fun y e => Touches.after (State.writeEvent_touches _ _ _ _ y e) rfl (Touches.refl _ _)
      exact Touches.after (State.setRing_touches _ _ _) rfl k4
    · rename_i x5 h6
      exact Touches.refl _ _

theorem State.loseRecord_touches (s r) :
    Touches [.reg, .host] s (State.loseRecord s r) := by
  unfold State.loseRecord
  exact Touches.after (State.setRing_touches _ _ _) rfl (Touches.mono rfl (State.count_touches _ _))

theorem State.event_touches (s code source args) :
    Touches [.out, .reg, .host] s (State.event s code source args) := by
  unfold State.event
  extract_lets +onlyGivenNames x0
  refine Touches.cut (x := x0) ?_ (fun h1 => ?_)
  · unfold x0
    exact Touches.mono rfl (State.flushLostEvents_touches _)
  clear_value x0
  split
  · rename_i x2 x3 h4
    refine Touches.cut (Touches.of_some h4 ?_) (fun k5 => ?_)
    · refine Touches.ite_some ?_ ?_
      · exact fun y e => Touches.after (State.writeEvent_touches _ _ _ _ y e) rfl h1
      · exact Touches.none_
    exact k5
  · rename_i x6 h7
    extract_lets +onlyGivenNames x8
    refine Touches.cut (x := x8) ?_ (fun h9 => ?_)
    · unfold x8
      exact Touches.after (State.loseRecord_touches _ _) rfl h1
    clear_value x8
    exact Touches.after (State.setRing_touches _ _ _) rfl h9

theorem State.resultRecord_touches (s ring kind frameId payload req seq) :
    Touches [.out, .reg, .host] s (State.resultRecord s ring kind frameId payload req seq).1 := by
  unfold State.resultRecord
  split
  · rename_i x0 x1 h2
    refine Touches.cut (Touches.of_some h2 ?_) (fun k3 => ?_)
    · exact fun y e => Touches.after (State.writeRecord_touches _ _ _ _ _ _ y e) rfl (Touches.refl _ _)
    exact Touches.fst_mk k3
  · rename_i x4 h5
    exact Touches.fst_mk (Touches.after (State.event_touches _ _ _ _) rfl (Touches.mono rfl (State.loseRecord_touches _ _)))

theorem State.takeEntry_touches (s q) :
    Touches [.host] s (State.takeEntry s q) := by
  unfold State.takeEntry
  extract_lets +onlyGivenNames x0
  clear_value x0
  exact Touches.mono rfl (State.setRing_touches _ _ _)

theorem State.takeSlot_touches (s e) :
    Touches [.host] s (State.takeSlot s e) := by
  unfold State.takeSlot
  refine Touches.ite ?_ ?_
  · exact Touches.put_host rfl (Touches.refl _ _)
  · exact Touches.refl _ _

theorem State.sqCommand_touches {ps : List Part} (hps : sub [.out, .reg, .host] ps = true) (s q e opcode run) (frun : ∀ b0 b1, Touches ps b1 (run b0 b1)) :
    Touches ps s (State.sqCommand s q e opcode run) := by
  unfold State.sqCommand
  refine Touches.ite ?_ ?_
  · extract_lets +onlyGivenNames x0
    clear_value x0
    extract_lets +onlyGivenNames x1
    refine Touches.cut (x := x1) ?_ (fun h2 => ?_)
    · unfold x1
      exact Touches.after (State.takeEntry_touches _ _) (sub_trans rfl hps) (Touches.refl _ _)
    clear_value x1
    refine Touches.ite ?_ ?_
    · exact Touches.after (State.completeCq_touches _ _ _) (sub_trans rfl hps) h2
    · refine Touches.ite ?_ ?_
      · exact Touches.after (State.completeCq_touches _ _ _) (sub_trans rfl hps) (Touches.after (State.count_touches _ _) (sub_trans rfl hps) h2)
      · refine Touches.trans ?_ (frun _ _)
        exact Touches.after (State.takeSlot_touches _ _) (sub_trans rfl hps) h2
  · exact Touches.refl _ _

/-! Machine/Accession.lean -/

theorem State.setChain_touches (s ch c) :
    Touches [.acc] s (State.setChain s ch c) := by
  unfold State.setChain
  exact Touches.put_acc rfl (Touches.refl _ _)

theorem State.joinChain_touches (s ch content counted) :
    Touches [.reg, .acc] s (State.joinChain s ch content counted) := by
  unfold State.joinChain
  extract_lets +onlyGivenNames x0
  clear_value x0
  extract_lets +onlyGivenNames x1
  clear_value x1
  refine Touches.ite ?_ ?_
  · extract_lets +onlyGivenNames x2
    clear_value x2
    extract_lets +onlyGivenNames x3
    clear_value x3
    extract_lets +onlyGivenNames x4
    clear_value x4
    extract_lets +onlyGivenNames x5
    clear_value x5
    extract_lets +onlyGivenNames x6
    refine Touches.cut (x := x6) ?_ (fun h7 => ?_)
    · unfold x6
      exact Touches.put_acc rfl (Touches.refl _ _)
    clear_value x6
    exact Touches.after (State.setChain_touches _ _ _) rfl h7
  · extract_lets +onlyGivenNames x8
    refine Touches.cut (x := x8) ?_ (fun h9 => ?_)
    · unfold x8
      exact Touches.mono rfl (State.count_touches _ _)
    clear_value x8
    refine Touches.ite ?_ ?_
    · extract_lets +onlyGivenNames x10
      clear_value x10
      exact Touches.after (State.setChain_touches _ _ _) rfl h9
    · exact Touches.after (State.setChain_touches _ _ _) rfl h9

theorem State.sealChain_touches (s ch) :
    Touches [.reg, .acc] s (State.sealChain s ch) := by
  unfold State.sealChain
  extract_lets +onlyGivenNames x0
  clear_value x0
  extract_lets +onlyGivenNames x1
  clear_value x1
  extract_lets +onlyGivenNames x2
  clear_value x2
  extract_lets +onlyGivenNames x3
  clear_value x3
  extract_lets +onlyGivenNames x4
  clear_value x4
  extract_lets +onlyGivenNames x5
  clear_value x5
  extract_lets +onlyGivenNames x6
  refine Touches.cut (x := x6) ?_ (fun h7 => ?_)
  · unfold x6
    exact Touches.mono rfl (State.joinChain_touches _ _ _ _)
  clear_value x6
  extract_lets +onlyGivenNames x8
  refine Touches.cut (x := x8) ?_ (fun h9 => ?_)
  · unfold x8
    exact Touches.after (State.joinChain_touches _ _ _ _) rfl h7
  clear_value x8
  exact Touches.after (State.count_touches _ _) rfl (Touches.after (State.setChain_touches _ _ _) rfl h9)

theorem State.sealDue_touches (s ch) :
    Touches [.reg, .acc] s (State.sealDue s ch) := by
  unfold State.sealDue
  refine Touches.ite ?_ ?_
  · exact Touches.mono rfl (State.sealChain_touches _ _)
  · exact Touches.refl _ _

theorem State.appendAll_touches (s ch contents) :
    Touches [.reg, .acc] s (State.appendAll s ch contents) := by
  unfold State.appendAll
  refine Touches.ite ?_ ?_
  · refine Touches.after (State.sealDue_touches _ _) rfl (Touches.foldl ?_ (fun t1 x2 h0 => ?_))
    · exact Touches.refl _ _
    · exact Touches.after (State.joinChain_touches _ _ _ _) rfl h0
  · exact Touches.refl _ _

theorem State.append_touches (s ch content) :
    Touches [.reg, .acc] s (State.append s ch content) := by
  unfold State.append
  exact Touches.mono rfl (State.appendAll_touches _ _ _)

theorem State.auditGap_touches (s ch cause count first last) :
    Touches [.reg, .acc] s (State.auditGap s ch cause count first last) := by
  unfold State.auditGap
  exact Touches.after (State.count_touches _ _) rfl (Touches.mono rfl (State.append_touches _ _ _))

theorem State.chainStart_touches (s ch) :
    Touches [.reg, .acc] s (State.chainStart s ch) := by
  unfold State.chainStart
  extract_lets +onlyGivenNames x0
  clear_value x0
  extract_lets +onlyGivenNames x1
  clear_value x1
  extract_lets +onlyGivenNames x2
  clear_value x2
  extract_lets +onlyGivenNames x3
  refine Touches.cut (x := x3) ?_ (fun h4 => ?_)
  · unfold x3
    exact Touches.mono rfl (State.setChain_touches _ _ _)
  clear_value x3
  exact Touches.after (State.joinChain_touches _ _ _ _) rfl h4

theorem State.contentCommit_touches (s kind index newVer oldVer digest) :
    Touches [.reg, .acc] s (State.contentCommit s kind index newVer oldVer digest) := by
  unfold State.contentCommit
  extract_lets +onlyGivenNames x0
  clear_value x0
  extract_lets +onlyGivenNames x1
  clear_value x1
  extract_lets +onlyGivenNames x2
  refine Touches.cut (x := x2) ?_ (fun h3 => ?_)
  · unfold x2
    exact Touches.mono rfl (State.set_touches _ _ _)
  clear_value x2
  extract_lets +onlyGivenNames x4
  clear_value x4
  extract_lets +onlyGivenNames x5
  refine Touches.cut (x := x5) ?_ (fun h6 => ?_)
  · unfold x5
    exact Touches.put_acc rfl h3
  clear_value x5
  exact Touches.after (State.append_touches _ _ _) rfl h6

theorem State.gapRecords_touches (s) :
    Touches [.reg, .acc] s (State.gapRecords s) := by
  unfold State.gapRecords
  refine Touches.ite ?_ ?_
  · refine Touches.foldl ?_ (fun t1 x2 h0 => ?_)
    · exact Touches.refl _ _
    · extract_lets +onlyGivenNames x3
      clear_value x3
      refine Touches.ite ?_ ?_
      · extract_lets +onlyGivenNames x4
        refine Touches.cut (x := x4) ?_ (fun h5 => ?_)
        · unfold x4
          exact Touches.after (State.setChain_touches _ _ _) rfl h0
        clear_value x4
        exact Touches.after (State.auditGap_touches _ _ _ _ _ _) rfl h5
      · exact h0
  · exact Touches.refl _ _

theorem State.drainRecords_touches (s a1) :
    Touches [.out, .reg, .host, .acc] s (State.drainRecords s a1) := by
  induction a1 generalizing s with
  | zero => 
    unfold State.drainRecords
    exact Touches.refl _ _
  | succ m ih =>
    unfold State.drainRecords
    split
    · rename_i x0 h1
      exact Touches.refl _ _
    · rename_i x2 x3 x4 h5
      split
      · rename_i x6 h7
        exact Touches.refl _ _
      · rename_i x8 x9 h10
        refine Touches.cut (Touches.of_some h10 ?_) (fun k11 => ?_)
        · exact fun y e => Touches.after (State.writeRecord_touches _ _ _ _ _ _ y e) rfl (Touches.refl _ _)
        refine Touches.trans ?_ (ih _)
        exact Touches.put_acc rfl k11

theorem State.drainAccession_touches (s) :
    Touches [.out, .reg, .host, .acc] s (State.drainAccession s) := by
  unfold State.drainAccession
  exact Touches.after (State.gapRecords_touches _) rfl (Touches.mono rfl (State.drainRecords_touches _ _))

theorem State.freeBytes_touches (s a1) :
    Touches [.freeCtr] s (State.freeBytes s a1).2 := by
  induction a1 generalizing s with
  | zero => 
    unfold State.freeBytes
    exact Touches.snd_mk (Touches.refl _ _)
  | succ m ih =>
    unfold State.freeBytes
    split
    rename_i x0 x1 x2 h3
    refine Touches.cut (Touches.of_snd h3 ?_) (fun k4 => ?_)
    · exact Touches.mono rfl (State.free_touches _ _)
    split
    rename_i x5 x6 x7 h8
    refine Touches.cut (Touches.of_snd h8 ?_) (fun k9 => ?_)
    · refine Touches.trans ?_ (ih _)
      exact k4
    exact Touches.snd_mk k9

theorem State.loseBuffered_touches (s) :
    Touches [.reg, .acc] s (State.loseBuffered s) := by
  unfold State.loseBuffered
  split
  · rename_i x0 h1
    exact Touches.refl _ _
  · rename_i x2 x3 x4 h5
    extract_lets +onlyGivenNames x6
    clear_value x6
    extract_lets +onlyGivenNames x7
    clear_value x7
    exact Touches.after (State.auditGap_touches _ _ _ _ _ _) rfl (Touches.put_acc rfl (Touches.refl _ _))

theorem State.startChains_touches (s) :
    Touches [.reg, .acc] s (State.startChains s) := by
  unfold State.startChains
  extract_lets +onlyGivenNames x0
  refine Touches.cut (x := x0) ?_ (fun h1 => ?_)
  · unfold x0
    exact Touches.mono rfl (State.chainStart_touches _ _)
  clear_value x0
  extract_lets +onlyGivenNames x2
  refine Touches.cut (x := x2) ?_ (fun h3 => ?_)
  · unfold x2
    exact Touches.after (State.appendAll_touches _ _ _) rfl h1
  clear_value x2
  refine Touches.foldl ?_ (fun t5 x6 h4 => ?_)
  · exact h3
  · exact Touches.after (State.chainStart_touches _ _) rfl h4

/-! Machine/Nvm.lean -/

theorem State.modBank_touches (s b f) (hf : ∀ k : NvmBank, Memory.wf k.cells = true → Memory.wf (f k).cells = true) :
    Touches [.cells, .ops] s (State.modBank s b f) := by
  exact Touches.put_nvm rfl (fun hw => ⟨(length_modifyAt _ _ _).trans hw.1, all_modifyAt (fun k : NvmBank => Memory.wf k.cells = true) _ _ _ hf hw.2⟩) (Touches.refl _ _)

/-! Machine/Ledger.lean -/

theorem State.ledgerSettle_touches (s seq isSealed) :
    Touches [.freeCtr, .out, .reg, .host, .led] s (State.ledgerSettle s seq isSealed) := by
  unfold State.ledgerSettle
  extract_lets +onlyGivenNames x0
  clear_value x0
  extract_lets +onlyGivenNames x1
  clear_value x1
  extract_lets +onlyGivenNames x2
  refine Touches.cut (x := x2) ?_ (fun h3 => ?_)
  · unfold x2
    exact Touches.put_led rfl (Touches.refl _ _)
  clear_value x2
  refine Touches.foldl ?_ (fun t5 x6 h4 => ?_)
  · exact h3
  · refine Touches.ite ?_ ?_
    · exact Touches.after (State.complete_touches _ _ _ _) rfl h4
    · exact Touches.after (State.complete_touches _ _ _ _) rfl h4

theorem State.ledgerDrop_touches (s seq type) :
    Touches [.freeCtr, .out, .reg, .host, .led] s (State.ledgerDrop s seq type) := by
  unfold State.ledgerDrop
  extract_lets +onlyGivenNames x0
  refine Touches.cut (x := x0) ?_ (fun h1 => ?_)
  · unfold x0
    exact Touches.after (State.event_touches _ _ _ _) rfl (Touches.mono rfl (State.count_touches _ _))
  clear_value x0
  split
  · rename_i x2 x3
    exact Touches.after (State.ledgerSettle_touches _ _ _) rfl h1
  · rename_i x4
    exact h1

theorem State.takeSeq_touches (s) :
    Touches [.reg, .led] s (State.takeSeq s).2 := by
  unfold State.takeSeq
  extract_lets +onlyGivenNames x0
  clear_value x0
  extract_lets +onlyGivenNames x1
  clear_value x1
  extract_lets +onlyGivenNames x2
  refine Touches.cut (x := x2) ?_ (fun h3 => ?_)
  · unfold x2
    exact Touches.put_led rfl (Touches.refl _ _)
  clear_value x2
  exact Touches.snd_mk (Touches.after (State.set_touches _ _ _) rfl h3)

theorem State.ledgerPush_touches (s type content) :
    Touches [.reg, .led] s (State.ledgerPush s type content).2 := by
  unfold State.ledgerPush
  split
  rename_i x0 x1 x2 h3
  refine Touches.cut (Touches.of_snd h3 ?_) (fun k4 => ?_)
  · exact Touches.mono rfl (State.takeSeq_touches _)
  exact Touches.snd_mk (Touches.put_led rfl k4)

theorem State.ledgerKick_touches (s a1) :
    Touches [.freeCtr, .out, .reg, .host, .ops, .led] s (State.ledgerKick s a1) := by
  induction a1 generalizing s with
  | zero => 
    unfold State.ledgerKick
    exact Touches.refl _ _
  | succ m ih =>
    unfold State.ledgerKick
    refine Touches.ite ?_ ?_
    · exact Touches.refl _ _
    · split
      · rename_i x0 h1
        exact Touches.refl _ _
      · rename_i x2 x3 x4 h5
        extract_lets +onlyGivenNames x6
        clear_value x6
        extract_lets +onlyGivenNames x7
        clear_value x7
        extract_lets +onlyGivenNames x8
        clear_value x8
        refine Touches.ite ?_ ?_
        · refine Touches.trans ?_ (ih _)
          exact Touches.after (State.ledgerDrop_touches _ _ _) rfl (Touches.put_led rfl (Touches.refl _ _))
        · split
          rename_i x9 x10 x11 x12 h13
          refine Touches.cut (Touches.of_snd_snd h13 ?_) (fun k14 => ?_)
          · refine Touches.ite_snd_snd ?_ ?_
            · split
              rename_i x15 x16 x17 h18
              refine Touches.cut (Touches.of_snd h18 ?_) (fun k19 => ?_)
              · exact Touches.mono rfl (State.takeSeq_touches _)
              exact Touches.snd_snd_mk k19
            · exact Touches.snd_snd_mk (Touches.refl _ _)
          extract_lets +onlyGivenNames x20
          clear_value x20
          extract_lets +onlyGivenNames x21
          refine Touches.cut (x := x21) ?_ (fun h22 => ?_)
          · unfold x21
            exact Touches.put_led rfl k14
          clear_value x21
          extract_lets +onlyGivenNames x23
          refine Touches.cut (x := x23) ?_ (fun h24 => ?_)
          · unfold x23
            refine Touches.ite ?_ ?_
            · exact Touches.after (State.modBank_ops _ _ _ (fun _ => rfl)) rfl h22
            · exact h22
          clear_value x23
          refine Touches.ite ?_ ?_
          · exact Touches.after (State.modBank_ops _ _ _ (fun _ => rfl)) rfl h24
          · exact h24

theorem State.ledgerGo_touches (s) :
    Touches [.freeCtr, .out, .reg, .host, .ops, .led] s (State.ledgerGo s) := by
  unfold State.ledgerGo
  exact Touches.mono rfl (State.ledgerKick_touches _ _)

theorem State.ledgerRecord_touches (s type content) :
    Touches [.freeCtr, .out, .reg, .host, .ops, .led] s (State.ledgerRecord s type content).2 := by
  unfold State.ledgerRecord
  refine Touches.ite_snd ?_ ?_
  · exact Touches.snd_mk (Touches.after (State.ledgerDrop_touches _ _ _) rfl (Touches.put_led rfl (Touches.refl _ _)))
  · extract_lets +onlyGivenNames x0
    refine Touches.cut (x := x0) ?_ (fun h1 => ?_)
    · unfold x0
      refine Touches.ite ?_ ?_
      · exact Touches.mono rfl (State.ledgerPush_touches _ _ _)
      · exact Touches.refl _ _
    clear_value x0
    extract_lets +onlyGivenNames x2
    clear_value x2
    extract_lets +onlyGivenNames x3
    refine Touches.cut (x := x3) ?_ (fun h4 => ?_)
    · unfold x3
      exact Touches.put_led rfl h1
    clear_value x3
    split
    rename_i x5 x6 x7 h8
    refine Touches.cut (Touches.of_snd h8 ?_) (fun k9 => ?_)
    · exact Touches.after (State.ledgerPush_touches _ _ _) rfl h4
    exact Touches.snd_mk (Touches.after (State.ledgerGo_touches _) rfl k9)

theorem State.commandRecord_touches (s type content c bank) :
    Touches [.freeCtr, .out, .reg, .host, .ops, .led] s (State.commandRecord s type content c bank) := by
  unfold State.commandRecord
  extract_lets +onlyGivenNames x0
  clear_value x0
  split
  rename_i x1 x2 x3 h4
  refine Touches.cut (Touches.of_snd h4 ?_) (fun k5 => ?_)
  · exact Touches.mono rfl (State.ledgerRecord_touches _ _ _)
  extract_lets +onlyGivenNames x6
  clear_value x6
  refine Touches.ite ?_ ?_
  · exact Touches.after (State.complete_touches _ _ _ _) rfl k5
  · exact Touches.put_led rfl k5

theorem State.ledgerBankFail_touches (s b) :
    Touches [.out, .reg, .host] s (State.ledgerBankFail s b) := by
  unfold State.ledgerBankFail
  refine Touches.after (State.event_touches _ _ _ _) rfl (Touches.ite ?_ ?_)
  · exact Touches.mono rfl (State.set_touches _ _ _)
  · exact Touches.mono rfl (State.set_touches _ _ _)

theorem State.ledgerBegin_touches (s force seq page) :
    Touches [.reg, .led] s (State.ledgerBegin s force seq page) := by
  unfold State.ledgerBegin
  extract_lets +onlyGivenNames x0
  clear_value x0
  extract_lets +onlyGivenNames x1
  clear_value x1
  extract_lets +onlyGivenNames x2
  refine Touches.cut (x := x2) ?_ (fun h3 => ?_)
  · unfold x2
    exact Touches.put_led rfl (Touches.refl _ _)
  extract_lets +onlyGivenNames x4
  refine Touches.cut (x := x4) ?_ (fun h5 => ?_)
  · unfold x4
    exact Touches.after (State.ledgerPush_touches _ _ _) rfl h3
  extract_lets +onlyGivenNames x6
  refine Touches.cut (x := x6) ?_ (fun h7 => ?_)
  · unfold x6
    refine Touches.ite ?_ ?_
    · exact h5
    · exact Touches.after (State.ledgerPush_touches _ _ _) rfl h5
  clear_value x6
  refine Touches.foldl ?_ (fun t9 x10 h8 => ?_)
  · exact h7
  · exact Touches.after (State.ledgerPush_touches _ _ _) rfl (Touches.put_led rfl h8)

theorem State.ledgerFinish_touches (s) :
    Touches [.freeCtr, .out, .reg, .host, .led] s (State.ledgerFinish s).2 := by
  unfold State.ledgerFinish
  split
  · rename_i x0 h1
    exact Touches.snd_mk (Touches.refl _ _)
  · rename_i x2 x3 h4
    refine Touches.ite_snd ?_ ?_
    · exact Touches.snd_mk (Touches.refl _ _)
    · extract_lets +onlyGivenNames x5
      clear_value x5
      extract_lets +onlyGivenNames x6
      clear_value x6
      extract_lets +onlyGivenNames x7
      refine Touches.cut (x := x7) ?_ (fun h8 => ?_)
      · unfold x7
        exact Touches.put_led rfl (Touches.refl _ _)
      clear_value x7
      refine Touches.snd_mk (Touches.ite ?_ ?_)
      · exact Touches.after (State.ledgerSettle_touches _ _ _) rfl h8
      · exact Touches.after (State.ledgerDrop_touches _ _ _) rfl h8

theorem State.setPart_touches (s b p) :
    Touches [.led] s (State.setPart s b p) := by
  unfold State.setPart
  split
  · rename_i x0 h1
    exact Touches.refl _ _
  · rename_i x2 x3 h4
    exact Touches.put_led rfl (Touches.refl _ _)

theorem State.ledgerPageDone_touches (s b page failed) :
    Touches [.freeCtr, .out, .reg, .host, .cells, .ops, .led] s (State.ledgerPageDone s b page failed) := by
  unfold State.ledgerPageDone
  split
  · rename_i x0 h1
    exact Touches.refl _ _
  · rename_i x2 x3 h4
    extract_lets +onlyGivenNames x5
    clear_value x5
    extract_lets +onlyGivenNames x6
    refine Touches.cut (x := x6) ?_ (fun h7 => ?_)
    · unfold x6
      exact Touches.mono rfl (State.modBank_ops _ _ _ (fun _ => rfl))
    clear_value x6
    refine Touches.ite ?_ ?_
    · extract_lets +onlyGivenNames x8
      refine Touches.cut (x := x8) ?_ (fun h9 => ?_)
      · unfold x8
        exact Touches.after (State.count_touches _ _) rfl h7
      clear_value x8
      split
      rename_i x10 x11 x12 h13
      refine Touches.cut (Touches.of_snd h13 ?_) (fun k14 => ?_)
      · exact Touches.after (State.freeBytes_touches _ _) rfl h9
      extract_lets +onlyGivenNames x15
      refine Touches.cut (x := x15) ?_ (fun h16 => ?_)
      · unfold x15
        refine Touches.after (State.modBank_touches _ _ _ (fun k hk => ?_)) rfl ?_
        · first | exact hk | exact wf_programCells _ _ hk | exact wf_eraseCells _ _ hk | exact wf_writeCells _ _ (wf_eraseCells _ _ hk)
        · exact k14
      clear_value x15
      extract_lets +onlyGivenNames x17
      clear_value x17
      refine Touches.ite ?_ ?_
      · exact Touches.after (State.ledgerBankFail_touches _ _) rfl (Touches.after (State.setPart_touches _ _ _) rfl h16)
      · refine Touches.ite ?_ ?_
        · exact Touches.after (State.setPart_touches _ _ _) rfl h16
        · extract_lets +onlyGivenNames x18
          refine Touches.cut (x := x18) ?_ (fun h19 => ?_)
          · unfold x18
            exact Touches.after (State.setPart_touches _ _ _) rfl (Touches.after (State.count_touches _ _) rfl h16)
          clear_value x18
          exact Touches.after (State.modBank_ops _ _ _ (fun _ => rfl)) rfl h19
    · extract_lets +onlyGivenNames x20
      clear_value x20
      extract_lets +onlyGivenNames x21
      refine Touches.cut (x := x21) ?_ (fun h22 => ?_)
      · unfold x21
        refine Touches.after (State.modBank_touches _ _ _ (fun k hk => ?_)) rfl ?_
        · first | exact hk | exact wf_programCells _ _ hk | exact wf_eraseCells _ _ hk | exact wf_writeCells _ _ (wf_eraseCells _ _ hk)
        · exact h7
      clear_value x21
      exact Touches.after (State.setPart_touches _ _ _) rfl h22

theorem State.ledgerScan_touches (s) :
    Touches [.freeCtr, .reg, .led] s (State.ledgerScan s) := by
  unfold State.ledgerScan
  split
  · rename_i x0 h1
    extract_lets +onlyGivenNames x2
    clear_value x2
    split
    rename_i x3 x4 x5 h6
    refine Touches.cut (Touches.of_snd h6 ?_) (fun k7 => ?_)
    · exact Touches.mono rfl (State.free_touches _ _)
    extract_lets +onlyGivenNames x8
    refine Touches.cut (x := x8) ?_ (fun h9 => ?_)
    · unfold x8
      exact Touches.after (State.ledgerBegin_touches _ _ _ _) rfl k7
    clear_value x8
    exact Touches.after (State.set_touches _ _ _) rfl (Touches.after (State.set_touches _ _ _) rfl h9)
  · rename_i x10 x11 x12 h13
    extract_lets +onlyGivenNames x14
    clear_value x14
    extract_lets +onlyGivenNames x15
    clear_value x15
    extract_lets +onlyGivenNames x16
    clear_value x16
    extract_lets +onlyGivenNames x17
    clear_value x17
    extract_lets +onlyGivenNames x18
    clear_value x18
    extract_lets +onlyGivenNames x19
    clear_value x19
    extract_lets +onlyGivenNames x20
    clear_value x20
    extract_lets +onlyGivenNames x21
    refine Touches.cut (x := x21) ?_ (fun h22 => ?_)
    · unfold x21
      exact Touches.mono rfl (State.ledgerBegin_touches _ _ _ _)
    clear_value x21
    exact Touches.after (State.set_touches _ _ _) rfl h22

end Sys2Proof.Machine
end

