-- ==== Sys2Proof/Laws/TouchesIntake.lean ====
section
/-!
SUPPORT. What the operations of the Strands, the tables, the intake and the verdicts may change: one lemma each.
-/
namespace Sys2Proof.Machine

/-! Machine/Strands.lean -/

theorem State.causeAll_touches (s p r) :
    Touches [.frames, .srv] s (State.causeAll s p r) := by
  unfold State.causeAll
  extract_lets +onlyGivenNames x0
  clear_value x0
  extract_lets +onlyGivenNames x1
  clear_value x1
  exact Touches.put_frames_srv rfl (Touches.refl _ _)

theorem State.cause_touches (s k r) :
    Touches [.frames, .srv] s (State.cause s k r) := by
  unfold State.cause
  exact Touches.mono rfl (State.causeAll_touches _ _ _)

theorem State.enter_touches (s i st) :
    Touches [.strands] s (State.enter s i st) := by
  unfold State.enter
  exact Touches.mono rfl (State.modStrand_touches _ _ _)

theorem State.retryFrame_touches (s k st) :
    Touches [.reg, .frames, .srv] s (State.retryFrame s k st).2 := by
  unfold State.retryFrame
  split
  · rename_i x0 h1
    exact Touches.snd_mk (Touches.refl _ _)
  · rename_i x2 x3 h4
    extract_lets +onlyGivenNames x5
    clear_value x5
    refine Touches.ite_snd ?_ ?_
    · exact Touches.snd_mk (Touches.after (State.modFrame_touches _ _ _) rfl (Touches.mono rfl (State.count_touches _ _)))
    · exact Touches.snd_mk (Touches.mono rfl (State.cause_touches _ _ _))

theorem State.rollFinish_touches (s g) :
    Touches [.freeCtr, .out, .reg, .host, .ops, .led, .strands, .img] s (State.rollFinish s g) := by
  unfold State.rollFinish
  extract_lets +onlyGivenNames x0
  clear_value x0
  extract_lets +onlyGivenNames x1
  refine Touches.cut (x := x1) ?_ (fun h2 => ?_)
  · unfold x1
    exact Touches.put_strands_img rfl (fun hw => by simpa using hw) (Touches.refl _ _)
  clear_value x1
  extract_lets +onlyGivenNames x3
  clear_value x3
  extract_lets +onlyGivenNames x4
  refine Touches.cut (x := x4) ?_ (fun h5 => ?_)
  · unfold x4
    exact Touches.after (State.set_touches _ _ _) rfl (Touches.after (State.set_touches _ _ _) rfl h2)
  clear_value x4
  extract_lets +onlyGivenNames x6
  refine Touches.cut (x := x6) ?_ (fun h7 => ?_)
  · unfold x6
    exact Touches.after (State.set_touches _ _ _) rfl (Touches.after (State.set_touches _ _ _) rfl h5)
  clear_value x6
  extract_lets +onlyGivenNames x8
  refine Touches.cut (x := x8) ?_ (fun h9 => ?_)
  · unfold x8
    exact Touches.after (State.set_touches _ _ _) rfl h7
  clear_value x8
  exact Touches.after (State.commandRecord_touches _ _ _ _ _) rfl (Touches.after (State.set_touches _ _ _) rfl h9)

theorem State.rollReverted_touches (s g) :
    Touches [.freeCtr, .out, .reg, .host, .img] s (State.rollReverted s g) := by
  unfold State.rollReverted
  extract_lets +onlyGivenNames x0
  clear_value x0
  extract_lets +onlyGivenNames x1
  refine Touches.cut (x := x1) ?_ (fun h2 => ?_)
  · unfold x1
    exact Touches.put_img rfl (Touches.refl _ _)
  clear_value x1
  extract_lets +onlyGivenNames x3
  clear_value x3
  extract_lets +onlyGivenNames x4
  refine Touches.cut (x := x4) ?_ (fun h5 => ?_)
  · unfold x4
    exact Touches.after (State.set_touches _ _ _) rfl h2
  clear_value x4
  exact Touches.after (State.complete_touches _ _ _ _) rfl h5

theorem State.rollNext_touches (s g) :
    Touches [.freeCtr, .out, .reg, .host, .ops, .led, .strands, .img] s (State.rollNext s g) := by
  unfold State.rollNext
  refine Touches.ite ?_ ?_
  · refine Touches.ite ?_ ?_
    · exact Touches.mono rfl (State.rollReverted_touches _ _)
    · exact Touches.mono rfl (State.rollFinish_touches _ _)
  · exact Touches.put_img rfl (Touches.refl _ _)

theorem State.rollRevert_touches (s fault) :
    Touches [.freeCtr, .out, .reg, .host, .ops, .led, .strands, .img] s (State.rollRevert s fault) := by
  unfold State.rollRevert
  split
  · rename_i x0 h1
    exact Touches.refl _ _
  · rename_i x2 x3 h4
    refine Touches.ite ?_ ?_
    · extract_lets +onlyGivenNames x5
      refine Touches.cut (x := x5) ?_ (fun h6 => ?_)
      · unfold x5
        exact Touches.after (State.set_touches _ _ _) rfl (Touches.mono rfl (State.set_touches _ _ _))
      clear_value x5
      extract_lets +onlyGivenNames x7
      clear_value x7
      extract_lets +onlyGivenNames x8
      clear_value x8
      extract_lets +onlyGivenNames x9
      clear_value x9
      extract_lets +onlyGivenNames x10
      refine Touches.cut (x := x10) ?_ (fun h11 => ?_)
      · unfold x10
        split
        · rename_i x12 x13 h14
          refine Touches.ite ?_ ?_
          · exact Touches.after (State.modStrand_touches _ _ _) rfl h6
          · exact h6
        · rename_i x15 h16
          exact h6
      clear_value x10
      exact Touches.after (State.rollNext_touches _ _) rfl h11
    · exact Touches.refl _ _

theorem State.rollTaken_touches (s i runs) :
    Touches [.freeCtr, .out, .reg, .host, .ops, .led, .strands, .img] s (State.rollTaken s i runs) := by
  unfold State.rollTaken
  split
  · rename_i x0 h1
    exact Touches.refl _ _
  · rename_i x2 x3 h4
    refine Touches.ite ?_ ?_
    · extract_lets +onlyGivenNames x5
      clear_value x5
      extract_lets +onlyGivenNames x6
      refine Touches.cut (x := x6) ?_ (fun h7 => ?_)
      · unfold x6
        refine Touches.ite ?_ ?_
        · exact Touches.mono rfl (State.setBits_touches _ _ _)
        · exact Touches.mono rfl (State.clearBits_touches _ _ _)
      clear_value x6
      exact Touches.after (State.rollNext_touches _ _) rfl h7
    · exact Touches.refl _ _

theorem State.settleSwaps_touches (s i detail) :
    Touches [.freeCtr, .out, .reg, .host, .img] s (State.settleSwaps s i detail) := by
  unfold State.settleSwaps
  extract_lets +onlyGivenNames x0
  clear_value x0
  extract_lets +onlyGivenNames x1
  clear_value x1
  extract_lets +onlyGivenNames x2
  refine Touches.cut (x := x2) ?_ (fun h3 => ?_)
  · unfold x2
    exact Touches.put_img rfl (Touches.refl _ _)
  clear_value x2
  extract_lets +onlyGivenNames x4
  clear_value x4
  extract_lets +onlyGivenNames x5
  refine Touches.cut (x := x5) ?_ (fun h6 => ?_)
  · unfold x5
    refine Touches.ite ?_ ?_
    · exact h3
    · exact Touches.after (State.set_touches _ _ _) rfl h3
  clear_value x5
  refine Touches.foldl ?_ (fun t8 x9 h7 => ?_)
  · exact h6
  · exact Touches.after (State.complete_touches _ _ _ _) rfl h7

theorem State.strandDrain_touches (s i bank forced) :
    Touches [.strands, .frames, .srv] s (State.strandDrain s i bank forced) := by
  unfold State.strandDrain
  extract_lets +onlyGivenNames x0
  refine Touches.cut (x := x0) ?_ (fun h1 => ?_)
  · unfold x0
    exact Touches.after (State.modStrand_touches _ _ _) rfl (Touches.mono rfl (State.enter_touches _ _ _))
  clear_value x0
  refine Touches.ite ?_ ?_
  · exact Touches.after (State.causeAll_touches _ _ _) rfl h1
  · exact h1

theorem State.startSwaps_touches (s) :
    Touches [.strands, .frames, .srv, .img] s (State.startSwaps s) := by
  unfold State.startSwaps
  refine Touches.foldl ?_ (fun t1 x2 h0 => ?_)
  · exact Touches.refl _ _
  · refine Touches.ite ?_ ?_
    · extract_lets +onlyGivenNames x3
      clear_value x3
      extract_lets +onlyGivenNames x4
      refine Touches.cut (x := x4) ?_ (fun h5 => ?_)
      · unfold x4
        exact Touches.put_img rfl h0
      clear_value x4
      exact Touches.after (State.strandDrain_touches _ _ _ _) rfl h5
    · exact h0

theorem State.strandExclude_touches (s i) :
    Touches [.reg, .strands] s (State.strandExclude s i) := by
  unfold State.strandExclude
  refine Touches.ite ?_ ?_
  · exact Touches.after (State.set_touches _ _ _) rfl (Touches.mono rfl (State.enter_touches _ _ _))
  · exact Touches.refl _ _

theorem State.strandFault_touches (s i f) :
    Touches [.out, .reg, .host, .strands] s (State.strandFault s i f) := by
  unfold State.strandFault
  exact Touches.after (State.event_touches _ _ _ _) rfl (Touches.mono rfl (State.modStrand_touches _ _ _))

theorem State.strandLoad_touches (s i bank) :
    Touches [.strands] s (State.strandLoad s i bank) := by
  unfold State.strandLoad
  exact Touches.after (State.modStrand_touches _ _ _) rfl (Touches.mono rfl (State.enter_touches _ _ _))

theorem State.strandOff_touches (s i f) :
    Touches [.freeCtr, .out, .reg, .host, .ops, .led, .strands, .img] s (State.strandOff s i f) := by
  unfold State.strandOff
  extract_lets +onlyGivenNames x0
  refine Touches.cut (x := x0) ?_ (fun h1 => ?_)
  · unfold x0
    exact Touches.after (State.modStrand_touches _ _ _) rfl (Touches.mono rfl (State.enter_touches _ _ _))
  clear_value x0
  extract_lets +onlyGivenNames x2
  refine Touches.cut (x := x2) ?_ (fun h3 => ?_)
  · unfold x2
    refine Touches.ite ?_ ?_
    · exact h1
    · exact Touches.after (State.strandFault_touches _ _ _) rfl h1
  clear_value x2
  extract_lets +onlyGivenNames x4
  refine Touches.cut (x := x4) ?_ (fun h5 => ?_)
  · unfold x4
    exact Touches.after (State.settleSwaps_touches _ _ _) rfl h3
  clear_value x4
  split
  · rename_i x6 x7 h8
    refine Touches.ite ?_ ?_
    · exact Touches.after (State.rollRevert_touches _ _) rfl h5
    · exact Touches.after (State.rollTaken_touches _ _ _) rfl h5
  · rename_i x9 h10
    exact h5

theorem State.strandRetire_touches (s i) :
    Touches [.freeCtr, .out, .reg, .host, .ops, .led, .strands, .frames, .srv, .img] s (State.strandRetire s i) := by
  unfold State.strandRetire
  extract_lets +onlyGivenNames x0
  refine Touches.cut (x := x0) ?_ (fun h1 => ?_)
  · unfold x0
    refine Touches.ite ?_ ?_
    · exact Touches.refl _ _
    · exact Touches.mono rfl (State.enter_touches _ _ _)
  clear_value x0
  extract_lets +onlyGivenNames x2
  refine Touches.cut (x := x2) ?_ (fun h3 => ?_)
  · unfold x2
    exact Touches.after (State.strandFault_touches _ _ _) rfl h1
  clear_value x2
  extract_lets +onlyGivenNames x4
  refine Touches.cut (x := x4) ?_ (fun h5 => ?_)
  · unfold x4
    exact Touches.after (State.causeAll_touches _ _ _) rfl h3
  clear_value x4
  extract_lets +onlyGivenNames x6
  clear_value x6
  extract_lets +onlyGivenNames x7
  refine Touches.cut (x := x7) ?_ (fun h8 => ?_)
  · unfold x7
    exact Touches.put_img rfl h5
  clear_value x7
  exact Touches.after (State.rollTaken_touches _ _ _) rfl (Touches.after (State.settleSwaps_touches _ _ _) rfl h8)

theorem State.strandReturn_touches (s i) :
    Touches [.strands, .frames, .srv, .img] s (State.strandReturn s i) := by
  unfold State.strandReturn
  refine Touches.ite ?_ ?_
  · exact Touches.after (State.startSwaps_touches _) rfl (Touches.mono rfl (State.enter_touches _ _ _))
  · exact Touches.refl _ _

theorem State.strandServe_touches (s i) :
    Touches [.freeCtr, .out, .reg, .host, .ops, .led, .strands, .frames, .srv, .img] s (State.strandServe s i) := by
  unfold State.strandServe
  extract_lets +onlyGivenNames x0
  refine Touches.cut (x := x0) ?_ (fun h1 => ?_)
  · unfold x0
    exact Touches.after (State.modStrand_touches _ _ _) rfl (Touches.mono rfl (State.enter_touches _ _ _))
  clear_value x0
  refine Touches.after (State.startSwaps_touches _) rfl ?_
  exact Touches.after (State.rollTaken_touches _ _ _) rfl (Touches.after (State.settleSwaps_touches _ _ _) rfl h1)

/-! Machine/VitOps.lean -/

theorem State.modVtable_touches (s t f) :
    Touches [.vit] s (State.modVtable s t f) := by
  unfold State.modVtable
  exact Touches.put_vit rfl (Touches.refl _ _)

theorem State.setCur_touches (s t op plan) :
    Touches [.vit] s (State.setCur s t op plan) := by
  unfold State.setCur
  exact Touches.mono rfl (State.modVtable_touches _ _ _)

theorem State.modVbank_touches (s b f) :
    Touches [.vit] s (State.modVbank s b f) := by
  unfold State.modVbank
  exact Touches.put_vit rfl (Touches.refl _ _)

theorem State.applyPrim_touches (s b t p) :
    Touches [.vit] s (State.applyPrim s b t p) := by
  unfold State.applyPrim
  extract_lets +onlyGivenNames x0
  refine Touches.cut (x := x0) ?_ (fun h1 => ?_)
  · unfold x0
    exact Touches.mono rfl (State.modVbank_touches _ _ _)
  clear_value x0
  refine Touches.ite ?_ ?_
  · refine Touches.foldl ?_ (fun t3 x4 h2 => ?_)
    · exact h1
    · exact Touches.after (State.modVbank_touches _ _ _) rfl h2
  · exact h1

theorem State.advanceOp_touches (s b t) :
    Touches [.vit] s (State.advanceOp s b t) := by
  unfold State.advanceOp
  split
  · rename_i x0 h1
    exact Touches.refl _ _
  · rename_i x2 x3 h4
    split
    · rename_i x5 h6
      exact Touches.mono rfl (State.setCur_touches _ _ _ _)
    · rename_i x7 x8 x9 x10 h11
      exact Touches.refl _ _
    · rename_i x12 x13 x14 h15 h16
      exact Touches.after (State.setCur_touches _ _ _ _) rfl (Touches.mono rfl (State.applyPrim_touches _ _ _ _))

theorem State.bankGone_touches (s b) :
    Touches [.vit] s (State.bankGone s b) := by
  unfold State.bankGone
  exact Touches.mono rfl (State.modVbank_touches _ _ _)

theorem State.batchNote_touches (s t load index p) :
    Touches [.out, .reg, .host] s (State.batchNote s t load index p) := by
  unfold State.batchNote
  extract_lets +onlyGivenNames x0
  clear_value x0
  extract_lets +onlyGivenNames x1
  refine Touches.cut (x := x1) ?_ (fun h2 => ?_)
  · unfold x1
    exact Touches.put_host rfl (Touches.refl _ _)
  clear_value x1
  split
  · rename_i x3 h4
    exact h2
  · rename_i x5 x6 h7
    exact Touches.after (State.event_touches _ _ _ _) rfl (Touches.after (State.setBits_touches _ _ _) rfl h2)

theorem State.bumpLseq_touches (s t) :
    Touches [.vit] s (State.bumpLseq s t) := by
  unfold State.bumpLseq
  exact Touches.mono rfl (State.modVtable_touches _ _ _)

theorem State.deliver_touches (s k id l) :
    Touches [.frames] s (State.deliver s k id l) := by
  unfold State.deliver
  exact Touches.mono rfl (State.modFrame_touches _ _ _)

theorem State.setStaleAll_touches (s t addr v) :
    Touches [.vit] s (State.setStaleAll s t addr v) := by
  unfold State.setStaleAll
  refine Touches.foldl ?_ (fun t1 x2 h0 => ?_)
  · exact Touches.refl _ _
  · exact Touches.after (State.modVbank_touches _ _ _) rfl h0

theorem State.commitLearn_touches (s b t l how addr) :
    Touches [.out, .reg, .host, .frames, .vit] s (State.commitLearn s b t l how addr) := by
  unfold State.commitLearn
  extract_lets +onlyGivenNames x0
  clear_value x0
  split
  · rename_i x1
    extract_lets +onlyGivenNames x2
    refine Touches.cut (x := x2) ?_ (fun h3 => ?_)
    · unfold x2
      exact Touches.mono rfl (State.bumpLseq_touches _ _)
    clear_value x2
    extract_lets +onlyGivenNames x4
    refine Touches.cut (x := x4) ?_ (fun h5 => ?_)
    · unfold x4
      exact Touches.after (State.applyPrim_touches _ _ _ _) rfl h3
    clear_value x4
    exact Touches.after (State.deliver_touches _ _ _ _) rfl h5
  · rename_i x6
    extract_lets +onlyGivenNames x7
    refine Touches.cut (x := x7) ?_ (fun h8 => ?_)
    · unfold x7
      exact Touches.mono rfl (State.bumpLseq_touches _ _)
    clear_value x7
    extract_lets +onlyGivenNames x9
    clear_value x9
    split
    rename_i x10 x11 x12 h13
    extract_lets +onlyGivenNames x14
    clear_value x14
    extract_lets +onlyGivenNames x15
    clear_value x15
    extract_lets +onlyGivenNames x16
    refine Touches.cut (x := x16) ?_ (fun h17 => ?_)
    · unfold x16
      exact Touches.after (State.count_touches _ _) rfl (Touches.after (State.applyPrim_touches _ _ _ _) rfl h8)
    clear_value x16
    extract_lets +onlyGivenNames x18
    refine Touches.cut (x := x18) ?_ (fun h19 => ?_)
    · unfold x18
      exact Touches.after (State.event_touches _ _ _ _) rfl h17
    clear_value x18
    extract_lets +onlyGivenNames x20
    refine Touches.cut (x := x20) ?_ (fun h21 => ?_)
    · unfold x20
      refine Touches.ite ?_ ?_
      · refine Touches.after (State.event_touches _ _ _ _) rfl ?_
        exact Touches.after (State.setBits_touches _ _ _) rfl (Touches.after (State.count_touches _ _) rfl h19)
      · exact h19
    clear_value x20
    exact Touches.after (State.deliver_touches _ _ _ _) rfl h21
  · rename_i x22
    extract_lets +onlyGivenNames x23
    clear_value x23
    extract_lets +onlyGivenNames x24
    refine Touches.cut (x := x24) ?_ (fun h25 => ?_)
    · unfold x24
      refine Touches.ite ?_ ?_
      · exact Touches.mono rfl (State.setStaleAll_touches _ _ _ _)
      · exact Touches.refl _ _
    clear_value x24
    exact Touches.after (State.deliver_touches _ _ _ _) rfl h25
  · rename_i x26
    extract_lets +onlyGivenNames x27
    clear_value x27
    exact Touches.after (State.deliver_touches _ _ _ _) rfl (Touches.mono rfl (State.count_touches _ _))
  · rename_i x28
    exact Touches.after (State.deliver_touches _ _ _ _) rfl (Touches.mono rfl (State.count_touches _ _))

theorem State.countSearch_touches (s l) :
    Touches [.reg] s (State.countSearch s l) := by
  unfold State.countSearch
  extract_lets +onlyGivenNames x0
  refine Touches.cut (x := x0) ?_ (fun h1 => ?_)
  · unfold x0
    exact Touches.mono rfl (State.count_touches _ _)
  clear_value x0
  refine Touches.ite ?_ ?_
  · exact Touches.after (State.count_touches _ _) rfl h1
  · exact h1

theorem State.startOp_touches (s b t) :
    Touches [.out, .reg, .host, .vit] s (State.startOp s b t) := by
  unfold State.startOp
  split
  · rename_i x0 h1
    exact Touches.refl _ _
  · rename_i x2 x3 x4 h5
    extract_lets +onlyGivenNames x6
    refine Touches.cut (x := x6) ?_ (fun h7 => ?_)
    · unfold x6
      exact Touches.mono rfl (State.modVtable_touches _ _ _)
    clear_value x6
    split
    · rename_i x8 x9 x10 x11 x12
      extract_lets +onlyGivenNames x13
      clear_value x13
      exact Touches.after (State.setCur_touches _ _ _ _) rfl (Touches.after (State.batchNote_touches _ _ _ _ _) rfl h7)
    · rename_i x14 x15
      exact Touches.after (State.setCur_touches _ _ _ _) rfl h7
    · rename_i x16 x17
      exact Touches.after (State.setCur_touches _ _ _ _) rfl h7

theorem State.endFree_touches (s b t a3) :
    Touches [.out, .reg, .host, .vit] s (State.endFree s b t a3) := by
  induction a3 generalizing s with
  | zero => 
    unfold State.endFree
    exact Touches.refl _ _
  | succ m ih =>
    unfold State.endFree
    split
    · rename_i x0 x1 x2 x3 x4 x5 x6 h7 h8
      refine Touches.ite ?_ ?_
      · exact Touches.refl _ _
      · refine Touches.ite ?_ ?_
        · refine Touches.trans ?_ (ih _)
          exact Touches.mono rfl (State.startOp_touches _ _ _)
        · exact Touches.refl _ _
    · rename_i x9 x10 h11
      exact Touches.refl _ _

theorem State.settleTable_touches (s t) :
    Touches [.out, .reg, .host, .vit] s (State.settleTable s t) := by
  unfold State.settleTable
  split
  · rename_i x0 x1 h2
    exact Touches.mono rfl (State.endFree_touches _ _ _ _)
  · rename_i x3 h4
    exact Touches.refl _ _

theorem State.sweepTable_touches (s t) :
    Touches [.reg, .vit] s (State.sweepTable s t) := by
  unfold State.sweepTable
  split
  · rename_i x0 h1
    exact Touches.refl _ _
  · rename_i x2 x3 h4
    extract_lets +onlyGivenNames x5
    clear_value x5
    refine Touches.foldl ?_ (fun t7 x8 h6 => ?_)
    · exact Touches.refl _ _
    · extract_lets +onlyGivenNames x9
      clear_value x9
      extract_lets +onlyGivenNames x10
      clear_value x10
      refine Touches.ite ?_ ?_
      · refine Touches.ite ?_ ?_
        · exact Touches.after (State.modVtable_touches _ _ _) rfl h6
        · exact Touches.after (State.count_touches _ _) rfl (Touches.after (State.setStaleAll_touches _ _ _ _) rfl h6)
      · exact h6

theorem State.updateSlot_touches (s b) :
    Touches [.out, .reg, .host, .vit] s (State.updateSlot s b) := by
  unfold State.updateSlot
  extract_lets +onlyGivenNames x0
  clear_value x0
  split
  · rename_i x1 x2 x3 h4
    exact Touches.mono rfl (State.modVbank_touches _ _ _)
  · rename_i x5 h6
    extract_lets +onlyGivenNames x7
    refine Touches.cut (x := x7) ?_ (fun h8 => ?_)
    · unfold x7
      exact Touches.mono rfl (State.modVbank_touches _ _ _)
    clear_value x7
    split
    · rename_i x9 x10 x11 x12 h13
      exact Touches.after (State.modVbank_touches _ _ _) rfl h8
    · rename_i x14 h15
      split
      · rename_i x16 h17
        exact h8
      · rename_i x18 x19 x20 h21
        split
        · rename_i x22 x23 h24
          exact Touches.after (State.settleTable_touches _ _) rfl (Touches.after (State.advanceOp_touches _ _ _) rfl h8)
        · rename_i x25 h26
          extract_lets +onlyGivenNames x27
          clear_value x27
          extract_lets +onlyGivenNames x28
          refine Touches.cut (x := x28) ?_ (fun h29 => ?_)
          · unfold x28
            exact Touches.after (State.startOp_touches _ _ _) rfl h8
          clear_value x28
          refine Touches.after (State.settleTable_touches _ _) rfl (Touches.ite ?_ ?_)
          · exact h29
          · exact Touches.after (State.advanceOp_touches _ _ _) rfl h29

/-! Machine/IntakeOps.lean -/

theorem State.admitTexts_touches (s i a2) :
    Touches [.frames] s (State.admitTexts s i a2) := by
  induction a2 generalizing s with
  | zero => 
    unfold State.admitTexts
    exact Touches.refl _ _
  | succ m ih =>
    unfold State.admitTexts
    split
    · rename_i x0 h1
      exact Touches.refl _ _
    · rename_i x2 x3 h4
      refine Touches.ite ?_ ?_
      · refine Touches.trans ?_ (ih _)
        exact Touches.mono rfl (State.modFrame_touches _ _ _)
      · exact Touches.refl _ _

theorem State.modStream_touches (s k g) :
    Touches [.streams] s (State.modStream s k g) := by
  unfold State.modStream
  exact Touches.put_streams rfl (Touches.refl _ _)

theorem State.queueFreed_touches (s i) :
    Touches [.frames] s (State.queueFreed s i) := by
  unfold State.queueFreed
  exact Touches.mono rfl (State.admitTexts_touches _ _ _)

theorem State.refusalId_touches (s) :
    Touches [.refused] s (State.refusalId s).2 := by
  unfold State.refusalId
  exact Touches.snd_mk (Touches.put_refused rfl (Touches.refl _ _))

theorem State.takeSeqOf_touches (s i) :
    Touches [.strands] s (State.takeSeqOf s i).2 := by
  unfold State.takeSeqOf
  extract_lets +onlyGivenNames x0
  clear_value x0
  exact Touches.snd_mk (Touches.mono rfl (State.modStrand_touches _ _ _))

/-! Machine/Macsec.lean -/

theorem State.msecOpen_touches (s p bs) :
    ∀ v y, (State.msecOpen s p bs) = some (v, y) → Touches [.sas] s y := by
  unfold State.msecOpen
  refine Touches.ite_some_snd ?_ ?_
  · exact Touches.none_snd
  · extract_lets +onlyGivenNames x0
    clear_value x0
    extract_lets +onlyGivenNames x1
    clear_value x1
    extract_lets +onlyGivenNames x2
    clear_value x2
    split
    · rename_i x3 h4
      exact Touches.none_snd
    · rename_i x5 x6 h7
      split
      · rename_i x8 h9
        exact Touches.none_snd
      · rename_i x10 x11 h12
        extract_lets +onlyGivenNames x13
        clear_value x13
        refine Touches.ite_some_snd ?_ ?_
        · exact Touches.none_snd
        · split
          · rename_i x14 h15
            exact Touches.none_snd
          · rename_i x16 x17 h18
            extract_lets +onlyGivenNames x19
            clear_value x19
            exact Touches.some_snd (Touches.put_sas rfl (Touches.refl _ _))

theorem State.txHalt_touches (s p) :
    Touches [.out, .reg, .host] s (State.txHalt s p) := by
  unfold State.txHalt
  exact Touches.after (State.event_touches _ _ _ _) rfl (Touches.mono rfl (State.set_touches _ _ _))

theorem State.protect_touches (s p bs) :
    Touches [.out, .reg, .host, .sas] s (State.protect s p bs).2 := by
  unfold State.protect
  refine Touches.ite_snd ?_ ?_
  · exact Touches.snd_mk (Touches.refl _ _)
  · refine Touches.ite_snd ?_ ?_
    · exact Touches.snd_mk (Touches.refl _ _)
    · split
      · rename_i x0 h1
        exact Touches.snd_mk (Touches.mono rfl (State.txHalt_touches _ _))
      · rename_i x2 x3 h4
        split
        · rename_i x5 h6
          exact Touches.snd_mk (Touches.mono rfl (State.txHalt_touches _ _))
        · rename_i x7 x8 h9
          extract_lets +onlyGivenNames x10
          refine Touches.cut (x := x10) ?_ (fun h11 => ?_)
          · unfold x10
            exact Touches.mono rfl (State.set_touches _ _ _)
          clear_value x10
          extract_lets +onlyGivenNames x12
          clear_value x12
          extract_lets +onlyGivenNames x13
          refine Touches.cut (x := x13) ?_ (fun h14 => ?_)
          · unfold x13
            exact Touches.put_sas rfl h11
          clear_value x13
          extract_lets +onlyGivenNames x15
          refine Touches.cut (x := x15) ?_ (fun h16 => ?_)
          · unfold x15
            refine Touches.ite ?_ ?_
            · exact Touches.after (State.event_touches _ _ _ _) rfl h14
            · exact h14
          clear_value x15
          exact Touches.snd_mk h16

theorem State.saDisable_touches (s) :
    Touches [.out, .reg, .host, .sas] s (State.saDisable s) := by
  unfold State.saDisable
  split
  rename_i x0 x1 x2 x3 x4 h5
  extract_lets +onlyGivenNames x6
  clear_value x6
  split
  · rename_i x7 h8
    exact Touches.refl _ _
  · rename_i x9 x10 h11
    extract_lets +onlyGivenNames x12
    refine Touches.cut (x := x12) ?_ (fun h13 => ?_)
    · unfold x12
      exact Touches.put_sas rfl (Touches.refl _ _)
    clear_value x12
    refine Touches.ite ?_ ?_
    · split
      · rename_i x14 x15 h16
        exact Touches.after (State.set_touches _ _ _) rfl h13
      · rename_i x17 h18
        exact Touches.after (State.txHalt_touches _ _) rfl h13
    · exact h13

theorem State.saEnabled_touches (s p an tx) :
    Touches [.reg] s (State.saEnabled s p an tx) := by
  unfold State.saEnabled
  extract_lets +onlyGivenNames x0
  clear_value x0
  extract_lets +onlyGivenNames x1
  clear_value x1
  extract_lets +onlyGivenNames x2
  clear_value x2
  extract_lets +onlyGivenNames x3
  refine Touches.cut (x := x3) ?_ (fun h4 => ?_)
  · unfold x3
    refine Touches.ite ?_ ?_
    · exact Touches.mono rfl (State.set_touches _ _ _)
    · exact Touches.refl _ _
  clear_value x3
  refine Touches.ite ?_ ?_
  · exact Touches.after (State.set_touches _ _ _) rfl h4
  · exact h4

theorem State.saInstall_touches (s) :
    Touches [.reg, .sas] s (State.saInstall s) := by
  unfold State.saInstall
  split
  rename_i x0 x1 x2 x3 x4 h5
  extract_lets +onlyGivenNames x6
  clear_value x6
  extract_lets +onlyGivenNames x7
  refine Touches.cut (x := x7) ?_ (fun h8 => ?_)
  · unfold x7
    exact Touches.put_sas rfl (Touches.refl _ _)
  clear_value x7
  exact Touches.after (State.saEnabled_touches _ _ _ _) rfl h8

/-! Machine/Intake.lean -/

theorem State.openStream_touches (s c ident final tArr) :
    Touches [.reg, .nextFrame, .streams] s (State.openStream s c ident final tArr).2 := by
  unfold State.openStream
  split
  · rename_i x0 x1 h2
    exact Touches.snd_mk (Touches.mono rfl (State.modStream_touches _ _ _))
  · rename_i x3 h4
    refine Touches.ite_snd ?_ ?_
    · exact Touches.snd_mk (Touches.mono rfl (State.count_touches _ _))
    · extract_lets +onlyGivenNames x5
      clear_value x5
      exact Touches.snd_mk (Touches.put_nextFrame_streams rfl (Touches.refl _ _))

theorem State.countVerdict_touches (s f) :
    Touches [.reg] s (State.countVerdict s f) := by
  unfold State.countVerdict
  extract_lets +onlyGivenNames x0
  clear_value x0
  extract_lets +onlyGivenNames x1
  refine Touches.cut (x := x1) ?_ (fun h2 => ?_)
  · unfold x1
    exact Touches.mono rfl (State.count_touches _ _)
  clear_value x1
  refine Touches.ite ?_ ?_
  · exact Touches.after (State.count_touches _ _) rfl h2
  · exact h2

theorem State.closeStream_touches (s f) :
    Touches [.streams] s (State.closeStream s f) := by
  unfold State.closeStream
  split
  · rename_i x0 x1 h2
    refine Touches.ite ?_ ?_
    · exact Touches.put_streams rfl (Touches.refl _ _)
    · exact Touches.refl _ _
  · rename_i x3 h4
    exact Touches.refl _ _

theorem State.discardFrame_touches (s f r) :
    Touches [.freeCtr, .out, .reg, .host, .acc, .streams, .refused] s (State.discardFrame s f r) := by
  unfold State.discardFrame
  split
  rename_i x0 x1 x2 h3
  refine Touches.cut (Touches.of_snd h3 ?_) (fun k4 => ?_)
  · exact Touches.mono rfl (State.refusalId_touches _)
  split
  rename_i x5 x6 x7 h8
  refine Touches.cut (Touches.of_snd h8 ?_) (fun k9 => ?_)
  · exact Touches.after (State.free_touches _ _) rfl k4
  split
  rename_i x10 x11 x12 h13
  refine Touches.cut (Touches.of_snd h13 ?_) (fun k14 => ?_)
  · exact Touches.after (State.free_touches _ _) rfl k9
  extract_lets +onlyGivenNames x15
  clear_value x15
  extract_lets +onlyGivenNames x16
  refine Touches.cut (x := x16) ?_ (fun h17 => ?_)
  · unfold x16
    exact Touches.after (State.countVerdict_touches _ _) rfl k14
  clear_value x16
  extract_lets +onlyGivenNames x18
  refine Touches.cut (x := x18) ?_ (fun h19 => ?_)
  · unfold x18
    exact Touches.after (State.append_touches _ _ _) rfl h17
  clear_value x18
  exact Touches.after (State.closeStream_touches _ _) rfl (Touches.after (State.event_touches _ _ _ _) rfl h19)

theorem State.refuseFrame_touches (s f r) :
    Touches [.freeCtr, .frames, .streams, .refused] s (State.refuseFrame s f r) := by
  unfold State.refuseFrame
  split
  rename_i x0 x1 x2 h3
  refine Touches.cut (Touches.of_snd h3 ?_) (fun k4 => ?_)
  · exact Touches.mono rfl (State.refusalId_touches _)
  split
  rename_i x5 x6 x7 h8
  refine Touches.cut (Touches.of_snd h8 ?_) (fun k9 => ?_)
  · exact Touches.after (State.free_touches _ _) rfl k4
  split
  rename_i x10 x11 x12 h13
  refine Touches.cut (Touches.of_snd h13 ?_) (fun k14 => ?_)
  · exact Touches.after (State.free_touches _ _) rfl k9
  extract_lets +onlyGivenNames x15
  clear_value x15
  extract_lets +onlyGivenNames x16
  refine Touches.cut (x := x16) ?_ (fun h17 => ?_)
  · unfold x16
    split
    · rename_i x18 x19 h20
      exact Touches.after (State.modStream_touches _ _ _) rfl k14
    · rename_i x21 h22
      exact k14
  clear_value x16
  exact Touches.put_frames rfl h17

theorem State.arriveAs_touches (s port bs length tArr c dset follow) :
    Touches [.freeCtr, .out, .reg, .host, .acc, .frames, .nextFrame, .streams, .calendar, .lastHanded, .refused] s (State.arriveAs s port bs length tArr c dset follow) := by
  unfold State.arriveAs
  extract_lets +onlyGivenNames x0
  refine Touches.cut (x := x0) ?_ (fun h1 => ?_)
  · unfold x0
    exact Touches.mono rfl (State.count_touches _ _)
  clear_value x0
  extract_lets +onlyGivenNames x2
  clear_value x2
  extract_lets +onlyGivenNames x3
  clear_value x3
  split
  rename_i x4 x5 x6 h7
  split
  rename_i x8 x9 x10 h11
  refine Touches.cut (Touches.of_snd h11 ?_) (fun k12 => ?_)
  · split
    · rename_i x13 x14
      exact Touches.after (State.openStream_touches _ _ _ _ _) rfl h1
    · rename_i x15
      exact Touches.snd_mk h1
  extract_lets +onlyGivenNames x16
  clear_value x16
  extract_lets +onlyGivenNames x17
  clear_value x17
  extract_lets +onlyGivenNames x18
  clear_value x18
  extract_lets +onlyGivenNames x19
  clear_value x19
  extract_lets +onlyGivenNames x20
  refine Touches.cut (x := x20) ?_ (fun h21 => ?_)
  · unfold x20
    exact Touches.put_nextFrame rfl k12
  clear_value x20
  extract_lets +onlyGivenNames x22
  clear_value x22
  extract_lets +onlyGivenNames x23
  clear_value x23
  extract_lets +onlyGivenNames x24
  clear_value x24
  refine Touches.ite ?_ ?_
  · exact Touches.after (State.discardFrame_touches _ _ _) rfl (Touches.after (State.count_touches _ _) rfl h21)
  · extract_lets +onlyGivenNames x25
    clear_value x25
    split
    · rename_i x26 h27
      exact Touches.after (State.discardFrame_touches _ _ _) rfl (Touches.after (State.count_touches _ _) rfl h21)
    · rename_i x28 x29 h30
      extract_lets +onlyGivenNames x31
      refine Touches.cut (x := x31) ?_ (fun h32 => ?_)
      · unfold x31
        refine Touches.ite ?_ ?_
        · exact h21
        · exact Touches.after (State.count_touches _ _) rfl h21
      clear_value x31
      extract_lets +onlyGivenNames x33
      clear_value x33
      extract_lets +onlyGivenNames x34
      clear_value x34
      extract_lets +onlyGivenNames x35
      refine Touches.cut (x := x35) ?_ (fun h36 => ?_)
      · unfold x35
        exact Touches.put_calendar rfl h32
      clear_value x35
      split
      · rename_i x37 h38
        exact Touches.after (State.refuseFrame_touches _ _ _) rfl h36
      · rename_i x39 x40 h41
        extract_lets +onlyGivenNames x42
        refine Touches.cut (x := x42) ?_ (fun h43 => ?_)
        · unfold x42
          exact Touches.put_lastHanded rfl h36
        clear_value x42
        extract_lets +onlyGivenNames x44
        refine Touches.cut (x := x44) ?_ (fun h45 => ?_)
        · unfold x44
          split
          · rename_i x46 x47
            exact Touches.after (State.modStream_touches _ _ _) rfl h43
          · rename_i x48
            exact h43
        clear_value x44
        exact Touches.put_frames rfl h45

theorem State.arrive_touches (s port bs length tArr) :
    Touches [.freeCtr, .out, .reg, .host, .acc, .frames, .nextFrame, .streams, .calendar, .lastHanded, .refused] s (State.arrive s port bs length tArr) := by
  unfold State.arrive
  extract_lets +onlyGivenNames x0
  clear_value x0
  exact Touches.mono rfl (State.arriveAs_touches _ _ _ _ _ _ _ _)

theorem State.dropGrants_touches (s k st) :
    Touches [.grants] s (State.dropGrants s k st) := by
  unfold State.dropGrants
  exact Touches.put_grants rfl (Touches.refl _ _)

theorem State.enterQueue_touches (s i f) :
    Touches [.reg] s (State.enterQueue s i f).1 := by
  unfold State.enterQueue
  extract_lets +onlyGivenNames x0
  clear_value x0
  extract_lets +onlyGivenNames x1
  clear_value x1
  refine Touches.ite_fst ?_ ?_
  · exact Touches.fst_mk (Touches.refl _ _)
  · exact Touches.fst_mk (Touches.mono rfl (State.count_touches _ _))

theorem State.formJobs_touches (s i f spec) :
    Touches [.streams] s (State.formJobs s i f spec).1 := by
  unfold State.formJobs
  extract_lets +onlyGivenNames x0
  clear_value x0
  split
  rename_i x1 x2 x3 h4
  refine Touches.cut (Touches.of_snd h4 ?_) (fun k5 => ?_)
  · split
    · rename_i x6 x7 h8
      split
      rename_i x9 x10 x11 h12
      exact Touches.snd_mk (Touches.mono rfl (State.modStream_touches _ _ _))
    · rename_i x13 h14
      exact Touches.snd_mk (Touches.refl _ _)
  split
  rename_i x15 x16 x17 h18
  extract_lets +onlyGivenNames x19
  clear_value x19
  extract_lets +onlyGivenNames x20
  clear_value x20
  extract_lets +onlyGivenNames x21
  clear_value x21
  extract_lets +onlyGivenNames x22
  clear_value x22
  extract_lets +onlyGivenNames x23
  clear_value x23
  extract_lets +onlyGivenNames x24
  clear_value x24
  extract_lets +onlyGivenNames x25
  clear_value x25
  exact Touches.fst_mk k5

theorem State.identify_touches (s i f) :
    Touches [.strands, .streams] s (State.identify s i f).1 := by
  unfold State.identify
  refine Touches.ite_fst ?_ ?_
  · exact Touches.fst_mk (Touches.refl _ _)
  · split
    rename_i x0 x1 x2 h3
    refine Touches.cut (Touches.of_snd h3 ?_) (fun k4 => ?_)
    · exact Touches.mono rfl (State.takeSeqOf_touches _ _)
    extract_lets +onlyGivenNames x5
    clear_value x5
    split
    rename_i x6 x7 x8 h9
    extract_lets +onlyGivenNames x10
    clear_value x10
    extract_lets +onlyGivenNames x11
    refine Touches.cut (x := x11) ?_ (fun h12 => ?_)
    · unfold x11
      split
      · rename_i x13 x14 h15
        exact Touches.after (State.modStream_touches _ _ _) rfl k4
      · rename_i x16 h17
        exact k4
    clear_value x11
    exact Touches.fst_mk h12

theorem State.putFrame_touches (s f) :
    Touches [.frames] s (State.putFrame s f) := by
  unfold State.putFrame
  exact Touches.mono rfl (State.modFrame_touches _ _ _)

theorem State.handOver_touches (s i f fields) :
    Touches [.reg, .strands, .frames, .streams] s (State.handOver s i f fields) := by
  unfold State.handOver
  extract_lets +onlyGivenNames x0
  clear_value x0
  extract_lets +onlyGivenNames x1
  clear_value x1
  split
  rename_i x2 x3 x4 h5
  extract_lets +onlyGivenNames x6
  refine Touches.cut (x := x6) ?_ (fun h7 => ?_)
  · unfold x6
    exact Touches.mono rfl (State.countBy_touches _ _ _)
  clear_value x6
  extract_lets +onlyGivenNames x8
  clear_value x8
  extract_lets +onlyGivenNames x9
  refine Touches.cut (x := x9) ?_ (fun h10 => ?_)
  · unfold x9
    split
    · rename_i x11 x12 h13
      exact Touches.after (State.modStream_touches _ _ _) rfl h7
    · rename_i x14 h15
      exact h7
  clear_value x9
  extract_lets +onlyGivenNames x16
  clear_value x16
  extract_lets +onlyGivenNames x17
  refine Touches.cut (x := x17) ?_ (fun h18 => ?_)
  · unfold x17
    refine Touches.ite ?_ ?_
    · exact Touches.after (State.count_touches _ _) rfl h10
    · exact h10
  clear_value x17
  extract_lets +onlyGivenNames x19
  clear_value x19
  split
  rename_i x20 x21 x22 h23
  refine Touches.cut (Touches.of_fst h23 ?_) (fun k24 => ?_)
  · exact Touches.after (State.identify_touches _ _ _) rfl h18
  split
  rename_i x25 x26 x27 h28
  refine Touches.cut (Touches.of_fst h28 ?_) (fun k29 => ?_)
  · exact Touches.after (State.formJobs_touches _ _ _ _) rfl k24
  split
  rename_i x30 x31 x32 h33
  refine Touches.cut (Touches.of_fst h33 ?_) (fun k34 => ?_)
  · exact Touches.after (State.enterQueue_touches _ _ _) rfl k29
  exact Touches.after (State.putFrame_touches _ _) rfl k34

theorem State.parseDone_touches (s f) :
    Touches [.freeCtr, .reg, .strands, .grants, .frames, .streams, .refused, .srv] s (State.parseDone s f) := by
  unfold State.parseDone
  split
  · rename_i x0 h1
    exact Touches.refl _ _
  · rename_i x2 x3 h4
    extract_lets +onlyGivenNames x5
    refine Touches.cut (x := x5) ?_ (fun h6 => ?_)
    · unfold x5
      exact Touches.mono rfl (State.dropGrants_touches _ _ _)
    clear_value x5
    extract_lets +onlyGivenNames x7
    clear_value x7
    split
    · rename_i x8 h9
      refine Touches.ite ?_ ?_
      · exact Touches.after (State.refuseFrame_touches _ _ _) rfl (Touches.after (State.count_touches _ _) rfl h6)
      · exact Touches.after (State.cause_touches _ _ _) rfl h6
    · rename_i x10 x11 h12
      exact Touches.after (State.handOver_touches _ _ _ _) rfl h6

theorem State.receive_touches (s port ps wire) :
    Touches [.freeCtr, .out, .reg, .host, .acc, .frames, .nextFrame, .streams, .calendar, .sas, .lastHanded, .refused] s (State.receive s port ps wire) := by
  unfold State.receive
  extract_lets +onlyGivenNames x0
  clear_value x0
  refine Touches.ite ?_ ?_
  · exact Touches.refl _ _
  · refine Touches.ite ?_ ?_
    · exact Touches.mono rfl (State.count_touches _ _)
    · extract_lets +onlyGivenNames x1
      clear_value x1
      extract_lets +onlyGivenNames x2
      clear_value x2
      refine Touches.ite ?_ ?_
      · exact Touches.mono rfl (State.count_touches _ _)
      · refine Touches.ite ?_ ?_
        · exact Touches.mono rfl (State.count_touches _ _)
        · extract_lets +onlyGivenNames x3
          refine Touches.cutOP (ps := [.freeCtr, .out, .reg, .host, .acc, .frames, .nextFrame, .streams, .calendar, .sas, .lastHanded, .refused]) (b := s) (o := x3) ?_ (fun h4 => ?_)
          · unfold x3
            refine Touches.ite_some_snd ?_ ?_
            · exact fun v y e => Touches.after (State.msecOpen_touches _ _ _ v y e) rfl (Touches.refl _ _)
            · exact Touches.some_snd (Touches.refl _ _)
          clear_value x3
          split
          · rename_i x5
            exact Touches.mono rfl (State.count_touches _ _)
          · rename_i x6 x7 x8
            replace h4 := h4 _ _ rfl
            extract_lets +onlyGivenNames x10
            refine Touches.cut (x := x10) ?_ (fun h11 => ?_)
            · unfold x10
              exact Touches.after (State.count_touches _ _) rfl h4
            clear_value x10
            refine Touches.ite ?_ ?_
            · exact Touches.after (State.count_touches _ _) rfl h11
            · refine Touches.ite ?_ ?_
              · exact Touches.after (State.count_touches _ _) rfl h11
              · exact Touches.after (State.arrive_touches _ _ _ _ _) rfl h11

/-! Machine/Verdict.lean -/

theorem State.gramEntries_touches (s a1) :
    Touches [.freeCtr] s (State.gramEntries s a1).2 := by
  induction a1 generalizing s with
  | nil =>
    unfold State.gramEntries
    exact Touches.snd_mk (Touches.refl _ _)
  | cons m ms ih =>
    unfold State.gramEntries
    refine Touches.ite_snd ?_ ?_
    · split
      rename_i x0 x1 x2 h3
      refine Touches.cut (Touches.of_snd h3 ?_) (fun k4 => ?_)
      · exact Touches.mono rfl (State.freeBytes_touches _ _)
      split
      rename_i x5 x6 x7 h8
      refine Touches.cut (Touches.of_snd h8 ?_) (fun k9 => ?_)
      · exact Touches.after (State.freeBytes_touches _ _) rfl k4
      split
      rename_i x10 x11 x12 h13
      refine Touches.cut (Touches.of_snd h13 ?_) (fun k14 => ?_)
      · refine Touches.trans ?_ (ih _)
        exact k9
      exact Touches.snd_mk k14
    · split
      rename_i x15 x16 x17 h18
      refine Touches.cut (Touches.of_snd h18 ?_) (fun k19 => ?_)
      · refine Touches.trans ?_ (ih _)
        exact Touches.refl _ _
      exact Touches.snd_mk k19

theorem State.pinEntries_touches (s a1) :
    Touches [.freeCtr] s (State.pinEntries s a1).2 := by
  induction a1 generalizing s with
  | nil =>
    unfold State.pinEntries
    exact Touches.snd_mk (Touches.refl _ _)
  | cons m ms ih =>
    unfold State.pinEntries
    split
    rename_i x0 x1 x2 h3
    refine Touches.cut (Touches.of_snd h3 ?_) (fun k4 => ?_)
    · exact Touches.mono rfl (State.freeBytes_touches _ _)
    split
    rename_i x5 x6 x7 h8
    refine Touches.cut (Touches.of_snd h8 ?_) (fun k9 => ?_)
    · exact Touches.after (State.freeBytes_touches _ _) rfl k4
    split
    rename_i x10 x11 x12 h13
    refine Touches.cut (Touches.of_snd h13 ?_) (fun k14 => ?_)
    · refine Touches.trans ?_ (ih _)
      exact k9
    exact Touches.snd_mk k14

theorem State.details_touches (s f) :
    Touches [.freeCtr] s (State.details s f).2.2 := by
  unfold State.details
  split
  rename_i x0 x1 x2 h3
  refine Touches.cut (Touches.of_snd h3 ?_) (fun k4 => ?_)
  · exact Touches.mono rfl (State.gramEntries_touches _ _)
  extract_lets +onlyGivenNames x5
  clear_value x5
  split
  rename_i x6 x7 x8 h9
  refine Touches.cut (Touches.of_snd h9 ?_) (fun k10 => ?_)
  · exact Touches.after (State.pinEntries_touches _ _) rfl k4
  exact Touches.snd_snd_mk k10

/-! Machine/SrvOps.lean -/

theorem State.modRequest_touches (s slot f) :
    Touches [.srv] s (State.modRequest s slot f) := by
  unfold State.modRequest
  exact Touches.put_srv rfl (Touches.refl _ _)

theorem State.doomRequest_touches (s slot status) :
    Touches [.srv] s (State.doomRequest s slot status) := by
  unfold State.doomRequest
  exact Touches.mono rfl (State.modRequest_touches _ _ _)

theorem State.dropEntry_touches (s k) :
    Touches [.srv] s (State.dropEntry s k) := by
  unfold State.dropEntry
  exact Touches.put_srv rfl (Touches.refl _ _)

theorem State.modCove_touches (s c f) :
    Touches [.srv] s (State.modCove s c f) := by
  unfold State.modCove
  exact Touches.put_srv rfl (Touches.refl _ _)

theorem State.freePrivate_touches (s slot) :
    Touches [.srv] s (State.freePrivate s slot) := by
  unfold State.freePrivate
  split
  · rename_i x0 h1
    exact Touches.refl _ _
  · rename_i x2 x3 h4
    exact Touches.after (State.modRequest_touches _ _ _) rfl (Touches.mono rfl (State.modCove_touches _ _ _))

theorem State.loseEntries_touches (s a1) :
    Touches [.freeCtr, .srv] s (State.loseEntries s a1) := by
  induction a1 generalizing s with
  | nil =>
    unfold State.loseEntries
    exact Touches.refl _ _
  | cons m ms ih =>
    unfold State.loseEntries
    split
    rename_i x0 x1 x2 h3
    refine Touches.cut (Touches.of_snd h3 ?_) (fun k4 => ?_)
    · exact Touches.mono rfl (State.free_touches _ _)
    refine Touches.ite ?_ ?_
    · refine Touches.trans ?_ (ih _)
      exact k4
    · extract_lets +onlyGivenNames x5
      refine Touches.cut (x := x5) ?_ (fun h6 => ?_)
      · unfold x5
        split
        · rename_i x7 x8 h9
          exact Touches.after (State.doomRequest_touches _ _ _) rfl k4
        · rename_i x10 h11
          assumption
      clear_value x5
      refine Touches.trans ?_ (ih _)
      exact Touches.after (State.dropEntry_touches _ _) rfl h6

theorem State.modEntry_touches (s k f) :
    Touches [.srv] s (State.modEntry s k f) := by
  unfold State.modEntry
  exact Touches.put_srv rfl (Touches.refl _ _)

/-! Machine/Search.lean -/

theorem State.failDeadTables_touches (s) :
    Touches [.frames, .srv] s (State.failDeadTables s) := by
  unfold State.failDeadTables
  exact Touches.mono rfl (State.causeAll_touches _ _ _)

theorem State.grantSearch_touches (s k id b) :
    Touches [.frames] s (State.grantSearch s k id b) := by
  unfold State.grantSearch
  split
  · rename_i x0 h1
    exact Touches.refl _ _
  · rename_i x2 x3 h4
    split
    rename_i x5 x6 x7 x8 h9
    exact Touches.mono rfl (State.modFrame_touches _ _ _)

theorem State.queueLearn_touches (s k x l attr port) :
    Touches [.reg, .frames, .vit, .srv] s (State.queueLearn s k x l attr port) := by
  unfold State.queueLearn
  split
  · rename_i x0 h1
    exact Touches.mono rfl (State.cause_touches _ _ _)
  · rename_i x2 x3 h4
    refine Touches.ite ?_ ?_
    · exact Touches.after (State.deliver_touches _ _ _ _) rfl (Touches.mono rfl (State.count_touches _ _))
    · extract_lets +onlyGivenNames x5
      clear_value x5
      exact Touches.after (State.modFrame_touches _ _ _) rfl (Touches.mono rfl (State.modVtable_touches _ _ _))

theorem State.refreshEntry_touches (s b t index) :
    Touches [.vit] s (State.refreshEntry s b t index) := by
  unfold State.refreshEntry
  extract_lets +onlyGivenNames x0
  clear_value x0
  extract_lets +onlyGivenNames x1
  clear_value x1
  extract_lets +onlyGivenNames x2
  clear_value x2
  refine Touches.ite ?_ ?_
  · exact Touches.mono rfl (State.setStaleAll_touches _ _ _ _)
  · exact Touches.refl _ _

theorem State.repeatSearch_touches (s k id b) :
    Touches [.reg, .frames, .srv] s (State.repeatSearch s k id b) := by
  unfold State.repeatSearch
  split
  · rename_i x0 h1
    exact Touches.refl _ _
  · rename_i x2 x3 h4
    split
    rename_i x5 x6 x7 h8
    refine Touches.cut (Touches.of_snd h8 ?_) (fun k9 => ?_)
    · exact Touches.mono rfl (State.retryFrame_touches _ _ _)
    refine Touches.ite ?_ ?_
    · exact k9
    · split
      · rename_i x10 x11 h12
        exact Touches.after (State.grantSearch_touches _ _ _ _) rfl k9
      · rename_i x13 h14
        split
        · rename_i x15 x16 h17
          exact Touches.after (State.grantSearch_touches _ _ _ _) rfl k9
        · rename_i x18 h19
          exact Touches.after (State.cause_touches _ _ _) rfl k9

theorem State.searchResult_touches (s f x b l attr pinned) :
    Touches [.reg, .frames, .vit, .srv] s (State.searchResult s f x b l attr pinned) := by
  unfold State.searchResult
  extract_lets +onlyGivenNames x0
  clear_value x0
  extract_lets +onlyGivenNames x1
  refine Touches.cut (x := x1) ?_ (fun h2 => ?_)
  · unfold x1
    refine Touches.ite ?_ ?_
    · exact Touches.refl _ _
    · exact Touches.mono rfl (State.countSearch_touches _ _)
  clear_value x1
  extract_lets +onlyGivenNames x3
  refine Touches.cut (x := x3) ?_ (fun h4 => ?_)
  · unfold x3
    refine Touches.ite ?_ ?_
    · exact Touches.after (State.refreshEntry_touches _ _ _ _) rfl h2
    · exact h2
  clear_value x3
  split
  · rename_i x5 h6
    exact Touches.after (State.deliver_touches _ _ _ _) rfl h4
  · rename_i x7 x8 h9
    refine Touches.ite ?_ ?_
    · exact Touches.after (State.deliver_touches _ _ _ _) rfl h4
    · refine Touches.ite ?_ ?_
      · exact Touches.after (State.deliver_touches _ _ _ _) rfl h4
      · exact Touches.after (State.queueLearn_touches _ _ _ _ _ _) rfl h4

theorem State.waitSearch_touches (s k id) :
    Touches [.frames] s (State.waitSearch s k id) := by
  unfold State.waitSearch
  exact Touches.mono rfl (State.modFrame_touches _ _ _)

end Sys2Proof.Machine
end

