-- ==== Sys2Proof/Laws/TouchesFrames.lean ====
section
/-!
SUPPORT. What the operations of faults, release, screening, scheduling, the catalogue and the gathers may change: one lemma each.
-/
namespace Sys2Proof.Machine

/-! Machine/Faults.lean -/

theorem State.blockBad_touches (s c b) :
    Touches [.srv] s (State.blockBad s c b) := by
  unfold State.blockBad
  extract_lets +onlyGivenNames x0
  refine Touches.cut (x := x0) ?_ (fun h1 => ?_)
  · unfold x0
    exact Touches.mono rfl (State.modCove_touches _ _ _)
  clear_value x0
  refine Touches.foldl ?_ (fun t3 x4 h2 => ?_)
  · exact h1
  · exact Touches.after (State.doomRequest_touches _ _ _) rfl h2

theorem State.restartProgram_touches (s k pos) :
    Touches [.grants, .frames] s (State.restartProgram s k pos) := by
  unfold State.restartProgram
  extract_lets +onlyGivenNames x0
  clear_value x0
  extract_lets +onlyGivenNames x1
  refine Touches.cut (x := x1) ?_ (fun h2 => ?_)
  · unfold x1
    exact Touches.put_grants rfl (Touches.refl _ _)
  clear_value x1
  exact Touches.after (State.modFrame_touches _ _ _) rfl h2

theorem State.repeatGrant_touches (s g) :
    Touches [.reg, .grants, .frames, .srv] s (State.repeatGrant s g) := by
  unfold State.repeatGrant
  extract_lets +onlyGivenNames x0
  have fx0 : ∀ a0, Touches [.reg, .grants, .frames, .srv] a0 (x0 a0) := ?_
  · clear_value x0
    split
    · rename_i x1 h2
      refine Touches.trans ?_ (fx0 _)
      exact Touches.refl _ _
    · rename_i x3 x4 h5
      refine Touches.ite ?_ ?_
      · refine Touches.trans ?_ (fx0 _)
        exact Touches.refl _ _
      · split
        · rename_i x6 x7 h8
          refine Touches.after (State.repeatSearch_touches _ _ _ _) rfl (Touches.trans ?_ (fx0 _))
          exact Touches.refl _ _
        · rename_i x9 x10 h11
          split
          rename_i x12 x13 x14 h15
          refine Touches.cut (Touches.of_snd h15 ?_) (fun k16 => ?_)
          · refine Touches.after (State.retryFrame_touches _ _ _) rfl (Touches.trans ?_ (fx0 _))
            exact Touches.refl _ _
          refine Touches.ite ?_ ?_
          · exact Touches.after (State.restartProgram_touches _ _ _) rfl k16
          · exact k16
        · rename_i x17 h18 h19
          split
          rename_i x20 x21 x22 h23
          refine Touches.cut (Touches.of_snd h23 ?_) (fun k24 => ?_)
          · exact Touches.mono rfl (State.retryFrame_touches _ _ _)
          refine Touches.ite ?_ ?_
          · exact Touches.put_grants rfl k24
          · refine Touches.trans ?_ (fx0 _)
            exact k24
  · intro a0
    unfold x0
    exact Touches.put_grants rfl (Touches.refl _ _)

theorem State.lostItem_touches {ps : List Part} (hps : sub [.freeCtr] ps = true) (s f) (ff : ∀ b0, Touches ps b0 (f b0)) :
    Touches ps s (State.lostItem s f) := by
  unfold State.lostItem
  split
  rename_i x0 x1 x2 h3
  refine Touches.cut (Touches.of_snd h3 ?_) (fun k4 => ?_)
  · exact Touches.after (State.free_touches _ _) (sub_trans rfl hps) (Touches.refl _ _)
  refine Touches.ite ?_ ?_
  · refine Touches.trans ?_ (ff _)
    exact k4
  · exact k4

theorem State.modGraph_touches (s g f) :
    Touches [.gth] s (State.modGraph s g f) := by
  unfold State.modGraph
  exact Touches.put_gth rfl (Touches.refl _ _)

theorem State.damageGraph_touches (s g) :
    Touches [.reg, .strands, .gth] s (State.damageGraph s g) := by
  unfold State.damageGraph
  extract_lets +onlyGivenNames x0
  refine Touches.cut (x := x0) ?_ (fun h1 => ?_)
  · unfold x0
    exact Touches.mono rfl (State.modGraph_touches _ _ _)
  clear_value x0
  refine Touches.foldl ?_ (fun t3 x4 h2 => ?_)
  · exact h1
  · exact Touches.after (State.strandExclude_touches _ _) rfl h2

theorem State.markBad_touches (s k i v) :
    Touches [.out, .reg, .host, .content] s (State.markBad s k i v) := by
  unfold State.markBad
  refine Touches.ite ?_ ?_
  · exact Touches.refl _ _
  · exact Touches.after (State.event_touches _ _ _ _) rfl (Touches.put_content rfl (Touches.refl _ _))

theorem State.loseChannel_touches (s) :
    Touches [.freeCtr, .out, .reg, .host, .strands, .content, .gth, .srv] s (State.loseChannel s) := by
  unfold State.loseChannel
  extract_lets +onlyGivenNames x0
  refine Touches.cut (x := x0) ?_ (fun h1 => ?_)
  · unfold x0
    refine Touches.foldl ?_ (fun t3 x4 h2 => ?_)
    · exact Touches.refl _ _
    · refine Touches.trans ?_ (State.lostItem_touches rfl _ _ (fun t5 => ?_))
      · exact h2
      · exact Touches.mono rfl (State.damageGraph_touches _ _)
  clear_value x0
  extract_lets +onlyGivenNames x6
  refine Touches.cut (x := x6) ?_ (fun h7 => ?_)
  · unfold x6
    refine Touches.foldl ?_ (fun t9 x10 h8 => ?_)
    · exact h1
    · refine Touches.trans ?_ (State.lostItem_touches rfl _ _ (fun t11 => ?_))
      · exact h8
      · exact Touches.mono rfl (State.markBad_touches _ _ _ _)
  clear_value x6
  refine Touches.foldl ?_ (fun t13 x14 h12 => ?_)
  · exact h7
  · refine Touches.foldl ?_ (fun t16 x17 h15 => ?_)
    · exact h12
    · refine Touches.trans ?_ (State.lostItem_touches rfl _ _ (fun t18 => ?_))
      · exact h15
      · exact Touches.mono rfl (State.blockBad_touches _ _ _)

theorem State.releaseUnit_touches (s u) :
    Touches [.freeCtr, .out, .reg, .host, .ops, .led, .strands, .grants, .frames, .content, .vit, .gth, .srv, .img] s (State.releaseUnit s u) := by
  unfold State.releaseUnit
  extract_lets +onlyGivenNames x0
  refine Touches.cut (x := x0) ?_ (fun h1 => ?_)
  · unfold x0
    split
    · rename_i x2 x3 h4
      refine Touches.foldl ?_ (fun t6 x7 h5 => ?_)
      · exact Touches.refl _ _
      · exact Touches.after (State.repeatGrant_touches _ _) rfl h5
    · rename_i x8 h9
      exact Touches.refl _ _
  clear_value x0
  extract_lets +onlyGivenNames x10
  clear_value x10
  extract_lets +onlyGivenNames x11
  refine Touches.cut (x := x11) ?_ (fun h12 => ?_)
  · unfold x11
    split
    · rename_i x13 h14
      exact Touches.after (State.strandRetire_touches _ _) rfl h1
    · rename_i x15 h16
      exact Touches.after (State.failDeadTables_touches _) rfl (Touches.after (State.bankGone_touches _ _) rfl h1)
    · rename_i x17 h18
      refine Touches.foldl ?_ (fun t20 x21 h19 => ?_)
      · exact h1
      · split
        rename_i x22 x23 x24 h25
        refine Touches.cut (Touches.of_snd h25 ?_) (fun k26 => ?_)
        · exact Touches.after (State.retryFrame_touches _ _ _) rfl h19
        refine Touches.ite ?_ ?_
        · exact Touches.after (State.modFrame_touches _ _ _) rfl k26
        · exact Touches.after (State.modFrame_touches _ _ _) rfl k26
    · rename_i x27 h28
      refine Touches.foldl ?_ (fun t30 x31 h29 => ?_)
      · exact h1
      · exact Touches.after (State.restartProgram_touches _ _ _) rfl h29
    · rename_i x32 h33
      exact Touches.after (State.set_touches _ _ _) rfl (Touches.after (State.loseEntries_touches _ _) rfl h1)
    · rename_i x34 h35
      exact Touches.after (State.loseChannel_touches _) rfl h1
    · rename_i x36 h37 h38 h39 h40 h41 h42
      exact h1
  clear_value x11
  split
  · rename_i x43 h44
    exact Touches.after (State.causeAll_touches _ _ _) rfl h12
  · rename_i x45 h46
    exact Touches.after (State.causeAll_touches _ _ _) rfl h12
  · rename_i x47 h48
    exact Touches.after (State.causeAll_touches _ _ _) rfl h12
  · rename_i x49 h50
    exact Touches.after (State.causeAll_touches _ _ _) rfl h12
  · rename_i x51 h52
    exact Touches.after (State.causeAll_touches _ _ _) rfl h12
  · rename_i x53 h54
    exact Touches.after (State.causeAll_touches _ _ _) rfl h12
  · rename_i x55 h56 h57 h58 h59 h60 h61
    exact h12

theorem State.retireUnit_touches (s u code count) :
    Touches [.freeCtr, .out, .reg, .host, .ops, .led, .strands, .grants, .frames, .content, .vit, .gth, .srv, .img] s (State.retireUnit s u code count) := by
  unfold State.retireUnit
  refine Touches.ite ?_ ?_
  · exact Touches.refl _ _
  · extract_lets +onlyGivenNames x0
    clear_value x0
    extract_lets +onlyGivenNames x1
    refine Touches.cut (x := x1) ?_ (fun h2 => ?_)
    · unfold x1
      exact Touches.put_led rfl (Touches.refl _ _)
    clear_value x1
    extract_lets +onlyGivenNames x3
    refine Touches.cut (x := x3) ?_ (fun h4 => ?_)
    · unfold x3
      exact Touches.after (State.releaseUnit_touches _ _) rfl (Touches.after (State.count_touches _ _) rfl h2)
    clear_value x3
    split
    rename_i x5 x6 x7 h8
    refine Touches.cut (Touches.of_snd h8 ?_) (fun k9 => ?_)
    · exact Touches.after (State.freeBytes_touches _ _) rfl h4
    split
    rename_i x10 x11 x12 h13
    refine Touches.cut (Touches.of_snd h13 ?_) (fun k14 => ?_)
    · exact Touches.after (State.ledgerRecord_touches _ _ _) rfl k9
    exact Touches.after (State.event_touches _ _ _ _) rfl k14

theorem State.countAgainst_touches (s u code correction) :
    Touches [.freeCtr, .out, .reg, .host, .ops, .led, .strands, .grants, .frames, .content, .vit, .gth, .srv, .img] s (State.countAgainst s u code correction) := by
  unfold State.countAgainst
  refine Touches.ite ?_ ?_
  · exact Touches.refl _ _
  · extract_lets +onlyGivenNames x0
    clear_value x0
    extract_lets +onlyGivenNames x1
    clear_value x1
    extract_lets +onlyGivenNames x2
    clear_value x2
    extract_lets +onlyGivenNames x3
    refine Touches.cut (x := x3) ?_ (fun h4 => ?_)
    · unfold x3
      exact Touches.put_led rfl (Touches.refl _ _)
    clear_value x3
    extract_lets +onlyGivenNames x5
    clear_value x5
    extract_lets +onlyGivenNames x6
    clear_value x6
    refine Touches.ite ?_ ?_
    · exact Touches.after (State.retireUnit_touches _ _ _ _) rfl (Touches.after (State.event_touches _ _ _ _) rfl h4)
    · exact h4

theorem State.corrected_touches (s u code) :
    Touches [.freeCtr, .out, .reg, .host, .ops, .led, .strands, .grants, .frames, .content, .vit, .gth, .srv, .img] s (State.corrected s u code) := by
  unfold State.corrected
  extract_lets +onlyGivenNames x0
  refine Touches.cut (x := x0) ?_ (fun h1 => ?_)
  · unfold x0
    exact Touches.mono rfl (State.count_touches _ _)
  clear_value x0
  split
  · rename_i x2 x3
    exact Touches.after (State.countAgainst_touches _ _ _ _) rfl h1
  · rename_i x4
    exact h1

theorem State.hbmCe_touches (s) :
    Touches [.freeCtr, .out, .reg, .host, .ops, .led, .strands, .grants, .frames, .content, .vit, .gth, .srv, .img] s (State.hbmCe s) := by
  unfold State.hbmCe
  split
  rename_i x0 x1 x2 h3
  refine Touches.cut (Touches.of_snd h3 ?_) (fun k4 => ?_)
  · exact Touches.mono rfl (State.free_touches _ _)
  exact Touches.after (State.corrected_touches _ _ _) rfl k4

theorem State.hbmUe_touches (s region) :
    Touches [.freeCtr, .out, .reg, .host, .ops, .led, .strands, .grants, .frames, .content, .vit, .gth, .srv, .img] s (State.hbmUe s region) := by
  unfold State.hbmUe
  split
  rename_i x0 x1 x2 h3
  refine Touches.cut (Touches.of_snd h3 ?_) (fun k4 => ?_)
  · exact Touches.mono rfl (State.free_touches _ _)
  extract_lets +onlyGivenNames x5
  clear_value x5
  exact Touches.after (State.countAgainst_touches _ _ _ _) rfl (Touches.after (State.event_touches _ _ _ _) rfl k4)

theorem State.transient_touches (s u code) :
    Touches [.freeCtr, .out, .reg, .host, .ops, .led, .strands, .grants, .frames, .content, .vit, .gth, .srv, .img] s (State.transient s u code) := by
  unfold State.transient
  extract_lets +onlyGivenNames x0
  refine Touches.cut (x := x0) ?_ (fun h1 => ?_)
  · unfold x0
    exact Touches.mono rfl (State.count_touches _ _)
  clear_value x0
  split
  · rename_i x2 x3
    exact Touches.after (State.countAgainst_touches _ _ _ _) rfl h1
  · rename_i x4
    exact h1

theorem State.wedge_touches (s u code) :
    Touches [.out, .reg, .host] s (State.wedge s u code) := by
  unfold State.wedge
  exact Touches.after (State.event_touches _ _ _ _) rfl (Touches.mono rfl (State.count_touches _ _))

/-! Machine/Release.lean -/

theorem State.emitFrame_touches (s f) :
    Touches [.out, .reg] s (State.emitFrame s f).2 := by
  unfold State.emitFrame
  extract_lets +onlyGivenNames x0
  clear_value x0
  extract_lets +onlyGivenNames x1
  clear_value x1
  refine Touches.ite_snd ?_ ?_
  · exact Touches.snd_mk (Touches.mono rfl (State.count_touches _ _))
  · split
    · rename_i x2 x3 h4
      exact Touches.snd_mk (Touches.mono rfl (State.emit_touches _ _))
    · rename_i x5 h6
      exact Touches.snd_mk (Touches.refl _ _)

theorem State.postResult_touches (s f) :
    Touches [.out, .reg, .host] s (State.postResult s f).2 := by
  unfold State.postResult
  extract_lets +onlyGivenNames x0
  clear_value x0
  split
  rename_i x1 x2 x3 h4
  refine Touches.cut (Touches.of_snd h4 ?_) (fun k5 => ?_)
  · refine Touches.ite_snd ?_ ?_
    · split
      rename_i x6 x7 x8 h9
      refine Touches.cut (Touches.of_fst h9 ?_) (fun k10 => ?_)
      · exact Touches.mono rfl (State.resultRecord_touches _ _ _ _ _ _ _)
      exact Touches.snd_mk k10
    · exact Touches.snd_mk (Touches.refl _ _)
  split
  rename_i x11 x12 x13 h14
  refine Touches.cut (Touches.of_snd h14 ?_) (fun k15 => ?_)
  · refine Touches.ite_snd ?_ ?_
    · split
      rename_i x16 x17 x18 h19
      refine Touches.cut (Touches.of_fst h19 ?_) (fun k20 => ?_)
      · exact Touches.after (State.resultRecord_touches _ _ _ _ _ _ _) rfl k5
      exact Touches.snd_mk k20
    · exact Touches.snd_mk k5
  exact Touches.snd_mk k15

theorem State.forgetFrame_touches (s f) :
    Touches [.frames, .streams, .calendar] s (State.forgetFrame s f) := by
  unfold State.forgetFrame
  extract_lets +onlyGivenNames x0
  refine Touches.cut (x := x0) ?_ (fun h1 => ?_)
  · unfold x0
    exact Touches.put_frames_calendar rfl (Touches.refl _ _)
  clear_value x0
  exact Touches.after (State.closeStream_touches _ _) rfl h1

theorem State.disposeFrame_touches (s f) :
    Touches [.freeCtr, .out, .reg, .host, .acc, .frames, .streams, .calendar] s (State.disposeFrame s f) := by
  unfold State.disposeFrame
  split
  rename_i x0 x1 x2 h3
  refine Touches.cut (Touches.of_snd h3 ?_) (fun k4 => ?_)
  · exact Touches.mono rfl (State.emitFrame_touches _ _)
  split
  rename_i x5 x6 x7 h8
  refine Touches.cut (Touches.of_snd h8 ?_) (fun k9 => ?_)
  · exact Touches.after (State.postResult_touches _ _) rfl k4
  split
  rename_i x10 x11 x12 x13 h14
  refine Touches.cut (Touches.of_snd_snd h14 ?_) (fun k15 => ?_)
  · exact Touches.after (State.details_touches _ _) rfl k9
  extract_lets +onlyGivenNames x16
  refine Touches.cut (x := x16) ?_ (fun h17 => ?_)
  · unfold x16
    exact Touches.after (State.appendAll_touches _ _ _) rfl k15
  clear_value x16
  exact Touches.after (State.forgetFrame_touches _ _) rfl h17

theorem State.endStreamClose_touches (s f chunks lastId) :
    Touches [.reg, .acc, .frames, .streams, .calendar] s (State.endStreamClose s f chunks lastId) := by
  unfold State.endStreamClose
  extract_lets +onlyGivenNames x0
  clear_value x0
  extract_lets +onlyGivenNames x1
  clear_value x1
  extract_lets +onlyGivenNames x2
  refine Touches.cut (x := x2) ?_ (fun h3 => ?_)
  · unfold x2
    exact Touches.mono rfl (State.append_touches _ _ _)
  clear_value x2
  extract_lets +onlyGivenNames x4
  refine Touches.cut (x := x4) ?_ (fun h5 => ?_)
  · unfold x4
    exact Touches.after (State.forgetFrame_touches _ _) rfl h3
  clear_value x4
  split
  · rename_i x6 x7 h8
    exact Touches.after (State.queueFreed_touches _ _) rfl h5
  · rename_i x9 h10
    exact h5

theorem State.identifyLate_touches (s f) :
    Touches [.strands, .grants, .frames, .streams] s (State.identifyLate s f) := by
  unfold State.identifyLate
  split
  · rename_i x0 x1 x2 h3 h4
    extract_lets +onlyGivenNames x5
    refine Touches.cut (x := x5) ?_ (fun h6 => ?_)
    · unfold x5
      exact Touches.mono rfl (State.dropGrants_touches _ _ _)
    clear_value x5
    split
    rename_i x7 x8 x9 h10
    refine Touches.cut (Touches.of_fst h10 ?_) (fun k11 => ?_)
    · exact Touches.after (State.identify_touches _ _ _) rfl h6
    exact Touches.after (State.putFrame_touches _ _) rfl k11
  · rename_i x12 x13 h14
    exact Touches.refl _ _

theorem State.tapAtDeadline_touches (s f) :
    Touches [.reg, .acc, .frames, .tapQueue, .srv] s (State.tapAtDeadline s f) := by
  unfold State.tapAtDeadline
  extract_lets +onlyGivenNames x0
  clear_value x0
  refine Touches.ite ?_ ?_
  · exact Touches.refl _ _
  · refine Touches.ite ?_ ?_
    · refine Touches.ite ?_ ?_
      · exact Touches.after (State.cause_touches _ _ _) rfl (Touches.mono rfl (State.count_touches _ _))
      · extract_lets +onlyGivenNames x1
        refine Touches.cut (x := x1) ?_ (fun h2 => ?_)
        · unfold x1
          exact Touches.after (State.modFrame_touches _ _ _) rfl (Touches.mono rfl (State.count_touches _ _))
        clear_value x1
        exact Touches.after (State.auditGap_touches _ _ _ _ _ _) rfl h2
    · extract_lets +onlyGivenNames x3
      clear_value x3
      extract_lets +onlyGivenNames x4
      refine Touches.cut (x := x4) ?_ (fun h5 => ?_)
      · unfold x4
        exact Touches.mono rfl (State.modFrame_touches _ _ _)
      clear_value x4
      exact Touches.put_tapQueue rfl h5

theorem State.frameDeadline_touches (s f) :
    Touches [.reg, .acc, .strands, .grants, .frames, .streams, .calendar, .tapQueue, .srv] s (State.frameDeadline s f) := by
  unfold State.frameDeadline
  split
  · rename_i x0 x1 h2
    exact Touches.refl _ _
  · rename_i x3 x4 x5 h6
    exact Touches.mono rfl (State.endStreamClose_touches _ _ _ _)
  · rename_i x7 h8
    extract_lets +onlyGivenNames x9
    refine Touches.cut (x := x9) ?_ (fun h10 => ?_)
    · unfold x9
      exact Touches.mono rfl (State.identifyLate_touches _ _)
    clear_value x9
    extract_lets +onlyGivenNames x11
    refine Touches.cut (x := x11) ?_ (fun h12 => ?_)
    · unfold x11
      exact Touches.after (State.tapAtDeadline_touches _ _) rfl h10
    clear_value x11
    extract_lets +onlyGivenNames x13
    clear_value x13
    extract_lets +onlyGivenNames x14
    refine Touches.cut (x := x14) ?_ (fun h15 => ?_)
    · unfold x14
      exact Touches.after (State.countVerdict_touches _ _) rfl (Touches.after (State.putFrame_touches _ _) rfl h12)
    clear_value x14
    split
    · rename_i x16 x17 h18
      exact Touches.after (State.queueFreed_touches _ _) rfl h15
    · rename_i x19 h20
      exact h15

theorem State.loseTapQueue_touches (s) :
    Touches [.reg, .acc, .frames, .tapQueue] s (State.loseTapQueue s) := by
  unfold State.loseTapQueue
  extract_lets +onlyGivenNames x0
  clear_value x0
  extract_lets +onlyGivenNames x1
  refine Touches.cut (x := x1) ?_ (fun h2 => ?_)
  · unfold x1
    exact Touches.put_tapQueue rfl (Touches.refl _ _)
  clear_value x1
  refine Touches.foldl ?_ (fun t4 x5 h3 => ?_)
  · exact h2
  · extract_lets +onlyGivenNames x6
    refine Touches.cut (x := x6) ?_ (fun h7 => ?_)
    · unfold x6
      exact Touches.after (State.modFrame_touches _ _ _) rfl (Touches.after (State.count_touches _ _) rfl h3)
    clear_value x6
    exact Touches.after (State.auditGap_touches _ _ _ _ _ _) rfl h7

theorem State.tapBytes_touches (s f body) :
    Touches [.freeCtr] s (State.tapBytes s f body).2 := by
  unfold State.tapBytes
  split
  rename_i x0 x1 x2 h3
  refine Touches.cut (Touches.of_snd h3 ?_) (fun k4 => ?_)
  · exact Touches.mono rfl (State.free_touches _ _)
  exact Touches.snd_mk k4

theorem State.releaseLead_touches (s f e) :
    Touches [.freeCtr, .out, .reg, .host, .ops, .led, .strands, .grants, .frames, .tapQueue, .sas, .content, .vit, .gth, .srv, .img] s (State.releaseLead s f e) := by
  unfold State.releaseLead
  extract_lets +onlyGivenNames x0
  refine Touches.cut (x := x0) ?_ (fun h1 => ?_)
  · unfold x0
    split
    · rename_i x2
      exact Touches.refl _ _
    · rename_i x3
      exact Touches.mono rfl (State.hbmCe_touches _)
    · rename_i x4
      exact Touches.mono rfl (State.hbmUe_touches _ _)
  clear_value x0
  extract_lets +onlyGivenNames x5
  clear_value x5
  extract_lets +onlyGivenNames x6
  clear_value x6
  split
  rename_i x7 x8 x9 h10
  extract_lets +onlyGivenNames x11
  clear_value x11
  extract_lets +onlyGivenNames x12
  clear_value x12
  extract_lets +onlyGivenNames x13
  clear_value x13
  extract_lets +onlyGivenNames x14
  clear_value x14
  split
  rename_i x15 x16 x17 h18
  extract_lets +onlyGivenNames x19
  clear_value x19
  extract_lets +onlyGivenNames x20
  clear_value x20
  extract_lets +onlyGivenNames x21
  clear_value x21
  extract_lets +onlyGivenNames x22
  clear_value x22
  extract_lets +onlyGivenNames x23
  clear_value x23
  extract_lets +onlyGivenNames x24
  clear_value x24
  extract_lets +onlyGivenNames x25
  clear_value x25
  split
  rename_i x26 x27 x28 h29
  refine Touches.cut (Touches.of_snd h29 ?_) (fun k30 => ?_)
  · split
    · rename_i x31
      exact Touches.snd_mk h1
    · rename_i x32 x33
      exact Touches.after (State.protect_touches _ _ _) rfl h1
  extract_lets +onlyGivenNames x34
  clear_value x34
  extract_lets +onlyGivenNames x35
  refine Touches.cut (x := x35) ?_ (fun h36 => ?_)
  · unfold x35
    exact Touches.after (State.putFrame_touches _ _) rfl k30
  clear_value x35
  refine Touches.ite ?_ ?_
  · split
    rename_i x37 x38 x39 h40
    refine Touches.cut (Touches.of_snd h40 ?_) (fun k41 => ?_)
    · exact Touches.after (State.tapBytes_touches _ _ _) rfl h36
    exact Touches.put_tapQueue rfl k41
  · exact h36

theorem State.tapTx_touches (s) :
    Touches [.out, .reg, .host, .frames, .tapQueue, .sas] s (State.tapTx s) := by
  unfold State.tapTx
  split
  · rename_i x0 h1
    exact Touches.refl _ _
  · rename_i x2 x3 h4
    refine Touches.ite ?_ ?_
    · exact Touches.refl _ _
    · split
      · rename_i x5 x6 h7
        refine Touches.cut (Touches.of_snd h7 ?_) (fun k8 => ?_)
        · exact Touches.mono rfl (State.protect_touches _ _ _)
        exact k8
      · rename_i x9 x10 x11 h12
        refine Touches.cut (Touches.of_snd h12 ?_) (fun k13 => ?_)
        · exact Touches.mono rfl (State.protect_touches _ _ _)
        extract_lets +onlyGivenNames x14
        refine Touches.cut (x := x14) ?_ (fun h15 => ?_)
        · unfold x14
          exact Touches.after (State.emit_touches _ _) rfl k13
        clear_value x14
        extract_lets +onlyGivenNames x16
        refine Touches.cut (x := x16) ?_ (fun h17 => ?_)
        · unfold x16
          exact Touches.put_tapQueue rfl h15
        clear_value x16
        exact Touches.after (State.modFrame_touches _ _ _) rfl h17

theorem execAccessionDrain_answers (read s) :
    Answers [.freeCtr, .out, .reg, .host, .ops, .led, .acc, .strands, .grants, .frames, .content, .vit, .gth, .srv, .img] s (execAccessionDrain read s) := by
  unfold execAccessionDrain
  refine Answers.ite ?_ ?_
  · exact Answers.next (Touches.refl _ _)
  · split
    · rename_i x0 x1 x2 h3
      exact Answers.next (Touches.mono rfl (State.drainAccession_touches _))
    · rename_i x4 x5 x6 x7 h8
      exact Answers.next (Touches.mono rfl (State.drainAccession_touches _))
    · rename_i x9 x10 x11 x12 h13
      exact Answers.next (Touches.after (State.drainAccession_touches _) rfl (Touches.mono rfl (State.hbmCe_touches _)))
    · rename_i x14 x15 x16 x17 h18
      exact Answers.next (Touches.after (State.loseBuffered_touches _) rfl (Touches.mono rfl (State.hbmUe_touches _ _)))

theorem execFrameDeadline_answers (frame s) :
    Answers [.reg, .acc, .strands, .grants, .frames, .streams, .calendar, .tapQueue, .srv] s (execFrameDeadline frame s) := by
  unfold execFrameDeadline
  split
  · rename_i x0 x1 h2
    refine Answers.ite ?_ ?_
    · exact Answers.next (Touches.mono rfl (State.frameDeadline_touches _ _))
    · exact Answers.next (Touches.refl _ _)
  · rename_i x3 h4
    exact Answers.next (Touches.refl _ _)

theorem execFrameRelease_answers (frame s) :
    Answers [.freeCtr, .out, .reg, .host, .acc, .frames, .streams, .calendar] s (execFrameRelease frame s) := by
  unfold execFrameRelease
  split
  · rename_i x0 x1 h2
    refine Answers.ite ?_ ?_
    · exact Answers.next (Touches.mono rfl (State.disposeFrame_touches _ _))
    · exact Answers.next (Touches.refl _ _)
  · rename_i x3 h4
    exact Answers.next (Touches.refl _ _)

theorem execReleaseLead_answers (frame fetch s) :
    Answers [.freeCtr, .out, .reg, .host, .ops, .led, .strands, .grants, .frames, .tapQueue, .sas, .content, .vit, .gth, .srv, .img] s (execReleaseLead frame fetch s) := by
  unfold execReleaseLead
  split
  · rename_i x0 x1 h2
    refine Answers.ite ?_ ?_
    · exact Answers.next (Touches.mono rfl (State.releaseLead_touches _ _ _))
    · exact Answers.next (Touches.refl _ _)
  · rename_i x3 h4
    exact Answers.next (Touches.refl _ _)

theorem execSealTimer_answers (chain s) :
    Answers [.reg, .acc] s (execSealTimer chain s) := by
  unfold execSealTimer
  extract_lets +onlyGivenNames x0
  clear_value x0
  refine Answers.ite ?_ ?_
  · exact Answers.next (Touches.mono rfl (State.sealChain_touches _ _))
  · exact Answers.next (Touches.refl _ _)

theorem execTapCopyTx_answers (s) :
    Answers [.out, .reg, .host, .frames, .tapQueue, .sas] s (execTapCopyTx s) := by
  unfold execTapCopyTx
  exact Answers.next (Touches.mono rfl (State.tapTx_touches _))

/-! Machine/Screen.lean -/

theorem State.checkFrame_touches (s k) :
    Touches [.frames, .srv] s (State.checkFrame s k) := by
  unfold State.checkFrame
  split
  · rename_i x0 h1
    exact Touches.refl _ _
  · rename_i x2 x3 h4
    extract_lets +onlyGivenNames x5
    clear_value x5
    extract_lets +onlyGivenNames x6
    refine Touches.cut (x := x6) ?_ (fun h7 => ?_)
    · unfold x6
      refine Touches.ite ?_ ?_
      · exact Touches.mono rfl (State.cause_touches _ _ _)
      · exact Touches.refl _ _
    clear_value x6
    refine Touches.ite ?_ ?_
    · exact Touches.after (State.modFrame_touches _ _ _) rfl h7
    · exact h7

theorem State.closeIdle_touches (s x) :
    Touches [.reg, .acc, .frames, .nextFrame, .streams, .calendar, .srv] s (State.closeIdle s x) := by
  unfold State.closeIdle
  extract_lets +onlyGivenNames x0
  refine Touches.cut (x := x0) ?_ (fun h1 => ?_)
  · unfold x0
    exact Touches.mono rfl (State.modStream_touches _ _ _)
  extract_lets +onlyGivenNames x2
  clear_value x2
  extract_lets +onlyGivenNames x3
  refine Touches.cut (x := x3) ?_ (fun h4 => ?_)
  · unfold x3
    exact Touches.put_nextFrame rfl h1
  refine Touches.ite ?_ ?_
  · split
    rename_i x5 x6 x7 h8
    refine Touches.cut (Touches.of_fst h8 ?_) (fun k9 => ?_)
    · exact Touches.after (State.formJobs_touches _ _ _ _) rfl h4
    exact Touches.after (State.checkFrame_touches _ _) rfl (Touches.put_frames rfl k9)
  · extract_lets +onlyGivenNames x10
    clear_value x10
    exact Touches.after (State.endStreamClose_touches _ _ _ _) rfl (Touches.put_frames rfl h4)

theorem State.commitVerdict_touches (s f i g) :
    Touches [.reg, .acc, .grants, .frames, .streams, .calendar] s (State.commitVerdict s f i g) := by
  unfold State.commitVerdict
  extract_lets +onlyGivenNames x0
  refine Touches.cut (x := x0) ?_ (fun h1 => ?_)
  · unfold x0
    exact Touches.put_grants rfl (Touches.refl _ _)
  clear_value x0
  refine Touches.ite ?_ ?_
  · exact h1
  · refine Touches.ite ?_ ?_
    · exact Touches.after (State.count_touches _ _) rfl h1
    · extract_lets +onlyGivenNames x2
      clear_value x2
      extract_lets +onlyGivenNames x3
      refine Touches.cut (x := x3) ?_ (fun h4 => ?_)
      · unfold x3
        exact Touches.after (State.putFrame_touches _ _) rfl h1
      clear_value x3
      split
      · rename_i x5 x6 x7 h8
        exact Touches.after (State.endStreamClose_touches _ _ _ _) rfl h4
      · rename_i x9 h10
        exact h4

theorem State.policyLost_touches (s i) :
    Touches [.out, .reg, .host, .strands, .frames, .srv] s (State.policyLost s i) := by
  unfold State.policyLost
  refine Touches.after (State.causeAll_touches _ _ _) rfl ?_
  exact Touches.after (State.strandFault_touches _ _ _) rfl (Touches.mono rfl (State.modStrand_touches _ _ _))

theorem State.endCombine_touches (s f i g work policyUe) :
    Touches [.freeCtr, .out, .reg, .host, .ops, .led, .acc, .strands, .grants, .frames, .streams, .calendar, .content, .vit, .gth, .srv, .img] s (State.endCombine s f i g work policyUe) := by
  unfold State.endCombine
  refine Touches.ite ?_ ?_
  · exact Touches.after (State.policyLost_touches _ _) rfl (Touches.put_grants rfl (Touches.refl _ _))
  · extract_lets +onlyGivenNames x0
    refine Touches.cut (x := x0) ?_ (fun h1 => ?_)
    · unfold x0
      split
      · rename_i x2
        exact Touches.refl _ _
      · rename_i x3
        exact Touches.mono rfl (State.corrected_touches _ _ _)
      · rename_i x4
        exact Touches.mono rfl (State.transient_touches _ _ _)
    clear_value x0
    refine Touches.ite ?_ ?_
    · exact Touches.after (State.repeatGrant_touches _ _) rfl h1
    · exact Touches.after (State.commitVerdict_touches _ _ _ _) rfl h1

theorem State.engineEnd_touches (s u e) :
    Touches [.freeCtr, .out, .reg, .host, .ops, .led, .strands, .grants, .frames, .content, .vit, .gth, .srv, .img] s (State.engineEnd s u e) := by
  unfold State.engineEnd
  split
  · rename_i x0
    exact Touches.refl _ _
  · rename_i x1
    exact Touches.mono rfl (State.corrected_touches _ _ _)
  · rename_i x2
    exact Touches.mono rfl (State.transient_touches _ _ _)

theorem State.repeatParse_touches (s f) :
    Touches [.reg, .grants, .frames, .srv] s (State.repeatParse s f) := by
  unfold State.repeatParse
  split
  rename_i x0 x1 x2 h3
  refine Touches.cut (Touches.of_snd h3 ?_) (fun k4 => ?_)
  · exact Touches.mono rfl (State.retryFrame_touches _ _ _)
  split
  · rename_i x5 x6 x7 h8
    exact Touches.put_grants rfl k4
  · rename_i x9 x10 x11 h12
    exact Touches.after (State.dropGrants_touches _ _ _) rfl k4

theorem State.endParse_touches (s f work) :
    Touches [.freeCtr, .out, .reg, .host, .ops, .led, .strands, .grants, .frames, .streams, .refused, .content, .vit, .gth, .srv, .img] s (State.endParse s f work) := by
  unfold State.endParse
  extract_lets +onlyGivenNames x0
  refine Touches.cut (x := x0) ?_ (fun h1 => ?_)
  · unfold x0
    exact Touches.mono rfl (State.engineEnd_touches _ _ _)
  clear_value x0
  refine Touches.ite ?_ ?_
  · exact Touches.after (State.repeatParse_touches _ _) rfl h1
  · exact Touches.after (State.checkFrame_touches _ _) rfl (Touches.after (State.parseDone_touches _ _) rfl h1)

theorem execFrameRx_answers (port ps wire s) :
    Answers [.freeCtr, .out, .reg, .host, .acc, .frames, .nextFrame, .streams, .calendar, .sas, .lastHanded, .refused, .srv] s (execFrameRx port ps wire s) := by
  unfold execFrameRx
  extract_lets +onlyGivenNames x0
  clear_value x0
  extract_lets +onlyGivenNames x1
  refine Answers.cut (x := x1) ?_ (fun h2 => ?_)
  · unfold x1
    exact Touches.mono rfl (State.receive_touches _ _ _ _)
  clear_value x1
  refine Answers.next (Touches.ite ?_ ?_)
  · exact Touches.after (State.causeAll_touches _ _ _) rfl h2
  · exact h2

theorem execIntakeParseDone_answers (frame work s) :
    Answers [.freeCtr, .out, .reg, .host, .ops, .led, .strands, .grants, .frames, .streams, .refused, .content, .vit, .gth, .srv, .img] s (execIntakeParseDone frame work s) := by
  unfold execIntakeParseDone
  split
  · rename_i x0 x1 h2
    refine Answers.ite ?_ ?_
    · exact Answers.next (Touches.mono rfl (State.endParse_touches _ _ _))
    · exact Answers.next (Touches.refl _ _)
  · rename_i x3 h4
    exact Answers.next (Touches.refl _ _)

theorem execStreamIdleTimeout_answers (stream s) :
    Answers [.reg, .acc, .frames, .nextFrame, .streams, .calendar, .srv] s (execStreamIdleTimeout stream s) := by
  unfold execStreamIdleTimeout
  split
  · rename_i x0 x1 h2
    refine Answers.ite ?_ ?_
    · exact Answers.next (Touches.mono rfl (State.closeIdle_touches _ _))
    · exact Answers.next (Touches.refl _ _)
  · rename_i x3 h4
    exact Answers.next (Touches.refl _ _)

theorem execVerdictCommit_answers (frame work policyUe s) :
    Answers [.freeCtr, .out, .reg, .host, .ops, .led, .acc, .strands, .grants, .frames, .streams, .calendar, .content, .vit, .gth, .srv, .img] s (execVerdictCommit frame work policyUe s) := by
  unfold execVerdictCommit
  split
  · rename_i x0 x1 x2 x3 h4 h5
    refine Answers.ite ?_ ?_
    · exact Answers.next (Touches.mono rfl (State.endCombine_touches _ _ _ _ _ _))
    · exact Answers.next (Touches.refl _ _)
  · rename_i x6 x7 h8
    exact Answers.next (Touches.refl _ _)

/-! Machine/Sched.lean -/

theorem State.modPunit_touches (s u f) :
    Touches [.pwr] s (State.modPunit s u f) := by
  unfold State.modPunit
  exact Touches.put_pwr rfl (Touches.refl _ _)

theorem State.touchUnit_touches (s st e) :
    Touches [.pwr] s (State.touchUnit s st e) := by
  unfold State.touchUnit
  exact Touches.mono rfl (State.modPunit_touches _ _ _)

theorem State.pinTexts_touches (s f) :
    Touches [.frames, .streams] s (State.pinTexts s f) := by
  unfold State.pinTexts
  refine Touches.ite ?_ ?_
  · exact Touches.refl _ _
  · extract_lets +onlyGivenNames x0
    clear_value x0
    extract_lets +onlyGivenNames x1
    clear_value x1
    extract_lets +onlyGivenNames x2
    refine Touches.cut (x := x2) ?_ (fun h3 => ?_)
    · unfold x2
      exact Touches.mono rfl (State.modFrame_touches _ _ _)
    clear_value x2
    split
    · rename_i x4 x5 h6
      exact Touches.after (State.modStream_touches _ _ _) rfl h3
    · rename_i x7 h8
      exact h3

theorem State.grantWork_touches (s st e i k w) :
    Touches [.grants, .frames, .streams] s (State.grantWork s st e i k w) := by
  unfold State.grantWork
  extract_lets +onlyGivenNames x0
  refine Touches.cut (x := x0) ?_ (fun h1 => ?_)
  · unfold x0
    split
    · rename_i x2 x3 h4
      exact Touches.mono rfl (State.pinTexts_touches _ _)
    · rename_i x5 h6
      exact Touches.refl _ _
  clear_value x0
  extract_lets +onlyGivenNames x7
  refine Touches.cut (x := x7) ?_ (fun h8 => ?_)
  · unfold x7
    split
    · rename_i x9
      exact Touches.mono rfl (State.modFrame_touches _ _ _)
    · rename_i x10 x11
      exact Touches.after (State.modFrame_touches _ _ _) rfl h1
    · rename_i x12 x13
      exact Touches.mono rfl (State.grantSearch_touches _ _ _ _)
    · rename_i x14 x15 x16 x17
      exact Touches.mono rfl (State.modFrame_touches _ _ _)
    · rename_i x18 x19
      exact Touches.mono rfl (State.modFrame_touches _ _ _)
    · rename_i x20
      exact Touches.mono rfl (State.modFrame_touches _ _ _)
  clear_value x7
  exact Touches.put_grants rfl h8

theorem State.grantTo_touches (s st e i replay) :
    Touches [.grants, .frames, .streams, .pwr] s (State.grantTo s st e i replay) := by
  unfold State.grantTo
  split
  · rename_i x0 x1 x2 h3
    exact Touches.after (State.touchUnit_touches _ _ _) rfl (Touches.mono rfl (State.grantWork_touches _ _ _ _ _ _))
  · rename_i x4 h5
    exact Touches.mono rfl (State.touchUnit_touches _ _ _)

theorem State.setWheel_touches (s st e w) :
    Touches [.wheels] s (State.setWheel s st e w) := by
  unfold State.setWheel
  exact Touches.put_wheels rfl (Touches.refl _ _)

theorem State.runSlot_touches (s st e) :
    Touches [.reg, .wheels, .grants, .frames, .streams, .vit, .pwr] s (State.runSlot s st e) := by
  unfold State.runSlot
  extract_lets +onlyGivenNames x0
  clear_value x0
  extract_lets +onlyGivenNames x1
  clear_value x1
  extract_lets +onlyGivenNames x2
  clear_value x2
  extract_lets +onlyGivenNames x3
  clear_value x3
  extract_lets +onlyGivenNames x4
  refine Touches.cut (x := x4) ?_ (fun h5 => ?_)
  · unfold x4
    refine Touches.ite ?_ ?_
    · exact Touches.mono rfl (State.modVbank_touches _ _ _)
    · exact Touches.refl _ _
  clear_value x4
  split
  · rename_i x6 x7 h8
    refine Touches.after (State.grantTo_touches _ _ _ _ _) rfl ?_
    exact Touches.after (State.count_touches _ _) rfl (Touches.after (State.setWheel_touches _ _ _ _) rfl h5)
  · rename_i x9 h10
    split
    · rename_i x11 x12 h13
      refine Touches.after (State.grantTo_touches _ _ _ _ _) rfl ?_
      exact Touches.after (State.count_touches _ _) rfl (Touches.after (State.setWheel_touches _ _ _ _) rfl h5)
    · rename_i x14 h15
      extract_lets +onlyGivenNames x16
      refine Touches.cut (x := x16) ?_ (fun h17 => ?_)
      · unfold x16
        exact Touches.after (State.setWheel_touches _ _ _ _) rfl h5
      clear_value x16
      split
      · rename_i x18 x19 h20
        exact Touches.after (State.grantTo_touches _ _ _ _ _) rfl (Touches.after (State.count_touches _ _) rfl h17)
      · rename_i x21 h22
        exact h17

theorem execWheelSlot_answers (stage engine s) :
    Answers [.reg, .wheels, .grants, .frames, .streams, .vit, .pwr] s (execWheelSlot stage engine s) := by
  unfold execWheelSlot
  refine Answers.ite ?_ ?_
  · exact Answers.next (Touches.mono rfl (State.runSlot_touches _ _ _))
  · exact Answers.next (Touches.refl _ _)

/-! Machine/Catalogue.lean -/

theorem State.endGrant_touches (s g) :
    Touches [.grants] s (State.endGrant s g) := by
  unfold State.endGrant
  exact Touches.put_grants rfl (Touches.refl _ _)

theorem State.finishText_touches (s f i t) :
    Touches [.reg, .frames, .srv] s (State.finishText s f i t) := by
  unfold State.finishText
  extract_lets +onlyGivenNames x0
  clear_value x0
  extract_lets +onlyGivenNames x1
  clear_value x1
  extract_lets +onlyGivenNames x2
  refine Touches.cut (x := x2) ?_ (fun h3 => ?_)
  · unfold x2
    exact Touches.after (State.modFrame_touches _ _ _) rfl (Touches.mono rfl (State.countBy_touches _ _ _))
  clear_value x2
  extract_lets +onlyGivenNames x4
  clear_value x4
  split
  rename_i x5 x6 x7 h8
  extract_lets +onlyGivenNames x9
  refine Touches.cut (x := x9) ?_ (fun h10 => ?_)
  · unfold x9
    refine Touches.ite ?_ ?_
    · exact Touches.after (State.count_touches _ _) rfl h3
    · exact h3
  clear_value x9
  refine Touches.after (State.checkFrame_touches _ _) rfl ?_
  exact Touches.after (State.queueFreed_touches _ _) rfl (Touches.after (State.putFrame_touches _ _) rfl h10)

theorem State.textUnitDone_touches (s g slot) :
    Touches [.reg, .grants, .frames, .srv] s (State.textUnitDone s g slot) := by
  unfold State.textUnitDone
  extract_lets +onlyGivenNames x0
  refine Touches.cut (x := x0) ?_ (fun h1 => ?_)
  · unfold x0
    exact Touches.after (State.count_touches _ _) rfl (Touches.mono rfl (State.endGrant_touches _ _))
  clear_value x0
  split
  · rename_i x2 h3
    exact h1
  · rename_i x4 x5 h6
    split
    · rename_i x7 h8
      exact h1
    · rename_i x9 x10 h11
      extract_lets +onlyGivenNames x12
      refine Touches.ite ?_ ?_
      · exact Touches.after (State.finishText_touches _ _ _ _) rfl h1
      · exact Touches.after (State.modFrame_touches _ _ _) rfl h1

theorem State.endTextUnit_touches (s g slot work contentUe) :
    Touches [.freeCtr, .out, .reg, .host, .ops, .led, .strands, .grants, .frames, .content, .vit, .gth, .srv, .img] s (State.endTextUnit s g slot work contentUe) := by
  unfold State.endTextUnit
  extract_lets +onlyGivenNames x0
  clear_value x0
  extract_lets +onlyGivenNames x1
  refine Touches.cut (x := x1) ?_ (fun h2 => ?_)
  · unfold x1
    split
    · rename_i x3 x4 x5 x6
      exact Touches.mono rfl (State.markBad_touches _ _ _ _)
    · rename_i x7 x8 h9
      exact Touches.refl _ _
  clear_value x1
  extract_lets +onlyGivenNames x10
  clear_value x10
  extract_lets +onlyGivenNames x11
  refine Touches.cut (x := x11) ?_ (fun h12 => ?_)
  · unfold x11
    split
    · rename_i x13
      exact Touches.after (State.engineEnd_touches _ _ _) rfl (Touches.after (State.count_touches _ _) rfl h2)
    · rename_i x14 h15
      exact Touches.after (State.engineEnd_touches _ _ _) rfl h2
  clear_value x11
  refine Touches.ite ?_ ?_
  · exact Touches.after (State.repeatGrant_touches _ _) rfl h12
  · exact Touches.after (State.textUnitDone_touches _ _ _) rfl h12

theorem execCatalogueUnitDone_answers (engine work contentUe s) :
    Answers [.freeCtr, .out, .reg, .host, .ops, .led, .strands, .grants, .frames, .content, .vit, .gth, .srv, .img, .pwr] s (execCatalogueUnitDone engine work contentUe s) := by
  unfold execCatalogueUnitDone
  split
  · rename_i x0 x1 h2
    split
    · rename_i x3 x4 h5
      refine Answers.ite ?_ ?_
      · exact Answers.next (Touches.after (State.touchUnit_touches _ _ _) rfl (Touches.mono rfl (State.endTextUnit_touches _ _ _ _ _)))
      · exact Answers.next (Touches.refl _ _)
    · rename_i x6 h7
      exact Answers.next (Touches.refl _ _)
  · rename_i x8 h9
    exact Answers.next (Touches.refl _ _)

/-! Machine/Gather.lean -/

theorem State.creditFail_touches (s k) :
    Touches [.reg, .frames, .srv] s (State.creditFail s k) := by
  unfold State.creditFail
  refine Touches.after (State.cause_touches _ _ _) rfl (Touches.after (State.setBits_touches _ _ _) rfl ?_)
  exact Touches.after (State.count_touches _ _) rfl (Touches.mono rfl (State.modFrame_touches _ _ _))

theorem State.finishWalk_touches (s f i w) :
    Touches [.reg, .frames, .pwr] s (State.finishWalk s f i w) := by
  unfold State.finishWalk
  extract_lets +onlyGivenNames x0
  clear_value x0
  extract_lets +onlyGivenNames x1
  clear_value x1
  extract_lets +onlyGivenNames x2
  clear_value x2
  extract_lets +onlyGivenNames x3
  clear_value x3
  extract_lets +onlyGivenNames x4
  clear_value x4
  extract_lets +onlyGivenNames x5
  refine Touches.cut (x := x5) ?_ (fun h6 => ?_)
  · unfold x5
    exact Touches.after (State.countBy_touches _ _ _) rfl (Touches.mono rfl (State.count_touches _ _))
  clear_value x5
  exact Touches.after (State.touchUnit_touches _ _ _) rfl (Touches.after (State.modFrame_touches _ _ _) rfl h6)

theorem State.putWalk_touches (s f i w) :
    Touches [.reg, .frames, .pwr] s (State.putWalk s f i w) := by
  unfold State.putWalk
  refine Touches.ite ?_ ?_
  · exact Touches.mono rfl (State.finishWalk_touches _ _ _ _)
  · exact Touches.mono rfl (State.modFrame_touches _ _ _)

theorem State.repeatWalk_touches (s k) :
    Touches [.reg, .frames, .srv] s (State.repeatWalk s k) := by
  unfold State.repeatWalk
  split
  rename_i x0 x1 x2 h3
  refine Touches.cut (Touches.of_snd h3 ?_) (fun k4 => ?_)
  · exact Touches.mono rfl (State.retryFrame_touches _ _ _)
  refine Touches.ite ?_ ?_
  · exact Touches.after (State.modFrame_touches _ _ _) rfl k4
  · exact Touches.after (State.modFrame_touches _ _ _) rfl k4

theorem State.endRead_touches (s f i w pos e) :
    Touches [.freeCtr, .out, .reg, .host, .ops, .led, .strands, .grants, .frames, .content, .vit, .gth, .srv, .img, .pwr] s (State.endRead s f i w pos e) := by
  unfold State.endRead
  extract_lets +onlyGivenNames x0
  refine Touches.cut (x := x0) ?_ (fun h1 => ?_)
  · unfold x0
    exact Touches.mono rfl (State.touchUnit_touches _ _ _)
  clear_value x0
  split
  · rename_i x2
    exact Touches.after (State.putWalk_touches _ _ _ _) rfl h1
  · rename_i x3
    refine Touches.after (State.repeatWalk_touches _ _) rfl ?_
    exact Touches.after (State.count_touches _ _) rfl (Touches.after (State.hbmCe_touches _) rfl h1)
  · rename_i x4
    refine Touches.after (State.repeatWalk_touches _ _) rfl ?_
    exact Touches.after (State.damageGraph_touches _ _) rfl (Touches.after (State.hbmUe_touches _ _) rfl h1)

theorem State.fillPools_touches (s) :
    Touches [.reg, .gth] s (State.fillPools s) := by
  unfold State.fillPools
  extract_lets +onlyGivenNames x0
  clear_value x0
  extract_lets +onlyGivenNames x1
  clear_value x1
  extract_lets +onlyGivenNames x2
  refine Touches.cut (x := x2) ?_ (fun h3 => ?_)
  · unfold x2
    refine Touches.foldl ?_ (fun t5 x6 h4 => ?_)
    · exact Touches.refl _ _
    · exact Touches.after (State.set_touches _ _ _) rfl h4
  clear_value x2
  extract_lets +onlyGivenNames x7
  refine Touches.cut (x := x7) ?_ (fun h8 => ?_)
  · unfold x7
    exact Touches.after (State.set_touches _ _ _) rfl h3
  clear_value x7
  exact Touches.put_gth rfl h8

theorem State.markGranted_touches (s r) :
    Touches [.reg, .frames] s (State.markGranted s r) := by
  unfold State.markGranted
  exact Touches.after (State.count_touches _ _) rfl (Touches.mono rfl (State.modFrame_touches _ _ _))

theorem State.grantReserved_touches (s j r) :
    Touches [.reg, .frames] s (State.grantReserved s j r) := by
  unfold State.grantReserved
  extract_lets +onlyGivenNames x0
  refine Touches.cut (x := x0) ?_ (fun h1 => ?_)
  · unfold x0
    exact Touches.mono rfl (State.set_touches _ _ _)
  clear_value x0
  exact Touches.after (State.markGranted_touches _ _) rfl (Touches.after (State.count_touches _ _) rfl h1)

theorem State.grantSpare_touches (s i replay r) :
    Touches [.reg, .frames, .gth] s (State.grantSpare s i replay r) := by
  unfold State.grantSpare
  extract_lets +onlyGivenNames x0
  refine Touches.cut (x := x0) ?_ (fun h1 => ?_)
  · unfold x0
    exact Touches.mono rfl (State.set_touches _ _ _)
  clear_value x0
  extract_lets +onlyGivenNames x2
  clear_value x2
  extract_lets +onlyGivenNames x3
  refine Touches.cut (x := x3) ?_ (fun h4 => ?_)
  · unfold x3
    refine Touches.ite ?_ ?_
    · exact h1
    · exact Touches.put_gth rfl h1
  clear_value x3
  exact Touches.after (State.markGranted_touches _ _) rfl (Touches.after (State.count_touches _ _) rfl h4)

theorem State.latchShares_touches (s) :
    Touches [.gth, .srv] s (State.latchShares s) := by
  unfold State.latchShares
  exact Touches.put_gth_srv rfl (Touches.refl _ _)

theorem State.startWalk_touches (s f i e c) :
    Touches [.reg, .frames, .pwr] s (State.startWalk s f i e c) := by
  unfold State.startWalk
  extract_lets +onlyGivenNames x0
  clear_value x0
  extract_lets +onlyGivenNames x1
  refine Touches.cut (x := x1) ?_ (fun h2 => ?_)
  · unfold x1
    exact Touches.mono rfl (State.modFrame_touches _ _ _)
  clear_value x1
  exact Touches.after (State.putWalk_touches _ _ _ _) rfl h2

theorem execCreditBoundary_answers (s) :
    Answers [.reg, .gth, .srv] s (execCreditBoundary s) := by
  unfold execCreditBoundary
  refine Answers.ite ?_ ?_
  · extract_lets +onlyGivenNames x0
    refine Answers.cut (x := x0) ?_ (fun h1 => ?_)
    · unfold x0
      exact Touches.mono rfl (State.latchShares_touches _)
    clear_value x0
    refine Answers.next (Touches.ite ?_ ?_)
    · exact Touches.after (State.fillPools_touches _) rfl h1
    · exact h1
  · exact Answers.next (Touches.refl _ _)

theorem execCreditDeadline_answers (frame s) :
    Answers [.reg, .frames, .srv] s (execCreditDeadline frame s) := by
  unfold execCreditDeadline
  split
  · rename_i x0 x1 h2
    split
    · rename_i x3 x4 h5
      refine Answers.ite ?_ ?_
      · exact Answers.next (Touches.mono rfl (State.creditFail_touches _ _))
      · exact Answers.next (Touches.refl _ _)
    · rename_i x6 h7
      exact Answers.next (Touches.refl _ _)
  · rename_i x8 h9
    exact Answers.next (Touches.refl _ _)

theorem execGatherReadGrant_answers (strand s) :
    Answers [.reg, .frames, .gth] s (execGatherReadGrant strand s) := by
  unfold execGatherReadGrant
  extract_lets +onlyGivenNames x0
  clear_value x0
  refine Answers.ite ?_ ?_
  · exact Answers.next (Touches.refl _ _)
  · split
    · rename_i x1 x2 x3 x4 h5 h6
      exact Answers.next (Touches.mono rfl (State.grantReserved_touches _ _ _))
    · rename_i x7 x8 x9 h10 h11
      refine Answers.ite ?_ ?_
      · exact Answers.next (Touches.mono rfl (State.grantSpare_touches _ _ _ _))
      · exact Answers.next (Touches.refl _ _)
    · rename_i x12 x13 h14
      split
      · rename_i x15 x16 h17
        refine Answers.ite ?_ ?_
        · exact Answers.next (Touches.mono rfl (State.grantSpare_touches _ _ _ _))
        · exact Answers.next (Touches.refl _ _)
      · rename_i x18 h19
        exact Answers.next (Touches.refl _ _)

theorem execGatherReadReturn_answers (frame pos read s) :
    Answers [.freeCtr, .out, .reg, .host, .ops, .led, .strands, .grants, .frames, .content, .vit, .gth, .srv, .img, .pwr] s (execGatherReadReturn frame pos read s) := by
  unfold execGatherReadReturn
  split
  · rename_i x0 x1 x2 x3 x4 h5
    refine Answers.ite ?_ ?_
    · exact Answers.next (Touches.mono rfl (State.endRead_touches _ _ _ _ _ _))
    · exact Answers.next (Touches.refl _ _)
  · rename_i x6 h7
    exact Answers.next (Touches.refl _ _)

theorem execGatherReadTimeout_answers (frame pos s) :
    Answers [.freeCtr, .out, .reg, .host, .ops, .led, .strands, .grants, .frames, .content, .vit, .gth, .srv, .img] s (execGatherReadTimeout frame pos s) := by
  unfold execGatherReadTimeout
  split
  · rename_i x0 x1 x2 x3 x4 h5
    refine Answers.ite ?_ ?_
    · refine Answers.next (Touches.after (State.repeatWalk_touches _ _) rfl ?_)
      exact Touches.after (State.transient_touches _ _ _) rfl (Touches.mono rfl (State.count_touches _ _))
    · exact Answers.next (Touches.refl _ _)
  · rename_i x6 h7
    exact Answers.next (Touches.refl _ _)

theorem execGatherWalkStart_answers (frame s) :
    Answers [.reg, .frames, .pwr] s (execGatherWalkStart frame s) := by
  unfold execGatherWalkStart
  split
  · rename_i x0 x1 x2 x3 x4 h5 h6
    split
    · rename_i x7 x8 h9
      refine Answers.ite ?_ ?_
      · exact Answers.next (Touches.mono rfl (State.startWalk_touches _ _ _ _ _))
      · exact Answers.next (Touches.refl _ _)
    · rename_i x10 h11
      exact Answers.next (Touches.refl _ _)
  · rename_i x12 x13 h14
    exact Answers.next (Touches.refl _ _)

end Sys2Proof.Machine
end

