-- ==== Sys2Proof/Laws/TouchesGuard.lean ====
section
/-!
SUPPORT. What the operations of guard serving may change: one lemma each.
-/
namespace Sys2Proof.Machine

/-! Machine/GuardOps.lean -/

theorem State.countEnd_touches (s status) :
    Touches [.reg] s (State.countEnd s status) := by
  unfold State.countEnd
  split
  · rename_i x0
    exact Touches.mono rfl (State.count_touches _ _)
  · rename_i x1
    exact Touches.mono rfl (State.count_touches _ _)
  · rename_i x2
    exact Touches.mono rfl (State.count_touches _ _)
  · rename_i x3
    exact Touches.mono rfl (State.count_touches _ _)
  · rename_i x4
    exact Touches.mono rfl (State.count_touches _ _)
  · rename_i x5 h6 h7 h8 h9 h10
    exact Touches.refl _ _

theorem State.endRequest_touches (s slot status) :
    Touches [.reg, .srv] s (State.endRequest s slot status) := by
  unfold State.endRequest
  extract_lets +onlyGivenNames x0
  refine Touches.cut (x := x0) ?_ (fun h1 => ?_)
  · unfold x0
    split
    · rename_i x2 x3 h4
      exact Touches.after (State.modRequest_touches _ _ _) rfl (Touches.mono rfl (State.dropEntry_touches _ _))
    · rename_i x5 h6
      exact Touches.refl _ _
  clear_value x0
  exact Touches.after (State.modRequest_touches _ _ _) rfl (Touches.after (State.countEnd_touches _ _) rfl h1)

theorem State.noteActive_touches (s c) :
    Touches [.srv] s (State.noteActive s c) := by
  unfold State.noteActive
  refine Touches.ite ?_ ?_
  · exact Touches.mono rfl (State.modCove_touches _ _ _)
  · exact Touches.mono rfl (State.modCove_touches _ _ _)

theorem State.queueRecord_touches (s slot flags text reply due) :
    Touches [.srv] s (State.queueRecord s slot flags text reply due) := by
  unfold State.queueRecord
  split
  · rename_i x0 h1
    exact Touches.refl _ _
  · rename_i x2 x3 h4
    extract_lets +onlyGivenNames x5
    clear_value x5
    exact Touches.after (State.modCove_touches _ _ _) rfl (Touches.mono rfl (State.modRequest_touches _ _ _))

theorem State.takeOutput_touches (s k g) :
    Touches [.frames, .srv] s (State.takeOutput s k g) := by
  unfold State.takeOutput
  extract_lets +onlyGivenNames x0
  refine Touches.cut (x := x0) ?_ (fun h1 => ?_)
  · unfold x0
    exact Touches.mono rfl (State.modFrame_touches _ _ _)
  clear_value x0
  split
  · rename_i x2 x3 h4
    exact Touches.after (State.cause_touches _ _ _) rfl h1
  · rename_i x5 h6
    exact h1

/-! Machine/GuardAdmit.lean -/

theorem State.endAtAdmission_touches (s slot status) :
    Touches [.reg, .frames, .srv] s (State.endAtAdmission s slot status) := by
  unfold State.endAtAdmission
  split
  · rename_i x0 h1
    exact Touches.refl _ _
  · rename_i x2 x3 h4
    extract_lets +onlyGivenNames x5
    refine Touches.cut (x := x5) ?_ (fun h6 => ?_)
    · unfold x5
      exact Touches.after (State.modRequest_touches _ _ _) rfl (Touches.mono rfl (State.endRequest_touches _ _ _))
    clear_value x5
    extract_lets +onlyGivenNames x7
    refine Touches.cut (x := x7) ?_ (fun h8 => ?_)
    · unfold x7
      exact Touches.after (State.queueRecord_touches _ _ _ _ _ _) rfl h6
    clear_value x7
    exact Touches.after (State.takeOutput_touches _ _ _) rfl h8

theorem State.bindRequest_touches (s a slot) :
    Touches [.frames] s (State.bindRequest s a slot) := by
  unfold State.bindRequest
  extract_lets +onlyGivenNames x0
  clear_value x0
  extract_lets +onlyGivenNames x1
  clear_value x1
  exact Touches.mono rfl (State.modFrame_touches _ _ _)

theorem State.refuseRequest_touches (s a why) :
    Touches [.reg, .frames, .srv] s (State.refuseRequest s a why) := by
  unfold State.refuseRequest
  extract_lets +onlyGivenNames x0
  refine Touches.cut (x := x0) ?_ (fun h1 => ?_)
  · unfold x0
    exact Touches.after (State.setBits_touches _ _ _) rfl (Touches.mono rfl (State.count_touches _ _))
  clear_value x0
  split
  · rename_i x2 h3
    exact Touches.after (State.takeOutput_touches _ _ _) rfl h1
  · rename_i x4 x5 h6
    extract_lets +onlyGivenNames x7
    clear_value x7
    extract_lets +onlyGivenNames x8
    refine Touches.cut (x := x8) ?_ (fun h9 => ?_)
    · unfold x8
      exact Touches.put_srv rfl h1
    clear_value x8
    exact Touches.after (State.endAtAdmission_touches _ _ _) rfl (Touches.after (State.bindRequest_touches _ _ _) rfl h9)

theorem State.admitRequest_touches (s a slot) :
    Touches [.reg, .frames, .srv] s (State.admitRequest s a slot) := by
  unfold State.admitRequest
  extract_lets +onlyGivenNames x0
  clear_value x0
  split
  · rename_i x1 h2
    exact Touches.mono rfl (State.refuseRequest_touches _ _ _)
  · rename_i x3 x4 x5 h6
    extract_lets +onlyGivenNames x7
    clear_value x7
    extract_lets +onlyGivenNames x8
    refine Touches.cut (x := x8) ?_ (fun h9 => ?_)
    · unfold x8
      exact Touches.mono rfl (State.count_touches _ _)
    clear_value x8
    extract_lets +onlyGivenNames x10
    clear_value x10
    extract_lets +onlyGivenNames x11
    clear_value x11
    extract_lets +onlyGivenNames x12
    refine Touches.cut (x := x12) ?_ (fun h13 => ?_)
    · unfold x12
      exact Touches.after (State.modCove_touches _ _ _) rfl h9
    clear_value x12
    extract_lets +onlyGivenNames x14
    clear_value x14
    extract_lets +onlyGivenNames x15
    refine Touches.cut (x := x15) ?_ (fun h16 => ?_)
    · unfold x15
      exact Touches.put_srv rfl h13
    clear_value x15
    exact Touches.after (State.noteActive_touches _ _) rfl (Touches.after (State.bindRequest_touches _ _ _) rfl h16)

theorem State.decideAdmission_touches (s f) :
    Touches [.reg, .frames, .srv] s (State.decideAdmission s f) := by
  unfold State.decideAdmission
  extract_lets +onlyGivenNames x0
  clear_value x0
  extract_lets +onlyGivenNames x1
  refine Touches.cut (x := x1) ?_ (fun h2 => ?_)
  · unfold x1
    refine Touches.ite ?_ ?_
    · exact Touches.after (State.modFrame_touches _ _ _) rfl (Touches.mono rfl (State.count_touches _ _))
    · exact Touches.refl _ _
  clear_value x1
  extract_lets +onlyGivenNames x3
  refine Touches.cut (x := x3) ?_ (fun h4 => ?_)
  · unfold x3
    exact Touches.after (State.countBy_touches _ _ _) rfl h2
  clear_value x3
  extract_lets +onlyGivenNames x5
  refine Touches.cut (x := x5) ?_ (fun h6 => ?_)
  · unfold x5
    refine Touches.ite ?_ ?_
    · exact Touches.after (State.count_touches _ _) rfl h4
    · exact h4
  clear_value x5
  split
  · rename_i x7 x8 x9 h10
    exact Touches.after (State.refuseRequest_touches _ _ _) rfl h6
  · rename_i x11 x12 h13 h14
    exact Touches.after (State.refuseRequest_touches _ _ _) rfl h6
  · rename_i x15 x16 x17 h18 h19
    refine Touches.ite ?_ ?_
    · extract_lets +onlyGivenNames x20
      clear_value x20
      extract_lets +onlyGivenNames x21
      refine Touches.cut (x := x21) ?_ (fun h22 => ?_)
      · unfold x21
        exact Touches.put_srv rfl h6
      clear_value x21
      exact Touches.after (State.endAtAdmission_touches _ _ _) rfl (Touches.after (State.bindRequest_touches _ _ _) rfl h22)
    · exact Touches.after (State.admitRequest_touches _ _ _) rfl h6

theorem State.freeRequest_touches (s r) :
    Touches [.srv] s (State.freeRequest s r) := by
  unfold State.freeRequest
  extract_lets +onlyGivenNames x0
  refine Touches.cut (x := x0) ?_ (fun h1 => ?_)
  · unfold x0
    exact Touches.mono rfl (State.modCove_touches _ _ _)
  clear_value x0
  exact Touches.put_srv rfl h1

theorem State.postRecord_touches (s cove x) :
    Touches [.freeCtr, .out, .reg, .host, .srv] s (State.postRecord s cove x) := by
  unfold State.postRecord
  split
  rename_i x0 x1 x2 h3
  refine Touches.cut (Touches.of_fst h3 ?_) (fun k4 => ?_)
  · exact Touches.mono rfl (State.resultRecord_touches _ _ _ _ _ _ _)
  extract_lets +onlyGivenNames x5
  refine Touches.cut (x := x5) ?_ (fun h6 => ?_)
  · unfold x5
    refine Touches.ite ?_ ?_
    · exact Touches.after (State.modRequest_touches _ _ _) rfl k4
    · exact k4
  clear_value x5
  split
  · rename_i x7 x8 h9
    exact Touches.after (State.complete_touches _ _ _ _) rfl h6
  · rename_i x10 h11
    exact h6

theorem State.runCancel_touches (s req frameId c) :
    Touches [.freeCtr, .out, .reg, .host, .srv] s (State.runCancel s req frameId c) := by
  unfold State.runCancel
  split
  · rename_i x0 x1 x2 h3
    refine Touches.ite ?_ ?_
    · exact Touches.after (State.complete_touches _ _ _ _) rfl (Touches.mono rfl (State.count_touches _ _))
    · refine Touches.ite ?_ ?_
      · exact Touches.mono rfl (State.complete_touches _ _ _ _)
      · exact Touches.mono rfl (State.modRequest_touches _ _ _)
  · rename_i x4 h5
    exact Touches.after (State.complete_touches _ _ _ _) rfl (Touches.mono rfl (State.count_touches _ _))
  · rename_i x6 h7
    exact Touches.mono rfl (State.complete_touches _ _ _ _)

theorem execBatchRecordPost_answers (cove s) :
    Answers [.freeCtr, .out, .reg, .host, .srv] s (execBatchRecordPost cove s) := by
  unfold execBatchRecordPost
  extract_lets +onlyGivenNames x0
  clear_value x0
  extract_lets +onlyGivenNames x1
  refine Answers.cut (x := x1) ?_ (fun h2 => ?_)
  · unfold x1
    exact Touches.mono rfl (State.modCove_touches _ _ _)
  clear_value x1
  refine Answers.next (Touches.foldl ?_ (fun t4 x5 h3 => ?_))
  · exact h2
  · exact Touches.after (State.postRecord_touches _ _ _) rfl h3

theorem execCoveWedgeTimeout_answers (cove s) :
    Answers [.out, .reg, .host, .srv] s (execCoveWedgeTimeout cove s) := by
  unfold execCoveWedgeTimeout
  extract_lets +onlyGivenNames x0
  clear_value x0
  split
  · rename_i x1 x2 h3
    refine Answers.ite ?_ ?_
    · refine Answers.next (Touches.after (State.wedge_touches _ _ _) rfl ?_)
      exact Touches.after (State.event_touches _ _ _ _) rfl (Touches.mono rfl (State.modCove_touches _ _ _))
    · exact Answers.next (Touches.refl _ _)
  · rename_i x4 h5
    exact Answers.next (Touches.refl _ _)

theorem execGsCancel_answers (q e req frameId s) :
    Answers [.freeCtr, .out, .reg, .host, .srv] s (execGsCancel q e req frameId s) := by
  unfold execGsCancel
  refine Answers.next (Touches.trans ?_ (State.sqCommand_touches rfl _ _ _ _ _ (fun t0 t1 => ?_)))
  · exact Touches.refl _ _
  · exact Touches.mono rfl (State.runCancel_touches _ _ _ _)

theorem execGsPrefixFlush_answers (q e cove s) :
    Answers [.freeCtr, .out, .reg, .host, .srv] s (execGsPrefixFlush q e cove s) := by
  unfold execGsPrefixFlush
  refine Answers.next (Touches.trans ?_ (State.sqCommand_touches rfl _ _ _ _ _ (fun t0 t1 => ?_)))
  · exact Touches.refl _ _
  · refine Touches.ite ?_ ?_
    · exact Touches.after (State.complete_touches _ _ _ _) rfl (Touches.mono rfl (State.modCove_touches _ _ _))
    · exact Touches.mono rfl (State.complete_touches _ _ _ _)

theorem execGsQuery_answers (q e req frameId s) :
    Answers [.freeCtr, .out, .reg, .host] s (execGsQuery q e req frameId s) := by
  unfold execGsQuery
  refine Answers.next (Touches.trans ?_ (State.sqCommand_touches rfl _ _ _ _ _ (fun t0 t1 => ?_)))
  · exact Touches.refl _ _
  · split
    · rename_i x2 x3 x4 h5
      exact Touches.mono rfl (State.complete_touches _ _ _ _)
    · rename_i x6 x7 h8
      exact Touches.mono rfl (State.complete_touches _ _ _ _)

theorem execGuardDeadlineCheck_answers (frame s) :
    Answers [.srv] s (execGuardDeadlineCheck frame s) := by
  unfold execGuardDeadlineCheck
  extract_lets +onlyGivenNames x0
  clear_value x0
  extract_lets +onlyGivenNames x1
  clear_value x1
  exact Answers.next (Touches.put_srv rfl (Touches.refl _ _))

theorem execGuardOutputPost_answers (cove s) :
    Answers [.frames, .srv] s (execGuardOutputPost cove s) := by
  unfold execGuardOutputPost
  extract_lets +onlyGivenNames x0
  clear_value x0
  extract_lets +onlyGivenNames x1
  refine Answers.cut (x := x1) ?_ (fun h2 => ?_)
  · unfold x1
    exact Touches.mono rfl (State.modCove_touches _ _ _)
  clear_value x1
  refine Answers.next (Touches.foldl ?_ (fun t4 x5 h3 => ?_))
  · exact h2
  · exact Touches.after (State.takeOutput_touches _ _ _) rfl h3

theorem execGuardRequestAdmit_answers (frame s) :
    Answers [.reg, .frames, .srv] s (execGuardRequestAdmit frame s) := by
  unfold execGuardRequestAdmit
  split
  · rename_i x0 x1 h2
    refine Answers.ite ?_ ?_
    · exact Answers.next (Touches.mono rfl (State.decideAdmission_touches _ _))
    · exact Answers.next (Touches.refl _ _)
  · rename_i x3 h4
    exact Answers.next (Touches.refl _ _)

theorem execRequestFree_answers (slot s) :
    Answers [.srv] s (execRequestFree slot s) := by
  unfold execRequestFree
  split
  · rename_i x0 x1 h2
    refine Answers.ite ?_ ?_
    · exact Answers.next (Touches.mono rfl (State.freeRequest_touches _ _))
    · exact Answers.next (Touches.refl _ _)
  · rename_i x3 h4
    exact Answers.next (Touches.refl _ _)

/-! Machine/GuardStep.lean -/

theorem State.answerLate_touches (s slot) :
    Touches [.freeCtr, .out, .reg, .host] s (State.answerLate s slot) := by
  unfold State.answerLate
  split
  · rename_i x0 x1 h2
    split
    · rename_i x3 x4 x5 x6 h7
      refine Touches.ite ?_ ?_
      · exact Touches.after (State.complete_touches _ _ _ _) rfl (Touches.mono rfl (State.count_touches _ _))
      · exact Touches.refl _ _
    · rename_i x8 h9
      exact Touches.refl _ _
  · rename_i x10 h11
    exact Touches.refl _ _

theorem State.sealChunk_touches (s r first len) :
    Touches [.srv] s (State.sealChunk s r first len) := by
  unfold State.sealChunk
  extract_lets +onlyGivenNames x0
  clear_value x0
  extract_lets +onlyGivenNames x1
  clear_value x1
  extract_lets +onlyGivenNames x2
  clear_value x2
  refine Touches.foldl ?_ (fun t4 x5 h3 => ?_)
  · exact Touches.refl _ _
  · split
    · rename_i x6 x7 x8 x9 h10 h11
      exact Touches.after (State.modCove_touches _ _ _) rfl h3
    · rename_i x12 x13 h14
      assumption

theorem State.queueOutput_touches (s slot status label q gen) :
    Touches [.srv] s (State.queueOutput s slot status label q gen) := by
  unfold State.queueOutput
  split
  · rename_i x0 h1
    exact Touches.refl _ _
  · rename_i x2 x3 h4
    extract_lets +onlyGivenNames x5
    clear_value x5
    exact Touches.after (State.modCove_touches _ _ _) rfl (Touches.mono rfl (State.modRequest_touches _ _ _))

theorem State.closeOutput_touches (s slot status) :
    Touches [.srv] s (State.closeOutput s slot status) := by
  unfold State.closeOutput
  split
  · rename_i x0 x1 h2
    refine Touches.ite ?_ ?_
    · exact Touches.refl _ _
    · exact Touches.mono rfl (State.queueOutput_touches _ _ _ _ _ _)
  · rename_i x3 h4
    exact Touches.refl _ _

theorem State.postParts_touches (s slot flags text reply) :
    Touches [.srv] s (State.postParts s slot flags text reply) := by
  unfold State.postParts
  extract_lets +onlyGivenNames x0
  clear_value x0
  extract_lets +onlyGivenNames x1
  clear_value x1
  extract_lets +onlyGivenNames x2
  clear_value x2
  extract_lets +onlyGivenNames x3
  refine Touches.cut (x := x3) ?_ (fun h4 => ?_)
  · unfold x3
    refine Touches.foldl ?_ (fun t6 x7 h5 => ?_)
    · exact Touches.refl _ _
    · exact Touches.after (State.queueRecord_touches _ _ _ _ _ _) rfl h5
  clear_value x3
  exact Touches.after (State.queueRecord_touches _ _ _ _ _ _) rfl h4

theorem State.applyRows_touches (s r rows) :
    Touches [.reg, .srv] s (State.applyRows s r rows) := by
  unfold State.applyRows
  extract_lets +onlyGivenNames x0
  clear_value x0
  extract_lets +onlyGivenNames x1
  clear_value x1
  split
  rename_i x2 x3 x4 h5
  extract_lets +onlyGivenNames x6
  refine Touches.cut (x := x6) ?_ (fun h7 => ?_)
  · unfold x6
    split
    · rename_i x8 x9 x10
      exact Touches.after (State.modRequest_touches _ _ _) rfl (Touches.mono rfl (State.sealChunk_touches _ _ _ _))
    · rename_i x11 x12
      exact Touches.mono rfl (State.countBy_touches _ _ _)
  clear_value x6
  split
  rename_i x13 x14 x15 h16
  extract_lets +onlyGivenNames x17
  clear_value x17
  extract_lets +onlyGivenNames x18
  clear_value x18
  extract_lets +onlyGivenNames x19
  clear_value x19
  extract_lets +onlyGivenNames x20
  clear_value x20
  extract_lets +onlyGivenNames x21
  clear_value x21
  extract_lets +onlyGivenNames x22
  refine Touches.cut (x := x22) ?_ (fun h23 => ?_)
  · unfold x22
    exact Touches.after (State.modRequest_touches _ _ _) rfl h7
  clear_value x22
  extract_lets +onlyGivenNames x24
  refine Touches.cut (x := x24) ?_ (fun h25 => ?_)
  · unfold x24
    split
    · rename_i x26 x27
      exact Touches.after (State.endRequest_touches _ _ _) rfl h23
    · rename_i x28
      exact h23
  clear_value x24
  extract_lets +onlyGivenNames x29
  refine Touches.cut (x := x29) ?_ (fun h30 => ?_)
  · unfold x29
    split
    · rename_i x31 x32 x33 x34
      exact Touches.after (State.queueOutput_touches _ _ _ _ _ _) rfl h25
    · rename_i x35
      split
      · rename_i x36 x37
        exact Touches.after (State.closeOutput_touches _ _ _) rfl h25
      · rename_i x38
        exact h25
  clear_value x29
  refine Touches.ite ?_ ?_
  · refine Touches.ite ?_ ?_
    · exact Touches.after (State.postParts_touches _ _ _ _ _) rfl h30
    · exact h30
  · refine Touches.ite ?_ ?_
    · exact Touches.after (State.postParts_touches _ _ _ _ _) rfl h30
    · exact h30

theorem State.badBlock_touches (s c b) :
    Touches [.freeCtr, .out, .reg, .host, .ops, .led, .strands, .grants, .frames, .content, .vit, .gth, .srv, .img] s (State.badBlock s c b) := by
  unfold State.badBlock
  exact Touches.after (State.blockBad_touches _ _ _) rfl (Touches.mono rfl (State.hbmUe_touches _ _))

theorem State.dropEnd_touches (s slot status reply) :
    Touches [.reg, .srv] s (State.dropEnd s slot status reply) := by
  unfold State.dropEnd
  refine Touches.after (State.postParts_touches _ _ _ _ _) rfl ?_
  exact Touches.after (State.closeOutput_touches _ _ _) rfl (Touches.mono rfl (State.endRequest_touches _ _ _))

theorem State.draftNext_touches (s slot) :
    Touches [.srv] s (State.draftNext s slot) := by
  unfold State.draftNext
  split
  · rename_i x0 h1
    exact Touches.refl _ _
  · rename_i x2 x3 h4
    refine Touches.ite ?_ ?_
    · extract_lets +onlyGivenNames x5
      clear_value x5
      exact Touches.mono rfl (State.modRequest_touches _ _ _)
    · exact Touches.refl _ _

theorem State.commitRequest_touches (s slot rows failed) :
    Touches [.freeCtr, .out, .reg, .host, .srv] s (State.commitRequest s slot rows failed) := by
  unfold State.commitRequest
  split
  · rename_i x0 h1
    exact Touches.refl _ _
  · rename_i x2 x3 h4
    refine Touches.ite ?_ ?_
    · exact Touches.refl _ _
    · split
      · rename_i x5 x6 x7 x8 x9 h10
        exact Touches.mono rfl (State.dropEnd_touches _ _ _ _)
      · rename_i x11 x12 x13 x14 x15 h16 h17
        exact Touches.after (State.answerLate_touches _ _) rfl (Touches.mono rfl (State.dropEnd_touches _ _ _ _))
      · rename_i x18 x19 x20 x21 h22 h23
        extract_lets +onlyGivenNames x24
        refine Touches.cut (x := x24) ?_ (fun h25 => ?_)
        · unfold x24
          exact Touches.mono rfl (State.modRequest_touches _ _ _)
        clear_value x24
        refine Touches.ite ?_ ?_
        · exact Touches.after (State.answerLate_touches _ _) rfl (Touches.after (State.dropEnd_touches _ _ _ _) rfl h25)
        · refine Touches.after (State.answerLate_touches _ _) rfl ?_
          exact Touches.after (State.draftNext_touches _ _) rfl (Touches.after (State.applyRows_touches _ _ _) rfl h25)
      · rename_i x26 x27 x28 h29 h30
        exact Touches.refl _ _

theorem State.noteStepTime_touches (s c) :
    Touches [.srv] s (State.noteStepTime s c) := by
  unfold State.noteStepTime
  extract_lets +onlyGivenNames x0
  clear_value x0
  split
  · rename_i x1 h2
    exact Touches.refl _ _
  · rename_i x3 x4 h5
    extract_lets +onlyGivenNames x6
    clear_value x6
    extract_lets +onlyGivenNames x7
    clear_value x7
    extract_lets +onlyGivenNames x8
    clear_value x8
    exact Touches.mono rfl (State.modCove_touches _ _ _)

theorem State.pauseRequest_touches (s r) :
    Touches [.reg, .srv] s (State.pauseRequest s r) := by
  unfold State.pauseRequest
  extract_lets +onlyGivenNames x0
  clear_value x0
  extract_lets +onlyGivenNames x1
  refine Touches.cut (x := x1) ?_ (fun h2 => ?_)
  · unfold x1
    exact Touches.after (State.setBits_touches _ _ _) rfl (Touches.mono rfl (State.count_touches _ _))
  clear_value x1
  exact Touches.after (State.modCove_touches _ _ _) rfl (Touches.after (State.modRequest_touches _ _ _) rfl h2)

theorem State.resumeRequest_touches (s slot) :
    Touches [.srv] s (State.resumeRequest s slot) := by
  unfold State.resumeRequest
  exact Touches.mono rfl (State.modRequest_touches _ _ _)

theorem State.resumeArchived_touches {ps : List Part} (hps : sub [.reg, .srv] ps = true) (fetch s r key) (ffetch : ∀ b0 b1, Touches ps b1 (fetch b0 b1)) :
    Touches ps s (State.resumeArchived fetch s r key) := by
  unfold State.resumeArchived
  extract_lets +onlyGivenNames x0
  clear_value x0
  refine Touches.ite ?_ ?_
  · exact Touches.after (State.modRequest_touches _ _ _) (sub_trans rfl hps) (Touches.refl _ _)
  · split
    · rename_i x1 h2
      exact Touches.after (State.modRequest_touches _ _ _) (sub_trans rfl hps) (Touches.refl _ _)
    · rename_i x3 x4 x5 h6
      extract_lets +onlyGivenNames x7
      refine Touches.cut (x := x7) ?_ (fun h8 => ?_)
      · unfold x7
        refine Touches.after (State.modRequest_touches _ _ _) (sub_trans rfl hps) ?_
        exact Touches.after (State.modCove_touches _ _ _) (sub_trans rfl hps) (Touches.refl _ _)
      clear_value x7
      extract_lets +onlyGivenNames x9
      refine Touches.cut (x := x9) ?_ (fun h10 => ?_)
      · unfold x9
        exact Touches.after (State.count_touches _ _) (sub_trans rfl hps) h8
      clear_value x9
      refine Touches.ite ?_ ?_
      · refine Touches.trans ?_ (ffetch _ _)
        exact h10
      · exact h10

theorem State.tryResume_touches {ps : List Part} (hps : sub [.reg, .srv] ps = true) (fetch s r) (ffetch : ∀ b0 b1, Touches ps b1 (fetch b0 b1)) :
    Touches ps s (State.tryResume fetch s r) := by
  unfold State.tryResume
  split
  · rename_i x0 h1
    refine Touches.after (State.resumeRequest_touches _ _) (sub_trans rfl hps) ?_
    exact Touches.after (State.count_touches _ _) (sub_trans rfl hps) (Touches.refl _ _)
  · rename_i x2 x3 h4
    refine Touches.trans ?_ (State.resumeArchived_touches (sub_trans rfl hps) _ _ _ _ (fun t5 t6 => ?_))
    · exact Touches.refl _ _
    · refine Touches.trans ?_ (ffetch _ _)
      exact Touches.refl _ _
  · rename_i x7 h8 h9
    exact Touches.refl _ _

theorem State.pauseAndResume_touches {ps : List Part} (hps : sub [.reg, .srv] ps = true) (fetch s c) (ffetch : ∀ b0 b1, Touches ps b1 (fetch b0 b1)) :
    Touches ps s (State.pauseAndResume fetch s c) := by
  unfold State.pauseAndResume
  extract_lets +onlyGivenNames x0
  clear_value x0
  extract_lets +onlyGivenNames x1
  clear_value x1
  extract_lets +onlyGivenNames x2
  clear_value x2
  extract_lets +onlyGivenNames x3
  refine Touches.cut (x := x3) ?_ (fun h4 => ?_)
  · unfold x3
    refine Touches.ite ?_ ?_
    · dsimp -zeta -zetaHave only
      refine Touches.foldl ?_ (fun t6 x7 h5 => ?_)
      · exact Touches.after (State.modCove_touches _ _ _) (sub_trans rfl hps) (Touches.refl _ _)
      · exact Touches.after (State.pauseRequest_touches _ _) (sub_trans rfl hps) h5
    · exact Touches.refl _ _
  clear_value x3
  extract_lets +onlyGivenNames x8
  clear_value x8
  extract_lets +onlyGivenNames x9
  clear_value x9
  refine Touches.foldl ?_ (fun t11 x12 h10 => ?_)
  · exact h4
  · refine Touches.trans ?_ (State.tryResume_touches (sub_trans rfl hps) _ _ _ (fun t13 t14 => ?_))
    · exact h10
    · refine Touches.trans ?_ (ffetch _ _)
      exact Touches.refl _ _

theorem State.commitStep_touches {ps : List Part} (hps : sub [.freeCtr, .out, .reg, .host, .srv] ps = true) (fetch s c x failed) (ffetch : ∀ b0 b1, Touches ps b1 (fetch b0 b1)) :
    Touches ps s (State.commitStep fetch s c x failed) := by
  unfold State.commitStep
  extract_lets +onlyGivenNames x0
  refine Touches.cut (x := x0) ?_ (fun h1 => ?_)
  · unfold x0
    refine Touches.after (State.countBy_touches _ _ _) (sub_trans rfl hps) ?_
    exact Touches.after (State.count_touches _ _) (sub_trans rfl hps) (Touches.refl _ _)
  clear_value x0
  extract_lets +onlyGivenNames x2
  refine Touches.cut (x := x2) ?_ (fun h3 => ?_)
  · unfold x2
    exact Touches.after (State.countBy_touches _ _ _) (sub_trans rfl hps) h1
  clear_value x2
  extract_lets +onlyGivenNames x4
  refine Touches.cut (x := x4) ?_ (fun h5 => ?_)
  · unfold x4
    exact Touches.after (State.noteStepTime_touches _ _) (sub_trans rfl hps) (Touches.after (State.modCove_touches _ _ _) (sub_trans rfl hps) h3)
  clear_value x4
  extract_lets +onlyGivenNames x6
  refine Touches.cut (x := x6) ?_ (fun h7 => ?_)
  · unfold x6
    exact Touches.after (State.modCove_touches _ _ _) (sub_trans rfl hps) h5
  clear_value x6
  extract_lets +onlyGivenNames x8
  refine Touches.cut (x := x8) ?_ (fun h9 => ?_)
  · unfold x8
    refine Touches.foldl ?_ (fun t11 x12 h10 => ?_)
    · exact h7
    · exact Touches.after (State.commitRequest_touches _ _ _ _) (sub_trans rfl hps) h10
  clear_value x8
  extract_lets +onlyGivenNames x13
  refine Touches.cut (x := x13) ?_ (fun h14 => ?_)
  · unfold x13
    refine Touches.trans ?_ (State.pauseAndResume_touches (sub_trans rfl hps) _ _ _ (fun t15 t16 => ?_))
    · exact h9
    · refine Touches.trans ?_ (ffetch _ _)
      exact Touches.refl _ _
  clear_value x13
  exact Touches.after (State.noteActive_touches _ _) (sub_trans rfl hps) (Touches.after (State.modCove_touches _ _ _) (sub_trans rfl hps) h14)

theorem State.endStep_touches {ps : List Part} (hps : sub [.freeCtr, .out, .reg, .host, .ops, .led, .strands, .grants, .frames, .content, .vit, .gth, .srv, .img] ps = true) (fetch s c x work gallery) (ffetch : ∀ b0 b1, Touches ps b1 (fetch b0 b1)) :
    Touches ps s (State.endStep fetch s c x work gallery) := by
  unfold State.endStep
  extract_lets +onlyGivenNames x0
  clear_value x0
  extract_lets +onlyGivenNames x1
  refine Touches.cut (x := x1) ?_ (fun h2 => ?_)
  · unfold x1
    split
    · rename_i x3
      exact Touches.refl _ _
    · rename_i x4
      refine Touches.after (State.corrected_touches _ _ _) (sub_trans rfl hps) ?_
      exact Touches.after (State.count_touches _ _) (sub_trans rfl hps) (Touches.refl _ _)
    · rename_i x5
      exact Touches.after (State.transient_touches _ _ _) (sub_trans rfl hps) (Touches.refl _ _)
  clear_value x1
  refine Touches.ite ?_ ?_
  · refine Touches.trans ?_ (State.commitStep_touches (sub_trans rfl hps) _ _ _ _ _ (fun t6 t7 => ?_))
    · exact h2
    · refine Touches.trans ?_ (ffetch _ _)
      exact Touches.refl _ _
  · refine Touches.ite ?_ ?_
    · exact Touches.after (State.modCove_touches _ _ _) (sub_trans rfl hps) (Touches.after (State.count_touches _ _) (sub_trans rfl hps) h2)
    · refine Touches.trans ?_ (State.commitStep_touches (sub_trans rfl hps) _ _ _ _ _ (fun t8 t9 => ?_))
      · exact h2
      · refine Touches.trans ?_ (ffetch _ _)
        exact Touches.refl _ _

theorem State.useMask_touches (s p q r spec) :
    Touches [.reg, .maskCache] s (State.useMask s p q r spec) := by
  unfold State.useMask
  extract_lets +onlyGivenNames x0
  clear_value x0
  refine Touches.ite ?_ ?_
  · exact Touches.refl _ _
  · extract_lets +onlyGivenNames x1
    refine Touches.cut (x := x1) ?_ (fun h2 => ?_)
    · unfold x1
      refine Touches.ite ?_ ?_
      · exact Touches.refl _ _
      · exact Touches.mono rfl (State.count_touches _ _)
    clear_value x1
    exact Touches.put_maskCache rfl h2

theorem State.useMasks_touches (s e) :
    Touches [.reg, .maskCache] s (State.useMasks s e) := by
  unfold State.useMasks
  split
  · rename_i x0 h1
    exact Touches.refl _ _
  · rename_i x2 x3 h4
    extract_lets +onlyGivenNames x5
    clear_value x5
    split
    · rename_i x6 x7 x8 h9
      refine Touches.ite ?_ ?_
      · exact Touches.mono rfl (State.useMask_touches _ _ _ _ _)
      · exact Touches.refl _ _
    · rename_i x10 x11 h12
      refine Touches.foldl ?_ (fun t14 x15 h13 => ?_)
      · exact Touches.refl _ _
      · exact Touches.after (State.useMask_touches _ _ _ _ _) rfl h13

theorem execCoveStepStart_answers (cove s) :
    Answers [.reg, .maskCache, .srv] s (execCoveStepStart cove s) := by
  unfold execCoveStepStart
  extract_lets +onlyGivenNames x0
  clear_value x0
  refine Answers.ite ?_ ?_
  · extract_lets +onlyGivenNames x1
    refine Answers.cut (x := x1) ?_ (fun h2 => ?_)
    · unfold x1
      exact Touches.mono rfl (State.modCove_touches _ _ _)
    clear_value x1
    refine Answers.next (Touches.foldl ?_ (fun t4 x5 h3 => ?_))
    · exact h2
    · exact Touches.after (State.useMasks_touches _ _) rfl h3
  · exact Answers.next (Touches.refl _ _)

end Sys2Proof.Machine
end

