-- ==== Sys2Proof/Laws/TouchesFabric.lean ====
section
/-!
SUPPORT. What the operations of the fabric, the links and the loads may change: one lemma each.
-/
namespace Sys2Proof.Machine

/-! Machine/FabOps.lean -/

theorem State.stamp_touches (s p) :
    Touches [.fab] s (State.stamp s p).2 := by
  unfold State.stamp
  exact Touches.snd_mk (Touches.put_fab rfl (Touches.refl _ _))

theorem State.modNport_touches (s q f) :
    Touches [.nwl] s (State.modNport s q f) := by
  unfold State.modNport
  exact Touches.put_nwl rfl (Touches.refl _ _)

theorem State.freeHeld_touches (s origin n) :
    Touches [.nwl] s (State.freeHeld s origin n) := by
  unfold State.freeHeld
  split
  · rename_i x0 x1 x2
    exact Touches.mono rfl (State.modNport_touches _ _ _)
  · rename_i x3
    exact Touches.refl _ _

theorem State.noRoute_touches (s t) :
    Touches [.reg, .nwl] s (State.noRoute s t) := by
  unfold State.noRoute
  exact Touches.after (State.count_touches _ _) rfl (Touches.mono rfl (State.freeHeld_touches _ _ _))

theorem State.queuePacket_touches (s q p good origin) :
    Touches [.nwl] s (State.queuePacket s q p good origin) := by
  unfold State.queuePacket
  exact Touches.mono rfl (State.modNport_touches _ _ _)

theorem State.routeFixed_touches (s t q) :
    Touches [.reg, .nwl] s (State.routeFixed s t q) := by
  unfold State.routeFixed
  split
  · rename_i x0 x1
    refine Touches.ite ?_ ?_
    · exact Touches.mono rfl (State.queuePacket_touches _ _ _ _ _)
    · exact Touches.mono rfl (State.noRoute_touches _ _)
  · rename_i x2
    exact Touches.mono rfl (State.noRoute_touches _ _)

theorem State.routeEscape_touches (s t) :
    Touches [.reg, .nwl] s (State.routeEscape s t) := by
  unfold State.routeEscape
  split
  · rename_i x0 x1 h2
    exact Touches.mono rfl (State.routeFixed_touches _ _ _)
  · rename_i x3 h4
    exact Touches.mono rfl (State.noRoute_touches _ _)

theorem State.routeOne_touches (s t) :
    ∀ y, (State.routeOne s t) = some y → Touches [.reg, .nwl] s y := by
  unfold State.routeOne
  extract_lets +onlyGivenNames x0
  clear_value x0
  split
  · rename_i x1 h2
    exact Touches.some_ (Touches.mono rfl (State.noRoute_touches _ _))
  · rename_i x3 x4 h5
    refine Touches.ite_some ?_ ?_
    · refine Touches.some_ (Touches.ite ?_ ?_)
      · exact Touches.mono rfl (State.routeEscape_touches _ _)
      · exact Touches.mono rfl (State.routeFixed_touches _ _ _)
    · refine Touches.ite_some ?_ ?_
      · split
        rename_i x6 x7 x8 h9
        refine Touches.ite_some ?_ ?_
        · exact Touches.some_ (Touches.mono rfl (State.routeEscape_touches _ _))
        · refine Touches.omap (fun q10 => ?_)
          exact Touches.mono rfl (State.queuePacket_touches _ _ _ _ _)
      · split
        rename_i x11 x12 x13 h14
        exact Touches.some_ (Touches.mono rfl (State.routeFixed_touches _ _ _))

theorem State.inject_touches (s p) :
    Touches [.reg, .nwl, .fab] s (State.inject s p) := by
  unfold State.inject
  extract_lets +onlyGivenNames x0
  clear_value x0
  refine Touches.ite ?_ ?_
  · split
    · rename_i x1 x2 h3
      refine Touches.cut (Touches.of_some h3 ?_) (fun k4 => ?_)
      · exact fun y e => Touches.after (State.routeOne_touches _ _ y e) rfl (Touches.refl _ _)
      exact k4
    · rename_i x5 h6
      exact Touches.put_fab rfl (Touches.refl _ _)
  · exact Touches.mono rfl (State.routeFixed_touches _ _ _)

theorem State.launch_touches (s p flows) :
    Touches [.reg, .nwl, .fab] s (State.launch s p flows) := by
  unfold State.launch
  extract_lets +onlyGivenNames x0
  clear_value x0
  extract_lets +onlyGivenNames x1
  clear_value x1
  exact Touches.after (State.inject_touches _ _) rfl (Touches.put_fab rfl (Touches.refl _ _))

theorem State.pump_touches (s) :
    Touches [.reg, .nwl, .fab] s (State.pump s) := by
  unfold State.pump
  split
  rename_i x0 x1 x2 h3
  refine Touches.cut (Touches.of_fst h3 ?_) (fun k4 => ?_)
  · refine Touches.foldl_fst ?_ (fun t6 x7 h5 => ?_)
    · exact Touches.fst_mk (Touches.put_fab rfl (Touches.refl _ _))
    · split
      rename_i x8 x9 x10
      extract_lets +onlyGivenNames x11
      clear_value x11
      refine Touches.ite_fst ?_ ?_
      · refine Touches.fst_mk (Touches.put_fab rfl ?_)
        assumption
      · split
        · rename_i x12 x13 h14
          refine Touches.fst_mk (Touches.after (State.launch_touches _ _ _) rfl ?_)
          assumption
        · rename_i x15 h16
          refine Touches.fst_mk (Touches.put_fab rfl ?_)
          assumption
  exact k4

theorem State.sendPacket_touches (s p) :
    Touches [.reg, .nwl, .fab] s (State.sendPacket s p) := by
  unfold State.sendPacket
  split
  · rename_i x0 x1 h2
    refine Touches.ite ?_ ?_
    · split
      rename_i x3 x4 x5 h6
      refine Touches.cut (Touches.of_snd h6 ?_) (fun k7 => ?_)
      · exact Touches.mono rfl (State.stamp_touches _ _)
      extract_lets +onlyGivenNames x8
      refine Touches.cut (x := x8) ?_ (fun h9 => ?_)
      · unfold x8
        exact Touches.after (State.count_touches _ _) rfl k7
      clear_value x8
      exact Touches.after (State.pump_touches _) rfl (Touches.put_fab rfl h9)
    · exact Touches.mono rfl (State.count_touches _ _)
  · rename_i x10 h11
    exact Touches.mono rfl (State.count_touches _ _)

theorem State.ackPacket_touches (s p) :
    Touches [.reg, .nwl, .fab] s (State.ackPacket s p) := by
  unfold State.ackPacket
  refine Touches.ite ?_ ?_
  · exact Touches.mono rfl (State.sendPacket_touches _ _)
  · exact Touches.refl _ _

theorem State.stackDown_touches (s p good origin) :
    Touches [.reg, .nwl] s (State.stackDown s p good origin) := by
  unfold State.stackDown
  refine Touches.ite ?_ ?_
  · exact Touches.mono rfl (State.routeFixed_touches _ _ _)
  · exact Touches.mono rfl (State.freeHeld_touches _ _ _)

theorem State.echoPacket_touches (s p) :
    Touches [.reg, .nwl, .fab] s (State.echoPacket s p) := by
  unfold State.echoPacket
  extract_lets +onlyGivenNames x0
  clear_value x0
  extract_lets +onlyGivenNames x1
  clear_value x1
  refine Touches.ite ?_ ?_
  · extract_lets +onlyGivenNames x2
    clear_value x2
    extract_lets +onlyGivenNames x3
    refine Touches.cut (x := x3) ?_ (fun h4 => ?_)
    · unfold x3
      exact Touches.put_fab rfl (Touches.refl _ _)
    clear_value x3
    exact Touches.after (State.sendPacket_touches _ _) rfl (Touches.after (State.count_touches _ _) rfl h4)
  · exact Touches.refl _ _

theorem State.consume_touches (s p good) :
    Touches [.reg, .nwl, .fab] s (State.consume s p good) := by
  unfold State.consume
  refine Touches.ite ?_ ?_
  · exact Touches.mono rfl (State.count_touches _ _)
  · refine Touches.ite ?_ ?_
    · exact Touches.mono rfl (State.count_touches _ _)
    · extract_lets +onlyGivenNames x0
      refine Touches.cut (x := x0) ?_ (fun h1 => ?_)
      · unfold x0
        refine Touches.after (State.ackPacket_touches _ _) rfl ?_
        exact Touches.after (State.echoPacket_touches _ _) rfl (Touches.mono rfl (State.count_touches _ _))
      clear_value x0
      refine Touches.ite ?_ ?_
      · exact Touches.after (State.count_touches _ _) rfl h1
      · exact Touches.put_fab rfl h1

theorem State.atNode_touches (s p good origin) :
    Touches [.reg, .nwl, .fab] s (State.atNode s p good origin) := by
  unfold State.atNode
  refine Touches.ite ?_ ?_
  · exact Touches.after (State.consume_touches _ _ _) rfl (Touches.mono rfl (State.freeHeld_touches _ _ _))
  · exact Touches.mono rfl (State.stackDown_touches _ _ _ _)

theorem State.sendLeg_touches (s p good) :
    Touches [.reg, .nwl] s (State.sendLeg s p good) := by
  unfold State.sendLeg
  extract_lets +onlyGivenNames x0
  clear_value x0
  refine Touches.ite ?_ ?_
  · exact Touches.mono rfl (State.queuePacket_touches _ _ _ _ _)
  · exact Touches.mono rfl (State.count_touches _ _)

theorem State.startLeg_touches (s p b d relayed) :
    Touches [.reg, .nwl, .fab] s (State.startLeg s p b d relayed) := by
  unfold State.startLeg
  extract_lets +onlyGivenNames x0
  clear_value x0
  split
  · rename_i x1 h2
    exact Touches.refl _ _
  · rename_i x3 x4 h5
    split
    rename_i x6 x7 x8 h9
    refine Touches.cut (Touches.of_snd h9 ?_) (fun k10 => ?_)
    · exact Touches.mono rfl (State.stamp_touches _ _)
    extract_lets +onlyGivenNames x11
    clear_value x11
    extract_lets +onlyGivenNames x12
    clear_value x12
    exact Touches.after (State.sendLeg_touches _ _ _) rfl (Touches.after (State.count_touches _ _) rfl k10)

theorem State.takeLeg_touches (s p good origin) :
    Touches [.reg, .nwl, .fab] s (State.takeLeg s p good origin) := by
  unfold State.takeLeg
  extract_lets +onlyGivenNames x0
  refine Touches.cut (x := x0) ?_ (fun h1 => ?_)
  · unfold x0
    exact Touches.mono rfl (State.freeHeld_touches _ _ _)
  clear_value x0
  extract_lets +onlyGivenNames x2
  refine Touches.cut (x := x2) ?_ (fun h3 => ?_)
  · unfold x2
    exact Touches.after (State.consume_touches _ _ _) rfl h1
  clear_value x2
  extract_lets +onlyGivenNames x4
  refine Touches.cut (x := x4) ?_ (fun h5 => ?_)
  · unfold x4
    refine Touches.ite ?_ ?_
    · exact Touches.after (State.stackDown_touches _ _ _ _) rfl h3
    · exact h3
  clear_value x4
  extract_lets +onlyGivenNames x6
  clear_value x6
  extract_lets +onlyGivenNames x7
  refine Touches.cut (x := x7) ?_ (fun h8 => ?_)
  · unfold x7
    refine Touches.ite ?_ ?_
    · exact h5
    · exact Touches.after (State.sendLeg_touches _ _ _) rfl h5
  clear_value x7
  split
  · rename_i x9 x10 h11
    refine Touches.ite ?_ ?_
    · refine Touches.foldl ?_ (fun t13 x14 h12 => ?_)
      · exact h8
      · exact Touches.after (State.startLeg_touches _ _ _ _ _) rfl h12
    · exact h8
  · rename_i x15 h16
    exact h8

theorem State.arrivePacket_touches (s q vc p good) :
    Touches [.reg, .nwl, .fab] s (State.arrivePacket s q vc p good) := by
  unfold State.arrivePacket
  extract_lets +onlyGivenNames x0
  clear_value x0
  extract_lets +onlyGivenNames x1
  have fx1 : ∀ a0 a1, Touches [.reg, .nwl, .fab] a0 (x1 a0 a1) := ?_
  · clear_value x1
    refine Touches.ite ?_ ?_
    · refine Touches.ite ?_ ?_
      · refine Touches.after (State.stackDown_touches _ _ _ _) rfl ?_
        exact Touches.after (State.consume_touches _ _ _) rfl (Touches.mono rfl (State.freeHeld_touches _ _ _))
      · exact Touches.mono rfl (State.atNode_touches _ _ _ _)
    · refine Touches.ite ?_ ?_
      · refine Touches.ite ?_ ?_
        · exact Touches.mono rfl (State.routeFixed_touches _ _ _)
        · refine Touches.ite ?_ ?_
          · extract_lets +onlyGivenNames x9
            refine Touches.cut (x := x9) ?_ (fun h10 => ?_)
            · unfold x9
              exact Touches.mono rfl (State.freeHeld_touches _ _ _)
            clear_value x9
            refine Touches.ite ?_ ?_
            · exact Touches.after (State.stackDown_touches _ _ _ _) rfl (Touches.after (State.consume_touches _ _ _) rfl h10)
            · exact Touches.after (State.sendLeg_touches _ _ _) rfl h10
          · refine Touches.ite ?_ ?_
            · exact Touches.mono rfl (State.atNode_touches _ _ _ _)
            · refine Touches.trans ?_ (fx1 _ _)
              exact Touches.refl _ _
      · split
        · rename_i x11 h12
          exact Touches.after (State.count_touches _ _) rfl (Touches.mono rfl (State.freeHeld_touches _ _ _))
        · rename_i x13 x14 h15
          refine Touches.ite ?_ ?_
          · exact Touches.mono rfl (State.takeLeg_touches _ _ _ _)
          · refine Touches.ite ?_ ?_
            · exact Touches.mono rfl (State.atNode_touches _ _ _ _)
            · refine Touches.trans ?_ (fx1 _ _)
              exact Touches.refl _ _
  · intro a0 a1
    unfold x1
    extract_lets +onlyGivenNames x2
    clear_value x2
    split
    · rename_i x3 x4 h5
      refine Touches.cut (Touches.of_some h5 ?_) (fun k6 => ?_)
      · exact fun y e => Touches.after (State.routeOne_touches _ _ y e) rfl (Touches.refl _ _)
      assumption
    · rename_i x7 h8
      exact Touches.put_fab rfl (Touches.refl _ _)

theorem State.multicast_touches (s p) :
    Touches [.reg, .nwl, .fab] s (State.multicast s p) := by
  unfold State.multicast
  split
  · rename_i x0 h1
    exact Touches.refl _ _
  · rename_i x2 x3 h4
    extract_lets +onlyGivenNames x5
    refine Touches.cut (x := x5) ?_ (fun h6 => ?_)
    · unfold x5
      refine Touches.foldl ?_ (fun t8 x9 h7 => ?_)
      · exact Touches.refl _ _
      · exact Touches.after (State.startLeg_touches _ _ _ _ _) rfl h7
    clear_value x5
    extract_lets +onlyGivenNames x10
    refine Touches.cut (x := x10) ?_ (fun h11 => ?_)
    · unfold x10
      refine Touches.foldl ?_ (fun t13 x14 h12 => ?_)
      · exact h6
      · exact Touches.after (State.startLeg_touches _ _ _ _ _) rfl h12
    clear_value x10
    refine Touches.ite ?_ ?_
    · split
      rename_i x15 x16 x17 h18
      refine Touches.cut (Touches.of_snd h18 ?_) (fun k19 => ?_)
      · exact Touches.after (State.stamp_touches _ _) rfl h11
      extract_lets +onlyGivenNames x20
      clear_value x20
      refine Touches.ite ?_ ?_
      · exact Touches.after (State.stackDown_touches _ _ _ _) rfl (Touches.after (State.count_touches _ _) rfl k19)
      · exact Touches.after (State.routeFixed_touches _ _ _) rfl (Touches.after (State.count_touches _ _) rfl k19)
    · exact h11

theorem State.nextPacket_touches (s t) :
    ∀ v y, (State.nextPacket s t) = some (v, y) → Touches [.fab] s y := by
  unfold State.nextPacket
  split
  · rename_i x0 x1 x2 h3
    refine Touches.ite_some_snd ?_ ?_
    · exact Touches.some_snd (Touches.put_fab rfl (Touches.refl _ _))
    · exact Touches.none_snd
  · rename_i x4 h5
    exact Touches.none_snd

theorem State.queueRecordOn_touches (s q vc b) :
    Touches [.nwl] s (State.queueRecordOn s q vc b) := by
  unfold State.queueRecordOn
  exact Touches.mono rfl (State.modNport_touches _ _ _)

theorem State.routeWaiting_touches (s) :
    Touches [.reg, .nwl, .fab] s (State.routeWaiting s) := by
  unfold State.routeWaiting
  refine Touches.foldl ?_ (fun t1 x2 h0 => ?_)
  · exact Touches.put_fab rfl (Touches.refl _ _)
  · split
    · rename_i x3 x4 h5
      refine Touches.cut (Touches.of_some h5 ?_) (fun k6 => ?_)
      · exact fun y e => Touches.after (State.routeOne_touches _ _ y e) rfl h0
      exact k6
    · rename_i x7 h8
      exact Touches.put_fab rfl h0

/-! Machine/LinkOps.lean -/

theorem State.takeRecords_touches (s q v bytes) :
    Touches [.nwl, .stk] s (State.takeRecords s q v bytes) := by
  unfold State.takeRecords
  extract_lets +onlyGivenNames x0
  clear_value x0
  extract_lets +onlyGivenNames x1
  clear_value x1
  extract_lets +onlyGivenNames x2
  clear_value x2
  refine Touches.ite ?_ ?_
  · exact Touches.mono rfl (State.freeHeld_touches _ _ _)
  · exact Touches.put_stk rfl (Touches.refl _ _)

theorem State.acceptFlit_touches (s q v sop eop bytes) :
    Touches [.reg, .nwl, .stk, .fab] s (State.acceptFlit s q v sop eop bytes) := by
  unfold State.acceptFlit
  extract_lets +onlyGivenNames x0
  refine Touches.cut (x := x0) ?_ (fun h1 => ?_)
  · unfold x0
    exact Touches.mono rfl (State.modNport_touches _ _ _)
  clear_value x0
  refine Touches.ite ?_ ?_
  · exact Touches.after (State.takeRecords_touches _ _ _ _) rfl h1
  · extract_lets +onlyGivenNames x2
    clear_value x2
    extract_lets +onlyGivenNames x3
    clear_value x3
    extract_lets +onlyGivenNames x4
    refine Touches.cut (x := x4) ?_ (fun h5 => ?_)
    · unfold x4
      exact Touches.after (State.freeHeld_touches _ _ _) rfl h1
    clear_value x4
    extract_lets +onlyGivenNames x6
    clear_value x6
    extract_lets +onlyGivenNames x7
    clear_value x7
    refine Touches.ite ?_ ?_
    · extract_lets +onlyGivenNames x8
      refine Touches.cut (x := x8) ?_ (fun h9 => ?_)
      · unfold x8
        exact Touches.after (State.modNport_touches _ _ _) rfl h5
      clear_value x8
      split
      rename_i x10 x11 x12 h13
      refine Touches.ite ?_ ?_
      · exact Touches.after (State.arrivePacket_touches _ _ _ _ _) rfl h9
      · exact Touches.after (State.count_touches _ _) rfl (Touches.after (State.freeHeld_touches _ _ _) rfl h9)
    · exact Touches.after (State.modNport_touches _ _ _) rfl h5

theorem State.applyAck_touches (s q a) :
    Touches [.reg, .nwl] s (State.applyAck s q a).1 := by
  unfold State.applyAck
  extract_lets +onlyGivenNames x0
  clear_value x0
  extract_lets +onlyGivenNames x1
  clear_value x1
  refine Touches.ite_fst ?_ ?_
  · refine Touches.ite_fst ?_ ?_
    · exact Touches.fst_mk (Touches.refl _ _)
    · exact Touches.fst_mk (Touches.mono rfl (State.modNport_touches _ _ _))
  · exact Touches.fst_mk (Touches.mono rfl (State.count_touches _ _))

theorem State.causewaysDown_touches (s q) :
    Touches [.out, .reg, .host, .nwl, .fab] s (State.causewaysDown s q) := by
  unfold State.causewaysDown
  refine Touches.foldl ?_ (fun t1 x2 h0 => ?_)
  · exact Touches.refl _ _
  · extract_lets +onlyGivenNames x3
    clear_value x3
    extract_lets +onlyGivenNames x4
    clear_value x4
    extract_lets +onlyGivenNames x5
    clear_value x5
    extract_lets +onlyGivenNames x6
    clear_value x6
    extract_lets +onlyGivenNames x7
    refine Touches.cut (x := x7) ?_ (fun h8 => ?_)
    · unfold x7
      exact Touches.put_fab rfl h0
    clear_value x7
    refine Touches.ite ?_ ?_
    · exact h8
    · refine Touches.ite ?_ ?_
      · extract_lets +onlyGivenNames x9
        clear_value x9
        extract_lets +onlyGivenNames x10
        refine Touches.cut (x := x10) ?_ (fun h11 => ?_)
        · unfold x10
          exact Touches.put_fab rfl h8
        clear_value x10
        refine Touches.ite ?_ ?_
        · exact Touches.after (State.event_touches _ _ _ _) rfl h11
        · exact h11
      · exact Touches.after (State.sendPacket_touches _ _) rfl h8

theorem State.oweNak_touches (s q) :
    Touches [.freeCtr, .out, .reg, .host, .ops, .led, .strands, .grants, .frames, .content, .vit, .gth, .srv, .img, .nwl] s (State.oweNak s q) := by
  unfold State.oweNak
  extract_lets +onlyGivenNames x0
  clear_value x0
  extract_lets +onlyGivenNames x1
  refine Touches.cut (x := x1) ?_ (fun h2 => ?_)
  · unfold x1
    exact Touches.mono rfl (State.transient_touches _ _ _)
  clear_value x1
  refine Touches.ite ?_ ?_
  · exact Touches.after (State.modNport_touches _ _ _) rfl h2
  · exact h2

theorem State.dataFlit_touches (s q v sop eop seq bytes) :
    Touches [.freeCtr, .out, .reg, .host, .ops, .led, .strands, .grants, .frames, .content, .vit, .gth, .srv, .img, .nwl, .stk, .fab] s (State.dataFlit s q v sop eop seq bytes) := by
  unfold State.dataFlit
  extract_lets +onlyGivenNames x0
  clear_value x0
  extract_lets +onlyGivenNames x1
  clear_value x1
  refine Touches.ite ?_ ?_
  · refine Touches.ite ?_ ?_
    · exact Touches.after (State.oweNak_touches _ _) rfl (Touches.mono rfl (State.count_touches _ _))
    · extract_lets +onlyGivenNames x2
      refine Touches.cut (x := x2) ?_ (fun h3 => ?_)
      · unfold x2
        exact Touches.after (State.modNport_touches _ _ _) rfl (Touches.mono rfl (State.count_touches _ _))
      clear_value x2
      exact Touches.after (State.acceptFlit_touches _ _ _ _ _ _) rfl h3
  · refine Touches.ite ?_ ?_
    · exact Touches.mono rfl (State.oweNak_touches _ _)
    · exact Touches.refl _ _

theorem State.enterPort_touches (s q st) :
    Touches [.nwl] s (State.enterPort s q st) := by
  unfold State.enterPort
  exact Touches.mono rfl (State.modNport_touches _ _ _)

theorem State.goodFlit_touches (s q h) :
    Touches [.reg, .nwl] s (State.goodFlit s q h).1 := by
  unfold State.goodFlit
  extract_lets +onlyGivenNames x0
  refine Touches.cut (x := x0) ?_ (fun h1 => ?_)
  · unfold x0
    exact Touches.mono rfl (State.countBy_touches _ _ _)
  clear_value x0
  split
  rename_i x2 x3 x4 h5
  refine Touches.cut (Touches.of_fst h5 ?_) (fun k6 => ?_)
  · refine Touches.ite_fst ?_ ?_
    · exact Touches.after (State.applyAck_touches _ _ _) rfl h1
    · exact Touches.fst_mk h1
  extract_lets +onlyGivenNames x7
  clear_value x7
  exact Touches.fst_mk (Touches.after (State.modNport_touches _ _ _) rfl k6)

theorem State.noteDeparture_touches (s q) :
    Touches [.freeCtr, .out, .reg, .host, .ops, .led, .strands, .grants, .frames, .content, .vit, .gth, .srv, .img, .nwl] s (State.noteDeparture s q) := by
  unfold State.noteDeparture
  extract_lets +onlyGivenNames x0
  clear_value x0
  extract_lets +onlyGivenNames x1
  clear_value x1
  extract_lets +onlyGivenNames x2
  clear_value x2
  extract_lets +onlyGivenNames x3
  refine Touches.cut (x := x3) ?_ (fun h4 => ?_)
  · unfold x3
    exact Touches.mono rfl (State.modNport_touches _ _ _)
  clear_value x3
  refine Touches.ite ?_ ?_
  · exact h4
  · extract_lets +onlyGivenNames x5
    refine Touches.cut (x := x5) ?_ (fun h6 => ?_)
    · unfold x5
      exact Touches.after (State.modNport_touches _ _ _) rfl h4
    clear_value x5
    split
    · rename_i x7 x8 x9 h10
      exact Touches.after (State.retireUnit_touches _ _ _ _) rfl h6
    · rename_i x11 x12 h13
      exact Touches.after (State.retireUnit_touches _ _ _ _) rfl h6
    · rename_i x14 h15 h16
      exact h6

theorem State.noteReach_touches (s) :
    Touches [.out, .reg, .host, .nwl, .stk] s (State.noteReach s) := by
  unfold State.noteReach
  extract_lets +onlyGivenNames x0
  clear_value x0
  refine Touches.ite ?_ ?_
  · exact Touches.refl _ _
  · extract_lets +onlyGivenNames x1
    clear_value x1
    extract_lets +onlyGivenNames x2
    refine Touches.cut (x := x2) ?_ (fun h3 => ?_)
    · unfold x2
      exact Touches.put_stk rfl (Touches.refl _ _)
    clear_value x2
    refine Touches.ite ?_ ?_
    · exact Touches.after (State.event_touches _ _ _ _) rfl h3
    · exact Touches.after (State.queueRecordOn_touches _ _ _ _) rfl h3

theorem State.leaveUp_touches (s q st) :
    Touches [.freeCtr, .out, .reg, .host, .ops, .led, .strands, .grants, .frames, .content, .vit, .gth, .srv, .img, .nwl, .stk, .fab] s (State.leaveUp s q st) := by
  unfold State.leaveUp
  extract_lets +onlyGivenNames x0
  clear_value x0
  extract_lets +onlyGivenNames x1
  refine Touches.cut (x := x1) ?_ (fun h2 => ?_)
  · unfold x1
    exact Touches.after (State.count_touches _ _) rfl (Touches.mono rfl (State.countBy_touches _ _ _))
  clear_value x1
  extract_lets +onlyGivenNames x3
  refine Touches.cut (x := x3) ?_ (fun h4 => ?_)
  · unfold x3
    exact Touches.after (State.modNport_touches _ _ _) rfl h2
  clear_value x3
  extract_lets +onlyGivenNames x5
  refine Touches.cut (x := x5) ?_ (fun h6 => ?_)
  · unfold x5
    exact Touches.after (State.transient_touches _ _ _) rfl (Touches.after (State.enterPort_touches _ _ _) rfl h4)
  clear_value x5
  extract_lets +onlyGivenNames x7
  clear_value x7
  extract_lets +onlyGivenNames x8
  refine Touches.cut (x := x8) ?_ (fun h9 => ?_)
  · unfold x8
    refine Touches.ite ?_ ?_
    · exact Touches.put_stk rfl h6
    · refine Touches.ite ?_ ?_
      · exact Touches.put_stk rfl h6
      · exact h6
  clear_value x8
  extract_lets +onlyGivenNames x10
  refine Touches.cut (x := x10) ?_ (fun h11 => ?_)
  · unfold x10
    exact Touches.after (State.noteDeparture_touches _ _) rfl h9
  clear_value x10
  extract_lets +onlyGivenNames x12
  clear_value x12
  extract_lets +onlyGivenNames x13
  refine Touches.cut (x := x13) ?_ (fun h14 => ?_)
  · unfold x13
    exact Touches.after (State.event_touches _ _ _ _) rfl (Touches.after (State.enterPort_touches _ _ _) rfl h11)
  clear_value x13
  exact Touches.after (State.noteReach_touches _) rfl (Touches.after (State.causewaysDown_touches _ _) rfl h14)

theorem State.sendFlit_touches (s q type vcf seq payload fill) :
    Touches [.out, .nwl] s (State.sendFlit s q type vcf seq payload fill) := by
  unfold State.sendFlit
  extract_lets +onlyGivenNames x0
  clear_value x0
  extract_lets +onlyGivenNames x1
  clear_value x1
  extract_lets +onlyGivenNames x2
  clear_value x2
  extract_lets +onlyGivenNames x3
  clear_value x3
  exact Touches.after (State.emit_touches _ _) rfl (Touches.mono rfl (State.modNport_touches _ _ _))

theorem State.sendData_touches (s q f) :
    Touches [.out, .reg, .nwl] s (State.sendData s q f) := by
  unfold State.sendData
  exact Touches.after (State.count_touches _ _) rfl (Touches.mono rfl (State.sendFlit_touches _ _ _ _ _ _ _))

theorem State.sendNew_touches (s q v sop eop bytes) :
    Touches [.out, .reg, .nwl] s (State.sendNew s q v sop eop bytes) := by
  unfold State.sendNew
  extract_lets +onlyGivenNames x0
  clear_value x0
  extract_lets +onlyGivenNames x1
  clear_value x1
  extract_lets +onlyGivenNames x2
  refine Touches.cut (x := x2) ?_ (fun h3 => ?_)
  · unfold x2
    exact Touches.mono rfl (State.sendData_touches _ _ _)
  clear_value x2
  exact Touches.after (State.modNport_touches _ _ _) rfl h3

theorem State.sendFrom_touches (s q v) :
    Touches [.out, .reg, .nwl] s (State.sendFrom s q v) := by
  unfold State.sendFrom
  split
  · rename_i x0 h1
    exact Touches.refl _ _
  · rename_i x2 x3 x4 h5
    extract_lets +onlyGivenNames x6
    clear_value x6
    extract_lets +onlyGivenNames x7
    clear_value x7
    extract_lets +onlyGivenNames x8
    clear_value x8
    exact Touches.after (State.sendNew_touches _ _ _ _ _ _) rfl (Touches.mono rfl (State.modNport_touches _ _ _))
  · rename_i x9 x10 x11 x12 x13 x14 x15 h16
    extract_lets +onlyGivenNames x17
    clear_value x17
    extract_lets +onlyGivenNames x18
    refine Touches.cut (x := x18) ?_ (fun h19 => ?_)
    · unfold x18
      refine Touches.ite ?_ ?_
      · exact Touches.mono rfl (State.count_touches _ _)
      · exact Touches.refl _ _
    clear_value x18
    extract_lets +onlyGivenNames x20
    clear_value x20
    extract_lets +onlyGivenNames x21
    clear_value x21
    extract_lets +onlyGivenNames x22
    clear_value x22
    extract_lets +onlyGivenNames x23
    extract_lets +onlyGivenNames x24
    clear_value x24
    extract_lets +onlyGivenNames x25
    refine Touches.cut (x := x25) ?_ (fun h26 => ?_)
    · unfold x25
      exact Touches.after (State.modNport_touches _ _ _) rfl h19
    clear_value x25
    exact Touches.after (State.freeHeld_touches _ _ _) rfl (Touches.after (State.sendNew_touches _ _ _ _ _ _) rfl h26)

theorem State.startReplay_touches (s q) :
    Touches [.freeCtr, .out, .reg, .host, .ops, .led, .strands, .grants, .frames, .content, .vit, .gth, .srv, .img, .nwl, .stk, .fab] s (State.startReplay s q) := by
  unfold State.startReplay
  extract_lets +onlyGivenNames x0
  clear_value x0
  refine Touches.ite ?_ ?_
  · exact Touches.refl _ _
  · refine Touches.ite ?_ ?_
    · exact Touches.after (State.leaveUp_touches _ _ _) rfl (Touches.mono rfl (State.count_touches _ _))
    · exact Touches.after (State.modNport_touches _ _ _) rfl (Touches.mono rfl (State.count_touches _ _))

theorem State.transmit_touches (s q) :
    Touches [.out, .reg, .nwl] s (State.transmit s q) := by
  unfold State.transmit
  extract_lets +onlyGivenNames x0
  clear_value x0
  refine Touches.ite ?_ ?_
  · refine Touches.after (State.modNport_touches _ _ _) rfl ?_
    exact Touches.after (State.count_touches _ _) rfl (Touches.mono rfl (State.sendFlit_touches _ _ _ _ _ _ _))
  · split
    · rename_i x1 x2 h3
      split
      · rename_i x4 x5 h6
        refine Touches.ite ?_ ?_
        · exact Touches.mono rfl (State.sendFlit_touches _ _ _ _ _ _ _)
        · exact Touches.after (State.modNport_touches _ _ _) rfl (Touches.mono rfl (State.sendData_touches _ _ _))
      · rename_i x7 h8
        exact Touches.after (State.modNport_touches _ _ _) rfl (Touches.mono rfl (State.sendFlit_touches _ _ _ _ _ _ _))
    · rename_i x9 h10
      refine Touches.ite ?_ ?_
      · exact Touches.mono rfl (State.sendFrom_touches _ _ _)
      · extract_lets +onlyGivenNames x11
        clear_value x11
        split
        · rename_i x12 x13 h14
          exact Touches.mono rfl (State.sendFrom_touches _ _ _)
        · rename_i x15 h16
          exact Touches.mono rfl (State.sendFlit_touches _ _ _ _ _ _ _)

/-! Machine/ContentOps.lean -/

theorem State.freeKind_touches (s k) :
    Touches [.content] s (State.freeKind s k) := by
  unfold State.freeKind
  exact Touches.put_content rfl (Touches.refl _ _)

theorem State.freeOld_touches (s) :
    Touches [.content] s (State.freeOld s) := by
  unfold State.freeOld
  refine Touches.after (State.freeKind_touches _ _) rfl ?_
  exact Touches.after (State.freeKind_touches _ _) rfl (Touches.mono rfl (State.freeKind_touches _ _))

theorem State.installVersion_touches (s k i v digest bytes) :
    Touches [.content] s (State.installVersion s k i v digest bytes) := by
  unfold State.installVersion
  extract_lets +onlyGivenNames x0
  clear_value x0
  exact Touches.after (State.freeOld_touches _) rfl (Touches.put_content rfl (Touches.refl _ _))

theorem State.reviewStrands_touches (s) :
    Touches [.reg, .strands, .frames, .srv, .img] s (State.reviewStrands s) := by
  unfold State.reviewStrands
  extract_lets +onlyGivenNames x0
  clear_value x0
  refine Touches.foldl ?_ (fun t2 x3 h1 => ?_)
  · exact Touches.refl _ _
  · split
    · rename_i x4 h5
      refine Touches.ite ?_ ?_
      · exact Touches.after (State.strandExclude_touches _ _) rfl h1
      · exact h1
    · rename_i x6 h7
      refine Touches.ite ?_ ?_
      · exact h1
      · exact Touches.after (State.strandReturn_touches _ _) rfl h1
    · rename_i x8 h9 h10
      exact h1

theorem State.reviewItem_touches (s k i) :
    Touches [.out, .reg, .host, .strands, .frames, .gth, .srv, .img, .fab] s (State.reviewItem s k i) := by
  unfold State.reviewItem
  extract_lets +onlyGivenNames x0
  clear_value x0
  extract_lets +onlyGivenNames x1
  clear_value x1
  extract_lets +onlyGivenNames x2
  clear_value x2
  extract_lets +onlyGivenNames x3
  clear_value x3
  extract_lets +onlyGivenNames x4
  refine Touches.cut (x := x4) ?_ (fun h5 => ?_)
  · unfold x4
    exact Touches.put_fab rfl (Touches.refl _ _)
  extract_lets +onlyGivenNames x6
  extract_lets +onlyGivenNames x7
  refine Touches.cut (x := x7) ?_ (fun h8 => ?_)
  · unfold x7
    exact Touches.after (State.modGraph_touches _ _ _) rfl h5
  clear_value x7
  extract_lets +onlyGivenNames x9
  clear_value x9
  extract_lets +onlyGivenNames x10
  refine Touches.cut (x := x10) ?_ (fun h11 => ?_)
  · unfold x10
    refine Touches.ite ?_ ?_
    · refine Touches.ite ?_ ?_
      · exact Touches.after (State.modGraph_touches _ _ _) rfl h5
      · refine Touches.ite ?_ ?_
        · exact Touches.after (State.event_touches _ _ _ _) rfl h8
        · exact h8
    · refine Touches.ite ?_ ?_
      · exact h5
      · exact Touches.after (State.event_touches _ _ _ _) rfl (Touches.put_fab rfl h5)
  clear_value x10
  exact Touches.after (State.reviewStrands_touches _) rfl h11

theorem State.setGraphTarget_touches (s g v) :
    Touches [.out, .reg, .host, .strands, .frames, .gth, .srv, .img, .fab] s (State.setGraphTarget s g v) := by
  unfold State.setGraphTarget
  exact Touches.after (State.reviewItem_touches _ _ _) rfl (Touches.mono rfl (State.set_touches _ _ _))

theorem execGraphTargetWrite_answers (graph value s) :
    Answers [.out, .reg, .host, .strands, .frames, .gth, .srv, .img, .fab] s (execGraphTargetWrite graph value s) := by
  unfold execGraphTargetWrite
  refine Answers.next (Touches.ite ?_ ?_)
  · exact Touches.mono rfl (State.setGraphTarget_touches _ _ _)
  · exact Touches.refl _ _

theorem execStaleGraceExpiry_answers (item s) :
    Answers [.out, .reg, .host, .strands, .frames, .gth, .srv, .img, .fab] s (execStaleGraceExpiry item s) := by
  unfold execStaleGraceExpiry
  split
  rename_i x0 x1 x2 h3
  split
  rename_i x4 x5 x6 h7
  extract_lets +onlyGivenNames x8
  clear_value x8
  extract_lets +onlyGivenNames x9
  clear_value x9
  refine Answers.next ?_
  split
  · rename_i x10
    exact Touches.refl _ _
  · rename_i x11 x12
    refine Touches.ite ?_ ?_
    · exact Touches.refl _ _
    · extract_lets +onlyGivenNames x13
      clear_value x13
      extract_lets +onlyGivenNames x14
      refine Touches.cut (x := x14) ?_ (fun h15 => ?_)
      · unfold x14
        refine Touches.ite ?_ ?_
        · exact Touches.mono rfl (State.modGraph_touches _ _ _)
        · exact Touches.put_fab rfl (Touches.refl _ _)
      clear_value x14
      refine Touches.after (State.reviewStrands_touches _) rfl ?_
      exact Touches.after (State.event_touches _ _ _ _) rfl (Touches.after (State.count_touches _ _) rfl h15)

/-! Machine/LoadOps.lean -/

theorem State.dropLoad_touches (s l) :
    Touches [.host, .gth] s (State.dropLoad s l) := by
  unfold State.dropLoad
  extract_lets +onlyGivenNames x0
  clear_value x0
  extract_lets +onlyGivenNames x1
  refine Touches.cut (x := x1) ?_ (fun h2 => ?_)
  · unfold x1
    exact Touches.put_host rfl (Touches.refl _ _)
  clear_value x1
  refine Touches.ite ?_ ?_
  · exact Touches.after (State.modGraph_touches _ _ _) rfl h2
  · exact h2

theorem State.dropRound_touches (s id) :
    Touches [.fab] s (State.dropRound s id) := by
  unfold State.dropRound
  exact Touches.put_fab rfl (Touches.refl _ _)

theorem State.queueReplication_touches (s l oldVer) :
    Touches [.out, .reg, .host, .fab] s (State.queueReplication s l oldVer) := by
  unfold State.queueReplication
  refine Touches.ite ?_ ?_
  · extract_lets +onlyGivenNames x0
    clear_value x0
    extract_lets +onlyGivenNames x1
    clear_value x1
    extract_lets +onlyGivenNames x2
    clear_value x2
    extract_lets +onlyGivenNames x3
    extract_lets +onlyGivenNames x4
    refine Touches.cut (x := x4) ?_ (fun h5 => ?_)
    · unfold x4
      exact Touches.put_fab rfl (Touches.refl _ _)
    refine Touches.ite ?_ ?_
    · exact Touches.after (State.event_touches _ _ _ _) rfl h5
    · exact Touches.put_fab rfl h5
  · exact Touches.refl _ _

theorem State.replAck_touches (s r status) :
    Touches [.reg, .nwl, .fab] s (State.replAck s r status) := by
  unfold State.replAck
  exact Touches.mono rfl (State.sendPacket_touches _ _)

theorem State.loadCommitted_touches (s l oldVer) :
    Touches [.freeCtr, .out, .reg, .host, .acc, .strands, .frames, .gth, .srv, .img, .nwl, .fab] s (State.loadCommitted s l oldVer) := by
  unfold State.loadCommitted
  extract_lets +onlyGivenNames x0
  clear_value x0
  extract_lets +onlyGivenNames x1
  refine Touches.cut (x := x1) ?_ (fun h2 => ?_)
  · unfold x1
    exact Touches.after (State.contentCommit_touches _ _ _ _ _ _) rfl (Touches.mono rfl (State.dropLoad_touches _ _))
  clear_value x1
  extract_lets +onlyGivenNames x3
  refine Touches.cut (x := x3) ?_ (fun h4 => ?_)
  · unfold x3
    refine Touches.ite ?_ ?_
    · exact Touches.after (State.count_touches _ _) rfl h2
    · exact h2
  clear_value x3
  extract_lets +onlyGivenNames x5
  refine Touches.cut (x := x5) ?_ (fun h6 => ?_)
  · unfold x5
    split
    · rename_i x7 x8 x9 x10 h11
      exact Touches.after (State.queueReplication_touches _ _ _) rfl (Touches.after (State.complete_touches _ _ _ _) rfl h4)
    · rename_i x12 x13 x14 x15 h16
      refine Touches.after (State.dropRound_touches _ _) rfl ?_
      exact Touches.after (State.replAck_touches _ _ _) rfl (Touches.after (State.count_touches _ _) rfl h4)
    · rename_i x17 x18 x19 h20
      exact h4
  clear_value x5
  exact Touches.after (State.reviewItem_touches _ _ _) rfl h6

theorem State.makeRoom_touches (s n a2) :
    ∀ y, (State.makeRoom s n a2) = some y → Touches [.fab] s y := by
  induction a2 generalizing s with
  | zero => 
    unfold State.makeRoom
    refine Touches.ite_some ?_ ?_
    · exact Touches.some_ (Touches.refl _ _)
    · exact Touches.none_
  | succ m ih =>
    unfold State.makeRoom
    refine Touches.ite_some ?_ ?_
    · exact Touches.some_ (Touches.refl _ _)
    · refine fun y e => Touches.trans ?_ (ih _ y e)
      exact Touches.put_fab rfl (Touches.refl _ _)

theorem State.modLoad_touches (s k f) :
    Touches [.host] s (State.modLoad s k f) := by
  unfold State.modLoad
  exact Touches.put_host rfl (Touches.refl _ _)

theorem State.refuseLoad_touches (s l status detail) :
    Touches [.freeCtr, .out, .reg, .host, .strands, .frames, .gth, .srv, .img, .nwl, .fab] s (State.refuseLoad s l status detail) := by
  unfold State.refuseLoad
  extract_lets +onlyGivenNames x0
  clear_value x0
  extract_lets +onlyGivenNames x1
  clear_value x1
  extract_lets +onlyGivenNames x2
  refine Touches.cut (x := x2) ?_ (fun h3 => ?_)
  · unfold x2
    exact Touches.after (State.event_touches _ _ _ _) rfl (Touches.mono rfl (State.dropLoad_touches _ _))
  clear_value x2
  extract_lets +onlyGivenNames x4
  refine Touches.cut (x := x4) ?_ (fun h5 => ?_)
  · unfold x4
    refine Touches.ite ?_ ?_
    · exact Touches.after (State.reviewStrands_touches _) rfl (Touches.after (State.count_touches _ _) rfl h3)
    · exact h3
  clear_value x4
  split
  · rename_i x6 x7 x8 x9 h10
    exact Touches.after (State.complete_touches _ _ _ _) rfl h5
  · rename_i x11 x12 x13 x14 h15
    exact Touches.after (State.dropRound_touches _ _) rfl (Touches.after (State.replAck_touches _ _ _) rfl h5)
  · rename_i x16 x17 x18 h19
    exact h5

theorem State.stageRoom_touches (s n) :
    ∀ y, (State.stageRoom s n) = some y → Touches [.fab] s y := by
  unfold State.stageRoom
  exact fun y e => Touches.after (State.makeRoom_touches _ _ _ y e) rfl (Touches.refl _ _)

/-! Machine/Loads.lean -/

theorem State.loadFault_touches (s l) :
    Touches [.freeCtr, .out, .reg, .host, .ops, .led, .strands, .grants, .frames, .content, .vit, .gth, .srv, .img, .nwl, .fab] s (State.loadFault s l) := by
  unfold State.loadFault
  extract_lets +onlyGivenNames x0
  refine Touches.cut (x := x0) ?_ (fun h1 => ?_)
  · unfold x0
    exact Touches.mono rfl (State.transient_touches _ _ _)
  clear_value x0
  refine Touches.ite ?_ ?_
  · exact Touches.after (State.modLoad_touches _ _ _) rfl (Touches.after (State.count_touches _ _) rfl h1)
  · exact Touches.after (State.refuseLoad_touches _ _ _ _) rfl h1

theorem State.payLines_touches (s n) :
    Touches [.reg, .gth] s (State.payLines s n).2 := by
  unfold State.payLines
  extract_lets +onlyGivenNames x0
  clear_value x0
  extract_lets +onlyGivenNames x1
  clear_value x1
  extract_lets +onlyGivenNames x2
  refine Touches.cut (x := x2) ?_ (fun h3 => ?_)
  · unfold x2
    exact Touches.put_gth rfl (Touches.refl _ _)
  clear_value x2
  extract_lets +onlyGivenNames x4
  clear_value x4
  exact Touches.snd_mk (Touches.after (State.set_touches _ _ _) rfl h3)

theorem State.queueBatch_touches (s l) :
    Touches [.out, .reg, .host, .vit] s (State.queueBatch s l) := by
  unfold State.queueBatch
  extract_lets +onlyGivenNames x0
  clear_value x0
  extract_lets +onlyGivenNames x1
  clear_value x1
  extract_lets +onlyGivenNames x2
  clear_value x2
  extract_lets +onlyGivenNames x3
  clear_value x3
  refine Touches.after (State.settleTable_touches _ _) rfl ?_
  exact Touches.after (State.modLoad_touches _ _ _) rfl (Touches.mono rfl (State.modVtable_touches _ _ _))

theorem State.queueGraphLoad_touches (s l) :
    Touches [.reg, .host, .strands, .frames, .gth, .srv, .img] s (State.queueGraphLoad s l) := by
  unfold State.queueGraphLoad
  refine Touches.after (State.reviewStrands_touches _) rfl ?_
  exact Touches.after (State.modLoad_touches _ _ _) rfl (Touches.mono rfl (State.modGraph_touches _ _ _))

theorem execClLoad_answers (q e desc s) :
    Answers [.freeCtr, .out, .reg, .host] s (execClLoad q e desc s) := by
  unfold execClLoad
  refine Answers.next (Touches.trans ?_ (State.sqCommand_touches rfl _ _ _ _ _ (fun t0 t1 => ?_)))
  · exact Touches.refl _ _
  · split
    · rename_i x2
      exact Touches.after (State.complete_touches _ _ _ _) rfl (Touches.mono rfl (State.event_touches _ _ _ _))
    · rename_i x3 x4
      extract_lets +onlyGivenNames x5
      clear_value x5
      split
      · rename_i x6 x7 h8
        extract_lets +onlyGivenNames x9
        refine Touches.cut (x := x9) ?_ (fun h10 => ?_)
        · unfold x9
          refine Touches.ite ?_ ?_
          · exact Touches.mono rfl (State.count_touches _ _)
          · exact Touches.refl _ _
        clear_value x9
        exact Touches.after (State.complete_touches _ _ _ _) rfl (Touches.after (State.event_touches _ _ _ _) rfl h10)
      · rename_i x11 h12
        extract_lets +onlyGivenNames x13
        clear_value x13
        exact Touches.put_host rfl (Touches.refl _ _)

theorem execGraphLoadCommit_answers (graph s) :
    Answers [.freeCtr, .out, .reg, .host, .acc, .strands, .frames, .gth, .srv, .img, .nwl, .fab] s (execGraphLoadCommit graph s) := by
  unfold execGraphLoadCommit
  extract_lets +onlyGivenNames x0
  clear_value x0
  refine Answers.next ?_
  split
  · rename_i x1 h2
    exact Touches.refl _ _
  · rename_i x3 x4 x5 x6 x7 h8
    refine Touches.ite ?_ ?_
    · exact Touches.refl _ _
    · split
      rename_i x9 x10 x11 h12
      refine Touches.cut (Touches.of_snd h12 ?_) (fun k13 => ?_)
      · exact Touches.mono rfl (State.payLines_touches _ _)
      refine Touches.ite ?_ ?_
      · exact Touches.after (State.modGraph_touches _ _ _) rfl k13
      · split
        · rename_i x14 h15
          exact Touches.after (State.modGraph_touches _ _ _) rfl k13
        · rename_i x16 x17 h18
          extract_lets +onlyGivenNames x19
          clear_value x19
          extract_lets +onlyGivenNames x20
          refine Touches.cut (x := x20) ?_ (fun h21 => ?_)
          · unfold x20
            exact Touches.after (State.modGraph_touches _ _ _) rfl k13
          clear_value x20
          exact Touches.after (State.loadCommitted_touches _ _ _) rfl (Touches.after (State.modGraph_touches _ _ _) rfl h21)

theorem execGraphLoadStart_answers (graph lines s) :
    Answers [.freeCtr, .out, .reg, .host, .strands, .frames, .gth, .srv, .img, .nwl, .fab] s (execGraphLoadStart graph lines s) := by
  unfold execGraphLoadStart
  extract_lets +onlyGivenNames x0
  clear_value x0
  extract_lets +onlyGivenNames x1
  clear_value x1
  refine Answers.next ?_
  split
  · rename_i x2 h3
    exact Touches.refl _ _
  · rename_i x4 x5 h6
    extract_lets +onlyGivenNames x7
    clear_value x7
    extract_lets +onlyGivenNames x8
    clear_value x8
    refine Touches.ite ?_ ?_
    · exact Touches.refl _ _
    · split
      · rename_i x9 x10 x11 h12
        exact Touches.mono rfl (State.refuseLoad_touches _ _ _ _)
      · rename_i x13 x14 x15 h16 h17
        exact Touches.mono rfl (State.refuseLoad_touches _ _ _ _)
      · rename_i x18 x19 h20 h21
        split
        · rename_i x22 x23 h24
          exact Touches.mono rfl (State.refuseLoad_touches _ _ _ _)
        · rename_i x25 x26 h27
          exact Touches.mono rfl (State.modGraph_touches _ _ _)

theorem execLoadCommit_answers (load fault s) :
    Answers [.freeCtr, .out, .reg, .host, .ops, .led, .acc, .strands, .grants, .frames, .content, .vit, .gth, .srv, .img, .nwl, .fab] s (execLoadCommit load fault s) := by
  unfold execLoadCommit
  refine Answers.next ?_
  split
  · rename_i x0 h1
    exact Touches.refl _ _
  · rename_i x2 x3 h4
    refine Touches.ite ?_ ?_
    · exact Touches.refl _ _
    · refine Touches.ite ?_ ?_
      · exact Touches.mono rfl (State.loadFault_touches _ _)
      · split
        · rename_i x5 x6 h7
          exact Touches.mono rfl (State.refuseLoad_touches _ _ _ _)
        · rename_i x8 h9
          extract_lets +onlyGivenNames x10
          clear_value x10
          split
          · rename_i x11 h12
            exact Touches.refl _ _
          · rename_i x13 h14
            exact Touches.mono rfl (State.queueBatch_touches _ _)
          · rename_i x15 h16 h17
            extract_lets +onlyGivenNames x18
            refine Touches.cut (x := x18) ?_ (fun h19 => ?_)
            · unfold x18
              exact Touches.mono rfl (State.freeOld_touches _)
            clear_value x18
            refine Touches.ite ?_ ?_
            · exact Touches.after (State.loadCommitted_touches _ _ _) rfl (Touches.after (State.installVersion_touches _ _ _ _ _ _) rfl h19)
            · exact Touches.after (State.refuseLoad_touches _ _ _ _) rfl h19

theorem execLoadDigestDone_answers (load content fault s) :
    Answers [.freeCtr, .out, .reg, .host, .ops, .led, .strands, .grants, .frames, .content, .vit, .gth, .srv, .img, .nwl, .fab] s (execLoadDigestDone load content fault s) := by
  unfold execLoadDigestDone
  refine Answers.next ?_
  split
  · rename_i x0 h1
    exact Touches.refl _ _
  · rename_i x2 x3 h4
    refine Touches.ite ?_ ?_
    · exact Touches.refl _ _
    · refine Touches.ite ?_ ?_
      · exact Touches.mono rfl (State.loadFault_touches _ _)
      · extract_lets +onlyGivenNames x5
        clear_value x5
        split
        · rename_i x6
          exact Touches.mono rfl (State.refuseLoad_touches _ _ _ _)
        · rename_i x7 x8
          refine Touches.ite ?_ ?_
          · exact Touches.mono rfl (State.refuseLoad_touches _ _ _ _)
          · refine Touches.ite ?_ ?_
            · exact Touches.mono rfl (State.refuseLoad_touches _ _ _ _)
            · split
              · rename_i x9 x10 x11 h12
                exact Touches.mono rfl (State.refuseLoad_touches _ _ _ _)
              · rename_i x13 h14
                extract_lets +onlyGivenNames x15
                refine Touches.cut (x := x15) ?_ (fun h16 => ?_)
                · unfold x15
                  exact Touches.mono rfl (State.modLoad_touches _ _ _)
                clear_value x15
                refine Touches.ite ?_ ?_
                · exact Touches.after (State.queueGraphLoad_touches _ _) rfl h16
                · exact h16

theorem execLoadStagingReady_answers (load s) :
    Answers [.host, .fab] s (execLoadStagingReady load s) := by
  unfold execLoadStagingReady
  refine Answers.next ?_
  split
  · rename_i x0 h1
    exact Touches.refl _ _
  · rename_i x2 x3 h4
    refine Touches.ite ?_ ?_
    · exact Touches.refl _ _
    · extract_lets +onlyGivenNames x5
      clear_value x5
      extract_lets +onlyGivenNames x6
      refine Touches.cut (x := x6) ?_ (fun h7 => ?_)
      · unfold x6
        refine Touches.ite ?_ ?_
        · exact Touches.refl _ _
        · refine Touches.ite ?_ ?_
          · split
            · rename_i x8 x9 h10
              refine Touches.cut (Touches.of_some h10 ?_) (fun k11 => ?_)
              · exact fun y e => Touches.after (State.stageRoom_touches _ _ y e) rfl (Touches.refl _ _)
              exact Touches.after (State.modLoad_touches _ _ _) rfl k11
            · rename_i x12 h13
              exact Touches.refl _ _
          · exact Touches.refl _ _
      clear_value x6
      refine Touches.ite ?_ ?_
      · exact Touches.after (State.modLoad_touches _ _ _) rfl h7
      · exact h7

theorem execTableBatchCommit_answers (table s) :
    Answers [.freeCtr, .out, .reg, .host, .acc, .strands, .frames, .vit, .gth, .srv, .img, .nwl, .fab] s (execTableBatchCommit table s) := by
  unfold execTableBatchCommit
  extract_lets +onlyGivenNames x0
  clear_value x0
  refine Answers.next ?_
  split
  · rename_i x1 h2
    exact Touches.refl _ _
  · rename_i x3 x4 x5 h6
    split
    · rename_i x7 h8
      exact Touches.refl _ _
    · rename_i x9 x10 h11
      refine Touches.ite ?_ ?_
      · extract_lets +onlyGivenNames x12
        clear_value x12
        extract_lets +onlyGivenNames x13
        clear_value x13
        exact Touches.after (State.loadCommitted_touches _ _ _) rfl (Touches.mono rfl (State.modVtable_touches _ _ _))
      · exact Touches.refl _ _

end Sys2Proof.Machine
end

