-- ==== Sys2Proof/Laws/TouchesContent.lean ====
section
/-!
SUPPORT. What the operations of replication, the archive, the images, the Strands and the Narwyn ports may change: one lemma each.
-/
namespace Sys2Proof.Machine

/-! Machine/Repl.lean -/

theorem State.startRoundLoad_touches (s r) :
    Touches [.reg, .host, .nwl, .fab] s (State.startRoundLoad s r) := by
  unfold State.startRoundLoad
  split
  · rename_i x0 h1
    exact Touches.after (State.dropRound_touches _ _) rfl (Touches.mono rfl (State.replAck_touches _ _ _))
  · rename_i x2 x3 h4
    extract_lets +onlyGivenNames x5
    clear_value x5
    refine Touches.ite ?_ ?_
    · exact Touches.after (State.dropRound_touches _ _) rfl (Touches.mono rfl (State.replAck_touches _ _ _))
    · refine Touches.ite ?_ ?_
      · exact Touches.after (State.dropRound_touches _ _) rfl (Touches.mono rfl (State.replAck_touches _ _ _))
      · refine Touches.ite ?_ ?_
        · exact Touches.refl _ _
        · extract_lets +onlyGivenNames x6
          clear_value x6
          exact Touches.put_host rfl (Touches.refl _ _)

theorem State.checkRound_touches (s id) :
    Touches [.reg, .host, .nwl, .fab] s (State.checkRound s id) := by
  unfold State.checkRound
  split
  · rename_i x0 x1 h2
    refine Touches.ite ?_ ?_
    · exact Touches.mono rfl (State.startRoundLoad_touches _ _)
    · exact Touches.refl _ _
  · rename_i x3 h4
    exact Touches.refl _ _

theorem State.modRound_touches (s id f) :
    Touches [.fab] s (State.modRound s id f) := by
  unfold State.modRound
  exact Touches.put_fab rfl (Touches.refl _ _)

theorem State.takeTarget_touches (s e) :
    Touches [.out, .reg, .host, .strands, .frames, .gth, .srv, .img, .fab] s (State.takeTarget s e) := by
  unfold State.takeTarget
  split
  · rename_i x0 h1
    exact Touches.refl _ _
  · rename_i x2 x3 h4
    extract_lets +onlyGivenNames x5
    clear_value x5
    refine Touches.ite ?_ ?_
    · exact Touches.refl _ _
    · extract_lets +onlyGivenNames x6
      clear_value x6
      extract_lets +onlyGivenNames x7
      clear_value x7
      extract_lets +onlyGivenNames x8
      refine Touches.cut (x := x8) ?_ (fun h9 => ?_)
      · unfold x8
        exact Touches.mono rfl (State.set_touches _ _ _)
      clear_value x8
      refine Touches.after (State.reviewItem_touches _ _ _) rfl (Touches.ite ?_ ?_)
      · exact Touches.after (State.set_touches _ _ _) rfl h9
      · exact h9

theorem State.unicastRound_touches (s l dest) :
    Touches [.reg, .nwl, .fab] s (State.unicastRound s l dest) := by
  unfold State.unicastRound
  refine Touches.foldl ?_ (fun t1 x2 h0 => ?_)
  · exact Touches.refl _ _
  · exact Touches.after (State.sendPacket_touches _ _) rfl h0

theorem State.writeDelivered_touches (s as) :
    Touches [.reg] s (State.writeDelivered s as) := by
  unfold State.writeDelivered
  extract_lets +onlyGivenNames x0
  refine Touches.cut (x := x0) ?_ (fun h1 => ?_)
  · unfold x0
    refine Touches.foldl ?_ (fun t3 x4 h2 => ?_)
    · exact Touches.refl _ _
    · exact Touches.after (State.set_touches _ _ _) rfl h2
  clear_value x0
  refine Touches.foldl ?_ (fun t6 x7 h5 => ?_)
  · exact h1
  · extract_lets +onlyGivenNames x8
    clear_value x8
    exact Touches.after (State.setBits_touches _ _ _) rfl h5

theorem execCatalogTimer_answers (s) :
    Answers [.reg, .nwl, .fab] s (execCatalogTimer s) := by
  unfold execCatalogTimer
  refine Answers.next ?_
  split
  · rename_i x0 h1
    exact Touches.refl _ _
  · rename_i x2 x3 h4
    refine Touches.ite ?_ ?_
    · exact Touches.refl _ _
    · extract_lets +onlyGivenNames x5
      clear_value x5
      extract_lets +onlyGivenNames x6
      refine Touches.cut (x := x6) ?_ (fun h7 => ?_)
      · unfold x6
        exact Touches.put_fab rfl (Touches.refl _ _)
      clear_value x6
      refine Touches.foldl ?_ (fun t9 x10 h8 => ?_)
      · exact h7
      · extract_lets +onlyGivenNames x11
        clear_value x11
        extract_lets +onlyGivenNames x12
        clear_value x12
        exact Touches.after (State.multicast_touches _ _) rfl h8

theorem execReplAck_answers (s) :
    Answers [.fab] s (execReplAck s) := by
  unfold execReplAck
  refine Answers.next ?_
  split
  · rename_i x0 h1
    exact Touches.refl _ _
  · rename_i x2 x3 x4 h5
    refine Touches.cut (Touches.of_some_snd h5 ?_) (fun k6 => ?_)
    · exact fun v y e => Touches.after (State.nextPacket_touches _ _ v y e) rfl (Touches.refl _ _)
    split
    · rename_i x7 x8 h9
      refine Touches.ite ?_ ?_
      · exact Touches.put_fab rfl k6
      · exact k6
    · rename_i x10 h11
      exact k6

theorem execReplBegin_answers (s) :
    Answers [.reg, .nwl, .fab] s (execReplBegin s) := by
  unfold execReplBegin
  refine Answers.next ?_
  split
  · rename_i x0 h1
    exact Touches.refl _ _
  · rename_i x2 x3 x4 h5
    refine Touches.cut (Touches.of_some_snd h5 ?_) (fun k6 => ?_)
    · exact fun v y e => Touches.after (State.nextPacket_touches _ _ v y e) rfl (Touches.refl _ _)
    extract_lets +onlyGivenNames x7
    clear_value x7
    extract_lets +onlyGivenNames x8
    clear_value x8
    extract_lets +onlyGivenNames x9
    clear_value x9
    refine Touches.ite ?_ ?_
    · exact k6
    · split
      · rename_i x10 x11 h12
        refine Touches.cut (Touches.of_some h12 ?_) (fun k13 => ?_)
        · exact fun y e => Touches.after (State.stageRoom_touches _ _ y e) rfl k6
        exact Touches.put_fab rfl k13
      · rename_i x14 h15
        exact Touches.after (State.replAck_touches _ _ _) rfl k6

theorem execReplData_answers (s) :
    Answers [.reg, .host, .nwl, .fab] s (execReplData s) := by
  unfold execReplData
  refine Answers.next ?_
  split
  · rename_i x0 h1
    exact Touches.refl _ _
  · rename_i x2 x3 x4 h5
    refine Touches.cut (Touches.of_some_snd h5 ?_) (fun k6 => ?_)
    · exact fun v y e => Touches.after (State.nextPacket_touches _ _ v y e) rfl (Touches.refl _ _)
    extract_lets +onlyGivenNames x7
    clear_value x7
    extract_lets +onlyGivenNames x8
    refine Touches.cut (x := x8) ?_ (fun h9 => ?_)
    · unfold x8
      exact Touches.after (State.modRound_touches _ _ _) rfl k6
    clear_value x8
    exact Touches.after (State.checkRound_touches _ _) rfl h9

theorem execReplEnd_answers (s) :
    Answers [.reg, .host, .nwl, .fab] s (execReplEnd s) := by
  unfold execReplEnd
  refine Answers.next ?_
  split
  · rename_i x0 h1
    exact Touches.refl _ _
  · rename_i x2 x3 x4 h5
    refine Touches.cut (Touches.of_some_snd h5 ?_) (fun k6 => ?_)
    · exact fun v y e => Touches.after (State.nextPacket_touches _ _ v y e) rfl (Touches.refl _ _)
    exact Touches.after (State.checkRound_touches _ _) rfl (Touches.after (State.modRound_touches _ _ _) rfl k6)

theorem execReplFragmentWait_answers (replId s) :
    Answers [.reg, .nwl, .fab] s (execReplFragmentWait replId s) := by
  unfold execReplFragmentWait
  refine Answers.next ?_
  split
  · rename_i x0 h1
    exact Touches.refl _ _
  · rename_i x2 x3 h4
    split
    · rename_i x5 x6 h7
      refine Touches.ite ?_ ?_
      · exact Touches.after (State.dropRound_touches _ _) rfl (Touches.mono rfl (State.replAck_touches _ _ _))
      · exact Touches.refl _ _
    · rename_i x8 h9
      exact Touches.refl _ _

theorem execReplFullNeeded_answers (s) :
    Answers [.out, .reg, .host, .fab] s (execReplFullNeeded s) := by
  unfold execReplFullNeeded
  refine Answers.next ?_
  split
  · rename_i x0 h1
    exact Touches.refl _ _
  · rename_i x2 x3 x4 h5
    refine Touches.cut (Touches.of_some_snd h5 ?_) (fun k6 => ?_)
    · exact fun v y e => Touches.after (State.nextPacket_touches _ _ v y e) rfl (Touches.refl _ _)
    extract_lets +onlyGivenNames x7
    clear_value x7
    split
    · rename_i x8 x9 h10
      exact Touches.after (State.event_touches _ _ _ _) rfl k6
    · rename_i x11 h12
      exact k6

theorem execReplPull_answers (s) :
    Answers [.reg, .nwl, .fab] s (execReplPull s) := by
  unfold execReplPull
  refine Answers.next ?_
  split
  · rename_i x0 h1
    exact Touches.refl _ _
  · rename_i x2 x3 x4 h5
    refine Touches.cut (Touches.of_some_snd h5 ?_) (fun k6 => ?_)
    · exact fun v y e => Touches.after (State.nextPacket_touches _ _ v y e) rfl (Touches.refl _ _)
    extract_lets +onlyGivenNames x7
    clear_value x7
    split
    · rename_i x8 h9
      extract_lets +onlyGivenNames x10
      clear_value x10
      exact Touches.after (State.sendPacket_touches _ _) rfl k6
    · rename_i x11 h12
      refine Touches.foldl ?_ (fun t14 x15 h13 => ?_)
      · exact k6
      · exact Touches.after (State.unicastRound_touches _ _ _) rfl h13

theorem execReplPullTimer_answers (item s) :
    Answers [.reg, .nwl, .fab] s (execReplPullTimer item s) := by
  unfold execReplPullTimer
  extract_lets +onlyGivenNames x0
  clear_value x0
  split
  rename_i x1 x2 x3 h4
  extract_lets +onlyGivenNames x5
  clear_value x5
  refine Answers.next (Touches.ite ?_ ?_)
  · extract_lets +onlyGivenNames x6
    clear_value x6
    extract_lets +onlyGivenNames x7
    refine Touches.cut (x := x7) ?_ (fun h8 => ?_)
    · unfold x7
      exact Touches.after (State.count_touches _ _) rfl (Touches.put_fab rfl (Touches.refl _ _))
    clear_value x7
    exact Touches.after (State.sendPacket_touches _ _) rfl h8
  · exact Touches.refl _ _

theorem execReplRoundStart_answers (s) :
    Answers [.reg, .nwl, .fab] s (execReplRoundStart s) := by
  unfold execReplRoundStart
  refine Answers.next (Touches.ite ?_ ?_)
  · exact Touches.refl _ _
  · split
    · rename_i x0 x1 x2 x3 h4 h5
      extract_lets +onlyGivenNames x6
      refine Touches.cut (x := x6) ?_ (fun h7 => ?_)
      · unfold x6
        refine Touches.foldl ?_ (fun t9 x10 h8 => ?_)
        · exact Touches.refl _ _
        · exact Touches.after (State.multicast_touches _ _) rfl h8
      clear_value x6
      exact Touches.after (State.set_touches _ _ _) rfl (Touches.put_fab rfl h7)
    · rename_i x11 x12 x13 h14
      refine Touches.ite ?_ ?_
      · extract_lets +onlyGivenNames x15
        clear_value x15
        extract_lets +onlyGivenNames x16
        refine Touches.cut (x := x16) ?_ (fun h17 => ?_)
        · unfold x16
          refine Touches.foldl ?_ (fun t19 x20 h18 => ?_)
          · exact Touches.refl _ _
          · exact Touches.after (State.unicastRound_touches _ _ _) rfl h18
        clear_value x16
        exact Touches.put_fab rfl h17
      · exact Touches.refl _ _
    · rename_i x21 x22 h23 h24
      exact Touches.refl _ _

theorem execReplWaitExpiry_answers (s) :
    Answers [.out, .reg, .host, .nwl, .fab] s (execReplWaitExpiry s) := by
  unfold execReplWaitExpiry
  refine Answers.next ?_
  split
  · rename_i x0 h1
    exact Touches.refl _ _
  · rename_i x2 x3 h4
    refine Touches.ite ?_ ?_
    · exact Touches.refl _ _
    · extract_lets +onlyGivenNames x5
      clear_value x5
      extract_lets +onlyGivenNames x6
      clear_value x6
      extract_lets +onlyGivenNames x7
      clear_value x7
      refine Touches.ite ?_ ?_
      · exact Touches.put_fab rfl (Touches.refl _ _)
      · extract_lets +onlyGivenNames x8
        clear_value x8
        extract_lets +onlyGivenNames x9
        refine Touches.cut (x := x9) ?_ (fun h10 => ?_)
        · unfold x9
          exact Touches.mono rfl (State.writeDelivered_touches _ _)
        clear_value x9
        extract_lets +onlyGivenNames x11
        refine Touches.cut (x := x11) ?_ (fun h12 => ?_)
        · unfold x11
          exact Touches.after (State.set_touches _ _ _) rfl (Touches.after (State.set_touches _ _ _) rfl h10)
        clear_value x11
        extract_lets +onlyGivenNames x13
        clear_value x13
        extract_lets +onlyGivenNames x14
        refine Touches.cut (x := x14) ?_ (fun h15 => ?_)
        · unfold x14
          exact Touches.after (State.event_touches _ _ _ _) rfl (Touches.put_fab rfl h12)
        clear_value x14
        exact Touches.after (State.multicast_touches _ _) rfl h15

theorem execTarget_answers (s) :
    Answers [.out, .reg, .host, .strands, .frames, .gth, .srv, .img, .fab] s (execTarget s) := by
  unfold execTarget
  refine Answers.next ?_
  split
  · rename_i x0 h1
    exact Touches.refl _ _
  · rename_i x2 x3 x4 h5
    refine Touches.cut (Touches.of_some_snd h5 ?_) (fun k6 => ?_)
    · exact fun v y e => Touches.after (State.nextPacket_touches _ _ v y e) rfl (Touches.refl _ _)
    refine Touches.foldl ?_ (fun t8 x9 h7 => ?_)
    · exact k6
    · exact Touches.after (State.takeTarget_touches _ _) rfl h7

/-! Machine/Archive.lean -/

theorem State.archStatus_touches (s p req status) :
    Touches [.reg, .nwl, .fab] s (State.archStatus s p req status) := by
  unfold State.archStatus
  exact Touches.mono rfl (State.sendPacket_touches _ _)

theorem State.checkPeers_touches (s) :
    Touches [.out, .reg, .host] s (State.checkPeers s) := by
  unfold State.checkPeers
  extract_lets +onlyGivenNames x0
  clear_value x0
  refine Touches.foldl ?_ (fun t2 x3 h1 => ?_)
  · exact Touches.refl _ _
  · extract_lets +onlyGivenNames x4
    clear_value x4
    extract_lets +onlyGivenNames x5
    clear_value x5
    refine Touches.ite ?_ ?_
    · exact Touches.after (State.event_touches _ _ _ _) rfl (Touches.after (State.set_touches _ _ _) rfl h1)
    · exact h1

theorem State.fetchEntry_touches (key s) :
    Touches [.reg, .nwl, .fab] s (State.fetchEntry key s) := by
  unfold State.fetchEntry
  split
  · rename_i x0 x1 h2
    exact Touches.mono rfl (State.sendPacket_touches _ _)
  · rename_i x3 h4
    exact Touches.refl _ _

theorem State.fetchFailed_touches (s r key) :
    Touches [.srv] s (State.fetchFailed s r key) := by
  unfold State.fetchFailed
  refine Touches.after (State.doomRequest_touches _ _ _) rfl ?_
  exact Touches.after (State.modRequest_touches _ _ _) rfl (Touches.mono rfl (State.dropEntry_touches _ _))

theorem State.moveDone_touches (s r key) :
    Touches [.reg, .srv] s (State.moveDone s r key) := by
  unfold State.moveDone
  extract_lets +onlyGivenNames x0
  refine Touches.cut (x := x0) ?_ (fun h1 => ?_)
  · unfold x0
    exact Touches.mono rfl (State.count_touches _ _)
  clear_value x0
  refine Touches.ite ?_ ?_
  · exact Touches.after (State.modRequest_touches _ _ _) rfl (Touches.after (State.dropEntry_touches _ _) rfl h1)
  · extract_lets +onlyGivenNames x2
    clear_value x2
    extract_lets +onlyGivenNames x3
    refine Touches.cut (x := x3) ?_ (fun h4 => ?_)
    · unfold x3
      exact Touches.after (State.modEntry_touches _ _ _) rfl h1
    clear_value x3
    exact Touches.after (State.modRequest_touches _ _ _) rfl (Touches.after (State.freePrivate_touches _ _) rfl h4)

theorem State.readBack_touches (s r key) :
    Touches [.reg, .srv] s (State.readBack s r key) := by
  unfold State.readBack
  extract_lets +onlyGivenNames x0
  refine Touches.cut (x := x0) ?_ (fun h1 => ?_)
  · unfold x0
    exact Touches.after (State.dropEntry_touches _ _) rfl (Touches.mono rfl (State.count_touches _ _))
  clear_value x0
  extract_lets +onlyGivenNames x2
  refine Touches.cut (x := x2) ?_ (fun h3 => ?_)
  · unfold x2
    exact Touches.after (State.modRequest_touches _ _ _) rfl h1
  clear_value x2
  refine Touches.after (State.noteActive_touches _ _) rfl (Touches.ite ?_ ?_)
  · exact h3
  · exact Touches.after (State.resumeRequest_touches _ _) rfl h3

theorem State.readLost_touches (s r key) :
    Touches [.reg, .srv] s (State.readLost s r key) := by
  unfold State.readLost
  extract_lets +onlyGivenNames x0
  refine Touches.cut (x := x0) ?_ (fun h1 => ?_)
  · unfold x0
    refine Touches.after (State.freePrivate_touches _ _) rfl ?_
    exact Touches.after (State.dropEntry_touches _ _) rfl (Touches.mono rfl (State.count_touches _ _))
  clear_value x0
  exact Touches.after (State.doomRequest_touches _ _ _) rfl (Touches.after (State.modRequest_touches _ _ _) rfl h1)

theorem State.startMove_touches (s r remote) :
    Touches [.reg, .srv, .nwl, .fab] s (State.startMove s r remote) := by
  unfold State.startMove
  extract_lets +onlyGivenNames x0
  clear_value x0
  extract_lets +onlyGivenNames x1
  clear_value x1
  extract_lets +onlyGivenNames x2
  clear_value x2
  extract_lets +onlyGivenNames x3
  refine Touches.cut (x := x3) ?_ (fun h4 => ?_)
  · unfold x3
    exact Touches.put_srv rfl (Touches.refl _ _)
  clear_value x3
  extract_lets +onlyGivenNames x5
  refine Touches.cut (x := x5) ?_ (fun h6 => ?_)
  · unfold x5
    exact Touches.after (State.modRequest_touches _ _ _) rfl h4
  clear_value x5
  refine Touches.foldl ?_ (fun t8 x9 h7 => ?_)
  · exact h6
  · exact Touches.after (State.sendPacket_touches _ _) rfl h7

theorem execArchData_answers (s) :
    Answers [.srv, .fab] s (execArchData s) := by
  unfold execArchData
  refine Answers.next ?_
  split
  · rename_i x0 h1
    exact Touches.refl _ _
  · rename_i x2 x3 x4 h5
    refine Touches.cut (Touches.of_some_snd h5 ?_) (fun k6 => ?_)
    · exact fun v y e => Touches.after (State.nextPacket_touches _ _ v y e) rfl (Touches.refl _ _)
    split
    · rename_i x7 x8 h9
      refine Touches.ite ?_ ?_
      · exact k6
      · exact Touches.after (State.modEntry_touches _ _ _) rfl k6
    · rename_i x10 h11
      exact k6

theorem execArchGet_answers (s) :
    Answers [.reg, .srv, .nwl, .fab] s (execArchGet s) := by
  unfold execArchGet
  refine Answers.next ?_
  split
  · rename_i x0 h1
    exact Touches.refl _ _
  · rename_i x2 x3 x4 h5
    refine Touches.cut (Touches.of_some_snd h5 ?_) (fun k6 => ?_)
    · exact fun v y e => Touches.after (State.nextPacket_touches _ _ v y e) rfl (Touches.refl _ _)
    extract_lets +onlyGivenNames x7
    clear_value x7
    extract_lets +onlyGivenNames x8
    clear_value x8
    split
    · rename_i x9
      exact Touches.after (State.archStatus_touches _ _ _ _) rfl k6
    · rename_i x10 x11
      extract_lets +onlyGivenNames x12
      clear_value x12
      refine Touches.foldl ?_ (fun t14 x15 h13 => ?_)
      · exact Touches.after (State.dropEntry_touches _ _) rfl k6
      · exact Touches.after (State.sendPacket_touches _ _) rfl h13

theorem execArchPut_answers (s) :
    Answers [.reg, .srv, .nwl, .fab] s (execArchPut s) := by
  unfold execArchPut
  refine Answers.next ?_
  split
  · rename_i x0 h1
    exact Touches.refl _ _
  · rename_i x2 x3 x4 h5
    refine Touches.cut (Touches.of_some_snd h5 ?_) (fun k6 => ?_)
    · exact fun v y e => Touches.after (State.nextPacket_touches _ _ v y e) rfl (Touches.refl _ _)
    extract_lets +onlyGivenNames x7
    clear_value x7
    refine Touches.ite ?_ ?_
    · extract_lets +onlyGivenNames x8
      refine Touches.cut (x := x8) ?_ (fun h9 => ?_)
      · unfold x8
        split
        · rename_i x10 x11
          exact Touches.after (State.dropEntry_touches _ _) rfl k6
        · rename_i x12
          exact k6
      clear_value x8
      exact Touches.after (State.archStatus_touches _ _ _ _) rfl h9
    · extract_lets +onlyGivenNames x13
      clear_value x13
      extract_lets +onlyGivenNames x14
      clear_value x14
      extract_lets +onlyGivenNames x15
      clear_value x15
      extract_lets +onlyGivenNames x16
      clear_value x16
      extract_lets +onlyGivenNames x17
      refine Touches.cut (x := x17) ?_ (fun h18 => ?_)
      · unfold x17
        exact Touches.put_srv rfl k6
      clear_value x17
      refine Touches.ite ?_ ?_
      · exact Touches.after (State.archStatus_touches _ _ _ _) rfl h18
      · exact h18

theorem execArchStatus_answers (s) :
    Answers [.reg, .srv, .fab] s (execArchStatus s) := by
  unfold execArchStatus
  refine Answers.next ?_
  split
  · rename_i x0 h1
    exact Touches.refl _ _
  · rename_i x2 x3 x4 h5
    refine Touches.cut (Touches.of_some_snd h5 ?_) (fun k6 => ?_)
    · exact fun v y e => Touches.after (State.nextPacket_touches _ _ v y e) rfl (Touches.refl _ _)
    split
    · rename_i x7 h8
      exact k6
    · rename_i x9 x10 h11
      split
      · rename_i x12 h13
        exact k6
      · rename_i x14 x15 h16
        split
        · rename_i x17 x18 x19 h20 h21
          exact Touches.after (State.moveDone_touches _ _ _) rfl k6
        · rename_i x22 x23 x24 h25 h26
          exact Touches.after (State.modRequest_touches _ _ _) rfl (Touches.after (State.dropEntry_touches _ _) rfl k6)
        · rename_i x27 x28 x29 x30 h31 h32
          exact Touches.after (State.fetchFailed_touches _ _ _) rfl k6
        · rename_i x33 x34 h35 h36 h37
          exact k6

theorem execArchiveExpire_answers (key s) :
    Answers [.srv] s (execArchiveExpire key s) := by
  unfold execArchiveExpire
  refine Answers.next ?_
  split
  · rename_i x0 h1
    exact Touches.refl _ _
  · rename_i x2 x3 h4
    split
    · rename_i x5 h6
      exact Touches.refl _ _
    · rename_i x7 x8 h9
      refine Touches.ite ?_ ?_
      · exact Touches.refl _ _
      · split
        · rename_i x10 h11
          exact Touches.mono rfl (State.dropEntry_touches _ _)
        · rename_i x12 x13 h14
          split
          · rename_i x15 x16 h17
            refine Touches.after (State.modRequest_touches _ _ _) rfl ?_
            exact Touches.after (State.doomRequest_touches _ _ _) rfl (Touches.mono rfl (State.dropEntry_touches _ _))
          · rename_i x18 h19
            exact Touches.refl _ _

theorem execArchiveMoveStart_answers (cove s) :
    Answers [.reg, .srv, .nwl, .fab] s (execArchiveMoveStart cove s) := by
  unfold execArchiveMoveStart
  extract_lets +onlyGivenNames x0
  clear_value x0
  refine Answers.next (Touches.ite ?_ ?_)
  · split
    · rename_i x1 h2
      exact Touches.refl _ _
    · rename_i x3 x4 x5 h6
      refine Touches.ite ?_ ?_
      · exact Touches.mono rfl (State.startMove_touches _ _ _)
      · refine Touches.ite ?_ ?_
        · exact Touches.mono rfl (State.startMove_touches _ _ _)
        · exact Touches.refl _ _
  · exact Touches.refl _ _

theorem execArchivePeerTimeout_answers (slot s) :
    Answers [.srv] s (execArchivePeerTimeout slot s) := by
  unfold execArchivePeerTimeout
  refine Answers.next ?_
  split
  · rename_i x0 h1
    exact Touches.refl _ _
  · rename_i x2 x3 h4
    split
    · rename_i x5 x6 x7 h8
      split
      · rename_i x9 x10 h11
        refine Touches.ite ?_ ?_
        · exact Touches.mono rfl (State.fetchFailed_touches _ _ _)
        · exact Touches.refl _ _
      · rename_i x12 h13
        exact Touches.refl _ _
    · rename_i x14 h15
      exact Touches.refl _ _

theorem execArchiveReadDone_answers (slot work crcFail s) :
    Answers [.freeCtr, .out, .reg, .host, .ops, .led, .strands, .grants, .frames, .content, .vit, .gth, .srv, .img] s (execArchiveReadDone slot work crcFail s) := by
  unfold execArchiveReadDone
  refine Answers.next ?_
  split
  · rename_i x0 h1
    exact Touches.refl _ _
  · rename_i x2 x3 h4
    split
    · rename_i x5 x6 x7 h8
      split
      · rename_i x9 h10
        exact Touches.refl _ _
      · rename_i x11 x12 h13
        refine Touches.ite ?_ ?_
        · exact Touches.refl _ _
        · extract_lets +onlyGivenNames x14
          refine Touches.cut (x := x14) ?_ (fun h15 => ?_)
          · unfold x14
            refine Touches.ite ?_ ?_
            · split
              rename_i x16 x17 x18 h19
              refine Touches.cut (Touches.of_snd h19 ?_) (fun k20 => ?_)
              · exact Touches.mono rfl (State.free_touches _ _)
              exact Touches.after (State.corrected_touches _ _ _) rfl k20
            · exact Touches.refl _ _
          clear_value x14
          extract_lets +onlyGivenNames x21
          clear_value x21
          refine Touches.ite ?_ ?_
          · exact Touches.after (State.readLost_touches _ _ _) rfl h15
          · exact Touches.after (State.readBack_touches _ _ _) rfl h15
    · rename_i x22 h23
      exact Touches.refl _ _

theorem execArchiveWriteDone_answers (slot s) :
    Answers [.reg, .srv] s (execArchiveWriteDone slot s) := by
  unfold execArchiveWriteDone
  refine Answers.next ?_
  split
  · rename_i x0 x1 h2
    split
    · rename_i x3 x4 h5
      refine Touches.ite ?_ ?_
      · exact Touches.refl _ _
      · exact Touches.mono rfl (State.moveDone_touches _ _ _)
    · rename_i x6 h7
      exact Touches.refl _ _
  · rename_i x8 h9
    exact Touches.refl _ _

theorem execCoveStepCommit_answers (cove work gallery bad lost late s) :
    Answers [.freeCtr, .out, .reg, .host, .ops, .led, .strands, .grants, .frames, .content, .vit, .gth, .srv, .img, .nwl, .fab] s (execCoveStepCommit cove work gallery bad lost late s) := by
  unfold execCoveStepCommit
  extract_lets +onlyGivenNames x0
  clear_value x0
  extract_lets +onlyGivenNames x1
  clear_value x1
  split
  · rename_i x2 h3
    exact Answers.next (Touches.refl _ _)
  · rename_i x4 x5 h6
    refine Answers.ite ?_ ?_
    · exact Answers.next (Touches.refl _ _)
    · extract_lets +onlyGivenNames x7
      refine Answers.cut (x := x7) ?_ (fun h8 => ?_)
      · unfold x7
        refine Touches.foldl ?_ (fun t10 x11 h9 => ?_)
        · exact Touches.refl _ _
        · exact Touches.after (State.badBlock_touches _ _ _) rfl h9
      clear_value x7
      extract_lets +onlyGivenNames x12
      refine Answers.cut (x := x12) ?_ (fun h13 => ?_)
      · unfold x12
        refine Touches.foldl ?_ (fun t15 x16 h14 => ?_)
        · exact h8
        · exact Touches.after (State.markBad_touches _ _ _ _) rfl (Touches.after (State.hbmUe_touches _ _) rfl h14)
      clear_value x12
      extract_lets +onlyGivenNames x17
      refine Answers.cut (x := x17) ?_ (fun h18 => ?_)
      · unfold x17
        exact Touches.after (State.countBy_touches _ _ _) rfl h13
      clear_value x17
      refine Answers.next (Touches.trans ?_ (State.endStep_touches rfl _ _ _ _ _ _ (fun t19 t20 => ?_)))
      · exact h18
      · exact Touches.mono rfl (State.fetchEntry_touches _ _)

/-! Machine/Image.lean -/

theorem State.applyRecord_touches (s r) :
    Touches [.reg, .img] s (State.applyRecord s r) := by
  unfold State.applyRecord
  extract_lets +onlyGivenNames x0
  clear_value x0
  extract_lets +onlyGivenNames x1
  clear_value x1
  extract_lets +onlyGivenNames x2
  refine Touches.cut (x := x2) ?_ (fun h3 => ?_)
  · unfold x2
    refine Touches.ite ?_ ?_
    · exact Touches.put_img rfl (Touches.refl _ _)
    · exact Touches.refl _ _
  clear_value x2
  exact Touches.after (State.setWord_touches _ _ _) rfl h3

theorem State.resetLk_touches (s) :
    Touches [.reg] s (State.resetLk s) := by
  unfold State.resetLk
  refine Touches.foldl ?_ (fun t1 x2 h0 => ?_)
  · exact Touches.refl _ _
  · extract_lets +onlyGivenNames x3
    clear_value x3
    refine Touches.ite ?_ ?_
    · exact h0
    · exact Touches.after (State.setWord_touches _ _ _) rfl h0

theorem State.applyGlobal_touches (s recs) :
    Touches [.reg, .img] s (State.applyGlobal s recs) := by
  unfold State.applyGlobal
  extract_lets +onlyGivenNames x0
  clear_value x0
  extract_lets +onlyGivenNames x1
  refine Touches.cut (x := x1) ?_ (fun h2 => ?_)
  · unfold x1
    exact Touches.put_img rfl (Touches.refl _ _)
  clear_value x1
  refine Touches.foldl ?_ (fun t4 x5 h3 => ?_)
  · exact Touches.after (State.resetLk_touches _) rfl h2
  · exact Touches.after (State.applyRecord_touches _ _) rfl h3

theorem State.resetStrandWords_touches (s i) :
    Touches [.reg] s (State.resetStrandWords s i) := by
  unfold State.resetStrandWords
  refine Touches.foldl ?_ (fun t1 x2 h0 => ?_)
  · exact Touches.refl _ _
  · exact Touches.after (State.setWord_touches _ _ _) rfl h0

theorem State.applySection_touches (s i recs) :
    Touches [.reg, .img] s (State.applySection s i recs) := by
  unfold State.applySection
  refine Touches.foldl ?_ (fun t1 x2 h0 => ?_)
  · exact Touches.mono rfl (State.resetStrandWords_touches _ _)
  · exact Touches.after (State.applyRecord_touches _ _) rfl h0

theorem State.globalCheck_touches (s b) :
    ∀ y, (State.globalCheck s b) = some y → Touches [.reg, .img] s y := by
  unfold State.globalCheck
  split
  · rename_i x0 h1
    exact Touches.none_
  · rename_i x2 x3 h4
    extract_lets +onlyGivenNames x5
    clear_value x5
    extract_lets +onlyGivenNames x6
    clear_value x6
    refine Touches.ite_some ?_ ?_
    · exact Touches.none_
    · extract_lets +onlyGivenNames x7
      refine Touches.cutP (ps := [.reg, .img]) (b := s) (x := x7) ?_ (fun h8 => ?_)
      · unfold x7
        exact Touches.mono rfl (State.applyGlobal_touches _ _)
      clear_value x7
      extract_lets +onlyGivenNames x9
      clear_value x9
      refine Touches.ite_some ?_ ?_
      · exact Touches.some_ h8
      · exact Touches.none_

/-! Machine/StrandCmds.lean -/

theorem State.bindSection_touches (s i bank recs) :
    Touches [.reg, .strands, .img] s (State.bindSection s i bank recs) := by
  unfold State.bindSection
  extract_lets +onlyGivenNames x0
  clear_value x0
  exact Touches.after (State.modStrand_touches _ _ _) rfl (Touches.mono rfl (State.applySection_touches _ _ _))

theorem State.imgFault_touches (s code) :
    Touches [.reg] s (State.imgFault s code) := by
  unfold State.imgFault
  exact Touches.mono rfl (State.set_touches _ _ _)

theorem State.imgRefuse_touches (s c st code bank) :
    Touches [.freeCtr, .out, .reg, .host] s (State.imgRefuse s c st code bank) := by
  unfold State.imgRefuse
  split
  rename_i x0 x1 x2 h3
  refine Touches.cut (Touches.of_snd h3 ?_) (fun k4 => ?_)
  · split
    · rename_i x5 x6
      exact Touches.snd_mk (Touches.refl _ _)
    · rename_i x7
      exact Touches.mono rfl (State.free_touches _ _)
  exact Touches.after (State.complete_touches _ _ _ _) rfl (Touches.after (State.imgFault_touches _ _) rfl k4)

theorem State.twinMismatch_touches (s i) :
    Touches [.freeCtr, .out, .reg, .host, .ops, .led, .strands, .img] s (State.twinMismatch s i) := by
  unfold State.twinMismatch
  extract_lets +onlyGivenNames x0
  clear_value x0
  extract_lets +onlyGivenNames x1
  refine Touches.cut (x := x1) ?_ (fun h2 => ?_)
  · unfold x1
    exact Touches.mono rfl (State.strandOff_touches _ _ _)
  clear_value x1
  refine Touches.ite ?_ ?_
  · exact Touches.after (State.strandOff_touches _ _ _) rfl h2
  · exact h2

theorem State.loadSection_touches (s i) :
    Touches [.freeCtr, .out, .reg, .host, .ops, .led, .strands, .img] s (State.loadSection s i) := by
  unfold State.loadSection
  extract_lets +onlyGivenNames x0
  clear_value x0
  split
  · rename_i x1 h2
    exact Touches.mono rfl (State.strandOff_touches _ _ _)
  · rename_i x3 x4 h5
    extract_lets +onlyGivenNames x6
    clear_value x6
    extract_lets +onlyGivenNames x7
    clear_value x7
    extract_lets +onlyGivenNames x8
    clear_value x8
    refine Touches.ite ?_ ?_
    · exact Touches.mono rfl (State.strandOff_touches _ _ _)
    · refine Touches.ite ?_ ?_
      · exact Touches.mono rfl (State.strandOff_touches _ _ _)
      · refine Touches.ite ?_ ?_
        · exact Touches.mono rfl (State.twinMismatch_touches _ _)
        · refine Touches.ite ?_ ?_
          · exact Touches.after (State.set_touches _ _ _) rfl (Touches.mono rfl (State.strandOff_touches _ _ _))
          · extract_lets +onlyGivenNames x9
            refine Touches.cut (x := x9) ?_ (fun h10 => ?_)
            · unfold x9
              exact Touches.mono rfl (State.bindSection_touches _ _ _ _)
            clear_value x9
            refine Touches.ite ?_ ?_
            · exact Touches.after (State.strandOff_touches _ _ _) rfl h10
            · exact h10

theorem State.noteStrandsReady_touches (s) :
    Touches [.reg] s (State.noteStrandsReady s) := by
  unfold State.noteStrandsReady
  extract_lets +onlyGivenNames x0
  clear_value x0
  refine Touches.ite ?_ ?_
  · exact Touches.after (State.set_touches _ _ _) rfl (Touches.mono rfl (State.set_touches _ _ _))
  · exact Touches.refl _ _

theorem State.rollBegin_touches (s g t forced) :
    Touches [.reg, .strands, .frames, .srv, .img] s (State.rollBegin s g t forced) := by
  unfold State.rollBegin
  extract_lets +onlyGivenNames x0
  clear_value x0
  extract_lets +onlyGivenNames x1
  refine Touches.cut (x := x1) ?_ (fun h2 => ?_)
  · unfold x1
    exact Touches.put_img rfl (Touches.refl _ _)
  extract_lets +onlyGivenNames x3
  refine Touches.cut (x := x3) ?_ (fun h4 => ?_)
  · unfold x3
    exact Touches.after (State.set_touches _ _ _) rfl h2
  refine Touches.ite ?_ ?_
  · exact Touches.after (State.strandDrain_touches _ _ _ _) rfl h4
  · exact Touches.after (State.strandLoad_touches _ _ _) rfl h4

theorem State.rollRefuse_touches (s g code) :
    Touches [.freeCtr, .out, .reg, .host, .img] s (State.rollRefuse s g code) := by
  unfold State.rollRefuse
  extract_lets +onlyGivenNames x0
  clear_value x0
  extract_lets +onlyGivenNames x1
  refine Touches.cut (x := x1) ?_ (fun h2 => ?_)
  · unfold x1
    exact Touches.after (State.imgFault_touches _ _) rfl (Touches.after (State.set_touches _ _ _) rfl (Touches.put_img rfl (Touches.refl _ _)))
  clear_value x1
  exact Touches.after (State.complete_touches _ _ _ _) rfl h2

theorem execDrainStuck_answers (strand s) :
    Answers [.out, .reg, .host, .strands] s (execDrainStuck strand s) := by
  unfold execDrainStuck
  extract_lets +onlyGivenNames x0
  clear_value x0
  refine Answers.next (Touches.ite ?_ ?_)
  · exact Touches.after (State.wedge_touches _ _ _) rfl (Touches.mono rfl (State.modStrand_touches _ _ _))
  · exact Touches.refl _ _

theorem execImgAbort_answers (q e reserved s) :
    Answers [.freeCtr, .out, .reg, .host, .ops, .led, .strands, .img] s (execImgAbort q e reserved s) := by
  unfold execImgAbort
  refine Answers.next (Touches.trans ?_ (State.sqCommand_touches rfl _ _ _ _ _ (fun t0 t1 => ?_)))
  · exact Touches.refl _ _
  · extract_lets +onlyGivenNames x2
    clear_value x2
    refine Touches.ite ?_ ?_
    · exact Touches.mono rfl (State.imgRefuse_touches _ _ _ _ _)
    · split
      · rename_i x3 h4
        refine Touches.ite ?_ ?_
        · exact Touches.mono rfl (State.imgRefuse_touches _ _ _ _ _)
        · exact Touches.mono rfl (State.complete_touches _ _ _ _)
      · rename_i x5 x6 h7
        refine Touches.ite ?_ ?_
        · extract_lets +onlyGivenNames x8
          clear_value x8
          extract_lets +onlyGivenNames x9
          refine Touches.cut (x := x9) ?_ (fun h10 => ?_)
          · unfold x9
            refine Touches.after (State.imgFault_touches _ _) rfl ?_
            exact Touches.after (State.set_touches _ _ _) rfl (Touches.put_img rfl (Touches.refl _ _))
          clear_value x9
          extract_lets +onlyGivenNames x11
          refine Touches.cut (x := x11) ?_ (fun h12 => ?_)
          · unfold x11
            exact Touches.after (State.complete_touches _ _ _ _) rfl h10
          clear_value x11
          exact Touches.after (State.complete_touches _ _ _ _) rfl h12
        · extract_lets +onlyGivenNames x13
          refine Touches.cut (x := x13) ?_ (fun h14 => ?_)
          · unfold x13
            exact Touches.mono rfl (State.rollRevert_touches _ _)
          clear_value x13
          exact Touches.after (State.complete_touches _ _ _ _) rfl h14

theorem execImgRoll_answers (q e bank flags wait reserved s) :
    Answers [.freeCtr, .out, .reg, .host, .img] s (execImgRoll q e bank flags wait reserved s) := by
  unfold execImgRoll
  refine Answers.next (Touches.trans ?_ (State.sqCommand_touches rfl _ _ _ _ _ (fun t0 t1 => ?_)))
  · exact Touches.refl _ _
  · extract_lets +onlyGivenNames x2
    clear_value x2
    refine Touches.ite ?_ ?_
    · exact Touches.mono rfl (State.imgRefuse_touches _ _ _ _ _)
    · refine Touches.ite ?_ ?_
      · exact Touches.mono rfl (State.imgRefuse_touches _ _ _ _ _)
      · refine Touches.ite ?_ ?_
        · exact Touches.mono rfl (State.imgRefuse_touches _ _ _ _ _)
        · extract_lets +onlyGivenNames x3
          clear_value x3
          extract_lets +onlyGivenNames x4
          refine Touches.cut (x := x4) ?_ (fun h5 => ?_)
          · unfold x4
            refine Touches.after (State.set_touches _ _ _) rfl ?_
            exact Touches.after (State.set_touches _ _ _) rfl (Touches.mono rfl (State.set_touches _ _ _))
          clear_value x4
          exact Touches.put_img rfl h5

theorem execImgSwap_answers (q e strand flags reserved s) :
    Answers [.freeCtr, .out, .reg, .host, .strands, .frames, .srv, .img] s (execImgSwap q e strand flags reserved s) := by
  unfold execImgSwap
  extract_lets +onlyGivenNames x0
  clear_value x0
  extract_lets +onlyGivenNames x1
  clear_value x1
  refine Answers.next (Touches.trans ?_ (State.sqCommand_touches rfl _ _ _ _ _ (fun t2 t3 => ?_)))
  · exact Touches.refl _ _
  · extract_lets +onlyGivenNames x4
    clear_value x4
    extract_lets +onlyGivenNames x5
    clear_value x5
    extract_lets +onlyGivenNames x6
    refine Touches.cut (x := x6) ?_ (fun h7 => ?_)
    · unfold x6
      exact Touches.put_img rfl (Touches.refl _ _)
    clear_value x6
    refine Touches.ite ?_ ?_
    · exact Touches.mono rfl (State.imgRefuse_touches _ _ _ _ _)
    · refine Touches.ite ?_ ?_
      · exact Touches.mono rfl (State.imgRefuse_touches _ _ _ _ _)
      · refine Touches.ite ?_ ?_
        · exact Touches.mono rfl (State.imgRefuse_touches _ _ _ _ _)
        · split
          · rename_i x8 h9
            refine Touches.ite ?_ ?_
            · exact Touches.mono rfl (State.imgRefuse_touches _ _ _ _ _)
            · exact Touches.after (State.strandLoad_touches _ _ _) rfl h7
          · rename_i x10 h11
            refine Touches.ite ?_ ?_
            · exact Touches.after (State.strandDrain_touches _ _ _ _) rfl h7
            · refine Touches.ite ?_ ?_
              · exact Touches.after (State.strandDrain_touches _ _ _ _) rfl h7
              · exact Touches.put_img rfl (Touches.refl _ _)
          · rename_i x12 h13 h14
            exact Touches.mono rfl (State.imgRefuse_touches _ _ _ _ _)

theorem execRollStrandStep_answers (s) :
    Answers [.freeCtr, .out, .reg, .host, .ops, .led, .strands, .frames, .srv, .img] s (execRollStrandStep s) := by
  unfold execRollStrandStep
  refine Answers.next ?_
  split
  · rename_i x0 h1
    exact Touches.refl _ _
  · rename_i x2 x3 h4
    exact Touches.mono rfl (State.rollNext_touches _ _)
  · rename_i x5 x6 x7 x8 h9
    extract_lets +onlyGivenNames x10
    clear_value x10
    refine Touches.ite ?_ ?_
    · exact Touches.mono rfl (State.rollBegin_touches _ _ _ _)
    · exact Touches.refl _ _

theorem execRollVerifyDone_answers (s) :
    Answers [.freeCtr, .out, .reg, .host, .ops, .led, .strands, .img] s (execRollVerifyDone s) := by
  unfold execRollVerifyDone
  refine Answers.next ?_
  split
  · rename_i x0 h1
    exact Touches.refl _ _
  · rename_i x2 x3 h4
    refine Touches.ite ?_ ?_
    · exact Touches.refl _ _
    · extract_lets +onlyGivenNames x5
      clear_value x5
      extract_lets +onlyGivenNames x6
      clear_value x6
      refine Touches.ite ?_ ?_
      · exact Touches.mono rfl (State.rollRefuse_touches _ _ _)
      · refine Touches.ite ?_ ?_
        · exact Touches.mono rfl (State.rollRefuse_touches _ _ _)
        · extract_lets +onlyGivenNames x7
          clear_value x7
          extract_lets +onlyGivenNames x8
          clear_value x8
          extract_lets +onlyGivenNames x9
          clear_value x9
          extract_lets +onlyGivenNames x10
          refine Touches.cut (x := x10) ?_ (fun h11 => ?_)
          · unfold x10
            exact Touches.after (State.set_touches _ _ _) rfl (Touches.mono rfl (State.set_touches _ _ _))
          clear_value x10
          exact Touches.after (State.rollNext_touches _ _) rfl h11

theorem execRollWaitExpiry_answers (s) :
    Answers [.freeCtr, .out, .reg, .host, .ops, .led, .strands, .frames, .srv, .img] s (execRollWaitExpiry s) := by
  unfold execRollWaitExpiry
  refine Answers.next ?_
  split
  · rename_i x0 x1 x2 x3 h4
    extract_lets +onlyGivenNames x5
    clear_value x5
    refine Touches.ite ?_ ?_
    · exact Touches.refl _ _
    · refine Touches.ite ?_ ?_
      · exact Touches.mono rfl (State.rollRevert_touches _ _)
      · refine Touches.ite ?_ ?_
        · exact Touches.mono rfl (State.rollBegin_touches _ _ _ _)
        · exact Touches.refl _ _
  · rename_i x6 h7
    exact Touches.refl _ _

theorem execStrandDrainEnd_answers (strand s) :
    Answers [.strands] s (execStrandDrainEnd strand s) := by
  unfold execStrandDrainEnd
  extract_lets +onlyGivenNames x0
  clear_value x0
  refine Answers.next (Touches.ite ?_ ?_)
  · exact Touches.mono rfl (State.strandLoad_touches _ _ _)
  · exact Touches.refl _ _

theorem execStrandEnterServing_answers (strand s) :
    Answers [.freeCtr, .out, .reg, .host, .ops, .led, .acc, .strands, .frames, .served, .srv, .img] s (execStrandEnterServing strand s) := by
  unfold execStrandEnterServing
  extract_lets +onlyGivenNames x0
  clear_value x0
  refine Answers.next (Touches.ite ?_ ?_)
  · refine Touches.ite ?_ ?_
    · exact Touches.after (State.noteStrandsReady_touches _) rfl (Touches.mono rfl (State.strandOff_touches _ _ _))
    · refine Touches.ite ?_ ?_
      · extract_lets +onlyGivenNames x1
        refine Touches.cut (x := x1) ?_ (fun h2 => ?_)
        · unfold x1
          refine Touches.ite ?_ ?_
          · exact Touches.refl _ _
          · exact Touches.after (State.startChains_touches _) rfl (Touches.put_served rfl (Touches.refl _ _))
        clear_value x1
        exact Touches.after (State.noteStrandsReady_touches _) rfl (Touches.after (State.strandServe_touches _ _) rfl h2)
      · exact Touches.refl _ _
  · exact Touches.refl _ _

theorem execStrandLoadTimeout_answers (s) :
    Answers [.freeCtr, .out, .reg, .host, .ops, .led, .strands, .img] s (execStrandLoadTimeout s) := by
  unfold execStrandLoadTimeout
  refine Answers.next ?_
  split
  · rename_i x0 x1 h2
    split
    · rename_i x3 x4 h5
      refine Touches.ite ?_ ?_
      · exact Touches.mono rfl (State.rollRevert_touches _ _)
      · exact Touches.refl _ _
    · rename_i x6 h7
      exact Touches.refl _ _
  · rename_i x8 h9
    exact Touches.refl _ _

theorem execStrandSectionLoad_answers (strand s) :
    Answers [.freeCtr, .out, .reg, .host, .ops, .led, .strands, .img] s (execStrandSectionLoad strand s) := by
  unfold execStrandSectionLoad
  extract_lets +onlyGivenNames x0
  clear_value x0
  extract_lets +onlyGivenNames x1
  refine Answers.next (Touches.ite ?_ ?_)
  · refine Touches.after (State.noteStrandsReady_touches _) rfl ?_
    exact Touches.after (State.loadSection_touches _ _) rfl (Touches.put_img rfl (Touches.refl _ _))
  · exact Touches.refl _ _

/-! Machine/Nwl.lean -/

theorem State.comeUp_touches (s q) :
    Touches [.out, .reg, .host, .nwl, .stk] s (State.comeUp s q) := by
  unfold State.comeUp
  extract_lets +onlyGivenNames x0
  refine Touches.cut (x := x0) ?_ (fun h1 => ?_)
  · unfold x0
    exact Touches.mono rfl (State.enterPort_touches _ _ _)
  clear_value x0
  extract_lets +onlyGivenNames x2
  clear_value x2
  extract_lets +onlyGivenNames x3
  refine Touches.cut (x := x3) ?_ (fun h4 => ?_)
  · unfold x3
    refine Touches.ite ?_ ?_
    · exact Touches.after (State.queueRecordOn_touches _ _ _ _) rfl (Touches.put_stk rfl h1)
    · exact h1
  clear_value x3
  exact Touches.after (State.noteReach_touches _) rfl h4

theorem State.failBringup_touches (s q) :
    Touches [.nwl] s (State.failBringup s q) := by
  unfold State.failBringup
  extract_lets +onlyGivenNames x0
  refine Touches.cut (x := x0) ?_ (fun h1 => ?_)
  · unfold x0
    exact Touches.mono rfl (State.modNport_touches _ _ _)
  clear_value x0
  exact Touches.after (State.enterPort_touches _ _ _) rfl h1

theorem State.laneFailures_touches (s q failed) :
    Touches [.freeCtr, .out, .reg, .host, .ops, .led, .strands, .grants, .frames, .content, .vit, .gth, .srv, .img, .nwl] s (State.laneFailures s q failed) := by
  unfold State.laneFailures
  refine Touches.foldl ?_ (fun t1 x2 h0 => ?_)
  · exact Touches.refl _ _
  · extract_lets +onlyGivenNames x3
    clear_value x3
    refine Touches.ite ?_ ?_
    · exact Touches.after (State.retireUnit_touches _ _ _ _) rfl (Touches.after (State.modNport_touches _ _ _) rfl h0)
    · exact Touches.after (State.modNport_touches _ _ _) rfl h0

theorem State.portFault_touches (s q f) :
    Touches [.nwl] s (State.portFault s q f) := by
  unfold State.portFault
  exact Touches.mono rfl (State.modNport_touches _ _ _)

theorem State.nbrMismatch_touches (s q detail) :
    Touches [.freeCtr, .out, .reg, .host, .ops, .led, .nwl] s (State.nbrMismatch s q detail) := by
  unfold State.nbrMismatch
  extract_lets +onlyGivenNames x0
  refine Touches.cut (x := x0) ?_ (fun h1 => ?_)
  · unfold x0
    exact Touches.after (State.enterPort_touches _ _ _) rfl (Touches.mono rfl (State.portFault_touches _ _ _))
  clear_value x0
  extract_lets +onlyGivenNames x2
  clear_value x2
  split
  rename_i x3 x4 x5 h6
  refine Touches.cut (Touches.of_snd h6 ?_) (fun k7 => ?_)
  · exact Touches.after (State.ledgerRecord_touches _ _ _) rfl h1
  extract_lets +onlyGivenNames x8
  clear_value x8
  exact Touches.after (State.wedge_touches _ _ _) rfl (Touches.after (State.event_touches _ _ _ _) rfl k7)

theorem State.retrainPort_touches (s q) :
    Touches [.freeCtr, .out, .reg, .host, .ops, .led, .strands, .grants, .frames, .content, .vit, .gth, .srv, .img, .nwl, .stk, .fab] s (State.retrainPort s q) := by
  unfold State.retrainPort
  refine Touches.ite ?_ ?_
  · exact Touches.mono rfl (State.leaveUp_touches _ _ _)
  · exact Touches.refl _ _

theorem State.rttSample_touches (s q f) :
    Touches [.nwl] s (State.rttSample s q f) := by
  unfold State.rttSample
  extract_lets +onlyGivenNames x0
  clear_value x0
  exact Touches.mono rfl (State.modNport_touches _ _ _)

theorem execBadFlitRx_answers (port lost0 lost1 fixes s) :
    Answers [.freeCtr, .out, .reg, .host, .ops, .led, .strands, .grants, .frames, .content, .vit, .gth, .srv, .img, .nwl] s (execBadFlitRx port lost0 lost1 fixes s) := by
  unfold execBadFlitRx
  extract_lets +onlyGivenNames x0
  clear_value x0
  refine Answers.next (Touches.ite ?_ ?_)
  · extract_lets +onlyGivenNames x1
    refine Touches.cut (x := x1) ?_ (fun h2 => ?_)
    · unfold x1
      exact Touches.after (State.countBy_touches _ _ _) rfl (Touches.mono rfl (State.count_touches _ _))
    clear_value x1
    extract_lets +onlyGivenNames x3
    refine Touches.cut (x := x3) ?_ (fun h4 => ?_)
    · unfold x3
      exact Touches.after (State.modNport_touches _ _ _) rfl h2
    clear_value x3
    refine Touches.ite ?_ ?_
    · exact Touches.after (State.oweNak_touches _ _) rfl h4
    · exact h4
  · exact Touches.refl _ _

theorem execBringupStageDone_answers (port swap s) :
    Answers [.nwl] s (execBringupStageDone port swap s) := by
  unfold execBringupStageDone
  extract_lets +onlyGivenNames x0
  clear_value x0
  extract_lets +onlyGivenNames x1
  clear_value x1
  refine Answers.next (Touches.ite ?_ ?_)
  · split
    · rename_i x2 h3
      exact Touches.after (State.enterPort_touches _ _ _) rfl (Touches.mono rfl (State.modNport_touches _ _ _))
    · rename_i x4 h5
      exact Touches.after (State.enterPort_touches _ _ _) rfl (Touches.mono rfl (State.modNport_touches _ _ _))
    · rename_i x6 h7 h8
      exact Touches.refl _ _
  · exact Touches.refl _ _

theorem execBringupTimeout_answers (port fail0 fail1 s) :
    Answers [.freeCtr, .out, .reg, .host, .ops, .led, .strands, .grants, .frames, .content, .vit, .gth, .srv, .img, .nwl] s (execBringupTimeout port fail0 fail1 s) := by
  unfold execBringupTimeout
  extract_lets +onlyGivenNames x0
  clear_value x0
  extract_lets +onlyGivenNames x1
  clear_value x1
  extract_lets +onlyGivenNames x2
  clear_value x2
  refine Answers.next (Touches.ite ?_ ?_)
  · split
    · rename_i x3 h4
      refine Touches.ite ?_ ?_
      · refine Touches.after (State.failBringup_touches _ _) rfl (Touches.after (State.laneFailures_touches _ _ _) rfl ?_)
        exact Touches.after (State.transient_touches _ _ _) rfl (Touches.mono rfl (State.portFault_touches _ _ _))
      · exact Touches.refl _ _
    · rename_i x5 h6
      refine Touches.ite ?_ ?_
      · refine Touches.after (State.failBringup_touches _ _) rfl (Touches.after (State.laneFailures_touches _ _ _) rfl ?_)
        exact Touches.after (State.transient_touches _ _ _) rfl (Touches.mono rfl (State.portFault_touches _ _ _))
      · exact Touches.refl _ _
    · rename_i x7 h8
      extract_lets +onlyGivenNames x9
      clear_value x9
      refine Touches.ite ?_ ?_
      · exact Touches.after (State.failBringup_touches _ _) rfl (Touches.mono rfl (State.transient_touches _ _ _))
      · exact Touches.refl _ _
    · rename_i x10 h11 h12 h13
      exact Touches.refl _ _
  · exact Touches.refl _ _

theorem execDataFlitRx_answers (port head vc sop eop seq payload s) :
    Answers [.freeCtr, .out, .reg, .host, .ops, .led, .strands, .grants, .frames, .content, .vit, .gth, .srv, .img, .nwl, .stk, .fab] s (execDataFlitRx port head vc sop eop seq payload s) := by
  unfold execDataFlitRx
  extract_lets +onlyGivenNames x0
  clear_value x0
  refine Answers.next (Touches.ite ?_ ?_)
  · split
    rename_i x1 x2 x3 h4
    refine Touches.cut (Touches.of_fst h4 ?_) (fun k5 => ?_)
    · exact Touches.mono rfl (State.goodFlit_touches _ _ _)
    refine Touches.ite ?_ ?_
    · exact Touches.after (State.routeWaiting_touches _) rfl (Touches.after (State.dataFlit_touches _ _ _ _ _ _ _) rfl k5)
    · exact k5
  · exact Touches.refl _ _

theorem execFlitSlot_answers (port s) :
    Answers [.out, .reg, .nwl, .fab] s (execFlitSlot port s) := by
  unfold execFlitSlot
  extract_lets +onlyGivenNames x0
  clear_value x0
  extract_lets +onlyGivenNames x1
  clear_value x1
  extract_lets +onlyGivenNames x2
  clear_value x2
  refine Answers.next (Touches.ite ?_ ?_)
  · split
    · rename_i x3 h4
      refine Touches.after (State.transmit_touches _ _) rfl ?_
      exact Touches.after (State.pump_touches _) rfl (Touches.mono rfl (State.routeWaiting_touches _))
    · rename_i x5 h6
      exact Touches.mono rfl (State.sendFlit_touches _ _ _ _ _ _ _)
    · rename_i x7 h8
      exact Touches.mono rfl (State.sendFlit_touches _ _ _ _ _ _ _)
    · rename_i x9 h10 h11 h12
      exact Touches.refl _ _
  · exact Touches.refl _ _

theorem execIdleFlitRx_answers (port head s) :
    Answers [.reg, .nwl, .fab] s (execIdleFlitRx port head s) := by
  unfold execIdleFlitRx
  refine Answers.next (Touches.ite ?_ ?_)
  · exact Touches.after (State.routeWaiting_touches _) rfl (Touches.mono rfl (State.goodFlit_touches _ _ _))
  · exact Touches.refl _ _

theorem execNakFlitRx_answers (port head s) :
    Answers [.freeCtr, .out, .reg, .host, .ops, .led, .strands, .grants, .frames, .content, .vit, .gth, .srv, .img, .nwl, .stk, .fab] s (execNakFlitRx port head s) := by
  unfold execNakFlitRx
  extract_lets +onlyGivenNames x0
  clear_value x0
  refine Answers.next (Touches.ite ?_ ?_)
  · split
    rename_i x1 x2 x3 h4
    refine Touches.cut (Touches.of_fst h4 ?_) (fun k5 => ?_)
    · exact Touches.mono rfl (State.goodFlit_touches _ _ _)
    extract_lets +onlyGivenNames x6
    clear_value x6
    refine Touches.ite ?_ ?_
    · exact Touches.after (State.startReplay_touches _ _) rfl k5
    · exact k5
  · exact Touches.refl _ _

theorem execPortRetrain_answers (port s) :
    Answers [.freeCtr, .out, .reg, .host, .ops, .led, .strands, .grants, .frames, .content, .vit, .gth, .srv, .img, .nwl, .stk, .fab] s (execPortRetrain port s) := by
  unfold execPortRetrain
  refine Answers.next (Touches.ite ?_ ?_)
  · exact Touches.mono rfl (State.retrainPort_touches _ _)
  · exact Touches.refl _ _

theorem execPortRetryHold_answers (port s) :
    Answers [.nwl] s (execPortRetryHold port s) := by
  unfold execPortRetryHold
  extract_lets +onlyGivenNames x0
  clear_value x0
  extract_lets +onlyGivenNames x1
  clear_value x1
  refine Answers.next (Touches.ite ?_ ?_)
  · exact Touches.mono rfl (State.enterPort_touches _ _ _)
  · exact Touches.refl _ _

theorem execReplayTimeout_answers (port s) :
    Answers [.freeCtr, .out, .reg, .host, .ops, .led, .strands, .grants, .frames, .content, .vit, .gth, .srv, .img, .nwl, .stk, .fab] s (execReplayTimeout port s) := by
  unfold execReplayTimeout
  extract_lets +onlyGivenNames x0
  clear_value x0
  extract_lets +onlyGivenNames x1
  clear_value x1
  refine Answers.next (Touches.ite ?_ ?_)
  · exact Touches.mono rfl (State.startReplay_touches _ _)
  · exact Touches.refl _ _

theorem execTrainFlitRx_answers (port head f s) :
    Answers [.freeCtr, .out, .reg, .host, .ops, .led, .nwl, .stk] s (execTrainFlitRx port head f s) := by
  unfold execTrainFlitRx
  extract_lets +onlyGivenNames x0
  clear_value x0
  refine Answers.next (Touches.ite ?_ ?_)
  · split
    rename_i x1 x2 x3 h4
    refine Touches.cut (Touches.of_fst h4 ?_) (fun k5 => ?_)
    · exact Touches.mono rfl (State.goodFlit_touches _ _ _)
    refine Touches.ite ?_ ?_
    · extract_lets +onlyGivenNames x6
      refine Touches.cut (x := x6) ?_ (fun h7 => ?_)
      · unfold x6
        exact Touches.after (State.modNport_touches _ _ _) rfl k5
      clear_value x6
      extract_lets +onlyGivenNames x8
      refine Touches.cut (x := x8) ?_ (fun h9 => ?_)
      · unfold x8
        exact Touches.after (State.rttSample_touches _ _ _) rfl h7
      clear_value x8
      refine Touches.ite ?_ ?_
      · exact Touches.after (State.nbrMismatch_touches _ _ _) rfl h9
      · extract_lets +onlyGivenNames x10
        refine Touches.cut (x := x10) ?_ (fun h11 => ?_)
        · unfold x10
          exact Touches.after (State.modNport_touches _ _ _) rfl h9
        clear_value x10
        refine Touches.ite ?_ ?_
        · exact h11
        · refine Touches.ite ?_ ?_
          · exact Touches.after (State.enterPort_touches _ _ _) rfl (Touches.after (State.portFault_touches _ _ _) rfl h11)
          · refine Touches.ite ?_ ?_
            · exact Touches.after (State.comeUp_touches _ _) rfl h11
            · exact h11
    · exact k5
  · exact Touches.refl _ _

end Sys2Proof.Machine
end

