-- ==== Sys2Proof/Laws/TouchesBoot.lean ====
section
/-!
SUPPORT. What the operations of the vitrine, power, start-up, the fabric commands and the resets may change: one lemma each.
-/
namespace Sys2Proof.Machine

/-! Machine/Vitrine.lean -/

theorem State.parityFailed_touches (s k id b l shadow) :
    Touches [.freeCtr, .out, .reg, .host, .ops, .led, .strands, .grants, .frames, .content, .vit, .gth, .srv, .img] s (State.parityFailed s k id b l shadow) := by
  unfold State.parityFailed
  extract_lets +onlyGivenNames x0
  clear_value x0
  extract_lets +onlyGivenNames x1
  refine Touches.cut (x := x1) ?_ (fun h2 => ?_)
  · unfold x1
    exact Touches.after (State.transient_touches _ _ _) rfl (Touches.mono rfl (State.count_touches _ _))
  clear_value x1
  extract_lets +onlyGivenNames x3
  refine Touches.cut (x := x3) ?_ (fun h4 => ?_)
  · unfold x3
    split
    · rename_i x5
      exact Touches.after (State.modVbank_touches _ _ _) rfl h2
    · rename_i x6
      exact Touches.after (State.modVbank_touches _ _ _) rfl (Touches.after (State.hbmCe_touches _) rfl h2)
    · rename_i x7
      exact Touches.after (State.retireUnit_touches _ _ _ _) rfl (Touches.after (State.hbmUe_touches _ _) rfl h2)
  clear_value x3
  exact Touches.after (State.repeatSearch_touches _ _ _ _) rfl h4

theorem State.endSearch_touches (s f x b l attr pinned work parity) :
    Touches [.freeCtr, .out, .reg, .host, .ops, .led, .strands, .grants, .frames, .content, .vit, .gth, .srv, .img] s (State.endSearch s f x b l attr pinned work parity) := by
  unfold State.endSearch
  extract_lets +onlyGivenNames x0
  refine Touches.cut (x := x0) ?_ (fun h1 => ?_)
  · unfold x0
    exact Touches.put_grants rfl (Touches.refl _ _)
  clear_value x0
  extract_lets +onlyGivenNames x2
  refine Touches.cut (x := x2) ?_ (fun h3 => ?_)
  · unfold x2
    exact Touches.after (State.engineEnd_touches _ _ _) rfl h1
  clear_value x2
  refine Touches.ite ?_ ?_
  · exact Touches.after (State.repeatSearch_touches _ _ _ _) rfl h3
  · split
    · rename_i x4 x5
      refine Touches.ite ?_ ?_
      · exact Touches.after (State.parityFailed_touches _ _ _ _ _ _) rfl h3
      · exact Touches.after (State.searchResult_touches _ _ _ _ _ _ _) rfl h3
    · rename_i x6
      exact Touches.after (State.searchResult_touches _ _ _ _ _ _ _) rfl h3

theorem State.removeEntry_touches (s b t a) :
    Touches [.reg, .vit] s (State.removeEntry s b t a) := by
  unfold State.removeEntry
  extract_lets +onlyGivenNames x0
  refine Touches.cut (x := x0) ?_ (fun h1 => ?_)
  · unfold x0
    exact Touches.mono rfl (State.modVtable_touches _ _ _)
  clear_value x0
  extract_lets +onlyGivenNames x2
  clear_value x2
  refine Touches.ite ?_ ?_
  · exact Touches.after (State.count_touches _ _) rfl (Touches.after (State.applyPrim_touches _ _ _ _) rfl h1)
  · exact h1

theorem State.scrubUnit_touches (s b mismatch shadow) :
    Touches [.freeCtr, .out, .reg, .host, .ops, .led, .strands, .grants, .frames, .content, .vit, .gth, .srv, .img] s (State.scrubUnit s b mismatch shadow) := by
  unfold State.scrubUnit
  extract_lets +onlyGivenNames x0
  clear_value x0
  extract_lets +onlyGivenNames x1
  extract_lets +onlyGivenNames x2
  refine Touches.cut (x := x2) ?_ (fun h3 => ?_)
  · unfold x2
    exact Touches.mono rfl (State.modVbank_touches _ _ _)
  clear_value x2
  split
  · rename_i x4
    exact Touches.after (State.retireUnit_touches _ _ _ _) rfl (Touches.after (State.hbmUe_touches _ _) rfl h3)
  · rename_i x5 h6
    extract_lets +onlyGivenNames x7
    refine Touches.cut (x := x7) ?_ (fun h8 => ?_)
    · unfold x7
      refine Touches.ite ?_ ?_
      · exact Touches.after (State.hbmCe_touches _) rfl h3
      · exact h3
    clear_value x7
    refine Touches.ite ?_ ?_
    · extract_lets +onlyGivenNames x9
      refine Touches.cut (x := x9) ?_ (fun h10 => ?_)
      · unfold x9
        exact Touches.after (State.modVbank_touches _ _ _) rfl h8
      clear_value x9
      exact Touches.after (State.transient_touches _ _ _) rfl (Touches.after (State.count_touches _ _) rfl h10)
    · exact h8

theorem State.takeUpdateSlot_touches (s b) :
    Touches [.reg, .wheels, .vit, .pwr] s (State.takeUpdateSlot s b) := by
  unfold State.takeUpdateSlot
  extract_lets +onlyGivenNames x0
  clear_value x0
  extract_lets +onlyGivenNames x1
  clear_value x1
  extract_lets +onlyGivenNames x2
  refine Touches.cut (x := x2) ?_ (fun h3 => ?_)
  · unfold x2
    refine Touches.ite ?_ ?_
    · exact Touches.mono rfl (State.modVbank_touches _ _ _)
    · exact Touches.refl _ _
  clear_value x2
  extract_lets +onlyGivenNames x4
  refine Touches.cut (x := x4) ?_ (fun h5 => ?_)
  · unfold x4
    exact Touches.after (State.count_touches _ _) rfl (Touches.after (State.setWheel_touches _ _ _ _) rfl h3)
  clear_value x4
  extract_lets +onlyGivenNames x6
  refine Touches.cut (x := x6) ?_ (fun h7 => ?_)
  · unfold x6
    refine Touches.ite ?_ ?_
    · exact h5
    · exact Touches.after (State.count_touches _ _) rfl h5
  clear_value x6
  exact Touches.after (State.touchUnit_touches _ _ _) rfl h7

theorem execAgingRemoval_answers (table s) :
    Answers [.out, .reg, .host, .wheels, .vit, .pwr] s (execAgingRemoval table s) := by
  unfold execAgingRemoval
  split
  · rename_i x0 x1 x2 x3 h4 h5
    refine Answers.ite ?_ ?_
    · extract_lets +onlyGivenNames x6
      refine Answers.cut (x := x6) ?_ (fun h7 => ?_)
      · unfold x6
        exact Touches.after (State.modVbank_touches _ _ _) rfl (Touches.mono rfl (State.takeUpdateSlot_touches _ _))
      clear_value x6
      exact Answers.next (Touches.after (State.settleTable_touches _ _) rfl (Touches.after (State.removeEntry_touches _ _ _ _) rfl h7))
    · exact Answers.next (Touches.refl _ _)
  · rename_i x8 x9 h10
    exact Answers.next (Touches.refl _ _)

theorem execAgingSweep_answers (table s) :
    Answers [.reg, .vit] s (execAgingSweep table s) := by
  unfold execAgingSweep
  refine Answers.ite ?_ ?_
  · extract_lets +onlyGivenNames x0
    clear_value x0
    exact Answers.next (Touches.after (State.modVtable_touches _ _ _) rfl (Touches.mono rfl (State.sweepTable_touches _ _)))
  · exact Answers.next (Touches.refl _ _)

theorem execLearnCommit_answers (table s) :
    Answers [.out, .reg, .host, .wheels, .frames, .vit, .pwr] s (execLearnCommit table s) := by
  unfold execLearnCommit
  split
  · rename_i x0 x1 x2 x3 x4 x5 h6 h7
    refine Answers.ite ?_ ?_
    · extract_lets +onlyGivenNames x8
      refine Answers.cut (x := x8) ?_ (fun h9 => ?_)
      · unfold x8
        exact Touches.after (State.modVbank_touches _ _ _) rfl (Touches.mono rfl (State.takeUpdateSlot_touches _ _))
      clear_value x8
      refine Answers.next (Touches.after (State.settleTable_touches _ _) rfl ?_)
      exact Touches.after (State.modVtable_touches _ _ _) rfl (Touches.after (State.commitLearn_touches _ _ _ _ _ _) rfl h9)
    · exact Answers.next (Touches.refl _ _)
  · rename_i x10 x11 h12
    exact Answers.next (Touches.refl _ _)

theorem execScrubRead_answers (bank mismatch shadow s) :
    Answers [.freeCtr, .out, .reg, .host, .ops, .led, .strands, .grants, .frames, .content, .vit, .gth, .srv, .img] s (execScrubRead bank mismatch shadow s) := by
  unfold execScrubRead
  refine Answers.ite ?_ ?_
  · exact Answers.next (Touches.mono rfl (State.scrubUnit_touches _ _ _ _))
  · exact Answers.next (Touches.refl _ _)

theorem execVitrineSearchResult_answers (frame id work parity s) :
    Answers [.freeCtr, .out, .reg, .host, .ops, .led, .strands, .grants, .frames, .content, .vit, .gth, .srv, .img, .pwr] s (execVitrineSearchResult frame id work parity s) := by
  unfold execVitrineSearchResult
  split
  · rename_i x0 x1 x2 h3
    split
    · rename_i x4 x5 x6 x7 x8 x9 h10
      refine Answers.ite ?_ ?_
      · exact Answers.next (Touches.after (State.touchUnit_touches _ _ _) rfl (Touches.mono rfl (State.endSearch_touches _ _ _ _ _ _ _ _ _)))
      · exact Answers.next (Touches.refl _ _)
    · rename_i x11 h12
      exact Answers.next (Touches.refl _ _)
  · rename_i x13 h14
    exact Answers.next (Touches.refl _ _)

theorem execVitrineUpdateSlot_answers (bank s) :
    Answers [.out, .reg, .host, .wheels, .vit, .pwr] s (execVitrineUpdateSlot bank s) := by
  unfold execVitrineUpdateSlot
  refine Answers.ite ?_ ?_
  · exact Answers.next (Touches.after (State.updateSlot_touches _ _) rfl (Touches.mono rfl (State.takeUpdateSlot_touches _ _)))
  · exact Answers.next (Touches.refl _ _)

/-! Machine/PowerOps.lean -/

theorem State.driveVid_touches (s code) :
    Touches [.out, .reg] s (State.driveVid s code) := by
  unfold State.driveVid
  refine Touches.ite ?_ ?_
  · exact Touches.refl _ _
  · exact Touches.after (State.emit_touches _ _) rfl (Touches.mono rfl (State.set_touches _ _ _))

theorem State.ethLink_touches (s p up) :
    Touches [.reg, .tapQueue] s (State.ethLink s p up) := by
  unfold State.ethLink
  extract_lets +onlyGivenNames x0
  clear_value x0
  extract_lets +onlyGivenNames x1
  refine Touches.cut (x := x1) ?_ (fun h2 => ?_)
  · unfold x1
    exact Touches.mono rfl (State.set_touches _ _ _)
  clear_value x1
  refine Touches.ite ?_ ?_
  · exact Touches.put_tapQueue rfl h2
  · exact h2

theorem State.setLevels_touches (s thermal cap) :
    Touches [.out, .reg, .host, .pwr] s (State.setLevels s thermal cap) := by
  unfold State.setLevels
  extract_lets +onlyGivenNames x0
  clear_value x0
  extract_lets +onlyGivenNames x1
  clear_value x1
  extract_lets +onlyGivenNames x2
  refine Touches.cut (x := x2) ?_ (fun h3 => ?_)
  · unfold x2
    exact Touches.after (State.set_touches _ _ _) rfl (Touches.after (State.set_touches _ _ _) rfl (Touches.mono rfl (State.set_touches _ _ _)))
  clear_value x2
  refine Touches.ite ?_ ?_
  · exact h3
  · extract_lets +onlyGivenNames x4
    clear_value x4
    extract_lets +onlyGivenNames x5
    clear_value x5
    extract_lets +onlyGivenNames x6
    refine Touches.cut (x := x6) ?_ (fun h7 => ?_)
    · unfold x6
      exact Touches.put_pwr rfl h3
    clear_value x6
    extract_lets +onlyGivenNames x8
    refine Touches.cut (x := x8) ?_ (fun h9 => ?_)
    · unfold x8
      refine Touches.ite ?_ ?_
      · exact Touches.after (State.driveVid_touches _ _) rfl h7
      · exact h7
    clear_value x8
    refine Touches.ite ?_ ?_
    · exact Touches.after (State.event_touches _ _ _ _) rfl h9
    · refine Touches.ite ?_ ?_
      · exact Touches.after (State.event_touches _ _ _ _) rfl h9
      · exact h9

theorem State.setThermal_touches (s t) :
    Touches [.out, .reg, .host, .pwr] s (State.setThermal s t) := by
  unfold State.setThermal
  exact Touches.mono rfl (State.setLevels_touches _ _ _)

theorem State.stepThermal_touches (s t) :
    Touches [.out, .reg, .host, .pwr] s (State.stepThermal s t) := by
  unfold State.stepThermal
  exact Touches.after (State.setThermal_touches _ _) rfl (Touches.put_pwr rfl (Touches.refl _ _))

theorem State.holdThermal_touches (s) :
    Touches [.out, .reg, .host, .pwr] s (State.holdThermal s) := by
  unfold State.holdThermal
  refine Touches.ite ?_ ?_
  · exact Touches.mono rfl (State.stepThermal_touches _ _)
  · exact Touches.refl _ _

theorem State.platformEvent_touches (s code arg) :
    Touches [.out] s (State.platformEvent s code arg) := by
  unfold State.platformEvent
  refine Touches.ite ?_ ?_
  · exact Touches.mono rfl (State.emit_touches _ _)
  · exact Touches.refl _ _

theorem State.judgeThrottle_touches (s old v) :
    Touches [.out, .reg, .host, .pwr] s (State.judgeThrottle s old v) := by
  unfold State.judgeThrottle
  extract_lets +onlyGivenNames x0
  refine Touches.cut (x := x0) ?_ (fun h1 => ?_)
  · unfold x0
    refine Touches.ite ?_ ?_
    · exact Touches.after (State.platformEvent_touches _ _ _) rfl (Touches.mono rfl (State.set_touches _ _ _))
    · refine Touches.ite ?_ ?_
      · exact Touches.mono rfl (State.set_touches _ _ _)
      · exact Touches.refl _ _
  clear_value x0
  extract_lets +onlyGivenNames x2
  clear_value x2
  extract_lets +onlyGivenNames x3
  refine Touches.cut (x := x3) ?_ (fun h4 => ?_)
  · unfold x3
    refine Touches.ite ?_ ?_
    · exact Touches.put_pwr rfl h1
    · exact h1
  clear_value x3
  refine Touches.ite ?_ ?_
  · refine Touches.ite ?_ ?_
    · exact h4
    · exact Touches.after (State.stepThermal_touches _ _) rfl h4
  · exact h4

theorem State.judgeWarn_touches (s sensor v) :
    Touches [.out, .reg, .host] s (State.judgeWarn s sensor v) := by
  unfold State.judgeWarn
  refine Touches.ite ?_ ?_
  · refine Touches.ite ?_ ?_
    · exact Touches.refl _ _
    · extract_lets +onlyGivenNames x0
      refine Touches.cut (x := x0) ?_ (fun h1 => ?_)
      · unfold x0
        refine Touches.after (State.event_touches _ _ _ _) rfl ?_
        exact Touches.after (State.count_touches _ _) rfl (Touches.mono rfl (State.set_touches _ _ _))
      clear_value x0
      exact Touches.after (State.platformEvent_touches _ _ _) rfl h1
  · refine Touches.ite ?_ ?_
    · exact Touches.mono rfl (State.set_touches _ _ _)
    · exact Touches.refl _ _

theorem State.junkRun_touches (s b off n) :
    Touches [.freeCtr, .cells, .ops] s (State.junkRun s b off n) := by
  unfold State.junkRun
  split
  rename_i x0 x1 x2 h3
  refine Touches.cut (Touches.of_snd h3 ?_) (fun k4 => ?_)
  · exact Touches.mono rfl (State.freeBytes_touches _ _)
  refine Touches.after (State.modBank_touches _ _ _ (fun k hk => ?_)) rfl ?_
  · first | exact hk | exact wf_programCells _ _ hk | exact wf_eraseCells _ _ hk | exact wf_writeCells _ _ (wf_eraseCells _ _ hk)
  · exact k4

theorem State.stopErase_touches (s b) :
    Touches [.freeCtr, .cells, .ops] s (State.stopErase s b) := by
  unfold State.stopErase
  split
  · rename_i x0 x1 x2 h3
    exact Touches.mono rfl (State.junkRun_touches _ _ _ _)
  · rename_i x4 h5
    exact Touches.refl _ _

theorem State.stopErases_touches (s) :
    Touches [.freeCtr, .cells, .ops] s (State.stopErases s) := by
  unfold State.stopErases
  exact Touches.after (State.stopErase_touches _ _) rfl (Touches.mono rfl (State.stopErase_touches _ _))

theorem State.stopPath_touches (s) :
    Touches [.stopped] s (State.stopPath s) := by
  unfold State.stopPath
  exact Touches.put_stopped rfl (Touches.refl _ _)

theorem State.trip_touches (s cause) :
    Touches [.freeCtr, .out, .reg, .host, .cells, .ops, .stopped, .pwr] s (State.trip s cause) := by
  unfold State.trip
  refine Touches.ite ?_ ?_
  · exact Touches.refl _ _
  · extract_lets +onlyGivenNames x0
    refine Touches.cut (x := x0) ?_ (fun h1 => ?_)
    · unfold x0
      exact Touches.after (State.stopErases_touches _) rfl (Touches.mono rfl (State.stopPath_touches _))
    clear_value x0
    extract_lets +onlyGivenNames x2
    clear_value x2
    extract_lets +onlyGivenNames x3
    refine Touches.cut (x := x3) ?_ (fun h4 => ?_)
    · unfold x3
      exact Touches.put_pwr rfl h1
    clear_value x3
    exact Touches.after (State.emit_touches _ _) rfl (Touches.after (State.wedge_touches _ _ _) rfl h4)

theorem State.judgeJunction_touches (s) :
    Touches [.freeCtr, .out, .reg, .host, .cells, .ops, .stopped, .pwr] s (State.judgeJunction s) := by
  unfold State.judgeJunction
  split
  · rename_i x0 h1
    exact Touches.refl _ _
  · rename_i x2 x3 h4
    extract_lets +onlyGivenNames x5
    clear_value x5
    extract_lets +onlyGivenNames x6
    clear_value x6
    extract_lets +onlyGivenNames x7
    refine Touches.cut (x := x7) ?_ (fun h8 => ?_)
    · unfold x7
      exact Touches.mono rfl (State.set_touches _ _ _)
    clear_value x7
    extract_lets +onlyGivenNames x9
    refine Touches.cut (x := x9) ?_ (fun h10 => ?_)
    · unfold x9
      exact Touches.after (State.judgeThrottle_touches _ _ _) rfl (Touches.after (State.judgeWarn_touches _ _ _) rfl h8)
    clear_value x9
    refine Touches.ite ?_ ?_
    · refine Touches.after (State.trip_touches _ _) rfl (Touches.ite ?_ ?_)
      · exact h10
      · exact Touches.after (State.platformEvent_touches _ _ _) rfl h10
    · exact h10

theorem State.judgeVdd_touches (s k) :
    Touches [.pwr] s (State.judgeVdd s k) := by
  unfold State.judgeVdd
  refine Touches.ite ?_ ?_
  · refine Touches.ite ?_ ?_
    · refine Touches.ite ?_ ?_
      · exact Touches.refl _ _
      · exact Touches.put_pwr rfl (Touches.refl _ _)
    · extract_lets +onlyGivenNames x0
      clear_value x0
      extract_lets +onlyGivenNames x1
      clear_value x1
      extract_lets +onlyGivenNames x2
      refine Touches.cut (x := x2) ?_ (fun h3 => ?_)
      · unfold x2
        exact Touches.put_pwr rfl (Touches.refl _ _)
      clear_value x2
      refine Touches.ite ?_ ?_
      · exact Touches.put_pwr rfl h3
      · exact h3
  · exact Touches.refl _ _

theorem State.laneDead_touches (s l code count) :
    Touches [.freeCtr, .out, .reg, .host, .ops, .led, .strands, .grants, .frames, .tapQueue, .content, .vit, .gth, .srv, .img, .nwl, .stk, .fab] s (State.laneDead s l code count) := by
  unfold State.laneDead
  extract_lets +onlyGivenNames x0
  refine Touches.cut (x := x0) ?_ (fun h1 => ?_)
  · unfold x0
    exact Touches.mono rfl (State.retireUnit_touches _ _ _ _)
  clear_value x0
  split
  · rename_i x2 x3 h4
    exact Touches.after (State.ethLink_touches _ _ _) rfl h1
  · rename_i x5 x6 h7
    refine Touches.ite ?_ ?_
    · exact Touches.after (State.leaveUp_touches _ _ _) rfl h1
    · refine Touches.ite ?_ ?_
      · exact Touches.after (State.enterPort_touches _ _ _) rfl h1
      · exact h1
  · rename_i x8 h9
    exact Touches.after (State.set_touches _ _ _) rfl h1

theorem State.readSensor_touches (s i raw) :
    Touches [.reg] s (State.readSensor s i raw) := by
  unfold State.readSensor
  refine Touches.ite ?_ ?_
  · exact Touches.refl _ _
  · exact Touches.mono rfl (State.set_touches _ _ _)

/-! Machine/Boot.lean -/

theorem State.applyManifest_touches (s b) :
    Touches [.freeCtr, .out, .reg, .host, .fab] s (State.applyManifest s b) := by
  unfold State.applyManifest
  extract_lets +onlyGivenNames x0
  clear_value x0
  extract_lets +onlyGivenNames x1
  clear_value x1
  extract_lets +onlyGivenNames x2
  clear_value x2
  extract_lets +onlyGivenNames x3
  refine Touches.cut (x := x3) ?_ (fun h4 => ?_)
  · unfold x3
    exact Touches.mono rfl (State.set_touches _ _ _)
  clear_value x3
  refine Touches.ite ?_ ?_
  · extract_lets +onlyGivenNames x5
    clear_value x5
    extract_lets +onlyGivenNames x6
    refine Touches.cut (x := x6) ?_ (fun h7 => ?_)
    · unfold x6
      exact Touches.put_fab rfl h4
    clear_value x6
    extract_lets +onlyGivenNames x8
    refine Touches.cut (x := x8) ?_ (fun h9 => ?_)
    · unfold x8
      exact Touches.after (State.set_touches _ _ _) rfl (Touches.after (State.set_touches _ _ _) rfl (Touches.after (State.set_touches _ _ _) rfl h7))
    clear_value x8
    extract_lets +onlyGivenNames x10
    refine Touches.cut (x := x10) ?_ (fun h11 => ?_)
    · unfold x10
      exact Touches.after (State.set_touches _ _ _) rfl h9
    clear_value x10
    extract_lets +onlyGivenNames x12
    clear_value x12
    extract_lets +onlyGivenNames x13
    refine Touches.cut (x := x13) ?_ (fun h14 => ?_)
    · unfold x13
      exact Touches.after (State.set_touches _ _ _) rfl (Touches.after (State.set_touches _ _ _) rfl h11)
    clear_value x13
    exact Touches.after (State.checkPeers_touches _) rfl (Touches.after (State.set_touches _ _ _) rfl h14)
  · split
    rename_i x15 x16 x17 h18
    refine Touches.cut (Touches.of_snd h18 ?_) (fun k19 => ?_)
    · exact Touches.after (State.free_touches _ _) rfl h4
    extract_lets +onlyGivenNames x20
    refine Touches.cut (x := x20) ?_ (fun h21 => ?_)
    · unfold x20
      exact Touches.after (State.set_touches _ _ _) rfl (Touches.after (State.set_touches _ _ _) rfl k19)
    clear_value x20
    refine Touches.after (State.checkPeers_touches _) rfl ?_
    exact Touches.after (State.wedge_touches _ _ _) rfl (Touches.after (State.event_touches _ _ _ _) rfl h21)

theorem State.bistResult_touches (s failed) :
    Touches [.freeCtr, .out, .reg, .host, .ops, .led, .strands, .grants, .frames, .content, .vit, .gth, .srv, .img] s (State.bistResult s failed) := by
  unfold State.bistResult
  extract_lets +onlyGivenNames x0
  clear_value x0
  extract_lets +onlyGivenNames x1
  clear_value x1
  extract_lets +onlyGivenNames x2
  refine Touches.cut (x := x2) ?_ (fun h3 => ?_)
  · unfold x2
    refine Touches.foldl ?_ (fun t5 x6 h4 => ?_)
    · exact Touches.refl _ _
    · exact Touches.after (State.set_touches _ _ _) rfl h4
  clear_value x2
  extract_lets +onlyGivenNames x7
  refine Touches.cut (x := x7) ?_ (fun h8 => ?_)
  · unfold x7
    exact Touches.after (State.set_touches _ _ _) rfl (Touches.after (State.set_touches _ _ _) rfl h3)
  clear_value x7
  refine Touches.foldl ?_ (fun t10 x11 h9 => ?_)
  · exact h8
  · exact Touches.after (State.retireUnit_touches _ _ _ _) rfl h9

theorem State.bootPhase_touches (s b phase) :
    Touches [.reg, .img] s (State.bootPhase s b phase) := by
  unfold State.bootPhase
  exact Touches.after (State.set_touches _ _ _) rfl (Touches.put_img rfl (Touches.refl _ _))

theorem State.bootFail_touches (s cause) :
    Touches [.reg, .img] s (State.bootFail s cause) := by
  unfold State.bootFail
  refine Touches.after (State.imgFault_touches _ _) rfl ?_
  exact Touches.after (State.set_touches _ _ _) rfl (Touches.mono rfl (State.bootPhase_touches _ _ _))

theorem State.cold_touches (s regs img) (hr : regFileWf s.reg = true → regFileWf regs = true) :
    Touches Part.every s (State.cold s regs img) := by
  refine ⟨rfl, fun p => ?_⟩
  cases p
  case reg => exact .inl ⟨by decide, hr⟩
  case strands => exact .inl ⟨by decide, fun _ => rfl⟩
  all_goals first | exact .inr rfl | exact .inl ⟨by decide, trivial⟩

theorem State.commandsReady_touches (s) :
    Touches [.reg, .strands, .img, .fab] s (State.commandsReady s) := by
  unfold State.commandsReady
  extract_lets +onlyGivenNames x0
  refine Touches.cut (x := x0) ?_ (fun h1 => ?_)
  · unfold x0
    exact Touches.after (State.bootPhase_touches _ _ _) rfl (Touches.mono rfl (State.set_touches _ _ _))
  clear_value x0
  extract_lets +onlyGivenNames x2
  refine Touches.cut (x := x2) ?_ (fun h3 => ?_)
  · unfold x2
    exact Touches.after (State.set_touches _ _ _) rfl h1
  clear_value x2
  extract_lets +onlyGivenNames x4
  clear_value x4
  extract_lets +onlyGivenNames x5
  clear_value x5
  extract_lets +onlyGivenNames x6
  refine Touches.cut (x := x6) ?_ (fun h7 => ?_)
  · unfold x6
    exact Touches.put_img_fab rfl h3
  clear_value x6
  extract_lets +onlyGivenNames x8
  clear_value x8
  extract_lets +onlyGivenNames x9
  refine Touches.cut (x := x9) ?_ (fun h10 => ?_)
  · unfold x9
    refine Touches.foldl ?_ (fun t12 x13 h11 => ?_)
    · exact h7
    · refine Touches.ite ?_ ?_
      · exact Touches.after (State.strandLoad_touches _ _ _) rfl h11
      · exact h11
  clear_value x9
  exact Touches.after (State.noteStrandsReady_touches _) rfl h10

theorem State.cutProgram_touches (s b) :
    Touches [.freeCtr, .cells, .ops] s (State.cutProgram s b) := by
  unfold State.cutProgram
  generalize 256 = n
  extract_lets +onlyGivenNames x0
  have fx0 : ∀ a0 a1, Touches [.freeCtr, .cells, .ops] a0 (x0 a0 a1) := ?_
  · clear_value x0
    split
    · rename_i x6 x7 h8
      refine Touches.trans ?_ (fx0 _ _)
      exact Touches.refl _ _
    · rename_i x9 x10 x11 h12
      refine Touches.trans ?_ (fx0 _ _)
      exact Touches.refl _ _
    · rename_i x13 x14 x15 h16
      refine Touches.trans ?_ (fx0 _ _)
      exact Touches.refl _ _
    · rename_i x17 h18 h19 h20
      exact Touches.refl _ _
  · intro a0 a1
    unfold x0
    split
    rename_i x1 x2 x3 h4
    refine Touches.cut (Touches.of_snd h4 ?_) (fun k5 => ?_)
    · exact Touches.mono rfl (State.freeBytes_touches _ _)
    refine Touches.after (State.modBank_touches _ _ _ (fun k hk => ?_)) rfl ?_
    · first | exact hk | exact wf_programCells _ _ hk | exact wf_eraseCells _ _ hk | exact wf_writeCells _ _ (wf_eraseCells _ _ hk)
    · exact k5

theorem State.finishProgram_touches (s b) :
    Touches [.freeCtr, .out, .reg, .host, .cells, .ops, .led] s (State.finishProgram s b) := by
  unfold State.finishProgram
  split
  · rename_i x0 x1 h2
    exact Touches.mono rfl (State.ledgerPageDone_touches _ _ _ _)
  · rename_i x3 x4 x5 h6
    refine Touches.after (State.modBank_touches _ _ _ (fun k hk => ?_)) rfl ?_
    · first | exact hk | exact wf_programCells _ _ hk | exact wf_eraseCells _ _ hk | exact wf_writeCells _ _ (wf_eraseCells _ _ hk)
    · exact Touches.refl _ _
  · rename_i x7 x8 x9 h10
    refine Touches.after (State.modBank_touches _ _ _ (fun k hk => ?_)) rfl ?_
    · first | exact hk | exact wf_programCells _ _ hk | exact wf_eraseCells _ _ hk | exact wf_writeCells _ _ (wf_eraseCells _ _ hk)
    · exact Touches.refl _ _
  · rename_i x11 h12 h13 h14
    exact Touches.refl _ _

theorem State.keepLock_touches (s) :
    Touches [.reg] s (State.keepLock s) := by
  unfold State.keepLock
  exact Touches.after (State.set_touches _ _ _) rfl (Touches.mono rfl (State.set_touches _ _ _))

theorem State.setBankState_touches (s b x) :
    Touches [.reg] s (State.setBankState s b x) := by
  unfold State.setBankState
  exact Touches.mono rfl (State.set_touches _ _ _)

theorem State.noteHeader_touches (s b) :
    Touches [.reg] s (State.noteHeader s b) := by
  unfold State.noteHeader
  extract_lets +onlyGivenNames x0
  refine Touches.cut (x := x0) ?_ (fun h1 => ?_)
  · unfold x0
    exact Touches.mono rfl (State.set_touches _ _ _)
  clear_value x0
  extract_lets +onlyGivenNames x2
  clear_value x2
  exact Touches.after (State.setBankState_touches _ _ _) rfl (Touches.after (State.set_touches _ _ _) rfl h1)

theorem State.openPorts_touches (s) :
    Touches [.nwl] s (State.openPorts s) := by
  unfold State.openPorts
  refine Touches.foldl ?_ (fun t1 x2 h0 => ?_)
  · exact Touches.refl _ _
  · refine Touches.ite ?_ ?_
    · exact Touches.after (State.enterPort_touches _ _ _) rfl h0
    · exact Touches.after (State.enterPort_touches _ _ _) rfl h0

theorem State.regionSizes_touches (s) :
    Touches [.reg] s (State.regionSizes s) := by
  unfold State.regionSizes
  extract_lets +onlyGivenNames x0
  clear_value x0
  extract_lets +onlyGivenNames x1
  refine Touches.cut (x := x1) ?_ (fun h2 => ?_)
  · unfold x1
    exact Touches.after (State.set_touches _ _ _) rfl (Touches.mono rfl (State.set_touches _ _ _))
  clear_value x1
  exact Touches.after (State.set_touches _ _ _) rfl (Touches.after (State.set_touches _ _ _) rfl h2)

theorem State.startFrom_touches (s b) :
    Touches [.freeCtr, .out, .reg, .host, .ops, .led, .acc, .strands, .img, .nwl, .fab] s (State.startFrom s b) := by
  unfold State.startFrom
  extract_lets +onlyGivenNames x0
  refine Touches.cut (x := x0) ?_ (fun h1 => ?_)
  · unfold x0
    refine Touches.after (State.set_touches _ _ _) rfl ?_
    exact Touches.after (State.setBankState_touches _ _ _) rfl (Touches.mono rfl (State.regionSizes_touches _))
  clear_value x0
  extract_lets +onlyGivenNames x2
  refine Touches.cut (x := x2) ?_ (fun h3 => ?_)
  · unfold x2
    exact Touches.after (State.set_touches _ _ _) rfl (Touches.after (State.set_touches _ _ _) rfl h1)
  clear_value x2
  extract_lets +onlyGivenNames x4
  refine Touches.cut (x := x4) ?_ (fun h5 => ?_)
  · unfold x4
    exact Touches.after (State.set_touches _ _ _) rfl h3
  clear_value x4
  extract_lets +onlyGivenNames x6
  clear_value x6
  extract_lets +onlyGivenNames x7
  refine Touches.cut (x := x7) ?_ (fun h8 => ?_)
  · unfold x7
    exact Touches.put_strands rfl (fun hw => by simpa using hw) h5
  clear_value x7
  extract_lets +onlyGivenNames x9
  refine Touches.cut (x := x9) ?_ (fun h10 => ?_)
  · unfold x9
    exact Touches.after (State.set_touches _ _ _) rfl h8
  clear_value x9
  extract_lets +onlyGivenNames x11
  clear_value x11
  extract_lets +onlyGivenNames x12
  clear_value x12
  extract_lets +onlyGivenNames x13
  refine Touches.cut (x := x13) ?_ (fun h14 => ?_)
  · unfold x13
    exact Touches.put_acc rfl h10
  clear_value x13
  extract_lets +onlyGivenNames x15
  refine Touches.cut (x := x15) ?_ (fun h16 => ?_)
  · unfold x15
    refine Touches.ite ?_ ?_
    · exact Touches.after (State.ledgerRecord_touches _ _ _) rfl h14
    · exact h14
  clear_value x15
  refine Touches.after (State.bootPhase_touches _ _ _) rfl ?_
  exact Touches.after (State.openPorts_touches _) rfl (Touches.after (State.applyManifest_touches _ _) rfl h16)

theorem State.startRetired_touches (s) :
    Touches [.strands] s (State.startRetired s) := by
  unfold State.startRetired
  refine Touches.foldl ?_ (fun t1 x2 h0 => ?_)
  · exact Touches.refl _ _
  · refine Touches.ite ?_ ?_
    · exact Touches.after (State.modStrand_touches _ _ _) rfl h0
    · exact h0

theorem State.tryOther_touches (s fault) :
    Touches [.reg, .img] s (State.tryOther s fault) := by
  unfold State.tryOther
  extract_lets +onlyGivenNames x0
  refine Touches.cut (x := x0) ?_ (fun h1 => ?_)
  · unfold x0
    exact Touches.after (State.imgFault_touches _ _) rfl (Touches.mono rfl (State.setBankState_touches _ _ _))
  clear_value x0
  refine Touches.ite ?_ ?_
  · exact Touches.after (State.bootFail_touches _ _) rfl h1
  · exact Touches.after (State.bootPhase_touches _ _ _) rfl (Touches.put_img rfl h1)

theorem execConfigSpaceReady_answers (s) :
    Answers [.host] s (execConfigSpaceReady s) := by
  unfold execConfigSpaceReady
  refine Answers.next (Touches.ite ?_ ?_)
  · exact Touches.put_host rfl (Touches.refl _ _)
  · exact Touches.refl _ _

theorem execDdrTrainingDone_answers (populated failed identical rate size16 s) :
    Answers [.freeCtr, .out, .reg, .host, .ops, .led, .strands, .grants, .frames, .content, .vit, .gth, .srv, .img] s (execDdrTrainingDone populated failed identical rate size16 s) := by
  unfold execDdrTrainingDone
  refine Answers.next (Touches.ite ?_ ?_)
  · extract_lets +onlyGivenNames x0
    clear_value x0
    extract_lets +onlyGivenNames x1
    refine Touches.cut (x := x1) ?_ (fun h2 => ?_)
    · unfold x1
      refine Touches.foldl ?_ (fun t4 x5 h3 => ?_)
      · exact Touches.refl _ _
      · exact Touches.after (State.retireUnit_touches _ _ _ _) rfl h3
    clear_value x1
    extract_lets +onlyGivenNames x6
    clear_value x6
    extract_lets +onlyGivenNames x7
    clear_value x7
    extract_lets +onlyGivenNames x8
    clear_value x8
    extract_lets +onlyGivenNames x9
    refine Touches.cut (x := x9) ?_ (fun h10 => ?_)
    · unfold x9
      exact Touches.put_img rfl h2
    clear_value x9
    refine Touches.ite ?_ ?_
    · refine Touches.foldl ?_ (fun t12 x13 h11 => ?_)
      · exact h10
      · exact Touches.after (State.set_touches _ _ _) rfl h11
    · exact Touches.after (State.set_touches _ _ _) rfl h10
  · exact Touches.refl _ _

theorem execGlobalApply_answers (failed curatorBad s) :
    Answers [.freeCtr, .out, .reg, .host, .ops, .led, .acc, .strands, .grants, .frames, .content, .vit, .gth, .srv, .img, .nwl, .fab] s (execGlobalApply failed curatorBad s) := by
  unfold execGlobalApply
  refine Answers.next (Touches.ite ?_ ?_)
  · extract_lets +onlyGivenNames x0
    clear_value x0
    split
    · rename_i x1 h2
      exact Touches.mono rfl (State.tryOther_touches _ _)
    · rename_i x3 x4 h5
      refine Touches.cut (Touches.of_some h5 ?_) (fun k6 => ?_)
      · exact fun y e => Touches.after (State.globalCheck_touches _ _ y e) rfl (Touches.refl _ _)
      extract_lets +onlyGivenNames x7
      refine Touches.cut (x := x7) ?_ (fun h8 => ?_)
      · unfold x7
        refine Touches.ite ?_ ?_
        · exact Touches.after (State.bistResult_touches _ _) rfl k6
        · exact k6
      clear_value x7
      refine Touches.ite ?_ ?_
      · exact Touches.after (State.bootFail_touches _ _) rfl h8
      · refine Touches.ite ?_ ?_
        · exact Touches.after (State.bootFail_touches _ _) rfl h8
        · exact Touches.after (State.startFrom_touches _ _) rfl h8
  · exact Touches.refl _ _

theorem execImageHeadersRead_answers (s) :
    Answers [.freeCtr, .reg, .led, .strands, .img] s (execImageHeadersRead s) := by
  unfold execImageHeadersRead
  refine Answers.next (Touches.ite ?_ ?_)
  · extract_lets +onlyGivenNames x0
    refine Touches.cut (x := x0) ?_ (fun h1 => ?_)
    · unfold x0
      exact Touches.after (State.startRetired_touches _) rfl (Touches.mono rfl (State.ledgerScan_touches _))
    clear_value x0
    extract_lets +onlyGivenNames x2
    refine Touches.cut (x := x2) ?_ (fun h3 => ?_)
    · unfold x2
      exact Touches.after (State.noteHeader_touches _ _) rfl (Touches.after (State.noteHeader_touches _ _) rfl h1)
    clear_value x2
    extract_lets +onlyGivenNames x4
    clear_value x4
    extract_lets +onlyGivenNames x5
    refine Touches.cut (x := x5) ?_ (fun h6 => ?_)
    · unfold x5
      exact Touches.after (State.set_touches _ _ _) rfl (Touches.after (State.set_touches _ _ _) rfl h3)
    clear_value x5
    exact Touches.after (State.bootPhase_touches _ _ _) rfl (Touches.put_img rfl h6)
  · exact Touches.refl _ _

theorem execImageStreamDone_answers (s) :
    Answers [.reg, .img] s (execImageStreamDone s) := by
  unfold execImageStreamDone
  refine Answers.next (Touches.ite ?_ ?_)
  · extract_lets +onlyGivenNames x0
    clear_value x0
    refine Touches.ite ?_ ?_
    · exact Touches.after (State.bootPhase_touches _ _ _) rfl (Touches.put_img rfl (Touches.refl _ _))
    · exact Touches.mono rfl (State.tryOther_touches _ _)
  · exact Touches.refl _ _

theorem execOtpSensed_answers (otp s) :
    Answers [.reg, .img] s (execOtpSensed otp s) := by
  unfold execOtpSensed
  refine Answers.next (Touches.ite ?_ ?_)
  · extract_lets +onlyGivenNames x0
    clear_value x0
    extract_lets +onlyGivenNames x1
    refine Touches.cut (x := x1) ?_ (fun h2 => ?_)
    · unfold x1
      exact Touches.put_img rfl (Touches.refl _ _)
    clear_value x1
    extract_lets +onlyGivenNames x3
    refine Touches.cut (x := x3) ?_ (fun h4 => ?_)
    · unfold x3
      refine Touches.foldl ?_ (fun t6 x7 h5 => ?_)
      · exact h2
      · exact Touches.after (State.set_touches _ _ _) rfl h5
    clear_value x3
    extract_lets +onlyGivenNames x8
    refine Touches.cut (x := x8) ?_ (fun h9 => ?_)
    · unfold x8
      exact Touches.after (State.set_touches _ _ _) rfl (Touches.after (State.set_touches _ _ _) rfl h4)
    clear_value x8
    extract_lets +onlyGivenNames x10
    refine Touches.cut (x := x10) ?_ (fun h11 => ?_)
    · unfold x10
      refine Touches.foldl ?_ (fun t13 x14 h12 => ?_)
      · exact h9
      · exact Touches.after (State.setWord_touches _ _ _) rfl h12
    clear_value x10
    exact Touches.after (State.bootPhase_touches _ _ _) rfl (Touches.after (State.set_touches _ _ _) rfl h11)
  · exact Touches.refl _ _

theorem execPcieLinkUp_answers (rate width flit s) :
    Answers [.reg] s (execPcieLinkUp rate width flit s) := by
  unfold execPcieLinkUp
  refine Answers.next (Touches.ite ?_ ?_)
  · extract_lets +onlyGivenNames x0
    refine Touches.cut (x := x0) ?_ (fun h1 => ?_)
    · unfold x0
      exact Touches.after (State.set_touches _ _ _) rfl (Touches.mono rfl (State.set_touches _ _ _))
    clear_value x0
    extract_lets +onlyGivenNames x2
    refine Touches.cut (x := x2) ?_ (fun h3 => ?_)
    · unfold x2
      exact Touches.after (State.set_touches _ _ _) rfl (Touches.after (State.set_touches _ _ _) rfl h1)
    clear_value x2
    exact Touches.after (State.set_touches _ _ _) rfl h3
  · exact Touches.refl _ _

theorem execPciePerstDeassert_answers (s) :
    Answers [.img] s (execPciePerstDeassert s) := by
  unfold execPciePerstDeassert
  refine Answers.next (Touches.ite ?_ ?_)
  · exact Touches.refl _ _
  · exact Touches.put_img rfl (Touches.refl _ _)

theorem execPwrOkFall_answers (s) :
    Answers Part.every s (execPwrOkFall s) := by
  unfold execPwrOkFall
  refine Answers.next (Touches.ite ?_ ?_)
  · extract_lets +onlyGivenNames x0
    refine Touches.cut (x := x0) ?_ (fun h1 => ?_)
    · unfold x0
      refine Touches.after (State.stopErases_touches _) rfl ?_
      exact Touches.after (State.finishProgram_touches _ _) rfl (Touches.mono rfl (State.finishProgram_touches _ _))
    clear_value x0
    extract_lets +onlyGivenNames x2
    clear_value x2
    extract_lets +onlyGivenNames x3
    clear_value x3
    extract_lets +onlyGivenNames x4
    refine Touches.cut (x := x4) ?_ (fun h5 => ?_)
    · unfold x4
      refine Touches.after (State.keepLock_touches _) rfl ?_
      exact Touches.after (State.cold_touches _ _ _ (by first | exact fun _ => rfl | exact fun h => Tab.canon_filter _ _ _ h)) rfl h1
    clear_value x4
    extract_lets +onlyGivenNames x6
    refine Touches.cut (x := x6) ?_ (fun h7 => ?_)
    · unfold x6
      refine Touches.ite ?_ ?_
      · exact Touches.after (State.emit_touches _ _) rfl h5
      · exact h5
    clear_value x6
    exact Touches.after (State.driveVid_touches _ _) rfl h7
  · exact Touches.refl _ _

theorem execPwrOkRise_answers (node smb test s) :
    Answers [.reg, .img] s (execPwrOkRise node smb test s) := by
  unfold execPwrOkRise
  refine Answers.next (Touches.ite ?_ ?_)
  · extract_lets +onlyGivenNames x0
    clear_value x0
    extract_lets +onlyGivenNames x1
    refine Touches.cut (x := x1) ?_ (fun h2 => ?_)
    · unfold x1
      exact Touches.put_img rfl (Touches.refl _ _)
    clear_value x1
    extract_lets +onlyGivenNames x3
    refine Touches.cut (x := x3) ?_ (fun h4 => ?_)
    · unfold x3
      exact Touches.after (State.set_touches _ _ _) rfl (Touches.after (State.setWord_touches _ _ _) rfl h2)
    clear_value x3
    exact Touches.after (State.bootPhase_touches _ _ _) rfl (Touches.after (State.set_touches _ _ _) rfl h4)
  · exact Touches.refl _ _

theorem execSignatureCheckDone_answers (s) :
    Answers [.reg, .img] s (execSignatureCheckDone s) := by
  unfold execSignatureCheckDone
  refine Answers.next (Touches.ite ?_ ?_)
  · extract_lets +onlyGivenNames x0
    clear_value x0
    refine Touches.ite ?_ ?_
    · exact Touches.after (State.bootPhase_touches _ _ _) rfl (Touches.put_img rfl (Touches.refl _ _))
    · exact Touches.mono rfl (State.tryOther_touches _ _)
  · exact Touches.refl _ _

theorem execTidePllLock_answers (s) :
    Answers [.reg] s (execTidePllLock s) := by
  unfold execTidePllLock
  refine Answers.next (Touches.ite ?_ ?_)
  · exact Touches.mono rfl (State.set_touches _ _ _)
  · exact Touches.refl _ _

theorem execTrimCheck_answers (s) :
    Answers [.out, .reg, .img, .pwr] s (execTrimCheck s) := by
  unfold execTrimCheck
  refine Answers.next (Touches.ite ?_ ?_)
  · extract_lets +onlyGivenNames x0
    clear_value x0
    split
    · rename_i x1
      exact Touches.mono rfl (State.bootFail_touches _ _)
    · rename_i x2 x3
      extract_lets +onlyGivenNames x4
      clear_value x4
      extract_lets +onlyGivenNames x5
      refine Touches.cut (x := x5) ?_ (fun h6 => ?_)
      · unfold x5
        exact Touches.after (State.bootPhase_touches _ _ _) rfl (Touches.put_pwr rfl (Touches.refl _ _))
      clear_value x5
      exact Touches.after (State.driveVid_touches _ _) rfl h6
  · exact Touches.refl _ _

theorem execVaonFall_answers (s) :
    Answers Part.every s (execVaonFall s) := by
  unfold execVaonFall
  refine Answers.next (Touches.ite ?_ ?_)
  · extract_lets +onlyGivenNames x0
    refine Touches.cut (x := x0) ?_ (fun h1 => ?_)
    · unfold x0
      refine Touches.after (State.stopErases_touches _) rfl ?_
      exact Touches.after (State.cutProgram_touches _ _) rfl (Touches.mono rfl (State.cutProgram_touches _ _))
    clear_value x0
    extract_lets +onlyGivenNames x2
    refine Touches.cut (x := x2) ?_ (fun h3 => ?_)
    · unfold x2
      exact Touches.after (State.cold_touches _ _ _ (by first | exact fun _ => rfl | exact fun h => Tab.canon_filter _ _ _ h)) rfl h1
    clear_value x2
    exact Touches.put_now_pwr rfl h3
  · exact Touches.refl _ _

theorem execVaonRise_answers (s) :
    Answers [.now, .img] s (execVaonRise s) := by
  unfold execVaonRise
  refine Answers.next (Touches.ite ?_ ?_)
  · exact Touches.refl _ _
  · exact Touches.put_now_img rfl (Touches.refl _ _)

theorem execVioRise_answers (s) :
    Answers [.out, .reg, .img] s (execVioRise s) := by
  unfold execVioRise
  refine Answers.next (Touches.ite ?_ ?_)
  · exact Touches.after (State.driveVid_touches _ _) rfl (Touches.put_img rfl (Touches.refl _ _))
  · exact Touches.refl _ _

/-! Machine/FabricCmds.lean -/

theorem State.setCauseway_touches (s k c) :
    Touches [.fab] s (State.setCauseway s k c) := by
  unfold State.setCauseway
  exact Touches.put_fab rfl (Touches.refl _ _)

theorem State.armCauseway_touches (s e) :
    Touches [.reg, .nwl, .fab] s (State.armCauseway s e) := by
  unfold State.armCauseway
  extract_lets +onlyGivenNames x0
  clear_value x0
  split
  · rename_i x1 h2
    exact Touches.refl _ _
  · rename_i x3 x4 h5
    refine Touches.ite ?_ ?_
    · exact Touches.after (State.sendPacket_touches _ _) rfl (Touches.mono rfl (State.setCauseway_touches _ _ _))
    · exact Touches.refl _ _

theorem State.modFlow_touches (s node g) :
    Touches [.fab] s (State.modFlow s node g) := by
  unfold State.modFlow
  exact Touches.put_fab rfl (Touches.refl _ _)

theorem State.packetFailed_touches (s p) :
    Touches [.srv] s (State.packetFailed s p) := by
  unfold State.packetFailed
  split
  · rename_i x0 h1
    exact Touches.refl _ _
  · rename_i x2 x3 h4
    split
    · rename_i x5 h6
      exact Touches.refl _ _
    · rename_i x7 x8 h9
      split
      · rename_i x10 x11 h12
        refine Touches.ite ?_ ?_
        · exact Touches.after (State.modRequest_touches _ _ _) rfl (Touches.mono rfl (State.dropEntry_touches _ _))
        · exact Touches.refl _ _
      · rename_i x13 x14 x15 h16
        refine Touches.ite ?_ ?_
        · exact Touches.after (State.doomRequest_touches _ _ _) rfl (Touches.mono rfl (State.dropEntry_touches _ _))
        · exact Touches.refl _ _
      · rename_i x17 h18 h19
        exact Touches.refl _ _

theorem execAck_answers (s) :
    Answers [.reg, .nwl, .fab] s (execAck s) := by
  unfold execAck
  refine Answers.next ?_
  split
  · rename_i x0 h1
    exact Touches.refl _ _
  · rename_i x2 x3 x4 h5
    refine Touches.cut (Touches.of_some_snd h5 ?_) (fun k6 => ?_)
    · exact fun v y e => Touches.after (State.nextPacket_touches _ _ v y e) rfl (Touches.refl _ _)
    exact Touches.after (State.pump_touches _) rfl (Touches.put_fab rfl k6)

theorem execCwConfirm_answers (s) :
    Answers [.out, .reg, .host, .fab] s (execCwConfirm s) := by
  unfold execCwConfirm
  refine Answers.next ?_
  split
  · rename_i x0 h1
    exact Touches.refl _ _
  · rename_i x2 x3 x4 h5
    refine Touches.cut (Touches.of_some_snd h5 ?_) (fun k6 => ?_)
    · exact fun v y e => Touches.after (State.nextPacket_touches _ _ v y e) rfl (Touches.refl _ _)
    extract_lets +onlyGivenNames x7
    clear_value x7
    extract_lets +onlyGivenNames x8
    clear_value x8
    refine Touches.ite ?_ ?_
    · exact Touches.after (State.event_touches _ _ _ _) rfl (Touches.after (State.setCauseway_touches _ _ _) rfl k6)
    · exact k6

theorem execCwDown_answers (s) :
    Answers [.out, .reg, .host, .fab] s (execCwDown s) := by
  unfold execCwDown
  refine Answers.next ?_
  split
  · rename_i x0 h1
    exact Touches.refl _ _
  · rename_i x2 x3 x4 h5
    refine Touches.cut (Touches.of_some_snd h5 ?_) (fun k6 => ?_)
    · exact fun v y e => Touches.after (State.nextPacket_touches _ _ v y e) rfl (Touches.refl _ _)
    extract_lets +onlyGivenNames x7
    clear_value x7
    extract_lets +onlyGivenNames x8
    clear_value x8
    refine Touches.ite ?_ ?_
    · exact Touches.after (State.event_touches _ _ _ _) rfl (Touches.after (State.setCauseway_touches _ _ _) rfl k6)
    · exact k6

theorem execCwSetup_answers (s) :
    Answers [.reg, .nwl, .fab] s (execCwSetup s) := by
  unfold execCwSetup
  refine Answers.next ?_
  split
  · rename_i x0 h1
    exact Touches.refl _ _
  · rename_i x2 x3 x4 h5
    refine Touches.cut (Touches.of_some_snd h5 ?_) (fun k6 => ?_)
    · exact fun v y e => Touches.after (State.nextPacket_touches _ _ v y e) rfl (Touches.refl _ _)
    split
    · rename_i x7 h8
      exact k6
    · rename_i x9 x10 h11
      refine Touches.ite ?_ ?_
      · exact Touches.after (State.sendPacket_touches _ _) rfl k6
      · exact Touches.after (State.armCauseway_touches _ _) rfl k6

theorem execCwSetupRetry_answers (causeway s) :
    Answers [.reg, .nwl, .fab] s (execCwSetupRetry causeway s) := by
  unfold execCwSetupRetry
  extract_lets +onlyGivenNames x0
  clear_value x0
  extract_lets +onlyGivenNames x1
  clear_value x1
  refine Answers.next ?_
  split
  · rename_i x2 h3
    exact Touches.refl _ _
  · rename_i x4 x5 h6
    refine Touches.ite ?_ ?_
    · exact Touches.after (State.armCauseway_touches _ _) rfl (Touches.mono rfl (State.setCauseway_touches _ _ _))
    · exact Touches.refl _ _

theorem execE2eResendTimeout_answers (msgId s) :
    Answers [.out, .reg, .host, .srv, .nwl, .fab] s (execE2eResendTimeout msgId s) := by
  unfold execE2eResendTimeout
  refine Answers.next ?_
  split
  · rename_i x0 h1
    exact Touches.refl _ _
  · rename_i x2 x3 h4
    extract_lets +onlyGivenNames x5
    clear_value x5
    refine Touches.ite ?_ ?_
    · exact Touches.refl _ _
    · refine Touches.ite ?_ ?_
      · extract_lets +onlyGivenNames x6
        clear_value x6
        extract_lets +onlyGivenNames x7
        refine Touches.cut (x := x7) ?_ (fun h8 => ?_)
        · unfold x7
          exact Touches.put_fab rfl (Touches.refl _ _)
        clear_value x7
        exact Touches.after (State.pump_touches _) rfl (Touches.after (State.count_touches _ _) rfl h8)
      · extract_lets +onlyGivenNames x9
        clear_value x9
        extract_lets +onlyGivenNames x10
        refine Touches.cut (x := x10) ?_ (fun h11 => ?_)
        · unfold x10
          exact Touches.put_fab rfl (Touches.refl _ _)
        clear_value x10
        refine Touches.after (State.pump_touches _) rfl (Touches.after (State.packetFailed_touches _ _) rfl ?_)
        exact Touches.after (State.event_touches _ _ _ _) rfl (Touches.after (State.count_touches _ _) rfl h11)

theorem execEcho_answers (s) :
    Answers [.reg, .fab] s (execEcho s) := by
  unfold execEcho
  refine Answers.next ?_
  split
  · rename_i x0 h1
    exact Touches.refl _ _
  · rename_i x2 x3 x4 h5
    refine Touches.cut (Touches.of_some_snd h5 ?_) (fun k6 => ?_)
    · exact fun v y e => Touches.after (State.nextPacket_touches _ _ v y e) rfl (Touches.refl _ _)
    extract_lets +onlyGivenNames x7
    clear_value x7
    split
    · rename_i x8 h9
      exact k6
    · rename_i x10 x11 h12
      refine Touches.ite ?_ ?_
      · extract_lets +onlyGivenNames x13
        clear_value x13
        refine Touches.after (State.count_touches _ _) rfl ?_
        exact Touches.after (State.setBits_touches _ _ _) rfl (Touches.after (State.modFlow_touches _ _ _) rfl k6)
      · exact k6

theorem execEscapeTimeout_answers (index s) :
    Answers [.reg, .nwl, .fab] s (execEscapeTimeout index s) := by
  unfold execEscapeTimeout
  refine Answers.next ?_
  split
  · rename_i x0 h1
    exact Touches.refl _ _
  · rename_i x2 x3 h4
    refine Touches.ite ?_ ?_
    · extract_lets +onlyGivenNames x5
      clear_value x5
      extract_lets +onlyGivenNames x6
      refine Touches.cut (x := x6) ?_ (fun h7 => ?_)
      · unfold x6
        exact Touches.put_fab rfl (Touches.refl _ _)
      clear_value x6
      split
      · rename_i x8 x9 h10
        refine Touches.cut (Touches.of_some h10 ?_) (fun k11 => ?_)
        · exact fun y e => Touches.after (State.routeOne_touches _ _ y e) rfl h7
        assumption
      · rename_i x12 h13
        exact Touches.after (State.routeEscape_touches _ _) rfl h7
    · exact Touches.refl _ _

theorem execFlowIdle_answers (node s) :
    Answers [.reg, .nwl, .fab] s (execFlowIdle node s) := by
  unfold execFlowIdle
  refine Answers.next ?_
  split
  · rename_i x0 h1
    exact Touches.refl _ _
  · rename_i x2 x3 h4
    refine Touches.ite ?_ ?_
    · exact Touches.after (State.pump_touches _) rfl (Touches.put_fab rfl (Touches.refl _ _))
    · exact Touches.refl _ _

theorem execRateIncrease_answers (node s) :
    Answers [.fab] s (execRateIncrease node s) := by
  unfold execRateIncrease
  refine Answers.next ?_
  split
  · rename_i x0 h1
    exact Touches.refl _ _
  · rename_i x2 x3 h4
    refine Touches.ite ?_ ?_
    · extract_lets +onlyGivenNames x5
      clear_value x5
      exact Touches.mono rfl (State.modFlow_touches _ _ _)
    · exact Touches.refl _ _

/-! Machine/Resets.lean -/

theorem State.resume_touches (s bist) :
    Touches Part.every s (State.resume s bist) := by
  unfold State.resume
  extract_lets +onlyGivenNames x0
  refine Touches.cut (x := x0) ?_ (fun h1 => ?_)
  · unfold x0
    refine Touches.after (State.keepLock_touches _) rfl ?_
    exact Touches.mono rfl (State.cold_touches _ _ _ (by first | exact fun _ => rfl | exact fun h => Tab.canon_filter _ _ _ h))
  clear_value x0
  extract_lets +onlyGivenNames x2
  clear_value x2
  extract_lets +onlyGivenNames x3
  refine Touches.cut (x := x3) ?_ (fun h4 => ?_)
  · unfold x3
    exact Touches.put_host_tap rfl h1
  clear_value x3
  extract_lets +onlyGivenNames x5
  clear_value x5
  extract_lets +onlyGivenNames x6
  refine Touches.cut (x := x6) ?_ (fun h7 => ?_)
  · unfold x6
    exact Touches.put_mgmt rfl h4
  clear_value x6
  extract_lets +onlyGivenNames x8
  refine Touches.cut (x := x8) ?_ (fun h9 => ?_)
  · unfold x8
    exact Touches.after (State.set_touches _ _ _) rfl (Touches.after (State.set_touches _ _ _) rfl h7)
  clear_value x8
  exact Touches.after (State.set_touches _ _ _) rfl h9

theorem State.performReset_touches (s r) :
    Touches Part.every s (State.performReset s r) := by
  unfold State.performReset
  extract_lets +onlyGivenNames x0
  refine Touches.cut (x := x0) ?_ (fun h1 => ?_)
  · unfold x0
    exact Touches.mono rfl (State.resume_touches _ _)
  clear_value x0
  exact Touches.after (State.set_touches _ _ _) rfl (Touches.after (State.set_touches _ _ _) rfl (Touches.after (State.set_touches _ _ _) rfl h1))

theorem State.resetGo_touches (s) :
    Touches Part.every s (State.resetGo s) := by
  unfold State.resetGo
  split
  · rename_i x0 h1
    exact Touches.refl _ _
  · rename_i x2 x3 h4
    extract_lets +onlyGivenNames x5
    clear_value x5
    refine Touches.ite ?_ ?_
    · exact Touches.mono rfl (State.performReset_touches _ _)
    · exact Touches.refl _ _

theorem State.recordReset_touches (s r) :
    Touches Part.every s (State.recordReset s r) := by
  unfold State.recordReset
  split
  rename_i x0 x1 x2 h3
  refine Touches.cut (Touches.of_snd h3 ?_) (fun k4 => ?_)
  · exact Touches.mono rfl (State.ledgerRecord_touches _ _ _)
  exact Touches.after (State.resetGo_touches _) rfl (Touches.put_rst rfl k4)

theorem State.forceReset_touches (s cause bist) :
    Touches Part.every s (State.forceReset s cause bist) := by
  unfold State.forceReset
  refine Touches.ite ?_ ?_
  · split
    · rename_i x0 x1 h2
      refine Touches.ite ?_ ?_
      · exact Touches.refl _ _
      · exact Touches.after (State.recordReset_touches _ _) rfl (Touches.mono rfl (State.stopPath_touches _))
    · rename_i x3 h4
      exact Touches.after (State.recordReset_touches _ _) rfl (Touches.mono rfl (State.stopPath_touches _))
  · exact Touches.refl _ _

theorem State.startQuiesce_touches (s bist) :
    Touches [.reg, .srv, .rst] s (State.startQuiesce s bist) := by
  unfold State.startQuiesce
  extract_lets +onlyGivenNames x0
  refine Touches.cut (x := x0) ?_ (fun h1 => ?_)
  · unfold x0
    exact Touches.mono rfl (State.set_touches _ _ _)
  clear_value x0
  extract_lets +onlyGivenNames x2
  clear_value x2
  extract_lets +onlyGivenNames x3
  refine Touches.cut (x := x3) ?_ (fun h4 => ?_)
  · unfold x3
    exact Touches.put_srv rfl h1
  clear_value x3
  exact Touches.put_rst rfl h4

theorem State.resetGoWrite_touches (s forced bist) :
    Touches Part.every s (State.resetGoWrite s forced bist) := by
  unfold State.resetGoWrite
  split
  · rename_i x0 h1
    exact Touches.refl _ _
  · rename_i x2 x3 h4
    extract_lets +onlyGivenNames x5
    refine Touches.cut (x := x5) ?_ (fun h6 => ?_)
    · unfold x5
      exact Touches.put_resetKey rfl (Touches.refl _ _)
    refine Touches.ite ?_ ?_
    · refine Touches.ite ?_ ?_
      · exact Touches.after (State.forceReset_touches _ _ _) rfl h6
      · refine Touches.ite ?_ ?_
        · exact h6
        · exact Touches.after (State.startQuiesce_touches _ _) rfl h6
    · exact h6

theorem execCuratorWdt_answers (s) :
    Answers Part.every s (execCuratorWdt s) := by
  unfold execCuratorWdt
  refine Answers.next (Touches.ite ?_ ?_)
  · extract_lets +onlyGivenNames x0
    refine Touches.cut (x := x0) ?_ (fun h1 => ?_)
    · unfold x0
      exact Touches.mono rfl (State.wedge_touches _ _ _)
    clear_value x0
    refine Touches.ite ?_ ?_
    · exact Touches.after (State.forceReset_touches _ _ _) rfl h1
    · exact h1
  · exact Touches.refl _ _

theorem execFullResetGo_answers (forced bist s) :
    Answers Part.every s (execFullResetGo forced bist s) := by
  unfold execFullResetGo
  exact Answers.next (Touches.mono rfl (State.resetGoWrite_touches _ _ _))

theorem execQuiesceDrainDone_answers (s) :
    Answers Part.every s (execQuiesceDrainDone s) := by
  unfold execQuiesceDrainDone
  refine Answers.next ?_
  split
  · rename_i x0 x1 h2
    refine Touches.ite ?_ ?_
    · exact Touches.after (State.recordReset_touches _ _) rfl (Touches.put_acc rfl (Touches.refl _ _))
    · exact Touches.refl _ _
  · rename_i x3 h4
    exact Touches.refl _ _

theorem execQuiesceFramesDone_answers (s) :
    Answers [.frames, .rst] s (execQuiesceFramesDone s) := by
  unfold execQuiesceFramesDone
  refine Answers.next ?_
  split
  · rename_i x0 x1 h2
    refine Touches.ite ?_ ?_
    · exact Touches.put_frames_rst rfl (Touches.refl _ _)
    · exact Touches.refl _ _
  · rename_i x3 h4
    exact Touches.refl _ _

theorem execQuiesceGuardDone_answers (s) :
    Answers [.reg, .acc, .srv, .rst] s (execQuiesceGuardDone s) := by
  unfold execQuiesceGuardDone
  refine Answers.next ?_
  split
  · rename_i x0 x1 h2
    refine Touches.ite ?_ ?_
    · extract_lets +onlyGivenNames x3
      clear_value x3
      extract_lets +onlyGivenNames x4
      refine Touches.cut (x := x4) ?_ (fun h5 => ?_)
      · unfold x4
        exact Touches.put_srv rfl (Touches.refl _ _)
      clear_value x4
      extract_lets +onlyGivenNames x6
      refine Touches.cut (x := x6) ?_ (fun h7 => ?_)
      · unfold x6
        refine Touches.foldl ?_ (fun t9 x10 h8 => ?_)
        · exact h5
        · refine Touches.ite ?_ ?_
          · exact Touches.after (State.sealChain_touches _ _) rfl h8
          · exact h8
      clear_value x6
      exact Touches.put_rst rfl h7
    · exact Touches.refl _ _
  · rename_i x11 h12
    exact Touches.refl _ _

theorem execSysReset_answers (s) :
    Answers Part.every s (execSysReset s) := by
  unfold execSysReset
  exact Answers.next (Touches.mono rfl (State.forceReset_touches _ _ _))

end Sys2Proof.Machine
end

