-- ==== Sys2Proof/Laws/TouchesPower.lean ====
section
/-!
SUPPORT. What the operations of the NVM commands, power and the stack may change: one lemma each.
-/
namespace Sys2Proof.Machine

/-! Machine/NvmCmds.lean -/

theorem State.setHk_touches (s h) :
    Touches [.img] s (State.setHk s h) := by
  unfold State.setHk
  exact Touches.put_img rfl (Touches.refl _ _)

theorem State.hkEnd_touches (s) :
    Touches [.freeCtr, .out, .reg, .host, .ops, .led, .img] s (State.hkEnd s) := by
  unfold State.hkEnd
  extract_lets +onlyGivenNames x0
  clear_value x0
  extract_lets +onlyGivenNames x1
  refine Touches.cut (x := x1) ?_ (fun h2 => ?_)
  · unfold x1
    refine Touches.ite ?_ ?_
    · exact Touches.after (State.set_touches _ _ _) rfl (Touches.mono rfl (State.ledgerRecord_touches _ _ _))
    · exact Touches.refl _ _
  clear_value x1
  extract_lets +onlyGivenNames x3
  refine Touches.cut (x := x3) ?_ (fun h4 => ?_)
  · unfold x3
    refine Touches.ite ?_ ?_
    · exact Touches.after (State.setBankState_touches _ _ _) rfl h2
    · exact h2
  clear_value x3
  exact Touches.after (State.set_touches _ _ _) rfl (Touches.after (State.setHk_touches _ _) rfl h4)

theorem State.startErase_touches (s b off) :
    Touches [.ops] s (State.startErase s b off) := by
  unfold State.startErase
  refine Touches.ite ?_ ?_
  · exact Touches.mono rfl (State.modBank_ops _ _ _ (fun _ => rfl))
  · exact Touches.refl _ _

theorem State.hkErase_touches (s a1) :
    Touches [.freeCtr, .out, .reg, .host, .ops, .led, .img] s (State.hkErase s a1) := by
  unfold State.hkErase
  split
  · rename_i x0
    exact Touches.mono rfl (State.hkEnd_touches _)
  · rename_i x1 x2 x3
    exact Touches.after (State.startErase_touches _ _ _) rfl (Touches.mono rfl (State.setHk_touches _ _))

theorem State.hkGo_touches (s) :
    Touches [.ops] s (State.hkGo s) := by
  unfold State.hkGo
  refine Touches.ite ?_ ?_
  · exact Touches.refl _ _
  · split
    · rename_i x0 x1 x2 x3 h4
      exact Touches.mono rfl (State.startErase_touches _ _ _)
    · rename_i x5 x6 x7 h8
      exact Touches.mono rfl (State.startErase_touches _ _ _)
    · rename_i x9 h10 h11
      exact Touches.refl _ _

theorem State.hkSlot_touches (s) :
    Touches [.freeCtr, .out, .reg, .host, .ops, .led, .img] s (State.hkSlot s) := by
  unfold State.hkSlot
  extract_lets +onlyGivenNames x0
  clear_value x0
  extract_lets +onlyGivenNames x1
  clear_value x1
  exact Touches.mono rfl (State.hkErase_touches _ _)

theorem State.hkVerify_touches (s) :
    Touches [.freeCtr, .out, .reg, .host, .ops, .led, .img] s (State.hkVerify s) := by
  unfold State.hkVerify
  extract_lets +onlyGivenNames x0
  clear_value x0
  refine Touches.ite ?_ ?_
  · exact Touches.mono rfl (State.hkSlot_touches _)
  · extract_lets +onlyGivenNames x1
    refine Touches.cut (x := x1) ?_ (fun h2 => ?_)
    · unfold x1
      exact Touches.mono rfl (State.setHk_touches _ _)
    clear_value x1
    exact Touches.put_img rfl h2

theorem State.ledgerOpen_touches (s) :
    Touches [.freeCtr, .out, .reg, .host, .ops, .led] s (State.ledgerOpen s) := by
  unfold State.ledgerOpen
  extract_lets +onlyGivenNames x0
  clear_value x0
  extract_lets +onlyGivenNames x1
  refine Touches.cut (x := x1) ?_ (fun h2 => ?_)
  · unfold x1
    exact Touches.put_led rfl (Touches.refl _ _)
  extract_lets +onlyGivenNames x3
  refine Touches.cut (x := x3) ?_ (fun h4 => ?_)
  · unfold x3
    refine Touches.ite ?_ ?_
    · exact h2
    · exact Touches.after (State.event_touches _ _ _ _) rfl h2
  clear_value x3
  exact Touches.after (State.ledgerGo_touches _) rfl h4

theorem State.hkLedger_touches (s a1) :
    Touches [.freeCtr, .out, .reg, .host, .ops, .led, .img] s (State.hkLedger s a1) := by
  unfold State.hkLedger
  split
  · rename_i x0
    exact Touches.after (State.hkVerify_touches _) rfl (Touches.mono rfl (State.ledgerOpen_touches _))
  · rename_i x1 x2 x3
    exact Touches.after (State.startErase_touches _ _ _) rfl (Touches.mono rfl (State.setHk_touches _ _))

theorem State.imagePageDone_touches (s b off failed) :
    Touches [.freeCtr, .out, .reg, .host, .img] s (State.imagePageDone s b off failed) := by
  unfold State.imagePageDone
  split
  · rename_i x0 h1
    exact Touches.refl _ _
  · rename_i x2 x3 h4
    extract_lets +onlyGivenNames x5
    clear_value x5
    extract_lets +onlyGivenNames x6
    clear_value x6
    refine Touches.ite ?_ ?_
    · extract_lets +onlyGivenNames x7
      clear_value x7
      extract_lets +onlyGivenNames x8
      refine Touches.cut (x := x8) ?_ (fun h9 => ?_)
      · unfold x8
        exact Touches.after (State.imgFault_touches _ _) rfl (Touches.put_img rfl (Touches.refl _ _))
      clear_value x8
      exact Touches.after (State.complete_touches _ _ _ _) rfl h9
    · refine Touches.ite ?_ ?_
      · extract_lets +onlyGivenNames x10
        clear_value x10
        extract_lets +onlyGivenNames x11
        refine Touches.cut (x := x11) ?_ (fun h12 => ?_)
        · unfold x11
          exact Touches.put_img rfl (Touches.refl _ _)
        clear_value x11
        exact Touches.after (State.complete_touches _ _ _ _) rfl h12
      · exact Touches.put_img rfl (Touches.refl _ _)

theorem State.progGo_touches (s b) :
    Touches [.ops] s (State.progGo s b) := by
  unfold State.progGo
  refine Touches.ite ?_ ?_
  · split
    · rename_i x0 x1 h2
      split
      · rename_i x3 x4 x5 x6 h7
        exact Touches.mono rfl (State.modBank_ops _ _ _ (fun _ => rfl))
      · rename_i x8 h9
        exact Touches.refl _ _
    · rename_i x10 h11
      exact Touches.refl _ _
  · exact Touches.refl _ _

theorem State.nvmGo_touches (s) :
    Touches Part.every s (State.nvmGo s) := by
  unfold State.nvmGo
  refine Touches.after (State.resetGo_touches _) rfl (Touches.after (State.hkGo_touches _) rfl ?_)
  exact Touches.after (State.progGo_touches _ _) rfl (Touches.after (State.progGo_touches _ _) rfl (Touches.mono rfl (State.ledgerGo_touches _)))

theorem State.pageBytes_touches (s b off data failed) :
    Touches [.freeCtr, .cells, .ops] s (State.pageBytes s b off data failed) := by
  unfold State.pageBytes
  split
  rename_i x0 x1 x2 h3
  refine Touches.cut (Touches.of_snd h3 ?_) (fun k4 => ?_)
  · refine Touches.ite_snd ?_ ?_
    · exact Touches.mono rfl (State.freeBytes_touches _ _)
    · exact Touches.snd_mk (Touches.refl _ _)
  refine Touches.after (State.modBank_touches _ _ _ (fun k hk => ?_)) rfl ?_
  · first | exact hk | exact wf_programCells _ _ hk | exact wf_eraseCells _ _ hk | exact wf_writeCells _ _ (wf_eraseCells _ _ hk)
  · exact k4

theorem State.verifyEnd_touches (s v fault) :
    Touches [.freeCtr, .out, .reg, .host, .ops, .led, .img] s (State.verifyEnd s v fault) := by
  unfold State.verifyEnd
  extract_lets +onlyGivenNames x0
  clear_value x0
  extract_lets +onlyGivenNames x1
  clear_value x1
  extract_lets +onlyGivenNames x2
  refine Touches.cut (x := x2) ?_ (fun h3 => ?_)
  · unfold x2
    exact Touches.put_img rfl (Touches.refl _ _)
  clear_value x2
  extract_lets +onlyGivenNames x4
  refine Touches.cut (x := x4) ?_ (fun h5 => ?_)
  · unfold x4
    exact Touches.after (State.set_touches _ _ _) rfl h3
  clear_value x4
  extract_lets +onlyGivenNames x6
  refine Touches.cut (x := x6) ?_ (fun h7 => ?_)
  · unfold x6
    exact Touches.after (State.setBankState_touches _ _ _) rfl h5
  clear_value x6
  extract_lets +onlyGivenNames x8
  refine Touches.cut (x := x8) ?_ (fun h9 => ?_)
  · unfold x8
    refine Touches.ite ?_ ?_
    · exact h7
    · exact Touches.after (State.imgFault_touches _ _) rfl h7
  clear_value x8
  split
  · rename_i x10 x11 h12
    exact Touches.after (State.complete_touches _ _ _ _) rfl h9
  · rename_i x13 h14
    exact Touches.after (State.hkSlot_touches _) rfl h9

theorem State.readFails_touches (s b strand) :
    Touches [.freeCtr, .out, .reg, .host, .ops, .led, .strands, .img] s (State.readFails s b strand) := by
  unfold State.readFails
  split
  · rename_i x0 x1
    refine Touches.ite ?_ ?_
    · exact Touches.after (State.noteStrandsReady_touches _) rfl (Touches.mono rfl (State.strandOff_touches _ _ _))
    · exact Touches.refl _ _
  · rename_i x2
    split
    · rename_i x3 h4
      exact Touches.after (State.imgFault_touches _ _) rfl (Touches.put_img rfl (Touches.refl _ _))
    · rename_i x5 h6
      exact Touches.after (State.imgFault_touches _ _) rfl (Touches.put_img rfl (Touches.refl _ _))
    · rename_i x7 h8
      refine Touches.ite ?_ ?_
      · exact Touches.mono rfl (State.tryOther_touches _ _)
      · exact Touches.refl _ _
    · rename_i x9 h10
      refine Touches.ite ?_ ?_
      · exact Touches.mono rfl (State.tryOther_touches _ _)
      · exact Touches.refl _ _
    · rename_i x11 h12
      split
      · rename_i x13 x14 h15
        exact Touches.mono rfl (State.verifyEnd_touches _ _ _)
      · rename_i x16 h17
        exact Touches.refl _ _
    · rename_i x18 h19 h20 h21 h22 h23
      exact Touches.refl _ _

theorem State.recStart_touches (s b op) :
    Touches [.reg, .ops] s (State.recStart s b op) := by
  unfold State.recStart
  refine Touches.ite ?_ ?_
  · exact Touches.refl _ _
  · refine Touches.ite ?_ ?_
    · exact Touches.mono rfl (State.set_touches _ _ _)
    · refine Touches.after (State.set_touches _ _ _) rfl ?_
      exact Touches.after (State.set_touches _ _ _) rfl (Touches.mono rfl (State.modBank_ops _ _ _ (fun _ => rfl)))

theorem State.recErase_stays (s) :
    Stays [.reg, .ops] s (State.recErase s) := by
  unfold State.recErase
  split
  rename_i x0 x1 x2 h3
  refine Stays.ite ?_ ?_
  · exact Stays.next (Touches.refl _ _)
  · refine Stays.ite ?_ ?_
    · exact Stays.fault
    · exact Stays.next (Touches.mono rfl (State.recStart_touches _ _ _))

theorem State.recProgram_stays (s) :
    Stays [.reg, .ops] s (State.recProgram s) := by
  unfold State.recProgram
  split
  rename_i x0 x1 x2 h3
  refine Stays.ite ?_ ?_
  · exact Stays.next (Touches.refl _ _)
  · refine Stays.ite ?_ ?_
    · exact Stays.fault
    · exact Stays.next (Touches.mono rfl (State.recStart_touches _ _ _))

theorem State.recRestart_touches (s) :
    Touches Part.every s (State.recRestart s) := by
  unfold State.recRestart
  refine Touches.ite ?_ ?_
  · refine Touches.after (State.resume_touches _ _) rfl (Touches.after (State.stopErases_touches _) rfl ?_)
    exact Touches.after (State.finishProgram_touches _ _) rfl (Touches.mono rfl (State.finishProgram_touches _ _))
  · exact Touches.refl _ _

theorem execBankVerifyDone_answers (bank s) :
    Answers [.freeCtr, .out, .reg, .host, .ops, .led, .img] s (execBankVerifyDone bank s) := by
  unfold execBankVerifyDone
  refine Answers.next ?_
  split
  · rename_i x0 x1 h2
    exact Touches.mono rfl (State.verifyEnd_touches _ _ _)
  · rename_i x3 h4
    exact Touches.refl _ _

theorem execHbmTrainingDone_answers (failed s) :
    Answers [.freeCtr, .out, .reg, .host, .ops, .led, .strands, .grants, .frames, .content, .vit, .gth, .srv, .img, .fab] s (execHbmTrainingDone failed s) := by
  unfold execHbmTrainingDone
  refine Answers.next (Touches.ite ?_ ?_)
  · extract_lets +onlyGivenNames x0
    refine Touches.cut (x := x0) ?_ (fun h1 => ?_)
    · unfold x0
      refine Touches.foldl ?_ (fun t3 x4 h2 => ?_)
      · exact Touches.refl _ _
      · exact Touches.after (State.retireUnit_touches _ _ _ _) rfl h2
    clear_value x0
    extract_lets +onlyGivenNames x5
    refine Touches.cut (x := x5) ?_ (fun h6 => ?_)
    · unfold x5
      exact Touches.after (State.commandsReady_touches _) rfl h1
    clear_value x5
    exact Touches.after (State.hkLedger_touches _ _) rfl h6
  · exact Touches.refl _ _

theorem execImgPrepare_answers (q e bank reserved s) :
    Answers [.freeCtr, .out, .reg, .host, .ops, .led] s (execImgPrepare q e bank reserved s) := by
  unfold execImgPrepare
  refine Answers.next (Touches.trans ?_ (State.sqCommand_touches rfl _ _ _ _ _ (fun t0 t1 => ?_)))
  · exact Touches.refl _ _
  · extract_lets +onlyGivenNames x2
    clear_value x2
    refine Touches.ite ?_ ?_
    · exact Touches.mono rfl (State.imgRefuse_touches _ _ _ _ _)
    · exact Touches.after (State.commandRecord_touches _ _ _ _ _) rfl (Touches.mono rfl (State.set_touches _ _ _))

theorem execImgProgram_answers (q e bank offset length data reserved s) :
    Answers [.freeCtr, .out, .reg, .host, .ops, .img] s (execImgProgram q e bank offset length data reserved s) := by
  unfold execImgProgram
  refine Answers.next (Touches.trans ?_ (State.sqCommand_touches rfl _ _ _ _ _ (fun t0 t1 => ?_)))
  · exact Touches.refl _ _
  · extract_lets +onlyGivenNames x2
    clear_value x2
    extract_lets +onlyGivenNames x3
    clear_value x3
    extract_lets +onlyGivenNames x4
    clear_value x4
    extract_lets +onlyGivenNames x5
    clear_value x5
    refine Touches.ite ?_ ?_
    · exact Touches.mono rfl (State.imgRefuse_touches _ _ _ _ _)
    · split
      · rename_i x6
        exact Touches.mono rfl (State.complete_touches _ _ _ _)
      · rename_i x7 x8
        extract_lets +onlyGivenNames x9
        refine Touches.cut (x := x9) ?_ (fun h10 => ?_)
        · unfold x9
          exact Touches.mono rfl (State.setBankState_touches _ _ _)
        clear_value x9
        exact Touches.after (State.progGo_touches _ _) rfl (Touches.put_img rfl h10)

theorem execImgSelect_answers (q e bank reserved s) :
    Answers [.freeCtr, .out, .reg, .host, .ops, .led] s (execImgSelect q e bank reserved s) := by
  unfold execImgSelect
  refine Answers.next (Touches.trans ?_ (State.sqCommand_touches rfl _ _ _ _ _ (fun t0 t1 => ?_)))
  · exact Touches.refl _ _
  · extract_lets +onlyGivenNames x2
    clear_value x2
    refine Touches.ite ?_ ?_
    · exact Touches.mono rfl (State.imgRefuse_touches _ _ _ _ _)
    · refine Touches.after (State.commandRecord_touches _ _ _ _ _) rfl ?_
      exact Touches.after (State.set_touches _ _ _) rfl (Touches.mono rfl (State.set_touches _ _ _))

theorem execImgVerify_answers (q e bank reserved s) :
    Answers [.freeCtr, .out, .reg, .host, .img] s (execImgVerify q e bank reserved s) := by
  unfold execImgVerify
  refine Answers.next (Touches.trans ?_ (State.sqCommand_touches rfl _ _ _ _ _ (fun t0 t1 => ?_)))
  · exact Touches.refl _ _
  · refine Touches.ite ?_ ?_
    · exact Touches.mono rfl (State.imgRefuse_touches _ _ _ _ _)
    · exact Touches.put_img rfl (Touches.refl _ _)

theorem execNvmPageProgramDone_answers (bank failed s) :
    Answers Part.every s (execNvmPageProgramDone bank failed s) := by
  unfold execNvmPageProgramDone
  extract_lets +onlyGivenNames x0
  clear_value x0
  refine Answers.next ?_
  split
  · rename_i x1 x2 h3
    refine Touches.after (State.nvmGo_touches _) rfl ?_
    exact Touches.after (State.ledgerFinish_touches _) rfl (Touches.mono rfl (State.ledgerPageDone_touches _ _ _ _))
  · rename_i x4 x5 x6 h7
    refine Touches.after (State.nvmGo_touches _) rfl ?_
    exact Touches.after (State.imagePageDone_touches _ _ _ _) rfl (Touches.mono rfl (State.pageBytes_touches _ _ _ _ _))
  · rename_i x8 x9 x10 h11
    refine Touches.after (State.nvmGo_touches _) rfl (Touches.after (State.set_touches _ _ _) rfl ?_)
    exact Touches.after (State.set_touches _ _ _) rfl (Touches.mono rfl (State.pageBytes_touches _ _ _ _ _))
  · rename_i x12 h13 h14 h15
    exact Touches.refl _ _

theorem execNvmReadTimeout_answers (bank strand s) :
    Answers [.freeCtr, .out, .reg, .host, .ops, .led, .strands, .grants, .frames, .content, .vit, .gth, .srv, .img] s (execNvmReadTimeout bank strand s) := by
  unfold execNvmReadTimeout
  extract_lets +onlyGivenNames x0
  clear_value x0
  extract_lets +onlyGivenNames x1
  clear_value x1
  refine Answers.next (Touches.ite ?_ ?_)
  · extract_lets +onlyGivenNames x2
    refine Touches.cut (x := x2) ?_ (fun h3 => ?_)
    · unfold x2
      exact Touches.mono rfl (State.transient_touches _ _ _)
    clear_value x2
    refine Touches.ite ?_ ?_
    · exact Touches.after (State.count_touches _ _) rfl (Touches.put_img rfl h3)
    · exact Touches.after (State.readFails_touches _ _ _) rfl (Touches.put_img rfl h3)
  · exact Touches.refl _ _

theorem execRecEraseSector_stays (s) :
    Stays [.reg, .ops] s (execRecEraseSector s) := by
  unfold execRecEraseSector
  exact Stays.after (State.recErase_stays _) rfl (Touches.refl _ _)

theorem execRecProgramPage_stays (s) :
    Stays [.reg, .ops] s (execRecProgramPage s) := by
  unfold execRecProgramPage
  exact Stays.after (State.recProgram_stays _) rfl (Touches.refl _ _)

theorem execRecRestart_answers (s) :
    Answers Part.every s (execRecRestart s) := by
  unfold execRecRestart
  exact Answers.next (Touches.mono rfl (State.recRestart_touches _))

theorem execSectorEraseDone_answers (bank s) :
    Answers Part.every s (execSectorEraseDone bank s) := by
  unfold execSectorEraseDone
  extract_lets +onlyGivenNames x0
  clear_value x0
  refine Answers.next ?_
  split
  · rename_i x1 x2 x3 h4
    extract_lets +onlyGivenNames x5
    refine Touches.cut (x := x5) ?_ (fun h6 => ?_)
    · unfold x5
      refine Touches.after (State.modBank_touches _ _ _ (fun k hk => ?_)) rfl ?_
      · first | exact hk | exact wf_programCells _ _ hk | exact wf_eraseCells _ _ hk | exact wf_writeCells _ _ (wf_eraseCells _ _ hk)
      · exact Touches.refl _ _
    clear_value x5
    refine Touches.ite ?_ ?_
    · exact Touches.after (State.nvmGo_touches _) rfl (Touches.after (State.set_touches _ _ _) rfl (Touches.after (State.set_touches _ _ _) rfl h6))
    · split
      · rename_i x7 x8 h9
        exact Touches.after (State.nvmGo_touches _) rfl (Touches.after (State.hkLedger_touches _ _) rfl h6)
      · rename_i x10 x11 h12
        exact Touches.after (State.nvmGo_touches _) rfl (Touches.after (State.hkErase_touches _ _) rfl h6)
      · rename_i x13 h14 h15
        exact Touches.after (State.nvmGo_touches _) rfl h6
  · rename_i x16 h17
    exact Touches.refl _ _

/-! Machine/Power.lean -/

theorem State.driftFails_touches (s l n) :
    Touches [.freeCtr, .out, .reg, .host, .ops, .led, .strands, .grants, .frames, .tapQueue, .content, .vit, .gth, .srv, .img, .nwl, .stk, .fab] s (State.driftFails s l n) := by
  unfold State.driftFails
  refine Touches.ite ?_ ?_
  · exact Touches.mono rfl (State.laneDead_touches _ _ _ _)
  · exact Touches.refl _ _

theorem State.judgeBlind_touches (s) :
    Touches [.out, .reg, .host, .pwr] s (State.judgeBlind s) := by
  unfold State.judgeBlind
  extract_lets +onlyGivenNames x0
  clear_value x0
  refine Touches.ite ?_ ?_
  · refine Touches.ite ?_ ?_
    · exact Touches.refl _ _
    · refine Touches.after (State.holdThermal_touches _) rfl ?_
      exact Touches.after (State.event_touches _ _ _ _) rfl (Touches.mono rfl (State.set_touches _ _ _))
  · refine Touches.ite ?_ ?_
    · extract_lets +onlyGivenNames x1
      refine Touches.cut (x := x1) ?_ (fun h2 => ?_)
      · unfold x1
        exact Touches.mono rfl (State.set_touches _ _ _)
      clear_value x1
      refine Touches.ite ?_ ?_
      · exact h2
      · exact Touches.put_pwr rfl h2
    · exact Touches.refl _ _

theorem State.setSensorVerify_touches (s i v) :
    Touches [.pwr] s (State.setSensorVerify s i v) := by
  unfold State.setSensorVerify
  exact Touches.put_pwr rfl (Touches.refl _ _)

theorem State.judgeSensor_touches (s i raw) :
    Touches [.freeCtr, .out, .reg, .host, .ops, .led, .strands, .grants, .frames, .content, .vit, .gth, .srv, .img, .pwr] s (State.judgeSensor s i raw) := by
  unfold State.judgeSensor
  extract_lets +onlyGivenNames x0
  clear_value x0
  extract_lets +onlyGivenNames x1
  clear_value x1
  extract_lets +onlyGivenNames x2
  clear_value x2
  refine Touches.ite ?_ ?_
  · extract_lets +onlyGivenNames x3
    refine Touches.cut (x := x3) ?_ (fun h4 => ?_)
    · unfold x3
      exact Touches.after (State.set_touches _ _ _) rfl (Touches.mono rfl (State.setSensorVerify_touches _ _ _))
    clear_value x3
    exact Touches.after (State.transient_touches _ _ _) rfl (Touches.after (State.event_touches _ _ _ _) rfl h4)
  · extract_lets +onlyGivenNames x5
    refine Touches.cut (x := x5) ?_ (fun h6 => ?_)
    · unfold x5
      exact Touches.mono rfl (State.setSensorVerify_touches _ _ _)
    clear_value x5
    refine Touches.ite ?_ ?_
    · exact Touches.after (State.set_touches _ _ _) rfl h6
    · exact h6

theorem State.setLaneVerify_touches (s l v) :
    Touches [.pwr] s (State.setLaneVerify s l v) := by
  unfold State.setLaneVerify
  exact Touches.put_pwr rfl (Touches.refl _ _)

theorem State.judgeWindow_touches (s l w) :
    Touches [.freeCtr, .out, .reg, .host, .ops, .led, .strands, .grants, .frames, .tapQueue, .content, .vit, .gth, .srv, .img, .pwr, .nwl, .stk, .fab] s (State.judgeWindow s l w) := by
  unfold State.judgeWindow
  extract_lets +onlyGivenNames x0
  clear_value x0
  extract_lets +onlyGivenNames x1
  refine Touches.cut (x := x1) ?_ (fun h2 => ?_)
  · unfold x1
    exact Touches.mono rfl (State.set_touches _ _ _)
  clear_value x1
  extract_lets +onlyGivenNames x3
  refine Touches.cut (x := x3) ?_ (fun h4 => ?_)
  · unfold x3
    exact Touches.after (State.set_touches _ _ _) rfl h2
  clear_value x3
  refine Touches.ite ?_ ?_
  · extract_lets +onlyGivenNames x5
    clear_value x5
    extract_lets +onlyGivenNames x6
    refine Touches.cut (x := x6) ?_ (fun h7 => ?_)
    · unfold x6
      exact Touches.after (State.setLaneVerify_touches _ _ _) rfl (Touches.after (State.set_touches _ _ _) rfl h4)
    clear_value x6
    refine Touches.ite ?_ ?_
    · exact Touches.after (State.event_touches _ _ _ _) rfl (Touches.after (State.set_touches _ _ _) rfl h7)
    · exact h7
  · extract_lets +onlyGivenNames x8
    clear_value x8
    extract_lets +onlyGivenNames x9
    refine Touches.cut (x := x9) ?_ (fun h10 => ?_)
    · unfold x9
      refine Touches.after (State.setLaneVerify_touches _ _ _) rfl ?_
      exact Touches.after (State.set_touches _ _ _) rfl (Touches.after (State.set_touches _ _ _) rfl h4)
    clear_value x9
    refine Touches.after (State.driftFails_touches _ _ _) rfl ?_
    exact Touches.after (State.transient_touches _ _ _) rfl (Touches.after (State.event_touches _ _ _ _) rfl h10)

theorem State.lockFails_touches (s u w) :
    Touches [.freeCtr, .out, .reg, .host, .ops, .led, .strands, .grants, .frames, .content, .vit, .gth, .srv, .img, .pwr] s (State.lockFails s u w) := by
  unfold State.lockFails
  extract_lets +onlyGivenNames x0
  refine Touches.cut (x := x0) ?_ (fun h1 => ?_)
  · unfold x0
    exact Touches.mono rfl (State.transient_touches _ _ _)
  clear_value x0
  refine Touches.ite ?_ ?_
  · exact Touches.after (State.modPunit_touches _ _ _) rfl (Touches.after (State.count_touches _ _) rfl h1)
  · extract_lets +onlyGivenNames x2
    refine Touches.cut (x := x2) ?_ (fun h3 => ?_)
    · unfold x2
      exact Touches.after (State.modPunit_touches _ _ _) rfl h1
    clear_value x2
    refine Touches.foldl ?_ (fun t5 x6 h4 => ?_)
    · exact h3
    · split
      · rename_i x7 x8 h9
        exact Touches.after (State.retireUnit_touches _ _ _ _) rfl h4
      · rename_i x10 h11
        exact h4

theorem State.wakeUnit_touches (s u w) :
    Touches [.reg, .gth, .pwr] s (State.wakeUnit s u w) := by
  unfold State.wakeUnit
  extract_lets +onlyGivenNames x0
  clear_value x0
  extract_lets +onlyGivenNames x1
  refine Touches.cut (x := x1) ?_ (fun h2 => ?_)
  · unfold x1
    refine Touches.ite ?_ ?_
    · exact Touches.mono rfl (State.count_touches _ _)
    · exact Touches.refl _ _
  clear_value x1
  extract_lets +onlyGivenNames x3
  refine Touches.cut (x := x3) ?_ (fun h4 => ?_)
  · unfold x3
    exact Touches.after (State.set_touches _ _ _) rfl h2
  clear_value x3
  extract_lets +onlyGivenNames x5
  refine Touches.cut (x := x5) ?_ (fun h6 => ?_)
  · unfold x5
    exact Touches.after (State.modPunit_touches _ _ _) rfl h4
  clear_value x5
  refine Touches.ite ?_ ?_
  · exact Touches.put_gth rfl h6
  · exact h6

theorem State.writeSlew_touches (s v) :
    Touches [.pwr] s (State.writeSlew s v) := by
  unfold State.writeSlew
  extract_lets +onlyGivenNames x0
  clear_value x0
  extract_lets +onlyGivenNames x1
  clear_value x1
  exact Touches.put_pwr rfl (Touches.refl _ _)

theorem State.writeTideSet_touches (s) :
    Touches [.now, .reg] s (State.writeTideSet s) := by
  unfold State.writeTideSet
  refine Touches.ite ?_ ?_
  · exact Touches.mono rfl (State.set_touches _ _ _)
  · exact Touches.put_now rfl (Touches.refl _ _)

theorem execClockLoss_answers (s) :
    Answers [.freeCtr, .out, .reg, .host, .cells, .ops, .stopped, .pwr] s (execClockLoss s) := by
  unfold execClockLoss
  refine Answers.next (Touches.ite ?_ ?_)
  · exact Touches.mono rfl (State.trip_touches _ _)
  · exact Touches.refl _ _

theorem execClockRaise_answers (s) :
    Answers [.pwr] s (execClockRaise s) := by
  unfold execClockRaise
  refine Answers.next ?_
  split
  · rename_i x0 x1 h2
    refine Touches.ite ?_ ?_
    · exact Touches.put_pwr rfl (Touches.refl _ _)
    · exact Touches.refl _ _
  · rename_i x3 h4
    exact Touches.refl _ _

theorem execEthLinkChange_answers (port up s) :
    Answers [.reg, .tapQueue] s (execEthLinkChange port up s) := by
  unfold execEthLinkChange
  extract_lets +onlyGivenNames x0
  clear_value x0
  exact Answers.next (Touches.mono rfl (State.ethLink_touches _ _ _))

theorem execIdleBank_answers (unit s) :
    Answers [.pwr] s (execIdleBank unit s) := by
  unfold execIdleBank
  extract_lets +onlyGivenNames x0
  clear_value x0
  extract_lets +onlyGivenNames x1
  clear_value x1
  refine Answers.next (Touches.ite ?_ ?_)
  · exact Touches.mono rfl (State.modPunit_touches _ _ _)
  · exact Touches.refl _ _

theorem execIdlePark_answers (unit s) :
    Answers [.pwr] s (execIdlePark unit s) := by
  unfold execIdlePark
  extract_lets +onlyGivenNames x0
  clear_value x0
  extract_lets +onlyGivenNames x1
  clear_value x1
  refine Answers.next (Touches.ite ?_ ?_)
  · exact Touches.mono rfl (State.modPunit_touches _ _ _)
  · exact Touches.refl _ _

theorem execLaneWindowDone_answers (lane occupancy means s) :
    Answers [.freeCtr, .out, .reg, .host, .ops, .led, .strands, .grants, .frames, .tapQueue, .content, .vit, .gth, .srv, .img, .pwr, .nwl, .stk, .fab] s (execLaneWindowDone lane occupancy means s) := by
  unfold execLaneWindowDone
  extract_lets +onlyGivenNames x0
  clear_value x0
  refine Answers.next (Touches.ite ?_ ?_)
  · exact Touches.refl _ _
  · refine Touches.ite ?_ ?_
    · exact Touches.mono rfl (State.judgeWindow_touches _ _ _)
    · exact Touches.mono rfl (State.setLaneVerify_touches _ _ _)

theorem execLaneWindowStarved_answers (lane s) :
    Answers [.reg] s (execLaneWindowStarved lane s) := by
  unfold execLaneWindowStarved
  extract_lets +onlyGivenNames x0
  clear_value x0
  refine Answers.next (Touches.ite ?_ ?_)
  · exact Touches.mono rfl (State.set_touches _ _ _)
  · exact Touches.refl _ _

theorem execPowerEstimate_answers (mw s) :
    Answers [.out, .reg, .host, .pwr] s (execPowerEstimate mw s) := by
  unfold execPowerEstimate
  extract_lets +onlyGivenNames x0
  clear_value x0
  extract_lets +onlyGivenNames x1
  clear_value x1
  extract_lets +onlyGivenNames x2
  clear_value x2
  extract_lets +onlyGivenNames x3
  refine Answers.cut (x := x3) ?_ (fun h4 => ?_)
  · unfold x3
    exact Touches.mono rfl (State.set_touches _ _ _)
  clear_value x3
  extract_lets +onlyGivenNames x5
  have fx5 : ∀ a0, Touches [.out, .reg, .host, .pwr] a0 (x5 a0) := ?_
  · clear_value x5
    refine Answers.next (Touches.ite ?_ ?_)
    · exact Touches.after (State.setLevels_touches _ _ _) rfl h4
    · refine Touches.ite ?_ ?_
      · refine Touches.after (State.event_touches _ _ _ _) rfl (Touches.after (State.setLevels_touches _ _ _) rfl (Touches.trans ?_ (fx5 _)))
        exact h4
      · refine Touches.ite ?_ ?_
        · refine Touches.trans ?_ (fx5 _)
          exact h4
        · refine Touches.ite ?_ ?_
          · refine Touches.after (State.setLevels_touches _ _ _) rfl (Touches.trans ?_ (fx5 _))
            exact h4
          · exact h4
  · intro a0
    unfold x5
    exact Touches.put_pwr rfl (Touches.refl _ _)

theorem execPpsEdge_answers (s) :
    Answers [.out, .reg, .host, .pwr] s (execPpsEdge s) := by
  unfold execPpsEdge
  refine Answers.ite ?_ ?_
  · extract_lets +onlyGivenNames x0
    refine Answers.cut (x := x0) ?_ (fun h1 => ?_)
    · unfold x0
      exact Touches.after (State.set_touches _ _ _) rfl (Touches.after (State.count_touches _ _) rfl (Touches.mono rfl (State.set64_touches _ _ _)))
    clear_value x0
    extract_lets +onlyGivenNames x2
    refine Answers.cut (x := x2) ?_ (fun h3 => ?_)
    · unfold x2
      refine Touches.ite ?_ ?_
      · exact Touches.after (State.event_touches _ _ _ _) rfl h1
      · exact h1
    clear_value x2
    exact Answers.next (Touches.put_pwr rfl h3)
  · exact Answers.next (Touches.refl _ _)

theorem execPpsLost_answers (s) :
    Answers [.out, .reg, .host, .pwr] s (execPpsLost s) := by
  unfold execPpsLost
  refine Answers.next ?_
  split
  · rename_i x0 x1 h2
    refine Touches.ite ?_ ?_
    · extract_lets +onlyGivenNames x3
      refine Touches.cut (x := x3) ?_ (fun h4 => ?_)
      · unfold x3
        exact Touches.after (State.event_touches _ _ _ _) rfl (Touches.mono rfl (State.set_touches _ _ _))
      clear_value x3
      exact Touches.put_pwr rfl h4
    · exact Touches.refl _ _
  · rename_i x5 h6
    exact Touches.refl _ _

theorem execSensorCheckDone_answers (sensor raw s) :
    Answers [.freeCtr, .out, .reg, .host, .ops, .led, .strands, .grants, .frames, .content, .vit, .gth, .srv, .img, .pwr] s (execSensorCheckDone sensor raw s) := by
  unfold execSensorCheckDone
  extract_lets +onlyGivenNames x0
  clear_value x0
  refine Answers.next ?_
  split
  · rename_i x1 x2 h3
    refine Touches.ite ?_ ?_
    · refine Touches.after (State.judgeBlind_touches _) rfl ?_
      exact Touches.after (State.judgeSensor_touches _ _ _) rfl (Touches.mono rfl (State.set_touches _ _ _))
    · exact Touches.refl _ _
  · rename_i x4 h5
    exact Touches.refl _ _

theorem execSensorCheckStart_answers (sensor s) :
    Answers [.reg, .pwr] s (execSensorCheckStart sensor s) := by
  unfold execSensorCheckStart
  extract_lets +onlyGivenNames x0
  clear_value x0
  extract_lets +onlyGivenNames x1
  clear_value x1
  refine Answers.next (Touches.ite ?_ ?_)
  · exact Touches.after (State.setSensorVerify_touches _ _ _) rfl (Touches.mono rfl (State.set_touches _ _ _))
  · exact Touches.refl _ _

theorem execSlewDone_answers (s) :
    Answers [.pwr] s (execSlewDone s) := by
  unfold execSlewDone
  refine Answers.next ?_
  split
  · rename_i x0 x1 h2
    refine Touches.ite ?_ ?_
    · exact Touches.put_pwr rfl (Touches.refl _ _)
    · exact Touches.refl _ _
  · rename_i x3 h4
    exact Touches.refl _ _

theorem execThermalConversion_answers (raw hbm s) :
    Answers [.freeCtr, .out, .reg, .host, .cells, .ops, .stopped, .pwr] s (execThermalConversion raw hbm s) := by
  unfold execThermalConversion
  refine Answers.ite ?_ ?_
  · extract_lets +onlyGivenNames x0
    refine Answers.cut (x := x0) ?_ (fun h1 => ?_)
    · unfold x0
      refine Touches.foldl ?_ (fun t3 x4 h2 => ?_)
      · exact Touches.refl _ _
      · exact Touches.after (State.readSensor_touches _ _ _) rfl h2
    clear_value x0
    extract_lets +onlyGivenNames x5
    refine Answers.cut (x := x5) ?_ (fun h6 => ?_)
    · unfold x5
      refine Touches.foldl ?_ (fun t8 x9 h7 => ?_)
      · exact h1
      · exact Touches.after (State.set_touches _ _ _) rfl h7
    clear_value x5
    refine Answers.next (Touches.foldl ?_ (fun t11 x12 h10 => ?_))
    · exact Touches.after (State.judgeJunction_touches _) rfl h6
    · exact Touches.after (State.judgeVdd_touches _ _) rfl h10
  · exact Answers.next (Touches.refl _ _)

theorem execThrottleStep_answers (s) :
    Answers [.out, .reg, .host, .pwr] s (execThrottleStep s) := by
  unfold execThrottleStep
  extract_lets +onlyGivenNames x0
  clear_value x0
  extract_lets +onlyGivenNames x1
  clear_value x1
  refine Answers.next (Touches.ite ?_ ?_)
  · exact Touches.refl _ _
  · refine Touches.ite ?_ ?_
    · exact Touches.mono rfl (State.stepThermal_touches _ _)
    · refine Touches.ite ?_ ?_
      · exact Touches.mono rfl (State.stepThermal_touches _ _)
      · exact Touches.refl _ _

theorem execUnitWakeDone_answers (unit lockFailed s) :
    Answers [.freeCtr, .out, .reg, .host, .ops, .led, .strands, .grants, .frames, .content, .vit, .gth, .srv, .img, .pwr] s (execUnitWakeDone unit lockFailed s) := by
  unfold execUnitWakeDone
  extract_lets +onlyGivenNames x0
  clear_value x0
  extract_lets +onlyGivenNames x1
  clear_value x1
  refine Answers.next ?_
  split
  · rename_i x2 x3 h4
    refine Touches.ite ?_ ?_
    · exact Touches.mono rfl (State.lockFails_touches _ _ _)
    · exact Touches.mono rfl (State.wakeUnit_touches _ _ _)
  · rename_i x5 h6
    exact Touches.refl _ _

theorem execUnitWakeStart_answers (unit s) :
    Answers [.pwr] s (execUnitWakeStart unit s) := by
  unfold execUnitWakeStart
  extract_lets +onlyGivenNames x0
  clear_value x0
  extract_lets +onlyGivenNames x1
  clear_value x1
  refine Answers.next (Touches.ite ?_ ?_)
  · exact Touches.mono rfl (State.modPunit_touches _ _ _)
  · exact Touches.refl _ _

theorem execVddLow_answers (sensor s) :
    Answers [.out, .reg, .host, .pwr] s (execVddLow sensor s) := by
  unfold execVddLow
  extract_lets +onlyGivenNames x0
  clear_value x0
  refine Answers.next ?_
  split
  · rename_i x1 x2 h3
    refine Touches.ite ?_ ?_
    · extract_lets +onlyGivenNames x4
      refine Touches.cut (x := x4) ?_ (fun h5 => ?_)
      · unfold x4
        exact Touches.mono rfl (State.event_touches _ _ _ _)
      clear_value x4
      exact Touches.after (State.holdThermal_touches _) rfl (Touches.put_pwr rfl h5)
    · exact Touches.refl _ _
  · rename_i x6 h7
    exact Touches.refl _ _

/-! Machine/Stack.lean -/

theorem State.stackDeliver_touches (s k id w) :
    Touches [.reg, .frames] s (State.stackDeliver s k id w) := by
  unfold State.stackDeliver
  split
  · rename_i x0 h1
    exact Touches.refl _ _
  · rename_i x2 x3 h4
    extract_lets +onlyGivenNames x5
    clear_value x5
    refine Touches.after (State.deliver_touches _ _ _ _) rfl (Touches.ite ?_ ?_)
    · exact Touches.refl _ _
    · exact Touches.mono rfl (State.countSearch_touches _ _)

theorem State.stackFail_touches (s k id) :
    Touches [.freeCtr, .out, .reg, .host, .ops, .led, .strands, .grants, .frames, .content, .vit, .gth, .srv, .img] s (State.stackFail s k id) := by
  unfold State.stackFail
  extract_lets +onlyGivenNames x0
  refine Touches.cut (x := x0) ?_ (fun h1 => ?_)
  · unfold x0
    exact Touches.mono rfl (State.transient_touches _ _ _)
  clear_value x0
  split
  rename_i x2 x3 x4 h5
  refine Touches.cut (Touches.of_snd h5 ?_) (fun k6 => ?_)
  · exact Touches.after (State.retryFrame_touches _ _ _) rfl h1
  refine Touches.ite ?_ ?_
  · exact Touches.after (State.waitSearch_touches _ _ _) rfl k6
  · exact k6

theorem State.endHead_touches (s h word) :
    Touches [.freeCtr, .out, .reg, .host, .ops, .led, .strands, .grants, .frames, .content, .vit, .gth, .srv, .img, .nwl, .stk] s (State.endHead s h word) := by
  unfold State.endHead
  extract_lets +onlyGivenNames x0
  clear_value x0
  extract_lets +onlyGivenNames x1
  refine Touches.cut (x := x1) ?_ (fun h2 => ?_)
  · unfold x1
    exact Touches.put_stk rfl (Touches.refl _ _)
  clear_value x1
  refine Touches.ite ?_ ?_
  · split
    · rename_i x3 x4
      exact Touches.after (State.stackDeliver_touches _ _ _ _) rfl h2
    · rename_i x5
      exact Touches.after (State.stackFail_touches _ _ _) rfl h2
  · exact Touches.after (State.queueRecordOn_touches _ _ _ _) rfl h2

theorem State.finishHead_touches (s h w) :
    Touches [.freeCtr, .out, .reg, .host, .ops, .led, .strands, .grants, .frames, .content, .vit, .gth, .srv, .img, .nwl, .stk] s (State.finishHead s h w) := by
  unfold State.finishHead
  exact Touches.mono rfl (State.endHead_touches _ _ _)

theorem State.holdShoal_touches (s tag word) :
    Touches [.stk] s (State.holdShoal s tag word) := by
  unfold State.holdShoal
  extract_lets +onlyGivenNames x0
  clear_value x0
  exact Touches.put_stk rfl (Touches.refl _ _)

theorem State.localWord_touches (s tag table key version lost) :
    Touches [.vit] s (State.localWord s tag table key version lost).2 := by
  unfold State.localWord
  split
  · rename_i x0 h1
    exact Touches.snd_mk (Touches.refl _ _)
  · rename_i x2 x3 h4
    refine Touches.ite_snd ?_ ?_
    · exact Touches.snd_mk (Touches.refl _ _)
    · split
      rename_i x5 x6 x7 x8 h9
      refine Touches.snd_mk (Touches.ite ?_ ?_)
      · exact Touches.mono rfl (State.refreshEntry_touches _ _ _ _)
      · exact Touches.refl _ _

theorem State.issueHead_touches (s mode width key h) :
    Touches [.freeCtr, .out, .reg, .host, .ops, .led, .strands, .grants, .frames, .content, .vit, .gth, .srv, .img, .nwl, .stk] s (State.issueHead s mode width key h) := by
  unfold State.issueHead
  extract_lets +onlyGivenNames x0
  clear_value x0
  extract_lets +onlyGivenNames x1
  extract_lets +onlyGivenNames x2
  extract_lets +onlyGivenNames x3
  refine Touches.cut (x := x3) ?_ (fun h4 => ?_)
  · unfold x3
    exact Touches.put_stk rfl (Touches.refl _ _)
  extract_lets +onlyGivenNames x5
  refine Touches.cut (x := x5) ?_ (fun h6 => ?_)
  · unfold x5
    exact Touches.after (State.count_touches _ _) rfl h4
  refine Touches.ite ?_ ?_
  · refine Touches.ite ?_ ?_
    · exact Touches.after (State.endHead_touches _ _ _) rfl (Touches.after (State.count_touches _ _) rfl h6)
    · split
      rename_i x7 x8 x9 h10
      refine Touches.cut (Touches.of_snd h10 ?_) (fun k11 => ?_)
      · exact Touches.after (State.localWord_touches _ _ _ _ _ _) rfl h6
      refine Touches.ite ?_ ?_
      · exact Touches.after (State.finishHead_touches _ _ _) rfl k11
      · extract_lets +onlyGivenNames x12
        clear_value x12
        exact Touches.after (State.queueRecordOn_touches _ _ _ _) rfl (Touches.put_stk rfl k11)
  · extract_lets +onlyGivenNames x13
    extract_lets +onlyGivenNames x14
    clear_value x14
    extract_lets +onlyGivenNames x15
    refine Touches.cut (x := x15) ?_ (fun h16 => ?_)
    · unfold x15
      exact Touches.put_stk rfl h6
    clear_value x15
    refine Touches.ite ?_ ?_
    · split
      rename_i x17 x18 x19 h20
      refine Touches.cut (Touches.of_snd h20 ?_) (fun k21 => ?_)
      · exact Touches.after (State.localWord_touches _ _ _ _ _ _) rfl h16
      exact Touches.after (State.finishHead_touches _ _ _) rfl k21
    · extract_lets +onlyGivenNames x22
      clear_value x22
      exact Touches.after (State.queueRecordOn_touches _ _ _ _) rfl (Touches.put_stk rfl h16)

theorem State.takeRecord_touches (s type) :
    ∀ v y, (State.takeRecord s type) = some (v, y) → Touches [.nwl, .stk] s y := by
  unfold State.takeRecord
  split
  · rename_i x0 h1
    exact Touches.none_snd
  · rename_i x2 x3 h4
    extract_lets +onlyGivenNames x5
    clear_value x5
    extract_lets +onlyGivenNames x6
    clear_value x6
    extract_lets +onlyGivenNames x7
    clear_value x7
    extract_lets +onlyGivenNames x8
    refine Touches.cutP (ps := [.nwl, .stk]) (b := s) (x := x8) ?_ (fun h9 => ?_)
    · unfold x8
      exact Touches.put_stk rfl (Touches.refl _ _)
    clear_value x8
    refine Touches.some_snd (Touches.ite ?_ ?_)
    · exact Touches.after (State.freeHeld_touches _ _ _) rfl h9
    · exact h9

theorem execCascadeTimeout_answers (tag s) :
    Answers [.freeCtr, .out, .reg, .host, .ops, .led, .strands, .grants, .frames, .content, .vit, .gth, .srv, .img, .nwl, .stk] s (execCascadeTimeout tag s) := by
  unfold execCascadeTimeout
  refine Answers.next ?_
  split
  · rename_i x0 h1
    exact Touches.refl _ _
  · rename_i x2 x3 h4
    refine Touches.ite ?_ ?_
    · exact Touches.after (State.endHead_touches _ _ _) rfl (Touches.mono rfl (State.count_touches _ _))
    · exact Touches.refl _ _

theorem execLinkRecordRx_answers (s) :
    Answers [.out, .reg, .host, .nwl, .stk] s (execLinkRecordRx s) := by
  unfold execLinkRecordRx
  refine Answers.next ?_
  split
  · rename_i x0 h1
    exact Touches.refl _ _
  · rename_i x2 x3 x4 h5
    refine Touches.cut (Touches.of_some_snd h5 ?_) (fun k6 => ?_)
    · exact fun v y e => Touches.after (State.takeRecord_touches _ _ v y e) rfl (Touches.refl _ _)
    exact Touches.after (State.noteReach_touches _) rfl (Touches.put_stk rfl k6)

theorem execMatchTrainingWord_answers (word s) :
    Answers [.freeCtr, .out, .reg, .host, .ops, .led, .nwl, .stk] s (execMatchTrainingWord word s) := by
  unfold execMatchTrainingWord
  refine Answers.next ?_
  split
  · rename_i x0
    extract_lets +onlyGivenNames x1
    clear_value x1
    refine Touches.ite ?_ ?_
    · exact Touches.after (State.emit_touches _ _) rfl (Touches.put_stk rfl (Touches.refl _ _))
    · exact Touches.refl _ _
  · rename_i x2 x3
    refine Touches.ite ?_ ?_
    · refine Touches.ite ?_ ?_
      · exact Touches.after (State.noteReach_touches _) rfl (Touches.put_stk rfl (Touches.refl _ _))
      · split
        rename_i x4 x5 x6 h7
        refine Touches.cut (Touches.of_snd h7 ?_) (fun k8 => ?_)
        · exact Touches.mono rfl (State.freeBytes_touches _ _)
        exact Touches.after (State.nbrMismatch_touches _ _ _) rfl (Touches.put_stk rfl k8)
    · exact Touches.refl _ _

theorem execMatchWordRx_answers (w s) :
    Answers [.freeCtr, .out, .reg, .host, .ops, .led, .strands, .grants, .frames, .content, .vit, .gth, .srv, .img, .nwl, .stk] s (execMatchWordRx w s) := by
  unfold execMatchWordRx
  extract_lets +onlyGivenNames x0
  clear_value x0
  extract_lets +onlyGivenNames x1
  clear_value x1
  refine Answers.next (Touches.ite ?_ ?_)
  · exact Touches.refl _ _
  · refine Touches.ite ?_ ?_
    · split
      · rename_i x2 h3
        exact Touches.mono rfl (State.count_touches _ _)
      · rename_i x4 x5 h6
        refine Touches.ite ?_ ?_
        · exact Touches.after (State.endHead_touches _ _ _) rfl (Touches.mono rfl (State.count_touches _ _))
        · exact Touches.mono rfl (State.finishHead_touches _ _ _)
    · refine Touches.ite ?_ ?_
      · exact Touches.mono rfl (State.count_touches _ _)
      · split
        · rename_i x7 h8
          exact Touches.mono rfl (State.count_touches _ _)
        · rename_i x9 x10 h11
          extract_lets +onlyGivenNames x12
          clear_value x12
          extract_lets +onlyGivenNames x13
          refine Touches.cut (x := x13) ?_ (fun h14 => ?_)
          · unfold x13
            exact Touches.put_stk rfl (Touches.refl _ _)
          clear_value x13
          exact Touches.after (State.emit_touches _ _) rfl h14

theorem execReqRecordRx_answers (s) :
    Answers [.freeCtr, .out, .reg, .host, .ops, .led, .strands, .grants, .frames, .content, .vit, .gth, .srv, .img, .nwl, .stk] s (execReqRecordRx s) := by
  unfold execReqRecordRx
  refine Answers.next (Touches.ite ?_ ?_)
  · exact Touches.refl _ _
  · split
    · rename_i x0 h1
      exact Touches.refl _ _
    · rename_i x2 x3 x4 h5
      refine Touches.cut (Touches.of_some_snd h5 ?_) (fun k6 => ?_)
      · exact fun v y e => Touches.after (State.takeRecord_touches _ _ v y e) rfl (Touches.refl _ _)
      extract_lets +onlyGivenNames x7
      clear_value x7
      refine Touches.ite ?_ ?_
      · exact Touches.after (State.queueRecordOn_touches _ _ _ _) rfl k6
      · extract_lets +onlyGivenNames x8
        clear_value x8
        exact Touches.after (State.issueHead_touches _ _ _ _ _) rfl (Touches.after (State.count_touches _ _) rfl k6)

theorem execReqTimeout_answers (otag s) :
    Answers [.freeCtr, .out, .reg, .host, .ops, .led, .strands, .grants, .frames, .content, .vit, .gth, .srv, .img, .stk] s (execReqTimeout otag s) := by
  unfold execReqTimeout
  refine Answers.next ?_
  split
  · rename_i x0 h1
    exact Touches.refl _ _
  · rename_i x2 x3 h4
    refine Touches.ite ?_ ?_
    · extract_lets +onlyGivenNames x5
      clear_value x5
      extract_lets +onlyGivenNames x6
      refine Touches.cut (x := x6) ?_ (fun h7 => ?_)
      · unfold x6
        exact Touches.put_stk rfl (Touches.refl _ _)
      clear_value x6
      exact Touches.after (State.stackFail_touches _ _ _) rfl (Touches.after (State.count_touches _ _) rfl h7)
    · exact Touches.refl _ _

theorem execResultRecordRx_answers (s) :
    Answers [.freeCtr, .out, .reg, .host, .ops, .led, .strands, .grants, .frames, .content, .vit, .gth, .srv, .img, .nwl, .stk] s (execResultRecordRx s) := by
  unfold execResultRecordRx
  refine Answers.next ?_
  split
  · rename_i x0 h1
    exact Touches.refl _ _
  · rename_i x2 x3 x4 h5
    refine Touches.cut (Touches.of_some_snd h5 ?_) (fun k6 => ?_)
    · exact fun v y e => Touches.after (State.takeRecord_touches _ _ v y e) rfl (Touches.refl _ _)
    extract_lets +onlyGivenNames x7
    clear_value x7
    refine Touches.ite ?_ ?_
    · exact Touches.after (State.queueRecordOn_touches _ _ _ _) rfl k6
    · extract_lets +onlyGivenNames x8
      clear_value x8
      extract_lets +onlyGivenNames x9
      refine Touches.cut (x := x9) ?_ (fun h10 => ?_)
      · unfold x9
        refine Touches.ite ?_ ?_
        · exact Touches.after (State.count_touches _ _) rfl k6
        · exact k6
      clear_value x9
      split
      · rename_i x11 h12
        exact h10
      · rename_i x13 x14 h15
        extract_lets +onlyGivenNames x16
        clear_value x16
        extract_lets +onlyGivenNames x17
        refine Touches.cut (x := x17) ?_ (fun h18 => ?_)
        · unfold x17
          exact Touches.put_stk rfl h10
        clear_value x17
        refine Touches.ite ?_ ?_
        · exact Touches.after (State.stackFail_touches _ _ _) rfl h18
        · exact Touches.after (State.stackDeliver_touches _ _ _ _) rfl h18

theorem execSearchRecordRx_answers (lost s) :
    Answers [.out, .vit, .nwl, .stk] s (execSearchRecordRx lost s) := by
  unfold execSearchRecordRx
  refine Answers.next ?_
  split
  · rename_i x0 h1
    exact Touches.refl _ _
  · rename_i x2 x3 x4 h5
    refine Touches.cut (Touches.of_some_snd h5 ?_) (fun k6 => ?_)
    · exact fun v y e => Touches.after (State.takeRecord_touches _ _ v y e) rfl (Touches.refl _ _)
    extract_lets +onlyGivenNames x7
    clear_value x7
    extract_lets +onlyGivenNames x8
    clear_value x8
    extract_lets +onlyGivenNames x9
    clear_value x9
    extract_lets +onlyGivenNames x10
    clear_value x10
    extract_lets +onlyGivenNames x11
    clear_value x11
    extract_lets +onlyGivenNames x12
    clear_value x12
    refine Touches.ite ?_ ?_
    · extract_lets +onlyGivenNames x13
      refine Touches.cut (x := x13) ?_ (fun h14 => ?_)
      · unfold x13
        refine Touches.ite ?_ ?_
        · exact k6
        · exact Touches.after (State.queueRecordOn_touches _ _ _ _) rfl k6
      clear_value x13
      refine Touches.ite ?_ ?_
      · split
        rename_i x15 x16 x17 h18
        refine Touches.cut (Touches.of_snd h18 ?_) (fun k19 => ?_)
        · exact Touches.after (State.localWord_touches _ _ _ _ _ _) rfl h14
        refine Touches.ite ?_ ?_
        · exact Touches.after (State.emit_touches _ _) rfl k19
        · exact Touches.after (State.holdShoal_touches _ _ _) rfl k19
      · exact Touches.after (State.holdShoal_touches _ _ _) rfl h14
    · exact k6

theorem execStackSearchIssue_answers (frame id s) :
    Answers [.freeCtr, .out, .reg, .host, .ops, .led, .strands, .grants, .frames, .content, .vit, .gth, .srv, .img, .nwl, .stk] s (execStackSearchIssue frame id s) := by
  unfold execStackSearchIssue
  refine Answers.next ?_
  split
  · rename_i x0 h1
    exact Touches.refl _ _
  · rename_i x2 x3 h4
    extract_lets +onlyGivenNames x5
    clear_value x5
    extract_lets +onlyGivenNames x6
    clear_value x6
    refine Touches.ite ?_ ?_
    · exact Touches.refl _ _
    · refine Touches.ite ?_ ?_
      · refine Touches.ite ?_ ?_
        · exact Touches.refl _ _
        · extract_lets +onlyGivenNames x7
          refine Touches.cut (x := x7) ?_ (fun h8 => ?_)
          · unfold x7
            exact Touches.mono rfl (State.modFrame_touches _ _ _)
          clear_value x7
          exact Touches.after (State.issueHead_touches _ _ _ _ _) rfl h8
      · extract_lets +onlyGivenNames x9
        clear_value x9
        extract_lets +onlyGivenNames x10
        refine Touches.cut (x := x10) ?_ (fun h11 => ?_)
        · unfold x10
          exact Touches.mono rfl (State.modFrame_touches _ _ _)
        clear_value x10
        extract_lets +onlyGivenNames x12
        clear_value x12
        extract_lets +onlyGivenNames x13
        refine Touches.cut (x := x13) ?_ (fun h14 => ?_)
        · unfold x13
          exact Touches.put_stk rfl h11
        clear_value x13
        exact Touches.after (State.queueRecordOn_touches _ _ _ _) rfl h14

end Sys2Proof.Machine
end

