-- ==== Sys2Proof/Laws/TouchesBus.lean ====
section
/-!
SUPPORT. What the operations of register accesses, host commands, management, replay and time may change: one lemma each.
-/
namespace Sys2Proof.Machine

/-! Machine/RegOps.lean -/

theorem State.roomReturns_touches (s r) :
    Touches [.out, .reg, .host] s (State.roomReturns s r) := by
  unfold State.roomReturns
  refine Touches.ite ?_ ?_
  · exact Touches.mono rfl (State.drainCq_touches _ _)
  · refine Touches.ite ?_ ?_
    · exact Touches.mono rfl (State.flushLostEvents_touches _)
    · exact Touches.refl _ _

theorem State.enableRing_touches (s r) :
    Touches [.out, .reg, .host] s (State.enableRing s r) := by
  unfold State.enableRing
  extract_lets +onlyGivenNames x0
  refine Touches.cut (x := x0) ?_ (fun h1 => ?_)
  · unfold x0
    exact Touches.after (State.set_touches _ _ _) rfl (Touches.mono rfl (State.set_touches _ _ _))
  clear_value x0
  exact Touches.after (State.roomReturns_touches _ _) rfl (Touches.after (State.setRing_touches _ _ _) rfl h1)

theorem State.ringCtl_touches (s r v) :
    Touches [.out, .reg, .host] s (State.ringCtl s r v) := by
  unfold State.ringCtl
  refine Touches.ite ?_ ?_
  · exact Touches.mono rfl (State.set_touches _ _ _)
  · extract_lets +onlyGivenNames x0
    refine Touches.cut (x := x0) ?_ (fun h1 => ?_)
    · unfold x0
      exact Touches.mono rfl (State.set_touches _ _ _)
    clear_value x0
    refine Touches.ite ?_ ?_
    · exact Touches.after (State.enableRing_touches _ _) rfl h1
    · exact h1

theorem State.hostReset_touches (s) :
    Touches [.reg, .host, .img] s (State.hostReset s) := by
  unfold State.hostReset
  extract_lets +onlyGivenNames x0
  clear_value x0
  extract_lets +onlyGivenNames x1
  refine Touches.cut (x := x1) ?_ (fun h2 => ?_)
  · unfold x1
    refine Touches.foldl ?_ (fun t4 x5 h3 => ?_)
    · exact Touches.refl _ _
    · exact Touches.after (State.setRing_touches _ _ _) rfl (Touches.after (State.set_touches _ _ _) rfl h3)
  clear_value x1
  extract_lets +onlyGivenNames x6
  refine Touches.cut (x := x6) ?_ (fun h7 => ?_)
  · unfold x6
    exact Touches.put_reg rfl (fun hw => Tab.canon_filter _ _ _ hw) h2
  clear_value x6
  exact Touches.put_host_img rfl h7

theorem State.ideStop_touches (s) :
    Touches [.reg, .mgmt] s (State.ideStop s) := by
  unfold State.ideStop
  exact Touches.after (State.set_touches _ _ _) rfl (Touches.put_mgmt rfl (Touches.refl _ _))

theorem State.testTakesPort_touches (s l) :
    Touches [.freeCtr, .out, .reg, .host, .ops, .led, .strands, .grants, .frames, .tapQueue, .content, .vit, .gth, .srv, .img, .nwl, .stk, .fab, .mgmt] s (State.testTakesPort s l) := by
  unfold State.testTakesPort
  refine Touches.ite ?_ ?_
  · exact Touches.after (State.noteReach_touches _) rfl (Touches.put_stk rfl (Touches.refl _ _))
  · refine Touches.ite ?_ ?_
    · exact Touches.after (State.noteReach_touches _) rfl (Touches.put_stk rfl (Touches.refl _ _))
    · split
      · rename_i x0 x1 h2
        exact Touches.mono rfl (State.ethLink_touches _ _ _)
      · rename_i x3 x4 h5
        exact Touches.mono rfl (State.leaveUp_touches _ _ _)
      · rename_i x6 h7
        exact Touches.after (State.hostReset_touches _) rfl (Touches.after (State.ideStop_touches _) rfl (Touches.mono rfl (State.set_touches _ _ _)))

theorem State.laneCtl_touches (s l v) :
    Touches [.freeCtr, .out, .reg, .host, .ops, .led, .strands, .grants, .frames, .tapQueue, .content, .vit, .gth, .srv, .img, .nwl, .stk, .fab, .mgmt] s (State.laneCtl s l v) := by
  unfold State.laneCtl
  extract_lets +onlyGivenNames x0
  clear_value x0
  extract_lets +onlyGivenNames x1
  clear_value x1
  refine Touches.ite ?_ ?_
  · exact Touches.mono rfl (State.set_touches _ _ _)
  · extract_lets +onlyGivenNames x2
    clear_value x2
    extract_lets +onlyGivenNames x3
    clear_value x3
    extract_lets +onlyGivenNames x4
    refine Touches.cut (x := x4) ?_ (fun h5 => ?_)
    · unfold x4
      exact Touches.mono rfl (State.setWord_touches _ _ _)
    clear_value x4
    extract_lets +onlyGivenNames x6
    refine Touches.cut (x := x6) ?_ (fun h7 => ?_)
    · unfold x6
      refine Touches.ite ?_ ?_
      · exact h5
      · exact Touches.after (State.set_touches _ _ _) rfl h5
    clear_value x6
    extract_lets +onlyGivenNames x8
    refine Touches.cut (x := x8) ?_ (fun h9 => ?_)
    · unfold x8
      refine Touches.ite ?_ ?_
      · exact Touches.after (State.emit_touches _ _) rfl h7
      · exact h7
    clear_value x8
    refine Touches.ite ?_ ?_
    · exact Touches.after (State.testTakesPort_touches _ _) rfl h9
    · exact h9

theorem State.unmask_touches (s v) :
    Touches [.out, .reg] s (State.unmask s v) := by
  unfold State.unmask
  extract_lets +onlyGivenNames x0
  clear_value x0
  refine Touches.ite ?_ ?_
  · exact Touches.after (State.emit_touches _ _) rfl (Touches.mono rfl (State.clearBits_touches _ _ _))
  · exact Touches.refl _ _

theorem State.arrayWrite_touches (s off v) :
    ∀ y, (State.arrayWrite s off v) = some y → Touches [.freeCtr, .out, .reg, .host, .ops, .led, .strands, .grants, .frames, .tapQueue, .content, .vit, .gth, .srv, .img, .nwl, .stk, .fab, .mgmt] s y := by
  unfold State.arrayWrite
  split
  · rename_i x0 x1 h2
    exact Touches.some_ (Touches.mono rfl (State.ringCtl_touches _ _ _))
  · rename_i x3 h4
    split
    · rename_i x5 x6 h7
      refine Touches.ite_some ?_ ?_
      · exact Touches.some_ (Touches.refl _ _)
      · exact Touches.none_
    · rename_i x8 h9
      split
      · rename_i x10 x11 h12
        exact Touches.some_ (Touches.mono rfl (State.setGraphTarget_touches _ _ _))
      · rename_i x13 h14
        split
        · rename_i x15 x16 h17
          refine Touches.some_ (Touches.ite ?_ ?_)
          · exact Touches.mono rfl (State.retrainPort_touches _ _)
          · exact Touches.refl _ _
        · rename_i x18 h19
          split
          · rename_i x20 x21 h22
            exact Touches.some_ (Touches.mono rfl (State.laneCtl_touches _ _ _))
          · rename_i x23 h24
            split
            · rename_i x25 x26 h27
              exact Touches.some_ (Touches.after (State.unmask_touches _ _) rfl (Touches.mono rfl (State.set_touches _ _ _)))
            · rename_i x28 h29
              exact Touches.none_

theorem State.checkerCounts_touches (s off) :
    Touches [.freeCtr, .reg] s (State.checkerCounts s off) := by
  unfold State.checkerCounts
  split
  · rename_i x0 x1 h2
    refine Touches.ite ?_ ?_
    · split
      rename_i x3 x4 x5 h6
      refine Touches.cut (Touches.of_snd h6 ?_) (fun k7 => ?_)
      · exact Touches.mono rfl (State.free_touches _ _)
      exact Touches.after (State.count64_touches _ _ _) rfl k7
    · exact Touches.refl _ _
  · rename_i x8 h9
    exact Touches.refl _ _

theorem State.readUnit_touches (s u) :
    Touches [.out, .reg, .host] s (State.readUnit s u) := by
  unfold State.readUnit
  extract_lets +onlyGivenNames x0
  clear_value x0
  refine Touches.ite ?_ ?_
  · extract_lets +onlyGivenNames x1
    clear_value x1
    extract_lets +onlyGivenNames x2
    clear_value x2
    extract_lets +onlyGivenNames x3
    refine Touches.cut (x := x3) ?_ (fun h4 => ?_)
    · unfold x3
      exact Touches.put_host rfl (Touches.refl _ _)
    clear_value x3
    refine Touches.ite ?_ ?_
    · extract_lets +onlyGivenNames x5
      refine Touches.cut (x := x5) ?_ (fun h6 => ?_)
      · unfold x5
        exact Touches.after (State.event_touches _ _ _ _) rfl (Touches.after (State.setBits_touches _ _ _) rfl h4)
      clear_value x5
      exact Touches.after (State.platformEvent_touches _ _ _) rfl (Touches.after (State.wedge_touches _ _ _) rfl h6)
    · exact h4
  · exact Touches.put_host rfl (Touches.refl _ _)

theorem State.busRead_touches (s p off) :
    Touches [.freeCtr, .out, .reg, .host] s (State.busRead s p off).2 := by
  unfold State.busRead
  refine Touches.ite_snd ?_ ?_
  · split
    · rename_i x0 h1
      exact Touches.snd_mk (Touches.refl _ _)
    · rename_i x2 x3 h4
      extract_lets +onlyGivenNames x5
      clear_value x5
      refine Touches.ite_snd ?_ ?_
      · exact Touches.snd_mk (Touches.refl _ _)
      · extract_lets +onlyGivenNames x6
        refine Touches.cut (x := x6) ?_ (fun h7 => ?_)
        · unfold x6
          exact Touches.mono rfl (State.checkerCounts_touches _ _)
        clear_value x6
        extract_lets +onlyGivenNames x8
        clear_value x8
        extract_lets +onlyGivenNames x9
        clear_value x9
        extract_lets +onlyGivenNames x10
        clear_value x10
        extract_lets +onlyGivenNames x11
        refine Touches.cut (x := x11) ?_ (fun h12 => ?_)
        · unfold x11
          exact Touches.put_host rfl h7
        clear_value x11
        extract_lets +onlyGivenNames x13
        refine Touches.cut (x := x13) ?_ (fun h14 => ?_)
        · unfold x13
          refine Touches.ite ?_ ?_
          · refine Touches.ite ?_ ?_
            · exact Touches.after (State.setWord_touches _ _ _) rfl h12
            · exact h12
          · exact h7
        clear_value x13
        extract_lets +onlyGivenNames x15
        refine Touches.cut (x := x15) ?_ (fun h16 => ?_)
        · unfold x15
          refine Touches.ite ?_ ?_
          · exact Touches.after (State.setWord_touches _ _ _) rfl h14
          · exact h14
        clear_value x15
        extract_lets +onlyGivenNames x17
        refine Touches.cut (x := x17) ?_ (fun h18 => ?_)
        · unfold x17
          split
          · rename_i x19 x20 h21
            exact Touches.after (State.readUnit_touches _ _) rfl h16
          · rename_i x22 h23
            assumption
        clear_value x17
        exact Touches.snd_mk h18
  · exact Touches.snd_mk (Touches.refl _ _)

theorem State.lockViolation_touches (s p off v) :
    Touches [.reg] s (State.lockViolation s p off v) := by
  unfold State.lockViolation
  extract_lets +onlyGivenNames x0
  refine Touches.cut (x := x0) ?_ (fun h1 => ?_)
  · unfold x0
    exact Touches.after (State.set_touches _ _ _) rfl (Touches.mono rfl (State.count_touches _ _))
  clear_value x0
  exact Touches.after (State.set_touches _ _ _) rfl (Touches.after (State.set_touches _ _ _) rfl h1)

theorem State.recCmd_stays (s v) :
    Stays Part.every s (State.recCmd s v) := by
  unfold State.recCmd
  have h1 : Stays Part.every s (if bit v 0 then s.recProgram else .next s) :=
    Stays.ite ((State.recProgram_stays s).mono rfl) (Stays.next (Touches.refl _ _))
  have h2 := Stays.ite (c := bit v 1 = true) (h1.andThen (fun u => (State.recErase_stays u).mono rfl)) h1
  exact Stays.ite (h2.andThen (fun u => Stays.next ((State.recRestart_touches u).mono rfl))) h2

theorem State.ledgerFetch_touches (s) :
    Touches [.reg] s (State.ledgerFetch s) := by
  unfold State.ledgerFetch
  split
  · rename_i x0 x1 h2
    refine Touches.after (State.set_touches _ _ _) rfl (Touches.foldl ?_ (fun t4 x5 h3 => ?_))
    · exact Touches.refl _ _
    · exact Touches.after (State.set_touches _ _ _) rfl h3
  · rename_i x6 h7
    exact Touches.mono rfl (State.set_touches _ _ _)

theorem State.singleWrite_touches (s off v) :
    ∀ y, (State.singleWrite s off v) = some y → Touches Part.every s y := by
  unfold State.singleWrite
  refine Touches.ite_some ?_ ?_
  · exact Touches.some_ (Touches.mono rfl (State.writeSlew_touches _ _))
  · refine Touches.ite_some ?_ ?_
    · refine Touches.some_ (Touches.ite ?_ ?_)
      · exact Touches.mono rfl (State.writeTideSet_touches _)
      · exact Touches.refl _ _
    · refine Touches.ite_some ?_ ?_
      · extract_lets +onlyGivenNames x0
        refine Touches.cutP (ps := Part.every) (b := s) (x := x0) ?_ (fun h1 => ?_)
        · unfold x0
          refine Touches.ite ?_ ?_
          · exact Touches.mono rfl (State.saInstall_touches _)
          · exact Touches.refl _ _
        clear_value x0
        refine Touches.some_ (Touches.ite ?_ ?_)
        · exact Touches.after (State.saDisable_touches _) rfl h1
        · exact h1
      · refine Touches.ite_some ?_ ?_
        · exact Touches.some_ (Touches.put_resetKey rfl (Touches.refl _ _))
        · refine Touches.ite_some ?_ ?_
          · extract_lets +onlyGivenNames x2
            refine Touches.cutP (ps := Part.every) (b := s) (x := x2) ?_ (fun h3 => ?_)
            · unfold x2
              exact Touches.after (State.set_touches _ _ _) rfl (Touches.mono rfl (State.set_touches _ _ _))
            clear_value x2
            refine Touches.some_ (Touches.ite ?_ ?_)
            · exact Touches.after (State.resetGoWrite_touches _ _ _) rfl h3
            · exact h3
          · refine Touches.ite_some ?_ ?_
            · refine Touches.some_ (Touches.ite ?_ ?_)
              · exact Touches.mono rfl (State.ledgerFetch_touches _)
              · exact Touches.refl _ _
            · exact Touches.none_

theorem State.busWrite_stays (s p off v) :
    Stays Part.every s (State.busWrite s p off v) := by
  unfold State.busWrite
  refine Stays.ite ?_ ?_
  · split
    · rename_i x0 h1
      exact Stays.next (Touches.refl _ _)
    · rename_i x2 x3 h4
      refine Stays.ite ?_ ?_
      · exact Stays.next (Touches.mono rfl (State.lockViolation_touches _ _ _ _))
      · refine Stays.ite ?_ ?_
        · exact Stays.after (State.recCmd_stays _ _) rfl (Touches.refl _ _)
        · refine Stays.next ?_
          split
          · rename_i x5 x6 h7
            refine Touches.cut (Touches.of_some h7 ?_) (fun k8 => ?_)
            · refine Touches.orElse ?_ ?_
              · exact fun y e => Touches.after (State.arrayWrite_touches _ _ _ y e) rfl (Touches.refl _ _)
              · exact fun y e => Touches.after (State.singleWrite_touches _ _ _ y e) rfl (Touches.refl _ _)
            exact k8
          · rename_i x9 h10
            exact Touches.mono rfl (State.setWord_touches _ _ _)
  · exact Stays.next (Touches.refl _ _)

theorem State.doorbellBad_touches (s r v) :
    Touches [.out, .reg, .host] s (State.doorbellBad s r v) := by
  unfold State.doorbellBad
  exact Touches.mono rfl (State.event_touches _ _ _ _)

theorem State.sqTail_touches (s q v) :
    Touches [.out, .reg, .host] s (State.sqTail s q v) := by
  unfold State.sqTail
  extract_lets +onlyGivenNames x0
  clear_value x0
  extract_lets +onlyGivenNames x1
  clear_value x1
  extract_lets +onlyGivenNames x2
  clear_value x2
  refine Touches.ite ?_ ?_
  · exact Touches.mono rfl (State.doorbellBad_touches _ _ _)
  · refine Touches.ite ?_ ?_
    · exact Touches.refl _ _
    · extract_lets +onlyGivenNames x3
      clear_value x3
      exact Touches.mono rfl (State.setRing_touches _ _ _)

theorem State.ringHead_touches (s r v) :
    Touches [.out, .reg, .host] s (State.ringHead s r v) := by
  unfold State.ringHead
  extract_lets +onlyGivenNames x0
  clear_value x0
  extract_lets +onlyGivenNames x1
  clear_value x1
  extract_lets +onlyGivenNames x2
  clear_value x2
  extract_lets +onlyGivenNames x3
  clear_value x3
  refine Touches.ite ?_ ?_
  · exact Touches.mono rfl (State.doorbellBad_touches _ _ _)
  · exact Touches.after (State.roomReturns_touches _ _) rfl (Touches.mono rfl (State.setRing_touches _ _ _))

theorem State.doorbell_touches (s r v) :
    Touches [.out, .reg, .host] s (State.doorbell s r v) := by
  unfold State.doorbell
  refine Touches.ite ?_ ?_
  · refine Touches.ite ?_ ?_
    · exact Touches.mono rfl (State.sqTail_touches _ _ _)
    · exact Touches.mono rfl (State.ringHead_touches _ _ _)
  · exact Touches.refl _ _

theorem State.doorbellAccess_touches (s r v) :
    Touches [.out, .reg, .host] s (State.doorbellAccess s r v) := by
  unfold State.doorbellAccess
  split
  · rename_i x0 x1
    exact Touches.mono rfl (State.doorbell_touches _ _ _)
  · rename_i x2
    refine Touches.ite ?_ ?_
    · exact Touches.mono rfl (State.emit_touches _ _)
    · exact Touches.refl _ _

theorem State.winRead_touches (s off size) :
    Touches [.host] s (State.winRead s off size).2 := by
  unfold State.winRead
  extract_lets +onlyGivenNames x0
  clear_value x0
  extract_lets +onlyGivenNames x1
  clear_value x1
  extract_lets +onlyGivenNames x2
  clear_value x2
  split
  · rename_i x3 x4
    refine Touches.ite_snd ?_ ?_
    · exact Touches.snd_mk (Touches.put_host rfl (Touches.refl _ _))
    · exact Touches.snd_mk (Touches.refl _ _)
  · rename_i x5
    exact Touches.snd_mk (Touches.refl _ _)

theorem State.pcieRead_touches (s b off size) :
    Touches [.freeCtr, .out, .reg, .host] s (State.pcieRead s b off size) := by
  unfold State.pcieRead
  refine Touches.ite ?_ ?_
  · exact Touches.refl _ _
  · refine Touches.ite ?_ ?_
    · exact Touches.mono rfl (State.emit_touches _ _)
    · refine Touches.ite ?_ ?_
      · exact Touches.after (State.emit_touches _ _) rfl (Touches.mono rfl (State.count_touches _ _))
      · split
        · rename_i x0
          split
          rename_i x1 x2 x3 h4
          refine Touches.cut (Touches.of_snd h4 ?_) (fun k5 => ?_)
          · exact Touches.mono rfl (State.busRead_touches _ _ _)
          refine Touches.ite ?_ ?_
          · split
            rename_i x6 x7 x8 h9
            refine Touches.cut (Touches.of_snd h9 ?_) (fun k10 => ?_)
            · exact Touches.after (State.busRead_touches _ _ _) rfl k5
            exact Touches.after (State.emit_touches _ _) rfl k10
          · exact Touches.after (State.emit_touches _ _) rfl k5
        · rename_i x11
          exact Touches.mono rfl (State.emit_touches _ _)
        · rename_i x12
          split
          rename_i x13 x14 x15 h16
          refine Touches.cut (Touches.of_snd h16 ?_) (fun k17 => ?_)
          · exact Touches.mono rfl (State.winRead_touches _ _ _)
          exact Touches.after (State.emit_touches _ _) rfl k17

theorem State.pathRead_touches (s p off size) :
    Touches [.freeCtr, .out, .reg, .host] s (State.pathRead s p off size) := by
  unfold State.pathRead
  split
  · rename_i x0
    exact Touches.mono rfl (State.pcieRead_touches _ _ _ _)
  · rename_i x1
    split
    rename_i x2 x3 x4 h5
    refine Touches.cut (Touches.of_snd h5 ?_) (fun k6 => ?_)
    · exact Touches.mono rfl (State.busRead_touches _ _ _)
    exact Touches.after (State.emit_touches _ _) rfl k6

theorem State.winWrite_touches (s off v) :
    Touches [.reg, .host] s (State.winWrite s off v) := by
  unfold State.winWrite
  extract_lets +onlyGivenNames x0
  clear_value x0
  split
  · rename_i x1 x2 h3
    refine Touches.ite ?_ ?_
    · exact Touches.put_host rfl (Touches.refl _ _)
    · exact Touches.mono rfl (State.count_touches _ _)
  · rename_i x4 h5
    exact Touches.mono rfl (State.count_touches _ _)

theorem State.pcieWrite_stays (s b off size poisoned v) :
    Stays Part.every s (State.pcieWrite s b off size poisoned v) := by
  unfold State.pcieWrite
  refine Stays.ite ?_ ?_
  · exact Stays.next (Touches.refl _ _)
  · refine Stays.ite ?_ ?_
    · exact Stays.next (Touches.refl _ _)
    · refine Stays.ite ?_ ?_
      · exact Stays.next (Touches.after (State.sendVector_touches _ _) rfl (Touches.mono rfl (State.emit_touches _ _)))
      · refine Stays.ite ?_ ?_
        · exact Stays.next (Touches.after (State.emit_touches _ _) rfl (Touches.mono rfl (State.count_touches _ _)))
        · split
          · rename_i x0
            refine Stays.ite ?_ ?_
            · split
              · rename_i x1 x2 h3
                refine Stays.cut (Touches.of_next h3 ?_) (fun k4 => ?_)
                · exact Stays.after (State.busWrite_stays _ _ _ _) rfl (Touches.refl _ _)
                exact Stays.after (State.busWrite_stays _ _ _ _) rfl k4
              · rename_i x5 h6
                exact Stays.after (State.busWrite_stays _ _ _ _) rfl (Touches.refl _ _)
            · exact Stays.after (State.busWrite_stays _ _ _ _) rfl (Touches.refl _ _)
          · rename_i x7
            refine Stays.next ?_
            split
            · rename_i x8 x9 h10
              exact Touches.mono rfl (State.doorbell_touches _ _ _)
            · rename_i x11 h12
              exact Touches.refl _ _
          · rename_i x13
            exact Stays.next (Touches.mono rfl (State.winWrite_touches _ _ _))

theorem State.pathWrite_stays (s p off v) :
    Stays Part.every s (State.pathWrite s p off v) := by
  unfold State.pathWrite
  split
  · rename_i x0
    exact Stays.after (State.pcieWrite_stays _ _ _ _ _ _) rfl (Touches.refl _ _)
  · rename_i x1
    exact Stays.after (State.busWrite_stays _ _ _ _) rfl (Touches.refl _ _)

/-! Machine/HostCmds.lean -/

theorem State.pcieReset_touches (s c) :
    Touches [.reg, .host, .img, .mgmt] s (State.pcieReset s c) := by
  unfold State.pcieReset
  split
  · rename_i x0
    exact Touches.after (State.hostReset_touches _) rfl (Touches.mono rfl (State.ideStop_touches _))
  · rename_i x1
    exact Touches.after (State.hostReset_touches _) rfl (Touches.after (State.ideStop_touches _) rfl (Touches.mono rfl (State.set_touches _ _ _)))
  · rename_i x2
    refine Touches.ite ?_ ?_
    · exact Touches.after (State.hostReset_touches _) rfl (Touches.mono rfl (State.set_touches _ _ _))
    · exact Touches.refl _ _

theorem execAccessionHeadDoorbell_answers (v s) :
    Answers [.out, .reg, .host] s (execAccessionHeadDoorbell v s) := by
  unfold execAccessionHeadDoorbell
  exact Answers.next (Touches.mono rfl (State.doorbellAccess_touches _ _ _))

theorem execBadOpcode_answers (q e opcode s) :
    Answers [.out, .reg, .host] s (execBadOpcode q e opcode s) := by
  unfold execBadOpcode
  refine Answers.next (Touches.ite ?_ ?_)
  · extract_lets +onlyGivenNames x0
    clear_value x0
    exact Touches.after (State.completeCq_touches _ _ _) rfl (Touches.mono rfl (State.takeEntry_touches _ _))
  · exact Touches.refl _ _

theorem execCqHeadDoorbell_answers (q v s) :
    Answers [.out, .reg, .host] s (execCqHeadDoorbell q v s) := by
  unfold execCqHeadDoorbell
  exact Answers.next (Touches.mono rfl (State.doorbellAccess_touches _ _ _))

theorem execD3hotEntry_answers (s) :
    Answers [.reg] s (execD3hotEntry s) := by
  unfold execD3hotEntry
  refine Answers.next (Touches.ite ?_ ?_)
  · exact Touches.mono rfl (State.set_touches _ _ _)
  · exact Touches.refl _ _

theorem execEventHeadDoorbell_answers (v s) :
    Answers [.out, .reg, .host] s (execEventHeadDoorbell v s) := by
  unfold execEventHeadDoorbell
  exact Answers.next (Touches.mono rfl (State.doorbellAccess_touches _ _ _))

theorem execIrqTimer_answers (r s) :
    Answers [.out, .reg, .host] s (execIrqTimer r s) := by
  unfold execIrqTimer
  extract_lets +onlyGivenNames x0
  clear_value x0
  extract_lets +onlyGivenNames x1
  clear_value x1
  refine Answers.next (Touches.ite ?_ ?_)
  · exact Touches.mono rfl (State.sendRingIrq_touches _ _)
  · exact Touches.refl _ _

theorem execNop_answers (q e s) :
    Answers [.freeCtr, .out, .reg, .host] s (execNop q e s) := by
  unfold execNop
  refine Answers.next (Touches.trans ?_ (State.sqCommand_touches rfl _ _ _ _ _ (fun t0 t1 => ?_)))
  · exact Touches.refl _ _
  · exact Touches.mono rfl (State.complete_touches _ _ _ _)

theorem execPcieReset_answers (c s) :
    Answers [.reg, .host, .img, .mgmt] s (execPcieReset c s) := by
  unfold execPcieReset
  refine Answers.next (Touches.ite ?_ ?_)
  · exact Touches.mono rfl (State.pcieReset_touches _ _)
  · exact Touches.refl _ _

theorem execRrHeadDoorbell_answers (r v s) :
    Answers [.out, .reg, .host] s (execRrHeadDoorbell r v s) := by
  unfold execRrHeadDoorbell
  exact Answers.next (Touches.mono rfl (State.doorbellAccess_touches _ _ _))

theorem execSqFetchFail_answers (q cause s) :
    Answers [.out, .reg, .host] s (execSqFetchFail q cause s) := by
  unfold execSqFetchFail
  refine Answers.next (Touches.ite ?_ ?_)
  · exact Touches.after (State.event_touches _ _ _ _) rfl (Touches.mono rfl (State.set_touches _ _ _))
  · exact Touches.refl _ _

theorem execSqTailDoorbell_answers (q v s) :
    Answers [.out, .reg, .host] s (execSqTailDoorbell q v s) := by
  unfold execSqTailDoorbell
  exact Answers.next (Touches.mono rfl (State.doorbellAccess_touches _ _ _))

theorem execUnitTimeout_answers (st e s) :
    Answers [.freeCtr, .out, .reg, .host, .ops, .led, .strands, .grants, .frames, .content, .vit, .gth, .srv, .img] s (execUnitTimeout st e s) := by
  unfold execUnitTimeout
  refine Answers.next ?_
  split
  · rename_i x0 x1 h2
    refine Touches.ite ?_ ?_
    · extract_lets +onlyGivenNames x3
      refine Touches.cut (x := x3) ?_ (fun h4 => ?_)
      · unfold x3
        exact Touches.mono rfl (State.transient_touches _ _ _)
      clear_value x3
      refine Touches.ite ?_ ?_
      · exact Touches.after (State.repeatGrant_touches _ _) rfl h4
      · exact h4
    · exact Touches.refl _ _
  · rename_i x5 h6
    exact Touches.refl _ _

/-! Machine/Mgmt.lean -/

theorem State.answer_touches (s what content request) :
    Touches [.out] s (State.answer s what content request) := by
  unfold State.answer
  exact Touches.mono rfl (State.emit_touches _ _)

theorem State.manage_answers {ps : List Part} (hps : sub [] ps = true) (s run) (frun : ∀ b0, Touches ps b0 (run b0)) :
    Answers ps s (State.manage s run) := by
  unfold State.manage
  refine Answers.next (Touches.ite ?_ ?_)
  · refine Touches.trans ?_ (frun _)
    exact Touches.refl _ _
  · exact Touches.refl _ _

theorem State.modSession_touches (s t k f) :
    Touches [.mgmt] s (State.modSession s t k f) := by
  unfold State.modSession
  exact Touches.put_mgmt rfl (Touches.refl _ _)

theorem State.ideKm_answers {ps : List Part} (hps : sub [.mgmt] ps = true) (s k run) (frun : ∀ b0, Touches ps b0 (run b0)) :
    Answers ps s (State.ideKm s k run) := by
  unfold State.ideKm
  refine Answers.trans ?_ (State.manage_answers (sub_trans rfl hps) _ _ (fun t0 => ?_))
  · exact Touches.refl _ _
  · split
    · rename_i x1 x2 h3
      refine Touches.ite ?_ ?_
      · refine Touches.trans ?_ (frun _)
        exact Touches.after (State.modSession_touches _ _ _ _) (sub_trans rfl hps) (Touches.refl _ _)
      · exact Touches.refl _ _
    · rename_i x4 h5
      exact Touches.refl _ _

theorem State.spdmError_touches (s code request) :
    Touches [.out] s (State.spdmError s code request) := by
  unfold State.spdmError
  exact Touches.mono rfl (State.answer_touches _ _ _ _)

theorem State.inSession_answers {ps : List Part} (hps : sub [.out, .mgmt] ps = true) (s t k established run) (frun : ∀ b0, Touches ps b0 (run b0)) :
    Answers ps s (State.inSession s t k established run) := by
  unfold State.inSession
  refine Answers.trans ?_ (State.manage_answers (sub_trans rfl hps) _ _ (fun t0 => ?_))
  · exact Touches.refl _ _
  · split
    · rename_i x1 x2 h3
      refine Touches.ite ?_ ?_
      · refine Touches.trans ?_ (frun _)
        exact Touches.after (State.modSession_touches _ _ _ _) (sub_trans rfl hps) (Touches.refl _ _)
      · exact Touches.after (State.spdmError_touches _ _ _) (sub_trans rfl hps) (Touches.refl _ _)
    · rename_i x4 h5
      exact Touches.after (State.spdmError_touches _ _ _) (sub_trans rfl hps) (Touches.refl _ _)

theorem State.negotiated_answers {ps : List Part} (hps : sub [.out] ps = true) (s t request run) (frun : ∀ b0, Touches ps b0 (run b0)) :
    Answers ps s (State.negotiated s t request run) := by
  unfold State.negotiated
  refine Answers.trans ?_ (State.manage_answers (sub_trans rfl hps) _ _ (fun t0 => ?_))
  · exact Touches.refl _ _
  · refine Touches.ite ?_ ?_
    · refine Touches.trans ?_ (frun _)
      exact Touches.refl _ _
    · exact Touches.after (State.spdmError_touches _ _ _) (sub_trans rfl hps) (Touches.refl _ _)

theorem State.setConn_touches (s t c) :
    Touches [.mgmt] s (State.setConn s t c) := by
  unfold State.setConn
  split
  · rename_i x0
    exact Touches.put_mgmt rfl (Touches.refl _ _)
  · rename_i x1
    exact Touches.put_mgmt rfl (Touches.refl _ _)

theorem State.respond_touches (s t what content request) :
    Touches [.freeCtr, .out, .mgmt] s (State.respond s t what content request) := by
  unfold State.respond
  extract_lets +onlyGivenNames x0
  clear_value x0
  extract_lets +onlyGivenNames x1
  clear_value x1
  refine Touches.ite ?_ ?_
  · split
    rename_i x2 x3 x4 h5
    refine Touches.cut (Touches.of_snd h5 ?_) (fun k6 => ?_)
    · exact Touches.mono rfl (State.free_touches _ _)
    exact Touches.after (State.emit_touches _ _) rfl (Touches.after (State.setConn_touches _ _ _) rfl k6)
  · exact Touches.mono rfl (State.emit_touches _ _)

theorem State.signed_touches (s t slot what content request) :
    Touches [.freeCtr, .out, .mgmt] s (State.signed s t slot what content request) := by
  unfold State.signed
  refine Touches.ite ?_ ?_
  · exact Touches.mono rfl (State.respond_touches _ _ _ _ _)
  · exact Touches.mono rfl (State.spdmError_touches _ _ _)

theorem execChallenge_answers (t slot request s) :
    Answers [.freeCtr, .out, .mgmt] s (execChallenge t slot request s) := by
  unfold execChallenge
  refine Answers.trans ?_ (State.negotiated_answers rfl _ _ _ _ (fun t0 => ?_))
  · exact Touches.refl _ _
  · exact Touches.mono rfl (State.signed_touches _ _ _ _ _ _)

theorem execChunkGet_answers (t handle seq s) :
    Answers [.out, .mgmt] s (execChunkGet t handle seq s) := by
  unfold execChunkGet
  extract_lets +onlyGivenNames x0
  clear_value x0
  refine Answers.trans ?_ (State.negotiated_answers rfl _ _ _ _ (fun t1 => ?_))
  · exact Touches.refl _ _
  · extract_lets +onlyGivenNames x2
    clear_value x2
    split
    · rename_i x3 x4 x5 h6
      refine Touches.ite ?_ ?_
      · extract_lets +onlyGivenNames x7
        refine Touches.cut (x := x7) ?_ (fun h8 => ?_)
        · unfold x7
          refine Touches.ite ?_ ?_
          · exact Touches.mono rfl (State.setConn_touches _ _ _)
          · exact Touches.refl _ _
        clear_value x7
        exact Touches.after (State.answer_touches _ _ _ _) rfl h8
      · exact Touches.mono rfl (State.spdmError_touches _ _ _)
    · rename_i x9 h10
      exact Touches.mono rfl (State.spdmError_touches _ _ _)

theorem execChunkSend_answers (t handle first last data s) :
    Answers [.out, .mgmt] s (execChunkSend t handle first last data s) := by
  unfold execChunkSend
  refine Answers.trans ?_ (State.negotiated_answers rfl _ _ _ _ (fun t0 => ?_))
  · exact Touches.refl _ _
  · extract_lets +onlyGivenNames x1
    clear_value x1
    extract_lets +onlyGivenNames x2
    clear_value x2
    split
    · rename_i x3 x4
      exact Touches.after (State.answer_touches _ _ _ _) rfl (Touches.mono rfl (State.setConn_touches _ _ _))
    · rename_i x5
      exact Touches.after (State.spdmError_touches _ _ _) rfl (Touches.mono rfl (State.setConn_touches _ _ _))

theorem execDoeDiscovery_answers (index s) :
    Answers [.out] s (execDoeDiscovery index s) := by
  unfold execDoeDiscovery
  refine Answers.trans ?_ (State.manage_answers rfl _ _ (fun t0 => ?_))
  · exact Touches.refl _ _
  · exact Touches.mono rfl (State.answer_touches _ _ _ _)

theorem execEndSession_answers (t k s) :
    Answers [.freeCtr, .out, .mgmt] s (execEndSession t k s) := by
  unfold execEndSession
  refine Answers.trans ?_ (State.inSession_answers rfl _ _ _ _ _ (fun t0 => ?_))
  · exact Touches.refl _ _
  · exact Touches.after (State.respond_touches _ _ _ _ _) rfl (Touches.put_mgmt rfl (Touches.refl _ _))

theorem execFinish_answers (t k ok s) :
    Answers [.freeCtr, .out, .mgmt] s (execFinish t k ok s) := by
  unfold execFinish
  refine Answers.trans ?_ (State.inSession_answers rfl _ _ _ _ _ (fun t0 => ?_))
  · exact Touches.refl _ _
  · refine Touches.ite ?_ ?_
    · exact Touches.after (State.respond_touches _ _ _ _ _) rfl (Touches.mono rfl (State.modSession_touches _ _ _ _))
    · exact Touches.after (State.spdmError_touches _ _ _) rfl (Touches.put_mgmt rfl (Touches.refl _ _))

theorem execGetCapabilities_answers (t version maxMessage s) :
    Answers [.freeCtr, .out, .mgmt] s (execGetCapabilities t version maxMessage s) := by
  unfold execGetCapabilities
  refine Answers.trans ?_ (State.manage_answers rfl _ _ (fun t0 => ?_))
  · exact Touches.refl _ _
  · refine Touches.ite ?_ ?_
    · exact Touches.after (State.respond_touches _ _ _ _ _) rfl (Touches.mono rfl (State.setConn_touches _ _ _))
    · exact Touches.mono rfl (State.spdmError_touches _ _ _)

theorem execGetCertificate_answers (t slot off len s) :
    Answers [.freeCtr, .out, .mgmt] s (execGetCertificate t slot off len s) := by
  unfold execGetCertificate
  extract_lets +onlyGivenNames x0
  clear_value x0
  refine Answers.trans ?_ (State.negotiated_answers rfl _ _ _ _ (fun t1 => ?_))
  · exact Touches.refl _ _
  · split
    · rename_i x2 x3 h4
      refine Touches.ite ?_ ?_
      · extract_lets +onlyGivenNames x5
        clear_value x5
        exact Touches.mono rfl (State.respond_touches _ _ _ _ _)
      · exact Touches.mono rfl (State.spdmError_touches _ _ _)
    · rename_i x6 h7
      exact Touches.mono rfl (State.spdmError_touches _ _ _)

theorem execGetCsr_answers (t request s) :
    Answers [.freeCtr, .out, .mgmt] s (execGetCsr t request s) := by
  unfold execGetCsr
  refine Answers.trans ?_ (State.negotiated_answers rfl _ _ _ _ (fun t0 => ?_))
  · exact Touches.refl _ _
  · exact Touches.mono rfl (State.respond_touches _ _ _ _ _)

theorem execGetDigests_answers (t s) :
    Answers [.freeCtr, .out, .mgmt] s (execGetDigests t s) := by
  unfold execGetDigests
  refine Answers.trans ?_ (State.negotiated_answers rfl _ _ _ _ (fun t0 => ?_))
  · exact Touches.refl _ _
  · exact Touches.mono rfl (State.respond_touches _ _ _ _ _)

theorem execGetEndpointId_answers (s) :
    Answers [.out] s (execGetEndpointId s) := by
  unfold execGetEndpointId
  refine Answers.trans ?_ (State.manage_answers rfl _ _ (fun t0 => ?_))
  · exact Touches.refl _ _
  · exact Touches.mono rfl (State.answer_touches _ _ _ _)

theorem execGetEndpointUuid_answers (s) :
    Answers [.out] s (execGetEndpointUuid s) := by
  unfold execGetEndpointUuid
  refine Answers.trans ?_ (State.manage_answers rfl _ _ (fun t0 => ?_))
  · exact Touches.refl _ _
  · exact Touches.mono rfl (State.answer_touches _ _ _ _)

theorem execGetMctpVersionSupport_answers (type s) :
    Answers [.out] s (execGetMctpVersionSupport type s) := by
  unfold execGetMctpVersionSupport
  refine Answers.trans ?_ (State.manage_answers rfl _ _ (fun t0 => ?_))
  · exact Touches.refl _ _
  · exact Touches.mono rfl (State.answer_touches _ _ _ _)

theorem execGetMeasurements_answers (t index sign request s) :
    Answers [.freeCtr, .out, .mgmt] s (execGetMeasurements t index sign request s) := by
  unfold execGetMeasurements
  refine Answers.trans ?_ (State.negotiated_answers rfl _ _ _ _ (fun t0 => ?_))
  · exact Touches.refl _ _
  · extract_lets +onlyGivenNames x1
    clear_value x1
    refine Touches.ite ?_ ?_
    · exact Touches.mono rfl (State.spdmError_touches _ _ _)
    · extract_lets +onlyGivenNames x2
      clear_value x2
      split
      · rename_i x3 x4
        exact Touches.mono rfl (State.signed_touches _ _ _ _ _ _)
      · rename_i x5
        exact Touches.mono rfl (State.respond_touches _ _ _ _ _)

theorem execGetMessageTypeSupport_answers (s) :
    Answers [.out] s (execGetMessageTypeSupport s) := by
  unfold execGetMessageTypeSupport
  refine Answers.trans ?_ (State.manage_answers rfl _ _ (fun t0 => ?_))
  · exact Touches.refl _ _
  · exact Touches.mono rfl (State.answer_touches _ _ _ _)

theorem execGetPdr_answers (handle s) :
    Answers [.out] s (execGetPdr handle s) := by
  unfold execGetPdr
  refine Answers.trans ?_ (State.manage_answers rfl _ _ (fun t0 => ?_))
  · exact Touches.refl _ _
  · exact Touches.mono rfl (State.answer_touches _ _ _ _)

theorem execGetPdrRepositoryInfo_answers (s) :
    Answers [.out] s (execGetPdrRepositoryInfo s) := by
  unfold execGetPdrRepositoryInfo
  refine Answers.trans ?_ (State.manage_answers rfl _ _ (fun t0 => ?_))
  · exact Touches.refl _ _
  · exact Touches.mono rfl (State.answer_touches _ _ _ _)

theorem execGetPldmCommands_answers (type s) :
    Answers [.out] s (execGetPldmCommands type s) := by
  unfold execGetPldmCommands
  refine Answers.trans ?_ (State.manage_answers rfl _ _ (fun t0 => ?_))
  · exact Touches.refl _ _
  · exact Touches.mono rfl (State.answer_touches _ _ _ _)

theorem execGetPldmTypes_answers (s) :
    Answers [.out] s (execGetPldmTypes s) := by
  unfold execGetPldmTypes
  refine Answers.trans ?_ (State.manage_answers rfl _ _ (fun t0 => ?_))
  · exact Touches.refl _ _
  · exact Touches.mono rfl (State.answer_touches _ _ _ _)

theorem execGetPldmVersion_answers (type s) :
    Answers [.out] s (execGetPldmVersion type s) := by
  unfold execGetPldmVersion
  refine Answers.trans ?_ (State.manage_answers rfl _ _ (fun t0 => ?_))
  · exact Touches.refl _ _
  · exact Touches.mono rfl (State.answer_touches _ _ _ _)

theorem execGetSensorReading_answers (sensor s) :
    Answers [.out] s (execGetSensorReading sensor s) := by
  unfold execGetSensorReading
  refine Answers.trans ?_ (State.manage_answers rfl _ _ (fun t0 => ?_))
  · exact Touches.refl _ _
  · exact Touches.mono rfl (State.answer_touches _ _ _ _)

theorem execGetStateSensorReadings_answers (u s) :
    Answers [.out, .reg, .host] s (execGetStateSensorReadings u s) := by
  unfold execGetStateSensorReadings
  refine Answers.trans ?_ (State.manage_answers rfl _ _ (fun t0 => ?_))
  · exact Touches.refl _ _
  · extract_lets +onlyGivenNames x1
    clear_value x1
    exact Touches.after (State.answer_touches _ _ _ _) rfl (Touches.mono rfl (State.readUnit_touches _ _))

theorem execGetTid_answers (s) :
    Answers [.out] s (execGetTid s) := by
  unfold execGetTid
  refine Answers.trans ?_ (State.manage_answers rfl _ _ (fun t0 => ?_))
  · exact Touches.refl _ _
  · exact Touches.mono rfl (State.answer_touches _ _ _ _)

theorem execGetVersion_answers (t s) :
    Answers [.freeCtr, .out, .mgmt] s (execGetVersion t s) := by
  unfold execGetVersion
  refine Answers.trans ?_ (State.manage_answers rfl _ _ (fun t0 => ?_))
  · exact Touches.refl _ _
  · extract_lets +onlyGivenNames x1
    refine Touches.cut (x := x1) ?_ (fun h2 => ?_)
    · unfold x1
      exact Touches.mono rfl (State.setConn_touches _ _ _)
    clear_value x1
    extract_lets +onlyGivenNames x3
    clear_value x3
    extract_lets +onlyGivenNames x4
    refine Touches.cut (x := x4) ?_ (fun h5 => ?_)
    · unfold x4
      exact Touches.put_mgmt rfl h2
    clear_value x4
    exact Touches.after (State.respond_touches _ _ _ _ _) rfl h5

theorem execHeartbeat_answers (t k s) :
    Answers [.freeCtr, .out, .mgmt] s (execHeartbeat t k s) := by
  unfold execHeartbeat
  refine Answers.trans ?_ (State.inSession_answers rfl _ _ _ _ _ (fun t0 => ?_))
  · exact Touches.refl _ _
  · exact Touches.mono rfl (State.respond_touches _ _ _ _ _)

theorem execIdeKmKSetGo_answers (k keySet s) :
    Answers [.freeCtr, .out, .reg, .mgmt] s (execIdeKmKSetGo k keySet s) := by
  unfold execIdeKmKSetGo
  refine Answers.trans ?_ (State.ideKm_answers rfl _ _ _ (fun t0 => ?_))
  · exact Touches.refl _ _
  · refine Touches.ite ?_ ?_
    · refine Touches.after (State.respond_touches _ _ _ _ _) rfl ?_
      exact Touches.after (State.set_touches _ _ _) rfl (Touches.put_mgmt rfl (Touches.refl _ _))
    · exact Touches.mono rfl (State.respond_touches _ _ _ _ _)

theorem execIdeKmKSetStop_answers (k keySet s) :
    Answers [.freeCtr, .out, .reg, .mgmt] s (execIdeKmKSetStop k keySet s) := by
  unfold execIdeKmKSetStop
  refine Answers.trans ?_ (State.ideKm_answers rfl _ _ _ (fun t0 => ?_))
  · exact Touches.refl _ _
  · extract_lets +onlyGivenNames x1
    refine Touches.cut (x := x1) ?_ (fun h2 => ?_)
    · unfold x1
      refine Touches.ite ?_ ?_
      · exact Touches.mono rfl (State.ideStop_touches _)
      · exact Touches.refl _ _
    clear_value x1
    exact Touches.after (State.respond_touches _ _ _ _ _) rfl h2

theorem execIdeKmKeyProg_answers (k sub transmit keySet key s) :
    Answers [.freeCtr, .out, .mgmt] s (execIdeKmKeyProg k sub transmit keySet key s) := by
  unfold execIdeKmKeyProg
  refine Answers.trans ?_ (State.ideKm_answers rfl _ _ _ (fun t0 => ?_))
  · exact Touches.refl _ _
  · extract_lets +onlyGivenNames x1
    clear_value x1
    exact Touches.after (State.respond_touches _ _ _ _ _) rfl (Touches.put_mgmt rfl (Touches.refl _ _))

theorem execIdeKmQuery_answers (k s) :
    Answers [.freeCtr, .out, .mgmt] s (execIdeKmQuery k s) := by
  unfold execIdeKmQuery
  refine Answers.trans ?_ (State.ideKm_answers rfl _ _ _ (fun t0 => ?_))
  · exact Touches.refl _ _
  · exact Touches.mono rfl (State.respond_touches _ _ _ _ _)

theorem execKeyExchange_answers (t slot request s) :
    Answers [.freeCtr, .out, .mgmt] s (execKeyExchange t slot request s) := by
  unfold execKeyExchange
  refine Answers.trans ?_ (State.negotiated_answers rfl _ _ _ _ (fun t0 => ?_))
  · exact Touches.refl _ _
  · refine Touches.ite ?_ ?_
    · exact Touches.mono rfl (State.spdmError_touches _ _ _)
    · split
      · rename_i x1 h2
        exact Touches.mono rfl (State.spdmError_touches _ _ _)
      · rename_i x3 x4 h5
        extract_lets +onlyGivenNames x6
        clear_value x6
        extract_lets +onlyGivenNames x7
        refine Touches.cut (x := x7) ?_ (fun h8 => ?_)
        · unfold x7
          exact Touches.put_mgmt rfl (Touches.refl _ _)
        clear_value x7
        exact Touches.after (State.respond_touches _ _ _ _ _) rfl h8

theorem execKeyUpdate_answers (t k s) :
    Answers [.freeCtr, .out, .mgmt] s (execKeyUpdate t k s) := by
  unfold execKeyUpdate
  refine Answers.trans ?_ (State.inSession_answers rfl _ _ _ _ _ (fun t0 => ?_))
  · exact Touches.refl _ _
  · exact Touches.after (State.respond_touches _ _ _ _ _) rfl (Touches.mono rfl (State.modSession_touches _ _ _ _))

theorem execMctpUnsupportedCmd_answers (type command s) :
    Answers [.out] s (execMctpUnsupportedCmd type command s) := by
  unfold execMctpUnsupportedCmd
  refine Answers.trans ?_ (State.manage_answers rfl _ _ (fun t0 => ?_))
  · exact Touches.refl _ _
  · refine Touches.ite ?_ ?_
    · exact Touches.mono rfl (State.answer_touches _ _ _ _)
    · exact Touches.refl _ _

theorem execNegotiateAlgorithms_answers (t offered request s) :
    Answers [.freeCtr, .out, .mgmt] s (execNegotiateAlgorithms t offered request s) := by
  unfold execNegotiateAlgorithms
  refine Answers.trans ?_ (State.manage_answers rfl _ _ (fun t0 => ?_))
  · exact Touches.refl _ _
  · extract_lets +onlyGivenNames x1
    clear_value x1
    refine Touches.ite ?_ ?_
    · exact Touches.mono rfl (State.spdmError_touches _ _ _)
    · refine Touches.ite ?_ ?_
      · exact Touches.after (State.respond_touches _ _ _ _ _) rfl (Touches.mono rfl (State.setConn_touches _ _ _))
      · exact Touches.mono rfl (State.spdmError_touches _ _ _)

theorem execSetEndpointId_answers (eid s) :
    Answers [.out, .mgmt] s (execSetEndpointId eid s) := by
  unfold execSetEndpointId
  refine Answers.trans ?_ (State.manage_answers rfl _ _ (fun t0 => ?_))
  · exact Touches.refl _ _
  · extract_lets +onlyGivenNames x1
    clear_value x1
    extract_lets +onlyGivenNames x2
    refine Touches.cut (x := x2) ?_ (fun h3 => ?_)
    · unfold x2
      refine Touches.ite ?_ ?_
      · exact Touches.put_mgmt rfl (Touches.refl _ _)
      · exact Touches.refl _ _
    clear_value x2
    exact Touches.after (State.answer_touches _ _ _ _) rfl h3

theorem execSetEventReceiver_answers (receiver s) :
    Answers [.out, .mgmt] s (execSetEventReceiver receiver s) := by
  unfold execSetEventReceiver
  refine Answers.trans ?_ (State.manage_answers rfl _ _ (fun t0 => ?_))
  · exact Touches.refl _ _
  · exact Touches.after (State.answer_touches _ _ _ _) rfl (Touches.put_mgmt rfl (Touches.refl _ _))

theorem execSetTid_answers (tid s) :
    Answers [.out, .mgmt] s (execSetTid tid s) := by
  unfold execSetTid
  refine Answers.trans ?_ (State.manage_answers rfl _ _ (fun t0 => ?_))
  · exact Touches.refl _ _
  · extract_lets +onlyGivenNames x1
    clear_value x1
    extract_lets +onlyGivenNames x2
    refine Touches.cut (x := x2) ?_ (fun h3 => ?_)
    · unfold x2
      refine Touches.ite ?_ ?_
      · exact Touches.put_mgmt rfl (Touches.refl _ _)
      · exact Touches.refl _ _
    clear_value x2
    exact Touches.after (State.answer_touches _ _ _ _) rfl h3

/-! Machine/Models.lean -/

theorem State.classifierEnd_touches (s u e ecc) :
    Touches [.freeCtr, .out, .reg, .host, .ops, .led, .strands, .grants, .frames, .content, .vit, .gth, .srv, .img] s (State.classifierEnd s u e ecc) := by
  unfold State.classifierEnd
  split
  · rename_i x0
    exact Touches.refl _ _
  · rename_i x1
    exact Touches.after (State.corrected_touches _ _ _) rfl (Touches.mono rfl (State.count_touches _ _))
  · rename_i x2
    exact Touches.mono rfl (State.transient_touches _ _ _)

theorem State.modelLost_touches (s f pos) :
    Touches [.freeCtr, .out, .reg, .host, .ops, .led, .strands, .grants, .frames, .content, .vit, .gth, .srv, .img] s (State.modelLost s f pos) := by
  unfold State.modelLost
  split
  · rename_i x0 x1 x2 h3
    exact Touches.after (State.markBad_touches _ _ _ _) rfl (Touches.mono rfl (State.hbmUe_touches _ _))
  · rename_i x4 h5
    exact Touches.refl _ _

theorem State.finishModel_touches (s f m c) :
    Touches [.reg, .grants, .frames] s (State.finishModel s f m c) := by
  unfold State.finishModel
  extract_lets +onlyGivenNames x0
  clear_value x0
  extract_lets +onlyGivenNames x1
  clear_value x1
  extract_lets +onlyGivenNames x2
  clear_value x2
  extract_lets +onlyGivenNames x3
  refine Touches.cut (x := x3) ?_ (fun h4 => ?_)
  · unfold x3
    refine Touches.after (State.countBy_touches _ _ _) rfl (Touches.after (State.countBy_touches _ _ _) rfl ?_)
    exact Touches.after (State.countBy_touches _ _ _) rfl (Touches.mono rfl (State.count_touches _ _))
  clear_value x3
  extract_lets +onlyGivenNames x5
  refine Touches.cut (x := x5) ?_ (fun h6 => ?_)
  · unfold x5
    exact Touches.put_grants rfl h4
  clear_value x5
  exact Touches.after (State.modFrame_touches _ _ _) rfl h6

theorem State.endProgram_touches (s f m work contentUe) :
    Touches [.freeCtr, .out, .reg, .host, .ops, .led, .strands, .grants, .frames, .content, .vit, .gth, .srv, .img, .pwr] s (State.endProgram s f m work contentUe) := by
  unfold State.endProgram
  extract_lets +onlyGivenNames x0
  refine Touches.cut (x := x0) ?_ (fun h1 => ?_)
  · unfold x0
    refine Touches.ite ?_ ?_
    · exact Touches.mono rfl (State.modelLost_touches _ _ _)
    · exact Touches.refl _ _
  clear_value x0
  extract_lets +onlyGivenNames x2
  clear_value x2
  extract_lets +onlyGivenNames x3
  refine Touches.cut (x := x3) ?_ (fun h4 => ?_)
  · unfold x3
    exact Touches.after (State.touchUnit_touches _ _ _) rfl (Touches.after (State.classifierEnd_touches _ _ _ _) rfl h1)
  clear_value x3
  refine Touches.ite ?_ ?_
  · exact Touches.after (State.finishModel_touches _ _ _ _) rfl h4
  · split
    rename_i x5 x6 x7 h8
    refine Touches.cut (Touches.of_snd h8 ?_) (fun k9 => ?_)
    · exact Touches.after (State.retryFrame_touches _ _ _) rfl h4
    refine Touches.ite ?_ ?_
    · exact Touches.after (State.restartProgram_touches _ _ _) rfl k9
    · exact k9

theorem State.treesDone_touches (s g pos) :
    Touches [.reg, .grants, .frames] s (State.treesDone s g pos) := by
  unfold State.treesDone
  extract_lets +onlyGivenNames x0
  refine Touches.cut (x := x0) ?_ (fun h1 => ?_)
  · unfold x0
    exact Touches.after (State.count_touches _ _) rfl (Touches.mono rfl (State.endGrant_touches _ _))
  clear_value x0
  exact Touches.after (State.modFrame_touches _ _ _) rfl h1

theorem State.endTrees_touches (s g pos work contentUe) :
    Touches [.freeCtr, .out, .reg, .host, .ops, .led, .strands, .grants, .frames, .content, .vit, .gth, .srv, .img] s (State.endTrees s g pos work contentUe) := by
  unfold State.endTrees
  extract_lets +onlyGivenNames x0
  refine Touches.cut (x := x0) ?_ (fun h1 => ?_)
  · unfold x0
    split
    · rename_i x2 x3 x4 h5
      exact Touches.mono rfl (State.modelLost_touches _ _ _)
    · rename_i x6 x7 x8 h9
      exact Touches.refl _ _
  clear_value x0
  extract_lets +onlyGivenNames x10
  refine Touches.cut (x := x10) ?_ (fun h11 => ?_)
  · unfold x10
    exact Touches.after (State.classifierEnd_touches _ _ _ _) rfl h1
  clear_value x10
  refine Touches.ite ?_ ?_
  · exact Touches.after (State.treesDone_touches _ _ _) rfl h11
  · exact Touches.after (State.repeatGrant_touches _ _) rfl h11

theorem State.startModel_touches (s f m c) :
    Touches [.frames] s (State.startModel s f m c) := by
  unfold State.startModel
  extract_lets +onlyGivenNames x0
  clear_value x0
  extract_lets +onlyGivenNames x1
  clear_value x1
  extract_lets +onlyGivenNames x2
  clear_value x2
  exact Touches.mono rfl (State.putFrame_touches _ _)

theorem execArborUnitDone_answers (engine work contentUe s) :
    Answers [.freeCtr, .out, .reg, .host, .ops, .led, .strands, .grants, .frames, .content, .vit, .gth, .srv, .img, .pwr] s (execArborUnitDone engine work contentUe s) := by
  unfold execArborUnitDone
  split
  · rename_i x0 x1 h2
    split
    · rename_i x3 x4 x5 x6 h7
      refine Answers.ite ?_ ?_
      · exact Answers.next (Touches.after (State.touchUnit_touches _ _ _) rfl (Touches.mono rfl (State.endTrees_touches _ _ _ _ _)))
      · exact Answers.next (Touches.refl _ _)
    · rename_i x8 h9
      exact Answers.next (Touches.refl _ _)
  · rename_i x10 h11
    exact Answers.next (Touches.refl _ _)

theorem execGalleryProgramDone_answers (frame pos work contentUe s) :
    Answers [.freeCtr, .out, .reg, .host, .ops, .led, .strands, .grants, .frames, .content, .vit, .gth, .srv, .img, .pwr] s (execGalleryProgramDone frame pos work contentUe s) := by
  unfold execGalleryProgramDone
  split
  · rename_i x0 x1 x2 h3
    exact Answers.next (Touches.mono rfl (State.endProgram_touches _ _ _ _ _))
  · rename_i x4 h5
    exact Answers.next (Touches.refl _ _)

theorem execModelStart_answers (frame s) :
    Answers [.reg, .frames, .srv] s (execModelStart frame s) := by
  unfold execModelStart
  split
  · rename_i x0 x1 x2 h3
    refine Answers.ite ?_ ?_
    · exact Answers.next (Touches.after (State.retryFrame_touches _ _ _) rfl (Touches.mono rfl (State.putFrame_touches _ _)))
    · exact Answers.next (Touches.mono rfl (State.startModel_touches _ _ _ _))
  · rename_i x4 h5
    exact Answers.next (Touches.refl _ _)

/-! Machine/RegCmds.lean -/

theorem State.tapLoad_touches (s ir) :
    Touches [.tap] s (State.tapLoad s ir) := by
  unfold State.tapLoad
  exact Touches.put_tap rfl (Touches.refl _ _)

theorem State.tapStop_touches (s ir) :
    Touches [.stopped, .tap] s (State.tapStop s ir) := by
  unfold State.tapStop
  exact Touches.after (State.stopPath_touches _) rfl (Touches.mono rfl (State.tapLoad_touches _ _))

theorem State.tapDrive_touches (s ir boundary) :
    Touches [.stopped, .tap] s (State.tapDrive s ir boundary) := by
  unfold State.tapDrive
  extract_lets +onlyGivenNames x0
  refine Touches.cut (x := x0) ?_ (fun h1 => ?_)
  · unfold x0
    exact Touches.mono rfl (State.tapStop_touches _ _)
  clear_value x0
  exact Touches.put_tap rfl h1

theorem execBypass_answers (s) :
    Answers [.out, .tap] s (execBypass s) := by
  unfold execBypass
  refine Answers.next (Touches.ite ?_ ?_)
  · exact Touches.after (State.emit_touches _ _) rfl (Touches.mono rfl (State.tapLoad_touches _ _))
  · exact Touches.refl _ _

theorem execCheckerLock_answers (l s) :
    Answers [.reg] s (execCheckerLock l s) := by
  unfold execCheckerLock
  refine Answers.next (Touches.ite ?_ ?_)
  · exact Touches.mono rfl (State.set_touches _ _ _)
  · exact Touches.refl _ _

theorem execCheckerLockLoss_answers (l counted errors recent s) :
    Answers [.out, .reg, .host] s (execCheckerLockLoss l counted errors recent s) := by
  unfold execCheckerLockLoss
  refine Answers.next (Touches.ite ?_ ?_)
  · extract_lets +onlyGivenNames x0
    refine Touches.cut (x := x0) ?_ (fun h1 => ?_)
    · unfold x0
      exact Touches.after (State.count64_touches _ _ _) rfl (Touches.mono rfl (State.count64_touches _ _ _))
    clear_value x0
    extract_lets +onlyGivenNames x2
    refine Touches.cut (x := x2) ?_ (fun h3 => ?_)
    · unfold x2
      exact Touches.after (State.count_touches _ _) rfl (Touches.after (State.set_touches _ _ _) rfl h1)
    clear_value x2
    exact Touches.after (State.event_touches _ _ _ _) rfl h3
  · exact Touches.refl _ _

theorem execClamp_answers (s) :
    Answers [.stopped, .tap] s (execClamp s) := by
  unfold execClamp
  refine Answers.next (Touches.ite ?_ ?_)
  · exact Touches.mono rfl (State.tapDrive_touches _ _ _)
  · exact Touches.refl _ _

theorem execCounterReadClear_answers (p off size s) :
    Answers [.freeCtr, .out, .reg, .host] s (execCounterReadClear p off size s) := by
  unfold execCounterReadClear
  exact Answers.next (Touches.mono rfl (State.pathRead_touches _ _ _ _))

theorem execErrorInject_stays (p l s) :
    Stays Part.every s (execErrorInject p l s) := by
  unfold execErrorInject
  exact Stays.after (State.pathWrite_stays _ _ _ _) rfl (Touches.refl _ _)

theorem execExtest_answers (boundary s) :
    Answers [.stopped, .tap] s (execExtest boundary s) := by
  unfold execExtest
  refine Answers.next (Touches.ite ?_ ?_)
  · exact Touches.mono rfl (State.tapDrive_touches _ _ _)
  · exact Touches.refl _ _

theorem execExtestPulse_answers (boundary s) :
    Answers [.stopped, .tap] s (execExtestPulse boundary s) := by
  unfold execExtestPulse
  refine Answers.next (Touches.ite ?_ ?_)
  · exact Touches.mono rfl (State.tapDrive_touches _ _ _)
  · exact Touches.refl _ _

theorem execExtestTrain_answers (boundary s) :
    Answers [.stopped, .tap] s (execExtestTrain boundary s) := by
  unfold execExtestTrain
  refine Answers.next (Touches.ite ?_ ?_)
  · exact Touches.mono rfl (State.tapDrive_touches _ _ _)
  · exact Touches.refl _ _

theorem execHighz_answers (s) :
    Answers [.stopped, .tap] s (execHighz s) := by
  unfold execHighz
  refine Answers.next (Touches.ite ?_ ?_)
  · exact Touches.mono rfl (State.tapStop_touches _ _)
  · exact Touches.refl _ _

theorem execIdcode_answers (s) :
    Answers [.out, .tap] s (execIdcode s) := by
  unfold execIdcode
  refine Answers.next (Touches.ite ?_ ?_)
  · exact Touches.after (State.emit_touches _ _) rfl (Touches.mono rfl (State.tapLoad_touches _ _))
  · exact Touches.refl _ _

theorem execLaneTestControl_stays (p l v s) :
    Stays Part.every s (execLaneTestControl p l v s) := by
  unfold execLaneTestControl
  exact Stays.after (State.pathWrite_stays _ _ _ _) rfl (Touches.refl _ _)

theorem execLedgerFetch_stays (p s) :
    Stays Part.every s (execLedgerFetch p s) := by
  unfold execLedgerFetch
  exact Stays.after (State.pathWrite_stays _ _ _ _) rfl (Touches.refl _ _)

theorem execLowWordRead_answers (p off size s) :
    Answers [.freeCtr, .out, .reg, .host] s (execLowWordRead p off size s) := by
  unfold execLowWordRead
  exact Answers.next (Touches.mono rfl (State.pathRead_touches _ _ _ _))

theorem execRegAccess_stays (write off data s) :
    Stays Part.every s (execRegAccess write off data s) := by
  unfold execRegAccess
  refine Stays.ite ?_ ?_
  · extract_lets +onlyGivenNames x0
    clear_value x0
    extract_lets +onlyGivenNames x1
    refine Stays.cut (x := x1) ?_ (fun h2 => ?_)
    · unfold x1
      exact Touches.after (State.emit_touches _ _) rfl (Touches.mono rfl (State.tapLoad_touches _ _))
    clear_value x1
    extract_lets +onlyGivenNames x3
    have fx3 : ∀ a0 a1, Touches Part.every a0 (x3 a0 a1) := ?_
    · clear_value x3
      refine Stays.ite ?_ ?_
      · refine Stays.next (Touches.ite ?_ ?_)
        · refine Touches.after (State.count_touches _ _) rfl (Touches.trans ?_ (fx3 _ _))
          exact h2
        · refine Touches.trans ?_ (fx3 _ _)
          exact h2
      · refine Stays.ite ?_ ?_
        · dsimp -zeta -zetaHave only
          split
          · rename_i x4 x5 h6
            refine Stays.cut (Touches.of_next h6 ?_) (fun k7 => ?_)
            · exact Stays.after (State.busWrite_stays _ _ _ _) rfl h2
            refine Stays.next (Touches.trans ?_ (fx3 _ _))
            exact k7
          · rename_i x8 h9
            exact Stays.after (State.busWrite_stays _ _ _ _) rfl h2
        · split
          rename_i x10 x11 x12 h13
          refine Stays.cut (Touches.of_snd h13 ?_) (fun k14 => ?_)
          · exact Touches.after (State.busRead_touches _ _ _) rfl h2
          refine Stays.next (Touches.trans ?_ (fx3 _ _))
          exact k14
    · intro a0 a1
      unfold x3
      exact Touches.put_tap rfl (Touches.refl _ _)
  · exact Stays.next (Touches.refl _ _)

theorem execRegisterWrite_stays (b off size poisoned v s) :
    Stays Part.every s (execRegisterWrite b off size poisoned v s) := by
  unfold execRegisterWrite
  exact Stays.after (State.pcieWrite_stays _ _ _ _ _ _) rfl (Touches.refl _ _)

theorem execRingEnable_stays (p r v s) :
    Stays Part.every s (execRingEnable p r v s) := by
  unfold execRingEnable
  exact Stays.after (State.pathWrite_stays _ _ _ _) rfl (Touches.refl _ _)

theorem execSaDisable_stays (p s) :
    Stays Part.every s (execSaDisable p s) := by
  unfold execSaDisable
  exact Stays.after (State.pathWrite_stays _ _ _ _) rfl (Touches.refl _ _)

theorem execSaInstall_stays (p s) :
    Stays Part.every s (execSaInstall p s) := by
  unfold execSaInstall
  exact Stays.after (State.pathWrite_stays _ _ _ _) rfl (Touches.refl _ _)

theorem execSamplePreload_answers (boundary s) :
    Answers [.tap] s (execSamplePreload boundary s) := by
  unfold execSamplePreload
  refine Answers.next (Touches.ite ?_ ?_)
  · extract_lets +onlyGivenNames x0
    refine Touches.cut (x := x0) ?_ (fun h1 => ?_)
    · unfold x0
      exact Touches.mono rfl (State.tapLoad_touches _ _)
    clear_value x0
    exact Touches.put_tap rfl h1
  · exact Touches.refl _ _

theorem execTestLogicReset_answers (s) :
    Answers [.tap] s (execTestLogicReset s) := by
  unfold execTestLogicReset
  refine Answers.next (Touches.ite ?_ ?_)
  · exact Touches.put_tap rfl (Touches.refl _ _)
  · exact Touches.refl _ _

theorem execTidRateWrite_stays (p v s) :
    Stays Part.every s (execTidRateWrite p v s) := by
  unfold execTidRateWrite
  exact Stays.after (State.pathWrite_stays _ _ _ _) rfl (Touches.refl _ _)

theorem execTidSetCmd_stays (p s) :
    Stays Part.every s (execTidSetCmd p s) := by
  unfold execTidSetCmd
  exact Stays.after (State.pathWrite_stays _ _ _ _) rfl (Touches.refl _ _)

theorem execTidSlewWrite_stays (p v s) :
    Stays Part.every s (execTidSlewWrite p v s) := by
  unfold execTidSlewWrite
  exact Stays.after (State.pathWrite_stays _ _ _ _) rfl (Touches.refl _ _)

theorem execUnitStateRead_answers (p u s) :
    Answers [.freeCtr, .out, .reg, .host] s (execUnitStateRead p u s) := by
  unfold execUnitStateRead
  exact Answers.next (Touches.mono rfl (State.pathRead_touches _ _ _ _))

theorem execWindowAck_stays (off size v s) :
    Stays Part.every s (execWindowAck off size v s) := by
  unfold execWindowAck
  exact Stays.after (State.pcieWrite_stays _ _ _ _ _ _) rfl (Touches.refl _ _)

theorem execWindowStatusRead_answers (off size s) :
    Answers [.freeCtr, .out, .reg, .host] s (execWindowStatusRead off size s) := by
  unfold execWindowStatusRead
  exact Answers.next (Touches.mono rfl (State.pcieRead_touches _ _ _ _))

/-! Machine/Replay.lean -/

theorem State.refuseReplay_touches (s c st) :
    Touches [.freeCtr, .out, .reg, .host] s (State.refuseReplay s c st) := by
  unfold State.refuseReplay
  exact Touches.after (State.complete_touches _ _ _ _) rfl (Touches.mono rfl (State.count_touches _ _))

theorem State.startRerun_touches (s c strand d) :
    Touches [.frames, .nextFrame, .srv] s (State.startRerun s c strand d) := by
  unfold State.startRerun
  extract_lets +onlyGivenNames x0
  clear_value x0
  extract_lets +onlyGivenNames x1
  refine Touches.cut (x := x1) ?_ (fun h2 => ?_)
  · unfold x1
    exact Touches.put_frames_nextFrame rfl (Touches.refl _ _)
  clear_value x1
  refine Touches.ite ?_ ?_
  · exact Touches.after (State.cause_touches _ _ _) rfl h2
  · exact h2

theorem execReplayDone_answers (frame s) :
    Answers [.freeCtr, .out, .reg, .host, .frames, .streams, .calendar, .content] s (execReplayDone frame s) := by
  unfold execReplayDone
  split
  · rename_i x0 x1 h2
    split
    · rename_i x3 x4 h5
      refine Answers.ite ?_ ?_
      · extract_lets +onlyGivenNames x6
        clear_value x6
        extract_lets +onlyGivenNames x7
        refine Answers.cut (x := x7) ?_ (fun h8 => ?_)
        · unfold x7
          exact Touches.after (State.complete_touches _ _ _ _) rfl (Touches.mono rfl (State.count_touches _ _))
        clear_value x7
        exact Answers.next (Touches.after (State.freeOld_touches _) rfl (Touches.after (State.forgetFrame_touches _ _) rfl h8))
      · exact Answers.next (Touches.refl _ _)
    · rename_i x9 h10
      exact Answers.next (Touches.refl _ _)
  · rename_i x11 h12
    exact Answers.next (Touches.refl _ _)

theorem execVrdReplay_answers (q e len strand reserved data s) :
    Answers [.freeCtr, .out, .reg, .host, .frames, .nextFrame, .srv] s (execVrdReplay q e len strand reserved data s) := by
  unfold execVrdReplay
  refine Answers.next (Touches.trans ?_ (State.sqCommand_touches rfl _ _ _ _ _ (fun t0 t1 => ?_)))
  · exact Touches.refl _ _
  · split
    · rename_i x2
      exact Touches.mono rfl (State.refuseReplay_touches _ _ _)
    · rename_i x3 x4
      split
      · rename_i x5 h6
        exact Touches.mono rfl (State.refuseReplay_touches _ _ _)
      · rename_i x7 x8 h9
        split
        · rename_i x10 x11 h12
          exact Touches.mono rfl (State.refuseReplay_touches _ _ _)
        · rename_i x13 h14
          exact Touches.mono rfl (State.startRerun_touches _ _ _ _)

/-! Machine/Tick.lean -/

theorem State.tick_touches (s) :
    Touches [.now, .reg] s (State.tick s) := by
  unfold State.tick
  refine Touches.ite ?_ ?_
  · extract_lets +onlyGivenNames x0
    refine Touches.cut (x := x0) ?_ (fun h1 => ?_)
    · unfold x0
      exact Touches.put_now rfl (Touches.refl _ _)
    clear_value x0
    refine Touches.ite ?_ ?_
    · exact Touches.after (State.count_touches _ _) rfl h1
    · exact h1
  · exact Touches.refl _ _

end Sys2Proof.Machine
end

