-- ==== Sys2Proof/Laws/State.lean ====
section
/-!
SUPPORT. What the named updates of the state leave alone: one lemma a field, true by unfolding.
-/
namespace Sys2Proof.Machine

/-! State.setWord writes reg alone. -/

@[simp] theorem State.setWord_now (s : State) (off : Nat) (w : Word) : (s.setWord off w).now = s.now := rfl
@[simp] theorem State.setWord_freeCtr (s : State) (off : Nat) (w : Word) : (s.setWord off w).freeCtr = s.freeCtr := rfl
@[simp] theorem State.setWord_pending (s : State) (off : Nat) (w : Word) : (s.setWord off w).pending = s.pending := rfl
@[simp] theorem State.setWord_out (s : State) (off : Nat) (w : Word) : (s.setWord off w).out = s.out := rfl
@[simp] theorem State.setWord_host (s : State) (off : Nat) (w : Word) : (s.setWord off w).host = s.host := rfl
@[simp] theorem State.setWord_nvm (s : State) (off : Nat) (w : Word) : (s.setWord off w).nvm = s.nvm := rfl
@[simp] theorem State.setWord_led (s : State) (off : Nat) (w : Word) : (s.setWord off w).led = s.led := rfl
@[simp] theorem State.setWord_acc (s : State) (off : Nat) (w : Word) : (s.setWord off w).acc = s.acc := rfl
@[simp] theorem State.setWord_strands (s : State) (off : Nat) (w : Word) : (s.setWord off w).strands = s.strands := rfl
@[simp] theorem State.setWord_wheels (s : State) (off : Nat) (w : Word) : (s.setWord off w).wheels = s.wheels := rfl
@[simp] theorem State.setWord_grants (s : State) (off : Nat) (w : Word) : (s.setWord off w).grants = s.grants := rfl
@[simp] theorem State.setWord_frames (s : State) (off : Nat) (w : Word) : (s.setWord off w).frames = s.frames := rfl
@[simp] theorem State.setWord_nextFrame (s : State) (off : Nat) (w : Word) : (s.setWord off w).nextFrame = s.nextFrame := rfl
@[simp] theorem State.setWord_streams (s : State) (off : Nat) (w : Word) : (s.setWord off w).streams = s.streams := rfl
@[simp] theorem State.setWord_calendar (s : State) (off : Nat) (w : Word) : (s.setWord off w).calendar = s.calendar := rfl
@[simp] theorem State.setWord_tapQueue (s : State) (off : Nat) (w : Word) : (s.setWord off w).tapQueue = s.tapQueue := rfl
@[simp] theorem State.setWord_sas (s : State) (off : Nat) (w : Word) : (s.setWord off w).sas = s.sas := rfl
@[simp] theorem State.setWord_lastHanded (s : State) (off : Nat) (w : Word) : (s.setWord off w).lastHanded = s.lastHanded := rfl
@[simp] theorem State.setWord_refused (s : State) (off : Nat) (w : Word) : (s.setWord off w).refused = s.refused := rfl
@[simp] theorem State.setWord_stopped (s : State) (off : Nat) (w : Word) : (s.setWord off w).stopped = s.stopped := rfl
@[simp] theorem State.setWord_served (s : State) (off : Nat) (w : Word) : (s.setWord off w).served = s.served := rfl
@[simp] theorem State.setWord_content (s : State) (off : Nat) (w : Word) : (s.setWord off w).content = s.content := rfl
@[simp] theorem State.setWord_maskCache (s : State) (off : Nat) (w : Word) : (s.setWord off w).maskCache = s.maskCache := rfl
@[simp] theorem State.setWord_vit (s : State) (off : Nat) (w : Word) : (s.setWord off w).vit = s.vit := rfl
@[simp] theorem State.setWord_gth (s : State) (off : Nat) (w : Word) : (s.setWord off w).gth = s.gth := rfl
@[simp] theorem State.setWord_srv (s : State) (off : Nat) (w : Word) : (s.setWord off w).srv = s.srv := rfl
@[simp] theorem State.setWord_img (s : State) (off : Nat) (w : Word) : (s.setWord off w).img = s.img := rfl
@[simp] theorem State.setWord_pwr (s : State) (off : Nat) (w : Word) : (s.setWord off w).pwr = s.pwr := rfl
@[simp] theorem State.setWord_nwl (s : State) (off : Nat) (w : Word) : (s.setWord off w).nwl = s.nwl := rfl
@[simp] theorem State.setWord_stk (s : State) (off : Nat) (w : Word) : (s.setWord off w).stk = s.stk := rfl
@[simp] theorem State.setWord_fab (s : State) (off : Nat) (w : Word) : (s.setWord off w).fab = s.fab := rfl
@[simp] theorem State.setWord_mgmt (s : State) (off : Nat) (w : Word) : (s.setWord off w).mgmt = s.mgmt := rfl
@[simp] theorem State.setWord_tap (s : State) (off : Nat) (w : Word) : (s.setWord off w).tap = s.tap := rfl
@[simp] theorem State.setWord_rst (s : State) (off : Nat) (w : Word) : (s.setWord off w).rst = s.rst := rfl
@[simp] theorem State.setWord_resetKey (s : State) (off : Nat) (w : Word) : (s.setWord off w).resetKey = s.resetKey := rfl

/-! State.set writes reg alone. -/

@[simp] theorem State.set_now (s : State) (f : Fld) (v : Nat) : (s.set f v).now = s.now := rfl
@[simp] theorem State.set_freeCtr (s : State) (f : Fld) (v : Nat) : (s.set f v).freeCtr = s.freeCtr := rfl
@[simp] theorem State.set_pending (s : State) (f : Fld) (v : Nat) : (s.set f v).pending = s.pending := rfl
@[simp] theorem State.set_out (s : State) (f : Fld) (v : Nat) : (s.set f v).out = s.out := rfl
@[simp] theorem State.set_host (s : State) (f : Fld) (v : Nat) : (s.set f v).host = s.host := rfl
@[simp] theorem State.set_nvm (s : State) (f : Fld) (v : Nat) : (s.set f v).nvm = s.nvm := rfl
@[simp] theorem State.set_led (s : State) (f : Fld) (v : Nat) : (s.set f v).led = s.led := rfl
@[simp] theorem State.set_acc (s : State) (f : Fld) (v : Nat) : (s.set f v).acc = s.acc := rfl
@[simp] theorem State.set_strands (s : State) (f : Fld) (v : Nat) : (s.set f v).strands = s.strands := rfl
@[simp] theorem State.set_wheels (s : State) (f : Fld) (v : Nat) : (s.set f v).wheels = s.wheels := rfl
@[simp] theorem State.set_grants (s : State) (f : Fld) (v : Nat) : (s.set f v).grants = s.grants := rfl
@[simp] theorem State.set_frames (s : State) (f : Fld) (v : Nat) : (s.set f v).frames = s.frames := rfl
@[simp] theorem State.set_nextFrame (s : State) (f : Fld) (v : Nat) : (s.set f v).nextFrame = s.nextFrame := rfl
@[simp] theorem State.set_streams (s : State) (f : Fld) (v : Nat) : (s.set f v).streams = s.streams := rfl
@[simp] theorem State.set_calendar (s : State) (f : Fld) (v : Nat) : (s.set f v).calendar = s.calendar := rfl
@[simp] theorem State.set_tapQueue (s : State) (f : Fld) (v : Nat) : (s.set f v).tapQueue = s.tapQueue := rfl
@[simp] theorem State.set_sas (s : State) (f : Fld) (v : Nat) : (s.set f v).sas = s.sas := rfl
@[simp] theorem State.set_lastHanded (s : State) (f : Fld) (v : Nat) : (s.set f v).lastHanded = s.lastHanded := rfl
@[simp] theorem State.set_refused (s : State) (f : Fld) (v : Nat) : (s.set f v).refused = s.refused := rfl
@[simp] theorem State.set_stopped (s : State) (f : Fld) (v : Nat) : (s.set f v).stopped = s.stopped := rfl
@[simp] theorem State.set_served (s : State) (f : Fld) (v : Nat) : (s.set f v).served = s.served := rfl
@[simp] theorem State.set_content (s : State) (f : Fld) (v : Nat) : (s.set f v).content = s.content := rfl
@[simp] theorem State.set_maskCache (s : State) (f : Fld) (v : Nat) : (s.set f v).maskCache = s.maskCache := rfl
@[simp] theorem State.set_vit (s : State) (f : Fld) (v : Nat) : (s.set f v).vit = s.vit := rfl
@[simp] theorem State.set_gth (s : State) (f : Fld) (v : Nat) : (s.set f v).gth = s.gth := rfl
@[simp] theorem State.set_srv (s : State) (f : Fld) (v : Nat) : (s.set f v).srv = s.srv := rfl
@[simp] theorem State.set_img (s : State) (f : Fld) (v : Nat) : (s.set f v).img = s.img := rfl
@[simp] theorem State.set_pwr (s : State) (f : Fld) (v : Nat) : (s.set f v).pwr = s.pwr := rfl
@[simp] theorem State.set_nwl (s : State) (f : Fld) (v : Nat) : (s.set f v).nwl = s.nwl := rfl
@[simp] theorem State.set_stk (s : State) (f : Fld) (v : Nat) : (s.set f v).stk = s.stk := rfl
@[simp] theorem State.set_fab (s : State) (f : Fld) (v : Nat) : (s.set f v).fab = s.fab := rfl
@[simp] theorem State.set_mgmt (s : State) (f : Fld) (v : Nat) : (s.set f v).mgmt = s.mgmt := rfl
@[simp] theorem State.set_tap (s : State) (f : Fld) (v : Nat) : (s.set f v).tap = s.tap := rfl
@[simp] theorem State.set_rst (s : State) (f : Fld) (v : Nat) : (s.set f v).rst = s.rst := rfl
@[simp] theorem State.set_resetKey (s : State) (f : Fld) (v : Nat) : (s.set f v).resetKey = s.resetKey := rfl

/-! State.countBy writes reg alone. -/

@[simp] theorem State.countBy_now (s : State) (f : Fld) (n : Nat) : (s.countBy f n).now = s.now := rfl
@[simp] theorem State.countBy_freeCtr (s : State) (f : Fld) (n : Nat) : (s.countBy f n).freeCtr = s.freeCtr := rfl
@[simp] theorem State.countBy_pending (s : State) (f : Fld) (n : Nat) : (s.countBy f n).pending = s.pending := rfl
@[simp] theorem State.countBy_out (s : State) (f : Fld) (n : Nat) : (s.countBy f n).out = s.out := rfl
@[simp] theorem State.countBy_host (s : State) (f : Fld) (n : Nat) : (s.countBy f n).host = s.host := rfl
@[simp] theorem State.countBy_nvm (s : State) (f : Fld) (n : Nat) : (s.countBy f n).nvm = s.nvm := rfl
@[simp] theorem State.countBy_led (s : State) (f : Fld) (n : Nat) : (s.countBy f n).led = s.led := rfl
@[simp] theorem State.countBy_acc (s : State) (f : Fld) (n : Nat) : (s.countBy f n).acc = s.acc := rfl
@[simp] theorem State.countBy_strands (s : State) (f : Fld) (n : Nat) : (s.countBy f n).strands = s.strands := rfl
@[simp] theorem State.countBy_wheels (s : State) (f : Fld) (n : Nat) : (s.countBy f n).wheels = s.wheels := rfl
@[simp] theorem State.countBy_grants (s : State) (f : Fld) (n : Nat) : (s.countBy f n).grants = s.grants := rfl
@[simp] theorem State.countBy_frames (s : State) (f : Fld) (n : Nat) : (s.countBy f n).frames = s.frames := rfl
@[simp] theorem State.countBy_nextFrame (s : State) (f : Fld) (n : Nat) : (s.countBy f n).nextFrame = s.nextFrame := rfl
@[simp] theorem State.countBy_streams (s : State) (f : Fld) (n : Nat) : (s.countBy f n).streams = s.streams := rfl
@[simp] theorem State.countBy_calendar (s : State) (f : Fld) (n : Nat) : (s.countBy f n).calendar = s.calendar := rfl
@[simp] theorem State.countBy_tapQueue (s : State) (f : Fld) (n : Nat) : (s.countBy f n).tapQueue = s.tapQueue := rfl
@[simp] theorem State.countBy_sas (s : State) (f : Fld) (n : Nat) : (s.countBy f n).sas = s.sas := rfl
@[simp] theorem State.countBy_lastHanded (s : State) (f : Fld) (n : Nat) : (s.countBy f n).lastHanded = s.lastHanded := rfl
@[simp] theorem State.countBy_refused (s : State) (f : Fld) (n : Nat) : (s.countBy f n).refused = s.refused := rfl
@[simp] theorem State.countBy_stopped (s : State) (f : Fld) (n : Nat) : (s.countBy f n).stopped = s.stopped := rfl
@[simp] theorem State.countBy_served (s : State) (f : Fld) (n : Nat) : (s.countBy f n).served = s.served := rfl
@[simp] theorem State.countBy_content (s : State) (f : Fld) (n : Nat) : (s.countBy f n).content = s.content := rfl
@[simp] theorem State.countBy_maskCache (s : State) (f : Fld) (n : Nat) : (s.countBy f n).maskCache = s.maskCache := rfl
@[simp] theorem State.countBy_vit (s : State) (f : Fld) (n : Nat) : (s.countBy f n).vit = s.vit := rfl
@[simp] theorem State.countBy_gth (s : State) (f : Fld) (n : Nat) : (s.countBy f n).gth = s.gth := rfl
@[simp] theorem State.countBy_srv (s : State) (f : Fld) (n : Nat) : (s.countBy f n).srv = s.srv := rfl
@[simp] theorem State.countBy_img (s : State) (f : Fld) (n : Nat) : (s.countBy f n).img = s.img := rfl
@[simp] theorem State.countBy_pwr (s : State) (f : Fld) (n : Nat) : (s.countBy f n).pwr = s.pwr := rfl
@[simp] theorem State.countBy_nwl (s : State) (f : Fld) (n : Nat) : (s.countBy f n).nwl = s.nwl := rfl
@[simp] theorem State.countBy_stk (s : State) (f : Fld) (n : Nat) : (s.countBy f n).stk = s.stk := rfl
@[simp] theorem State.countBy_fab (s : State) (f : Fld) (n : Nat) : (s.countBy f n).fab = s.fab := rfl
@[simp] theorem State.countBy_mgmt (s : State) (f : Fld) (n : Nat) : (s.countBy f n).mgmt = s.mgmt := rfl
@[simp] theorem State.countBy_tap (s : State) (f : Fld) (n : Nat) : (s.countBy f n).tap = s.tap := rfl
@[simp] theorem State.countBy_rst (s : State) (f : Fld) (n : Nat) : (s.countBy f n).rst = s.rst := rfl
@[simp] theorem State.countBy_resetKey (s : State) (f : Fld) (n : Nat) : (s.countBy f n).resetKey = s.resetKey := rfl

/-! State.count writes reg alone. -/

@[simp] theorem State.count_now (s : State) (f : Fld) : (s.count f).now = s.now := rfl
@[simp] theorem State.count_freeCtr (s : State) (f : Fld) : (s.count f).freeCtr = s.freeCtr := rfl
@[simp] theorem State.count_pending (s : State) (f : Fld) : (s.count f).pending = s.pending := rfl
@[simp] theorem State.count_out (s : State) (f : Fld) : (s.count f).out = s.out := rfl
@[simp] theorem State.count_host (s : State) (f : Fld) : (s.count f).host = s.host := rfl
@[simp] theorem State.count_nvm (s : State) (f : Fld) : (s.count f).nvm = s.nvm := rfl
@[simp] theorem State.count_led (s : State) (f : Fld) : (s.count f).led = s.led := rfl
@[simp] theorem State.count_acc (s : State) (f : Fld) : (s.count f).acc = s.acc := rfl
@[simp] theorem State.count_strands (s : State) (f : Fld) : (s.count f).strands = s.strands := rfl
@[simp] theorem State.count_wheels (s : State) (f : Fld) : (s.count f).wheels = s.wheels := rfl
@[simp] theorem State.count_grants (s : State) (f : Fld) : (s.count f).grants = s.grants := rfl
@[simp] theorem State.count_frames (s : State) (f : Fld) : (s.count f).frames = s.frames := rfl
@[simp] theorem State.count_nextFrame (s : State) (f : Fld) : (s.count f).nextFrame = s.nextFrame := rfl
@[simp] theorem State.count_streams (s : State) (f : Fld) : (s.count f).streams = s.streams := rfl
@[simp] theorem State.count_calendar (s : State) (f : Fld) : (s.count f).calendar = s.calendar := rfl
@[simp] theorem State.count_tapQueue (s : State) (f : Fld) : (s.count f).tapQueue = s.tapQueue := rfl
@[simp] theorem State.count_sas (s : State) (f : Fld) : (s.count f).sas = s.sas := rfl
@[simp] theorem State.count_lastHanded (s : State) (f : Fld) : (s.count f).lastHanded = s.lastHanded := rfl
@[simp] theorem State.count_refused (s : State) (f : Fld) : (s.count f).refused = s.refused := rfl
@[simp] theorem State.count_stopped (s : State) (f : Fld) : (s.count f).stopped = s.stopped := rfl
@[simp] theorem State.count_served (s : State) (f : Fld) : (s.count f).served = s.served := rfl
@[simp] theorem State.count_content (s : State) (f : Fld) : (s.count f).content = s.content := rfl
@[simp] theorem State.count_maskCache (s : State) (f : Fld) : (s.count f).maskCache = s.maskCache := rfl
@[simp] theorem State.count_vit (s : State) (f : Fld) : (s.count f).vit = s.vit := rfl
@[simp] theorem State.count_gth (s : State) (f : Fld) : (s.count f).gth = s.gth := rfl
@[simp] theorem State.count_srv (s : State) (f : Fld) : (s.count f).srv = s.srv := rfl
@[simp] theorem State.count_img (s : State) (f : Fld) : (s.count f).img = s.img := rfl
@[simp] theorem State.count_pwr (s : State) (f : Fld) : (s.count f).pwr = s.pwr := rfl
@[simp] theorem State.count_nwl (s : State) (f : Fld) : (s.count f).nwl = s.nwl := rfl
@[simp] theorem State.count_stk (s : State) (f : Fld) : (s.count f).stk = s.stk := rfl
@[simp] theorem State.count_fab (s : State) (f : Fld) : (s.count f).fab = s.fab := rfl
@[simp] theorem State.count_mgmt (s : State) (f : Fld) : (s.count f).mgmt = s.mgmt := rfl
@[simp] theorem State.count_tap (s : State) (f : Fld) : (s.count f).tap = s.tap := rfl
@[simp] theorem State.count_rst (s : State) (f : Fld) : (s.count f).rst = s.rst := rfl
@[simp] theorem State.count_resetKey (s : State) (f : Fld) : (s.count f).resetKey = s.resetKey := rfl

/-! State.setBits writes reg alone. -/

@[simp] theorem State.setBits_now (s : State) (f : Fld) (m : Nat) : (s.setBits f m).now = s.now := rfl
@[simp] theorem State.setBits_freeCtr (s : State) (f : Fld) (m : Nat) : (s.setBits f m).freeCtr = s.freeCtr := rfl
@[simp] theorem State.setBits_pending (s : State) (f : Fld) (m : Nat) : (s.setBits f m).pending = s.pending := rfl
@[simp] theorem State.setBits_out (s : State) (f : Fld) (m : Nat) : (s.setBits f m).out = s.out := rfl
@[simp] theorem State.setBits_host (s : State) (f : Fld) (m : Nat) : (s.setBits f m).host = s.host := rfl
@[simp] theorem State.setBits_nvm (s : State) (f : Fld) (m : Nat) : (s.setBits f m).nvm = s.nvm := rfl
@[simp] theorem State.setBits_led (s : State) (f : Fld) (m : Nat) : (s.setBits f m).led = s.led := rfl
@[simp] theorem State.setBits_acc (s : State) (f : Fld) (m : Nat) : (s.setBits f m).acc = s.acc := rfl
@[simp] theorem State.setBits_strands (s : State) (f : Fld) (m : Nat) : (s.setBits f m).strands = s.strands := rfl
@[simp] theorem State.setBits_wheels (s : State) (f : Fld) (m : Nat) : (s.setBits f m).wheels = s.wheels := rfl
@[simp] theorem State.setBits_grants (s : State) (f : Fld) (m : Nat) : (s.setBits f m).grants = s.grants := rfl
@[simp] theorem State.setBits_frames (s : State) (f : Fld) (m : Nat) : (s.setBits f m).frames = s.frames := rfl
@[simp] theorem State.setBits_nextFrame (s : State) (f : Fld) (m : Nat) : (s.setBits f m).nextFrame = s.nextFrame := rfl
@[simp] theorem State.setBits_streams (s : State) (f : Fld) (m : Nat) : (s.setBits f m).streams = s.streams := rfl
@[simp] theorem State.setBits_calendar (s : State) (f : Fld) (m : Nat) : (s.setBits f m).calendar = s.calendar := rfl
@[simp] theorem State.setBits_tapQueue (s : State) (f : Fld) (m : Nat) : (s.setBits f m).tapQueue = s.tapQueue := rfl
@[simp] theorem State.setBits_sas (s : State) (f : Fld) (m : Nat) : (s.setBits f m).sas = s.sas := rfl
@[simp] theorem State.setBits_lastHanded (s : State) (f : Fld) (m : Nat) : (s.setBits f m).lastHanded = s.lastHanded := rfl
@[simp] theorem State.setBits_refused (s : State) (f : Fld) (m : Nat) : (s.setBits f m).refused = s.refused := rfl
@[simp] theorem State.setBits_stopped (s : State) (f : Fld) (m : Nat) : (s.setBits f m).stopped = s.stopped := rfl
@[simp] theorem State.setBits_served (s : State) (f : Fld) (m : Nat) : (s.setBits f m).served = s.served := rfl
@[simp] theorem State.setBits_content (s : State) (f : Fld) (m : Nat) : (s.setBits f m).content = s.content := rfl
@[simp] theorem State.setBits_maskCache (s : State) (f : Fld) (m : Nat) : (s.setBits f m).maskCache = s.maskCache := rfl
@[simp] theorem State.setBits_vit (s : State) (f : Fld) (m : Nat) : (s.setBits f m).vit = s.vit := rfl
@[simp] theorem State.setBits_gth (s : State) (f : Fld) (m : Nat) : (s.setBits f m).gth = s.gth := rfl
@[simp] theorem State.setBits_srv (s : State) (f : Fld) (m : Nat) : (s.setBits f m).srv = s.srv := rfl
@[simp] theorem State.setBits_img (s : State) (f : Fld) (m : Nat) : (s.setBits f m).img = s.img := rfl
@[simp] theorem State.setBits_pwr (s : State) (f : Fld) (m : Nat) : (s.setBits f m).pwr = s.pwr := rfl
@[simp] theorem State.setBits_nwl (s : State) (f : Fld) (m : Nat) : (s.setBits f m).nwl = s.nwl := rfl
@[simp] theorem State.setBits_stk (s : State) (f : Fld) (m : Nat) : (s.setBits f m).stk = s.stk := rfl
@[simp] theorem State.setBits_fab (s : State) (f : Fld) (m : Nat) : (s.setBits f m).fab = s.fab := rfl
@[simp] theorem State.setBits_mgmt (s : State) (f : Fld) (m : Nat) : (s.setBits f m).mgmt = s.mgmt := rfl
@[simp] theorem State.setBits_tap (s : State) (f : Fld) (m : Nat) : (s.setBits f m).tap = s.tap := rfl
@[simp] theorem State.setBits_rst (s : State) (f : Fld) (m : Nat) : (s.setBits f m).rst = s.rst := rfl
@[simp] theorem State.setBits_resetKey (s : State) (f : Fld) (m : Nat) : (s.setBits f m).resetKey = s.resetKey := rfl

/-! State.clearBits writes reg alone. -/

@[simp] theorem State.clearBits_now (s : State) (f : Fld) (m : Nat) : (s.clearBits f m).now = s.now := rfl
@[simp] theorem State.clearBits_freeCtr (s : State) (f : Fld) (m : Nat) : (s.clearBits f m).freeCtr = s.freeCtr := rfl
@[simp] theorem State.clearBits_pending (s : State) (f : Fld) (m : Nat) : (s.clearBits f m).pending = s.pending := rfl
@[simp] theorem State.clearBits_out (s : State) (f : Fld) (m : Nat) : (s.clearBits f m).out = s.out := rfl
@[simp] theorem State.clearBits_host (s : State) (f : Fld) (m : Nat) : (s.clearBits f m).host = s.host := rfl
@[simp] theorem State.clearBits_nvm (s : State) (f : Fld) (m : Nat) : (s.clearBits f m).nvm = s.nvm := rfl
@[simp] theorem State.clearBits_led (s : State) (f : Fld) (m : Nat) : (s.clearBits f m).led = s.led := rfl
@[simp] theorem State.clearBits_acc (s : State) (f : Fld) (m : Nat) : (s.clearBits f m).acc = s.acc := rfl
@[simp] theorem State.clearBits_strands (s : State) (f : Fld) (m : Nat) : (s.clearBits f m).strands = s.strands := rfl
@[simp] theorem State.clearBits_wheels (s : State) (f : Fld) (m : Nat) : (s.clearBits f m).wheels = s.wheels := rfl
@[simp] theorem State.clearBits_grants (s : State) (f : Fld) (m : Nat) : (s.clearBits f m).grants = s.grants := rfl
@[simp] theorem State.clearBits_frames (s : State) (f : Fld) (m : Nat) : (s.clearBits f m).frames = s.frames := rfl
@[simp] theorem State.clearBits_nextFrame (s : State) (f : Fld) (m : Nat) : (s.clearBits f m).nextFrame = s.nextFrame := rfl
@[simp] theorem State.clearBits_streams (s : State) (f : Fld) (m : Nat) : (s.clearBits f m).streams = s.streams := rfl
@[simp] theorem State.clearBits_calendar (s : State) (f : Fld) (m : Nat) : (s.clearBits f m).calendar = s.calendar := rfl
@[simp] theorem State.clearBits_tapQueue (s : State) (f : Fld) (m : Nat) : (s.clearBits f m).tapQueue = s.tapQueue := rfl
@[simp] theorem State.clearBits_sas (s : State) (f : Fld) (m : Nat) : (s.clearBits f m).sas = s.sas := rfl
@[simp] theorem State.clearBits_lastHanded (s : State) (f : Fld) (m : Nat) : (s.clearBits f m).lastHanded = s.lastHanded := rfl
@[simp] theorem State.clearBits_refused (s : State) (f : Fld) (m : Nat) : (s.clearBits f m).refused = s.refused := rfl
@[simp] theorem State.clearBits_stopped (s : State) (f : Fld) (m : Nat) : (s.clearBits f m).stopped = s.stopped := rfl
@[simp] theorem State.clearBits_served (s : State) (f : Fld) (m : Nat) : (s.clearBits f m).served = s.served := rfl
@[simp] theorem State.clearBits_content (s : State) (f : Fld) (m : Nat) : (s.clearBits f m).content = s.content := rfl
@[simp] theorem State.clearBits_maskCache (s : State) (f : Fld) (m : Nat) : (s.clearBits f m).maskCache = s.maskCache := rfl
@[simp] theorem State.clearBits_vit (s : State) (f : Fld) (m : Nat) : (s.clearBits f m).vit = s.vit := rfl
@[simp] theorem State.clearBits_gth (s : State) (f : Fld) (m : Nat) : (s.clearBits f m).gth = s.gth := rfl
@[simp] theorem State.clearBits_srv (s : State) (f : Fld) (m : Nat) : (s.clearBits f m).srv = s.srv := rfl
@[simp] theorem State.clearBits_img (s : State) (f : Fld) (m : Nat) : (s.clearBits f m).img = s.img := rfl
@[simp] theorem State.clearBits_pwr (s : State) (f : Fld) (m : Nat) : (s.clearBits f m).pwr = s.pwr := rfl
@[simp] theorem State.clearBits_nwl (s : State) (f : Fld) (m : Nat) : (s.clearBits f m).nwl = s.nwl := rfl
@[simp] theorem State.clearBits_stk (s : State) (f : Fld) (m : Nat) : (s.clearBits f m).stk = s.stk := rfl
@[simp] theorem State.clearBits_fab (s : State) (f : Fld) (m : Nat) : (s.clearBits f m).fab = s.fab := rfl
@[simp] theorem State.clearBits_mgmt (s : State) (f : Fld) (m : Nat) : (s.clearBits f m).mgmt = s.mgmt := rfl
@[simp] theorem State.clearBits_tap (s : State) (f : Fld) (m : Nat) : (s.clearBits f m).tap = s.tap := rfl
@[simp] theorem State.clearBits_rst (s : State) (f : Fld) (m : Nat) : (s.clearBits f m).rst = s.rst := rfl
@[simp] theorem State.clearBits_resetKey (s : State) (f : Fld) (m : Nat) : (s.clearBits f m).resetKey = s.resetKey := rfl

/-! State.set64 writes reg alone. -/

@[simp] theorem State.set64_now (s : State) (f : Fld) (v : Nat) : (s.set64 f v).now = s.now := rfl
@[simp] theorem State.set64_freeCtr (s : State) (f : Fld) (v : Nat) : (s.set64 f v).freeCtr = s.freeCtr := rfl
@[simp] theorem State.set64_pending (s : State) (f : Fld) (v : Nat) : (s.set64 f v).pending = s.pending := rfl
@[simp] theorem State.set64_out (s : State) (f : Fld) (v : Nat) : (s.set64 f v).out = s.out := rfl
@[simp] theorem State.set64_host (s : State) (f : Fld) (v : Nat) : (s.set64 f v).host = s.host := rfl
@[simp] theorem State.set64_nvm (s : State) (f : Fld) (v : Nat) : (s.set64 f v).nvm = s.nvm := rfl
@[simp] theorem State.set64_led (s : State) (f : Fld) (v : Nat) : (s.set64 f v).led = s.led := rfl
@[simp] theorem State.set64_acc (s : State) (f : Fld) (v : Nat) : (s.set64 f v).acc = s.acc := rfl
@[simp] theorem State.set64_strands (s : State) (f : Fld) (v : Nat) : (s.set64 f v).strands = s.strands := rfl
@[simp] theorem State.set64_wheels (s : State) (f : Fld) (v : Nat) : (s.set64 f v).wheels = s.wheels := rfl
@[simp] theorem State.set64_grants (s : State) (f : Fld) (v : Nat) : (s.set64 f v).grants = s.grants := rfl
@[simp] theorem State.set64_frames (s : State) (f : Fld) (v : Nat) : (s.set64 f v).frames = s.frames := rfl
@[simp] theorem State.set64_nextFrame (s : State) (f : Fld) (v : Nat) : (s.set64 f v).nextFrame = s.nextFrame := rfl
@[simp] theorem State.set64_streams (s : State) (f : Fld) (v : Nat) : (s.set64 f v).streams = s.streams := rfl
@[simp] theorem State.set64_calendar (s : State) (f : Fld) (v : Nat) : (s.set64 f v).calendar = s.calendar := rfl
@[simp] theorem State.set64_tapQueue (s : State) (f : Fld) (v : Nat) : (s.set64 f v).tapQueue = s.tapQueue := rfl
@[simp] theorem State.set64_sas (s : State) (f : Fld) (v : Nat) : (s.set64 f v).sas = s.sas := rfl
@[simp] theorem State.set64_lastHanded (s : State) (f : Fld) (v : Nat) : (s.set64 f v).lastHanded = s.lastHanded := rfl
@[simp] theorem State.set64_refused (s : State) (f : Fld) (v : Nat) : (s.set64 f v).refused = s.refused := rfl
@[simp] theorem State.set64_stopped (s : State) (f : Fld) (v : Nat) : (s.set64 f v).stopped = s.stopped := rfl
@[simp] theorem State.set64_served (s : State) (f : Fld) (v : Nat) : (s.set64 f v).served = s.served := rfl
@[simp] theorem State.set64_content (s : State) (f : Fld) (v : Nat) : (s.set64 f v).content = s.content := rfl
@[simp] theorem State.set64_maskCache (s : State) (f : Fld) (v : Nat) : (s.set64 f v).maskCache = s.maskCache := rfl
@[simp] theorem State.set64_vit (s : State) (f : Fld) (v : Nat) : (s.set64 f v).vit = s.vit := rfl
@[simp] theorem State.set64_gth (s : State) (f : Fld) (v : Nat) : (s.set64 f v).gth = s.gth := rfl
@[simp] theorem State.set64_srv (s : State) (f : Fld) (v : Nat) : (s.set64 f v).srv = s.srv := rfl
@[simp] theorem State.set64_img (s : State) (f : Fld) (v : Nat) : (s.set64 f v).img = s.img := rfl
@[simp] theorem State.set64_pwr (s : State) (f : Fld) (v : Nat) : (s.set64 f v).pwr = s.pwr := rfl
@[simp] theorem State.set64_nwl (s : State) (f : Fld) (v : Nat) : (s.set64 f v).nwl = s.nwl := rfl
@[simp] theorem State.set64_stk (s : State) (f : Fld) (v : Nat) : (s.set64 f v).stk = s.stk := rfl
@[simp] theorem State.set64_fab (s : State) (f : Fld) (v : Nat) : (s.set64 f v).fab = s.fab := rfl
@[simp] theorem State.set64_mgmt (s : State) (f : Fld) (v : Nat) : (s.set64 f v).mgmt = s.mgmt := rfl
@[simp] theorem State.set64_tap (s : State) (f : Fld) (v : Nat) : (s.set64 f v).tap = s.tap := rfl
@[simp] theorem State.set64_rst (s : State) (f : Fld) (v : Nat) : (s.set64 f v).rst = s.rst := rfl
@[simp] theorem State.set64_resetKey (s : State) (f : Fld) (v : Nat) : (s.set64 f v).resetKey = s.resetKey := rfl

/-! State.count64 writes reg alone. -/

@[simp] theorem State.count64_now (s : State) (f : Fld) (n : Nat) : (s.count64 f n).now = s.now := rfl
@[simp] theorem State.count64_freeCtr (s : State) (f : Fld) (n : Nat) : (s.count64 f n).freeCtr = s.freeCtr := rfl
@[simp] theorem State.count64_pending (s : State) (f : Fld) (n : Nat) : (s.count64 f n).pending = s.pending := rfl
@[simp] theorem State.count64_out (s : State) (f : Fld) (n : Nat) : (s.count64 f n).out = s.out := rfl
@[simp] theorem State.count64_host (s : State) (f : Fld) (n : Nat) : (s.count64 f n).host = s.host := rfl
@[simp] theorem State.count64_nvm (s : State) (f : Fld) (n : Nat) : (s.count64 f n).nvm = s.nvm := rfl
@[simp] theorem State.count64_led (s : State) (f : Fld) (n : Nat) : (s.count64 f n).led = s.led := rfl
@[simp] theorem State.count64_acc (s : State) (f : Fld) (n : Nat) : (s.count64 f n).acc = s.acc := rfl
@[simp] theorem State.count64_strands (s : State) (f : Fld) (n : Nat) : (s.count64 f n).strands = s.strands := rfl
@[simp] theorem State.count64_wheels (s : State) (f : Fld) (n : Nat) : (s.count64 f n).wheels = s.wheels := rfl
@[simp] theorem State.count64_grants (s : State) (f : Fld) (n : Nat) : (s.count64 f n).grants = s.grants := rfl
@[simp] theorem State.count64_frames (s : State) (f : Fld) (n : Nat) : (s.count64 f n).frames = s.frames := rfl
@[simp] theorem State.count64_nextFrame (s : State) (f : Fld) (n : Nat) : (s.count64 f n).nextFrame = s.nextFrame := rfl
@[simp] theorem State.count64_streams (s : State) (f : Fld) (n : Nat) : (s.count64 f n).streams = s.streams := rfl
@[simp] theorem State.count64_calendar (s : State) (f : Fld) (n : Nat) : (s.count64 f n).calendar = s.calendar := rfl
@[simp] theorem State.count64_tapQueue (s : State) (f : Fld) (n : Nat) : (s.count64 f n).tapQueue = s.tapQueue := rfl
@[simp] theorem State.count64_sas (s : State) (f : Fld) (n : Nat) : (s.count64 f n).sas = s.sas := rfl
@[simp] theorem State.count64_lastHanded (s : State) (f : Fld) (n : Nat) : (s.count64 f n).lastHanded = s.lastHanded := rfl
@[simp] theorem State.count64_refused (s : State) (f : Fld) (n : Nat) : (s.count64 f n).refused = s.refused := rfl
@[simp] theorem State.count64_stopped (s : State) (f : Fld) (n : Nat) : (s.count64 f n).stopped = s.stopped := rfl
@[simp] theorem State.count64_served (s : State) (f : Fld) (n : Nat) : (s.count64 f n).served = s.served := rfl
@[simp] theorem State.count64_content (s : State) (f : Fld) (n : Nat) : (s.count64 f n).content = s.content := rfl
@[simp] theorem State.count64_maskCache (s : State) (f : Fld) (n : Nat) : (s.count64 f n).maskCache = s.maskCache := rfl
@[simp] theorem State.count64_vit (s : State) (f : Fld) (n : Nat) : (s.count64 f n).vit = s.vit := rfl
@[simp] theorem State.count64_gth (s : State) (f : Fld) (n : Nat) : (s.count64 f n).gth = s.gth := rfl
@[simp] theorem State.count64_srv (s : State) (f : Fld) (n : Nat) : (s.count64 f n).srv = s.srv := rfl
@[simp] theorem State.count64_img (s : State) (f : Fld) (n : Nat) : (s.count64 f n).img = s.img := rfl
@[simp] theorem State.count64_pwr (s : State) (f : Fld) (n : Nat) : (s.count64 f n).pwr = s.pwr := rfl
@[simp] theorem State.count64_nwl (s : State) (f : Fld) (n : Nat) : (s.count64 f n).nwl = s.nwl := rfl
@[simp] theorem State.count64_stk (s : State) (f : Fld) (n : Nat) : (s.count64 f n).stk = s.stk := rfl
@[simp] theorem State.count64_fab (s : State) (f : Fld) (n : Nat) : (s.count64 f n).fab = s.fab := rfl
@[simp] theorem State.count64_mgmt (s : State) (f : Fld) (n : Nat) : (s.count64 f n).mgmt = s.mgmt := rfl
@[simp] theorem State.count64_tap (s : State) (f : Fld) (n : Nat) : (s.count64 f n).tap = s.tap := rfl
@[simp] theorem State.count64_rst (s : State) (f : Fld) (n : Nat) : (s.count64 f n).rst = s.rst := rfl
@[simp] theorem State.count64_resetKey (s : State) (f : Fld) (n : Nat) : (s.count64 f n).resetKey = s.resetKey := rfl

/-! State.emit writes out alone. -/

@[simp] theorem State.emit_now (s : State) (o : Output) : (s.emit o).now = s.now := rfl
@[simp] theorem State.emit_freeCtr (s : State) (o : Output) : (s.emit o).freeCtr = s.freeCtr := rfl
@[simp] theorem State.emit_pending (s : State) (o : Output) : (s.emit o).pending = s.pending := rfl
@[simp] theorem State.emit_reg (s : State) (o : Output) : (s.emit o).reg = s.reg := rfl
@[simp] theorem State.emit_host (s : State) (o : Output) : (s.emit o).host = s.host := rfl
@[simp] theorem State.emit_nvm (s : State) (o : Output) : (s.emit o).nvm = s.nvm := rfl
@[simp] theorem State.emit_led (s : State) (o : Output) : (s.emit o).led = s.led := rfl
@[simp] theorem State.emit_acc (s : State) (o : Output) : (s.emit o).acc = s.acc := rfl
@[simp] theorem State.emit_strands (s : State) (o : Output) : (s.emit o).strands = s.strands := rfl
@[simp] theorem State.emit_wheels (s : State) (o : Output) : (s.emit o).wheels = s.wheels := rfl
@[simp] theorem State.emit_grants (s : State) (o : Output) : (s.emit o).grants = s.grants := rfl
@[simp] theorem State.emit_frames (s : State) (o : Output) : (s.emit o).frames = s.frames := rfl
@[simp] theorem State.emit_nextFrame (s : State) (o : Output) : (s.emit o).nextFrame = s.nextFrame := rfl
@[simp] theorem State.emit_streams (s : State) (o : Output) : (s.emit o).streams = s.streams := rfl
@[simp] theorem State.emit_calendar (s : State) (o : Output) : (s.emit o).calendar = s.calendar := rfl
@[simp] theorem State.emit_tapQueue (s : State) (o : Output) : (s.emit o).tapQueue = s.tapQueue := rfl
@[simp] theorem State.emit_sas (s : State) (o : Output) : (s.emit o).sas = s.sas := rfl
@[simp] theorem State.emit_lastHanded (s : State) (o : Output) : (s.emit o).lastHanded = s.lastHanded := rfl
@[simp] theorem State.emit_refused (s : State) (o : Output) : (s.emit o).refused = s.refused := rfl
@[simp] theorem State.emit_stopped (s : State) (o : Output) : (s.emit o).stopped = s.stopped := rfl
@[simp] theorem State.emit_served (s : State) (o : Output) : (s.emit o).served = s.served := rfl
@[simp] theorem State.emit_content (s : State) (o : Output) : (s.emit o).content = s.content := rfl
@[simp] theorem State.emit_maskCache (s : State) (o : Output) : (s.emit o).maskCache = s.maskCache := rfl
@[simp] theorem State.emit_vit (s : State) (o : Output) : (s.emit o).vit = s.vit := rfl
@[simp] theorem State.emit_gth (s : State) (o : Output) : (s.emit o).gth = s.gth := rfl
@[simp] theorem State.emit_srv (s : State) (o : Output) : (s.emit o).srv = s.srv := rfl
@[simp] theorem State.emit_img (s : State) (o : Output) : (s.emit o).img = s.img := rfl
@[simp] theorem State.emit_pwr (s : State) (o : Output) : (s.emit o).pwr = s.pwr := rfl
@[simp] theorem State.emit_nwl (s : State) (o : Output) : (s.emit o).nwl = s.nwl := rfl
@[simp] theorem State.emit_stk (s : State) (o : Output) : (s.emit o).stk = s.stk := rfl
@[simp] theorem State.emit_fab (s : State) (o : Output) : (s.emit o).fab = s.fab := rfl
@[simp] theorem State.emit_mgmt (s : State) (o : Output) : (s.emit o).mgmt = s.mgmt := rfl
@[simp] theorem State.emit_tap (s : State) (o : Output) : (s.emit o).tap = s.tap := rfl
@[simp] theorem State.emit_rst (s : State) (o : Output) : (s.emit o).rst = s.rst := rfl
@[simp] theorem State.emit_resetKey (s : State) (o : Output) : (s.emit o).resetKey = s.resetKey := rfl

/-! State.modStrand writes strands alone. -/

@[simp] theorem State.modStrand_now (s : State) (i : Nat) (f : Strand → Strand) : (s.modStrand i f).now = s.now := rfl
@[simp] theorem State.modStrand_freeCtr (s : State) (i : Nat) (f : Strand → Strand) : (s.modStrand i f).freeCtr = s.freeCtr := rfl
@[simp] theorem State.modStrand_pending (s : State) (i : Nat) (f : Strand → Strand) : (s.modStrand i f).pending = s.pending := rfl
@[simp] theorem State.modStrand_out (s : State) (i : Nat) (f : Strand → Strand) : (s.modStrand i f).out = s.out := rfl
@[simp] theorem State.modStrand_reg (s : State) (i : Nat) (f : Strand → Strand) : (s.modStrand i f).reg = s.reg := rfl
@[simp] theorem State.modStrand_host (s : State) (i : Nat) (f : Strand → Strand) : (s.modStrand i f).host = s.host := rfl
@[simp] theorem State.modStrand_nvm (s : State) (i : Nat) (f : Strand → Strand) : (s.modStrand i f).nvm = s.nvm := rfl
@[simp] theorem State.modStrand_led (s : State) (i : Nat) (f : Strand → Strand) : (s.modStrand i f).led = s.led := rfl
@[simp] theorem State.modStrand_acc (s : State) (i : Nat) (f : Strand → Strand) : (s.modStrand i f).acc = s.acc := rfl
@[simp] theorem State.modStrand_wheels (s : State) (i : Nat) (f : Strand → Strand) : (s.modStrand i f).wheels = s.wheels := rfl
@[simp] theorem State.modStrand_grants (s : State) (i : Nat) (f : Strand → Strand) : (s.modStrand i f).grants = s.grants := rfl
@[simp] theorem State.modStrand_frames (s : State) (i : Nat) (f : Strand → Strand) : (s.modStrand i f).frames = s.frames := rfl
@[simp] theorem State.modStrand_nextFrame (s : State) (i : Nat) (f : Strand → Strand) : (s.modStrand i f).nextFrame = s.nextFrame := rfl
@[simp] theorem State.modStrand_streams (s : State) (i : Nat) (f : Strand → Strand) : (s.modStrand i f).streams = s.streams := rfl
@[simp] theorem State.modStrand_calendar (s : State) (i : Nat) (f : Strand → Strand) : (s.modStrand i f).calendar = s.calendar := rfl
@[simp] theorem State.modStrand_tapQueue (s : State) (i : Nat) (f : Strand → Strand) : (s.modStrand i f).tapQueue = s.tapQueue := rfl
@[simp] theorem State.modStrand_sas (s : State) (i : Nat) (f : Strand → Strand) : (s.modStrand i f).sas = s.sas := rfl
@[simp] theorem State.modStrand_lastHanded (s : State) (i : Nat) (f : Strand → Strand) : (s.modStrand i f).lastHanded = s.lastHanded := rfl
@[simp] theorem State.modStrand_refused (s : State) (i : Nat) (f : Strand → Strand) : (s.modStrand i f).refused = s.refused := rfl
@[simp] theorem State.modStrand_stopped (s : State) (i : Nat) (f : Strand → Strand) : (s.modStrand i f).stopped = s.stopped := rfl
@[simp] theorem State.modStrand_served (s : State) (i : Nat) (f : Strand → Strand) : (s.modStrand i f).served = s.served := rfl
@[simp] theorem State.modStrand_content (s : State) (i : Nat) (f : Strand → Strand) : (s.modStrand i f).content = s.content := rfl
@[simp] theorem State.modStrand_maskCache (s : State) (i : Nat) (f : Strand → Strand) : (s.modStrand i f).maskCache = s.maskCache := rfl
@[simp] theorem State.modStrand_vit (s : State) (i : Nat) (f : Strand → Strand) : (s.modStrand i f).vit = s.vit := rfl
@[simp] theorem State.modStrand_gth (s : State) (i : Nat) (f : Strand → Strand) : (s.modStrand i f).gth = s.gth := rfl
@[simp] theorem State.modStrand_srv (s : State) (i : Nat) (f : Strand → Strand) : (s.modStrand i f).srv = s.srv := rfl
@[simp] theorem State.modStrand_img (s : State) (i : Nat) (f : Strand → Strand) : (s.modStrand i f).img = s.img := rfl
@[simp] theorem State.modStrand_pwr (s : State) (i : Nat) (f : Strand → Strand) : (s.modStrand i f).pwr = s.pwr := rfl
@[simp] theorem State.modStrand_nwl (s : State) (i : Nat) (f : Strand → Strand) : (s.modStrand i f).nwl = s.nwl := rfl
@[simp] theorem State.modStrand_stk (s : State) (i : Nat) (f : Strand → Strand) : (s.modStrand i f).stk = s.stk := rfl
@[simp] theorem State.modStrand_fab (s : State) (i : Nat) (f : Strand → Strand) : (s.modStrand i f).fab = s.fab := rfl
@[simp] theorem State.modStrand_mgmt (s : State) (i : Nat) (f : Strand → Strand) : (s.modStrand i f).mgmt = s.mgmt := rfl
@[simp] theorem State.modStrand_tap (s : State) (i : Nat) (f : Strand → Strand) : (s.modStrand i f).tap = s.tap := rfl
@[simp] theorem State.modStrand_rst (s : State) (i : Nat) (f : Strand → Strand) : (s.modStrand i f).rst = s.rst := rfl
@[simp] theorem State.modStrand_resetKey (s : State) (i : Nat) (f : Strand → Strand) : (s.modStrand i f).resetKey = s.resetKey := rfl

/-! State.modFrame writes frames alone. -/

@[simp] theorem State.modFrame_now (s : State) (k : Nat) (f : Frame → Frame) : (s.modFrame k f).now = s.now := rfl
@[simp] theorem State.modFrame_freeCtr (s : State) (k : Nat) (f : Frame → Frame) : (s.modFrame k f).freeCtr = s.freeCtr := rfl
@[simp] theorem State.modFrame_pending (s : State) (k : Nat) (f : Frame → Frame) : (s.modFrame k f).pending = s.pending := rfl
@[simp] theorem State.modFrame_out (s : State) (k : Nat) (f : Frame → Frame) : (s.modFrame k f).out = s.out := rfl
@[simp] theorem State.modFrame_reg (s : State) (k : Nat) (f : Frame → Frame) : (s.modFrame k f).reg = s.reg := rfl
@[simp] theorem State.modFrame_host (s : State) (k : Nat) (f : Frame → Frame) : (s.modFrame k f).host = s.host := rfl
@[simp] theorem State.modFrame_nvm (s : State) (k : Nat) (f : Frame → Frame) : (s.modFrame k f).nvm = s.nvm := rfl
@[simp] theorem State.modFrame_led (s : State) (k : Nat) (f : Frame → Frame) : (s.modFrame k f).led = s.led := rfl
@[simp] theorem State.modFrame_acc (s : State) (k : Nat) (f : Frame → Frame) : (s.modFrame k f).acc = s.acc := rfl
@[simp] theorem State.modFrame_strands (s : State) (k : Nat) (f : Frame → Frame) : (s.modFrame k f).strands = s.strands := rfl
@[simp] theorem State.modFrame_wheels (s : State) (k : Nat) (f : Frame → Frame) : (s.modFrame k f).wheels = s.wheels := rfl
@[simp] theorem State.modFrame_grants (s : State) (k : Nat) (f : Frame → Frame) : (s.modFrame k f).grants = s.grants := rfl
@[simp] theorem State.modFrame_nextFrame (s : State) (k : Nat) (f : Frame → Frame) : (s.modFrame k f).nextFrame = s.nextFrame := rfl
@[simp] theorem State.modFrame_streams (s : State) (k : Nat) (f : Frame → Frame) : (s.modFrame k f).streams = s.streams := rfl
@[simp] theorem State.modFrame_calendar (s : State) (k : Nat) (f : Frame → Frame) : (s.modFrame k f).calendar = s.calendar := rfl
@[simp] theorem State.modFrame_tapQueue (s : State) (k : Nat) (f : Frame → Frame) : (s.modFrame k f).tapQueue = s.tapQueue := rfl
@[simp] theorem State.modFrame_sas (s : State) (k : Nat) (f : Frame → Frame) : (s.modFrame k f).sas = s.sas := rfl
@[simp] theorem State.modFrame_lastHanded (s : State) (k : Nat) (f : Frame → Frame) : (s.modFrame k f).lastHanded = s.lastHanded := rfl
@[simp] theorem State.modFrame_refused (s : State) (k : Nat) (f : Frame → Frame) : (s.modFrame k f).refused = s.refused := rfl
@[simp] theorem State.modFrame_stopped (s : State) (k : Nat) (f : Frame → Frame) : (s.modFrame k f).stopped = s.stopped := rfl
@[simp] theorem State.modFrame_served (s : State) (k : Nat) (f : Frame → Frame) : (s.modFrame k f).served = s.served := rfl
@[simp] theorem State.modFrame_content (s : State) (k : Nat) (f : Frame → Frame) : (s.modFrame k f).content = s.content := rfl
@[simp] theorem State.modFrame_maskCache (s : State) (k : Nat) (f : Frame → Frame) : (s.modFrame k f).maskCache = s.maskCache := rfl
@[simp] theorem State.modFrame_vit (s : State) (k : Nat) (f : Frame → Frame) : (s.modFrame k f).vit = s.vit := rfl
@[simp] theorem State.modFrame_gth (s : State) (k : Nat) (f : Frame → Frame) : (s.modFrame k f).gth = s.gth := rfl
@[simp] theorem State.modFrame_srv (s : State) (k : Nat) (f : Frame → Frame) : (s.modFrame k f).srv = s.srv := rfl
@[simp] theorem State.modFrame_img (s : State) (k : Nat) (f : Frame → Frame) : (s.modFrame k f).img = s.img := rfl
@[simp] theorem State.modFrame_pwr (s : State) (k : Nat) (f : Frame → Frame) : (s.modFrame k f).pwr = s.pwr := rfl
@[simp] theorem State.modFrame_nwl (s : State) (k : Nat) (f : Frame → Frame) : (s.modFrame k f).nwl = s.nwl := rfl
@[simp] theorem State.modFrame_stk (s : State) (k : Nat) (f : Frame → Frame) : (s.modFrame k f).stk = s.stk := rfl
@[simp] theorem State.modFrame_fab (s : State) (k : Nat) (f : Frame → Frame) : (s.modFrame k f).fab = s.fab := rfl
@[simp] theorem State.modFrame_mgmt (s : State) (k : Nat) (f : Frame → Frame) : (s.modFrame k f).mgmt = s.mgmt := rfl
@[simp] theorem State.modFrame_tap (s : State) (k : Nat) (f : Frame → Frame) : (s.modFrame k f).tap = s.tap := rfl
@[simp] theorem State.modFrame_rst (s : State) (k : Nat) (f : Frame → Frame) : (s.modFrame k f).rst = s.rst := rfl
@[simp] theorem State.modFrame_resetKey (s : State) (k : Nat) (f : Frame → Frame) : (s.modFrame k f).resetKey = s.resetKey := rfl

/-! State.modBank writes nvm alone. -/

@[simp] theorem State.modBank_now (s : State) (b : Nat) (f : NvmBank → NvmBank) : (s.modBank b f).now = s.now := rfl
@[simp] theorem State.modBank_freeCtr (s : State) (b : Nat) (f : NvmBank → NvmBank) : (s.modBank b f).freeCtr = s.freeCtr := rfl
@[simp] theorem State.modBank_pending (s : State) (b : Nat) (f : NvmBank → NvmBank) : (s.modBank b f).pending = s.pending := rfl
@[simp] theorem State.modBank_out (s : State) (b : Nat) (f : NvmBank → NvmBank) : (s.modBank b f).out = s.out := rfl
@[simp] theorem State.modBank_reg (s : State) (b : Nat) (f : NvmBank → NvmBank) : (s.modBank b f).reg = s.reg := rfl
@[simp] theorem State.modBank_host (s : State) (b : Nat) (f : NvmBank → NvmBank) : (s.modBank b f).host = s.host := rfl
@[simp] theorem State.modBank_led (s : State) (b : Nat) (f : NvmBank → NvmBank) : (s.modBank b f).led = s.led := rfl
@[simp] theorem State.modBank_acc (s : State) (b : Nat) (f : NvmBank → NvmBank) : (s.modBank b f).acc = s.acc := rfl
@[simp] theorem State.modBank_strands (s : State) (b : Nat) (f : NvmBank → NvmBank) : (s.modBank b f).strands = s.strands := rfl
@[simp] theorem State.modBank_wheels (s : State) (b : Nat) (f : NvmBank → NvmBank) : (s.modBank b f).wheels = s.wheels := rfl
@[simp] theorem State.modBank_grants (s : State) (b : Nat) (f : NvmBank → NvmBank) : (s.modBank b f).grants = s.grants := rfl
@[simp] theorem State.modBank_frames (s : State) (b : Nat) (f : NvmBank → NvmBank) : (s.modBank b f).frames = s.frames := rfl
@[simp] theorem State.modBank_nextFrame (s : State) (b : Nat) (f : NvmBank → NvmBank) : (s.modBank b f).nextFrame = s.nextFrame := rfl
@[simp] theorem State.modBank_streams (s : State) (b : Nat) (f : NvmBank → NvmBank) : (s.modBank b f).streams = s.streams := rfl
@[simp] theorem State.modBank_calendar (s : State) (b : Nat) (f : NvmBank → NvmBank) : (s.modBank b f).calendar = s.calendar := rfl
@[simp] theorem State.modBank_tapQueue (s : State) (b : Nat) (f : NvmBank → NvmBank) : (s.modBank b f).tapQueue = s.tapQueue := rfl
@[simp] theorem State.modBank_sas (s : State) (b : Nat) (f : NvmBank → NvmBank) : (s.modBank b f).sas = s.sas := rfl
@[simp] theorem State.modBank_lastHanded (s : State) (b : Nat) (f : NvmBank → NvmBank) : (s.modBank b f).lastHanded = s.lastHanded := rfl
@[simp] theorem State.modBank_refused (s : State) (b : Nat) (f : NvmBank → NvmBank) : (s.modBank b f).refused = s.refused := rfl
@[simp] theorem State.modBank_stopped (s : State) (b : Nat) (f : NvmBank → NvmBank) : (s.modBank b f).stopped = s.stopped := rfl
@[simp] theorem State.modBank_served (s : State) (b : Nat) (f : NvmBank → NvmBank) : (s.modBank b f).served = s.served := rfl
@[simp] theorem State.modBank_content (s : State) (b : Nat) (f : NvmBank → NvmBank) : (s.modBank b f).content = s.content := rfl
@[simp] theorem State.modBank_maskCache (s : State) (b : Nat) (f : NvmBank → NvmBank) : (s.modBank b f).maskCache = s.maskCache := rfl
@[simp] theorem State.modBank_vit (s : State) (b : Nat) (f : NvmBank → NvmBank) : (s.modBank b f).vit = s.vit := rfl
@[simp] theorem State.modBank_gth (s : State) (b : Nat) (f : NvmBank → NvmBank) : (s.modBank b f).gth = s.gth := rfl
@[simp] theorem State.modBank_srv (s : State) (b : Nat) (f : NvmBank → NvmBank) : (s.modBank b f).srv = s.srv := rfl
@[simp] theorem State.modBank_img (s : State) (b : Nat) (f : NvmBank → NvmBank) : (s.modBank b f).img = s.img := rfl
@[simp] theorem State.modBank_pwr (s : State) (b : Nat) (f : NvmBank → NvmBank) : (s.modBank b f).pwr = s.pwr := rfl
@[simp] theorem State.modBank_nwl (s : State) (b : Nat) (f : NvmBank → NvmBank) : (s.modBank b f).nwl = s.nwl := rfl
@[simp] theorem State.modBank_stk (s : State) (b : Nat) (f : NvmBank → NvmBank) : (s.modBank b f).stk = s.stk := rfl
@[simp] theorem State.modBank_fab (s : State) (b : Nat) (f : NvmBank → NvmBank) : (s.modBank b f).fab = s.fab := rfl
@[simp] theorem State.modBank_mgmt (s : State) (b : Nat) (f : NvmBank → NvmBank) : (s.modBank b f).mgmt = s.mgmt := rfl
@[simp] theorem State.modBank_tap (s : State) (b : Nat) (f : NvmBank → NvmBank) : (s.modBank b f).tap = s.tap := rfl
@[simp] theorem State.modBank_rst (s : State) (b : Nat) (f : NvmBank → NvmBank) : (s.modBank b f).rst = s.rst := rfl
@[simp] theorem State.modBank_resetKey (s : State) (b : Nat) (f : NvmBank → NvmBank) : (s.modBank b f).resetKey = s.resetKey := rfl

/-! State.free counts. -/

@[simp] theorem State.free_now (s : State) (w : Nat) : (s.free w).2.now = s.now := rfl
@[simp] theorem State.free_freeCtr (s : State) (w : Nat) : (s.free w).2.freeCtr = s.freeCtr + 1 := rfl
@[simp] theorem State.free_pending (s : State) (w : Nat) : (s.free w).2.pending = s.pending := rfl
@[simp] theorem State.free_out (s : State) (w : Nat) : (s.free w).2.out = s.out := rfl
@[simp] theorem State.free_reg (s : State) (w : Nat) : (s.free w).2.reg = s.reg := rfl
@[simp] theorem State.free_host (s : State) (w : Nat) : (s.free w).2.host = s.host := rfl
@[simp] theorem State.free_nvm (s : State) (w : Nat) : (s.free w).2.nvm = s.nvm := rfl
@[simp] theorem State.free_led (s : State) (w : Nat) : (s.free w).2.led = s.led := rfl
@[simp] theorem State.free_acc (s : State) (w : Nat) : (s.free w).2.acc = s.acc := rfl
@[simp] theorem State.free_strands (s : State) (w : Nat) : (s.free w).2.strands = s.strands := rfl
@[simp] theorem State.free_wheels (s : State) (w : Nat) : (s.free w).2.wheels = s.wheels := rfl
@[simp] theorem State.free_grants (s : State) (w : Nat) : (s.free w).2.grants = s.grants := rfl
@[simp] theorem State.free_frames (s : State) (w : Nat) : (s.free w).2.frames = s.frames := rfl
@[simp] theorem State.free_nextFrame (s : State) (w : Nat) : (s.free w).2.nextFrame = s.nextFrame := rfl
@[simp] theorem State.free_streams (s : State) (w : Nat) : (s.free w).2.streams = s.streams := rfl
@[simp] theorem State.free_calendar (s : State) (w : Nat) : (s.free w).2.calendar = s.calendar := rfl
@[simp] theorem State.free_tapQueue (s : State) (w : Nat) : (s.free w).2.tapQueue = s.tapQueue := rfl
@[simp] theorem State.free_sas (s : State) (w : Nat) : (s.free w).2.sas = s.sas := rfl
@[simp] theorem State.free_lastHanded (s : State) (w : Nat) : (s.free w).2.lastHanded = s.lastHanded := rfl
@[simp] theorem State.free_refused (s : State) (w : Nat) : (s.free w).2.refused = s.refused := rfl
@[simp] theorem State.free_stopped (s : State) (w : Nat) : (s.free w).2.stopped = s.stopped := rfl
@[simp] theorem State.free_served (s : State) (w : Nat) : (s.free w).2.served = s.served := rfl
@[simp] theorem State.free_content (s : State) (w : Nat) : (s.free w).2.content = s.content := rfl
@[simp] theorem State.free_maskCache (s : State) (w : Nat) : (s.free w).2.maskCache = s.maskCache := rfl
@[simp] theorem State.free_vit (s : State) (w : Nat) : (s.free w).2.vit = s.vit := rfl
@[simp] theorem State.free_gth (s : State) (w : Nat) : (s.free w).2.gth = s.gth := rfl
@[simp] theorem State.free_srv (s : State) (w : Nat) : (s.free w).2.srv = s.srv := rfl
@[simp] theorem State.free_img (s : State) (w : Nat) : (s.free w).2.img = s.img := rfl
@[simp] theorem State.free_pwr (s : State) (w : Nat) : (s.free w).2.pwr = s.pwr := rfl
@[simp] theorem State.free_nwl (s : State) (w : Nat) : (s.free w).2.nwl = s.nwl := rfl
@[simp] theorem State.free_stk (s : State) (w : Nat) : (s.free w).2.stk = s.stk := rfl
@[simp] theorem State.free_fab (s : State) (w : Nat) : (s.free w).2.fab = s.fab := rfl
@[simp] theorem State.free_mgmt (s : State) (w : Nat) : (s.free w).2.mgmt = s.mgmt := rfl
@[simp] theorem State.free_tap (s : State) (w : Nat) : (s.free w).2.tap = s.tap := rfl
@[simp] theorem State.free_rst (s : State) (w : Nat) : (s.free w).2.rst = s.rst := rfl
@[simp] theorem State.free_resetKey (s : State) (w : Nat) : (s.free w).2.resetKey = s.resetKey := rfl

@[simp] theorem State.emit_out (s : State) (o : Output) : (s.emit o).out = o :: s.out := rfl

@[simp] theorem State.modStrand_strands (s : State) (i : Nat) (f : Strand → Strand) :
    (s.modStrand i f).strands = modifyAt s.strands i f := rfl

@[simp] theorem State.modFrame_frames (s : State) (k : Nat) (f : Frame → Frame) :
    (s.modFrame k f).frames = mapWhere s.frames (fun x => x.key == k) f := rfl

@[simp] theorem State.modBank_nvm (s : State) (b : Nat) (f : NvmBank → NvmBank) : (s.modBank b f).nvm = modifyAt s.nvm b f := rfl

end Sys2Proof.Machine
end

