-- ==== Sys2Proof/Laws/Registers.lean ====
section
/-!
SUPPORT. Reading a register, a field or a byte of an NVM bank after one has been written.
-/
namespace Sys2Proof

/-! Tables -/

theorem Tab.get?_put_same {α : Type} (t : Tab α) (k : Nat) (v : α) : Tab.get? (Tab.put t k v) k = some v := by
  induction t with
  | nil => simp [Tab.put, Tab.get?]
  | cons e t ih =>
    obtain ⟨k', v'⟩ := e
    simp only [Tab.put]
    split
    · simp [Tab.get?]
    · split
      · simp [Tab.get?]
      · rename_i h1 h2
        simp [Tab.get?, Ne.symm h2, ih]

theorem Tab.get?_put_ne {α : Type} (t : Tab α) (k j : Nat) (v : α) (h : j ≠ k) : Tab.get? (Tab.put t k v) j = Tab.get? t j := by
  induction t with
  | nil => simp [Tab.put, Tab.get?, Ne.symm h]
  | cons e t ih =>
    obtain ⟨k', v'⟩ := e
    simp only [Tab.put]
    split
    · simp [Tab.get?, Ne.symm h]
    · split
      · rename_i hk
        subst hk
        simp [Tab.get?, Ne.symm h]
      · simp only [Tab.get?, ih]

theorem Tab.get?_del_ne {α : Type} (t : Tab α) (k j : Nat) (h : j ≠ k) : Tab.get? (Tab.del t k) j = Tab.get? t j := by
  induction t with
  | nil => rfl
  | cons e t ih =>
    obtain ⟨k', v'⟩ := e
    simp only [Tab.del]
    split
    · rename_i hk
      subst hk
      simp [Tab.get?, Ne.symm h]
    · simp only [Tab.get?, ih]

theorem Tab.get?_none {α : Type} (t : Tab α) (k : Nat) (h : t.all (fun e => decide (k < e.1)) = true) : Tab.get? t k = none := by
  induction t with
  | nil => rfl
  | cons e t ih =>
    obtain ⟨k', v'⟩ := e
    simp only [List.all_cons, Bool.and_eq_true, decide_eq_true_eq] at h
    simp only [Tab.get?]
    rw [if_neg (Nat.ne_of_gt h.1)]
    exact ih h.2

theorem Tab.get?_del_same {α : Type} (t : Tab α) (k : Nat) (h : Tab.sorted t = true) : Tab.get? (Tab.del t k) k = none := by
  induction t with
  | nil => rfl
  | cons e t ih =>
    obtain ⟨k', v'⟩ := e
    simp only [Tab.sorted, Bool.and_eq_true] at h
    simp only [Tab.del]
    split
    · rename_i hk
      subst hk
      exact Tab.get?_none t _ h.1
    · rename_i hk
      simp only [Tab.get?]
      rw [if_neg hk]
      exact ih h.2

theorem Tab.getD_putD_same {α : Type} [DecidableEq α] (d : α) (t : Tab α) (k : Nat) (v : α) (h : Tab.sorted t = true) :
    Tab.getD (Tab.putD d t k v) k d = v := by
  simp only [Tab.getD, Tab.putD]
  split
  · rename_i hv
    rw [Tab.get?_del_same t k h, hv]
    rfl
  · rw [Tab.get?_put_same]
    rfl

theorem Tab.getD_putD_ne {α : Type} [DecidableEq α] (d d' : α) (t : Tab α) (k j : Nat) (v : α) (h : j ≠ k) :
    Tab.getD (Tab.putD d t k v) j d' = Tab.getD t j d' := by
  simp only [Tab.getD, Tab.putD]
  split
  · rw [Tab.get?_del_ne t k j h]
  · rw [Tab.get?_put_ne t k j v h]

/-! Bit fields -/

theorem bits_lt (v l w : Nat) : bits v l w < 2 ^ w := Nat.mod_lt _ (Nat.two_pow_pos w)

theorem testBit_bits (v l w i : Nat) : (bits v l w).testBit i = (decide (i < w) && v.testBit (l + i)) := by
  simp [bits, Nat.testBit_mod_two_pow, Nat.testBit_shiftRight]

theorem putBits_eq (v l w x : Nat) :
    putBits v l w x = 2 ^ (l + w) * (v / 2 ^ (l + w)) + (2 ^ l * (x % 2 ^ w) + v % 2 ^ l) := by
  have h1 : v = 2 ^ (l + w) * (v / 2 ^ (l + w)) + (2 ^ l * bits v l w + v % 2 ^ l) := by
    have a := Nat.div_add_mod v (2 ^ (l + w))
    have b := Nat.div_add_mod (v % 2 ^ (l + w)) (2 ^ l)
    have c : v % 2 ^ (l + w) / 2 ^ l = bits v l w := by
      rw [Nat.pow_add, Nat.mod_mul_right_div_self, bits, Nat.shiftRight_eq_div_pow]
    have d : v % 2 ^ (l + w) % 2 ^ l = v % 2 ^ l := by
      rw [Nat.pow_add, Nat.mod_mul_right_mod]
    rw [c, d] at b
    omega
  unfold putBits
  rw [Nat.mul_comm (bits v l w), Nat.mul_comm (x % 2 ^ w)]
  omega

theorem putBits_lt {v l w x n : Nat} (hv : v < 2 ^ n) (h : l + w ≤ n) : putBits v l w x < 2 ^ n := by
  rw [putBits_eq]
  have h1 : 2 ^ l * (x % 2 ^ w) + v % 2 ^ l < 2 ^ (l + w) := by
    have a := Nat.mod_lt x (Nat.two_pow_pos w)
    have b := Nat.mod_lt v (Nat.two_pow_pos l)
    have c : 2 ^ l * (x % 2 ^ w) + 2 ^ l ≤ 2 ^ l * 2 ^ w := by
      rw [← Nat.mul_succ]
      exact Nat.mul_le_mul_left _ a
    rw [Nat.pow_add]
    omega
  have h2 : v / 2 ^ (l + w) < 2 ^ (n - (l + w)) := by
    rw [Nat.div_lt_iff_lt_mul (Nat.two_pow_pos _), ← Nat.pow_add]
    rwa [Nat.sub_add_cancel h]
  have h3 : 2 ^ (l + w) * (v / 2 ^ (l + w)) + 2 ^ (l + w) ≤ 2 ^ (l + w) * 2 ^ (n - (l + w)) := by
    rw [← Nat.mul_succ]
    exact Nat.mul_le_mul_left _ h2
  rw [← Nat.pow_add, Nat.add_sub_cancel' h] at h3
  omega

theorem testBit_putBits (v l w x i : Nat) :
    (putBits v l w x).testBit i = if i < l then v.testBit i else if i < l + w then x.testBit (i - l) else v.testBit i := by
  rw [putBits_eq]
  have h1 : 2 ^ l * (x % 2 ^ w) + v % 2 ^ l < 2 ^ (l + w) := by
    have a := Nat.mod_lt x (Nat.two_pow_pos w)
    have b := Nat.mod_lt v (Nat.two_pow_pos l)
    have c : 2 ^ l * (x % 2 ^ w) + 2 ^ l ≤ 2 ^ l * 2 ^ w := by
      rw [← Nat.mul_succ]
      exact Nat.mul_le_mul_left _ a
    rw [Nat.pow_add]
    omega
  rw [Nat.testBit_two_pow_mul_add _ h1, Nat.testBit_two_pow_mul_add _ (Nat.mod_lt v (Nat.two_pow_pos l))]
  simp only [Nat.testBit_mod_two_pow, ← Nat.shiftRight_eq_div_pow, Nat.testBit_shiftRight]
  split
  · split
    · simp_all
    · rename_i h2 h3
      have : i - l < w := by omega
      simp_all
  · rename_i h2
    rw [if_neg (by omega)]
    congr 1
    omega

theorem bits_putBits_same (v l w x : Nat) : bits (putBits v l w x) l w = x % 2 ^ w := by
  apply Nat.eq_of_testBit_eq
  intro i
  rw [testBit_bits, testBit_putBits, Nat.testBit_mod_two_pow]
  by_cases h : i < w
  · rw [if_neg (by omega), if_pos (by omega), Nat.add_sub_cancel_left]
  · simp [h]

theorem bits_putBits_ne (v l w x l' w' : Nat) (h : l' + w' ≤ l ∨ l + w ≤ l') : bits (putBits v l w x) l' w' = bits v l' w' := by
  apply Nat.eq_of_testBit_eq
  intro i
  rw [testBit_bits, testBit_bits, testBit_putBits]
  by_cases hi : i < w'
  · rcases h with h | h
    · rw [if_pos (by omega)]
    · rw [if_neg (by omega), if_neg (by omega)]
  · simp [hi]

namespace Machine

/-! The register file alone: what the reads and writes of the state come to. -/

/-- The word at an offset. -/
def rword (r : RegFile) (off : Nat) : Word := Tab.getD r off (regReset off)

/-- A word written. -/
def rput (r : RegFile) (off : Nat) (w : Word) : RegFile := Tab.putD (regReset off) r off w

/-- A field's value. -/
def rget (r : RegFile) (f : Fld) : Nat := bits (rword r f.off).toNat f.lsb f.width

/-- A field written. -/
def rset (r : RegFile) (f : Fld) (v : Nat) : RegFile := rput r f.off (word (putBits (rword r f.off).toNat f.lsb f.width v))

theorem State.regWord_eq (s : State) (off : Nat) : s.regWord off = rword s.reg off := rfl

theorem State.get_eq (s : State) (f : Fld) : s.get f = rget s.reg f := rfl

theorem State.flag_eq (s : State) (f : Fld) : s.flag f = (rget s.reg f != 0) := rfl

@[simp] theorem State.setWord_reg (s : State) (off : Nat) (w : Word) : (s.setWord off w).reg = rput s.reg off w := rfl

@[simp] theorem State.set_reg (s : State) (f : Fld) (v : Nat) : (s.set f v).reg = rset s.reg f v := rfl

@[simp] theorem State.countBy_reg (s : State) (f : Fld) (n : Nat) :
    (s.countBy f n).reg = rset s.reg f (min (rget s.reg f + n) (2 ^ f.width - 1)) := rfl

@[simp] theorem State.count_reg (s : State) (f : Fld) : (s.count f).reg = rset s.reg f (min (rget s.reg f + 1) (2 ^ f.width - 1)) := rfl

@[simp] theorem State.setBits_reg (s : State) (f : Fld) (m : Nat) : (s.setBits f m).reg = rset s.reg f (rget s.reg f ||| m) := rfl

@[simp] theorem State.clearBits_reg (s : State) (f : Fld) (m : Nat) :
    (s.clearBits f m).reg = rset s.reg f (rget s.reg f &&& (2 ^ f.width - 1 - m % 2 ^ f.width)) := rfl

@[simp] theorem State.set64_reg (s : State) (f : Fld) (v : Nat) :
    (s.set64 f v).reg = rput (rset s.reg f v) (f.off + 4) (word (v / 2 ^ 32)) := rfl

theorem word_toNat {n : Nat} (h : n < 2 ^ 32) : (word n).toNat = n := by
  simp only [word, BitVec.toNat_ofNat]
  exact Nat.mod_eq_of_lt h

theorem regFile_sorted {r : RegFile} (h : regFileWf r = true) : Tab.sorted r = true := by
  simp only [regFileWf, Tab.canon, Bool.and_eq_true] at h
  exact h.1

theorem rword_rput_same {r : RegFile} (h : regFileWf r = true) (off : Nat) (w : Word) : rword (rput r off w) off = w :=
  Tab.getD_putD_same _ _ _ _ (regFile_sorted h)

theorem rword_rput_ne (r : RegFile) {off off' : Nat} (w : Word) (h : off' ≠ off) : rword (rput r off w) off' = rword r off' :=
  Tab.getD_putD_ne _ _ _ _ _ _ h

theorem rword_rset_ne (r : RegFile) {f : Fld} {off : Nat} (v : Nat) (h : off ≠ f.off) : rword (rset r f v) off = rword r off :=
  rword_rput_ne r _ h

/-- A field reads as it was written, cut to its width. -/
theorem rget_rset_same {r : RegFile} (h : regFileWf r = true) (f : Fld) (v : Nat) (hf : f.lsb + f.width ≤ 32) :
    rget (rset r f v) f = v % 2 ^ f.width := by
  simp only [rget, rset]
  rw [rword_rput_same h, word_toNat (putBits_lt (rword r f.off).isLt hf), bits_putBits_same]

/-- A field of another word. -/
theorem rget_rset_ne (r : RegFile) {f g : Fld} (v : Nat) (h : g.off ≠ f.off) : rget (rset r f v) g = rget r g := by
  simp only [rget]
  rw [rword_rset_ne r v h]

/-- Another field of the same word. -/
theorem rget_rset_field {r : RegFile} (h : regFileWf r = true) {f g : Fld} (v : Nat) (hf : f.lsb + f.width ≤ 32) (ho : g.off = f.off)
    (hd : g.lsb + g.width ≤ f.lsb ∨ f.lsb + f.width ≤ g.lsb) : rget (rset r f v) g = rget r g := by
  simp only [rget, rset]
  rw [ho, rword_rput_same h, word_toNat (putBits_lt (rword r f.off).isLt hf), bits_putBits_ne _ _ _ _ _ _ hd]

theorem rget_rput_ne (r : RegFile) {g : Fld} {off : Nat} (w : Word) (h : g.off ≠ off) : rget (rput r off w) g = rget r g := by
  simp only [rget]
  rw [rword_rput_ne r w h]

theorem rget_rput_same {r : RegFile} (h : regFileWf r = true) {g : Fld} {off : Nat} (w : Word) (ho : g.off = off) :
    rget (rput r off w) g = bits w.toNat g.lsb g.width := by
  simp only [rget]
  rw [ho, rword_rput_same h]

theorem rget_lt (r : RegFile) (f : Fld) : rget r f < 2 ^ f.width := bits_lt _ _ _

/-- Every write keeps the canonical form. -/
theorem wf_rput {r : RegFile} (h : regFileWf r = true) (off : Nat) (w : Word) : regFileWf (rput r off w) = true :=
  Tab.canon_putD _ _ _ _ h

theorem wf_rset {r : RegFile} (h : regFileWf r = true) (f : Fld) (v : Nat) : regFileWf (rset r f v) = true := wf_rput h _ _

/-! The same of states. -/

theorem regWord_congr {s t : State} (h : t.reg = s.reg) (off : Nat) : t.regWord off = s.regWord off := by
  simp only [State.regWord, h]

theorem get_congr {s t : State} (h : t.reg = s.reg) (f : Fld) : t.get f = s.get f := by
  simp only [State.get, State.regWord, h]

theorem get_set_same {s : State} (h : regFileWf s.reg = true) (f : Fld) (v : Nat) (hf : f.lsb + f.width ≤ 32) :
    (s.set f v).get f = v % 2 ^ f.width := rget_rset_same h f v hf

theorem get_set_ne (s : State) {f g : Fld} (v : Nat) (h : g.off ≠ f.off) : (s.set f v).get g = s.get g := rget_rset_ne s.reg v h

theorem get_set_field {s : State} (h : regFileWf s.reg = true) {f g : Fld} (v : Nat) (hf : f.lsb + f.width ≤ 32) (ho : g.off = f.off)
    (hd : g.lsb + g.width ≤ f.lsb ∨ f.lsb + f.width ≤ g.lsb) : (s.set f v).get g = s.get g := rget_rset_field h v hf ho hd

theorem regWord_setWord_same {s : State} (h : regFileWf s.reg = true) (off : Nat) (w : Word) : (s.setWord off w).regWord off = w :=
  rword_rput_same h off w

theorem regWord_setWord_ne (s : State) {off off' : Nat} (w : Word) (h : off' ≠ off) : (s.setWord off w).regWord off' = s.regWord off' :=
  rword_rput_ne s.reg w h

theorem regWord_set_ne (s : State) {f : Fld} {off : Nat} (v : Nat) (h : off ≠ f.off) : (s.set f v).regWord off = s.regWord off :=
  rword_rset_ne s.reg v h

/-- A counter goes up by what is added, and saturates. -/
theorem get_countBy {s : State} (h : regFileWf s.reg = true) (f : Fld) (n : Nat) (hf : f.lsb + f.width ≤ 32) :
    (s.countBy f n).get f = min (s.get f + n) (2 ^ f.width - 1) := by
  rw [State.countBy, get_set_same h f _ hf]
  exact Nat.mod_eq_of_lt (Nat.lt_of_le_of_lt (Nat.min_le_right _ _) (Nat.sub_lt (Nat.two_pow_pos _) Nat.one_pos))

theorem get_count {s : State} (h : regFileWf s.reg = true) (f : Fld) (hf : f.lsb + f.width ≤ 32) :
    (s.count f).get f = min (s.get f + 1) (2 ^ f.width - 1) := get_countBy h f 1 hf

theorem onlyWords_set (s : State) (f : Fld) (v : Nat) {l : List Nat} (h : f.off ∈ l) : OnlyWords l s (s.set f v) :=
  fun _ ho => regWord_set_ne s v (fun e => ho (e ▸ h))

theorem onlyWords_setWord (s : State) (o : Nat) (w : Word) {l : List Nat} (h : o ∈ l) : OnlyWords l s (s.setWord o w) :=
  fun _ ho => regWord_setWord_ne s w (fun e => ho (e ▸ h))

theorem onlyWords_congr {a b : State} (l : List Nat) (h : b.reg = a.reg) : OnlyWords l a b := fun off _ => regWord_congr h off

theorem OnlyWords.trans {a b c : State} {l : List Nat} (h : OnlyWords l a b) (k : OnlyWords l b c) : OnlyWords l a c :=
  fun off ho => (k off ho).trans (h off ho)

/-! Bytes of a bank -/

theorem memory_sorted {m : Memory} (h : Memory.wf m = true) : Tab.sorted m = true := by
  simp only [Memory.wf, Tab.canon, Bool.and_eq_true] at h
  exact h.1

theorem readCell_writeCell_same {m : Memory} (h : Memory.wf m = true) (a : Nat) (v : Byte) : readCell (writeCell m a v) a = v :=
  Tab.getD_putD_same _ _ _ _ (memory_sorted h)

theorem readCell_writeCell_ne (m : Memory) {a b : Nat} (v : Byte) (h : b ≠ a) : readCell (writeCell m a v) b = readCell m b :=
  Tab.getD_putD_ne _ _ _ _ _ _ h

theorem readCell_writeCells_out (m : Memory) (a : Nat) (bs : Bytes) (b : Nat) (h : b < a ∨ a + bs.length ≤ b) :
    readCell (writeCells m a bs) b = readCell m b := by
  induction bs generalizing m a with
  | nil => rfl
  | cons v vs ih =>
    simp only [List.length_cons] at h
    rw [writeCells, ih (writeCell m a v) (a + 1) (by omega), readCell_writeCell_ne m v (by omega)]

end Machine
end Sys2Proof
end

