-- ==== Sys2Proof/Laws/Memory.lean ====
section
/-!
SUPPORT. What bytes of an NVM bank read after a program or an erase.
-/
namespace Sys2Proof.Machine
theorem get?_filter {α : Type} (t : Tab α) (p : Nat → Bool) (k : Nat) :
    Tab.get? (t.filter (fun e => p e.1)) k = if p k then Tab.get? t k else none := by
  induction t with
  | nil => simp [Tab.get?]
  | cons e t ih =>
    obtain ⟨k', v'⟩ := e
    simp only [List.filter_cons]
    by_cases hp : p k' = true
    · rw [if_pos hp]
      simp only [Tab.get?, ih]
      by_cases hk : k' = k
      · subst hk
        simp [hp]
      · simp [hk]
    · rw [if_neg hp, ih]
      by_cases hk : k' = k
      · subst hk
        simp [hp]
      · simp [Tab.get?, hk]

/-- An erased byte reads blank, every other byte as before. -/
theorem readCell_eraseCells (m : Memory) (a n b : Nat) :
    readCell (eraseCells m a n) b = if a ≤ b ∧ b < a + n then nvmBlank else readCell m b := by
  simp only [readCell, Tab.getD, eraseCells]
  rw [get?_filter m (fun k => !(decide (a ≤ k) && decide (k < a + n))) b]
  by_cases h : a ≤ b ∧ b < a + n
  · simp [h]
  · rw [if_neg h, if_pos]
    simp only [Bool.not_eq_true', Bool.and_eq_false_iff, decide_eq_false_iff_not]
    by_cases ha : a ≤ b
    · exact .inr (fun hb => h ⟨ha, hb⟩)
    · exact .inl ha

theorem get?_of_all_gt {α : Type} (t : Tab α) {k a : Nat} (h : t.all (fun e => decide (k < e.1)) = true) (ha : a ≤ k) : Tab.get? t a = none := by
  apply Tab.get?_none
  rw [List.all_eq_true] at *
  intro e he
  have := h e he
  simp only [decide_eq_true_eq] at *
  omega

theorem readRun_eq (n a : Nat) (m : Memory) (hs : Tab.sorted m = true) (hm : m.all (fun e => decide (a ≤ e.1)) = true) :
    readRun n a m = (List.range n).map (fun i => readCell m (a + i)) := by
  induction n generalizing a m with
  | zero => cases m <;> rfl
  | succ n ih =>
    rw [List.range_succ_eq_map, List.map_cons, List.map_map]
    cases m with
    | nil =>
      simp only [readRun]
      rw [ih (a + 1) [] rfl rfl]
      rfl
    | cons e t =>
      obtain ⟨k, v⟩ := e
      simp only [List.all_cons, Bool.and_eq_true, decide_eq_true_eq] at hm
      have hs' := hs
      simp only [Tab.sorted, Bool.and_eq_true] at hs'
      simp only [readRun]
      by_cases hk : k = a
      · subst hk
        rw [if_pos rfl, ih (k + 1) t hs'.2 (by
          rw [List.all_eq_true]
          intro e he
          have := List.all_eq_true.mp hs'.1 e he
          simp only [decide_eq_true_eq] at *
          omega)]
        congr 1
        · simp [readCell, Tab.getD, Tab.get?]
        · apply List.map_congr_left
          intro i _
          simp only [readCell, Tab.getD, Tab.get?, Function.comp]
          rw [if_neg (by omega)]
          congr 2
          omega
      · rw [if_neg hk, ih (a + 1) ((k, v) :: t) hs (by
          simp only [List.all_cons, Bool.and_eq_true, decide_eq_true_eq]
          refine ⟨by omega, ?_⟩
          rw [List.all_eq_true]
          intro e he
          have := List.all_eq_true.mp hs'.1 e he
          simp only [decide_eq_true_eq] at *
          omega)]
        congr 1
        · simp only [readCell, Tab.getD, Tab.get?, Nat.add_zero]
          rw [if_neg hk, get?_of_all_gt t hs'.1 (by omega)]
          rfl
        · apply List.map_congr_left
          intro i _
          simp only [Function.comp]
          congr 1
          omega

theorem dropWhile_sorted (m : Memory) (a : Nat) (hs : Tab.sorted m = true) :
    Tab.sorted (m.dropWhile (fun c => decide (c.1 < a))) = true
      ∧ (m.dropWhile (fun c => decide (c.1 < a))).all (fun e => decide (a ≤ e.1)) = true
      ∧ ∀ b, a ≤ b → Tab.get? (m.dropWhile (fun c => decide (c.1 < a))) b = Tab.get? m b := by
  induction m with
  | nil => exact ⟨rfl, rfl, fun _ _ => rfl⟩
  | cons e t ih =>
    obtain ⟨k, v⟩ := e
    have hs' := hs
    simp only [Tab.sorted, Bool.and_eq_true] at hs'
    by_cases hk : k < a
    · rw [List.dropWhile_cons_of_pos (by simpa using hk)]
      refine ⟨(ih hs'.2).1, (ih hs'.2).2.1, fun b hb => ?_⟩
      rw [(ih hs'.2).2.2 b hb]
      simp only [Tab.get?]
      rw [if_neg (by omega)]
    · rw [List.dropWhile_cons_of_neg (by simpa using hk)]
      refine ⟨hs, ?_, fun _ _ => rfl⟩
      simp only [List.all_cons, Bool.and_eq_true, decide_eq_true_eq]
      refine ⟨by omega, ?_⟩
      rw [List.all_eq_true]
      intro e he
      have := List.all_eq_true.mp hs'.1 e he
      simp only [decide_eq_true_eq] at *
      omega

/-- A run of bytes is the bytes one by one. -/
theorem readCells_eq {m : Memory} (h : Memory.wf m = true) (a n : Nat) :
    readCells m a n = (List.range n).map (fun i => readCell m (a + i)) := by
  have hd := dropWhile_sorted m a (memory_sorted h)
  unfold readCells
  rw [readRun_eq n a _ hd.1 hd.2.1]
  apply List.map_congr_left
  intro i _
  simp only [readCell, Tab.getD]
  rw [hd.2.2 _ (by omega)]

theorem readCell_writeCells_in {m : Memory} (h : Memory.wf m = true) (a : Nat) (bs : Bytes) (i : Nat) (hi : i < bs.length) :
    readCell (writeCells m a bs) (a + i) = bs[i] := by
  induction bs generalizing m a i with
  | nil => exact absurd hi (Nat.not_lt_zero _)
  | cons v vs ih =>
    simp only [writeCells]
    cases i with
    | zero =>
      rw [readCell_writeCells_out _ _ _ _ (by omega), Nat.add_zero, readCell_writeCell_same h]
      rfl
    | succ i =>
      have := ih (wf_writeCell a v h) (a + 1) i (by simpa using hi)
      rw [show a + (i + 1) = a + 1 + i by omega, this]
      rfl

/-- A programmed byte is the AND of what stood there and what is programmed. -/
theorem readCell_programCells_in {m : Memory} (h : Memory.wf m = true) (a : Nat) (bs : Bytes) (i : Nat) (hi : i < bs.length) :
    readCell (programCells m a bs) (a + i) = readCell m (a + i) &&& bs[i] := by
  unfold programCells
  have hl : i < (List.zipWith (· &&& ·) (readCells m a bs.length) bs).length := by
    rw [readCells_eq h]
    simpa using hi
  rw [readCell_writeCells_in h a _ i hl]
  simp [readCells_eq h]

theorem readCell_programCells_out {m : Memory} (h : Memory.wf m = true) (a : Nat) (bs : Bytes) (b : Nat) (hb : b < a ∨ a + bs.length ≤ b) :
    readCell (programCells m a bs) b = readCell m b := by
  unfold programCells
  apply readCell_writeCells_out
  rw [readCells_eq h]
  simpa using hb
end Sys2Proof.Machine
end

