-- ==== Sys2Proof/WellFormed.lean ====
section
/-!
DEFINITION. Which commands are well formed: operands whose type allows more than the spec gives. A command that is not has no counterpart
outside the device.
-/
namespace Sys2Proof

/-- An engine of a stage (Table 2-1). -/
def engineIs (st : Stage) (e : Nat) : Bool := decide (e < st.engines)

/-- What OTP holds: 16 bytes of device identifier, four key slots of either kind with digests of 48 bytes, three path delays (R90, R447,
R634). -/
def otpOk (o : Otp) : Bool :=
  o.deviceId.length == 16 && decide (o.ecRevoked < 16) && decide (o.mlRevoked < 16) && o.ecDigests.length == 4 && o.mlDigests.length == 4
    && (o.ecDigests ++ o.mlDigests).all (fun d => d.length == 48) && o.pathDelays.length == 3

/-- What TRAIN carries: 16 bytes of device identifier, 8 of manifest digest (Table 13-7). -/
def trainOk (f : TrainFields) : Bool := f.deviceId.length == 16 && f.manifestDig.length == 8

/-- How many units of a kind there are (Table 16-4). -/
def UnitKind.count : UnitKind → Nat
  | .strand => 32
  | .bank => 16
  | .pseudoChannel => 384
  | .gather => 48
  | .gallery => 48
  | .arbor => 8
  | .catalogue => 12
  | .parser => 4
  | .ddr => 4
  | .lane => 35

/-- A unit of Table 16-4. -/
def unitOk (u : UnitId) : Bool := decide (u.index < u.kind.count)

/-- Whether a command is well formed. -/
def Instr.wf : Instr → Bool
  | .wheelSlot st e => engineIs st e.val
  | .unitTimeout st e => engineIs st e.val
  | .otpSensed o => otpOk o
  | .trainFlitRx _ _ f => trainOk f
  | .dataFlitRx _ _ _ _ _ _ b => decide (1 ≤ b.length ∧ b.length ≤ 244)
  | .globalApply us _ => us.all unitOk
  | .thermalConversion raw hbm => raw.length == 40 && hbm.length == 6
  | .laneWindowDone _ o m => o.length == 4 && m.length == 4
  | .imgProgram _ _ _ _ n d _ => d.all (fun b => b.length == n.toNat)
  | .clLoad _ _ d => d.all (fun d => d.digest.length == 48)
  | .ddrTrainingDone p f _ _ _ => f &&& p == f
  | .ideKmKeyProg _ _ _ _ k => k.length == 32
  | .checkerLockLoss _ n e _ => decide (e ≤ n)
  | _ => true

end Sys2Proof
end

