-- ==== Sys2Proof/Tests/Slice0.lean ====
section
/-!
SUPPORT. Tests: the states that meet the hypotheses of every clause of the statements, ill-formed commands, numbers of the spec's worked
examples.
-/
open Sys2Proof Sys2Proof.Machine
namespace Sys2Proof.Tests
set_option Elab.async false

/-- Small states. -/
def wVaon : State := { State.reset with img := { Img.reset with vaon := true } }

/-- Both rails up. -/
def wRails : State := { State.reset with img := { Img.reset with vaon := true, vio := true } }

/-- A bank whose header names no section. -/
def wBank : NvmBank := ⟨[(12, 0), (13, 0), (14, 0), (15, 0), (20, 0), (21, 0), (22, 0), (23, 0)], none⟩

/-- A start at step `b`. -/
def wBoot (b : BootStep) : State :=
  { State.reset with nvm := [wBank, wBank], img := { Img.reset with vaon := true, vio := true, pwrOk := true, perst := true, boot := b } }

/-- The trim values of a part. -/
def wVals : Bytes := List.replicate 6320 0xFF

/-- A bank with nothing but a trim block. -/
def wTrimBank : NvmBank := ⟨writeCells [] 0x200018B0 (toLe 4 (crc32c (zeros 16 ++ wVals))), none⟩

/-- A device that is up. -/
def wOn : State := wBoot .ready

/-- What the factory left in a part. -/
def wOtp : Otp := ⟨zeros 16, true, 1, 2, List.replicate 4 (zeros 48), List.replicate 4 (zeros 48), [], [1, 2, 3]⟩

/-- A part with a good trim block in bank A. -/
def wTrim : State := { wBoot .trim with nvm := [wTrimBank, NvmBank.blank] }

/-- A quiesced reset at a step. -/
def wQuiesce (x : ResetStep) : State := { wOn with rst := some ⟨x, 0, 1, false, false, none⟩ }

/-- Bank A with something running on it. -/
def wOp (op : NvmOp) : State := { wOn with nvm := [⟨[], some op⟩, NvmBank.blank] }

/-- A start with the banks of this mask failed and the trim block in both. -/
def wTrimDead (m : Nat) : State :=
  { wBoot .trim with nvm := [wTrimBank, wTrimBank], img := { (wBoot .trim).img with dead := m } }

/-- A sealed ledger record with SEQ 0. -/
def wPage : Bytes := [0x4C, 0x45, 0x44, 0x47] ++ zeros 248

/-- The device up with that record in bank A. -/
def wLedger : State :=
  { wOn.set Fld.HIF_STATUS_CMD_READY 1 with nvm := [⟨writeCells [] 0x20010000 (wPage ++ toLe 4 (crc32c wPage)), none⟩, wBank] }

/-- A ring that is enabled, with room for 64 entries. -/
def wRing (r : Nat) (s : State) : State := (s.set (Fld.HIF_RING_CTL_EN r) 1).set (Fld.HIF_RING_CTL_SIZE_LOG2 r) 6

/-- The device up, with rings 0, 16, 32, 48 and 49 open. -/
def wRings : State := wRing 49 (wRing 48 (wRing 32 (wRing 16 (wRing 0 (wOn.set Fld.HIF_STATUS_CMD_READY 1)))))

/-- Submission ring 0 with an entry to take. -/
def wSq : State := { wRings with host := { HostIf.reset with rings := [(0, { Ring.empty with tail := 1, used := 1 })] } }

/-- The same, with window slot 0 taken. -/
def wSqBusy : State := { wSq with host := { wSq.host with win := [(0, ⟨1, false, false, []⟩)] } }

/-- The event ring with a record not yet signalled. -/
def wIrq : State :=
  { (wOn.set (Fld.HIF_RING_IRQ_EN 48) 1).set (Fld.HIF_RING_IRQ_TIME_US 48) 1 with
    now := 500, host := { HostIf.reset with rings := [(48, { Ring.empty with unsignalled := 1 })] } }

/-- A device with SPDM negotiated on both transports. -/
def wSpdm : State := { wOn with mgmt := { Mgmt.reset with doe := ⟨0x13, true, 0, none, none⟩, smbus := ⟨0x13, true, 0, none, none⟩ } }

/-- The same, with large messages under way. -/
def wChunk : State := { wOn with mgmt := { Mgmt.reset with doe := ⟨0x13, true, 1, some (3, [4]), some (5, [4, 5])⟩ } }

/-- The same, with session 0 over DOE. -/
def wSession (established : Bool) : State := { wSpdm with mgmt := { wSpdm.mgmt with sessions := [⟨.doe, 0, established, 0, 0⟩] } }

/-- A roll to bank B with one Strand to take. -/
def wRollOf (p : RollPhase) : Roll := ⟨⟨0, ⟨0, false, 0, 6⟩, 0x41, 0, 0⟩, 1, false, 1, p, [3], none, 0, [], 0, 0⟩

/-- A roll under way, and a submission entry to take. -/
def wRoll (p : RollPhase) : State := { wSq with img := { wSq.img with roll := some (wRollOf p) } }

/-- Strand 3 in LOADING, with a section of four bytes in bank A. -/
def wSection : State :=
  { wOn.modStrand 3 (fun x => { x with state := .loading }) with
    nvm := [⟨writeCells [] 12 ([1] ++ zeros 243 ++ [3, 0, 3, 0] ++ zeros 8 ++ [4, 0, 0, 0] ++ zeros 48), none⟩, wBank] }

/-- Strand 3 loaded, with its key map naming a table that has no bank. -/
def wDead : State :=
  (wOn.modStrand 3 (fun x => { x with state := .loading, loaded := true })).setWord 0x71300 1

/-- Strand 3 loaded in a class that is ready to serve. -/
def wServe : State :=
  ((wOn.modStrand 3 (fun x => { x with state := .loading, loaded := true, cls := 5 })).set (Fld.TID_CLASS_WIN_WIN_US 5) 100).set (Fld.TID_CLASS_CTL_FAIL_ACTION 5) 1

/-- Ports N, S and Tap up. -/
def wPorts : State :=
  [0, 1, 2].foldl (fun s p => (s.set (Fld.INT_PORT_CTL_LINK_UP p) 1).set (Fld.INT_PORT_CTL_ENABLE p) 1) wOn

/-- Sixty bytes of payload EtherType 0x88B5 with their FCS. -/
def wFrame64 : Bytes := (zeros 12 ++ [0x88, 0xB5] ++ zeros 46) ++ toLe 4 (crc32 (zeros 12 ++ [0x88, 0xB5] ++ zeros 46))

/-- The same with the control EtherType. -/
def wPause64 : Bytes := (zeros 12 ++ [0x88, 0x08] ++ zeros 46) ++ toLe 4 (crc32 (zeros 12 ++ [0x88, 0x08] ++ zeros 46))

/-- A frame of port N with its deadline at tick 5000 and its release at 5300. -/
def wFrameOf : Frame := { newFrame 0 .n (zeros 60) 64 [] with strand := some 3, tDl := 5000, tRel := 5300 }

/-- The device with one frame. -/
def wWith (f : Frame) (now : Nat) : State := { wPorts with frames := [f], nextFrame := 1, now := now }

/-- A frame at the end of its parse. -/
def wParsing (accepted : Bool) : State :=
  { (wWith wFrameOf 100).set (Fld.INT_DSET 0) (if accepted then 1024 else 0) with grants := [⟨.intake, 0, 3, 0, .beat, 0⟩] }

/-- A frame inside Strand 3. -/
def wIn : Frame := { wFrameOf with phase := .inside }

/-- Its combine granted at tick 0; now is the argument. -/
def wCombine (dl : Nat) : State :=
  { wWith { wIn with tDl := dl } 100 with grants := [⟨.verdict, 0, 3, 0, .combine, 0⟩] }

/-- A frame past its deadline. -/
def wDecide : State := wWith wIn 5000

/-- A closing screening past its deadline. -/
def wClosing : State := wWith { wIn with kind := .streamClose 2 7 } 5000

/-- A decided frame due for its lead. -/
def wLead : State := wWith { wIn with decided := true, verdict := some .pass } 5100

/-- A led frame due for release. -/
def wRelease : State := wWith { wIn with decided := true, verdict := some .pass, led := true, out := some (zeros 60) } 5300

/-- An idle stream of class 0. -/
def wIdle : State := { wOn with streams := [⟨0, false, 0, [], 0, 1, 3, 9, 0, [], [], false, [], []⟩], nextFrame := 1, now := 10 ^ 15 }

/-- A Tap copy that is due. -/
def wTapq : State := { wWith wIn 6000 with tapQueue := [⟨0, 7, 3, 5000, 5300, 118, zeros 110⟩] }

/-- A chain with a record to seal. -/
def wSeal : State := { wOn with now := 600000000, acc := ⟨[(5, { Chain.empty with started := true, sinceSeal := 1 })], [], [], zeros 48, false⟩ }

/-- A record in the buffer and room in the accession ring. -/
def wDrain : State := { wRing 49 wOn with acc := ⟨[], [⟨5, 1, zeros 128⟩], [], zeros 48, false⟩ }

/-- A frame inside Strand 3. -/
def wInside : State := wWith wIn 100

/-- A frame with a beat to parse. -/
def wSearch : State := wWith { wFrameOf with beatsToGrant := 1 } 100

/-- An engine in service and Running. -/
def wWheel : State := { wOn with pwr := { Power.reset with units := [(0, ⟨.running, 0, none⟩)] } }

/-- Content resident: vocabulary 0 and model 0, version 1 of either. -/
def wContent : List Resident := [⟨.vocabulary, 0, 1, [], [], false, true⟩, ⟨.model, 0, 1, [], [], false, true⟩]

/-- A frame whose TEXT field has a unit granted at tick 0. -/
def wText : State :=
  { wWith { wIn with texts := [⟨1, [65], 0, 0, false, some 1, 3, 1, 0, false, [], false⟩] } 100 with
    content := wContent, grants := [⟨.catalogue, 0, 3, 0, .text 1, 0⟩] }

/-- A frame with a group of trees granted at tick 0. -/
def wTrees : State :=
  { wWith { wIn with models := [⟨0, 0, some 1, [], true, 1, 2, 0, 0, none, none, [], [], false⟩] } 100 with
    content := wContent, grants := [⟨.arbor, 0, 3, 0, .trees 0 0 1, 0⟩] }

/-- A model job, not started or with every unit over. -/
def wModel (b : Bool) : ModelJob := ⟨0, 0, some 1, [], b, 0, 0, 0, 0, if b then some 0 else none, none, [], [], false⟩

/-- A frame whose program is over. -/
def wProgram : State := { wWith { wIn with models := [wModel true] } 100 with content := wContent }

/-- A frame whose model may start. -/
def wStart : State := { wWith { wIn with models := [wModel false] } 100 with content := wContent }

/-- A match. -/
def wHit : Lookup := ⟨true, false, 0, false, false, 1, 3, 8, 9, 0, 1, []⟩

/-- A search granted at tick 0 that found it. -/
def wSrch : Search := ⟨0, 2, 0, false, 1, 5, none, false, .granted 0 0 wHit 1 false, none⟩

/-- A frame with that search. -/
def wGranted : State := wWith { wIn with searches := [wSrch] } 100

/-- Vitrine bank 0 Running, with room for updates and scrub reads. -/
def wBankOp (f : Bank → Bank) : State :=
  (({ wOn with pwr := { Power.reset with units := [(16, ⟨.running, 0, none⟩)] } }.set (Fld.VIT_BANK_CTL_UPD_MAX 0) 4).set
    (Fld.VIT_BANK_CTL_SCRUB 0) 4).modVbank 0 f

/-- Table 0 on bank 0. -/
def wTable (f : VTable → VTable) : State :=
  (((wBankOp (fun k => k)).set (Fld.VIT_TABLE_CFG_EN 0) 1).set (Fld.VIT_TABLE_CFG_REPL 0) 1).modVtable 0 f

/-- A learn. -/
def wLrn : Learn := ⟨0, 0, 5, 1, 0, 1⟩

/-- Its commit as the next operation of table 0. -/
def wLearn : State :=
  { wTable (fun x => { x with cur := some ⟨.learn wLrn, [.learn .insert 0]⟩ }) with
    frames := [{ wIn with searches := [{ wSrch with state := .learning }] }], nextFrame := 1 }

/-- Table 0 due for a sweep. -/
def wSweep : State := (wTable (fun x => x)).set (Fld.VIT_TABLE_CFG_AGE 0) 1

/-- A removal as the next operation of table 0. -/
def wRemove : State := wTable (fun x => { x with ops := [.remove 0] })

/-- A load of table 0 whose operations have all been applied. -/
def wLoad : Load := ⟨0, .round 9, .table, 0, 7, 0, zeros 48, .installing, 0, [], 0, 0, true⟩

/-- The device with it. -/
def wBatch : State :=
  { wTable (fun x => { x with batch := some (0, 7) }) with host := { HostIf.reset with loads := [wLoad], nextLoad := 1 } }

/-- A frame that uses Gather. -/
def wGf : Frame := { wIn with used := 8 }

/-- The device with it, engine 0 Running and credits allowed for 5 µs. -/
def wGather (f : Frame → Frame) : State :=
  { (wWith (f wGf) 100).set (Fld.GTH_STRAND_CFG_ALLOW_US 3) 5 with pwr := { Power.reset with units := [(32, ⟨.running, 0, none⟩)] } }

/-- A walk with one read. -/
def wWalk (granted : Option Nat) : Walk := ⟨0, 0, 0, 0, [⟨0, 1, some 100, granted⟩], [], [], [], 0⟩

/-- The frame in that walk. -/
def wGw (granted : Option Nat) : Frame := { wGf with walkStarted := true, walk := some (wWalk granted) }

/-- A read that waits for credits that its Strand has. -/
def wReads : State :=
  { (wGather (fun _ => wGw none)).set (Fld.GTH_STRAND_POOL 3) 152 with gth := { Gather.reset with holder := (upto 32).map some } }

/-- A read under way. -/
def wReading : State := wGather (fun _ => wGw (some 100))

/-- A guard request of frame 0 on Cove 0. -/
def wReq (st : ReqState) : Request :=
  { slot := 0, gen := 0, state := st, status := 0, frame := 0, frameId := 9, strand := 3, band := 0, cove := 0, tDl := some 5000
    seed := 1, model := 0, modelVer := 1, vocab := 0, vocabVer := 1, aut := 0, autVer := 1, prompt := [65, 66]
    toks := if st = .prefill then [] else [7], truncated := false, q := 0, r := 0, carry := [], label := 0, delivered := false
    shared := [], priv := [0], need := 1, prefilled := 0, order := 0, seq := 0, lastStep := 0
    cancel := if st = .cancelling then some ⟨4, 0, none⟩ else none, doom := none, paused := false, pauseOrder := 0, place := .hbm
    resumeTry := false, counted := true, draft := [], finalPosted := false }

/-- Cove 0 with these requests. -/
def wCove (rs : List Request) : State :=
  { ((((wOn.set (Fld.SRV_COVE_CFG_EN 0) 1).set (Fld.SRV_COVE_CFG_BATCH_MAX 0) 8).set (Fld.SRV_COVE_STEP_CFG_STEP_TOK64 0) 4).set
      (Fld.SRV_COVE_STEP_CFG_CHUNK64 0) 4) with srv := { Guard.reset with requests := rs }, now := 100 }

/-- A step of one request under way. -/
def wStep (r : Request) : State := (wCove [r]).modCove 0 (fun c => { c with step := some ⟨0, [(0, .decode [⟨0, 0, 0⟩])], 0⟩ })

/-- A frame whose guard tokens are ready. -/
def wGuardF : Frame := { wIn with guardReady := some 50, used := 64 }

/-- It comes next on Cove 0, which has this many blocks. -/
def wAdmit (blocks : Nat) : State :=
  { (wCove []).set (Fld.SRV_COVE_BLOCKS 0) blocks with
    frames := [wGuardF], content := wContent ++ [⟨.vocabulary, 0, 0, [], [], false, false⟩, ⟨.automaton, 0, 0, [], [], false, true⟩] }

/-- An output that is due. -/
def wOutput : State := { (wCove []).modCove 0 (fun c => { c with outputs := [⟨0, 5, 1, 2, zeros 16, 50⟩] }) with frames := [wGuardF] }

/-- A FINAL record that is due. -/
def wRecord : State := (wCove [wReq .ended]).modCove 0 (fun c => { c with records := [⟨0, 0, 9, 0, zeros 32, true, none, 50⟩] })

/-- A submission entry to take, and a guard request. -/
def wGs (r : Request) : State := { wSq with srv := { Guard.reset with requests := [r] } }

/-- A paused request. -/
def wPaused : Request := { wReq .paused with paused := true }

/-- Cove 0 short of blocks, with an Archive tier of this many MiB. -/
def wMove (size : Nat) : State :=
  { (((wCove [wPaused]).set (Fld.SRV_PAUSE_CTL_ARCH_EN 0) 1).set (Fld.SRV_ARCH_LOW 0) 5).set Fld.SRV_ARCH_SIZE size with
    img := { wOn.img with ddrDone := true } }

/-- An Archive entry of request 0. -/
def wEntry : ArchEntry := ⟨0, 0, 9, zeros 16, 3, [0], 0, 72, false, some 50, none, [], []⟩

/-- The request with its cache at a place, and the entry. -/
def wArch (p : CachePlace) : State :=
  { wCove [{ wReq .paused with place := p }] with
    srv := { Guard.reset with requests := [{ wReq .paused with place := p }], archive := [wEntry], nextEntry := 1 } }

/-- A load command. -/
def wRef : CmdRef := ⟨0, ⟨0, false, 0, 6⟩, 0x10, 0, 0⟩

/-- A load of vocabulary 0. -/
def wVoc : Load := ⟨0, .command wRef, .vocabulary, 0, 1, 0, zeros 48, .waiting, 0, [], 0, 0, false⟩

/-- The device with one load. -/
def wLoads (l : Load) : State := { wOn.set (Fld.IMG_HBM_REGION 4) 1 with host := { HostIf.reset with loads := [l], nextLoad := 1 } }

/-- A batch of one CLEAR for table 0. -/
def wBatchBytes : Bytes := toLe 4 0x4C425456 ++ toLe 4 0 ++ toLe 4 1 ++ zeros 20 ++ [6] ++ zeros 255

/-- Its load, being read. -/
def wTab : Load := ⟨0, .command wRef, .table, 0, 1, 288, sha384 wBatchBytes, .reading, 0, [], 0, 0, true⟩

/-- A full load of graph 0 without records. -/
def wGl : Load :=
  ⟨0, .command wRef, .graph, 0, 3, 64, zeros 48, .installing, 0, toLe 4 0x44544847 ++ [0, 1, 0, 0] ++ toLe 4 0 ++ toLe 4 3 ++ zeros 48, 0, 0, true⟩

/-- Its turn has come. -/
def wGload : State := { wLoads wGl with gth := { Gather.reset with graphs := [(0, { Graph.empty with queue := [0] })] } }

/-- It has this many lines still to pay for. -/
def wPay (n : Nat) : State :=
  { wLoads wGl with gth := { Gather.reset with graphs := [(0, { Graph.empty with queue := [0], applying := some (0, 3, n, true) })] } }

/-- The FRAME record of a recorded frame of fourteen zero bytes. -/
def wRecBytes : Bytes := [1, 1] ++ zeros 46 ++ (sha256 (zeros 14)).take 16 ++ zeros 64

/-- Its replay descriptor. -/
def wRerun : Bytes := toLe 4 0x52504C59 ++ toLe 4 14 ++ zeros 56 ++ wRecBytes ++ zeros 14

/-- The manifest of a torus of one row and two columns, with a Causeway from node 0 over port E. -/
def wMan : Bytes :=
  [0x46, 0x4D, 0x41, 0x4E, 1, 0, 0, 0, 1, 1, 2, 0, 0, 0, 0, 0, 2, 0, 0, 1] ++ toLe 4 128 ++ toLe 4 192 ++ toLe 4 192 ++ zeros 96
    ++ ([0, 0, 1, 1] ++ zeros 28) ++ ([16, 0, 1, 1] ++ zeros 28) ++ ([0, 0, 0, 0, 2, 1, 0, 0, 1] ++ zeros 7)

/-- A port that is UP. -/
def wUp : NwlPort := { NwlPort.reset with state := .up, lanes := 2, lastGood := some 0 }

/-- A device with a port E. -/
def wPort (p : NwlPort) : State := { wOn with nwl := [(2, p)] }

/-- A device of that fabric, with a port E. -/
def wFabWith (p : NwlPort) : State := { (wPort p).set Fld.FAB_STATE_MODE 1 with fab := { Fabric.reset with manifest := wMan, manifestDig := zeros 48 } }

/-- The same with port E UP. -/
def wFab : State := wFabWith wUp

/-- A packet of a type from node 16. -/
def wPacket (k : Nat) (b : Bytes) : Packet := { newPacket k 0 0 0 0 b with src := 16 }

/-- It is the first packet of the endpoint memory. -/
def wGot (k : Nat) (b : Bytes) : State := { wFab with fab := { wFab.fab with endpoint := [wPacket k b] } }

/-- A flow to node 16. -/
def wFlow : Flow := ⟨16, 50, 0, 0, 0, none, 0⟩

/-- A flit header without an acknowledgement. -/
def wHead : FlitHead := ⟨false, 0, 0, 0⟩

/-- A flit in the replay buffer. -/
def wSent : SentFlit := ⟨0, 0, true, true, zeros 36⟩

/-- A load as the origin replicates it. -/
def wRepl : ReplLoad := ⟨0, 2, 0, 1, 0, zeros 48, [1, 2]⟩

/-- The member of a stack of two at a position. -/
def wStack (pos : Nat) : State := { (wOn.set Fld.STK_CFG_SIZE 2).set Fld.STK_CFG_POS pos with nwl := [(4, wUp), (5, wUp)] }

/-- With a frame whose search of table 1 waits. -/
def wAsk (pos : Nat) : State :=
  { (wStack pos).set (Fld.VIT_TABLE_CFG_STACK 1) 2 with frames := [{ wIn with searches := [{ wSrch with state := .waiting }] }], nextFrame := 1 }

/-- With a stack record that has come. -/
def wRec (pos port : Nat) (b : Bytes) : State :=
  { wStack pos with stk := { Stack.reset with records := [⟨port, 1, true, padTo 64 b⟩] } }

/-- A search that the Headland has issued for Shoal 1. -/
def wHs : HeadSearch := ⟨5, 1, 3, 0, 0, 1, 2, 1, 0, none, 0⟩

/-- The Headland with it. -/
def wHd : State := { wStack 0 with stk := { Stack.reset with head := [wHs] } }

/-- A Shoal that holds it. -/
def wSh : State := { wStack 1 with stk := { Stack.reset with shoal := [⟨5, none⟩] } }

/-- A Shoal that has asked. -/
def wAsked : State := { wStack 1 with stk := { Stack.reset with asks := [⟨3, 0, 0, 0⟩] } }

/-- One step of a CRC stays within 32 bits. -/
theorem crcByte_lt {p c : Nat} (hp : p < 2 ^ 32) (hc : c < 2 ^ 32) (b : Byte) : crcByte p c b < 2 ^ 32 := by
  have h : ∀ x, x < 2 ^ 32 → crcShift p x < 2 ^ 32 := by
    intro x hx
    unfold crcShift
    split
    · exact Nat.xor_lt_two_pow (by omega) hp
    · omega
  unfold crcByte
  iterate 8 apply h
  exact Nat.xor_lt_two_pow hc (Nat.lt_of_lt_of_le b.isLt (by decide))

theorem crc32c_lt (bs : Bytes) : crc32c bs < 2 ^ 32 := by
  have h : ∀ (l : Bytes) c, c < 2 ^ 32 → l.foldl (crcByte 0x82F63B78) c < 2 ^ 32 := by
    intro l
    induction l with
    | nil => exact fun c hc => hc
    | cons b t ih => exact fun c hc => ih _ (crcByte_lt (by decide) hc b)
  exact Nat.xor_lt_two_pow (h bs _ (by decide)) (by decide)

/-- Blank bytes with a check word after them. -/
theorem checked_cells (a n c : Nat) :
    readCells (writeCells [] (a + n) (toLe 4 c)) a (n + 4) = List.replicate n 0xFF ++ toLe 4 c := by
  have hw : Memory.wf (writeCells [] (a + n) (toLe 4 c)) = true := wf_writeCells _ _ rfl
  have hl : (toLe 4 c).length = 4 := rfl
  rw [readCells_eq hw]
  apply List.ext_getElem
  · simp [hl]
  · intro i h1 h2
    rw [List.getElem_map, List.getElem_range]
    by_cases hi : i < n
    · rw [readCell_writeCells_out _ _ _ _ (by omega), List.getElem_append_left (by simpa using hi), List.getElem_replicate]
      rfl
    · have h3 : i - n < (toLe 4 c).length := by simp at h1; omega
      have := readCell_writeCells_in (m := []) rfl (a + n) (toLe 4 c) (i - n) h3
      rw [show a + i = a + n + (i - n) by omega, this, List.getElem_append_right (by simp; omega)]
      simp

theorem checked_word (n c : Nat) (hc : c < 2 ^ 32) (l : Bytes) (h : l.length = n) : le (l ++ toLe 4 c) n 4 = c := by
  subst h
  simp only [le, slice, List.drop_left, toLe, List.take, leNat, byte, BitVec.toNat_ofNat]
  omega

/-- The trim block of that bank is good. -/
theorem trim_block (s : State) (b : Nat) (hb : bit s.img.dead b = false) (hm : s.bank b = wTrimBank) (hk : s.window 0x10 16 = zeros 16) :
    s.trimBlock b = some (wVals ++ toLe 4 (crc32c (zeros 16 ++ wVals))) := by
  have hn : wVals.length = 6320 := by rw [wVals, List.length_replicate]
  have hm' : (s.bank b).cells = writeCells [] 0x200018B0 (toLe 4 (crc32c (zeros 16 ++ wVals))) := by rw [hm, wTrimBank]
  generalize hc : crc32c (zeros 16 ++ wVals) = c at *
  have hr : readCells (writeCells [] 0x200018B0 (toLe 4 c)) 0x20000000 6324 = wVals ++ toLe 4 c := checked_cells 0x20000000 6320 c
  have ht : (wVals ++ toLe 4 c).take 6320 = wVals := List.take_left' hn
  have hle : le (wVals ++ toLe 4 c) 6320 4 = c := checked_word _ _ (hc ▸ crc32c_lt _) wVals hn
  unfold State.trimBlock State.nvmRead
  rw [hm', hr]
  simp only [ht, hle, hb, hk, hc, Bool.not_false, Bool.true_and, beq_self_eq_true, if_true]

/-! For each statement: states and operands that meet the hypotheses of its clauses. -/

theorem test_rails_and_sensing_1 :
    (∃ (s : State), s.img.vaon = false)
    ∧ (∃ (s : State), s.img.vaon = true)
    ∧ (∃ (s : State), regFileWf s.reg = true ∧ s.img.vaon = true ∧ s.img.vio = false)
    ∧ (∃ (s : State), s.img.vio = true)
    ∧ (∃ (s : State), regFileWf s.reg = true ∧ (s.img.boot = .memory ∨ s.img.boot = .ready))
    ∧ (∃ (s : State), regFileWf s.reg = true ∧ s.img.vaon = true ∧ s.img.vio = true ∧ s.img.pwrOk = false)
    ∧ (∃ (s : State), regFileWf s.reg = true ∧ s.img.pwrOk = true)
    ∧ (∃ (s : State), regFileWf s.reg = true ∧ s.img.boot = .otp ∧ s.flag Fld.GLB_STRAP_TEST_EN = false ∧ s.coolEnough = true)
    ∧ (∃ (s : State), s.flag Fld.GLB_STRAP_TEST_EN = true)
    ∧ (∃ (b : Bytes) (s : State), regFileWf s.reg = true ∧ s.trimBlock 0 = some b ∧ s.img.boot = .trim)
    ∧ (∃ (b : Bytes) (s : State), regFileWf s.reg = true ∧ s.trimBlock 1 = some b ∧ s.img.boot = .trim ∧ s.trimBlock 0 = none)
    ∧ (∃ (s : State), regFileWf s.reg = true ∧ s.img.boot = .trim ∧ s.trimBlock 0 = none ∧ s.trimBlock 1 = none) :=
  ⟨⟨State.reset, by decide +kernel⟩,
   ⟨wOn, by decide +kernel⟩,
   ⟨wVaon, by decide +kernel, by decide +kernel, by decide +kernel⟩,
   ⟨wOn, by decide +kernel⟩,
   ⟨wBoot .ready, by decide +kernel, by decide +kernel⟩,
   ⟨wRails, by decide +kernel, by decide +kernel, by decide +kernel, by decide +kernel⟩,
   ⟨wOn, by decide +kernel, by decide +kernel⟩,
   ⟨wBoot .otp, by decide +kernel, by decide +kernel, by decide +kernel, by decide +kernel⟩,
   ⟨State.reset.set Fld.GLB_STRAP_TEST_EN 1, by decide +kernel⟩,
   ⟨(wVals ++ toLe 4 (crc32c (zeros 16 ++ wVals))), wTrim, by decide +kernel, trim_block (wTrim) 0 rfl rfl (by decide +kernel),
     by decide +kernel⟩,
   ⟨(wVals ++ toLe 4 (crc32c (zeros 16 ++ wVals))), wTrimDead 1, by decide +kernel, trim_block (wTrimDead 1) 1 rfl rfl (by decide +kernel),
     by decide +kernel, by decide +kernel⟩,
   ⟨wTrimDead 3, by decide +kernel, by decide +kernel, by decide +kernel, by decide +kernel⟩⟩

theorem test_rails_and_sensing_2 :
    (∃ (s : State), regFileWf s.reg = true ∧ s.img.boot = .select) :=
  ⟨wBoot .select, by decide +kernel, by decide +kernel⟩

theorem test_start_up_sequence :
    (∃ (s : State), regFileWf s.reg = true ∧ s.img.boot = .stream)
    ∧ (∃ (s : State), regFileWf s.reg = true ∧ s.img.boot = .sign)
    ∧ (∃ (s : State), regFileWf s.reg = true ∧ s.img.boot = .global)
    ∧ (∃ (s : State), s.img.boot = .memory ∧ s.flag Fld.TID_TB_STATE_PLL_LOCKED = true)
    ∧ (∃ (s : State), s.flag Fld.TID_TB_STATE_PLL_LOCKED = false)
    ∧ (∃ (s : State), regFileWf s.reg = true ∧ (s.img.boot = .memory ∨ s.img.boot = .ready) ∧ s.img.ddrDone = false)
    ∧ (∃ (s : State), s.img.ddrDone = true)
    ∧ (∃ (s : State), s.img.perst = false)
    ∧ (∃ (s : State), s.img.perst = true)
    ∧ (∃ (s : State), regFileWf s.reg = true ∧ s.img.perst = true ∧ s.pwr.trims.isSome = true ∧ s.flag Fld.HIF_STATUS_LINK_UP = false ∧
        s.pcieTested = false)
    ∧ (∃ (s : State), s.flag Fld.HIF_STATUS_LINK_UP = true)
    ∧ (∃ (s : State), s.img.pwrOk = true ∧ s.img.perst = true) :=
  ⟨⟨wBoot .stream, by decide +kernel, by decide +kernel⟩,
   ⟨wBoot .sign, by decide +kernel, by decide +kernel⟩,
   ⟨wBoot .global, by decide +kernel, by decide +kernel⟩,
   ⟨(wBoot .memory).set Fld.TID_TB_STATE_PLL_LOCKED 1, by decide +kernel, by decide +kernel⟩,
   ⟨State.reset, by decide +kernel⟩,
   ⟨wBoot .memory, by decide +kernel, by decide +kernel, by decide +kernel⟩,
   ⟨{ State.reset with img := { Img.reset with ddrDone := true } }, by decide +kernel⟩,
   ⟨State.reset, by decide +kernel⟩,
   ⟨wOn, by decide +kernel⟩,
   ⟨{ wOn with pwr := { Power.reset with trims := some [] } }, by decide +kernel, by decide +kernel, by decide +kernel, by decide +kernel,
     by decide +kernel⟩,
   ⟨State.reset.set Fld.HIF_STATUS_LINK_UP 1, by decide +kernel⟩,
   ⟨wOn, by decide +kernel, by decide +kernel⟩⟩

theorem test_full_resets_1 :
    (∃ (s : State), s.resetKey = none)
    ∧ (∃ (k : Nat) (s : State), s.resetKey = some k ∧ 500000 < s.since k)
    ∧ (∃ (k : Nat) (s : State), regFileWf s.reg = true ∧ s.resetKey = some k ∧ s.since k ≤ 500000 ∧ s.rst = none ∧ s.img.pwrOk = true ∧
        s.pwr.tripped = false)
    ∧ (∃ (k : Nat) (s : State), s.resetKey = some k ∧ s.since k ≤ 500000 ∧ s.rst = none ∧ s.img.pwrOk = true ∧ s.pwr.tripped = false)
    ∧ (∃ (s : State), regFileWf s.reg = true ∧ s.rst = none ∧ s.img.pwrOk = true ∧ s.pwr.tripped = false)
    ∧ (∃ (s : State), s.pwr.tripped = true)
    ∧ (∃ (s : State), regFileWf s.reg = true ∧ s.img.boot = .ready ∧ s.flag Fld.FLT_CTL_WDT_EN = true ∧ s.rst = none ∧
        s.img.pwrOk = true ∧ s.pwr.tripped = false)
    ∧ (∃ (s : State), s.img.boot = .ready ∧ s.flag Fld.FLT_CTL_WDT_EN = false)
    ∧ (∃ (s : State), s.img.boot = .off)
    ∧ (∃ (r : FullReset) (s : State), s.rst = some r ∧ r.step = .frames ∧ s.frames.all (fun f => !f.kind.timed) = true ∧
        s.stopped = false)
    ∧ (∃ (s : State), s.rst = none)
    ∧ (∃ (r : FullReset) (s : State), s.rst = some r ∧ r.step = .guard ∧ (s.guardQuiet = true ∨ 5000000 ≤ s.since r.since) ∧
        s.stopped = false) :=
  ⟨⟨State.reset, by decide +kernel⟩,
   ⟨0, { wOn with now := 600000, resetKey := some 0 }, by decide +kernel, by decide +kernel⟩,
   ⟨0, { wOn with resetKey := some 0 }, by decide +kernel, by decide +kernel, by decide +kernel, by decide +kernel, by decide +kernel,
     by decide +kernel⟩,
   ⟨0, { wOn with resetKey := some 0 }, by decide +kernel, by decide +kernel, by decide +kernel, by decide +kernel, by decide +kernel⟩,
   ⟨wOn, by decide +kernel, by decide +kernel, by decide +kernel, by decide +kernel⟩,
   ⟨{ State.reset with pwr := { Power.reset with tripped := true } }, by decide +kernel⟩,
   ⟨wOn, by decide +kernel, by decide +kernel, by decide +kernel, by decide +kernel, by decide +kernel, by decide +kernel⟩,
   ⟨wOn.set Fld.FLT_CTL_WDT_EN 0, by decide +kernel, by decide +kernel⟩,
   ⟨State.reset, by decide +kernel⟩,
   ⟨⟨.frames, 0, 1, false, false, none⟩, wQuiesce .frames, by decide +kernel, by decide +kernel, by decide +kernel, by decide +kernel⟩,
   ⟨State.reset, by decide +kernel⟩,
   ⟨⟨.guard, 0, 1, false, false, none⟩, wQuiesce .guard, by decide +kernel, by decide +kernel, by decide +kernel, by decide +kernel⟩⟩

theorem test_full_resets_2 :
    (∃ (r : FullReset) (s : State), regFileWf s.reg = true ∧ s.rst = some r ∧ r.step = .drain ∧
        (s.acc.buffer.isEmpty = true ∨ s.get Fld.FLT_CTL_DRAIN_MS * 500000 ≤ s.since r.since) ∧ s.stopped = false) :=
  ⟨⟨.drain, 0, 1, false, false, none⟩, wQuiesce .drain, by decide +kernel, by decide +kernel, by decide +kernel, by decide +kernel,
    by decide +kernel⟩

theorem test_nvm_operations_1 :
    (∃ (bank : Fin 2) (off : Nat) (rec : Bool) (s : State), s.rst = none ∧ bank.val < s.nvm.length ∧
        (s.bank bank.val).op = some (.erase off rec))
    ∧ (∃ (bank : Fin 2) (s : State), (s.bank bank.val).op = none)
    ∧ (∃ (bank : Fin 2) (off : Nat) (data : Bytes) (s : State), s.rst = none ∧ bank.val < s.nvm.length ∧
        (s.bank bank.val).op = some (.imagePage off data))
    ∧ (∃ (bank : Fin 2) (off : Nat) (data : Bytes) (s : State), s.rst = none ∧ bank.val < s.nvm.length ∧
        (s.bank bank.val).op = some (.recPage off data))
    ∧ (∃ (s : State), regFileWf s.reg = true ∧ s.img.boot = .fail ∧ s.recPlace.2 < nvmSize ∧ s.flag Fld.IMG_REC_STATUS_BUSY = false ∧
        (s.bank s.recPlace.1).op = none ∧ s.recPlace.1 < s.nvm.length)
    ∧ (∃ (s : State), s.img.boot = .fail ∧ s.recPlace.2 < nvmSize ∧ s.flag Fld.IMG_REC_STATUS_BUSY = true)
    ∧ (∃ (s : State), regFileWf s.reg = true ∧ s.img.boot = .fail ∧ s.recPlace.2 < nvmSize ∧ s.flag Fld.IMG_REC_STATUS_BUSY = false ∧
        (s.bank s.recPlace.1).op ≠ none)
    ∧ (∃ (s : State), s.img.boot ≠ .fail)
    ∧ (∃ (s : State), regFileWf s.reg = true ∧ s.img.boot = .fail)
    ∧ (∃ (bank : Fin 2) (c : CmdRef) (s : State), regFileWf s.reg = true ∧
        s.img.verifies.find? (fun v => v.bank == bank.val) = some ⟨bank.val, .command c⟩)
    ∧ (∃ (s : State), s.img.verifies = [])
    ∧ (∃ (bank : Fin 2) (s : State), s.readRuns bank.val none = true ∧ Tab.getD s.img.readRetries bank.val 0 < 3) :=
  ⟨⟨0, 65536, true, wOp (.erase 65536 true), by decide +kernel, by decide +kernel, by decide +kernel⟩,
   ⟨1, State.reset, by decide +kernel⟩,
   ⟨0, 256, [1], wOp (.imagePage 256 [1]), by decide +kernel, by decide +kernel, by decide +kernel⟩,
   ⟨0, 256, [1], wOp (.recPage 256 [1]), by decide +kernel, by decide +kernel, by decide +kernel⟩,
   ⟨wBoot .fail, by decide +kernel, by decide +kernel, by decide +kernel, by decide +kernel, by decide +kernel, by decide +kernel⟩,
   ⟨(wBoot .fail).set Fld.IMG_REC_STATUS_BUSY 1, by decide +kernel, by decide +kernel, by decide +kernel⟩,
   ⟨{ wBoot .fail with nvm := [⟨[], some (.erase 0 false)⟩, NvmBank.blank] }, by decide +kernel, by decide +kernel, by decide +kernel,
     by decide +kernel, by decide +kernel⟩,
   ⟨State.reset, by decide +kernel⟩,
   ⟨wBoot .fail, by decide +kernel, by decide +kernel⟩,
   ⟨1, ⟨0, ⟨0, false, 0, 7⟩, 0x45, 0, 0⟩, { wOn with img := { wOn.img with verifies := [⟨1, .command ⟨0, ⟨0, false, 0, 7⟩, 0x45, 0, 0⟩⟩] } },
     by decide +kernel, by decide +kernel⟩,
   ⟨State.reset, by decide +kernel⟩,
   ⟨1, wBoot .trim, by decide +kernel, by decide +kernel⟩⟩

theorem test_nvm_operations_2 :
    (∃ (bank : Fin 2) (s : State), regFileWf s.reg = true ∧ s.img.boot = .stream ∧ s.img.bank = bank.val ∧
        3 ≤ Tab.getD s.img.readRetries bank.val 0 ∧ s.img.retried = false)
    ∧ (∃ (bank : Fin 2) (s : State), regFileWf s.reg = true ∧ s.img.boot = .stream ∧ s.img.bank = bank.val ∧
        3 ≤ Tab.getD s.img.readRetries bank.val 0 ∧ s.img.retried = true)
    ∧ (∃ (bank : Fin 2) (strand : Option (Fin 32)) (s : State), s.readRuns bank.val strand = false) :=
  ⟨⟨0, { wBoot .stream with img := { (wBoot .stream).img with readRetries := [(0, 3)] } }, by decide +kernel, by decide +kernel,
     by decide +kernel, by decide +kernel, by decide +kernel⟩,
   ⟨0, { wBoot .stream with img := { (wBoot .stream).img with retried := true, readRetries := [(0, 3)] } }, by decide +kernel,
     by decide +kernel, by decide +kernel, by decide +kernel, by decide +kernel⟩,
   ⟨0, none, State.reset, by decide +kernel⟩⟩

theorem test_thermal_limits :
    (∃ (raw : List (BitVec 12)) (hbm : List (BitVec 16)) (s : State), regFileWf s.reg = true ∧ s.img.vaon = true ∧ raw.length = 40 ∧
        hbm.length = 6)
    ∧ (∃ (s : State), s.img.vaon = false)
    ∧ (∃ (s : State), s.img.vaon = true ∧ s.pwr.tripped = false)
    ∧ (∃ (s : State), s.pwr.tripped = true)
    ∧ (∃ (s : State), regFileWf s.reg = true ∧ s.thermHeld = false ∧ 800 ≤ signed 16 (s.get Fld.THM_MAX) ∧
        50000 ≤ s.since s.pwr.thermStep)
    ∧ (∃ (s : State), regFileWf s.reg = true ∧ s.thermHeld = false ∧ signed 16 (s.get Fld.THM_MAX) < 776 ∧ 0 < s.get Fld.PWR_THR_THERMAL ∧
        500000 ≤ s.since s.pwr.thermStep)
    ∧ (∃ (s : State), s.thermHeld = true)
    ∧ (∃ (s : State), regFileWf s.reg = true ∧ s.get Fld.PWR_CTL_CAP_W = 0)
    ∧ (∃ (mw : Word) (s : State), regFileWf s.reg = true ∧ 0 < s.get Fld.PWR_CTL_CAP_W ∧ s.get Fld.PWR_CTL_CAP_W * 1000 < mw.toNat)
    ∧ (∃ (mw : Word) (s : State), regFileWf s.reg = true ∧ 0 < s.get Fld.PWR_CTL_CAP_W ∧ s.get Fld.PWR_CTL_CAP_W * 950 ≤ mw.toNat ∧
        mw.toNat ≤ s.get Fld.PWR_CTL_CAP_W * 1000)
    ∧ (∃ (x : Nat) (s : State), s.pwr.raiseAt = some x ∧ s.reached x = true)
    ∧ (∃ (s : State), s.pwr.raiseAt = none) :=
  ⟨⟨List.replicate 40 0, List.replicate 6 0, wOn, by decide +kernel, by decide +kernel, by decide +kernel, by decide +kernel⟩,
   ⟨State.reset, by decide +kernel⟩,
   ⟨wOn, by decide +kernel, by decide +kernel⟩,
   ⟨{ State.reset with pwr := { Power.reset with tripped := true } }, by decide +kernel⟩,
   ⟨{ wOn.set Fld.THM_MAX 800 with now := 50000 }, by decide +kernel, by decide +kernel, by decide +kernel, by decide +kernel⟩,
   ⟨{ wOn.set Fld.PWR_THR_THERMAL 3 with now := 500000 }, by decide +kernel, by decide +kernel, by decide +kernel, by decide +kernel,
     by decide +kernel⟩,
   ⟨wOn.set Fld.THM_STATE_BLIND 1, by decide +kernel⟩,
   ⟨wOn, by decide +kernel, by decide +kernel⟩,
   ⟨1001, wOn.set Fld.PWR_CTL_CAP_W 1, by decide +kernel, by decide +kernel, by decide +kernel⟩,
   ⟨1000, wOn.set Fld.PWR_CTL_CAP_W 1, by decide +kernel, by decide +kernel, by decide +kernel, by decide +kernel⟩,
   ⟨0, { wOn with pwr := { Power.reset with raiseAt := some 0 } }, by decide +kernel, by decide +kernel⟩,
   ⟨State.reset, by decide +kernel⟩⟩

theorem test_sensors_and_lanes :
    (∃ (sensor : Fin 16) (x : Nat) (s : State), regFileWf s.reg = true ∧ Tab.get? s.pwr.lowSince sensor.val = some x ∧ 50000 ≤ s.since x ∧
        s.pwr.lowHeld.contains sensor.val = false)
    ∧ (∃ (sensor : Fin 16) (s : State), Tab.get? s.pwr.lowSince sensor.val = none)
    ∧ (∃ (sensor : Fin 40) (s : State), regFileWf s.reg = true ∧ s.pwr.trims.isSome = true ∧
        (sensorGroup sensor.val).all (fun j => !s.flag (Fld.THM_SENSOR_STALE j)) = true ∧
        s.get Fld.THM_VERIFY * 500000 ≤ s.since (s.sensorVerify sensor.val).last)
    ∧ (∃ (s : State), s.pwr.trims = none)
    ∧ (∃ (sensor : Fin 40) (x : Nat) (s : State), regFileWf s.reg = true ∧ (s.sensorVerify sensor.val).check = some x ∧
        100000 ≤ s.since x)
    ∧ (∃ (sensor : Fin 40) (s : State), (s.sensorVerify sensor.val).check = none)
    ∧ (∃ (lane : Fin 35) (occupancy : List Nat) (means : List Int) (s : State), regFileWf s.reg = true ∧ s.laneVerifies lane.val = true ∧
        s.laneUp lane.val = true ∧ windowPasses (slice s.trimBytes (80 + 160 * lane.val) 160) ⟨occupancy, means⟩ = true)
    ∧ (∃ (lane : Fin 35) (occupancy : List Nat) (means : List Int) (s : State), regFileWf s.reg = true ∧ s.laneVerifies lane.val = true ∧
        s.laneUp lane.val = true ∧ windowPasses (slice s.trimBytes (80 + 160 * lane.val) 160) ⟨occupancy, means⟩ = false)
    ∧ (∃ (lane : Fin 35) (s : State), s.laneVerifies lane.val = true ∧ s.laneUp lane.val = false)
    ∧ (∃ (lane : Fin 35) (s : State), s.laneVerifies lane.val = false)
    ∧ (∃ (lane : Fin 35) (s : State), regFileWf s.reg = true ∧ s.laneVerifies lane.val = true ∧
        5000000000 ≤ s.since (s.laneVerify lane.val).start)
    ∧ (∃ (lane : Fin 35) (s : State), s.since (s.laneVerify lane.val).start < 5000000000) :=
  ⟨⟨3, 0, { wOn with now := 50000, pwr := { Power.reset with lowSince := [(3, 0)] } }, by decide +kernel, by decide +kernel,
     by decide +kernel, by decide +kernel⟩,
   ⟨3, State.reset, by decide +kernel⟩,
   ⟨3, { wOn.set Fld.THM_VERIFY 0 with pwr := { Power.reset with trims := some [] } }, by decide +kernel, by decide +kernel,
     by decide +kernel, by decide +kernel⟩,
   ⟨State.reset, by decide +kernel⟩,
   ⟨3, 0, { wOn with now := 100000, pwr := { Power.reset with sensors := [(3, ⟨some 0, 0, 0⟩)] } }, by decide +kernel, by decide +kernel,
     by decide +kernel⟩,
   ⟨3, State.reset, by decide +kernel⟩,
   ⟨20, [250, 250, 250, 250], [0, 0, 0, 0], { wOn.set Fld.HIF_STATUS_LINK_UP 1 with pwr := { Power.reset with trims := some [] } },
     by decide +kernel, by decide +kernel, by decide +kernel, by decide +kernel⟩,
   ⟨20, [300, 250, 250, 200], [0, 0, 0, 0], { wOn.set Fld.HIF_STATUS_LINK_UP 1 with pwr := { Power.reset with trims := some [] } },
     by decide +kernel, by decide +kernel, by decide +kernel, by decide +kernel⟩,
   ⟨20, { wOn with pwr := { Power.reset with trims := some [] } }, by decide +kernel, by decide +kernel⟩,
   ⟨20, State.reset, by decide +kernel⟩,
   ⟨20, { wOn with now := 5000000000, pwr := { Power.reset with trims := some [] } }, by decide +kernel, by decide +kernel,
     by decide +kernel⟩,
   ⟨20, State.reset, by decide +kernel⟩⟩

theorem test_unit_power :
    (∃ (unit : Fin 137) (s : State), s.unitManaged unit.val = true ∧ (s.punit unit.val).state = .running ∧ s.unitWork unit.val = false ∧
        s.unitFloor unit.val ≤ 1 ∧ s.get Fld.PWR_CTL_IDLE_BANK_US * 500 ≤ s.since (s.punit unit.val).since)
    ∧ (∃ (unit : Fin 137) (s : State), s.unitWork unit.val = true)
    ∧ (∃ (unit : Fin 137) (s : State), 1 < s.unitFloor unit.val)
    ∧ (∃ (unit : Fin 137) (s : State), s.unitManaged unit.val = true ∧ (s.punit unit.val).state = .banked ∧
        (s.punit unit.val).wake = none ∧ s.unitWork unit.val = false ∧ s.unitFloor unit.val = 0 ∧
        s.get Fld.PWR_CTL_IDLE_PARK_MS * 500000 ≤ s.since (s.punit unit.val).since)
    ∧ (∃ (unit : Fin 137) (s : State), 0 < s.unitFloor unit.val)
    ∧ (∃ (unit : Fin 137) (s : State), s.unitManaged unit.val = true ∧ (s.punit unit.val).state ≠ .running ∧
        (s.punit unit.val).wake = none ∧ (s.unitWork unit.val = true ∨ powerCode (s.punit unit.val).state < s.unitFloor unit.val))
    ∧ (∃ (unit : Fin 137) (lockFailed : Bool) (w : Wake) (s : State), regFileWf s.reg = true ∧ (s.punit unit.val).wake = some w ∧
        (lockFailed = false ∨ (s.punit unit.val).state ≠ .parked))
    ∧ (∃ (unit : Fin 137) (w : Wake) (s : State), (s.punit unit.val).wake = some w ∧ (s.punit unit.val).state = .parked ∧ w.retries < 3)
    ∧ (∃ (unit : Fin 137) (s : State), (s.punit unit.val).wake = none) :=
  ⟨⟨0, { wOn.set Fld.PWR_CTL_IDLE_BANK_US 0 with pwr := { Power.reset with units := [(0, ⟨.running, 0, none⟩)] } }, by decide +kernel,
     by decide +kernel, by decide +kernel, by decide +kernel, by decide +kernel⟩,
   ⟨0, wSearch, by decide +kernel⟩,
   ⟨16, State.reset.set (Fld.VIT_BANK_CTL_SCRUB 0) 1, by decide +kernel⟩,
   ⟨0, { wOn.set Fld.PWR_CTL_IDLE_PARK_MS 0 with pwr := { Power.reset with units := [(0, ⟨.banked, 0, none⟩)] } }, by decide +kernel,
     by decide +kernel, by decide +kernel, by decide +kernel, by decide +kernel, by decide +kernel⟩,
   ⟨16, State.reset.set (Fld.VIT_BANK_CTL_SCRUB 0) 1, by decide +kernel⟩,
   ⟨16, wOn.set (Fld.VIT_BANK_CTL_SCRUB 0) 1, by decide +kernel, by decide +kernel, by decide +kernel, by decide +kernel⟩,
   ⟨0, false, ⟨0, 0⟩, { wOn with pwr := { Power.reset with units := [(0, ⟨.banked, 0, some ⟨0, 0⟩⟩)] } }, by decide +kernel,
     by decide +kernel, by decide +kernel⟩,
   ⟨0, ⟨0, 0⟩, { wOn with pwr := { Power.reset with units := [(0, ⟨.parked, 0, some ⟨0, 0⟩⟩)] } }, by decide +kernel, by decide +kernel,
     by decide +kernel⟩,
   ⟨0, State.reset, by decide +kernel⟩⟩

theorem test_tide_time :
    (∃ (s : State), regFileWf s.reg = true ∧ s.img.vaon = true ∧ s.now < 2 ^ 64)
    ∧ (∃ (s : State), s.img.vaon = false)
    ∧ (∃ (x : Nat) (s : State), regFileWf s.reg = true ∧ s.pwr.ppsTick = some x ∧ s.pwr.ppsLost = false ∧ 550000000 ≤ s.since x)
    ∧ (∃ (s : State), s.pwr.ppsTick = none)
    ∧ (∃ (x : Slew) (s : State), s.pwr.slew = some x ∧ x.ticks ≤ s.slewDone x)
    ∧ (∃ (s : State), s.pwr.slew = none)
    ∧ (∃ (s : State), regFileWf s.reg = true) :=
  ⟨⟨wOn, by decide +kernel, by decide +kernel, by decide +kernel⟩,
   ⟨State.reset, by decide +kernel⟩,
   ⟨0, { wOn with now := 550000000, pwr := { Power.reset with ppsTick := some 0 } }, by decide +kernel, by decide +kernel, by decide +kernel,
     by decide +kernel⟩,
   ⟨State.reset, by decide +kernel⟩,
   ⟨⟨false, 0, 1, 0⟩, { wOn with pwr := { Power.reset with slew := some ⟨false, 0, 1, 0⟩ } }, by decide +kernel, by decide +kernel⟩,
   ⟨State.reset, by decide +kernel⟩,
   ⟨wOn, by decide +kernel⟩⟩

theorem test_sq_entry_waits :
    (∃ (q : Fin 16) (e : SqEntry) (s : State), s.sqReady q.val e = false) :=
  ⟨0, ⟨0, false, 0, 7⟩, State.reset, by decide +kernel⟩

theorem test_sq_entry_refused :
    (∃ (q : Fin 16) (e : SqEntry) (s : State), s.sqReady q.val e = true ∧ e.resultTo = 3)
    ∧ (∃ (q : Fin 16) (e : SqEntry) (s : State), regFileWf s.reg = true ∧ s.sqReady q.val e = true ∧ s.slotBusy e = true) :=
  ⟨⟨0, ⟨3, false, 0, 7⟩, wSq, by decide +kernel, by decide +kernel⟩,
   ⟨0, ⟨1, false, 0, 7⟩, wSqBusy, by decide +kernel, by decide +kernel, by decide +kernel⟩⟩

theorem test_nop_and_bad_opcode :
    (∃ (q : Fin 16) (e : SqEntry) (s : State), Takes q e s)
    ∧ (∃ (q : Fin 16) (e : SqEntry) (opcode : Fin 256) (s : State), s.sqReady q.val e = true ∧ definedOpcode opcode.val = false ∧
        e.resultTo ≠ 3)
    ∧ (∃ (q : Fin 16) (e : SqEntry) (opcode : Fin 256) (s : State), s.sqReady q.val e = true ∧ definedOpcode opcode.val = false ∧
        e.resultTo = 3)
    ∧ (∃ (opcode : Fin 256), definedOpcode opcode.val = true) :=
  ⟨⟨0, ⟨0, false, 0, 7⟩, wSq, ⟨by decide +kernel, by decide +kernel, by decide +kernel⟩⟩,
   ⟨0, ⟨0, false, 0, 7⟩, 2, wSq, by decide +kernel, by decide +kernel, by decide +kernel⟩,
   ⟨0, ⟨3, false, 0, 7⟩, 2, wSq, by decide +kernel, by decide +kernel, by decide +kernel⟩,
   ⟨1, by decide +kernel⟩⟩

theorem test_host_events_1 :
    (∃ (s : State), s.img.pwrOk = true)
    ∧ (∃ (q : Fin 16) (w : Word) (s : State), s.img.pwrOk = true ∧ w.toNat % 2 ^ 20 < s.ringSize q.val ∧
        w.toNat % 2 ^ 20 ≠ (s.ring q.val).tail)
    ∧ (∃ (q : Fin 16) (w : Word) (s : State), s.img.pwrOk = true ∧ s.ringSize q.val ≤ w.toNat % 2 ^ 20)
    ∧ (∃ (q : Fin 16) (w : Word) (s : State), s.img.pwrOk = true ∧ w.toNat % 2 ^ 20 < s.ringSize (ringCq q.val) ∧
        (w.toNat % 2 ^ 20 + s.ringSize (ringCq q.val) - (s.ring (ringCq q.val)).head % s.ringSize (ringCq q.val)) % s.ringSize (ringCq q.val) ≤ (s.ring (ringCq q.val)).used)
    ∧ (∃ (s : State), s.img.pwrOk = false)
    ∧ (∃ (r : Fin 16) (w : Word) (s : State), s.img.pwrOk = true ∧ w.toNat % 2 ^ 20 < s.ringSize (ringRr r.val) ∧
        (w.toNat % 2 ^ 20 + s.ringSize (ringRr r.val) - (s.ring (ringRr r.val)).head % s.ringSize (ringRr r.val)) % s.ringSize (ringRr r.val) ≤ (s.ring (ringRr r.val)).used)
    ∧ (∃ (w : Word) (s : State), s.img.pwrOk = true ∧ w.toNat % 2 ^ 20 < s.ringSize ringEvt ∧
        (w.toNat % 2 ^ 20 + s.ringSize ringEvt - (s.ring ringEvt).head % s.ringSize ringEvt) % s.ringSize ringEvt ≤ (s.ring ringEvt).used)
    ∧ (∃ (w : Word) (s : State), s.img.pwrOk = true ∧ w.toNat % 2 ^ 20 < s.ringSize ringAcc ∧
        (w.toNat % 2 ^ 20 + s.ringSize ringAcc - (s.ring ringAcc).head % s.ringSize ringAcc) % s.ringSize ringAcc ≤ (s.ring ringAcc).used)
    ∧ (∃ (q : Fin 16) (s : State), regFileWf s.reg = true ∧ s.flag Fld.HIF_STATUS_CMD_READY = true ∧ s.ringOpen q.val = true ∧
        s.flag (Fld.HIF_RING_CTL_HALT q.val) = false ∧ 0 < (s.ring q.val).used)
    ∧ (∃ (q : Fin 16) (s : State), (s.ring q.val).used = 0)
    ∧ (∃ (r : Fin 50) (s : State), 16 ≤ r.val ∧ s.flag (Fld.HIF_RING_IRQ_EN r.val) = true ∧ s.get (Fld.HIF_RING_IRQ_TIME_US r.val) ≠ 0 ∧
        0 < (s.ring r.val).unsignalled ∧ s.get (Fld.HIF_RING_IRQ_TIME_US r.val) * 500 ≤ s.since (s.ring r.val).firstTick)
    ∧ (∃ (r : Fin 50) (s : State), (s.ring r.val).unsignalled = 0) :=
  ⟨⟨wOn, by decide +kernel⟩,
   ⟨0, 3, wRings, by decide +kernel, by decide +kernel, by decide +kernel⟩,
   ⟨0, 5, wOn, by decide +kernel, by decide +kernel⟩,
   ⟨0, 0, wRings, by decide +kernel, by decide +kernel, by decide +kernel⟩,
   ⟨State.reset, by decide +kernel⟩,
   ⟨0, 0, wRings, by decide +kernel, by decide +kernel, by decide +kernel⟩,
   ⟨0, wRings, by decide +kernel, by decide +kernel, by decide +kernel⟩,
   ⟨0, wRings, by decide +kernel, by decide +kernel, by decide +kernel⟩,
   ⟨0, wSq, by decide +kernel, by decide +kernel, by decide +kernel, by decide +kernel, by decide +kernel⟩,
   ⟨0, State.reset, by decide +kernel⟩,
   ⟨48, wIrq, by decide +kernel, by decide +kernel, by decide +kernel, by decide +kernel, by decide +kernel⟩,
   ⟨48, State.reset, by decide +kernel⟩⟩

theorem test_host_events_2 :
    (∃ (c : PcieReset) (s : State), regFileWf s.reg = true ∧ s.img.pwrOk = true ∧ s.flag Fld.HIF_STATUS_LINK_UP = true ∧
        (c ≠ .toD0 ∨ s.flag Fld.HIF_STATUS_D3HOT = true))
    ∧ (∃ (s : State), s.flag Fld.HIF_STATUS_LINK_UP = false)
    ∧ (∃ (s : State), regFileWf s.reg = true ∧ s.img.pwrOk = true ∧ s.flag Fld.HIF_STATUS_LINK_UP = true) :=
  ⟨⟨.hotReset, wOn.set Fld.HIF_STATUS_LINK_UP 1, by decide +kernel, by decide +kernel, by decide +kernel, by decide +kernel⟩,
   ⟨State.reset, by decide +kernel⟩,
   ⟨wOn.set Fld.HIF_STATUS_LINK_UP 1, by decide +kernel, by decide +kernel, by decide +kernel⟩⟩

theorem test_register_writes :
    (∃ (off : BitVec 26) (v : BitVec 64) (d : RegDef) (s : State), regFileWf s.reg = true ∧ regAt off.toNat = some d ∧
        s.reaches .pcie off.toNat = true ∧ off.toNat % 4 = 0 ∧ (d.lk = 0 ∨ s.flag Fld.GLB_LOCK = false) ∧
        off.toNat ≠ Fld.IMG_REC_CMD.off ∧ (s.arrayWrite off.toNat (v.toNat % 2 ^ 32)).isNone = true ∧
        (s.singleWrite off.toNat (v.toNat % 2 ^ 32)).isNone = true)
    ∧ (∃ (off : BitVec 26) (d : RegDef) (s : State), regFileWf s.reg = true ∧ regAt off.toNat = some d ∧
        s.reaches .pcie off.toNat = true ∧ off.toNat % 4 = 0 ∧ d.lk ≠ 0 ∧ s.flag Fld.GLB_LOCK = true)
    ∧ (∃ (b : Bar) (off : BitVec 26) (size : Fin 9) (s : State), regFileWf s.reg = true ∧ s.img.pwrOk = true ∧ off.toNat < barSize b ∧
        s.tooEarly b off.toNat = false ∧ accessOk b off.toNat size.val true = false)
    ∧ (∃ (b : Bar) (off : BitVec 26) (s : State), s.img.pwrOk = true ∧ off.toNat < barSize b ∧ s.tooEarly b off.toNat = false ∧
        s.flag (Fld.MSIX_CTRL_MASK 0) = false)
    ∧ (∃ (b : Bar) (off : BitVec 26) (s : State), (s.img.pwrOk = false ∨ barSize b ≤ off.toNat ∨ s.tooEarly b off.toNat = true))
    ∧ (∃ (off : BitVec 26), off.toNat % 4 = 0 ∧ regAt off.toNat = none) :=
  ⟨⟨0x10100, 5, (regAt 0x10100).getD ⟨0, 0, 0, 0, 0, 0, 0, 0, 0, 0, true⟩, wOn, by decide +kernel, by decide +kernel, by decide +kernel,
     by decide +kernel, by decide +kernel, by decide +kernel, by decide +kernel, by decide +kernel⟩,
   ⟨0x10060, (regAt 0x10060).getD ⟨0, 0, 0, 0, 0, 0, 0, 0, 0, 0, true⟩, (wOn.set Fld.HIF_STATUS_CMD_READY 1).set Fld.GLB_LOCK 1,
     by decide +kernel, by decide +kernel, by decide +kernel, by decide +kernel, by decide +kernel, by decide +kernel⟩,
   ⟨.bar2, 1, 4, wOn, by decide +kernel, by decide +kernel, by decide +kernel, by decide +kernel, by decide +kernel⟩,
   ⟨.bar2, 0, wOn.set (Fld.MSIX_CTRL_MASK 0) 0, by decide +kernel, by decide +kernel, by decide +kernel, by decide +kernel⟩,
   ⟨.bar2, 0, State.reset, by decide +kernel⟩,
   ⟨0x20110, by decide +kernel, by decide +kernel⟩⟩

theorem test_bar2_offsets_without_name :
    (∃ (off : BitVec 26) (s : State), regFileWf s.reg = true ∧ doorbellAt off.toNat = none)
    ∧ (∃ (off : BitVec 26), doorbellAt off.toNat = none ∧ off.toNat % 4 = 0) :=
  ⟨⟨4, wOn, by decide +kernel, by decide +kernel⟩,
   ⟨4, by decide +kernel, by decide +kernel⟩⟩

theorem test_reads_and_rings :
    (∃ (p : Path) (off : BitVec 26) (d : RegDef) (s : State), regAt off.toNat = some d ∧ s.reaches p off.toNat = true ∧
        off.toNat % 4 = 0 ∧ d.pair = true ∧ d.rc = 0 ∧ ((regAt (off.toNat - 4)).map (fun x => x.pair)).getD false = false ∧ (∀ l < 37,
        s.flag (Fld.TST_LANE_STAT_LOCK l) = false))
    ∧ (∃ (off : BitVec 26) (s : State), s.reaches .jtag (off.toNat / 4 * 4) = false)
    ∧ (∃ (p : Path) (off : BitVec 26) (d : RegDef) (s : State), regFileWf s.reg = true ∧ regAt off.toNat = some d ∧
        s.reaches p off.toNat = true ∧ off.toNat % 4 = 0 ∧ d.rc ≠ 0 ∧ d.pair = false ∧
        ((regAt (off.toNat - 4)).map (fun x => x.pair)).getD false = false ∧ (∀ l < 37, s.flag (Fld.TST_LANE_STAT_LOCK l) = false))
    ∧ (∃ (off : BitVec 22) (size : Fin 9) (s : State), s.img.pwrOk = true ∧ accessOk .bar4 off.toNat size.val false = true)
    ∧ (∃ (s : State), s.img.pwrOk = false)
    ∧ (∃ (p : Path) (u : Fin 187) (s : State), s.reaches p (0x21000 + 4 * u.val) = true ∧
        ((s.unitState u.val).cmd = (s.unitState u.val).obs ∨ (s.unitState u.val).busy = true))
    ∧ (∃ (p : Path) (u : Fin 187) (s : State), regFileWf s.reg = true ∧ s.reaches p (0x21000 + 4 * u.val) = true ∧
        (s.unitState u.val).cmd ≠ (s.unitState u.val).obs ∧ (s.unitState u.val).busy = false)
    ∧ (∃ (off : BitVec 22) (v : BitVec 64) (w : WinSlot) (s : State), Tab.get? s.host.win (off.toNat / 256) = some w ∧
        s.img.pwrOk = true ∧ off.toNat % 256 = 4 ∧ w.read = true ∧ w.cmdId = v.toNat % 2 ^ 32)
    ∧ (∃ (off : BitVec 22) (s : State), regFileWf s.reg = true ∧ s.img.pwrOk = true ∧ off.toNat % 4 = 0 ∧
        Tab.get? s.host.win (off.toNat / 256) = none)
    ∧ (∃ (p : Path) (r : Fin 50) (v : Word) (s : State), regFileWf s.reg = true ∧ s.reaches p (Fld.HIF_RING_CTL_EN r.val).off = true ∧
        s.flag (Fld.HIF_RING_CTL_EN r.val) = false ∧ bit v.toNat 31 = false)
    ∧ (∃ (p : Path) (r : Fin 50) (v : Word) (s : State), regFileWf s.reg = true ∧ s.reaches p (Fld.HIF_RING_CTL_EN r.val).off = true ∧
        s.flag (Fld.HIF_RING_CTL_EN r.val) = false ∧ bit v.toNat 31 = true)
    ∧ (∃ (p : Path) (r : Fin 50) (s : State), regFileWf s.reg = true ∧ s.reaches p (Fld.HIF_RING_CTL_EN r.val).off = true ∧
        s.flag (Fld.HIF_RING_CTL_EN r.val) = true) :=
  ⟨⟨.pcie, 0x30000, (regAt 0x30000).getD ⟨0, 0, 0, 0, 0, 0, 0, 0, 0, 0, true⟩, wOn.set Fld.HIF_STATUS_CMD_READY 1, by decide +kernel,
     by decide +kernel, by decide +kernel, by decide +kernel, by decide +kernel, by decide +kernel, by decide +kernel⟩,
   ⟨0x30000, wOn, by decide +kernel⟩,
   ⟨.pcie, 0x140010, (regAt 0x140010).getD ⟨0, 0, 0, 0, 0, 0, 0, 0, 0, 0, true⟩, wOn.set Fld.HIF_STATUS_CMD_READY 1, by decide +kernel,
     by decide +kernel, by decide +kernel, by decide +kernel, by decide +kernel, by decide +kernel, by decide +kernel, by decide +kernel⟩,
   ⟨0, 4, wSqBusy, by decide +kernel, by decide +kernel⟩,
   ⟨State.reset, by decide +kernel⟩,
   ⟨.pcie, 0, wOn.set Fld.HIF_STATUS_CMD_READY 1, by decide +kernel, by decide +kernel⟩,
   ⟨.pcie, 0, (wOn.set Fld.HIF_STATUS_CMD_READY 1).modStrand 0 (fun x => { x with state := .excluded }), by decide +kernel,
     by decide +kernel, by decide +kernel, by decide +kernel⟩,
   ⟨4, 1, ⟨1, true, true, []⟩, { wOn with host := { HostIf.reset with win := [(0, ⟨1, true, true, []⟩)] } }, by decide +kernel,
     by decide +kernel, by decide +kernel, by decide +kernel, by decide +kernel⟩,
   ⟨4, wOn, by decide +kernel, by decide +kernel, by decide +kernel, by decide +kernel⟩,
   ⟨.pcie, 0, 6, wOn.set Fld.HIF_STATUS_CMD_READY 1, by decide +kernel, by decide +kernel, by decide +kernel, by decide +kernel⟩,
   ⟨.pcie, 0, 0x80000006, wOn.set Fld.HIF_STATUS_CMD_READY 1, by decide +kernel, by decide +kernel, by decide +kernel, by decide +kernel⟩,
   ⟨.pcie, 0, wRings, by decide +kernel, by decide +kernel, by decide +kernel⟩⟩

theorem test_tide_and_sa :
    (∃ (p : Path) (s : State), s.reaches p Fld.INT_SA_CMD.off = true ∧ s.saExists = true)
    ∧ (∃ (s : State), s.saExists = false)
    ∧ (∃ (p : Path) (x : Sa) (s : State),
        Tab.get? s.sas (saIndex (s.get Fld.INT_SA_SEL_PORT) (s.flag Fld.INT_SA_SEL_DIR) (s.get Fld.INT_SA_SEL_SC) (s.get Fld.INT_SA_SEL_AN)) = some x ∧
        s.reaches p Fld.INT_SA_CMD.off = true ∧ s.saExists = true)
    ∧ (∃ (p : Path) (s : State), regFileWf s.reg = true ∧ s.reaches p Fld.TID_RATE.off = true)
    ∧ (∃ (p : Path) (v : Word) (s : State), s.reaches p Fld.TID_SLEW.off = true ∧ v.toNat = 0)
    ∧ (∃ (p : Path) (v : Word) (s : State), s.reaches p Fld.TID_SLEW.off = true ∧ v.toNat ≠ 0)
    ∧ (∃ (p : Path) (s : State), s.reaches p Fld.TID_SET_CMD.off = true ∧ ((∀ x ∈ s.strands, x.state ≠ .serving ∧ x.state ≠ .draining)))
    ∧ (∃ (p : Path) (s : State), regFileWf s.reg = true ∧ s.reaches p Fld.TID_SET_CMD.off = true ∧
        s.strands.any (fun x => x.state == .serving || x.state == .draining) = true)
    ∧ (∃ (s : State), s.img.pwrOk = false) :=
  ⟨⟨.pcie, wOn.set Fld.HIF_STATUS_CMD_READY 1, by decide +kernel, by decide +kernel⟩,
   ⟨State.reset.set Fld.INT_SA_SEL_PORT 3, by decide +kernel⟩,
   ⟨.pcie, ⟨[], [], 0, 0, 0, 0, false, true⟩, { wOn.set Fld.HIF_STATUS_CMD_READY 1 with sas := [(0, ⟨[], [], 0, 0, 0, 0, false, true⟩)] },
     by decide +kernel, by decide +kernel, by decide +kernel⟩,
   ⟨.pcie, wOn.set Fld.HIF_STATUS_CMD_READY 1, by decide +kernel, by decide +kernel⟩,
   ⟨.pcie, 0, wOn.set Fld.HIF_STATUS_CMD_READY 1, by decide +kernel, by decide +kernel⟩,
   ⟨.pcie, 7, wOn.set Fld.HIF_STATUS_CMD_READY 1, by decide +kernel, by decide +kernel⟩,
   ⟨.pcie, wOn.set Fld.HIF_STATUS_CMD_READY 1, by decide +kernel, by decide +kernel⟩,
   ⟨.pcie, (wOn.set Fld.HIF_STATUS_CMD_READY 1).modStrand 0 (fun x => { x with state := .serving }), by decide +kernel, by decide +kernel,
     by decide +kernel⟩,
   ⟨State.reset, by decide +kernel⟩⟩

theorem test_ledger_fetch_and_lane_tests :
    (∃ (p : Path) (x : Bytes) (s : State), regFileWf s.reg = true ∧
        (s.pagesOf 0 (s.get Fld.FLT_LEDGER_SEQ) ++ s.pagesOf 1 (s.get Fld.FLT_LEDGER_SEQ)).head? = some x ∧
        s.reaches p Fld.FLT_LEDGER_CMD.off = true)
    ∧ (∃ (p : Path) (s : State), regFileWf s.reg = true ∧ s.reaches p Fld.FLT_LEDGER_CMD.off = true ∧
        s.pagesOf 0 (s.get Fld.FLT_LEDGER_SEQ) ++ s.pagesOf 1 (s.get Fld.FLT_LEDGER_SEQ) = [])
    ∧ (∃ (p : Path) (l : Fin 37) (v : Word) (s : State), regFileWf s.reg = true ∧ s.reaches p (Fld.TST_LANE_CTL_GEN_EN l.val).off = true ∧
        v.toNat &&& 0xC3 ≠ 0 ∧ s.testLaneUp l.val = true ∧ bit v.toNat 9 = false)
    ∧ (∃ (p : Path) (l : Fin 37) (s : State), regFileWf s.reg = true ∧ s.reaches p (Fld.TST_LANE_CTL_GEN_EN l.val).off = true ∧
        s.testLaneUp l.val = false)
    ∧ (∃ (p : Path) (l : Fin 37) (s : State), regFileWf s.reg = true ∧ s.reaches p (Fld.TST_LANE_CTL_GEN_EN l.val).off = true ∧
        s.testLaneUp l.val = false ∧ bit (s.regWord (Fld.TST_LANE_CTL_GEN_EN l.val).off).toNat 8 = false)
    ∧ (∃ (l : Fin 37) (s : State), regFileWf s.reg = true ∧ s.flag (Fld.TST_LANE_CTL_CHK_EN l.val) = true)
    ∧ (∃ (l : Fin 37) (s : State), s.flag (Fld.TST_LANE_CTL_CHK_EN l.val) = false)
    ∧ (∃ (l : Fin 37) (recent : Fin 257) (s : State), regFileWf s.reg = true ∧ s.flag (Fld.TST_LANE_STAT_LOCK l.val) = true ∧
        32 ≤ recent.val)
    ∧ (∃ (recent : Fin 257), recent.val < 32) :=
  ⟨⟨.pcie, wPage ++ toLe 4 (crc32c wPage), wLedger, by decide +kernel, by decide +kernel, by decide +kernel⟩,
   ⟨.pcie, wOn.set Fld.HIF_STATUS_CMD_READY 1, by decide +kernel, by decide +kernel, by decide +kernel⟩,
   ⟨.pcie, 0, 1, (wOn.set Fld.HIF_STATUS_CMD_READY 1).set (Fld.INT_PORT_CTL_LINK_UP 0) 1, by decide +kernel, by decide +kernel,
     by decide +kernel, by decide +kernel, by decide +kernel⟩,
   ⟨.pcie, 0, wOn.set Fld.HIF_STATUS_CMD_READY 1, by decide +kernel, by decide +kernel, by decide +kernel⟩,
   ⟨.pcie, 0, wOn.set Fld.HIF_STATUS_CMD_READY 1, by decide +kernel, by decide +kernel, by decide +kernel, by decide +kernel⟩,
   ⟨0, wOn.set (Fld.TST_LANE_CTL_CHK_EN 0) 1, by decide +kernel, by decide +kernel⟩,
   ⟨0, State.reset, by decide +kernel⟩,
   ⟨0, 32, wOn.set (Fld.TST_LANE_STAT_LOCK 0) 1, by decide +kernel, by decide +kernel, by decide +kernel⟩,
   ⟨4, by decide +kernel⟩⟩

theorem test_test_access_port :
    (∃ (s : State), s.tapOn = true)
    ∧ (∃ (off : BitVec 26) (s : State), s.tapOn = true ∧ s.reaches .jtag off.toNat = false)
    ∧ (∃ (off : BitVec 26) (data : Word) (d : RegDef) (s : State), regFileWf s.reg = true ∧ regAt off.toNat = some d ∧ s.tapOn = true ∧
        s.reaches .jtag off.toNat = true ∧ off.toNat % 4 = 0 ∧ (d.lk = 0 ∨ s.flag Fld.GLB_LOCK = false) ∧
        off.toNat ≠ Fld.IMG_REC_CMD.off ∧ (s.arrayWrite off.toNat data.toNat).isNone = true ∧
        (s.singleWrite off.toNat data.toNat).isNone = true)
    ∧ (∃ (s : State), s.tapOn = false) :=
  ⟨⟨wRails, by decide +kernel⟩,
   ⟨4, wRails, by decide +kernel, by decide +kernel⟩,
   ⟨0x10100, 5, (regAt 0x10100).getD ⟨0, 0, 0, 0, 0, 0, 0, 0, 0, 0, true⟩, wOn, by decide +kernel, by decide +kernel, by decide +kernel,
     by decide +kernel, by decide +kernel, by decide +kernel, by decide +kernel, by decide +kernel, by decide +kernel⟩,
   ⟨State.reset, by decide +kernel⟩⟩

theorem test_mctp_and_pldm :
    (∃ (eid : Byte) (s : State), s.img.pwrOk = true ∧ endpointOk eid = true)
    ∧ (∃ (eid : Byte) (s : State), s.img.pwrOk = true ∧ endpointOk eid = false)
    ∧ (∃ (s : State), s.img.pwrOk = true)
    ∧ (∃ (command : Byte) (s : State), s.img.pwrOk = true ∧ (command.toNat = 0 ∨ 5 < command.toNat))
    ∧ (∃ (type : Byte), type ≠ 0)
    ∧ (∃ (s : State), s.img.pwrOk = false)
    ∧ (∃ (tid : Byte) (s : State), s.img.pwrOk = true ∧ endpointOk tid = true)
    ∧ (∃ (tid : Byte) (s : State), s.img.pwrOk = true ∧ endpointOk tid = false)
    ∧ (∃ (u : Fin 187) (s : State), s.img.pwrOk = true ∧
        ((s.unitState u.val).cmd = (s.unitState u.val).obs ∨ (s.unitState u.val).busy = true)) :=
  ⟨⟨9, wOn, by decide +kernel, by decide +kernel⟩,
   ⟨0, wOn, by decide +kernel, by decide +kernel⟩,
   ⟨wOn, by decide +kernel⟩,
   ⟨6, wOn, by decide +kernel, by decide +kernel⟩,
   ⟨2, by decide +kernel⟩,
   ⟨State.reset, by decide +kernel⟩,
   ⟨9, wOn, by decide +kernel, by decide +kernel⟩,
   ⟨255, wOn, by decide +kernel, by decide +kernel⟩,
   ⟨0, wOn, by decide +kernel, by decide +kernel⟩⟩

theorem test_spdm_messages_1 :
    (∃ (s : State), s.img.pwrOk = true)
    ∧ (∃ (version : Byte) (s : State), s.img.pwrOk = true ∧ (version = 0x13 ∨ version = 0x12))
    ∧ (∃ (version : Byte) (s : State), s.img.pwrOk = true ∧ version ≠ 0x13 ∧ version ≠ 0x12)
    ∧ (∃ (tr : Transport) (s : State), s.img.pwrOk = true ∧ (s.conn tr).version ≠ 0)
    ∧ (∃ (tr : Transport) (s : State), s.img.pwrOk = true ∧ (s.conn tr).version = 0)
    ∧ (∃ (tr : Transport) (s : State), s.img.pwrOk = true ∧ (s.conn tr).algorithms = true)
    ∧ (∃ (tr : Transport) (s : State), s.img.pwrOk = true ∧ (s.conn tr).algorithms = false)
    ∧ (∃ (slot : Byte) (off : BitVec 16) (tr : Transport) (x : Bytes) (s : State), s.certChain slot.toNat = some x ∧ s.img.pwrOk = true ∧
        (s.conn tr).algorithms = true ∧ off.toNat ≤ x.length)
    ∧ (∃ (slot : Byte) (tr : Transport) (s : State), s.img.pwrOk = true ∧ (s.conn tr).algorithms = true ∧ s.certChain slot.toNat = none)
    ∧ (∃ (slot : Byte) (tr : Transport) (s : State), s.img.pwrOk = true ∧ (s.conn tr).algorithms = true ∧ slot ≠ 0)
    ∧ (∃ (index : Byte) (tr : Transport) (s : State), s.img.pwrOk = true ∧ (s.conn tr).algorithms = true ∧ 1 ≤ index.toNat ∧
        index.toNat ≤ 7)
    ∧ (∃ (index : Byte) (tr : Transport) (s : State), s.img.pwrOk = true ∧ (s.conn tr).algorithms = true ∧ 8 ≤ index.toNat ∧
        index.toNat ≠ 255) :=
  ⟨⟨wSpdm, by decide +kernel⟩,
   ⟨0x13, wSpdm, by decide +kernel, by decide +kernel⟩,
   ⟨0x11, wSpdm, by decide +kernel, by decide +kernel, by decide +kernel⟩,
   ⟨.doe, wSpdm, by decide +kernel, by decide +kernel⟩,
   ⟨.doe, wOn, by decide +kernel, by decide +kernel⟩,
   ⟨.doe, wSpdm, by decide +kernel, by decide +kernel⟩,
   ⟨.doe, wOn, by decide +kernel, by decide +kernel⟩,
   ⟨0, 0, .doe, [], { wSpdm with img := { wSpdm.img with otp := some wOtp } }, by decide +kernel, by decide +kernel, by decide +kernel,
     by decide +kernel⟩,
   ⟨7, .doe, wSpdm, by decide +kernel, by decide +kernel, by decide +kernel⟩,
   ⟨1, .doe, wSpdm, by decide +kernel, by decide +kernel, by decide +kernel⟩,
   ⟨5, .doe, wSpdm, by decide +kernel, by decide +kernel, by decide +kernel, by decide +kernel⟩,
   ⟨8, .doe, wSpdm, by decide +kernel, by decide +kernel, by decide +kernel, by decide +kernel⟩⟩

theorem test_spdm_messages_2 :
    (∃ (handle : Byte) (tr : Transport) (x : Nat × Bytes) (s : State), (s.conn tr).chunksIn = some x ∧ s.img.pwrOk = true ∧
        (s.conn tr).algorithms = true ∧ x.1 = handle.toNat)
    ∧ (∃ (tr : Transport) (s : State), s.img.pwrOk = true ∧ (s.conn tr).algorithms = true ∧ (s.conn tr).chunksIn = none)
    ∧ (∃ (handle : Byte) (seq : BitVec 16) (tr : Transport) (x : Nat × Bytes) (s : State), (s.conn tr).chunksOut = some x ∧
        s.img.pwrOk = true ∧ (s.conn tr).algorithms = true ∧ x.1 = handle.toNat ∧ (s.conn tr).maxMessage * seq.toNat < x.2.length)
    ∧ (∃ (tr : Transport) (s : State), s.img.pwrOk = true ∧ (s.conn tr).algorithms = true ∧ (s.conn tr).chunksOut = none)
    ∧ (∃ (s : State), s.img.pwrOk = true)
    ∧ (∃ (s : State), s.img.pwrOk = false) :=
  ⟨⟨3, .doe, (3, [4]), wChunk, by decide +kernel, by decide +kernel, by decide +kernel, by decide +kernel⟩,
   ⟨.doe, wSpdm, by decide +kernel, by decide +kernel, by decide +kernel⟩,
   ⟨5, 0, .doe, (5, [4, 5]), wChunk, by decide +kernel, by decide +kernel, by decide +kernel, by decide +kernel, by decide +kernel⟩,
   ⟨.doe, wSpdm, by decide +kernel, by decide +kernel, by decide +kernel⟩,
   ⟨wOn, by decide +kernel⟩,
   ⟨State.reset, by decide +kernel⟩⟩

theorem test_sessions_and_keys :
    (∃ (tr : Transport) (s : State), s.img.pwrOk = true ∧ (s.conn tr).algorithms = true ∧ s.session? tr 0 = none)
    ∧ (∃ (tr : Transport) (s : State), s.img.pwrOk = true ∧ (s.conn tr).algorithms = true ∧ s.session? tr 0 ≠ none ∧
        s.session? tr 1 = none)
    ∧ (∃ (tr : Transport) (s : State), s.img.pwrOk = true ∧ (s.conn tr).algorithms = true ∧ s.session? tr 0 ≠ none ∧
        s.session? tr 1 ≠ none)
    ∧ (∃ (k : Fin 2) (tr : Transport) (x : Session) (s : State), s.session? tr k.val = some x ∧ s.img.pwrOk = true ∧
        x.established = false)
    ∧ (∃ (k : Fin 2) (tr : Transport) (x : Session) (s : State), s.session? tr k.val = some x ∧ s.img.pwrOk = true ∧ x.established = true)
    ∧ (∃ (k : Fin 2) (tr : Transport) (s : State), s.img.pwrOk = true ∧ s.session? tr k.val = none)
    ∧ (∃ (k : Fin 2) (x : Session) (s : State), s.session? .doe k.val = some x ∧ s.img.pwrOk = true ∧ x.established = true)
    ∧ (∃ (k : Fin 2) (keySet : Bool) (x : Session) (s : State), s.session? .doe k.val = some x ∧ s.img.pwrOk = true ∧
        x.established = true ∧ s.mgmt.ideKeys.any (fun e => e.1 % 2 == b2n keySet) = true ∧ regFileWf s.reg = true)
    ∧ (∃ (k : Fin 2) (keySet : Bool) (x : Session) (s : State), s.session? .doe k.val = some x ∧ s.img.pwrOk = true ∧
        x.established = true ∧ s.mgmt.ideKeys.any (fun e => e.1 % 2 == b2n keySet) = false)
    ∧ (∃ (k : Fin 2) (keySet : Bool) (x : Session) (s : State), s.session? .doe k.val = some x ∧ s.img.pwrOk = true ∧
        x.established = true ∧ s.mgmt.ideSet = some (b2n keySet) ∧ regFileWf s.reg = true)
    ∧ (∃ (k : Fin 2) (keySet : Bool) (x : Session) (s : State), s.session? .doe k.val = some x ∧ s.img.pwrOk = true ∧
        x.established = true ∧ s.mgmt.ideSet ≠ some (b2n keySet))
    ∧ (∃ (k : Fin 2) (s : State), s.session? .doe k.val = none) :=
  ⟨⟨.doe, wSpdm, by decide +kernel, by decide +kernel, by decide +kernel⟩,
   ⟨.doe, wSession true, by decide +kernel, by decide +kernel, by decide +kernel, by decide +kernel⟩,
   ⟨.doe, { wSpdm with mgmt := { wSpdm.mgmt with sessions := [⟨.doe, 0, true, 0, 0⟩, ⟨.doe, 1, true, 0, 0⟩] } }, by decide +kernel,
     by decide +kernel, by decide +kernel, by decide +kernel⟩,
   ⟨0, .doe, ⟨.doe, 0, false, 0, 0⟩, wSession false, by decide +kernel, by decide +kernel, by decide +kernel⟩,
   ⟨0, .doe, ⟨.doe, 0, true, 0, 0⟩, wSession true, by decide +kernel, by decide +kernel, by decide +kernel⟩,
   ⟨0, .doe, wOn, by decide +kernel, by decide +kernel⟩,
   ⟨0, ⟨.doe, 0, true, 0, 0⟩, wSession true, by decide +kernel, by decide +kernel, by decide +kernel⟩,
   ⟨0, false, ⟨.doe, 0, true, 0, 0⟩, { wSession true with mgmt := { (wSession true).mgmt with ideKeys := [(0, [])] } }, by decide +kernel,
     by decide +kernel, by decide +kernel, by decide +kernel, by decide +kernel⟩,
   ⟨0, false, ⟨.doe, 0, true, 0, 0⟩, wSession true, by decide +kernel, by decide +kernel, by decide +kernel, by decide +kernel⟩,
   ⟨0, false, ⟨.doe, 0, true, 0, 0⟩, { wSession true with mgmt := { (wSession true).mgmt with ideSet := some 0 } }, by decide +kernel,
     by decide +kernel, by decide +kernel, by decide +kernel, by decide +kernel⟩,
   ⟨0, false, ⟨.doe, 0, true, 0, 0⟩, wSession true, by decide +kernel, by decide +kernel, by decide +kernel, by decide +kernel⟩,
   ⟨0, State.reset, by decide +kernel⟩⟩

theorem test_strand_lifecycle :
    (∃ (strand : Fin 32) (s : State), s.img.boot = .ready ∧ s.stopped = false ∧ s.strandState strand.val = .loading ∧
        (s.strand strand.val).loaded = false ∧ s.get Fld.IMG_STATE_PHASE ≠ 7 ∧
        s.findSection (s.strand strand.val).bank 3 strand.val = none ∧ s.strands.length = 32)
    ∧ (∃ (strand : Fin 32) (x : ImgSection) (s : State), s.findSection (s.strand strand.val).bank 3 strand.val = some x ∧
        s.img.boot = .ready ∧ s.stopped = false ∧ s.strandState strand.val = .loading ∧ (s.strand strand.val).loaded = false ∧
        s.get Fld.IMG_STATE_PHASE ≠ 7 ∧ (s.sectionBytes (s.strand strand.val).bank x).length % 8 ≠ 0 ∧ s.strands.length = 32)
    ∧ (∃ (strand : Fin 32) (s : State), s.img.boot = .ready ∧ s.stopped = false ∧ s.strandState strand.val = .loading ∧
        (s.strand strand.val).loaded = false ∧ s.get Fld.IMG_STATE_PHASE ≠ 7 ∧ s.strands.length = 32)
    ∧ (∃ (strand : Fin 32) (s : State), s.strandState strand.val ≠ .loading)
    ∧ (∃ (strand : Fin 32) (s : State), s.img.boot = .ready ∧ s.stopped = false ∧ s.strandState strand.val = .loading ∧
        (s.strand strand.val).loaded = true ∧ s.keyMapDead strand.val = false ∧ s.strandReady strand.val = true ∧ (∀ w ∈ s.img.swaps,
        w.started = true) ∧ s.strands.length = 32)
    ∧ (∃ (strand : Fin 32) (s : State), s.img.boot = .ready ∧ s.stopped = false ∧ s.strandState strand.val = .loading ∧
        (s.strand strand.val).loaded = true ∧ s.keyMapDead strand.val = true ∧ s.strands.length = 32)
    ∧ (∃ (strand : Fin 32) (s : State), (s.strand strand.val).loaded = false)
    ∧ (∃ (strand : Fin 32) (s : State), s.strandState strand.val = .draining ∧ (s.strand strand.val).stuck = false ∧
        s.inside strand.val = 0 ∧ s.stopped = false ∧ s.strands.length = 32)
    ∧ (∃ (strand : Fin 32) (s : State), 0 < s.inside strand.val)
    ∧ (∃ (strand : Fin 32) (s : State), regFileWf s.reg = true ∧ s.strandState strand.val = .draining ∧
        (s.strand strand.val).stuck = false ∧ s.drainBound strand.val + 500000 ≤ s.since (s.strand strand.val).since ∧
        s.strands.length = 32)
    ∧ (∃ (strand : Fin 32) (s : State), s.strandState strand.val ≠ .draining) :=
  ⟨⟨3, wOn.modStrand 3 (fun x => { x with state := .loading }), by decide +kernel, by decide +kernel, by decide +kernel, by decide +kernel,
     by decide +kernel, by decide +kernel, by decide +kernel⟩,
   ⟨3, ⟨3, 3, 0, 0, 4, zeros 48⟩, wSection, by decide +kernel, by decide +kernel, by decide +kernel, by decide +kernel, by decide +kernel,
     by decide +kernel, by decide +kernel, by decide +kernel⟩,
   ⟨3, wOn.modStrand 3 (fun x => { x with state := .loading }), by decide +kernel, by decide +kernel, by decide +kernel, by decide +kernel,
     by decide +kernel, by decide +kernel⟩,
   ⟨3, State.reset, by decide +kernel⟩,
   ⟨3, wServe, by decide +kernel, by decide +kernel, by decide +kernel, by decide +kernel, by decide +kernel, by decide +kernel,
     by decide +kernel, by decide +kernel⟩,
   ⟨3, wDead, by decide +kernel, by decide +kernel, by decide +kernel, by decide +kernel, by decide +kernel, by decide +kernel⟩,
   ⟨3, State.reset, by decide +kernel⟩,
   ⟨3, wOn.modStrand 3 (fun x => { x with state := .draining }), by decide +kernel, by decide +kernel, by decide +kernel, by decide +kernel,
     by decide +kernel⟩,
   ⟨3, wInside, by decide +kernel⟩,
   ⟨3, { wOn.modStrand 3 (fun x => { x with state := .draining }) with now := 2 ^ 62 }, by decide +kernel, by decide +kernel,
     by decide +kernel, by decide +kernel, by decide +kernel⟩,
   ⟨3, State.reset, by decide +kernel⟩⟩

theorem test_tidal_swap :
    (∃ (q : Fin 16) (e : SqEntry) (strand : Fin 256) (s : State), Takes q e s ∧ s.img.roll = none ∧
        s.img.swaps.any (fun w => w.strand == strand.val) = false ∧ s.strands.length = 32 ∧ strand.val < 32 ∧
        s.strandState strand.val = .off ∧ s.isRetired .strand strand.val = false)
    ∧ (∃ (q : Fin 16) (e : SqEntry) (strand : Fin 256) (s : State), Takes q e s ∧ s.img.roll = none ∧
        s.img.swaps.any (fun w => w.strand == strand.val) = false ∧ s.strands.length = 32 ∧ strand.val < 32 ∧
        s.strandState strand.val = .serving)
    ∧ (∃ (q : Fin 16) (e : SqEntry) (strand : Fin 256) (s : State), Takes q e s ∧ s.img.roll = none ∧
        s.img.swaps.any (fun w => w.strand == strand.val) = false ∧ s.strands.length = 32 ∧ strand.val < 32 ∧
        s.strandState strand.val = .serving ∧ s.strandState (twinOf strand.val) = .serving)
    ∧ (∃ (q : Fin 16) (e : SqEntry) (strand : Fin 256) (s : State), Takes q e s ∧ s.img.roll = none ∧
        s.img.swaps.any (fun w => w.strand == strand.val) = false ∧ s.strands.length = 32 ∧ strand.val < 32 ∧
        s.strandState strand.val = .serving ∧ s.strandState (twinOf strand.val) ≠ .serving)
    ∧ (∃ (q : Fin 16) (e : SqEntry) (strand : Fin 256) (flags : Byte) (reserved : Bool) (s : State), Takes q e s ∧
        (reserved = false ∨ 1 < flags.toNat ∨ 31 < strand.val))
    ∧ (∃ (q : Fin 16) (e : SqEntry) (s : State), Takes q e s ∧ s.img.roll.isSome = true)
    ∧ (∃ (q : Fin 16) (e : SqEntry) (strand : Fin 256) (s : State), Takes q e s ∧ s.strandState strand.val = .draining) :=
  ⟨⟨0, ⟨0, false, 0, 7⟩, 3, wSq, ⟨by decide +kernel, by decide +kernel, by decide +kernel⟩, by decide +kernel, by decide +kernel,
     by decide +kernel, by decide +kernel, by decide +kernel, by decide +kernel⟩,
   ⟨0, ⟨0, false, 0, 7⟩, 3, wSq.modStrand 3 (fun x => { x with state := .serving }), ⟨by decide +kernel, by decide +kernel,
     by decide +kernel⟩, by decide +kernel, by decide +kernel, by decide +kernel, by decide +kernel, by decide +kernel⟩,
   ⟨0, ⟨0, false, 0, 7⟩, 3, (wSq.modStrand 3 (fun x => { x with state := .serving })).modStrand 2 (fun x => { x with state := .serving }),
     ⟨by decide +kernel, by decide +kernel, by decide +kernel⟩, by decide +kernel, by decide +kernel, by decide +kernel,
     by decide +kernel, by decide +kernel, by decide +kernel⟩,
   ⟨0, ⟨0, false, 0, 7⟩, 3, wSq.modStrand 3 (fun x => { x with state := .serving }), ⟨by decide +kernel, by decide +kernel,
     by decide +kernel⟩, by decide +kernel, by decide +kernel, by decide +kernel, by decide +kernel, by decide +kernel, by decide +kernel⟩,
   ⟨0, ⟨0, false, 0, 7⟩, 32, 0, true, wSq, ⟨by decide +kernel, by decide +kernel, by decide +kernel⟩, by decide +kernel⟩,
   ⟨0, ⟨0, false, 0, 7⟩, wRoll .verify, ⟨by decide +kernel, by decide +kernel, by decide +kernel⟩, by decide +kernel⟩,
   ⟨0, ⟨0, false, 0, 7⟩, 3, wSq.modStrand 3 (fun x => { x with state := .draining }), ⟨by decide +kernel, by decide +kernel,
     by decide +kernel⟩, by decide +kernel⟩⟩

theorem test_rolls_1 :
    (∃ (q : Fin 16) (e : SqEntry) (bank : Fin 256) (flags : Byte) (wait : BitVec 16) (s : State), regFileWf s.reg = true ∧ Takes q e s ∧
        bank.val < 2 ∧ flags.toNat < 2 ∧ wait ≠ 0 ∧ s.img.roll = none ∧ s.img.swaps = [] ∧ bank.val ≠ s.forceBank ∧
        hdrEpoch (s.imgHeader bank.val) ≠ hdrEpoch (s.imgHeader s.forceBank))
    ∧ (∃ (q : Fin 16) (e : SqEntry) (bank : Fin 256) (flags : Byte) (wait : BitVec 16) (reserved : Bool) (s : State), Takes q e s ∧
        (reserved = false ∨ 1 < bank.val ∨ 1 < flags.toNat ∨ wait = 0))
    ∧ (∃ (q : Fin 16) (e : SqEntry) (s : State), Takes q e s ∧ (s.img.roll.isSome = true ∨ s.img.swaps ≠ []))
    ∧ (∃ (q : Fin 16) (e : SqEntry) (bank : Fin 256) (s : State), Takes q e s ∧ bank.val = s.forceBank)
    ∧ (∃ (q : Fin 16) (e : SqEntry) (s : State), Takes q e s ∧ s.img.roll = none ∧ s.get Fld.IMG_ROLL_STATE = 0)
    ∧ (∃ (q : Fin 16) (e : SqEntry) (s : State), Takes q e s ∧ s.img.roll = none ∧ s.get Fld.IMG_ROLL_STATE ≠ 0)
    ∧ (∃ (q : Fin 16) (e : SqEntry) (g : Roll) (s : State), regFileWf s.reg = true ∧ s.img.roll = some g ∧ Takes q e s ∧
        g.phase = .verify)
    ∧ (∃ (q : Fin 16) (e : SqEntry) (g : Roll) (s : State), regFileWf s.reg = true ∧ s.img.roll = some g ∧ Takes q e s ∧
        g.phase = .running)
    ∧ (∃ (g : Roll) (s : State), regFileWf s.reg = true ∧ s.img.roll = some g ∧ g.phase = .verify)
    ∧ (∃ (s : State), s.img.roll = none)
    ∧ (∃ (g : Roll) (i : Nat) (rest : List Nat) (s : State), regFileWf s.reg = true ∧ s.rollHead = some (g, i :: rest) ∧
        s.strandState i = .serving ∧ s.strandState (twinOf i) = .serving ∧ s.stopped = false ∧ i < 32 ∧ s.strands.length = 32)
    ∧ (∃ (g : Roll) (i : Nat) (rest : List Nat) (s : State), s.rollHead = some (g, i :: rest) ∧ s.strandState i = .off ∧
        s.strandState (twinOf i) = .serving ∧ s.stopped = false ∧ i < 32 ∧ s.strands.length = 32) :=
  ⟨⟨0, ⟨0, false, 0, 7⟩, 1, 0, 1, { wSq with nvm := [NvmBank.blank, ⟨[(6, 0)], none⟩] }, by decide +kernel, ⟨by decide +kernel,
     by decide +kernel, by decide +kernel⟩, by decide +kernel, by decide +kernel, by decide +kernel, by decide +kernel, by decide +kernel,
     by decide +kernel, by decide +kernel⟩,
   ⟨0, ⟨0, false, 0, 7⟩, 2, 0, 1, true, wSq, ⟨by decide +kernel, by decide +kernel, by decide +kernel⟩, by decide +kernel⟩,
   ⟨0, ⟨0, false, 0, 7⟩, wRoll .verify, ⟨by decide +kernel, by decide +kernel, by decide +kernel⟩, by decide +kernel⟩,
   ⟨0, ⟨0, false, 0, 7⟩, 0, wSq, ⟨by decide +kernel, by decide +kernel, by decide +kernel⟩, by decide +kernel⟩,
   ⟨0, ⟨0, false, 0, 7⟩, wSq, ⟨by decide +kernel, by decide +kernel, by decide +kernel⟩, by decide +kernel, by decide +kernel⟩,
   ⟨0, ⟨0, false, 0, 7⟩, wSq.set Fld.IMG_ROLL_STATE 4, ⟨by decide +kernel, by decide +kernel, by decide +kernel⟩, by decide +kernel,
     by decide +kernel⟩,
   ⟨0, ⟨0, false, 0, 7⟩, wRollOf .verify, wRoll .verify, by decide +kernel, by decide +kernel, ⟨by decide +kernel, by decide +kernel,
     by decide +kernel⟩, by decide +kernel⟩,
   ⟨0, ⟨0, false, 0, 7⟩, wRollOf .running, wRoll .running, by decide +kernel, by decide +kernel, ⟨by decide +kernel, by decide +kernel,
     by decide +kernel⟩, by decide +kernel⟩,
   ⟨wRollOf .verify, wRoll .verify, by decide +kernel, by decide +kernel, by decide +kernel⟩,
   ⟨State.reset, by decide +kernel⟩,
   ⟨wRollOf .running, 3, [],
     ((wRoll .running).modStrand 3 (fun x => { x with state := .serving })).modStrand 2 (fun x => { x with state := .serving }),
     by decide +kernel, by decide +kernel, by decide +kernel, by decide +kernel, by decide +kernel, by decide +kernel, by decide +kernel⟩,
   ⟨wRollOf .running, 3, [], (wRoll .running).modStrand 2 (fun x => { x with state := .serving }), by decide +kernel, by decide +kernel,
     by decide +kernel, by decide +kernel, by decide +kernel, by decide +kernel⟩⟩

theorem test_rolls_2 :
    (∃ (s : State), s.rollHead = none)
    ∧ (∃ (g : Roll) (i : Nat) (rest : List Nat) (s : State), regFileWf s.reg = true ∧ s.rollHead = some (g, i :: rest) ∧
        500000 * g.waitMs ≤ s.since g.since ∧ s.stopped = false ∧ g.phase = .running ∧ g.force = false)
    ∧ (∃ (g : Roll) (i : Nat) (rest : List Nat) (s : State), s.rollHead = some (g, i :: rest) ∧ 500000 * g.waitMs ≤ s.since g.since ∧
        s.stopped = false ∧ g.phase = .running ∧ g.force = true ∧ s.strandState i = .serving ∧ i < 32 ∧ s.strands.length = 32)
    ∧ (∃ (g : Roll) (i : Nat) (s : State), regFileWf s.reg = true ∧ s.img.roll = some g ∧ g.transit = some i ∧ g.phase = .running ∧
        s.strandState i = .loading ∧ 5000000 ≤ s.since (s.strand i).since ∧ s.stopped = false) :=
  ⟨⟨State.reset, by decide +kernel⟩,
   ⟨wRollOf .running, 3, [], { wRoll .running with now := 500000 }, by decide +kernel, by decide +kernel, by decide +kernel,
     by decide +kernel, by decide +kernel, by decide +kernel⟩,
   ⟨{ wRollOf .running with force := true }, 3, [],
     { wRoll .running with now := 500000, img := { (wRoll .running).img with roll := some { wRollOf .running with force := true } }, strands := State.reset.strands.set 3 { Strand.reset with state := .serving } },
     by decide +kernel, by decide +kernel, by decide +kernel, by decide +kernel, by decide +kernel, by decide +kernel, by decide +kernel,
     by decide +kernel⟩,
   ⟨{ wRollOf .running with transit := some 3 }, 3,
     { wRoll .running with now := 5000000, img := { (wRoll .running).img with roll := some { wRollOf .running with transit := some 3 } }, strands := State.reset.strands.set 3 { Strand.reset with state := .loading } },
     by decide +kernel, by decide +kernel, by decide +kernel, by decide +kernel, by decide +kernel, by decide +kernel, by decide +kernel⟩⟩

theorem test_image_preparation :
    (∃ (q : Fin 16) (e : SqEntry) (bank : Fin 256) (s : State), regFileWf s.reg = true ∧ Takes q e s ∧ bank.val < 2 ∧
        bank.val ≠ s.forceBank ∧ bank.val ≠ s.get Fld.IMG_NEXT_BANK)
    ∧ (∃ (q : Fin 16) (e : SqEntry) (bank : Fin 256) (reserved : Bool) (s : State), Takes q e s ∧
        (reserved = false ∨ 1 < bank.val ∨ bank.val = s.forceBank ∨ bank.val = s.get Fld.IMG_NEXT_BANK))
    ∧ (∃ (q : Fin 16) (e : SqEntry) (bank : Fin 256) (offset : Word) (length : Word) (s : State), regFileWf s.reg = true ∧ Takes q e s ∧
        bank.val < 2 ∧ offset.toNat % 256 = 0 ∧ length.toNat % 256 = 0 ∧ 256 ≤ length.toNat ∧ length.toNat ≤ 0x1000000 ∧
        offset.toNat + length.toNat ≤ 0x20000000 ∧ s.flag Fld.IMG_STATE_HK_DONE = true ∧ bank.val ≠ s.forceBank ∧
        (s.get (Fld.IMG_BANK_STATE bank.val) = 0 ∨ s.get (Fld.IMG_BANK_STATE bank.val) = 1) ∧
        blankCells (s.bank bank.val).cells offset.toNat length.toNat = true)
    ∧ (∃ (q : Fin 16) (e : SqEntry) (bank : Fin 256) (offset : Word) (length : Word) (s : State), Takes q e s ∧ bank.val < 2 ∧
        offset.toNat % 256 = 0 ∧ length.toNat % 256 = 0 ∧ 256 ≤ length.toNat ∧ length.toNat ≤ 0x1000000 ∧
        offset.toNat + length.toNat ≤ 0x20000000 ∧ s.flag Fld.IMG_STATE_HK_DONE = true ∧ bank.val ≠ s.forceBank ∧
        (s.get (Fld.IMG_BANK_STATE bank.val) = 0 ∨ s.get (Fld.IMG_BANK_STATE bank.val) = 1) ∧
        blankCells (s.bank bank.val).cells offset.toNat length.toNat = true)
    ∧ (∃ (q : Fin 16) (e : SqEntry) (bank : Fin 256) (offset : Word) (length : Word) (reserved : Bool) (s : State), Takes q e s ∧
        (reserved = false ∨ 1 < bank.val ∨ offset.toNat % 256 ≠ 0 ∨ length.toNat % 256 ≠ 0 ∨ length = 0 ∨ 0x1000000 < length.toNat ∨ bank.val = s.forceBank ∨ s.flag Fld.IMG_STATE_HK_DONE = false))
    ∧ (∃ (q : Fin 16) (e : SqEntry) (bank : Fin 256) (s : State), Takes q e s ∧ bank.val < 2)
    ∧ (∃ (q : Fin 16) (e : SqEntry) (bank : Fin 256) (reserved : Bool) (s : State), Takes q e s ∧ (reserved = false ∨ 1 < bank.val))
    ∧ (∃ (q : Fin 16) (e : SqEntry) (bank : Fin 256) (s : State), regFileWf s.reg = true ∧ Takes q e s ∧ bank.val < 2 ∧
        s.get (Fld.IMG_BANK_STATE bank.val) = 2)
    ∧ (∃ (q : Fin 16) (e : SqEntry) (bank : Fin 256) (reserved : Bool) (s : State), Takes q e s ∧
        (reserved = false ∨ 1 < bank.val ∨ s.get (Fld.IMG_BANK_STATE (bank.val % 2)) ≠ 2)) :=
  ⟨⟨0, ⟨0, false, 0, 7⟩, 1, wSq, by decide +kernel, ⟨by decide +kernel, by decide +kernel, by decide +kernel⟩, by decide +kernel,
     by decide +kernel, by decide +kernel⟩,
   ⟨0, ⟨0, false, 0, 7⟩, 0, true, wSq, ⟨by decide +kernel, by decide +kernel, by decide +kernel⟩, by decide +kernel⟩,
   ⟨0, ⟨0, false, 0, 7⟩, 1, 0x10000, 256, (wSq.set Fld.IMG_STATE_HK_DONE 1).set (Fld.IMG_BANK_STATE 1) 0, by decide +kernel,
     ⟨by decide +kernel, by decide +kernel, by decide +kernel⟩, by decide +kernel, by decide +kernel, by decide +kernel,
     by decide +kernel, by decide +kernel, by decide +kernel, by decide +kernel, by decide +kernel, by decide +kernel, by decide +kernel⟩,
   ⟨0, ⟨0, false, 0, 7⟩, 1, 0x10000, 256, (wSq.set Fld.IMG_STATE_HK_DONE 1).set (Fld.IMG_BANK_STATE 1) 0, ⟨by decide +kernel,
     by decide +kernel, by decide +kernel⟩, by decide +kernel, by decide +kernel, by decide +kernel, by decide +kernel, by decide +kernel,
     by decide +kernel, by decide +kernel, by decide +kernel, by decide +kernel, by decide +kernel⟩,
   ⟨0, ⟨0, false, 0, 7⟩, 0, 0, 256, true, wSq, ⟨by decide +kernel, by decide +kernel, by decide +kernel⟩, by decide +kernel⟩,
   ⟨0, ⟨0, false, 0, 7⟩, 1, wSq, ⟨by decide +kernel, by decide +kernel, by decide +kernel⟩, by decide +kernel⟩,
   ⟨0, ⟨0, false, 0, 7⟩, 2, true, wSq, ⟨by decide +kernel, by decide +kernel, by decide +kernel⟩, by decide +kernel⟩,
   ⟨0, ⟨0, false, 0, 7⟩, 1, wSq.set (Fld.IMG_BANK_STATE 1) 2, by decide +kernel, ⟨by decide +kernel, by decide +kernel, by decide +kernel⟩,
     by decide +kernel, by decide +kernel⟩,
   ⟨0, ⟨0, false, 0, 7⟩, 1, true, wSq, ⟨by decide +kernel, by decide +kernel, by decide +kernel⟩, by decide +kernel⟩⟩

theorem test_frames_arrive :
    (∃ (port : EthPort) (s : State), (s.stopped = true ∨ s.flag (Fld.INT_PORT_CTL_LINK_UP (portIdx port)) = false ∨ s.flag (Fld.INT_PORT_CTL_ENABLE (portIdx port)) = false) ∧
        (s.liveEngines .intake).isEmpty = false)
    ∧ (∃ (s : State), s.stopped = false ∧ s.flag (Fld.INT_PORT_CTL_LINK_UP 2) = true ∧ s.flag (Fld.INT_PORT_CTL_ENABLE 2) = true ∧
        (s.liveEngines .intake).isEmpty = false)
    ∧ (∃ (port : EthPort) (wire : Bytes) (s : State), s.stopped = false ∧ s.flag (Fld.INT_PORT_CTL_LINK_UP (portIdx port)) = true ∧
        s.flag (Fld.INT_PORT_CTL_ENABLE (portIdx port)) = true ∧ port ≠ .tap ∧
        (wire.length < 64 ∨ 9216 < wire.length ∨ le wire (wire.length - 4) 4 ≠ crc32 (wire.take (wire.length - 4))) ∧
        (s.liveEngines .intake).isEmpty = false)
    ∧ (∃ (port : EthPort) (wire : Bytes) (s : State), s.stopped = false ∧ s.flag (Fld.INT_PORT_CTL_LINK_UP (portIdx port)) = true ∧
        s.flag (Fld.INT_PORT_CTL_ENABLE (portIdx port)) = true ∧ port ≠ .tap ∧ 64 ≤ wire.length ∧ wire.length ≤ 9216 ∧
        le wire (wire.length - 4) 4 = crc32 (wire.take (wire.length - 4)) ∧ be (wire.take (wire.length - 4)) 12 2 = 0x8808 ∧
        (s.liveEngines .intake).isEmpty = false)
    ∧ (∃ (port : EthPort) (wire : Bytes) (s : State), s.stopped = false ∧ s.flag (Fld.INT_PORT_CTL_LINK_UP (portIdx port)) = true ∧
        s.flag (Fld.INT_PORT_CTL_ENABLE (portIdx port)) = true ∧ port ≠ .tap ∧ 64 ≤ wire.length ∧ wire.length ≤ 9216 ∧
        le wire (wire.length - 4) 4 = crc32 (wire.take (wire.length - 4)) ∧ be (wire.take (wire.length - 4)) 12 2 ≠ 0x8808 ∧
        s.msec (portIdx port) = false ∧ s.flag Fld.FLT_STATE_QUIESCING = true ∧ (s.liveEngines .intake).isEmpty = false)
    ∧ (∃ (port : EthPort) (wire : Bytes) (s : State), s.stopped = false ∧ s.flag (Fld.INT_PORT_CTL_LINK_UP (portIdx port)) = true ∧
        s.flag (Fld.INT_PORT_CTL_ENABLE (portIdx port)) = true ∧ port ≠ .tap ∧ 64 ≤ wire.length ∧ wire.length ≤ 9216 ∧
        le wire (wire.length - 4) 4 = crc32 (wire.take (wire.length - 4)) ∧ be (wire.take (wire.length - 4)) 12 2 ≠ 0x8808 ∧
        s.msec (portIdx port) = false ∧ s.flag Fld.FLT_STATE_QUIESCING = false ∧ s.served = false ∧
        (s.liveEngines .intake).isEmpty = false)
    ∧ (∃ (port : EthPort) (wire : Bytes) (s : State), s.stopped = false ∧ s.flag (Fld.INT_PORT_CTL_LINK_UP (portIdx port)) = true ∧
        s.flag (Fld.INT_PORT_CTL_ENABLE (portIdx port)) = true ∧ port ≠ .tap ∧ 64 ≤ wire.length ∧ wire.length ≤ 9216 ∧
        le wire (wire.length - 4) 4 = crc32 (wire.take (wire.length - 4)) ∧ be (wire.take (wire.length - 4)) 12 2 ≠ 0x8808 ∧
        s.msec (portIdx port) = false ∧ s.flag Fld.FLT_STATE_QUIESCING = false ∧ s.served = true ∧
        (s.liveEngines .intake).isEmpty = false) :=
  ⟨⟨.n, State.reset, by decide +kernel, by decide +kernel⟩,
   ⟨wPorts, by decide +kernel, by decide +kernel, by decide +kernel, by decide +kernel⟩,
   ⟨.n, [1, 2], wPorts, by decide +kernel, by decide +kernel, by decide +kernel, by decide +kernel, by decide +kernel, by decide +kernel⟩,
   ⟨.n, wPause64, wPorts, by decide +kernel, by decide +kernel, by decide +kernel, by decide +kernel, by decide +kernel, by decide +kernel,
     by decide +kernel, by decide +kernel, by decide +kernel⟩,
   ⟨.n, wFrame64, wPorts.set Fld.FLT_STATE_QUIESCING 1, by decide +kernel, by decide +kernel, by decide +kernel, by decide +kernel,
     by decide +kernel, by decide +kernel, by decide +kernel, by decide +kernel, by decide +kernel, by decide +kernel, by decide +kernel⟩,
   ⟨.n, wFrame64, wPorts, by decide +kernel, by decide +kernel, by decide +kernel, by decide +kernel, by decide +kernel, by decide +kernel,
     by decide +kernel, by decide +kernel, by decide +kernel, by decide +kernel, by decide +kernel, by decide +kernel⟩,
   ⟨.n, wFrame64, { wPorts with served := true }, by decide +kernel, by decide +kernel, by decide +kernel, by decide +kernel,
     by decide +kernel, by decide +kernel, by decide +kernel, by decide +kernel, by decide +kernel, by decide +kernel, by decide +kernel,
     by decide +kernel⟩⟩

theorem test_parses_and_streams :
    (∃ (frame : Nat) (i : Nat) (f : Frame) (s : State), s.frame? frame = some f ∧ s.parseReady f = true ∧ f.strand = some i ∧
        f.kind.timed = true ∧ parseFrame (s.descSet f.dset) (s.descTables (s.descSet f.dset)) f.bytes = none)
    ∧ (∃ (frame : Nat) (i : Nat) (fields : List PField) (f : Frame) (s : State), s.Inv ∧ s.frame? frame = some f ∧ s.parseReady f = true ∧
        f.strand = some i ∧ i < 32 ∧ f.kind.timed = true ∧
        parseFrame (s.descSet f.dset) (s.descTables (s.descSet f.dset)) f.bytes = some fields)
    ∧ (∃ (frame : Nat) (f : Frame) (s : State), s.frame? frame = some f ∧ s.parseReady f = false)
    ∧ (∃ (frame : Nat) (s : State), s.frame? frame = none)
    ∧ (∃ (stream : Nat) (x : Stream) (s : State), s.stream? stream = some x ∧ s.streamIdle x = true ∧ s.strandState x.strand = .serving)
    ∧ (∃ (stream : Nat) (x : Stream) (s : State), s.stream? stream = some x ∧ s.streamIdle x = true ∧ s.strandState x.strand ≠ .serving)
    ∧ (∃ (stream : Nat) (x : Stream) (s : State), s.stream? stream = some x ∧ s.streamIdle x = false)
    ∧ (∃ (stream : Nat) (s : State), s.stream? stream = none) :=
  ⟨⟨0, 3, _, wParsing false, rfl, by decide +kernel, by decide +kernel, by decide +kernel, by decide +kernel⟩,
   ⟨0, 3, [], _, wParsing true, ⟨by decide +kernel, by decide +kernel, by decide +kernel, by decide +kernel⟩, rfl, by decide +kernel,
     by decide +kernel, by decide +kernel, by decide +kernel, by decide +kernel⟩,
   ⟨0, _, wInside, rfl, by decide +kernel⟩,
   ⟨0, State.reset, by decide +kernel⟩,
   ⟨0, _, (wIdle).modStrand 3 (fun x => { x with state := .serving }), rfl, by decide +kernel, by decide +kernel⟩,
   ⟨0, _, wIdle, rfl, by decide +kernel, by decide +kernel⟩,
   ⟨0, _, { wIdle with now := 0 }, rfl, by decide +kernel⟩,
   ⟨0, State.reset, by decide +kernel⟩⟩

theorem test_verdicts_and_deadlines :
    (∃ (frame : Nat) (f : Frame) (g : Grant) (s : State), s.frame? frame = some f ∧ s.combineOf frame = some g ∧ 4 ≤ s.since g.tick ∧
        f.decided = false ∧ f.causes = [] ∧ f.kind.timed = true ∧ s.reached f.tDl = true)
    ∧ (∃ (frame : Nat) (f : Frame) (g : Grant) (s : State), s.frame? frame = some f ∧ s.combineOf frame = some g ∧ 4 ≤ s.since g.tick ∧
        f.decided = false ∧ f.causes = [] ∧ f.kind = .wire ∧ s.reached f.tDl = false)
    ∧ (∃ (frame : Nat) (f : Frame) (g : Grant) (s : State), s.Inv ∧ s.frame? frame = some f ∧ s.combineOf frame = some g ∧
        4 ≤ s.since g.tick ∧ g.strand < 32)
    ∧ (∃ (frame : Nat) (g : Grant) (s : State), s.combineOf frame = some g ∧ s.since g.tick < 4)
    ∧ (∃ (frame : Nat) (s : State), s.combineOf frame = none)
    ∧ (∃ (frame : Nat) (f : Frame) (s : State), s.frame? frame = some f ∧ f.decided = false ∧ f.kind = .wire ∧ s.reached f.tDl = true ∧
        s.stopped = false)
    ∧ (∃ (frame : Nat) (f : Frame) (s : State), s.frame? frame = some f ∧ f.decided = false ∧ f.kind.timed = true ∧ f.kind ≠ .wire ∧
        s.reached f.tDl = true ∧ s.stopped = false)
    ∧ (∃ (frame : Nat) (f : Frame) (s : State), s.frame? frame = some f ∧
        (f.decided = true ∨ f.kind.timed = false ∨ s.reached f.tDl = false ∨ s.stopped = true))
    ∧ (∃ (frame : Nat) (s : State), s.frame? frame = none) :=
  ⟨⟨0, _, _, wCombine 0, rfl, rfl, by decide +kernel, by decide +kernel, by decide +kernel, by decide +kernel, by decide +kernel⟩,
   ⟨0, _, _, wCombine 10000, rfl, rfl, by decide +kernel, by decide +kernel, by decide +kernel, by decide +kernel, by decide +kernel⟩,
   ⟨0, _, _, wCombine 10000, ⟨by decide +kernel, by decide +kernel, by decide +kernel, by decide +kernel⟩, rfl, rfl, by decide +kernel,
     by decide +kernel⟩,
   ⟨0, _, { wCombine 10000 with now := 0 }, rfl, by decide +kernel⟩,
   ⟨0, State.reset, by decide +kernel⟩,
   ⟨0, _, wDecide, rfl, by decide +kernel, by decide +kernel, by decide +kernel, by decide +kernel⟩,
   ⟨0, _, wClosing, rfl, by decide +kernel, by decide +kernel, by decide +kernel, by decide +kernel, by decide +kernel⟩,
   ⟨0, _, { wDecide with stopped := true }, rfl, by decide +kernel⟩,
   ⟨0, State.reset, by decide +kernel⟩⟩

theorem test_releases_leave :
    (∃ (frame : Nat) (f : Frame) (s : State), s.frame? frame = some f ∧ s.leadDue f = true ∧ f.led = false)
    ∧ (∃ (frame : Nat) (f : Frame) (s : State), s.frame? frame = some f ∧ s.leadDue f = true ∧ f.invalidClass = false)
    ∧ (∃ (frame : Nat) (f : Frame) (s : State), s.frame? frame = some f ∧ s.leadDue f = false)
    ∧ (∃ (frame : Nat) (s : State), s.frame? frame = none)
    ∧ (∃ (frame : Nat) (f : Frame) (s : State), s.frame? frame = some f ∧ s.releaseDue f = true)
    ∧ (∃ (frame : Nat) (f : Frame) (s : State), s.frame? frame = some f ∧ s.releaseDue f = false)
    ∧ (∃ (c : TapCopy) (s : State), s.nextTap = some c ∧ c.bytes ≠ [] ∧ s.reached c.tRel = true ∧ s.portUp .tap = true ∧
        s.stopped = false ∧ s.msec 2 = false)
    ∧ (∃ (c : TapCopy) (s : State), s.nextTap = some c ∧
        (s.reached c.tRel = false ∨ c.bytes = [] ∨ s.portUp .tap = false ∨ s.stopped = true))
    ∧ (∃ (s : State), s.nextTap = none) :=
  ⟨⟨0, _, wLead, rfl, by decide +kernel, by decide +kernel⟩,
   ⟨0, _, wLead, rfl, by decide +kernel, by decide +kernel⟩,
   ⟨0, _, wDecide, rfl, by decide +kernel⟩,
   ⟨0, State.reset, by decide +kernel⟩,
   ⟨0, _, wRelease, rfl, by decide +kernel⟩,
   ⟨0, _, wLead, rfl, by decide +kernel⟩,
   ⟨_, wTapq, rfl, by decide +kernel, by decide +kernel, by decide +kernel, by decide +kernel, by decide +kernel⟩,
   ⟨_, { wTapq with stopped := true }, rfl, by decide +kernel⟩,
   ⟨State.reset, by decide +kernel⟩⟩

theorem test_records_and_seals :
    (∃ (chain : Fin 33) (s : State), (s.chain chain.val).started = true ∧ s.stopped = false ∧ 0 < (s.chain chain.val).sinceSeal ∧
        500000000 ≤ s.since (s.chain chain.val).sealTick)
    ∧ (∃ (chain : Fin 33) (s : State), ((s.chain chain.val).started = false ∨ s.stopped = true ∨ (s.chain chain.val).sinceSeal = 0 ∨ s.since (s.chain chain.val).sealTick < 500000000))
    ∧ (∃ (s : State), s.stopped = false ∧ (∀ k < 33, (s.chain k).lostAny = false))
    ∧ (∃ (k : KRec) (s : State), s.acc.buffer.head? = some k ∧ s.stopped = false ∧ (s.chain k.chain).started = false)
    ∧ (∃ (s : State), s.stopped = true) :=
  ⟨⟨5, wSeal, by decide +kernel, by decide +kernel, by decide +kernel, by decide +kernel⟩,
   ⟨5, State.reset, by decide +kernel⟩,
   ⟨wDrain, by decide +kernel, by decide +kernel⟩,
   ⟨_, wDrain, rfl, by decide +kernel, by decide +kernel⟩,
   ⟨{ wDrain with stopped := true }, by decide +kernel⟩⟩

theorem test_wheel_slots :
    (∃ (stage : Stage) (engine : Fin 48) (s : State), regFileWf s.reg = true ∧ wheelStage stage = true ∧ engine.val < stage.engines ∧
        s.engineRuns stage engine.val = true ∧ s.stopped = false)
    ∧ (∃ (stage : Stage) (engine : Fin 48) (s : State), (wheelStage stage = false ∨ stage.engines ≤ engine.val ∨ s.engineRuns stage engine.val = false ∨ s.stopped = true)) :=
  ⟨⟨.intake, 0, wWheel, by decide +kernel, by decide +kernel, by decide +kernel, by decide +kernel, by decide +kernel⟩,
   ⟨.intake, 0, State.reset, by decide +kernel⟩⟩

theorem test_stage_units_1 :
    (∃ (engine : Fin 12) (slot : Nat) (g : Grant) (s : State), s.grantOn .catalogue engine.val = some g ∧ g.work = .text slot ∧
        16 ≤ s.since g.tick ∧ (∀ f ∈ (s.frame? g.frame).toList, ∀ x ∈ f.texts, x.slot = slot → ∀ v ∈ x.pin.toList,
        s.contentBad .vocabulary x.vocab v = false))
    ∧ (∃ (engine : Fin 12) (g : Grant) (s : State), s.grantOn .catalogue engine.val = some g ∧ s.since g.tick < 16)
    ∧ (∃ (engine : Fin 12) (s : State), s.grantOn .catalogue engine.val = none)
    ∧ (∃ (engine : Fin 8) (pos : Nat) (ens : Nat) (grp : Nat) (g : Grant) (s : State), s.grantOn .arbor engine.val = some g ∧
        g.work = .trees pos ens grp ∧ 10 ≤ s.since g.tick)
    ∧ (∃ (engine : Fin 8) (g : Grant) (s : State), s.grantOn .arbor engine.val = some g ∧ s.since g.tick < 10)
    ∧ (∃ (engine : Fin 8) (s : State), s.grantOn .arbor engine.val = none)
    ∧ (∃ (frame : Nat) (pos : Fin 4) (f : Frame) (m : ModelJob) (s : State), s.programOver frame pos.val = some (f, m) ∧
        s.contentBad .model m.model (m.pin.getD 0) = false)
    ∧ (∃ (frame : Nat) (pos : Fin 4) (s : State), s.programOver frame pos.val = none)
    ∧ (∃ (frame : Nat) (f : Frame) (m : ModelJob) (s : State), (s.frame? frame).bind s.modelReady = some (f, m) ∧
        s.contentBad .model m.model (m.pin.getD 0) = false)
    ∧ (∃ (frame : Nat) (f : Frame) (m : ModelJob) (s : State), (s.frame? frame).bind s.modelReady = some (f, m) ∧
        s.contentBad .model m.model (m.pin.getD 0) = true)
    ∧ (∃ (frame : Nat) (s : State), (s.frame? frame).bind s.modelReady = none)
    ∧ (∃ (st : Stage) (e : Fin 48) (g : Grant) (s : State), s.grantOn st e.val = some g ∧ s.slotTicks st + 10000 ≤ s.since g.tick ∧
        s.stopped = false) :=
  ⟨⟨0, 1, _, wText, rfl, by decide +kernel, by decide +kernel, by decide +kernel⟩,
   ⟨0, _, { wText with now := 0 }, rfl, by decide +kernel⟩,
   ⟨0, State.reset, by decide +kernel⟩,
   ⟨0, 0, 0, 1, _, wTrees, rfl, by decide +kernel, by decide +kernel⟩,
   ⟨0, _, { wTrees with now := 0 }, rfl, by decide +kernel⟩,
   ⟨0, State.reset, by decide +kernel⟩,
   ⟨0, 0, { wIn with models := [wModel true] }, wModel true, wProgram, by decide +kernel, by decide +kernel⟩,
   ⟨0, 0, State.reset, by decide +kernel⟩,
   ⟨0, { wIn with models := [wModel false] }, wModel false, wStart, by decide +kernel, by decide +kernel⟩,
   ⟨0, { wIn with models := [wModel false] }, wModel false, { wStart with content := [] }, by decide +kernel, by decide +kernel⟩,
   ⟨0, State.reset, by decide +kernel⟩,
   ⟨.catalogue, 0, _, { wText with now := 20000 }, rfl, by decide +kernel, by decide +kernel⟩⟩

theorem test_stage_units_2 :
    (∃ (st : Stage) (e : Fin 48) (g : Grant) (s : State), s.grantOn st e.val = some g ∧
        (s.since g.tick < s.slotTicks st + 10000 ∨ s.stopped = true))
    ∧ (∃ (st : Stage) (e : Fin 48) (s : State), s.grantOn st e.val = none) :=
  ⟨⟨.catalogue, 0, _, wText, rfl, by decide +kernel⟩,
   ⟨.catalogue, 0, State.reset, by decide +kernel⟩⟩

theorem test_vitrine_work_1 :
    (∃ (frame : Nat) (id : Nat) (f : Frame) (x : Search) (b : Nat) (tick : Nat) (l : Lookup) (attr : Nat) (pinned : Bool) (s : State), (s.frame? frame).bind (fun f => (f.searches.find? (fun x => x.id == id)).map (fun x => (f,
        x))) = some (f, x) ∧ x.state = .granted b tick l attr pinned ∧ 10 ≤ s.since tick ∧ x.learn = none ∧ f.kind.timed = true)
    ∧ (∃ (frame : Nat) (id : Nat) (f : Frame) (x : Search) (b : Nat) (tick : Nat) (l : Lookup) (attr : Nat) (pinned : Bool) (s : State), (s.frame? frame).bind (fun f => (f.searches.find? (fun x => x.id == id)).map (fun x => (f,
        x))) = some (f, x) ∧ x.state = .granted b tick l attr pinned ∧ s.since tick < 10)
    ∧ (∃ (frame : Nat) (s : State), s.frame? frame = none)
    ∧ (∃ (bank : Fin 16) (s : State), regFileWf s.reg = true ∧ s.updateSlotFree bank.val = true ∧ s.updateDue bank.val = true)
    ∧ (∃ (bank : Fin 16) (s : State), (s.updateSlotFree bank.val = false ∨ s.updateDue bank.val = false))
    ∧ (∃ (table : Fin 64) (b : Nat) (l : Learn) (how : LearnEnd) (addr : Nat) (s : State), regFileWf s.reg = true ∧
        s.orderer table.val = some b ∧ s.learnDue table.val = some (l, how, addr) ∧ s.updateSlotFree b = true ∧
        (s.vbank b).updRev < s.get (Fld.VIT_BANK_CTL_UPD_MAX b))
    ∧ (∃ (table : Fin 64) (s : State), s.learnDue table.val = none)
    ∧ (∃ (table : Fin 64) (s : State), regFileWf s.reg = true ∧ s.sweepReady table.val = true)
    ∧ (∃ (table : Fin 64) (s : State), s.sweepReady table.val = false)
    ∧ (∃ (table : Fin 64) (b : Nat) (a : Nat) (s : State), regFileWf s.reg = true ∧ s.orderer table.val = some b ∧
        s.removalDue table.val = some a ∧ s.updateSlotFree b = true ∧ (s.vbank b).updRev < s.get (Fld.VIT_BANK_CTL_UPD_MAX b))
    ∧ (∃ (table : Fin 64) (s : State), s.removalDue table.val = none)
    ∧ (∃ (bank : Fin 16) (s : State), regFileWf s.reg = true ∧ s.engineRuns .vitrine bank.val = true ∧ s.stopped = false ∧
        (s.vbank bank.val).scrubRev < s.get (Fld.VIT_BANK_CTL_SCRUB bank.val)) :=
  ⟨⟨0, 0, { wIn with searches := [wSrch] }, wSrch, 0, 0, wHit, 1, false, wGranted, by decide +kernel, by decide +kernel, by decide +kernel,
     by decide +kernel, by decide +kernel⟩,
   ⟨0, 0, { wIn with searches := [wSrch] }, wSrch, 0, 0, wHit, 1, false, { wGranted with now := 5 }, by decide +kernel, by decide +kernel,
     by decide +kernel⟩,
   ⟨0, State.reset, by decide +kernel⟩,
   ⟨0, wBankOp (fun k => { k with repairs := [5] }), by decide +kernel, by decide +kernel, by decide +kernel⟩,
   ⟨0, State.reset, by decide +kernel⟩,
   ⟨0, 0, wLrn, .insert, 0, wLearn, by decide +kernel, by decide +kernel, by decide +kernel, by decide +kernel, by decide +kernel⟩,
   ⟨0, State.reset, by decide +kernel⟩,
   ⟨0, wSweep, by decide +kernel, by decide +kernel⟩,
   ⟨0, State.reset, by decide +kernel⟩,
   ⟨0, 0, 0, wRemove, by decide +kernel, by decide +kernel, by decide +kernel, by decide +kernel, by decide +kernel⟩,
   ⟨0, State.reset, by decide +kernel⟩,
   ⟨0, wBankOp (fun k => k), by decide +kernel, by decide +kernel, by decide +kernel, by decide +kernel⟩⟩

theorem test_vitrine_work_2 :
    (∃ (bank : Fin 16) (s : State), (s.engineRuns .vitrine bank.val = false ∨ s.stopped = true ∨ s.get (Fld.VIT_BANK_CTL_SCRUB bank.val) ≤ (s.vbank bank.val).scrubRev))
    ∧ (∃ (table : Fin 64) (key : Nat) (v : Nat) (l : Load) (s : State), regFileWf s.reg = true ∧ (s.vtable table.val).batch = some (key,
        v) ∧ s.load? key = some l ∧ s.batchApplied table.val key = true ∧ s.stopped = false)
    ∧ (∃ (table : Fin 64) (s : State), (s.vtable table.val).batch = none) :=
  ⟨⟨0, State.reset, by decide +kernel⟩,
   ⟨0, 0, 7, wLoad, wBatch, by decide +kernel, by decide +kernel, by decide +kernel, by decide +kernel, by decide +kernel⟩,
   ⟨0, State.reset, by decide +kernel⟩⟩

theorem test_walks_and_credits_1 :
    (∃ (frame : Nat) (e : Nat) (c : Nat) (i : Nat) (f : Frame) (s : State), s.frame? frame = some f ∧ s.freeContext = some (e, c) ∧
        f.strand = some i ∧ walkWaits f = true ∧ s.creditsLate f i = false ∧ s.engineRuns .gather e = true ∧ s.stopped = false)
    ∧ (∃ (frame : Nat) (f : Frame) (s : State), s.frame? frame = some f ∧ (walkWaits f = false ∨ s.stopped = true))
    ∧ (∃ (frame : Nat) (s : State), s.frame? frame = none)
    ∧ (∃ (strand : Fin 32) (r : ReadWait) (j : Nat) (s : State), regFileWf s.reg = true ∧ s.stopped = false ∧
        s.nextRead strand.val false = some r ∧ s.poolFor strand.val = some j)
    ∧ (∃ (strand : Fin 32) (r : ReadWait) (s : State), regFileWf s.reg = true ∧ s.stopped = false ∧ s.nextRead strand.val false = some r ∧
        s.poolFor strand.val = none ∧ s.spareReader = some strand.val ∧ 5 ≤ s.get Fld.GTH_SPARE_POOL)
    ∧ (∃ (strand : Fin 32) (s : State), s.nextRead strand.val false = none ∧ s.nextRead strand.val true = none)
    ∧ (∃ (strand : Fin 32) (s : State), s.poolFor strand.val = none ∧ s.get Fld.GTH_SPARE_POOL < 5)
    ∧ (∃ (frame : Nat) (pos : Nat) (f : Frame) (i : Nat) (w : Walk) (tick : Nat) (s : State), s.readAt frame pos = some (f, i, w, tick) ∧
        75 ≤ s.since tick)
    ∧ (∃ (frame : Nat) (pos : Nat) (s : State), s.readAt frame pos = none)
    ∧ (∃ (frame : Nat) (pos : Nat) (f : Frame) (i : Nat) (w : Walk) (tick : Nat) (s : State), s.readAt frame pos = some (f, i, w, tick) ∧
        s.since tick < 75)
    ∧ (∃ (frame : Nat) (pos : Nat) (f : Frame) (i : Nat) (w : Walk) (tick : Nat) (s : State), s.readAt frame pos = some (f, i, w, tick) ∧
        5000 ≤ s.since tick)
    ∧ (∃ (frame : Nat) (pos : Nat) (f : Frame) (i : Nat) (w : Walk) (tick : Nat) (s : State), s.readAt frame pos = some (f, i, w, tick) ∧
        s.since tick < 5000) :=
  ⟨⟨0, 0, 0, 3, wGf, wGather (fun f => f), by decide +kernel, by decide +kernel, by decide +kernel, by decide +kernel, by decide +kernel,
     by decide +kernel, by decide +kernel⟩,
   ⟨0, _, { wGather (fun f => f) with stopped := true }, rfl, by decide +kernel⟩,
   ⟨0, State.reset, by decide +kernel⟩,
   ⟨3, ⟨100, 0, 0, 0, 0⟩, 3, wReads, by decide +kernel, by decide +kernel, by decide +kernel, by decide +kernel⟩,
   ⟨3, ⟨100, 0, 0, 0, 0⟩, (wReads.set (Fld.GTH_STRAND_POOL 3) 0).set Fld.GTH_SPARE_POOL 9, by decide +kernel, by decide +kernel,
     by decide +kernel, by decide +kernel, by decide +kernel, by decide +kernel⟩,
   ⟨3, State.reset, by decide +kernel, by decide +kernel⟩,
   ⟨3, State.reset, by decide +kernel, by decide +kernel⟩,
   ⟨0, 0, wGw (some 100), 3, wWalk (some 100), 100, { wReading with now := 200 }, by decide +kernel, by decide +kernel⟩,
   ⟨0, 0, State.reset, by decide +kernel⟩,
   ⟨0, 0, wGw (some 100), 3, wWalk (some 100), 100, wReading, by decide +kernel, by decide +kernel⟩,
   ⟨0, 0, wGw (some 100), 3, wWalk (some 100), 100, { wReading with now := 6000 }, by decide +kernel, by decide +kernel⟩,
   ⟨0, 0, wGw (some 100), 3, wWalk (some 100), 100, wReading, by decide +kernel, by decide +kernel⟩⟩

theorem test_walks_and_credits_2 :
    (∃ (frame : Nat) (i : Nat) (f : Frame) (s : State), s.frame? frame = some f ∧ f.strand = some i ∧ lacksCredit f = true ∧
        s.creditsLate f i = true)
    ∧ (∃ (frame : Nat) (f : Frame) (s : State), s.frame? frame = some f ∧ lacksCredit f = false)
    ∧ (∃ (s : State), regFileWf s.reg = true ∧ s.now % 2048 = 0 ∧ s.gth.period ≠ some (s.now / 2048))
    ∧ (∃ (s : State), (s.now % 2048 ≠ 0 ∨ s.gth.period = some (s.now / 2048)))
    ∧ (∃ (item : Fin 180) (tick : Nat) (s : State), (s.graceOf (itemOf item.val).1 (itemOf item.val).2).2 = some tick ∧
        500000 * (s.graceOf (itemOf item.val).1 (itemOf item.val).2).1 < s.since tick ∧
        (if (itemOf item.val).1 = .graph then (s.graph (itemOf item.val).2).expired else s.fab.stale.contains item.val) = false)
    ∧ (∃ (item : Fin 180) (s : State), (s.graceOf (itemOf item.val).1 (itemOf item.val).2).2 = none)
    ∧ (∃ (item : Fin 180) (tick : Nat) (s : State), (s.graceOf (itemOf item.val).1 (itemOf item.val).2).2 = some tick ∧
        s.since tick ≤ 500000 * (s.graceOf (itemOf item.val).1 (itemOf item.val).2).1) :=
  ⟨⟨0, 3, wGf, { wGather (fun f => f) with now := 6000 }, by decide +kernel, by decide +kernel, by decide +kernel, by decide +kernel⟩,
   ⟨0, _, wInside, rfl, by decide +kernel⟩,
   ⟨{ wOn with now := 2048, gth := { Gather.reset with issuing := true } }, by decide +kernel, by decide +kernel, by decide +kernel⟩,
   ⟨{ wOn with now := 5 }, by decide +kernel⟩,
   ⟨3, 0, { wOn with now := 10 ^ 15, fab := { Fabric.reset with below := [(3, 0)] } }, by decide +kernel, by decide +kernel,
     by decide +kernel⟩,
   ⟨3, State.reset, by decide +kernel⟩,
   ⟨3, _, { wOn with now := 0, fab := { Fabric.reset with below := [(3, 0)] } }, rfl, by decide +kernel⟩⟩

theorem test_guard_admission :
    (∃ (frame : Nat) (why : Fld) (f : Frame) (s : State), regFileWf s.reg = true ∧ s.frame? frame = some f ∧ s.admitNext f = true ∧
        s.breakwater (s.admissionOf f) = some why)
    ∧ (∃ (frame : Nat) (slot : Nat) (f : Frame) (s : State), s.frame? frame = some f ∧ s.admitNext f = true ∧
        s.breakwater (s.admissionOf f) = none ∧ s.freeSlot = some slot ∧ (s.admissionOf f).pins.bad = false ∧
        (allocBlocks (s.get (Fld.SRV_COVE_BLOCKS (s.coveOf f))) (s.admissionOf f).need (holdBlocks (s.cove (s.coveOf f)) (s.admissionOf f).shared)).isSome = true)
    ∧ (∃ (frame : Nat) (f : Frame) (s : State), s.frame? frame = some f ∧ s.admitNext f = false)
    ∧ (∃ (frame : Nat) (s : State), s.frame? frame = none) :=
  ⟨⟨0, Fld.SRV_BRK_BLOCK_CNT, wGuardF, wAdmit 0, by decide +kernel, by decide +kernel, by decide +kernel, by decide +kernel⟩,
   ⟨0, 0, wGuardF, wAdmit 64, by decide +kernel, by decide +kernel, by decide +kernel, by decide +kernel, by decide +kernel,
     by decide +kernel⟩,
   ⟨0, _, wInside, rfl, by decide +kernel⟩,
   ⟨0, State.reset, by decide +kernel⟩⟩

theorem test_cove_steps :
    (∃ (cove : Fin 8) (s : State), s.stepReady cove.val = true ∧
        (s.composeRows cove.val ≠ [] ∨ (s.coveRequests cove.val).any waitsForCommit = true))
    ∧ (∃ (cove : Fin 8) (s : State), s.stepReady cove.val = false)
    ∧ (∃ (cove : Fin 8) (s : State), s.composeRows cove.val = [] ∧ (s.coveRequests cove.val).any waitsForCommit = false)
    ∧ (∃ (cove : Fin 8) (x : CoveStep) (s : State), (s.cove cove.val).step = some x ∧ s.stopped = false ∧
        (s.cove cove.val).wedged = false)
    ∧ (∃ (cove : Fin 8) (x : CoveStep) (s : State), (s.cove cove.val).step = some x ∧ s.stopped = false ∧
        (s.cove cove.val).wedged = false ∧ x.retries < 3)
    ∧ (∃ (cove : Fin 8) (s : State), (s.stopped = true ∨ (s.cove cove.val).wedged = true))
    ∧ (∃ (cove : Fin 8) (s : State), (s.cove cove.val).step = none) :=
  ⟨⟨0, wCove [wReq .prefill], by decide +kernel, by decide +kernel⟩,
   ⟨0, State.reset, by decide +kernel⟩,
   ⟨0, State.reset, by decide +kernel, by decide +kernel⟩,
   ⟨0, ⟨0, [(0, .decode [⟨0, 0, 0⟩])], 0⟩, wStep (wReq .cancelling), by decide +kernel, by decide +kernel, by decide +kernel⟩,
   ⟨0, ⟨0, [(0, .decode [⟨0, 0, 0⟩])], 0⟩, wStep (wReq .cancelling), by decide +kernel, by decide +kernel, by decide +kernel,
     by decide +kernel⟩,
   ⟨0, { State.reset with stopped := true }, by decide +kernel⟩,
   ⟨0, State.reset, by decide +kernel⟩⟩

theorem test_guard_outputs_and_commands_1 :
    (∃ (slot : Fin 8192) (r : Request) (s : State), s.request? slot.val = some r ∧ r.state = .ended ∧ r.finalPosted = true ∧
        inTransfer r = false)
    ∧ (∃ (slot : Fin 8192) (r : Request) (s : State), s.request? slot.val = some r ∧
        (r.state ≠ .ended ∨ r.finalPosted = false ∨ inTransfer r = true))
    ∧ (∃ (slot : Fin 8192) (s : State), s.request? slot.val = none)
    ∧ (∃ (cove : Fin 8) (since : Nat) (s : State), (s.cove cove.val).activeSince = some since ∧ (s.cove cove.val).wedged = false ∧
        s.coveActive cove.val = true ∧ 50000000 ≤ s.since since)
    ∧ (∃ (cove : Fin 8) (s : State), ((s.cove cove.val).wedged = true ∨ (s.cove cove.val).activeSince = none ∨ s.coveActive cove.val = false))
    ∧ (∃ (q : Fin 16) (e : SqEntry) (req : Word) (frameId : BitVec 64) (r : Request) (s : State), Takes q e s ∧
        (s.findRequest req.toNat frameId.toNat).1 = some r ∧ r.state ≠ .ended ∧ r.cancel = none)
    ∧ (∃ (q : Fin 16) (e : SqEntry) (req : Word) (frameId : BitVec 64) (r : Request) (s : State), Takes q e s ∧
        (s.findRequest req.toNat frameId.toNat).1 = some r ∧ r.state ≠ .ended ∧ r.cancel.isSome = true)
    ∧ (∃ (q : Fin 16) (e : SqEntry) (req : Word) (frameId : BitVec 64) (r : Request) (s : State), Takes q e s ∧
        (s.findRequest req.toNat frameId.toNat).1 = some r ∧ r.state = .ended)
    ∧ (∃ (q : Fin 16) (e : SqEntry) (req : Word) (frameId : BitVec 64) (s : State), Takes q e s ∧
        s.findRequest req.toNat frameId.toNat = (none, true))
    ∧ (∃ (q : Fin 16) (e : SqEntry) (req : Word) (frameId : BitVec 64) (s : State), Takes q e s ∧
        s.findRequest req.toNat frameId.toNat = (none, false))
    ∧ (∃ (q : Fin 16) (e : SqEntry) (req : Word) (frameId : BitVec 64) (s : State), Takes q e s ∧
        (s.findRequest req.toNat frameId.toNat).1.isSome = true)
    ∧ (∃ (q : Fin 16) (e : SqEntry) (req : Word) (frameId : BitVec 64) (s : State), Takes q e s ∧
        (s.findRequest req.toNat frameId.toNat).1 = none) :=
  ⟨⟨0, _, wCove [{ wReq .ended with finalPosted := true }], rfl, by decide +kernel, by decide +kernel, by decide +kernel⟩,
   ⟨0, _, wCove [wReq .prefill], rfl, by decide +kernel⟩,
   ⟨0, State.reset, by decide +kernel⟩,
   ⟨0, 0, { (wCove [wReq .prefill]).modCove 0 (fun c => { c with activeSince := some 0 }) with now := 50000000 }, by decide +kernel,
     by decide +kernel, by decide +kernel, by decide +kernel⟩,
   ⟨0, State.reset, by decide +kernel⟩,
   ⟨0, ⟨0, false, 0, 7⟩, 0, 9, wReq .decode, wGs (wReq .decode), ⟨by decide +kernel, by decide +kernel, by decide +kernel⟩,
     by decide +kernel, by decide +kernel, by decide +kernel⟩,
   ⟨0, ⟨0, false, 0, 7⟩, 0, 9, wReq .cancelling, wGs (wReq .cancelling), ⟨by decide +kernel, by decide +kernel, by decide +kernel⟩,
     by decide +kernel, by decide +kernel, by decide +kernel⟩,
   ⟨0, ⟨0, false, 0, 7⟩, 0, 9, wReq .ended, wGs (wReq .ended), ⟨by decide +kernel, by decide +kernel, by decide +kernel⟩, by decide +kernel,
     by decide +kernel⟩,
   ⟨0, ⟨0, false, 0, 7⟩, 0, 9, { wSq with srv := { Guard.reset with gens := [(0, 1)], freed := [(0, 9)] } }, ⟨by decide +kernel,
     by decide +kernel, by decide +kernel⟩, by decide +kernel⟩,
   ⟨0, ⟨0, false, 0, 7⟩, 0, 9, wSq, ⟨by decide +kernel, by decide +kernel, by decide +kernel⟩, by decide +kernel⟩,
   ⟨0, ⟨0, false, 0, 7⟩, 0, 9, wGs (wReq .decode), ⟨by decide +kernel, by decide +kernel, by decide +kernel⟩, by decide +kernel⟩,
   ⟨0, ⟨0, false, 0, 7⟩, 0, 9, wSq, ⟨by decide +kernel, by decide +kernel, by decide +kernel⟩, by decide +kernel⟩⟩

theorem test_guard_outputs_and_commands_2 :
    (∃ (q : Fin 16) (e : SqEntry) (cove : Fin 256) (s : State), Takes q e s ∧ cove.val < 8 ∧ s.flag (Fld.SRV_COVE_CFG_EN cove.val) = true)
    ∧ (∃ (q : Fin 16) (e : SqEntry) (cove : Fin 256) (s : State), Takes q e s ∧ 8 ≤ cove.val) :=
  ⟨⟨0, ⟨0, false, 0, 7⟩, 0, wSq.set (Fld.SRV_COVE_CFG_EN 0) 1, ⟨by decide +kernel, by decide +kernel, by decide +kernel⟩, by decide +kernel,
     by decide +kernel⟩,
   ⟨0, ⟨0, false, 0, 7⟩, 9, wSq, ⟨by decide +kernel, by decide +kernel, by decide +kernel⟩, by decide +kernel⟩⟩

theorem test_archive_tier_1 :
    (∃ (cove : Fin 8) (r : Request) (s : State), (s.movable cove.val).head? = some r ∧ s.moveDue cove.val = true ∧
        s.archiveRoom (s.moveEntry r false).size = true)
    ∧ (∃ (cove : Fin 8) (r : Request) (s : State), (s.movable cove.val).head? = some r ∧ s.moveDue cove.val = true ∧
        s.archiveRoom (s.moveEntry r false).size = false ∧ s.flag (Fld.SRV_PAUSE_CTL_PEER_EN cove.val) = false)
    ∧ (∃ (cove : Fin 8) (s : State), (s.moveDue cove.val = false ∨ s.movable cove.val = []))
    ∧ (∃ (slot : Fin 8192) (k : Nat) (e : ArchEntry) (r : Request) (s : State), s.request? slot.val = some r ∧ r.place = .moving k ∧
        s.entry? k = some e ∧ e.remote = false ∧ r.state ≠ .ended)
    ∧ (∃ (slot : Fin 8192) (r : Request) (s : State), s.request? slot.val = some r ∧ r.place = .hbm)
    ∧ (∃ (slot : Fin 8192) (s : State), s.request? slot.val = none)
    ∧ (∃ (slot : Fin 8192) (k : Nat) (sent : Nat) (e : ArchEntry) (r : Request) (s : State), s.request? slot.val = some r ∧
        r.place = .reading k sent ∧ s.entry? k = some e ∧ e.remote = false ∧ r.state = .paused)
    ∧ (∃ (slot : Fin 8192) (k : Nat) (sent : Nat) (e : ArchEntry) (r : Request) (s : State), s.request? slot.val = some r ∧
        r.place = .reading k sent ∧ s.entry? k = some e ∧ e.remote = false ∧ r.doom = none)
    ∧ (∃ (key : Nat) (due : Nat) (e : ArchEntry) (s : State), s.entry? key = some e ∧ e.expire = some due ∧ s.reached due = true ∧
        s.entryRequest key = none)
    ∧ (∃ (key : Nat) (due : Nat) (k : Nat) (r : Request) (e : ArchEntry) (s : State), s.entry? key = some e ∧ e.expire = some due ∧
        s.reached due = true ∧ s.entryRequest key = some r ∧ r.place = .archived k ∧ r.state ≠ .ended ∧ r.doom = none)
    ∧ (∃ (key : Nat) (e : ArchEntry) (s : State), s.entry? key = some e ∧ (∀ x ∈ e.expire.toList, s.reached x = false))
    ∧ (∃ (key : Nat) (s : State), s.entry? key = none) :=
  ⟨⟨0, wPaused, wMove 64, by decide +kernel, by decide +kernel, by decide +kernel⟩,
   ⟨0, wPaused, wMove 0, by decide +kernel, by decide +kernel, by decide +kernel, by decide +kernel⟩,
   ⟨0, State.reset, by decide +kernel⟩,
   ⟨0, 0, wEntry, { wReq .paused with place := .moving 0 }, wArch (.moving 0), by decide +kernel, by decide +kernel, by decide +kernel,
     by decide +kernel, by decide +kernel⟩,
   ⟨0, _, wArch .hbm, rfl, by decide +kernel⟩,
   ⟨0, State.reset, by decide +kernel⟩,
   ⟨0, 0, 5, wEntry, { wReq .paused with place := .reading 0 5 }, wArch (.reading 0 5), by decide +kernel, by decide +kernel,
     by decide +kernel, by decide +kernel, by decide +kernel⟩,
   ⟨0, 0, 5, wEntry, { wReq .paused with place := .reading 0 5 }, wArch (.reading 0 5), by decide +kernel, by decide +kernel,
     by decide +kernel, by decide +kernel, by decide +kernel⟩,
   ⟨0, 50, wEntry, wArch .hbm, by decide +kernel, by decide +kernel, by decide +kernel, by decide +kernel⟩,
   ⟨0, 50, 0, { wReq .paused with place := .archived 0 }, wEntry, wArch (.archived 0), by decide +kernel, by decide +kernel,
     by decide +kernel, by decide +kernel, by decide +kernel, by decide +kernel, by decide +kernel⟩,
   ⟨0, _, { wArch .hbm with now := 0 }, rfl, by decide +kernel⟩,
   ⟨0, State.reset, by decide +kernel⟩⟩

theorem test_archive_tier_2 :
    (∃ (slot : Fin 8192) (k : Nat) (sent : Nat) (e : ArchEntry) (r : Request) (s : State), s.request? slot.val = some r ∧
        r.place = .reading k sent ∧ s.entry? k = some e ∧ e.remote = true ∧ entryWhole e = false ∧ 5000000 ≤ s.since sent ∧
        r.state ≠ .ended ∧ r.doom = none) :=
  ⟨0, 0, 5, { wEntry with remote := true }, { wReq .paused with place := .reading 0 5 },
    { wArch (.reading 0 5) with now := 6000000, srv := { (wArch (.reading 0 5)).srv with archive := [{ wEntry with remote := true }] } },
    by decide +kernel, by decide +kernel, by decide +kernel, by decide +kernel, by decide +kernel, by decide +kernel, by decide +kernel,
    by decide +kernel⟩

theorem test_content_loads_1 :
    (∃ (q : Fin 16) (e : SqEntry) (s : State), Takes q e s)
    ∧ (∃ (q : Fin 16) (e : SqEntry) (d : LoadDescriptor) (s : State), Takes q e s ∧ d.magic ≠ 0x44414F4C)
    ∧ (∃ (q : Fin 16) (e : SqEntry) (d : LoadDescriptor) (s : State), Takes q e s ∧ s.loadTest d = none)
    ∧ (∃ (load : Nat) (l : Load) (s : State), s.load? load = some l ∧ l.step = .waiting ∧ s.stopped = false ∧ l.staged = true ∧
        s.earlierLoad l = false)
    ∧ (∃ (load : Nat) (l : Load) (s : State), s.load? load = some l ∧ l.step = .waiting ∧ s.stopped = false ∧ l.staged = false ∧
        (s.host.loads.find? (fun x => !x.staged)).map (fun x => x.key) = some load ∧ s.activeLoads < 8 ∧
        s.stagingUsed + l.totalLen ≤ s.stagingSize)
    ∧ (∃ (load : Nat) (l : Load) (s : State), s.load? load = some l ∧ (l.step ≠ .waiting ∨ s.stopped = true))
    ∧ (∃ (load : Nat) (s : State), s.load? load = none)
    ∧ (∃ (load : Nat) (c : CmdRef) (l : Load) (s : State), s.load? load = some l ∧ l.step = .reading ∧ s.stopped = false ∧
        l.source = .command c)
    ∧ (∃ (load : Nat) (c : CmdRef) (b : Bytes) (l : Load) (s : State), s.load? load = some l ∧ l.step = .reading ∧ s.stopped = false ∧
        l.source = .command c ∧ (sha384 b ≠ padTo 48 l.digest ∨ b.length ≠ l.totalLen))
    ∧ (∃ (load : Nat) (c : CmdRef) (b : Bytes) (l : Load) (s : State), s.load? load = some l ∧ l.step = .reading ∧ s.stopped = false ∧
        l.source = .command c ∧ sha384 b = padTo 48 l.digest ∧ b.length = l.totalLen ∧ l.kind ≠ .graph ∧ s.kindCheck l b = none)
    ∧ (∃ (load : Nat) (l : Load) (s : State), s.load? load = some l ∧ l.step = .reading ∧ s.stopped = false ∧ l.retries < 3)
    ∧ (∃ (load : Nat) (l : Load) (s : State), s.load? load = some l ∧ (l.step ≠ .reading ∨ s.stopped = true)) :=
  ⟨⟨0, ⟨0, false, 0, 7⟩, wSq, ⟨by decide +kernel, by decide +kernel, by decide +kernel⟩⟩,
   ⟨0, ⟨0, false, 0, 7⟩, ⟨0, 1, 0, 1, [], 0, zeros 48, true⟩, wSq, ⟨by decide +kernel, by decide +kernel, by decide +kernel⟩,
     by decide +kernel⟩,
   ⟨0, ⟨0, false, 0, 7⟩, ⟨0x44414F4C, 2, 0, 1, [], 0, zeros 48, true⟩, wSq, ⟨by decide +kernel, by decide +kernel, by decide +kernel⟩,
     by decide +kernel⟩,
   ⟨0, { wVoc with staged := true }, wLoads { wVoc with staged := true }, by decide +kernel, by decide +kernel, by decide +kernel,
     by decide +kernel, by decide +kernel⟩,
   ⟨0, wVoc, wLoads wVoc, by decide +kernel, by decide +kernel, by decide +kernel, by decide +kernel, by decide +kernel, by decide +kernel,
     by decide +kernel⟩,
   ⟨0, _, { wLoads wVoc with stopped := true }, rfl, by decide +kernel⟩,
   ⟨0, State.reset, by decide +kernel⟩,
   ⟨0, wRef, { wVoc with step := .reading }, wLoads { wVoc with step := .reading }, by decide +kernel, by decide +kernel, by decide +kernel,
     by decide +kernel⟩,
   ⟨0, wRef, [1], { wVoc with step := .reading, totalLen := 4 }, wLoads { wVoc with step := .reading, totalLen := 4 }, by decide +kernel,
     by decide +kernel, by decide +kernel, by decide +kernel, by decide +kernel⟩,
   ⟨0, wRef, wBatchBytes, wTab, wLoads wTab, by decide +kernel, by decide +kernel, by decide +kernel, by decide +kernel, by decide +kernel,
     by decide +kernel, by decide +kernel, by decide +kernel⟩,
   ⟨0, { wVoc with step := .reading }, wLoads { wVoc with step := .reading }, by decide +kernel, by decide +kernel, by decide +kernel,
     by decide +kernel⟩,
   ⟨0, _, wLoads wVoc, rfl, by decide +kernel⟩⟩

theorem test_content_loads_2 :
    (∃ (load : Nat) (l : Load) (s : State), s.load? load = some l ∧ l.step = .checked ∧ s.stopped = false ∧ s.versionTest l = none ∧
        (l.kind = .vocabulary ∨ l.kind = .model ∨ l.kind = .automaton) ∧ s.freeOld.contentRoom l.kind l.content.length = true)
    ∧ (∃ (load : Nat) (l : Load) (s : State), s.load? load = some l ∧ l.step = .checked ∧ s.stopped = false ∧
        (s.versionTest l).isSome = true)
    ∧ (∃ (load : Nat) (l : Load) (s : State), s.load? load = some l ∧ (l.step ≠ .checked ∨ s.stopped = true)) :=
  ⟨⟨0, { wVoc with step := .checked }, wLoads { wVoc with step := .checked }, by decide +kernel, by decide +kernel, by decide +kernel,
     by decide +kernel, by decide +kernel, by decide +kernel⟩,
   ⟨0, { wVoc with step := .checked, version := 0 }, wLoads { wVoc with step := .checked, version := 0 }, by decide +kernel,
     by decide +kernel, by decide +kernel, by decide +kernel⟩,
   ⟨0, _, wLoads wVoc, rfl, by decide +kernel⟩⟩

theorem test_graph_loads_and_replays_1 :
    (∃ (graph : Fin 4) (l : Load) (s : State), s.graphTurn graph.val = some l ∧ (s.graph graph.val).applying = none ∧ s.stopped = false ∧
        s.graphPins graph.val = [] ∧ s.versionTest l = none ∧ s.graphVersionTest l.content graph.val l.version = none)
    ∧ (∃ (graph : Fin 4) (s : State), s.graphTurn graph.val = none)
    ∧ (∃ (graph : Fin 4) (s : State), ((s.graph graph.val).applying.isSome = true ∨ s.stopped = true))
    ∧ (∃ (graph : Fin 4) (key : Nat) (v : Nat) (lines : Nat) (full : Bool) (s : State), (s.graph graph.val).applying = some (key, v,
        lines, full) ∧ s.stopped = false ∧ (s.payLines lines).1 ≠ 0)
    ∧ (∃ (graph : Fin 4) (key : Nat) (v : Nat) (lines : Nat) (full : Bool) (l : Load) (s : State), (s.graph graph.val).applying = some (key,
        v, lines, full) ∧ s.stopped = false ∧ (s.payLines lines).1 = 0 ∧ s.load? key = some l)
    ∧ (∃ (graph : Fin 4) (s : State), ((s.graph graph.val).applying = none ∨ s.stopped = true))
    ∧ (∃ (s : State), s.img.pwrOk = true ∧ s.flag Fld.HIF_STATUS_CMD_READY = true)
    ∧ (∃ (s : State), (s.img.pwrOk = false ∨ s.flag Fld.HIF_STATUS_CMD_READY = false))
    ∧ (∃ (q : Fin 16) (e : SqEntry) (s : State), Takes q e s)
    ∧ (∃ (q : Fin 16) (e : SqEntry) (len : Word) (reserved : Bool) (b : Bytes) (s : State), Takes q e s ∧
        (reserved = false ∨ readReplay len.toNat b = none))
    ∧ (∃ (q : Fin 16) (e : SqEntry) (len : Word) (strand : Fin 256) (b : Bytes) (d : ReplayDescr) (st : Status) (s : State), Takes q e s ∧
        readReplay len.toNat b = some d ∧ s.replayRefusal strand.val d = some st)
    ∧ (∃ (q : Fin 16) (e : SqEntry) (len : Word) (strand : Fin 256) (b : Bytes) (d : ReplayDescr) (s : State), Takes q e s ∧
        readReplay len.toNat b = some d ∧ s.replayRefusal strand.val d = none) :=
  ⟨⟨0, wGl, wGload, by decide +kernel, by decide +kernel, by decide +kernel, by decide +kernel, by decide +kernel, by decide +kernel⟩,
   ⟨0, State.reset, by decide +kernel⟩,
   ⟨0, { wGload with stopped := true }, by decide +kernel⟩,
   ⟨0, 0, 3, 5, true, wPay 5, by decide +kernel, by decide +kernel, by decide +kernel⟩,
   ⟨0, 0, 3, 0, true, wGl, wPay 0, by decide +kernel, by decide +kernel, by decide +kernel, by decide +kernel⟩,
   ⟨0, State.reset, by decide +kernel⟩,
   ⟨wOn.set Fld.HIF_STATUS_CMD_READY 1, by decide +kernel, by decide +kernel⟩,
   ⟨State.reset, by decide +kernel⟩,
   ⟨0, ⟨0, false, 0, 7⟩, wSq, ⟨by decide +kernel, by decide +kernel, by decide +kernel⟩⟩,
   ⟨0, ⟨0, false, 0, 7⟩, 192, false, [], wSq, ⟨by decide +kernel, by decide +kernel, by decide +kernel⟩, by decide +kernel⟩,
   ⟨0, ⟨0, false, 0, 7⟩, 206, 3, wRerun, ⟨0, wRecBytes, [], [], zeros 14⟩, .strandMismatch, wSq, ⟨by decide +kernel, by decide +kernel,
     by decide +kernel⟩, by decide +kernel, by decide +kernel⟩,
   ⟨0, ⟨0, false, 0, 7⟩, 206, 3, wRerun, ⟨0, wRecBytes, [], [], zeros 14⟩, wSq.modStrand 3 (fun x => { x with state := .serving }),
     ⟨by decide +kernel, by decide +kernel, by decide +kernel⟩, by decide +kernel, by decide +kernel⟩⟩

theorem test_graph_loads_and_replays_2 :
    (∃ (frame : Nat) (f : Frame) (s : State), s.frame? frame = some f ∧ f.kind.timed = false ∧ (f.verdict.isSome = true ∨ f.causes ≠ []) ∧
        s.stopped = false)
    ∧ (∃ (frame : Nat) (f : Frame) (s : State), s.frame? frame = some f ∧ (f.kind.timed = true ∨ s.stopped = true ∨ (f.verdict = none ∧
        f.causes = [])))
    ∧ (∃ (frame : Nat) (s : State), s.frame? frame = none) :=
  ⟨⟨0, _, wWith { wIn with kind := .replay ⟨wRef, zeros 128, [], []⟩, verdict := some .pass } 100, rfl, by decide +kernel, by decide +kernel,
     by decide +kernel⟩,
   ⟨0, _, wInside, rfl, by decide +kernel⟩,
   ⟨0, State.reset, by decide +kernel⟩⟩

theorem test_stacked_search_1 :
    (∃ (frame : Nat) (id : Nat) (x : Search) (s : State), s.search? frame id = some x ∧ x.state = .waiting ∧
        s.get (Fld.VIT_TABLE_CFG_STACK x.table) ≠ 0 ∧ s.stopped = false ∧ s.stackPos = 0 ∧ s.stk.head.length < 256)
    ∧ (∃ (frame : Nat) (id : Nat) (x : Search) (s : State), s.search? frame id = some x ∧ x.state = .waiting ∧
        s.get (Fld.VIT_TABLE_CFG_STACK x.table) = 2 ∧ s.stopped = false ∧ s.stackPos = 0 ∧ s.stk.head.length < 256 ∧ s.stk.rotate ≠ 0 ∧
        s.stk.rotate ≤ s.reachNow)
    ∧ (∃ (frame : Nat) (id : Nat) (x : Search) (s : State), s.search? frame id = some x ∧ x.state = .waiting ∧
        s.get (Fld.VIT_TABLE_CFG_STACK x.table) ≠ 0 ∧ s.stopped = false ∧ s.stackPos ≠ 0)
    ∧ (∃ (frame : Nat) (id : Nat) (x : Search) (s : State), s.search? frame id = some x ∧
        (x.state ≠ .waiting ∨ s.get (Fld.VIT_TABLE_CFG_STACK x.table) = 0 ∨ s.stopped = true))
    ∧ (∃ (s : State), s.stackPos = 0 ∧ 256 ≤ s.stk.head.length)
    ∧ (∃ (frame : Nat) (id : Nat) (s : State), s.search? frame id = none)
    ∧ (∃ (r : RxRecord) (u : State) (s : State), s.takeRecord 1 = some (r, u) ∧ recMode r.bytes = 1 ∧ s.stackPos + 1 ≠ s.stackMembers)
    ∧ (∃ (r : RxRecord) (u : State) (s : State), s.takeRecord 1 = some (r, u) ∧ (recMode r.bytes = 1 ∧
        s.stackPos + 1 = s.stackMembers ∨ recMode r.bytes ≠ 1 ∧ bits (byteAt r.bytes 2) 3 3 = s.stackPos))
    ∧ (∃ (r : RxRecord) (u : State) (s : State), s.takeRecord 1 = some (r, u) ∧ recMode r.bytes ≠ 1 ∧
        s.stackPos < bits (byteAt r.bytes 2) 3 3)
    ∧ (∃ (r : RxRecord) (u : State) (s : State), s.takeRecord 1 = some (r, u) ∧ recMode r.bytes ≠ 1 ∧
        bits (byteAt r.bytes 2) 3 3 < s.stackPos)
    ∧ (∃ (s : State), s.takeRecord 1 = none)
    ∧ (∃ (r : RxRecord) (u : State) (s : State), s.takeRecord 2 = some (r, u) ∧ s.stackPos ≠ 0) :=
  ⟨⟨0, 0, { wSrch with state := .waiting }, wAsk 0, by decide +kernel, by decide +kernel, by decide +kernel, by decide +kernel,
     by decide +kernel, by decide +kernel⟩,
   ⟨0, 0, { wSrch with state := .waiting }, { wAsk 0 with stk := { Stack.reset with rotate := 1, matchIn := true, linkReach := some 1 } },
     by decide +kernel, by decide +kernel, by decide +kernel, by decide +kernel, by decide +kernel, by decide +kernel, by decide +kernel,
     by decide +kernel⟩,
   ⟨0, 0, { wSrch with state := .waiting }, wAsk 1, by decide +kernel, by decide +kernel, by decide +kernel, by decide +kernel,
     by decide +kernel⟩,
   ⟨0, 0, { wSrch with state := .waiting }, { wAsk 0 with stopped := true }, by decide +kernel, by decide +kernel⟩,
   ⟨{ wAsk 0 with stk := { Stack.reset with head := List.replicate 256 wHs } }, by decide +kernel, by decide +kernel⟩,
   ⟨0, 0, State.reset, by decide +kernel⟩,
   ⟨⟨4, 1, true, padTo 64 ([1, 0x41, 0, 0, 5])⟩, _, wRec 0 4 ([1, 0x41, 0, 0, 5]), rfl, by decide +kernel, by decide +kernel⟩,
   ⟨⟨4, 1, true, padTo 64 ([1, 0x81, 8, 0, 5])⟩, _, wRec 1 4 ([1, 0x81, 8, 0, 5]), rfl, by decide +kernel⟩,
   ⟨⟨4, 1, true, padTo 64 ([1, 0x81, 16, 0, 5])⟩, _, wRec 1 4 ([1, 0x81, 16, 0, 5]), rfl, by decide +kernel, by decide +kernel⟩,
   ⟨⟨4, 1, true, padTo 64 ([1, 0x81, 0, 0, 5])⟩, _, wRec 1 4 ([1, 0x81, 0, 0, 5]), rfl, by decide +kernel, by decide +kernel⟩,
   ⟨State.reset, by decide +kernel⟩,
   ⟨⟨5, 1, true, padTo 64 ([2, 0x81, 1])⟩, _, wRec 1 5 ([2, 0x81, 1]), rfl, by decide +kernel⟩⟩

theorem test_stacked_search_2 :
    (∃ (r : RxRecord) (u : State) (s : State), s.takeRecord 2 = some (r, u) ∧ s.stackPos = 0 ∧ s.stk.head.length < 256)
    ∧ (∃ (s : State), s.takeRecord 2 = none)
    ∧ (∃ (r : RxRecord) (u : State) (s : State), s.takeRecord 3 = some (r, u) ∧ byteAt r.bytes 2 % 8 ≠ s.stackPos)
    ∧ (∃ (r : RxRecord) (u : State) (a : Ask) (s : State), s.takeRecord 3 = some (r, u) ∧ byteAt r.bytes 2 % 8 = s.stackPos ∧
        s.stk.asks.find? (fun a => a.otag == le r.bytes 6 2) = some a)
    ∧ (∃ (s : State), s.takeRecord 3 = none)
    ∧ (∃ (r : RxRecord) (u : State) (s : State), s.takeRecord 4 = some (r, u))
    ∧ (∃ (s : State), s.takeRecord 4 = none)
    ∧ (∃ (otag : BitVec 16) (a : Ask) (s : State), s.stk.asks.find? (fun a => a.otag == otag.toNat) = some a ∧ 2000 ≤ s.since a.tick)
    ∧ (∃ (otag : BitVec 16) (a : Ask) (s : State), s.stk.asks.find? (fun a => a.otag == otag.toNat) = some a ∧ s.since a.tick < 2000)
    ∧ (∃ (otag : BitVec 16) (s : State), s.stk.asks.find? (fun a => a.otag == otag.toNat) = none)
    ∧ (∃ (w : BitVec 136), wordTag w.toNat = 0xFFFF)
    ∧ (∃ (w : BitVec 136) (s : State), wordTag w.toNat ≠ 0xFFFF ∧ s.stackPos = 0 ∧
        s.stk.head.find? (fun h => h.tag == wordTag w.toNat) = none) :=
  ⟨⟨⟨5, 1, true, padTo 64 ([2, 0x81, 1])⟩, _, wRec 0 5 ([2, 0x81, 1]), rfl, by decide +kernel, by decide +kernel⟩,
   ⟨State.reset, by decide +kernel⟩,
   ⟨⟨4, 1, true, padTo 64 ([3, 0x81, 2])⟩, _, wRec 1 4 ([3, 0x81, 2]), rfl, by decide +kernel⟩,
   ⟨⟨4, 1, true, padTo 64 [3, 0x81, 1, 0, 0, 0, 3]⟩, _, ⟨3, 0, 0, 0⟩,
     { wAsked with stk := { wAsked.stk with records := [⟨4, 1, true, padTo 64 [3, 0x81, 1, 0, 0, 0, 3]⟩] } }, rfl, by decide +kernel,
     by decide +kernel⟩,
   ⟨State.reset, by decide +kernel⟩,
   ⟨⟨5, 1, true, padTo 64 ([4, 0, 0, 1])⟩, _, wRec 0 5 ([4, 0, 0, 1]), rfl⟩,
   ⟨State.reset, by decide +kernel⟩,
   ⟨3, ⟨3, 0, 0, 0⟩, { wAsked with now := 2000 }, by decide +kernel, by decide +kernel⟩,
   ⟨3, ⟨3, 0, 0, 0⟩, wAsked, by decide +kernel, by decide +kernel⟩,
   ⟨3, State.reset, by decide +kernel⟩,
   ⟨BitVec.ofNat 136 (sealWord (0xFFFF * 2 ^ 29)), by decide +kernel⟩,
   ⟨BitVec.ofNat 136 (sealWord (5 * 2 ^ 29)), wStack 0, by decide +kernel, by decide +kernel, by decide +kernel⟩⟩

theorem test_stacked_search_3 :
    (∃ (w : BitVec 136) (h : HeadSearch) (s : State), wordTag w.toNat ≠ 0xFFFF ∧ s.stackPos = 0 ∧
        s.stk.head.find? (fun h => h.tag == wordTag w.toNat) = some h ∧ wordOk w.toNat = false)
    ∧ (∃ (w : BitVec 136) (h : HeadSearch) (s : State), wordTag w.toNat ≠ 0xFFFF ∧ s.stackPos = 0 ∧
        s.stk.head.find? (fun h => h.tag == wordTag w.toNat) = some h ∧ wordOk w.toNat = true ∧ h.origin ≠ 0)
    ∧ (∃ (w : BitVec 136) (h : HeadSearch) (s : State), wordTag w.toNat ≠ 0xFFFF ∧ s.stackPos = 0 ∧
        s.stk.head.find? (fun h => h.tag == wordTag w.toNat) = some h ∧ wordOk w.toNat = true ∧ h.origin = 0 ∧
        wordSkew ((h.word.map (fun own => joinWords own w.toNat)).getD w.toNat) = false)
    ∧ (∃ (w : BitVec 136) (s : State), wordTag w.toNat ≠ 0xFFFF ∧ s.stackPos ≠ 0 ∧ wordOk w.toNat = false)
    ∧ (∃ (w : BitVec 136) (s : State), wordTag w.toNat ≠ 0xFFFF ∧ s.stackPos ≠ 0 ∧ wordOk w.toNat = true ∧
        s.stk.shoal.find? (fun x => x.tag == wordTag w.toNat) = none)
    ∧ (∃ (w : BitVec 136) (x : ShoalSearch) (s : State), wordTag w.toNat ≠ 0xFFFF ∧ s.stackPos ≠ 0 ∧ wordOk w.toNat = true ∧
        s.stk.shoal.find? (fun x => x.tag == wordTag w.toNat) = some x)
    ∧ (∃ (tag : BitVec 16) (h : HeadSearch) (s : State), s.stk.head.find? (fun h => h.tag == tag.toNat) = some h ∧ 1000 ≤ s.since h.tick)
    ∧ (∃ (tag : BitVec 16) (h : HeadSearch) (s : State), s.stk.head.find? (fun h => h.tag == tag.toNat) = some h ∧ s.since h.tick < 1000)
    ∧ (∃ (tag : BitVec 16) (s : State), s.stk.head.find? (fun h => h.tag == tag.toNat) = none)
    ∧ (∃ (s : State), s.linksRun = true ∧ (s.nport 4).state = .identify ∧
        (s.stk.lastTraining = none ∨ s.stk.lastTraining.any (fun k => Nat.ble 500 (s.since k)) = true))
    ∧ (∃ (s : State), (s.linksRun = false ∨ (s.nport 4).state ≠ .identify ∨ s.stk.lastTraining.any (fun k => Nat.blt (s.since k) 500) = true))
    ∧ (∃ (v : BitVec 136) (s : State), s.linksRun = true ∧ (s.nport 5).state = .identify ∧ wordOk v.toNat = true ∧
        wordPos v.toNat = (s.stackPos + 1) % 8 ∧ wordTag v.toNat = 0xFFFF) :=
  ⟨⟨BitVec.ofNat 136 (5 * 2 ^ 29), wHs, wHd, by decide +kernel, by decide +kernel, by decide +kernel, by decide +kernel⟩,
   ⟨BitVec.ofNat 136 (sealWord (5 * 2 ^ 29)), wHs, wHd, by decide +kernel, by decide +kernel, by decide +kernel, by decide +kernel,
     by decide +kernel⟩,
   ⟨BitVec.ofNat 136 (sealWord (5 * 2 ^ 29)), { wHs with origin := 0 },
     { wAsk 0 with stk := { Stack.reset with head := [{ wHs with origin := 0 }] } }, by decide +kernel, by decide +kernel,
     by decide +kernel, by decide +kernel, by decide +kernel, by decide +kernel⟩,
   ⟨BitVec.ofNat 136 (5 * 2 ^ 29), wSh, by decide +kernel, by decide +kernel, by decide +kernel⟩,
   ⟨BitVec.ofNat 136 (sealWord (5 * 2 ^ 29)), wStack 1, by decide +kernel, by decide +kernel, by decide +kernel, by decide +kernel⟩,
   ⟨BitVec.ofNat 136 (sealWord (5 * 2 ^ 29)), ⟨5, none⟩, wSh, by decide +kernel, by decide +kernel, by decide +kernel, by decide +kernel⟩,
   ⟨5, wHs, { wHd with now := 1000 }, by decide +kernel, by decide +kernel⟩,
   ⟨5, wHs, wHd, by decide +kernel, by decide +kernel⟩,
   ⟨5, State.reset, by decide +kernel⟩,
   ⟨{ wStack 1 with nwl := [(4, { wUp with state := .identify })] }, by decide +kernel, by decide +kernel, by decide +kernel⟩,
   ⟨State.reset, by decide +kernel⟩,
   ⟨(BitVec.ofNat 136 (sealWord (2 ^ 10 + 0xFFFF * 2 ^ 29))), { wStack 0 with nwl := [(5, { wUp with state := .identify })] },
     by decide +kernel, by decide +kernel, by decide +kernel, by decide +kernel, by decide +kernel⟩⟩

theorem test_stacked_search_4 :
    (∃ (v : BitVec 136) (s : State), s.linksRun = true ∧ (s.nport 5).state = .identify ∧
        (wordOk v.toNat = false ∨ wordPos v.toNat ≠ (s.stackPos + 1) % 8 ∨ wordTag v.toNat ≠ 0xFFFF))
    ∧ (∃ (s : State), (s.linksRun = false ∨ (s.nport 5).state ≠ .identify)) :=
  ⟨⟨0, { wStack 0 with nwl := [(5, { wUp with state := .identify })] }, by decide +kernel, by decide +kernel, by decide +kernel⟩,
   ⟨State.reset, by decide +kernel⟩⟩

theorem test_flits_arrive_1 :
    (∃ (port : Fin 6) (vc : Fin 5) (seq : BitVec 16) (s : State), regFileWf s.reg = true ∧ s.receives port.val = true ∧
        s.portIsUp port.val = true ∧ seqDist seq.toNat (s.nport port.val).e = 0 ∧
        Tab.getD (s.nport port.val).held vc.val 0 < bufferSize port.val vc.val)
    ∧ (∃ (port : Fin 6) (vc : Fin 5) (seq : BitVec 16) (s : State), s.receives port.val = true ∧ s.portIsUp port.val = true ∧
        seqDist seq.toNat (s.nport port.val).e = 0 ∧ bufferSize port.val vc.val ≤ Tab.getD (s.nport port.val).held vc.val 0)
    ∧ (∃ (port : Fin 6) (seq : BitVec 16) (s : State), regFileWf s.reg = true ∧ s.receives port.val = true ∧ s.portIsUp port.val = true ∧
        0 < seqDist seq.toNat (s.nport port.val).e ∧ seqDist seq.toNat (s.nport port.val).e < 32768)
    ∧ (∃ (port : Fin 6) (seq : BitVec 16) (s : State), regFileWf s.reg = true ∧ s.receives port.val = true ∧ s.portIsUp port.val = true ∧
        32768 ≤ seqDist seq.toNat (s.nport port.val).e)
    ∧ (∃ (port : Fin 6) (s : State), s.receives port.val = true ∧ (s.nport port.val).state = .identify)
    ∧ (∃ (port : Fin 6) (s : State), s.receives port.val = false)
    ∧ (∃ (port : Fin 6) (head : FlitHead) (s : State), regFileWf s.reg = true ∧ s.receives port.val = true ∧
        seqDist head.ack.toNat (s.nport port.val).o ≤ (s.nport port.val).buffer.length)
    ∧ (∃ (port : Fin 6) (head : FlitHead) (s : State), regFileWf s.reg = true ∧ s.receives port.val = true ∧ head.ackValid = true ∧
        (s.nport port.val).buffer.length < seqDist head.ack.toNat (s.nport port.val).o)
    ∧ (∃ (port : Fin 6) (head : FlitHead) (s : State), regFileWf s.reg = true ∧ s.receives port.val = true ∧ s.portIsUp port.val = true ∧
        head.ackValid = true ∧ seqDist head.ack.toNat (s.nport port.val).o = 0 ∧ (s.nport port.val).buffer ≠ [] ∧
        (s.nport port.val).replayFrom.all (fun e => e.1 != head.ack.toNat || Nat.ble 1000 (s.since e.2)) = true ∧
        (s.nport port.val).replays + 1 < s.get (Fld.NWL_PORT_CFG_REPLAY_MAX port.val))
    ∧ (∃ (port : Fin 6) (head : FlitHead) (s : State), regFileWf s.reg = true ∧ s.receives port.val = true ∧ s.portIsUp port.val = true ∧
        head.ackValid = true ∧ seqDist head.ack.toNat (s.nport port.val).o = 0 ∧ (s.nport port.val).buffer ≠ [] ∧
        (s.nport port.val).replayFrom.all (fun e => e.1 != head.ack.toNat || Nat.ble 1000 (s.since e.2)) = true ∧
        max 1 (s.get (Fld.NWL_PORT_CFG_REPLAY_MAX port.val)) ≤ (s.nport port.val).replays + 1)
    ∧ (∃ (port : Fin 6) (s : State), regFileWf s.reg = true ∧ s.receives port.val = true ∧ s.portIsUp port.val = true)
    ∧ (∃ (port : Fin 6) (s : State), regFileWf s.reg = true ∧ s.receives port.val = true ∧ (s.nport port.val).state = .identify) :=
  ⟨⟨2, 0, 0, wPort wUp, by decide +kernel, by decide +kernel, by decide +kernel, by decide +kernel, by decide +kernel⟩,
   ⟨2, 0, 0, wPort { wUp with held := [(0, 384)] }, by decide +kernel, by decide +kernel, by decide +kernel, by decide +kernel⟩,
   ⟨2, 1, wPort wUp, by decide +kernel, by decide +kernel, by decide +kernel, by decide +kernel, by decide +kernel⟩,
   ⟨2, 0xFFFF, wPort wUp, by decide +kernel, by decide +kernel, by decide +kernel, by decide +kernel⟩,
   ⟨2, wPort { wUp with state := .identify }, by decide +kernel, by decide +kernel⟩,
   ⟨2, State.reset, by decide +kernel⟩,
   ⟨2, ⟨true, 1, 0, 0⟩, wPort { wUp with buffer := [wSent] }, by decide +kernel, by decide +kernel, by decide +kernel⟩,
   ⟨2, ⟨true, 1, 0, 0⟩, wPort wUp, by decide +kernel, by decide +kernel, by decide +kernel, by decide +kernel⟩,
   ⟨2, ⟨true, 0, 0, 0⟩, wPort { wUp with buffer := [wSent] }, by decide +kernel, by decide +kernel, by decide +kernel, by decide +kernel,
     by decide +kernel, by decide +kernel, by decide +kernel, by decide +kernel⟩,
   ⟨2, ⟨true, 0, 0, 0⟩, wPort { wUp with buffer := [wSent], replays := 9 }, by decide +kernel, by decide +kernel, by decide +kernel,
     by decide +kernel, by decide +kernel, by decide +kernel, by decide +kernel, by decide +kernel⟩,
   ⟨2, wPort wUp, by decide +kernel, by decide +kernel, by decide +kernel⟩,
   ⟨2, wPort { wUp with state := .identify }, by decide +kernel, by decide +kernel, by decide +kernel⟩⟩

theorem test_flits_arrive_2 :
    (∃ (port : Fin 6) (f : TrainFields) (s : State), s.receives port.val = true ∧ (s.nport port.val).state = .identify ∧
        s.partnerOk port.val f = false)
    ∧ (∃ (port : Fin 6) (f : TrainFields) (s : State), s.receives port.val = true ∧ (s.nport port.val).state = .identify ∧
        s.partnerOk port.val f = true ∧ (s.nport port.val).samples < 15)
    ∧ (∃ (port : Fin 6) (f : TrainFields) (s : State), s.receives port.val = true ∧ (s.nport port.val).state = .identify ∧
        s.partnerOk port.val f = true ∧ 16 ≤ (s.nport port.val).samples ∧ s.rttOk port.val = true ∧ f.verified = true)
    ∧ (∃ (port : Fin 6) (f : TrainFields) (s : State), s.receives port.val = true ∧ (s.nport port.val).state = .identify ∧
        s.partnerOk port.val f = true ∧ 16 ≤ (s.nport port.val).samples ∧ s.rttOk port.val = false)
    ∧ (∃ (port : Fin 6) (s : State), s.receives port.val = true ∧ s.portIsUp port.val = true) :=
  ⟨⟨2, ⟨16, 3, false, true, 0, 0, zeros 16, zeros 8, 0, 0, 0⟩, wPort { wUp with state := .identify }, by decide +kernel, by decide +kernel,
     by decide +kernel⟩,
   ⟨2, ⟨16, 3, false, true, 0, 0, zeros 16, zeros 8, 0, 0, 0⟩, wFabWith { wUp with state := .identify }, by decide +kernel,
     by decide +kernel, by decide +kernel, by decide +kernel⟩,
   ⟨2, ⟨16, 3, false, true, 0, 0, zeros 16, zeros 8, 0, 0, 0⟩, wFabWith { wUp with state := .identify, samples := 16 }, by decide +kernel,
     by decide +kernel, by decide +kernel, by decide +kernel, by decide +kernel, by decide +kernel⟩,
   ⟨2, ⟨16, 3, false, true, 0, 0, zeros 16, zeros 8, 0, 0, 0⟩, wFabWith { wUp with state := .identify, samples := 16, rtt := 100000 },
     by decide +kernel, by decide +kernel, by decide +kernel, by decide +kernel, by decide +kernel⟩,
   ⟨2, wPort wUp, by decide +kernel, by decide +kernel⟩⟩

theorem test_ports_run_1 :
    (∃ (port : Fin 6) (s : State), s.linksRun = true ∧
        (s.nport port.val).lastSlot.all (fun k => Nat.ble (flitPeriod (s.nport port.val).lanes) (s.since k)) = true ∧
        (s.nport port.val).state = .up ∧ (s.nport port.val).nakDue = false)
    ∧ (∃ (port : Fin 6) (s : State), regFileWf s.reg = true ∧ s.linksRun = true ∧
        (s.nport port.val).lastSlot.all (fun k => Nat.ble (flitPeriod (s.nport port.val).lanes) (s.since k)) = true ∧
        (s.nport port.val).state = .up ∧ (s.nport port.val).nakDue = true)
    ∧ (∃ (port : Fin 6) (s : State), s.linksRun = true ∧
        (s.nport port.val).lastSlot.all (fun k => Nat.ble (flitPeriod (s.nport port.val).lanes) (s.since k)) = true ∧
        ((s.nport port.val).state = .align ∨ (s.nport port.val).state = .identify))
    ∧ (∃ (port : Fin 6) (s : State), (s.linksRun = false ∨ ((s.nport port.val).state ≠ .up ∧ (s.nport port.val).state ≠ .align ∧
        (s.nport port.val).state ≠ .identify) ∨ (s.nport port.val).lastSlot.any (fun k => Nat.blt (s.since k) (flitPeriod (s.nport port.val).lanes)) = true))
    ∧ (∃ (port : Fin 6) (s : State), regFileWf s.reg = true ∧ s.linksRun = true ∧ (s.nport port.val).state = .up ∧
        (s.nport port.val).buffer ≠ [] ∧ 500 * s.get (Fld.NWL_PORT_CFG_REPLAY_TMO port.val) ≤ s.since (s.nport port.val).advanced ∧
        (s.nport port.val).replays + 1 < s.get (Fld.NWL_PORT_CFG_REPLAY_MAX port.val))
    ∧ (∃ (port : Fin 6) (s : State), regFileWf s.reg = true ∧ s.linksRun = true ∧ (s.nport port.val).state = .up ∧
        (s.nport port.val).buffer ≠ [] ∧ 500 * s.get (Fld.NWL_PORT_CFG_REPLAY_TMO port.val) ≤ s.since (s.nport port.val).advanced ∧
        max 1 (s.get (Fld.NWL_PORT_CFG_REPLAY_MAX port.val)) ≤ (s.nport port.val).replays + 1)
    ∧ (∃ (port : Fin 6) (s : State), (s.linksRun = false ∨ (s.nport port.val).state ≠ .up ∨ (s.nport port.val).buffer = [] ∨ s.since (s.nport port.val).advanced < 500 * s.get (Fld.NWL_PORT_CFG_REPLAY_TMO port.val)))
    ∧ (∃ (port : Fin 6) (s : State), s.linksRun = true ∧ (s.nport port.val).state = .train)
    ∧ (∃ (port : Fin 6) (s : State), s.linksRun = true ∧ (s.nport port.val).state = .align)
    ∧ (∃ (port : Fin 6) (s : State), (s.linksRun = false ∨ ((s.nport port.val).state ≠ .train ∧ (s.nport port.val).state ≠ .align)))
    ∧ (∃ (port : Fin 6) (s : State), s.linksRun = true ∧ (s.nport port.val).state = .train ∧ 250000000 < s.since (s.nport port.val).since)
    ∧ (∃ (port : Fin 6) (s : State), s.linksRun = true ∧ (s.nport port.val).state = .align ∧ 100000 < s.since (s.nport port.val).since) :=
  ⟨⟨2, wFab, by decide +kernel, by decide +kernel, by decide +kernel, by decide +kernel⟩,
   ⟨2, wPort { wUp with nakDue := true }, by decide +kernel, by decide +kernel, by decide +kernel, by decide +kernel, by decide +kernel⟩,
   ⟨2, wPort { wUp with state := .align }, by decide +kernel, by decide +kernel, by decide +kernel⟩,
   ⟨2, State.reset, by decide +kernel⟩,
   ⟨2, { wPort { wUp with buffer := [wSent] } with now := 5000 }, by decide +kernel, by decide +kernel, by decide +kernel, by decide +kernel,
     by decide +kernel, by decide +kernel⟩,
   ⟨2, { wPort { wUp with buffer := [wSent], replays := 9 } with now := 5000 }, by decide +kernel, by decide +kernel, by decide +kernel,
     by decide +kernel, by decide +kernel, by decide +kernel⟩,
   ⟨2, State.reset, by decide +kernel⟩,
   ⟨2, wPort { wUp with state := .train }, by decide +kernel, by decide +kernel⟩,
   ⟨2, wPort { wUp with state := .align }, by decide +kernel, by decide +kernel⟩,
   ⟨2, State.reset, by decide +kernel⟩,
   ⟨2, { wPort { wUp with state := .train } with now := 300000000 }, by decide +kernel, by decide +kernel, by decide +kernel⟩,
   ⟨2, { wPort { wUp with state := .align } with now := 300000000 }, by decide +kernel, by decide +kernel, by decide +kernel⟩⟩

theorem test_ports_run_2 :
    (∃ (port : Fin 6) (s : State), s.linksRun = true ∧ (s.nport port.val).state = .identify ∧
        (if (s.nport port.val).passed.isSome then 50000 else 25000) < s.since ((s.nport port.val).passed.getD (s.nport port.val).since))
    ∧ (∃ (port : Fin 6) (s : State), (s.nport port.val).state = .train ∧ s.since (s.nport port.val).since ≤ 250000000)
    ∧ (∃ (port : Fin 6) (s : State), (s.nport port.val).state = .align ∧ s.since (s.nport port.val).since ≤ 100000)
    ∧ (∃ (port : Fin 6) (s : State), (s.linksRun = false ∨ ((s.nport port.val).state ≠ .train ∧ (s.nport port.val).state ≠ .align ∧
        (s.nport port.val).state ≠ .identify)))
    ∧ (∃ (port : Fin 6) (s : State), s.linksRun = true ∧ (s.nport port.val).state = .down ∧ 50000000 ≤ s.since (s.nport port.val).since ∧
        (portLanes port.val).any s.laneTested = false)
    ∧ (∃ (port : Fin 6) (s : State), (s.linksRun = false ∨ (s.nport port.val).state ≠ .down ∨ s.since (s.nport port.val).since < 50000000 ∨ (portLanes port.val).any s.laneTested = true))
    ∧ (∃ (port : Fin 6) (s : State), regFileWf s.reg = true ∧ s.blocksOpen = true ∧ s.linksRun = true ∧ s.portIsUp port.val = true)
    ∧ (∃ (port : Fin 6) (s : State), (s.blocksOpen = false ∨ s.linksRun = false ∨ s.portIsUp port.val = false)) :=
  ⟨⟨2, { wPort { wUp with state := .identify } with now := 300000000 }, by decide +kernel, by decide +kernel, by decide +kernel⟩,
   ⟨2, wPort { wUp with state := .train }, by decide +kernel, by decide +kernel⟩,
   ⟨2, wPort { wUp with state := .align }, by decide +kernel, by decide +kernel⟩,
   ⟨2, State.reset, by decide +kernel⟩,
   ⟨2, { wPort { wUp with state := .down } with now := 50000000 }, by decide +kernel, by decide +kernel, by decide +kernel,
     by decide +kernel⟩,
   ⟨2, State.reset, by decide +kernel⟩,
   ⟨2, (wPort wUp).set Fld.HIF_STATUS_CMD_READY 1, by decide +kernel, by decide +kernel, by decide +kernel, by decide +kernel⟩,
   ⟨2, State.reset, by decide +kernel⟩⟩

theorem test_origin_replicates_1 :
    (∃ (l : ReplLoad) (s : State), s.flag Fld.FAB_STATE_ORIGIN = true ∧ s.inFabric = true ∧ s.stopped = false ∧ s.fab.repl = none ∧
        s.fab.queue.head? = some l)
    ∧ (∃ (r : Repl) (s : State), s.flag Fld.FAB_STATE_ORIGIN = true ∧ s.inFabric = true ∧ s.stopped = false ∧ s.fab.repl = some r ∧
        r.phase = 3)
    ∧ (∃ (s : State), (s.flag Fld.FAB_STATE_ORIGIN = false ∨ s.inFabric = false ∨ s.stopped = true))
    ∧ (∃ (s : State), s.fab.repl = none ∧ s.fab.queue = [])
    ∧ (∃ (s : State), s.fab.repl.any (fun r => r.phase != 3) = true)
    ∧ (∃ (p : Packet) (r : Repl) (s : State), s.fab.endpoint.head? = some p ∧ p.ptype = 4 ∧ s.fab.repl = some r)
    ∧ (∃ (p : Packet) (s : State), s.fab.endpoint.head? = some p ∧ p.ptype = 4 ∧ s.fab.repl = none)
    ∧ (∃ (s : State), s.nextPacket 4 = none)
    ∧ (∃ (r : Repl) (s : State), s.fab.repl = some r ∧ r.phase = 2 ∧ 500000 * s.get Fld.FAB_REPL_TIME_REPL_WAIT_MS ≤ s.since r.since ∧
        (s.boxDevices (s.itemRset (replItem r.load))).filter (fun a => !r.ok.contains a) ≠ [] ∧
        r.tries < s.get Fld.FAB_REPL_CTL_REPL_RETRY)
    ∧ (∃ (r : Repl) (s : State), s.fab.repl = some r ∧ r.phase = 2 ∧ 500000 * s.get Fld.FAB_REPL_TIME_REPL_WAIT_MS ≤ s.since r.since ∧
        ((s.boxDevices (s.itemRset (replItem r.load))).filter (fun a => !r.ok.contains a) = [] ∨ s.get Fld.FAB_REPL_CTL_REPL_RETRY ≤ r.tries))
    ∧ (∃ (s : State),
        s.fab.repl.all (fun r => r.phase != 2 || Nat.blt (s.since r.since) (500000 * s.get Fld.FAB_REPL_TIME_REPL_WAIT_MS)) = true)
    ∧ (∃ (p : Packet) (s : State), s.fab.endpoint.head? = some p ∧ p.ptype = 5 ∧
        s.pullAnswer (byteAt p.payload 0) (byteAt p.payload 1) (le p.payload 4 4) = []) :=
  ⟨⟨wRepl, { wFab.set Fld.FAB_STATE_ORIGIN 1 with fab := { wFab.fab with queue := [wRepl] } }, by decide +kernel, by decide +kernel,
     by decide +kernel, by decide +kernel, by decide +kernel⟩,
   ⟨⟨wRepl, 3, 0, 0, []⟩, { wFab.set Fld.FAB_STATE_ORIGIN 1 with fab := { wFab.fab with repl := some ⟨wRepl, 3, 0, 0, []⟩ } },
     by decide +kernel, by decide +kernel, by decide +kernel, by decide +kernel, by decide +kernel⟩,
   ⟨State.reset, by decide +kernel⟩,
   ⟨State.reset, by decide +kernel, by decide +kernel⟩,
   ⟨{ wFab.set Fld.FAB_STATE_ORIGIN 1 with fab := { wFab.fab with repl := some ⟨wRepl, 2, 0, 0, []⟩ } }, by decide +kernel⟩,
   ⟨wPacket 4 (toLe 8 0), ⟨wRepl, 2, 0, 0, []⟩,
     { wGot 4 (toLe 8 0) with fab := { (wGot 4 (toLe 8 0)).fab with repl := some ⟨wRepl, 2, 0, 0, []⟩ } }, by decide +kernel,
     by decide +kernel, by decide +kernel⟩,
   ⟨wPacket 4 (toLe 8 0), wGot 4 (toLe 8 0), by decide +kernel, by decide +kernel, by decide +kernel⟩,
   ⟨State.reset, by decide +kernel⟩,
   ⟨⟨wRepl, 2, 0, 0, []⟩, { wFab with now := 10 ^ 9, fab := { wFab.fab with repl := some ⟨wRepl, 2, 0, 0, []⟩ } }, by decide +kernel,
     by decide +kernel, by decide +kernel, by decide +kernel, by decide +kernel⟩,
   ⟨⟨wRepl, 2, 0, 2, [16]⟩, { wFab with now := 10 ^ 9, fab := { wFab.fab with repl := some ⟨wRepl, 2, 0, 2, [16]⟩ } }, by decide +kernel,
     by decide +kernel, by decide +kernel, by decide +kernel⟩,
   ⟨{ wFab with fab := { wFab.fab with repl := some ⟨wRepl, 2, 0, 0, []⟩ } }, by decide +kernel⟩,
   ⟨wPacket 5 ([2, 0, 0, 0, 0, 0, 0, 0]), wGot 5 ([2, 0, 0, 0, 0, 0, 0, 0]), by decide +kernel, by decide +kernel, by decide +kernel⟩⟩

theorem test_origin_replicates_2 :
    (∃ (p : Packet) (s : State), s.fab.endpoint.head? = some p ∧ p.ptype = 5 ∧
        s.pullAnswer (byteAt p.payload 0) (byteAt p.payload 1) (le p.payload 4 4) ≠ [])
    ∧ (∃ (s : State), s.nextPacket 5 = none)
    ∧ (∃ (k : Nat) (s : State), s.flag Fld.FAB_STATE_ORIGIN = true ∧ s.inFabric = true ∧ s.stopped = false ∧ s.fab.catalog = some k ∧
        500000 * s.get Fld.FAB_REPL_TIME_CATALOG_MS ≤ s.since k)
    ∧ (∃ (s : State), (s.flag Fld.FAB_STATE_ORIGIN = false ∨ s.inFabric = false ∨ s.stopped = true ∨ s.fab.catalog.all (fun k => Nat.blt (s.since k) (500000 * s.get Fld.FAB_REPL_TIME_CATALOG_MS)) = true)) :=
  ⟨⟨wPacket 5 ([2, 0, 0, 0, 0, 0, 0, 0]),
     { wGot 5 [2, 0, 0, 0, 0, 0, 0, 0] with fab := { (wGot 5 [2, 0, 0, 0, 0, 0, 0, 0]).fab with kept := [wRepl] } }, by decide +kernel,
     by decide +kernel, by decide +kernel⟩,
   ⟨State.reset, by decide +kernel⟩,
   ⟨0, { { wFab.set Fld.FAB_STATE_ORIGIN 1 with fab := { wFab.fab with catalog := some 0 } } with now := 10 ^ 9 }, by decide +kernel,
     by decide +kernel, by decide +kernel, by decide +kernel, by decide +kernel⟩,
   ⟨State.reset, by decide +kernel⟩⟩

theorem test_rounds_arrive_1 :
    (∃ (p : Packet) (s : State), s.fab.endpoint.head? = some p ∧ p.ptype = 1 ∧ s.round? p.xfer = none ∧
        (s.stageRoom (le p.payload 16 8)).isSome = true)
    ∧ (∃ (p : Packet) (s : State), s.fab.endpoint.head? = some p ∧ p.ptype = 1 ∧ s.round? p.xfer = none ∧
        (s.stageRoom (le p.payload 16 8)).isSome = false)
    ∧ (∃ (p : Packet) (s : State), s.fab.endpoint.head? = some p ∧ p.ptype = 1 ∧ (s.round? p.xfer).isSome = true)
    ∧ (∃ (s : State), s.nextPacket 1 = none)
    ∧ (∃ (p : Packet) (s : State), s.fab.endpoint.head? = some p ∧ p.ptype = 2 ∧ s.round? p.xfer = none)
    ∧ (∃ (p : Packet) (r : Round) (s : State), s.fab.endpoint.head? = some p ∧ p.ptype = 2 ∧ s.round? p.xfer = some r ∧
        p.offset + p.payload.length ≤ r.totalLen ∧ r.parts.contains (p.offset, p.payload.length) = false ∧ r.ended = none)
    ∧ (∃ (s : State), s.nextPacket 2 = none)
    ∧ (∃ (p : Packet) (r : Round) (s : State), s.fab.endpoint.head? = some p ∧ p.ptype = 3 ∧ s.round? p.xfer = some r ∧
        roundWhole r = false)
    ∧ (∃ (p : Packet) (r : Round) (k : ContentKind) (s : State), s.fab.endpoint.head? = some p ∧ p.ptype = 3 ∧ s.round? p.xfer = some r ∧
        roundWhole r = true ∧ kindOfCode r.load.kind = some k ∧ r.load.index < kindSize k ∧
        (k ≠ .table ∨ s.flag (Fld.VIT_TABLE_CFG_EN r.load.index) = true) ∧ (k ≠ .graph ∨ s.hasGeometry r.load.index = true) ∧
        s.itemVersion k r.load.index ≠ r.load.version ∧ s.host.loads.any (fun l => l.source == .round r.load.replId) = false)
    ∧ (∃ (p : Packet) (r : Round) (k : ContentKind) (s : State), s.fab.endpoint.head? = some p ∧ p.ptype = 3 ∧ s.round? p.xfer = some r ∧
        roundWhole r = true ∧ kindOfCode r.load.kind = some k ∧ r.load.index < kindSize k ∧
        (k ≠ .table ∨ s.flag (Fld.VIT_TABLE_CFG_EN r.load.index) = true) ∧ (k ≠ .graph ∨ s.hasGeometry r.load.index = true) ∧
        s.itemVersion k r.load.index = r.load.version)
    ∧ (∃ (p : Packet) (r : Round) (s : State), s.fab.endpoint.head? = some p ∧ p.ptype = 3 ∧ s.round? p.xfer = some r ∧
        roundWhole r = true ∧ kindOfCode r.load.kind = none)
    ∧ (∃ (s : State), s.nextPacket 3 = none) :=
  ⟨⟨wPacket 1 (([2, 0, 0, 0] ++ toLe 4 1 ++ toLe 4 0 ++ toLe 4 1 ++ toLe 8 2 ++ zeros 52)), (wGot 1 (([2, 0, 0,
     0] ++ toLe 4 1 ++ toLe 4 0 ++ toLe 4 1 ++ toLe 8 2 ++ zeros 52))).set (Fld.IMG_HBM_REGION 4) 1, by decide +kernel, by decide +kernel,
     by decide +kernel, by decide +kernel⟩,
   ⟨wPacket 1 (([2, 0, 0, 0] ++ toLe 4 1 ++ toLe 4 0 ++ toLe 4 1 ++ toLe 8 (2 ^ 62) ++ zeros 52)), wGot 1 (([2, 0, 0,
     0] ++ toLe 4 1 ++ toLe 4 0 ++ toLe 4 1 ++ toLe 8 (2 ^ 62) ++ zeros 52)), by decide +kernel, by decide +kernel, by decide +kernel,
     by decide +kernel⟩,
   ⟨wPacket 1 (([2, 0, 0, 0] ++ toLe 4 1 ++ toLe 4 0 ++ toLe 4 1 ++ toLe 8 2 ++ zeros 52)),
     { wGot 1 (([2, 0, 0, 0] ++ toLe 4 1 ++ toLe 4 0 ++ toLe 4 1 ++ toLe 8 2 ++ zeros 52)) with fab := { (wGot 1 (([2, 0, 0, 0] ++ toLe 4 1 ++ toLe 4 0 ++ toLe 4 1 ++ toLe 8 2 ++ zeros 52))).fab with rounds := [⟨16, 0, ⟨0, 2, 0, 1, 0, zeros 48, zeros 2⟩, 2, [], none⟩] } },
     by decide +kernel, by decide +kernel, by decide +kernel⟩,
   ⟨State.reset, by decide +kernel⟩,
   ⟨wPacket 2 ([7, 8]), wGot 2 ([7, 8]), by decide +kernel, by decide +kernel, by decide +kernel⟩,
   ⟨wPacket 2 ([7, 8]), ⟨16, 0, ⟨0, 2, 0, 1, 0, zeros 48, zeros 2⟩, 2, [], none⟩,
     { wGot 2 ([7, 8]) with fab := { (wGot 2 ([7, 8])).fab with rounds := [⟨16, 0, ⟨0, 2, 0, 1, 0, zeros 48, zeros 2⟩, 2, [], none⟩] } },
     by decide +kernel, by decide +kernel, by decide +kernel, by decide +kernel, by decide +kernel, by decide +kernel⟩,
   ⟨State.reset, by decide +kernel⟩,
   ⟨wPacket 3 ([1, 0, 0, 0]), ⟨16, 0, ⟨0, 2, 0, 1, 0, zeros 48, zeros 2⟩, 2, [], none⟩,
     { wGot 3 ([1, 0, 0, 0]) with fab := { (wGot 3 ([1, 0, 0, 0])).fab with rounds := [⟨16, 0, ⟨0, 2, 0, 1, 0, zeros 48, zeros 2⟩, 2, [], none⟩] } },
     by decide +kernel, by decide +kernel, by decide +kernel, by decide +kernel⟩,
   ⟨wPacket 3 ([1, 0, 0, 0]), ⟨16, 0, ⟨0, 2, 0, 1, 0, zeros 48, zeros 2⟩, 2, [(0, 2)], none⟩, .vocabulary,
     { wGot 3 ([1, 0, 0, 0]) with fab := { (wGot 3 ([1, 0, 0, 0])).fab with rounds := [⟨16, 0, ⟨0, 2, 0, 1, 0, zeros 48, zeros 2⟩, 2, [(0, 2)], none⟩] } },
     by decide +kernel, by decide +kernel, by decide +kernel, by decide +kernel, by decide +kernel, by decide +kernel, by decide +kernel,
     by decide +kernel, by decide +kernel, by decide +kernel⟩,
   ⟨wPacket 3 ([1, 0, 0, 0]), ⟨16, 0, ⟨0, 2, 0, 0, 0, zeros 48, zeros 2⟩, 2, [(0, 2)], none⟩, .vocabulary,
     { wGot 3 ([1, 0, 0, 0]) with fab := { (wGot 3 ([1, 0, 0, 0])).fab with rounds := [⟨16, 0, ⟨0, 2, 0, 0, 0, zeros 48, zeros 2⟩, 2, [(0, 2)], none⟩] } },
     by decide +kernel, by decide +kernel, by decide +kernel, by decide +kernel, by decide +kernel, by decide +kernel, by decide +kernel,
     by decide +kernel, by decide +kernel⟩,
   ⟨wPacket 3 ([1, 0, 0, 0]), ⟨16, 0, ⟨0, 9, 0, 1, 0, zeros 48, zeros 2⟩, 2, [(0, 2)], none⟩,
     { wGot 3 ([1, 0, 0, 0]) with fab := { (wGot 3 ([1, 0, 0, 0])).fab with rounds := [⟨16, 0, ⟨0, 9, 0, 1, 0, zeros 48, zeros 2⟩, 2, [(0, 2)], none⟩] } },
     by decide +kernel, by decide +kernel, by decide +kernel, by decide +kernel, by decide +kernel⟩,
   ⟨State.reset, by decide +kernel⟩⟩

theorem test_rounds_arrive_2 :
    (∃ (replId : Word) (r : Round) (k : Nat) (s : State), s.round? replId.toNat = some r ∧ r.ended = some k ∧ roundWhole r = false ∧
        500000 ≤ s.since k)
    ∧ (∃ (replId : Word) (s : State), (s.round? replId.toNat).all (fun r => roundWhole r || r.ended.all (fun k => Nat.blt (s.since k) 500000)) = true)
    ∧ (∃ (p : Packet) (s : State), s.fab.endpoint.head? = some p ∧ p.ptype = 7)
    ∧ (∃ (s : State), s.nextPacket 7 = none)
    ∧ (∃ (item : Fin 180) (s : State), s.inFabric = true ∧ s.stopped = false ∧ s.flag Fld.FAB_STATE_ORIGIN = false ∧
        (Tab.get? s.fab.below item.val).isSome = true ∧
        (Tab.get? s.fab.pulls item.val).all (fun k => Nat.ble 50000000 (s.since k)) = true)
    ∧ (∃ (item : Fin 180) (s : State), (s.inFabric = false ∨ s.stopped = true ∨ s.flag Fld.FAB_STATE_ORIGIN = true ∨ Tab.get? s.fab.below item.val = none ∨ (Tab.get? s.fab.pulls item.val).any (fun k => Nat.blt (s.since k) 50000000) = true))
    ∧ (∃ (p : Packet) (k : ContentKind) (s : State), s.fab.endpoint.head? = some p ∧ p.ptype = 6 ∧
        kindOfCode (byteAt p.payload 0) = some k)
    ∧ (∃ (p : Packet) (s : State), s.fab.endpoint.head? = some p ∧ p.ptype = 6 ∧ kindOfCode (byteAt p.payload 0) = none)
    ∧ (∃ (s : State), s.nextPacket 6 = none) :=
  ⟨⟨0, ⟨16, 0, ⟨0, 2, 0, 1, 0, zeros 48, zeros 2⟩, 2, [], some 0⟩, 0,
     { wFab with now := 500000, fab := { wFab.fab with rounds := [⟨16, 0, ⟨0, 2, 0, 1, 0, zeros 48, zeros 2⟩, 2, [], some 0⟩] } },
     by decide +kernel, by decide +kernel, by decide +kernel, by decide +kernel⟩,
   ⟨0, { wFab with fab := { wFab.fab with rounds := [⟨16, 0, ⟨0, 2, 0, 1, 0, zeros 48, zeros 2⟩, 2, [], some 0⟩] } }, by decide +kernel⟩,
   ⟨wPacket 7 ([1, 0, 0, 0, 2, 0, 0, 0, 5, 0, 0, 0]), wGot 7 ([1, 0, 0, 0, 2, 0, 0, 0, 5, 0, 0, 0]), by decide +kernel, by decide +kernel⟩,
   ⟨State.reset, by decide +kernel⟩,
   ⟨3, { wFab with fab := { wFab.fab with below := [(3, 0)] } }, by decide +kernel, by decide +kernel, by decide +kernel, by decide +kernel,
     by decide +kernel⟩,
   ⟨3, State.reset, by decide +kernel⟩,
   ⟨wPacket 6 ([2, 0, 0, 0, 5, 0, 0, 0]), .vocabulary, wGot 6 ([2, 0, 0, 0, 5, 0, 0, 0]), by decide +kernel, by decide +kernel,
     by decide +kernel⟩,
   ⟨wPacket 6 ([9, 0, 0, 0, 5, 0, 0, 0]), wGot 6 ([9, 0, 0, 0, 5, 0, 0, 0]), by decide +kernel, by decide +kernel, by decide +kernel⟩,
   ⟨State.reset, by decide +kernel⟩⟩

theorem test_packets_acked_1 :
    (∃ (p : Packet) (s : State), s.fab.endpoint.head? = some p ∧ p.ptype = 12)
    ∧ (∃ (s : State), s.nextPacket 12 = none)
    ∧ (∃ (p : Packet) (f : Flow) (s : State), regFileWf s.reg = true ∧ s.fab.endpoint.head? = some p ∧ p.ptype = 13 ∧
        s.flow? p.src = some f ∧ f.lastDec.all (fun k => Nat.ble (500 * s.get Fld.FAB_RATE_B_DEC_GAP_US) (s.since k)) = true)
    ∧ (∃ (p : Packet) (s : State), s.fab.endpoint.head? = some p ∧ p.ptype = 13 ∧
        (s.flow? p.src).all (fun f => f.lastDec.any (fun k => Nat.blt (s.since k) (500 * s.get Fld.FAB_RATE_B_DEC_GAP_US))) = true)
    ∧ (∃ (s : State), s.nextPacket 13 = none)
    ∧ (∃ (node : BitVec 16) (f : Flow) (s : State), s.flow? node.toNat = some f ∧ 500 * s.get Fld.FAB_RATE_B_INC_US ≤ s.since f.incTick)
    ∧ (∃ (node : BitVec 16) (s : State), (s.flow? node.toNat).all (fun f => Nat.blt (s.since f.incTick) (500 * s.get Fld.FAB_RATE_B_INC_US)) = true)
    ∧ (∃ (node : BitVec 16) (f : Flow) (s : State), s.flow? node.toNat = some f ∧ 500000 ≤ s.since f.lastSend)
    ∧ (∃ (node : BitVec 16) (s : State), (s.flow? node.toNat).all (fun f => Nat.blt (s.since f.lastSend) 500000) = true)
    ∧ (∃ (msgId : Word) (u : Unacked) (s : State), s.fab.unacked.find? (fun u => u.packet.msgId == msgId.toNat) = some u ∧
        100000 ≤ s.since u.sent ∧ u.tries < 3)
    ∧ (∃ (msgId : Word) (u : Unacked) (s : State), regFileWf s.reg = true ∧
        s.fab.unacked.find? (fun u => u.packet.msgId == msgId.toNat) = some u ∧ 100000 ≤ s.since u.sent ∧ 3 ≤ u.tries)
    ∧ (∃ (msgId : Word) (s : State), (s.fab.unacked.find? (fun u => u.packet.msgId == msgId.toNat)).all (fun u => Nat.blt (s.since u.sent) 100000) = true) :=
  ⟨⟨wPacket 12 ([5, 0, 0, 0]),
     { wGot 12 ([5, 0, 0, 0]) with fab := { (wGot 12 ([5, 0, 0, 0])).fab with unacked := [⟨{ wPacket 1 [] with msgId := 5, dest := 16 }, 0, 0⟩] } },
     by decide +kernel, by decide +kernel⟩,
   ⟨State.reset, by decide +kernel⟩,
   ⟨wPacket 13 ([]), wFlow, { wGot 13 ([]) with fab := { (wGot 13 ([])).fab with flows := [wFlow] } }, by decide +kernel, by decide +kernel,
     by decide +kernel, by decide +kernel, by decide +kernel⟩,
   ⟨wPacket 13 ([]), wGot 13 ([]), by decide +kernel, by decide +kernel, by decide +kernel⟩,
   ⟨State.reset, by decide +kernel⟩,
   ⟨16, wFlow, { wFab with now := 60000, fab := { wFab.fab with flows := [wFlow] } }, by decide +kernel, by decide +kernel⟩,
   ⟨16, State.reset, by decide +kernel⟩,
   ⟨16, wFlow, { wFab with now := 500000, fab := { wFab.fab with flows := [wFlow] } }, by decide +kernel, by decide +kernel⟩,
   ⟨16, State.reset, by decide +kernel⟩,
   ⟨5, ⟨{ wPacket 1 [] with msgId := 5, dest := 16 }, 0, 0⟩,
     { wFab with now := 100000, fab := { wFab.fab with unacked := [⟨{ wPacket 1 [] with msgId := 5, dest := 16 }, 0, 0⟩] } },
     by decide +kernel, by decide +kernel, by decide +kernel⟩,
   ⟨5, ⟨{ wPacket 1 [] with msgId := 5, dest := 16 }, 0, 3⟩,
     { wFab with now := 100000, fab := { wFab.fab with unacked := [⟨{ wPacket 1 [] with msgId := 5, dest := 16 }, 0, 3⟩] } },
     by decide +kernel, by decide +kernel, by decide +kernel, by decide +kernel⟩,
   ⟨5, State.reset, by decide +kernel⟩⟩

theorem test_packets_acked_2 :
    (∃ (index : Nat) (x : Transit) (s : State), s.fab.transits[index]? = some x ∧ s.get Fld.FAB_ESC ≤ 2 * s.since x.since)
    ∧ (∃ (index : Nat) (x : Transit) (s : State), s.fab.transits[index]? = some x ∧ 2 * s.since x.since < s.get Fld.FAB_ESC)
    ∧ (∃ (index : Nat) (s : State), s.fab.transits[index]? = none) :=
  ⟨⟨0, ⟨{ wPacket 1 [] with dest := 16 }, true, none, 0⟩,
     { wFab with now := 1000, fab := { wFab.fab with transits := [⟨{ wPacket 1 [] with dest := 16 }, true, none, 0⟩] } },
     by decide +kernel, by decide +kernel⟩,
   ⟨0, ⟨{ wPacket 1 [] with dest := 16 }, true, none, 0⟩,
     { wFab with now := 0, fab := { wFab.fab with transits := [⟨{ wPacket 1 [] with dest := 16 }, true, none, 0⟩] } }, by decide +kernel,
     by decide +kernel⟩,
   ⟨0, State.reset, by decide +kernel⟩⟩

theorem test_causeways_and_peers_1 :
    (∃ (causeway : Fin 64) (e : Bytes) (s : State), s.cwEntry causeway.val = some e ∧ s.inFabric = true ∧ s.stopped = false ∧
        le e 2 2 = s.node ∧ (s.causeway causeway.val).state ≠ 2 ∧
        ((s.causeway causeway.val).state = 0 ∨ 50000000 ≤ s.since (s.causeway causeway.val).setup) ∧ s.portIsUp (byteAt e 4) = true)
    ∧ (∃ (causeway : Fin 64) (s : State), (s.cwEntry causeway.val = none ∨ s.inFabric = false ∨ s.stopped = true ∨ (s.causeway causeway.val).state = 2 ∨ ((s.causeway causeway.val).state ≠ 0 ∧
        s.since (s.causeway causeway.val).setup < 50000000)))
    ∧ (∃ (p : Packet) (e : Bytes) (s : State), s.fab.endpoint.head? = some p ∧ p.ptype = 14 ∧ s.cwEntry (byteAt p.payload 0) = some e ∧
        ((cwPath s.man e).getD []).getLast? = some s.node)
    ∧ (∃ (p : Packet) (e : Bytes) (s : State), s.fab.endpoint.head? = some p ∧ p.ptype = 14 ∧ s.cwEntry (byteAt p.payload 0) = some e ∧
        ((cwPath s.man e).getD []).getLast? ≠ some s.node ∧ s.cwNext e ≠ none ∧ s.portIsUp (byteAt e 4) = true)
    ∧ (∃ (p : Packet) (s : State), s.fab.endpoint.head? = some p ∧ p.ptype = 14 ∧ s.cwEntry (byteAt p.payload 0) = none)
    ∧ (∃ (s : State), s.nextPacket 14 = none)
    ∧ (∃ (p : Packet) (s : State), s.fab.endpoint.head? = some p ∧ p.ptype = 15 ∧ (s.causeway (byteAt p.payload 0)).state = 1)
    ∧ (∃ (p : Packet) (s : State), s.fab.endpoint.head? = some p ∧ p.ptype = 15 ∧ (s.causeway (byteAt p.payload 0)).state ≠ 1)
    ∧ (∃ (s : State), s.nextPacket 15 = none)
    ∧ (∃ (p : Packet) (s : State), s.fab.endpoint.head? = some p ∧ p.ptype = 16 ∧
        ((s.causeway (byteAt p.payload 0)).state = 1 ∨ (s.causeway (byteAt p.payload 0)).state = 2))
    ∧ (∃ (p : Packet) (s : State), s.fab.endpoint.head? = some p ∧ p.ptype = 16 ∧ (s.causeway (byteAt p.payload 0)).state ≠ 1 ∧
        (s.causeway (byteAt p.payload 0)).state ≠ 2)
    ∧ (∃ (s : State), s.nextPacket 16 = none) :=
  ⟨⟨0, [0, 0, 0, 0, 2, 1, 0, 0, 1, 0, 0, 0, 0, 0, 0, 0], wFab, by decide +kernel, by decide +kernel, by decide +kernel, by decide +kernel,
     by decide +kernel, by decide +kernel, by decide +kernel⟩,
   ⟨0, State.reset, by decide +kernel⟩,
   ⟨wPacket 14 [0], [0, 0, 0, 0, 2, 1, 0, 0, 1, 0, 0, 0, 0, 0, 0, 0], (wGot 14 [0]).set Fld.FAB_STATE_NODE 16, by decide +kernel,
     by decide +kernel, by decide +kernel, by decide +kernel⟩,
   ⟨wPacket 14 ([0]), [0, 0, 0, 0, 2, 1, 0, 0, 1, 0, 0, 0, 0, 0, 0, 0], wGot 14 ([0]), by decide +kernel, by decide +kernel,
     by decide +kernel, by decide +kernel, by decide +kernel, by decide +kernel⟩,
   ⟨wPacket 14 ([9]), wGot 14 ([9]), by decide +kernel, by decide +kernel, by decide +kernel⟩,
   ⟨State.reset, by decide +kernel⟩,
   ⟨wPacket 15 ([0]), { wGot 15 ([0]) with fab := { (wGot 15 ([0])).fab with causeways := [(0, ⟨1, 0, true⟩)] } }, by decide +kernel,
     by decide +kernel, by decide +kernel⟩,
   ⟨wPacket 15 ([0]), wGot 15 ([0]), by decide +kernel, by decide +kernel, by decide +kernel⟩,
   ⟨State.reset, by decide +kernel⟩,
   ⟨wPacket 16 ([0]), { wGot 16 ([0]) with fab := { (wGot 16 ([0])).fab with causeways := [(0, ⟨2, 0, true⟩)] } }, by decide +kernel,
     by decide +kernel, by decide +kernel⟩,
   ⟨wPacket 16 ([0]), wGot 16 ([0]), by decide +kernel, by decide +kernel, by decide +kernel, by decide +kernel⟩,
   ⟨State.reset, by decide +kernel⟩⟩

theorem test_causeways_and_peers_2 :
    (∃ (p : Packet) (s : State), s.fab.endpoint.head? = some p ∧ p.ptype = 8 ∧ s.archiveRoom p.payload.length = true)
    ∧ (∃ (p : Packet) (s : State), s.fab.endpoint.head? = some p ∧ p.ptype = 8 ∧ s.archiveRoom p.payload.length = false)
    ∧ (∃ (s : State), s.nextPacket 8 = none)
    ∧ (∃ (p : Packet) (e : ArchEntry) (s : State), s.fab.endpoint.head? = some p ∧ p.ptype = 9 ∧
        s.storedFor p.src (le p.payload 0 4) = some e ∧ e.frameId = le p.payload 4 8 ∧ entryWhole e = true ∧
        e.expire.any (fun k => s.reached k) = false)
    ∧ (∃ (p : Packet) (s : State), s.fab.endpoint.head? = some p ∧ p.ptype = 9 ∧
        (s.storedFor p.src (le p.payload 0 4)).all (fun e => e.frameId != le p.payload 4 8 || !entryWhole e || e.expire.any (fun k => s.reached k)) = true)
    ∧ (∃ (s : State), s.nextPacket 9 = none)
    ∧ (∃ (p : Packet) (e : ArchEntry) (s : State), s.fab.endpoint.head? = some p ∧ p.ptype = 10 ∧ s.remoteEntry p.xfer = some e ∧
        p.offset + p.payload.length ≤ e.size)
    ∧ (∃ (p : Packet) (s : State), s.fab.endpoint.head? = some p ∧ p.ptype = 10 ∧
        (s.remoteEntry p.xfer).all (fun e => Nat.blt e.size (p.offset + p.payload.length)) = true)
    ∧ (∃ (s : State), s.nextPacket 10 = none)
    ∧ (∃ (p : Packet) (e : ArchEntry) (r : Request) (k : Nat) (s : State), regFileWf s.reg = true ∧ s.fab.endpoint.head? = some p ∧
        p.ptype = 11 ∧ s.remoteEntry (le p.payload 0 4) = some e ∧ s.entryRequest e.key = some r ∧ r.place = .moving k ∧
        le p.payload 4 4 = 0 ∧ r.state ≠ .ended)
    ∧ (∃ (p : Packet) (e : ArchEntry) (r : Request) (k : Nat) (s : State), s.fab.endpoint.head? = some p ∧ p.ptype = 11 ∧
        s.remoteEntry (le p.payload 0 4) = some e ∧ s.entryRequest e.key = some r ∧ r.place = .moving k ∧ le p.payload 4 4 = 1)
    ∧ (∃ (p : Packet) (e : ArchEntry) (r : Request) (k : Nat) (n : Nat) (s : State), s.fab.endpoint.head? = some p ∧ p.ptype = 11 ∧
        s.remoteEntry (le p.payload 0 4) = some e ∧ s.entryRequest e.key = some r ∧ r.place = .reading k n ∧ le p.payload 4 4 = 2) :=
  ⟨⟨wPacket 8 ([7, 8]), (wGot 8 [7, 8]).set Fld.SRV_ARCH_SIZE 64, by decide +kernel, by decide +kernel, by decide +kernel⟩,
   ⟨wPacket 8 ([7, 8]), wGot 8 ([7, 8]), by decide +kernel, by decide +kernel, by decide +kernel⟩,
   ⟨State.reset, by decide +kernel⟩,
   ⟨wPacket 9 (toLe 4 0 ++ toLe 8 9), ⟨0, 0, 9, zeros 16, 3, [0], 0, 2, false, none, some 16, [7, 8], [(0, 2)]⟩,
     { wGot 9 (toLe 4 0 ++ toLe 8 9) with srv := { Guard.reset with requests := [], archive := [⟨0, 0, 9, zeros 16, 3, [0], 0, 2, false, none, some 16, [7, 8], [(0, 2)]⟩], nextEntry := 1 } },
     by decide +kernel, by decide +kernel, by decide +kernel, by decide +kernel, by decide +kernel, by decide +kernel⟩,
   ⟨wPacket 9 (toLe 4 0 ++ toLe 8 9), wGot 9 (toLe 4 0 ++ toLe 8 9), by decide +kernel, by decide +kernel, by decide +kernel⟩,
   ⟨State.reset, by decide +kernel⟩,
   ⟨wPacket 10 ([7, 8]), ⟨0, 0, 9, zeros 16, 3, [0], 0, 72, true, none, none, [], []⟩,
     { wGot 10 ([7, 8]) with srv := { Guard.reset with requests := [], archive := [⟨0, 0, 9, zeros 16, 3, [0], 0, 72, true, none, none, [], []⟩], nextEntry := 1 } },
     by decide +kernel, by decide +kernel, by decide +kernel, by decide +kernel⟩,
   ⟨wPacket 10 ([7, 8]), wGot 10 ([7, 8]), by decide +kernel, by decide +kernel, by decide +kernel⟩,
   ⟨State.reset, by decide +kernel⟩,
   ⟨wPacket 11 (toLe 8 0), ⟨0, 0, 9, zeros 16, 3, [0], 0, 72, true, none, none, [], []⟩, { wPaused with place := .moving 0 }, 0,
     { wGot 11 (toLe 8 0) with srv := { Guard.reset with requests := [{ wPaused with place := .moving 0 }], archive := [⟨0, 0, 9, zeros 16, 3, [0], 0, 72, true, none, none, [], []⟩], nextEntry := 1 } },
     by decide +kernel, by decide +kernel, by decide +kernel, by decide +kernel, by decide +kernel, by decide +kernel, by decide +kernel,
     by decide +kernel⟩,
   ⟨wPacket 11 (toLe 4 0 ++ toLe 4 1), ⟨0, 0, 9, zeros 16, 3, [0], 0, 72, true, none, none, [], []⟩, { wPaused with place := .moving 0 }, 0,
     { wGot 11 (toLe 4 0 ++ toLe 4 1) with srv := { Guard.reset with requests := [{ wPaused with place := .moving 0 }], archive := [⟨0, 0, 9, zeros 16, 3, [0], 0, 72, true, none, none, [], []⟩], nextEntry := 1 } },
     by decide +kernel, by decide +kernel, by decide +kernel, by decide +kernel, by decide +kernel, by decide +kernel⟩,
   ⟨wPacket 11 (toLe 4 0 ++ toLe 4 2), ⟨0, 0, 9, zeros 16, 3, [0], 0, 72, true, none, none, [], []⟩, { wPaused with place := .reading 0 5 },
     0, 5,
     { wGot 11 (toLe 4 0 ++ toLe 4 2) with srv := { Guard.reset with requests := [{ wPaused with place := .reading 0 5 }], archive := [⟨0, 0, 9, zeros 16, 3, [0], 0, 72, true, none, none, [], []⟩], nextEntry := 1 } },
     by decide +kernel, by decide +kernel, by decide +kernel, by decide +kernel, by decide +kernel, by decide +kernel⟩⟩

theorem test_causeways_and_peers_3 :
    (∃ (p : Packet) (s : State), s.fab.endpoint.head? = some p ∧ p.ptype = 11 ∧ s.remoteEntry (le p.payload 0 4) = none)
    ∧ (∃ (s : State), s.nextPacket 11 = none) :=
  ⟨⟨wPacket 11 (toLe 8 0), wGot 11 (toLe 8 0), by decide +kernel, by decide +kernel, by decide +kernel⟩,
   ⟨State.reset, by decide +kernel⟩⟩

/-! The statements without clauses of commands: states and operands that meet their hypotheses. -/

theorem test_step_runs_the_front :
    (∃ (c : Instr) (rest : List Instr) (s : State), s.pending = c :: rest) :=
  ⟨.getTid, [.vaonFall], { wOn with pending := [.getTid, .vaonFall] }, rfl⟩

theorem test_empty_queue_is_time :
    (∃ s : State, s.pending = [] ∧ s.img.vaon = true) ∧ (∃ s : State, s.pending = [] ∧ s.img.vaon = false) :=
  ⟨⟨wOn, rfl, rfl⟩, ⟨State.reset, rfl, rfl⟩⟩

theorem test_invariant_kept : ∃ s t : State, s.Inv ∧ step s = .next t :=
  ⟨{ wOn with pending := [.getTid] }, _, ⟨by decide +kernel, by decide +kernel, by decide +kernel, by decide +kernel⟩, rfl⟩

theorem test_commands_keep_queue_and_log : ∃ (c : Instr) (s t : State), exec c s = .next t := ⟨.getTid, wOn, _, rfl⟩

theorem test_nvm_address_ends :
    ∃ s : State, s.img.boot = .fail ∧ nvmSize ≤ s.recPlace.2 ∧ exec .recProgramPage s = .fault .noSuchAddress :=
  ⟨(wBoot .fail).set Fld.IMG_REC_ADDR 0x21010000, by decide +kernel, by decide +kernel, rfl⟩

theorem test_wheel_shares_kept : ∃ shares : List Nat, sumBy shares (fun a => a) ≤ 256 ∧ sumBy shares (fun a => a) = 256 ∧ 1 < shares.length :=
  ⟨[1, 255], by decide⟩

theorem test_sensor_conversion : ∃ (s : State) (trims : Bytes) (r : Nat), s.pwr.trims = some trims ∧ r < 2 ^ 12 :=
  ⟨{ wOn with pwr := { Power.reset with trims := some (zeros 6324) } }, zeros 6324, 4095, rfl, by decide⟩

theorem test_no_jump_while_serving :
    ∃ (c : Instr) (s t : State), s.img.vaon = true ∧ exec c s = .next t ∧ (∃ x ∈ t.strands, x.state = .serving ∨ x.state = .draining) :=
  ⟨.getTid, wOn.modStrand 3 (fun x => { x with state := .serving }), _, rfl, rfl, by decide +kernel⟩

/-! Commands that are not well formed. -/

theorem test_wf_engine :
    Instr.wf (.wheelSlot .intake 4) = false ∧ Instr.wf (.wheelSlot .intake 3) = true ∧ Instr.wf (.unitTimeout .arbor 8) = false
      ∧ Instr.wf (.unitTimeout .arbor 7) = true := by decide
theorem test_wf_otp : Instr.wf (.otpSensed { wOtp with deviceId := [] }) = false ∧ Instr.wf (.otpSensed wOtp) = true := by decide
theorem test_wf_otp_revoked :
    Instr.wf (.otpSensed { wOtp with ecRevoked := 16 }) = false ∧ Instr.wf (.otpSensed { wOtp with mlDigests := [] }) = false
      ∧ Instr.wf (.otpSensed { wOtp with pathDelays := [1] }) = false := by decide
theorem test_wf_train :
    Instr.wf (.trainFlitRx 0 wHead ⟨16, 3, false, true, 0, 0, zeros 15, zeros 8, 0, 0, 0⟩) = false
      ∧ Instr.wf (.trainFlitRx 0 wHead ⟨16, 3, false, true, 0, 0, zeros 16, zeros 8, 0, 0, 0⟩) = true := by decide
theorem test_wf_payload :
    Instr.wf (.dataFlitRx 0 wHead 0 true true 0 []) = false ∧ Instr.wf (.dataFlitRx 0 wHead 0 true true 0 (zeros 245)) = false
      ∧ Instr.wf (.dataFlitRx 0 wHead 0 true true 0 (zeros 244)) = true := by decide +kernel
theorem test_wf_unit : Instr.wf (.globalApply [⟨.strand, 32⟩] false) = false ∧ Instr.wf (.globalApply [⟨.strand, 31⟩] false) = true := by
  decide
theorem test_wf_conversion :
    Instr.wf (.thermalConversion (List.replicate 39 0) (List.replicate 6 0)) = false
      ∧ Instr.wf (.thermalConversion (List.replicate 40 0) (List.replicate 6 0)) = true := by decide
theorem test_wf_window : Instr.wf (.laneWindowDone 0 [1, 2, 3] [0, 0, 0, 0]) = false ∧ Instr.wf (.laneWindowDone 0 [1, 2, 3, 4] [0, 0, 0, 0]) = true := by
  decide
theorem test_wf_program :
    Instr.wf (.imgProgram 0 ⟨0, false, 0, 6⟩ 1 0 256 (some (zeros 255)) false) = false
      ∧ Instr.wf (.imgProgram 0 ⟨0, false, 0, 6⟩ 1 0 256 (some (zeros 256)) false) = true := by decide +kernel
theorem test_wf_digest :
    Instr.wf (.clLoad 0 ⟨0, false, 0, 6⟩ (some ⟨0, 1, 0, 1, [], 0, zeros 47, true⟩)) = false
      ∧ Instr.wf (.clLoad 0 ⟨0, false, 0, 6⟩ (some ⟨0, 1, 0, 1, [], 0, zeros 48, true⟩)) = true := by decide
theorem test_wf_channels : Instr.wf (.ddrTrainingDone 1 3 true 0 1) = false ∧ Instr.wf (.ddrTrainingDone 3 3 true 0 1) = true := by decide
theorem test_wf_key : Instr.wf (.ideKmKeyProg 0 0 true false (zeros 31)) = false ∧ Instr.wf (.ideKmKeyProg 0 0 true false (zeros 32)) = true := by
  decide
theorem test_wf_errors : Instr.wf (.checkerLockLoss 0 1 2 0) = false ∧ Instr.wf (.checkerLockLoss 0 2 2 0) = true := by decide

/-! Numbers from the spec's worked examples, and the check values of the standards that it names. -/

/-- The bytes of "123456789". -/
def wDigits : Bytes := [49, 50, 51, 52, 53, 54, 55, 56, 57]

/-- The check values that the CRC catalogue gives for these polynomials. -/
theorem test_crc : crc32 wDigits = 0xCBF43926 ∧ crc32c wDigits = 0xE3069283 := by decide +kernel
/-- FIPS 180-4, "abc". -/
theorem test_sha :
    (sha256 [97, 98, 99]).take 8 = [0xBA, 0x78, 0x16, 0xBF, 0x8F, 0x01, 0xCF, 0xEA]
      ∧ (sha384 [97, 98, 99]).take 8 = [0xCB, 0x00, 0x75, 0x3F, 0x45, 0xA3, 0x5E, 0x8B] := by decide +kernel
/-- Worked example of chapter 13: distances across the wrap. -/
theorem test_seq_distance : seqDist 65533 65532 = 1 ∧ seqDist 19 65532 = 23 ∧ seqDist 65520 65533 = 65523 ∧ seqDist 2 65530 = 8 := by decide
/-- Worked example of chapter 14: addresses, flits of a fragment packet, directions of the retries. -/
theorem test_routes :
    nodeAt 1 1 0 = 0x0410 ∧ nodeAt 2 3 0 = 0x0830 ∧ nodeAt 3 0 0 = 0x0C00 ∧ packetFlits (newPacket 2 0 0 0 0 (zeros 16384)) = 68
      ∧ productive true 4 1 3 3 2 = [2] ∧ productive true 4 1 2 0 1 = [1] ∧ productive true 4 1 0 3 2 = [3] ∧ productive true 4 1 3 0 1 = [1] := by
  decide +kernel
/-- Worked example of chapter 5: the key of terminal "TRM04187". -/
theorem test_search_key :
    searchKey ⟨1, 1, 0, 8, none, [0x54, 0x52, 0x4D, 0x30, 0x34, 0x31, 0x38, 0x37]⟩ 1 5 = (0x0005000037383134304D5254, false) := by decide
/-- Worked example of chapter 7: features and the score as FP32. -/
theorem test_fp32 :
    intToF32 30 = 0x41F00000 ∧ intToF32 5076 = 0x459EA000 ∧ intToF32 12550 = 0x46441800 ∧ intToF32 1 = 0x3F800000
      ∧ scaledToF32 (-206072) 16 = 0xC0493E00 := by decide +kernel
/-- The same: the sigmoid's segment 77. -/
theorem test_fma : fFma 0x3D200000 0xC0493E00 0x3E280000 = 0x3D28E500 := by decide +kernel
/-- The ensemble of that example. -/
def wEns : Bytes :=
  let nodes := [0x4500000000010001, 0x00009C4000000400, 0x3F00000000030803, 0x00015F9000000400, 0xFFFF15A000000400,
    0x461C400000011002, 0xFFFFEC7800000400, 0x4100000000030000, 0x000124F800000400, 0xFFFFC56800000400]
  toLe 4 2 ++ [16, 1, 0, 0] ++ zeros 8 ++ toLe 8 0xFFFFFFFFFFFE0000 ++ zeros 120 ++ toLe 4 160 ++ toLe 4 176 ++ zeros 8 ++ toLe 8 0 ++ toLe 8 5
    ++ nodes.flatMap (toLe 8)
/-- Its features. -/
def wFeature (i : Nat) : Nat := [0x41F00000, 0x459EA000, 0x46441800, 0x3F800000].getD i nan32
theorem test_ensemble :
    (ensLeaves wEns wFeature).map (fun l => l.2.1) = [-60000, -15000] ∧ ensScores wEns (ensLeaves wEns wFeature) = [0xC0493E00] := by
  decide +kernel
/-- The amount in FP8 E4M3: 448. -/
theorem test_e4m3 : roundMag fmtE4M3 12550 0 false = 0x7E := by decide +kernel
/-- The redaction of chapter 10: "card 4417 0091 2345 6782 for" holds one number, at offsets 5 to 23. -/
theorem test_sentinel :
    scanField [] [0x63, 0x61, 0x72, 0x64, 0x20, 0x34, 0x34, 0x31, 0x37, 0x20, 0x30, 0x30, 0x39, 0x31, 0x20, 0x32, 0x33, 0x34, 0x35, 0x20,
      0x36, 0x37, 0x38, 0x32, 0x20, 0x66, 0x6F, 0x72] 0 = [[5, 6, 7, 8, 10, 11, 12, 13, 15, 16, 17, 18, 20, 21, 22, 23]] := by decide +kernel
/-- Worked example of chapter 3: reservations of 352 and of 160 bytes, MACsec's growth counted in. -/
theorem test_reservation : State.reset.reserveLen .n 352 = 4 ∧ State.reset.reserveLen .n 160 = 2 := by decide +kernel
/-- Worked example of chapter 1: the frame ID of Strand 4's 5,000th frame at node 0x0C54. -/
theorem test_frame_id : (State.reset.set Fld.FAB_STATE_NODE 0x0C54).frameId 4 4999 = 0x0C54200000001387 := by decide +kernel
/-- Worked example of chapter 16: sector 37, page 19. -/
theorem test_ledger_page : pageOff (37 * 256 + 19) = 0x20261300 := by decide
/-- Worked example of chapter 9: the completion's KEY of TAG 37, CMD_ID 0xA10C, OPCODE 0x10, STATUS 0. -/
theorem test_completion_key :
    completionKey ⟨2, ⟨0, false, 37, 0xA10C⟩, 0x10, 0, 0⟩ 0 = [0x0C, 0xA1, 0, 0, 37, 0, 0x10, 0] := by decide

end Sys2Proof.Tests
end

section
/-!
SUPPORT. The invariant of the device (O52, O53): it holds at reset, and no command changes the state otherwise than `Touches Part.every`
allows.
-/
namespace Sys2Proof.Machine

/-- A meaning that answers, seen among all the parts. -/
theorem Answers.withinEvery {ps : List Part} {s : State} {r : Res} (h : Answers ps s r) (hs : sub ps Part.every = true) :
    Stays Part.every s r := h.stays.mono hs

/-- Every command changes a part of the state only as `Part.grows` allows, and never the queue: each by the law of its meaning. -/
theorem exec_stays (c : Instr) (s : State) : Stays Part.every s (exec c s) := by
  cases c with
  | frameRx => exact (execFrameRx_answers ..).withinEvery rfl
  | intakeParseDone => exact (execIntakeParseDone_answers ..).withinEvery rfl
  | streamIdleTimeout => exact (execStreamIdleTimeout_answers ..).withinEvery rfl
  | wheelSlot => exact (execWheelSlot_answers ..).withinEvery rfl
  | catalogueUnitDone => exact (execCatalogueUnitDone_answers ..).withinEvery rfl
  | vitrineSearchResult => exact (execVitrineSearchResult_answers ..).withinEvery rfl
  | vitrineUpdateSlot => exact (execVitrineUpdateSlot_answers ..).withinEvery rfl
  | learnCommit => exact (execLearnCommit_answers ..).withinEvery rfl
  | agingSweep => exact (execAgingSweep_answers ..).withinEvery rfl
  | agingRemoval => exact (execAgingRemoval_answers ..).withinEvery rfl
  | scrubRead => exact (execScrubRead_answers ..).withinEvery rfl
  | tableBatchCommit => exact (execTableBatchCommit_answers ..).withinEvery rfl
  | stackSearchIssue => exact (execStackSearchIssue_answers ..).withinEvery rfl
  | searchRecordRx => exact (execSearchRecordRx_answers ..).withinEvery rfl
  | reqRecordRx => exact (execReqRecordRx_answers ..).withinEvery rfl
  | resultRecordRx => exact (execResultRecordRx_answers ..).withinEvery rfl
  | linkRecordRx => exact (execLinkRecordRx_answers ..).withinEvery rfl
  | reqTimeout => exact (execReqTimeout_answers ..).withinEvery rfl
  | matchWordRx => exact (execMatchWordRx_answers ..).withinEvery rfl
  | cascadeTimeout => exact (execCascadeTimeout_answers ..).withinEvery rfl
  | matchTrainingWord => exact (execMatchTrainingWord_answers ..).withinEvery rfl
  | gatherWalkStart => exact (execGatherWalkStart_answers ..).withinEvery rfl
  | gatherReadGrant => exact (execGatherReadGrant_answers ..).withinEvery rfl
  | gatherReadReturn => exact (execGatherReadReturn_answers ..).withinEvery rfl
  | gatherReadTimeout => exact (execGatherReadTimeout_answers ..).withinEvery rfl
  | creditBoundary => exact (execCreditBoundary_answers ..).withinEvery rfl
  | creditDeadline => exact (execCreditDeadline_answers ..).withinEvery rfl
  | arborUnitDone => exact (execArborUnitDone_answers ..).withinEvery rfl
  | galleryProgramDone => exact (execGalleryProgramDone_answers ..).withinEvery rfl
  | modelStart => exact (execModelStart_answers ..).withinEvery rfl
  | verdictCommit => exact (execVerdictCommit_answers ..).withinEvery rfl
  | frameDeadline => exact (execFrameDeadline_answers ..).withinEvery rfl
  | releaseLead => exact (execReleaseLead_answers ..).withinEvery rfl
  | frameRelease => exact (execFrameRelease_answers ..).withinEvery rfl
  | tapCopyTx => exact (execTapCopyTx_answers ..).withinEvery rfl
  | sealTimer => exact (execSealTimer_answers ..).withinEvery rfl
  | accessionDrain => exact (execAccessionDrain_answers ..).withinEvery rfl
  | strandSectionLoad => exact (execStrandSectionLoad_answers ..).withinEvery rfl
  | strandEnterServing => exact (execStrandEnterServing_answers ..).withinEvery rfl
  | strandDrainEnd => exact (execStrandDrainEnd_answers ..).withinEvery rfl
  | drainStuck => exact (execDrainStuck_answers ..).withinEvery rfl
  | staleGraceExpiry => exact (execStaleGraceExpiry_answers ..).withinEvery rfl
  | guardRequestAdmit => exact (execGuardRequestAdmit_answers ..).withinEvery rfl
  | coveStepStart => exact (execCoveStepStart_answers ..).withinEvery rfl
  | coveStepCommit => exact (execCoveStepCommit_answers ..).withinEvery rfl
  | guardOutputPost => exact (execGuardOutputPost_answers ..).withinEvery rfl
  | batchRecordPost => exact (execBatchRecordPost_answers ..).withinEvery rfl
  | requestFree => exact (execRequestFree_answers ..).withinEvery rfl
  | guardDeadlineCheck => exact (execGuardDeadlineCheck_answers ..).withinEvery rfl
  | coveWedgeTimeout => exact (execCoveWedgeTimeout_answers ..).withinEvery rfl
  | archiveMoveStart => exact (execArchiveMoveStart_answers ..).withinEvery rfl
  | archiveWriteDone => exact (execArchiveWriteDone_answers ..).withinEvery rfl
  | archiveExpire => exact (execArchiveExpire_answers ..).withinEvery rfl
  | archiveReadDone => exact (execArchiveReadDone_answers ..).withinEvery rfl
  | archivePeerTimeout => exact (execArchivePeerTimeout_answers ..).withinEvery rfl
  | nop => exact (execNop_answers ..).withinEvery rfl
  | clLoad => exact (execClLoad_answers ..).withinEvery rfl
  | loadStagingReady => exact (execLoadStagingReady_answers ..).withinEvery rfl
  | loadDigestDone => exact (execLoadDigestDone_answers ..).withinEvery rfl
  | loadCommit => exact (execLoadCommit_answers ..).withinEvery rfl
  | graphLoadStart => exact (execGraphLoadStart_answers ..).withinEvery rfl
  | graphLoadCommit => exact (execGraphLoadCommit_answers ..).withinEvery rfl
  | gsCancel => exact (execGsCancel_answers ..).withinEvery rfl
  | gsQuery => exact (execGsQuery_answers ..).withinEvery rfl
  | gsPrefixFlush => exact (execGsPrefixFlush_answers ..).withinEvery rfl
  | vrdReplay => exact (execVrdReplay_answers ..).withinEvery rfl
  | replayDone => exact (execReplayDone_answers ..).withinEvery rfl
  | badOpcode => exact (execBadOpcode_answers ..).withinEvery rfl
  | imgSwap => exact (execImgSwap_answers ..).withinEvery rfl
  | imgRoll => exact (execImgRoll_answers ..).withinEvery rfl
  | rollVerifyDone => exact (execRollVerifyDone_answers ..).withinEvery rfl
  | rollStrandStep => exact (execRollStrandStep_answers ..).withinEvery rfl
  | rollWaitExpiry => exact (execRollWaitExpiry_answers ..).withinEvery rfl
  | strandLoadTimeout => exact (execStrandLoadTimeout_answers ..).withinEvery rfl
  | imgAbort => exact (execImgAbort_answers ..).withinEvery rfl
  | imgPrepare => exact (execImgPrepare_answers ..).withinEvery rfl
  | imgProgram => exact (execImgProgram_answers ..).withinEvery rfl
  | imgVerify => exact (execImgVerify_answers ..).withinEvery rfl
  | imgSelect => exact (execImgSelect_answers ..).withinEvery rfl
  | sqTailDoorbell => exact (execSqTailDoorbell_answers ..).withinEvery rfl
  | sqFetchFail => exact (execSqFetchFail_answers ..).withinEvery rfl
  | cqHeadDoorbell => exact (execCqHeadDoorbell_answers ..).withinEvery rfl
  | rrHeadDoorbell => exact (execRrHeadDoorbell_answers ..).withinEvery rfl
  | eventHeadDoorbell => exact (execEventHeadDoorbell_answers ..).withinEvery rfl
  | accessionHeadDoorbell => exact (execAccessionHeadDoorbell_answers ..).withinEvery rfl
  | ringEnable => exact execRingEnable_stays _ _ _ _
  | irqTimer => exact (execIrqTimer_answers ..).withinEvery rfl
  | windowStatusRead => exact (execWindowStatusRead_answers ..).withinEvery rfl
  | windowAck => exact execWindowAck_stays _ _ _ _
  | pcieReset => exact (execPcieReset_answers ..).withinEvery rfl
  | d3hotEntry => exact (execD3hotEntry_answers ..).withinEvery rfl
  | unitStateRead => exact (execUnitStateRead_answers ..).withinEvery rfl
  | setEndpointId => exact (execSetEndpointId_answers ..).withinEvery rfl
  | getEndpointId => exact (execGetEndpointId_answers ..).withinEvery rfl
  | getEndpointUuid => exact (execGetEndpointUuid_answers ..).withinEvery rfl
  | getMctpVersionSupport => exact (execGetMctpVersionSupport_answers ..).withinEvery rfl
  | getMessageTypeSupport => exact (execGetMessageTypeSupport_answers ..).withinEvery rfl
  | getTid => exact (execGetTid_answers ..).withinEvery rfl
  | setTid => exact (execSetTid_answers ..).withinEvery rfl
  | getPldmVersion => exact (execGetPldmVersion_answers ..).withinEvery rfl
  | getPldmTypes => exact (execGetPldmTypes_answers ..).withinEvery rfl
  | getPldmCommands => exact (execGetPldmCommands_answers ..).withinEvery rfl
  | getPdrRepositoryInfo => exact (execGetPdrRepositoryInfo_answers ..).withinEvery rfl
  | getPdr => exact (execGetPdr_answers ..).withinEvery rfl
  | getSensorReading => exact (execGetSensorReading_answers ..).withinEvery rfl
  | getStateSensorReadings => exact (execGetStateSensorReadings_answers ..).withinEvery rfl
  | setEventReceiver => exact (execSetEventReceiver_answers ..).withinEvery rfl
  | getCertificate => exact (execGetCertificate_answers ..).withinEvery rfl
  | challenge => exact (execChallenge_answers ..).withinEvery rfl
  | getMeasurements => exact (execGetMeasurements_answers ..).withinEvery rfl
  | getCsr => exact (execGetCsr_answers ..).withinEvery rfl
  | keyExchange => exact (execKeyExchange_answers ..).withinEvery rfl
  | pwrOkRise => exact (execPwrOkRise_answers ..).withinEvery rfl
  | otpSensed => exact (execOtpSensed_answers ..).withinEvery rfl
  | trimCheck => exact (execTrimCheck_answers ..).withinEvery rfl
  | imageHeadersRead => exact (execImageHeadersRead_answers ..).withinEvery rfl
  | imageStreamDone => exact (execImageStreamDone_answers ..).withinEvery rfl
  | signatureCheckDone => exact (execSignatureCheckDone_answers ..).withinEvery rfl
  | globalApply => exact (execGlobalApply_answers ..).withinEvery rfl
  | hbmTrainingDone => exact (execHbmTrainingDone_answers ..).withinEvery rfl
  | ddrTrainingDone => exact (execDdrTrainingDone_answers ..).withinEvery rfl
  | pciePerstDeassert => exact (execPciePerstDeassert_answers ..).withinEvery rfl
  | sectorEraseDone => exact (execSectorEraseDone_answers ..).withinEvery rfl
  | nvmPageProgramDone => exact (execNvmPageProgramDone_answers ..).withinEvery rfl
  | nvmReadTimeout => exact (execNvmReadTimeout_answers ..).withinEvery rfl
  | recProgramPage => exact (execRecProgramPage_stays _).mono rfl
  | recEraseSector => exact (execRecEraseSector_stays _).mono rfl
  | recRestart => exact (execRecRestart_answers ..).withinEvery rfl
  | pwrOkFall => exact (execPwrOkFall_answers ..).withinEvery rfl
  | sysReset => exact (execSysReset_answers ..).withinEvery rfl
  | fullResetGo => exact (execFullResetGo_answers ..).withinEvery rfl
  | quiesceFramesDone => exact (execQuiesceFramesDone_answers ..).withinEvery rfl
  | quiesceGuardDone => exact (execQuiesceGuardDone_answers ..).withinEvery rfl
  | quiesceDrainDone => exact (execQuiesceDrainDone_answers ..).withinEvery rfl
  | curatorWdt => exact (execCuratorWdt_answers ..).withinEvery rfl
  | thermalConversion => exact (execThermalConversion_answers ..).withinEvery rfl
  | clockLoss => exact (execClockLoss_answers ..).withinEvery rfl
  | throttleStep => exact (execThrottleStep_answers ..).withinEvery rfl
  | powerEstimate => exact (execPowerEstimate_answers ..).withinEvery rfl
  | clockRaise => exact (execClockRaise_answers ..).withinEvery rfl
  | vddLow => exact (execVddLow_answers ..).withinEvery rfl
  | sensorCheckStart => exact (execSensorCheckStart_answers ..).withinEvery rfl
  | sensorCheckDone => exact (execSensorCheckDone_answers ..).withinEvery rfl
  | laneWindowDone => exact (execLaneWindowDone_answers ..).withinEvery rfl
  | laneWindowStarved => exact (execLaneWindowStarved_answers ..).withinEvery rfl
  | idleBank => exact (execIdleBank_answers ..).withinEvery rfl
  | idlePark => exact (execIdlePark_answers ..).withinEvery rfl
  | unitWakeStart => exact (execUnitWakeStart_answers ..).withinEvery rfl
  | unitWakeDone => exact (execUnitWakeDone_answers ..).withinEvery rfl
  | ppsEdge => exact (execPpsEdge_answers ..).withinEvery rfl
  | ppsLost => exact (execPpsLost_answers ..).withinEvery rfl
  | tidRateWrite => exact execTidRateWrite_stays _ _ _
  | tidSlewWrite => exact execTidSlewWrite_stays _ _ _
  | slewDone => exact (execSlewDone_answers ..).withinEvery rfl
  | tidSetCmd => exact execTidSetCmd_stays _ _
  | saInstall => exact execSaInstall_stays _ _
  | saDisable => exact execSaDisable_stays _ _
  | ethLinkChange => exact (execEthLinkChange_answers ..).withinEvery rfl
  | graphTargetWrite => exact (execGraphTargetWrite_answers ..).withinEvery rfl
  | dataFlitRx => exact (execDataFlitRx_answers ..).withinEvery rfl
  | nakFlitRx => exact (execNakFlitRx_answers ..).withinEvery rfl
  | idleFlitRx => exact (execIdleFlitRx_answers ..).withinEvery rfl
  | badFlitRx => exact (execBadFlitRx_answers ..).withinEvery rfl
  | trainFlitRx => exact (execTrainFlitRx_answers ..).withinEvery rfl
  | flitSlot => exact (execFlitSlot_answers ..).withinEvery rfl
  | replayTimeout => exact (execReplayTimeout_answers ..).withinEvery rfl
  | bringupStageDone => exact (execBringupStageDone_answers ..).withinEvery rfl
  | bringupTimeout => exact (execBringupTimeout_answers ..).withinEvery rfl
  | portRetryHold => exact (execPortRetryHold_answers ..).withinEvery rfl
  | portRetrain => exact (execPortRetrain_answers ..).withinEvery rfl
  | replRoundStart => exact (execReplRoundStart_answers ..).withinEvery rfl
  | replBegin => exact (execReplBegin_answers ..).withinEvery rfl
  | replData => exact (execReplData_answers ..).withinEvery rfl
  | replEnd => exact (execReplEnd_answers ..).withinEvery rfl
  | replFragmentWait => exact (execReplFragmentWait_answers ..).withinEvery rfl
  | replAck => exact (execReplAck_answers ..).withinEvery rfl
  | replWaitExpiry => exact (execReplWaitExpiry_answers ..).withinEvery rfl
  | replPull => exact (execReplPull_answers ..).withinEvery rfl
  | replPullTimer => exact (execReplPullTimer_answers ..).withinEvery rfl
  | replFullNeeded => exact (execReplFullNeeded_answers ..).withinEvery rfl
  | target => exact (execTarget_answers ..).withinEvery rfl
  | catalogTimer => exact (execCatalogTimer_answers ..).withinEvery rfl
  | archPut => exact (execArchPut_answers ..).withinEvery rfl
  | archGet => exact (execArchGet_answers ..).withinEvery rfl
  | archData => exact (execArchData_answers ..).withinEvery rfl
  | archStatus => exact (execArchStatus_answers ..).withinEvery rfl
  | ack => exact (execAck_answers ..).withinEvery rfl
  | echo => exact (execEcho_answers ..).withinEvery rfl
  | cwSetup => exact (execCwSetup_answers ..).withinEvery rfl
  | cwConfirm => exact (execCwConfirm_answers ..).withinEvery rfl
  | cwDown => exact (execCwDown_answers ..).withinEvery rfl
  | cwSetupRetry => exact (execCwSetupRetry_answers ..).withinEvery rfl
  | e2eResendTimeout => exact (execE2eResendTimeout_answers ..).withinEvery rfl
  | escapeTimeout => exact (execEscapeTimeout_answers ..).withinEvery rfl
  | flowIdle => exact (execFlowIdle_answers ..).withinEvery rfl
  | rateIncrease => exact (execRateIncrease_answers ..).withinEvery rfl
  | unitTimeout => exact (execUnitTimeout_answers ..).withinEvery rfl
  | ledgerFetch => exact execLedgerFetch_stays _ _
  | laneTestControl => exact execLaneTestControl_stays _ _ _ _
  | errorInject => exact execErrorInject_stays _ _ _
  | idcode => exact (execIdcode_answers ..).withinEvery rfl
  | samplePreload => exact (execSamplePreload_answers ..).withinEvery rfl
  | extest => exact (execExtest_answers ..).withinEvery rfl
  | clamp => exact (execClamp_answers ..).withinEvery rfl
  | highz => exact (execHighz_answers ..).withinEvery rfl
  | extestPulse => exact (execExtestPulse_answers ..).withinEvery rfl
  | extestTrain => exact (execExtestTrain_answers ..).withinEvery rfl
  | regAccess => exact execRegAccess_stays _ _ _ _
  | bypass => exact (execBypass_answers ..).withinEvery rfl
  | testLogicReset => exact (execTestLogicReset_answers ..).withinEvery rfl
  | lowWordRead => exact (execLowWordRead_answers ..).withinEvery rfl
  | counterReadClear => exact (execCounterReadClear_answers ..).withinEvery rfl
  | registerWrite => exact execRegisterWrite_stays _ _ _ _ _ _
  | vaonRise => exact (execVaonRise_answers ..).withinEvery rfl
  | vaonFall => exact (execVaonFall_answers ..).withinEvery rfl
  | vioRise => exact (execVioRise_answers ..).withinEvery rfl
  | tidePllLock => exact (execTidePllLock_answers ..).withinEvery rfl
  | bankVerifyDone => exact (execBankVerifyDone_answers ..).withinEvery rfl
  | pcieLinkUp => exact (execPcieLinkUp_answers ..).withinEvery rfl
  | configSpaceReady => exact (execConfigSpaceReady_answers ..).withinEvery rfl
  | checkerLock => exact (execCheckerLock_answers ..).withinEvery rfl
  | checkerLockLoss => exact (execCheckerLockLoss_answers ..).withinEvery rfl
  | getVersion => exact (execGetVersion_answers ..).withinEvery rfl
  | getCapabilities => exact (execGetCapabilities_answers ..).withinEvery rfl
  | negotiateAlgorithms => exact (execNegotiateAlgorithms_answers ..).withinEvery rfl
  | getDigests => exact (execGetDigests_answers ..).withinEvery rfl
  | finish => exact (execFinish_answers ..).withinEvery rfl
  | heartbeat => exact (execHeartbeat_answers ..).withinEvery rfl
  | keyUpdate => exact (execKeyUpdate_answers ..).withinEvery rfl
  | endSession => exact (execEndSession_answers ..).withinEvery rfl
  | chunkSend => exact (execChunkSend_answers ..).withinEvery rfl
  | chunkGet => exact (execChunkGet_answers ..).withinEvery rfl
  | doeDiscovery => exact (execDoeDiscovery_answers ..).withinEvery rfl
  | ideKmQuery => exact (execIdeKmQuery_answers ..).withinEvery rfl
  | ideKmKeyProg => exact (execIdeKmKeyProg_answers ..).withinEvery rfl
  | ideKmKSetGo => exact (execIdeKmKSetGo_answers ..).withinEvery rfl
  | ideKmKSetStop => exact (execIdeKmKSetStop_answers ..).withinEvery rfl
  | mctpUnsupportedCmd => exact (execMctpUnsupportedCmd_answers ..).withinEvery rfl

/-- A step takes at most the front of the queue away; everything else changes as a command or a moment of time may change it. -/
theorem step_touches {s t : State} (h : step s = .next t) : ∃ rest, Touches Part.every { s with pending := rest } t := by
  unfold step at h
  split at h
  next hq =>
    cases h
    exact ⟨s.pending, (State.tick_touches s).mono rfl⟩
  next c rest hq => exact ⟨rest, exec_stays c _ t h⟩

/-- The invariant does not speak of the queue. -/
theorem State.Inv.with_pending {s : State} (i : s.Inv) (q : List Instr) : State.Inv { s with pending := q } :=
  ⟨i.regs, i.strands, i.banks, i.cells⟩

/-- Settles O53: a step is a command or a moment of time, and both keep the invariant since both respect `Touches`. -/
theorem invariantKept : Obligations.InvariantKept := by
  unfold Obligations.InvariantKept
  intro s t i h
  obtain ⟨rest, hst⟩ := step_touches h
  exact hst.inv (i.with_pending rest)

/-- Settles O52: no register is written, the 32 Strands are in OFF, and both banks are blank. -/
theorem invariantAtReset : Obligations.InvariantAtReset where
  regs := rfl
  strands := List.length_replicate
  banks := rfl
  cells := by
    intro b hb
    obtain rfl : b = NvmBank.blank := by simpa [State.reset] using hb
    rfl

end Sys2Proof.Machine
end

section
/-!
SUPPORT. A PCIe write of a register (O14): which access reaches the word, what the write of a word comes to, and what a lock violation
leaves (R6, R10, R401, R456, R654, R660).
-/
namespace Sys2Proof.Machine

/-! Which access is taken -/

theorem pwrOk_of_reaches {s : State} {p : Path} {off : Nat} (h : s.reaches p off = true) : s.img.pwrOk = true := by
  simp only [State.reaches, Bool.and_eq_true] at h
  exact h.1.1

/-- A word that a path reaches is not asked for before CMD_READY (R456). -/
theorem tooEarly_of_reaches {s : State} {p : Path} {off : Nat} (b : Bar) (h : s.reaches p off = true) : s.tooEarly b off = false := by
  simp only [State.reaches, Bool.and_eq_true, Bool.or_eq_true, decide_eq_true_eq] at h
  obtain ⟨⟨-, hready | hlow⟩, -⟩ := h
  · simp [State.tooEarly, hready]
  · simp [State.tooEarly, hlow]

/-- R401: an aligned access of 4 bytes is taken by every BAR. -/
theorem accessOk_word {off : Nat} (b : Bar) (write : Bool) (h : off % 4 = 0) : accessOk b off 4 write = true := by
  simp [accessOk, h]

/-! A PCIe write, one equation a case -/

/-- Without PWR_OK, past the BAR, or before CMD_READY. -/
theorem pcieWrite_out_of_reach {s : State} {b : Bar} {off : Nat} (size : Nat) (poisoned : Bool) (v : Nat)
    (h : s.img.pwrOk = false ∨ barSize b ≤ off ∨ s.tooEarly b off = true) : s.pcieWrite b off size poisoned v = .next s := by
  unfold State.pcieWrite
  rcases h with h | h | h <;> simp [h]

section
variable {s : State} {b : Bar} {off : Nat} (hp : s.img.pwrOk = true) (hb : off < barSize b) (he : s.tooEarly b off = false)
include hp hb he

/-- R441: a poisoned write. -/
theorem pcieWrite_poisoned (size v : Nat) : s.pcieWrite b off size true v = .next ((s.emit .aer).sendVector 0) := by
  simp [State.pcieWrite, hp, Nat.not_le.mpr hb, he]

/-- R401: an access that the BAR does not take. -/
theorem pcieWrite_bad_access {size : Nat} (v : Nat) (ha : accessOk b off size true = false) :
    s.pcieWrite b off size false v = .next ((s.count Fld.HIF_BAD_ACCESS_CNT).emit (.reply .discarded)) := by
  simp [State.pcieWrite, hp, Nat.not_le.mpr hb, he, ha]

end

/-- R6: an aligned write of 4 bytes to BAR0 is a write on the bus. -/
theorem pcieWrite_bar0_word {s : State} {off : Nat} (v : Nat) (hp : s.img.pwrOk = true) (hb : off < barSize .bar0)
    (he : s.tooEarly .bar0 off = false) (ha : off % 4 = 0) :
    s.pcieWrite .bar0 off 4 false v = s.busWrite .pcie off (v % 2 ^ 32) := by
  simp [State.pcieWrite, hp, Nat.not_le.mpr hb, he, accessOk_word .bar0 true ha]

/-! A write on the bus, one equation a case -/

/-- R654: an offset that names no register. -/
theorem busWrite_unnamed {s : State} {off : Nat} (p : Path) (v : Nat) (hd : regAt off = none) : s.busWrite p off v = .next s := by
  simp [State.busWrite, hd]

/-- R660: a word with LK fields while LOCKED is set. -/
theorem busWrite_locked {s : State} {p : Path} {off : Nat} {d : RegDef} (v : Nat) (hr : s.reaches p off = true)
    (hd : regAt off = some d) (hk : d.lk ≠ 0) (hl : s.flag Fld.GLB_LOCK = true) :
    s.busWrite p off v = .next (s.lockViolation p off v) := by
  simp [State.busWrite, hr, hd, hk, hl]

/-- Table 0-2: a word whose write starts nothing. -/
theorem busWrite_fields {s : State} {p : Path} {off v : Nat} {d : RegDef} (hr : s.reaches p off = true) (hd : regAt off = some d)
    (hk : d.lk = 0 ∨ s.flag Fld.GLB_LOCK = false) (hc : off ≠ Fld.IMG_REC_CMD.off) (ha : s.arrayWrite off v = none)
    (h1 : s.singleWrite off v = none) :
    s.busWrite p off v = .next (s.setWord off (word (fieldsAfter d (s.regWord off).toNat v))) := by
  have hk' : (d.lk != 0 && s.flag Fld.GLB_LOCK) = false := by
    rcases hk with h | h <;> simp [h]
  simp [State.busWrite, hr, hd, hk', hc, ha, h1]

/-! What a lock violation leaves (R660) -/

theorem wf_set {s : State} (h : regFileWf s.reg = true) (f : Fld) (v : Nat) : regFileWf (s.set f v).reg = true := wf_rset h f v

theorem wf_count {s : State} (h : regFileWf s.reg = true) (f : Fld) : regFileWf (s.count f).reg = true := wf_rset h f _

theorem lockViolation_onlyWords (s : State) (p : Path) (off v : Nat) :
    OnlyWords [Fld.GLB_LOCK_VIOL_CNT.off, Fld.GLB_LOCK_VIOL_ADDR_OFFSET.off, Fld.GLB_LOCK_VIOL_DATA.off] s (s.lockViolation p off v) :=
  (((onlyWords_set s _ _ (by decide)).trans (onlyWords_set _ _ _ (by decide))).trans (onlyWords_set _ _ _ (by decide))).trans
    (onlyWords_set _ _ _ (by decide))

section
variable {s : State} (h : regFileWf s.reg = true) (p : Path) (off v : Nat)
include h

theorem lockViolation_cnt :
    (s.lockViolation p off v).get Fld.GLB_LOCK_VIOL_CNT = min (s.get Fld.GLB_LOCK_VIOL_CNT + 1) 0xFFFFFFFF := by
  unfold State.lockViolation
  rw [get_set_ne _ _ (by decide), get_set_ne _ _ (by decide), get_set_ne _ _ (by decide), get_count h _ (by decide)]
  rfl

theorem lockViolation_offset : (s.lockViolation p off v).get Fld.GLB_LOCK_VIOL_ADDR_OFFSET = off % 2 ^ 26 := by
  unfold State.lockViolation
  rw [get_set_ne _ _ (by decide), get_set_same (wf_set (wf_count h _) _ _) _ _ (by decide)]
  rfl

theorem lockViolation_src : (s.lockViolation p off v).get Fld.GLB_LOCK_VIOL_ADDR_SRC = b2n (p == .jtag) := by
  unfold State.lockViolation
  rw [get_set_ne _ _ (by decide),
    get_set_field (f := Fld.GLB_LOCK_VIOL_ADDR_OFFSET) (g := Fld.GLB_LOCK_VIOL_ADDR_SRC) (wf_set (wf_count h _) _ _) _ (by decide)
      rfl (by decide),
    get_set_same (wf_count h _) _ _ (by decide)]
  cases p <;> rfl

theorem lockViolation_data : (s.lockViolation p off v).get Fld.GLB_LOCK_VIOL_DATA = v % 2 ^ 32 := by
  unfold State.lockViolation
  rw [get_set_same (wf_set (wf_set (wf_count h _) _ _) _ _) _ _ (by decide)]
  rfl

end

/-! The clauses of O14 -/

/-- REGISTER_WRITE is a PCIe write. -/
theorem exec_registerWrite (b : Bar) (off : BitVec 26) (size : Fin 9) (poisoned : Bool) (v : BitVec 64) (s : State) :
    exec (.registerWrite b off size poisoned v) s = s.pcieWrite b off.toNat size.val poisoned v.toNat := rfl

/-- An aligned write of a word that PCIe reaches is a write on the bus. -/
theorem exec_registerWrite_word {off : BitVec 26} (v : BitVec 64) {s : State} (hr : s.reaches .pcie off.toNat = true)
    (ha : off.toNat % 4 = 0) : exec (.registerWrite .bar0 off 4 false v) s = s.busWrite .pcie off.toNat (v.toNat % 2 ^ 32) :=
  pcieWrite_bar0_word v.toNat (pwrOk_of_reaches hr) off.isLt (tooEarly_of_reaches .bar0 hr) ha

/-- A write of a word that names no register does nothing, whether or not BAR0 takes it. -/
theorem exec_registerWrite_unnamed {off : BitVec 26} (v : BitVec 64) (s : State) (ha : off.toNat % 4 = 0)
    (hd : regAt off.toNat = none) : exec (.registerWrite .bar0 off 4 false v) s = .next s := by
  rw [exec_registerWrite]
  by_cases hx : s.img.pwrOk = false ∨ barSize .bar0 ≤ off.toNat ∨ s.tooEarly .bar0 off.toNat = true
  · exact pcieWrite_out_of_reach _ _ _ hx
  · simp only [not_or, Bool.not_eq_false, Bool.not_eq_true, Nat.not_le] at hx
    obtain ⟨hp, hb, he⟩ := hx
    exact (pcieWrite_bar0_word v.toNat hp hb he ha).trans (busWrite_unnamed .pcie _ hd)

/-- R432: vector 0, unmasked, is sent. -/
theorem sendVector_unmasked {s : State} {v : Nat} (h : s.flag (Fld.MSIX_CTRL_MASK v) = false) : s.sendVector v = s.emit (.msix v) := by
  simp [State.sendVector, h]

/-- Settles O14: each clause is one case of a PCIe write or of the write on the bus that it comes to. -/
theorem registerWrites : Obligations.RegisterWrites := by
  unfold Obligations.RegisterWrites
  refine ⟨?fields, ?locked, ?badAccess, ?poisoned, ?outOfReach, ?unnamed⟩
  case fields =>
    intro off v d s hw hd hr ha hk hc harr hone
    rw [Option.isNone_iff_eq_none] at harr hone
    refine ⟨_, (exec_registerWrite_word v hr ha).trans (busWrite_fields hr hd hk hc harr hone), ?_, ?_, State.setWord_touches _ _ _⟩
    · exact regWord_setWord_same hw _ _
    · exact onlyWords_setWord s _ _ (List.mem_singleton_self _)
  case locked =>
    intro off v d s hw hd hr ha hk hl
    refine ⟨_, (exec_registerWrite_word v hr ha).trans (busWrite_locked _ hr hd hk hl), lockViolation_cnt hw _ _ _, ?_,
      lockViolation_src hw _ _ _, ?_, lockViolation_onlyWords s _ _ _, State.lockViolation_touches _ _ _ _⟩
    · rw [lockViolation_offset hw, Nat.mod_eq_of_lt off.isLt]
    · rw [lockViolation_data hw, Nat.mod_mod]
  case badAccess =>
    intro b off size v s hw hp hb he ha
    refine ⟨_, pcieWrite_bad_access hp hb he v.toNat ha, rfl, get_count hw _ (by decide), ?_, ?_⟩
    · exact (onlyWords_set s _ _ (List.mem_singleton_self _)).trans (onlyWords_congr _ rfl)
    · exact (State.emit_touches _ _).after rfl ((State.count_touches s _).mono rfl)
  case poisoned =>
    intro b off size v s hp hb he hm
    refine ⟨_, (pcieWrite_poisoned hp hb he size.val v.toNat).trans (congrArg _ (sendVector_unmasked hm)), rfl, ?_⟩
    exact (State.emit_touches s _).trans (State.emit_touches _ _)
  case outOfReach =>
    intro b off size poisoned v s h
    exact pcieWrite_out_of_reach size.val poisoned v.toNat h
  case unnamed => exact fun off v s ha hd => exec_registerWrite_unnamed v s ha hd

end Sys2Proof.Machine
end

section
/-!
SUPPORT. To whom the slots of a wheel belong (O55): the packed assignment keeps the shares, so the one the model takes does (R63, R64).
-/
namespace Sys2Proof.Machine

theorem sumBy_id (l : List Nat) : sumBy l (fun a => a) = l.sum := List.sum_eq_foldl.symm

theorem sharesKept_iff (shares : List Nat) (own : Nat → Option Nat) :
    sharesKept shares own = true ↔
      (∀ i < shares.length, ((upto 256).filter (fun k => own k == some i)).length = shares.getD i 0)
        ∧ ∀ k < 256, ∀ i, own k = some i → i < shares.length := by
  simp [sharesKept, upto, Option.all_eq_true, and_comm]

/-! The packed assignment: row by row, from slot 0 on -/

theorem packedOwner_of_lt {a k : Nat} (i : Nat) (rest : List Nat) (h : k < a) : packedOwner i (a :: rest) k = some i := by
  simp [packedOwner, h]

/-- Behind the row of the first competitor, the others are packed. -/
theorem packedOwner_add (i a : Nat) (rest : List Nat) (k : Nat) : packedOwner i (a :: rest) (a + k) = packedOwner (i + 1) rest k := by
  rw [packedOwner, if_neg (Nat.not_lt.mpr (Nat.le_add_right a k)), Nat.add_sub_cancel_left]

/-- The owners are the competitors, numbered from `i` on. -/
theorem packedOwner_range {shares : List Nat} {i k j : Nat} (h : packedOwner i shares k = some j) :
    i ≤ j ∧ j < i + shares.length := by
  induction shares generalizing i k with
  | nil => simp [packedOwner] at h
  | cons a rest ih =>
    rw [List.length_cons]
    by_cases hk : k < a
    · rw [packedOwner_of_lt i rest hk, Option.some.injEq] at h
      omega
    · obtain ⟨m, rfl⟩ := Nat.exists_eq_add_of_le (Nat.le_of_not_lt hk)
      rw [packedOwner_add] at h
      have := ih h
      omega

/-- Slots counted over a wheel that begins with the row of one competitor. -/
theorem countP_packedOwner_cons (i a n : Nat) (rest : List Nat) (p : Option Nat → Bool) :
    (List.range (a + n)).countP (fun k => p (packedOwner i (a :: rest) k)) =
      (if p (some i) then a else 0) + (List.range n).countP (fun k => p (packedOwner (i + 1) rest k)) := by
  have hrow : (List.range a).countP (fun k => p (packedOwner i (a :: rest) k)) = (List.range a).countP (fun _ => p (some i)) :=
    List.countP_congr fun k hk => by rw [packedOwner_of_lt i rest (List.mem_range.mp hk)]
  rw [List.range_add, List.countP_append, List.countP_map, hrow]
  congr 1
  · cases p (some i) <;> simp
  · exact List.countP_congr fun k _ => by rw [Function.comp_apply, packedOwner_add]

/-- A competitor numbered before the first owns no slot. -/
theorem countP_packedOwner_of_lt {i j : Nat} (h : j < i) (shares : List Nat) (n : Nat) :
    (List.range n).countP (fun k => packedOwner i shares k == some j) = 0 :=
  List.countP_eq_zero.mpr fun _ _ hk => absurd (packedOwner_range (beq_iff_eq.mp hk)).1 (Nat.not_le.mpr h)

/-- On `n` slots that hold the shares, the packed assignment gives each competitor its share: in its own row, and nowhere else. -/
theorem countP_packedOwner (shares : List Nat) (i j n : Nat) (hn : shares.sum ≤ n) (hj : j < shares.length) :
    (List.range n).countP (fun k => packedOwner i shares k == some (i + j)) = shares.getD j 0 := by
  induction shares generalizing i j n with
  | nil => simp at hj
  | cons a rest ih =>
    rw [List.sum_cons] at hn
    obtain ⟨m, rfl⟩ := Nat.exists_eq_add_of_le (Nat.le_of_add_right_le hn)
    rw [countP_packedOwner_cons i a m rest (· == some (i + j))]
    cases j with
    | zero => simp [countP_packedOwner_of_lt (Nat.lt_succ_self i)]
    | succ j =>
      have hrest := ih (i + 1) j m (by omega) (Nat.lt_of_succ_lt_succ hj)
      simpa [Nat.add_assoc, Nat.add_comm 1] using hrest

theorem sharesKept_packedOwner {shares : List Nat} (h : shares.sum ≤ 256) : sharesKept shares (packedOwner 0 shares) = true := by
  refine (sharesKept_iff _ _).mpr ⟨fun i hi => ?_, fun k _ i hk => ?_⟩
  · have := countP_packedOwner shares 0 i 256 h hi
    rwa [Nat.zero_add, List.countP_eq_length_filter] at this
  · simpa using (packedOwner_range hk).2

/-! The assignment that the model takes -/

theorem sharesKept_none {shares : List Nat} (h : ∀ a ∈ shares, a = 0) : sharesKept shares (fun _ => none) = true := by
  refine (sharesKept_iff _ _).mpr ⟨fun i hi => ?_, fun _ _ _ hk => nomatch hk⟩
  simp [hi, h _ (List.getElem_mem hi)]

/-- R63: nobody where nobody holds a share, else the free value where it keeps the shares, else the packed assignment. -/
theorem wheelSlotOwner_eq (shares : List Nat) :
    wheelSlotOwner shares =
      if shares.all (fun a => a == 0) then fun _ => none
      else if sharesKept shares (Config.wheelOwner shares) then Config.wheelOwner shares
      else packedOwner 0 shares := by
  funext k
  unfold wheelSlotOwner
  split
  · rfl
  · split <;> rfl

theorem sharesKept_wheelSlotOwner {shares : List Nat} (h : shares.sum ≤ 256) : sharesKept shares (wheelSlotOwner shares) = true := by
  rw [wheelSlotOwner_eq]
  split
  next hzero => exact sharesKept_none (by simpa using hzero)
  next =>
    split
    next hfree => exact hfree
    next => exact sharesKept_packedOwner h

/-- Settles O55: the assignment that the model takes keeps the shares, whichever of its three cases holds. -/
theorem wheelSharesKept : Obligations.WheelSharesKept := by
  intro shares hfit
  rw [sumBy_id] at hfit
  exact (sharesKept_iff _ _).mp (sharesKept_wheelSlotOwner hfit)

end Sys2Proof.Machine
end

section
/-!
SUPPORT. The register words that an event may change (R413, R414, R431, R432): the pending bits of the MSI-X table and the lost records of
the event ring; and what a field and a pair of words read where their words stand as they were.
-/
namespace Sys2Proof.Machine

/-! Reads of words that stand as they were -/

theorem get_of_regWord {s t : State} {f : Fld} (h : t.regWord f.off = s.regWord f.off) : t.get f = s.get f := by
  simp only [State.get, h]

theorem get64_of_regWord {s t : State} {f : Fld} (hlo : t.regWord f.off = s.regWord f.off)
    (hhi : t.regWord (f.off + 4) = s.regWord (f.off + 4)) : t.get64 f = s.get64 f := by
  simp only [State.get64, get_of_regWord hlo, hhi]

theorem wf_set64 {s : State} (h : regFileWf s.reg = true) (f : Fld) (v : Nat) : regFileWf (s.set64 f v).reg = true :=
  wf_rput (wf_set h f v) _ _

/-- R7: a pair of words reads as it was written. -/
theorem get64_set64_same {s : State} (h : regFileWf s.reg = true) {f : Fld} {v : Nat} (hl : f.lsb = 0) (hw : f.width = 32)
    (hv : v < 2 ^ 64) : (s.set64 f v).get64 f = v := by
  have hlo : (s.set64 f v).get f = v % 2 ^ 32 := by
    rw [State.set64, get_of_regWord (regWord_setWord_ne _ _ (by omega)), get_set_same h f v (by omega), hw]
  have hhi : (s.set64 f v).regWord (f.off + 4) = word (v / 2 ^ 32) := regWord_setWord_same (wf_set h f v) _ _
  rw [State.get64, hlo, hhi, word_toNat (by omega)]
  omega

/-! What an event leaves -/

theorem setRing_regWord (s : State) (r : Nat) (x : Ring) (off : Nat) : (s.setRing r x).regWord off = s.regWord off := rfl

theorem regWord_ite {c : Prop} [Decidable c] {s t u : State} {off : Nat} (ht : t.regWord off = s.regWord off)
    (hu : u.regWord off = s.regWord off) : (if c then t else u).regWord off = s.regWord off := by
  split
  · exact ht
  · exact hu

theorem loseRecord_regWord (s : State) {r off : Nat} (hl : off ≠ (Fld.HIF_RING_LOST_CNT r).off) :
    (s.loseRecord r).regWord off = s.regWord off := regWord_set_ne s _ hl

section
variable {off : Nat} (hp : off < (Fld.MSIX_PBA 0).off)
include hp

/-- R432: a masked vector changes its word of the PBA alone. -/
theorem sendVector_regWord (s : State) (v : Nat) : (s.sendVector v).regWord off = s.regWord off :=
  regWord_ite (regWord_set_ne s _ (Nat.ne_of_lt (Nat.lt_add_right _ hp))) rfl

theorem sendRingIrq_regWord (s : State) (r : Nat) : (s.sendRingIrq r).regWord off = s.regWord off :=
  (sendVector_regWord hp _ _).trans (setRing_regWord s _ _ off)

theorem noteRecord_regWord (s : State) (r : Nat) : (s.noteRecord r).regWord off = s.regWord off := by
  unfold State.noteRecord
  exact regWord_ite ((sendRingIrq_regWord hp _ _).trans (setRing_regWord s _ _ off)) (setRing_regWord s _ _ off)

theorem writeRecord_regWord {s t : State} {r kind flags : Nat} {key payload : Bytes}
    (h : s.writeRecord r kind flags key payload = some t) : t.regWord off = s.regWord off := by
  simp only [State.writeRecord, Option.ite_none_right_eq_some, Option.some.injEq] at h
  obtain ⟨-, rfl⟩ := h
  rw [noteRecord_regWord hp, setRing_regWord]
  exact regWord_ite (u := s.emit _) rfl rfl

theorem writeEvent_regWord {s t : State} {code source : Nat} {args : List Nat} (h : s.writeEvent code source args = some t) :
    t.regWord off = s.regWord off := writeRecord_regWord hp h

theorem flushLostEvents_regWord (s : State) : s.flushLostEvents.regWord off = s.regWord off := by
  simp only [State.flushLostEvents]
  split
  · rfl
  · split
    next hrec => exact (setRing_regWord _ _ _ off).trans (writeEvent_regWord hp hrec)
    next => rfl

/-- R414: an event, written or lost, changes no word below the PBA but the count of the event ring's lost records. -/
theorem event_regWord (s : State) (code source : Nat) (args : List Nat) (hl : off ≠ (Fld.HIF_RING_LOST_CNT ringEvt).off) :
    (s.event code source args).regWord off = s.regWord off := by
  refine Eq.trans ?_ (flushLostEvents_regWord hp s)
  simp only [State.event]
  split
  next hrec =>
    rw [Option.ite_none_right_eq_some] at hrec
    exact writeEvent_regWord hp hrec.2
  next => exact (setRing_regWord _ _ _ off).trans (loseRecord_regWord _ hl)

end

theorem event_pwr (s : State) (code source : Nat) (args : List Nat) : (s.event code source args).pwr = s.pwr :=
  (State.event_touches s code source args).pwr_eq (by decide)

end Sys2Proof.Machine
end

section
/-!
SUPPORT. The tide counter's PPS input, the end of a slew, and the Ethernet links (O9; R116, R121, R574, R576).
-/
namespace Sys2Proof.Machine

/-! PPS_EDGE (R576) -/

/-- The capture of a PPS edge: the counter's value at the tick of the edge (log entry 85), the count of edges, PPS_VALID. -/
def State.ppsCaptured (s : State) : State :=
  ((s.set64 Fld.TID_PPS s.now).count Fld.TID_PPS_CNT).set Fld.TID_TB_STATE_PPS_VALID 1

/-- After the capture, PPS_BACK is posted where PPS_LOST was. -/
def State.ppsReported (s : State) : State :=
  if s.ppsCaptured.pwr.ppsLost then s.ppsCaptured.event 0x0074 0 (words2 s.ppsCaptured.now) else s.ppsCaptured

theorem exec_ppsEdge_eq (s : State) :
    exec .ppsEdge s =
      if s.img.vaon then
        .next { s.ppsReported with pwr := { s.ppsReported.pwr with ppsTick := some s.ppsReported.now, ppsLost := false } }
      else .next s := rfl

theorem ppsCaptured_touches (s : State) : Touches [.reg] s s.ppsCaptured :=
  ((State.set64_touches s _ _).trans (State.count_touches _ _)).trans (State.set_touches _ _ _)

theorem ppsReported_touches (s : State) : Touches [.out, .reg, .host] s s.ppsReported :=
  have hcap := (ppsCaptured_touches s).mono rfl
  Touches.ite ((State.event_touches _ _ _ _).after rfl hcap) hcap

theorem exec_ppsEdge {s : State} (h : s.img.vaon = true) :
    exec .ppsEdge s = .next { s.ppsReported with pwr := { s.pwr with ppsTick := some s.now, ppsLost := false } } := by
  rw [exec_ppsEdge_eq, if_pos h, (ppsReported_touches s).pwr_eq (by decide), (ppsReported_touches s).now_eq (by decide)]

theorem exec_ppsEdge_off {s : State} (h : s.img.vaon = false) : exec .ppsEdge s = .next s := by
  rw [exec_ppsEdge_eq, h]
  rfl

/-- PPS_BACK leaves the words of the tide block. -/
theorem ppsReported_regWord (s : State) {off : Nat} (hp : off < (Fld.MSIX_PBA 0).off)
    (hl : off ≠ (Fld.HIF_RING_LOST_CNT ringEvt).off) : s.ppsReported.regWord off = s.ppsCaptured.regWord off :=
  regWord_ite (event_regWord hp _ _ _ _ hl) rfl

section
variable {s : State} (h : regFileWf s.reg = true)
include h

theorem ppsCaptured_time (hn : s.now < 2 ^ 64) : s.ppsCaptured.get64 Fld.TID_PPS = s.now := by
  have hkept {off : Nat} (hne : off ≠ Fld.TID_TB_STATE_PPS_VALID.off) (hne' : off ≠ Fld.TID_PPS_CNT.off) :
      s.ppsCaptured.regWord off = (s.set64 Fld.TID_PPS s.now).regWord off :=
    (regWord_set_ne _ _ hne).trans (regWord_set_ne _ _ hne')
  rw [get64_of_regWord (hkept (by decide) (by decide)) (hkept (by decide) (by decide)), get64_set64_same h rfl rfl hn]

theorem ppsCaptured_cnt : s.ppsCaptured.get Fld.TID_PPS_CNT = min (s.get Fld.TID_PPS_CNT + 1) 0xFFFFFFFF := by
  have hpair : (s.set64 Fld.TID_PPS s.now).get Fld.TID_PPS_CNT = s.get Fld.TID_PPS_CNT :=
    (get_of_regWord (regWord_setWord_ne _ _ (by decide))).trans (get_set_ne s _ (by decide))
  rw [State.ppsCaptured, get_set_ne _ _ (by decide), get_count (wf_set64 h _ _) _ (by decide), hpair]
  rfl

theorem ppsCaptured_valid : s.ppsCaptured.get Fld.TID_TB_STATE_PPS_VALID = 1 :=
  get_set_same (wf_count (wf_set64 h _ _) _) _ _ (by decide)

end

/-! PPS_LOST (R576) -/

theorem exec_ppsLost {x : Nat} {s : State} (hx : s.pwr.ppsTick = some x) (hl : s.pwr.ppsLost = false) (ht : 550000000 ≤ s.since x) :
    exec .ppsLost s =
      .next { (s.set Fld.TID_TB_STATE_PPS_VALID 0).event 0x0073 0 [] with pwr := { s.pwr with ppsLost := true } } := by
  change execPpsLost s = _
  simp only [execPpsLost, hx, hl, Nat.ble_eq_true_of_le ht, event_pwr, State.set_pwr]
  rfl

/-- PPS_LOST speaks of the time since the previous edge: before the first edge it does nothing. -/
theorem exec_ppsLost_none {s : State} (h : s.pwr.ppsTick = none) : exec .ppsLost s = .next s := by
  change execPpsLost s = _
  simp only [execPpsLost, h]

/-! SLEW_DONE (R574) -/

theorem exec_slewDone {x : Slew} {s : State} (hx : s.pwr.slew = some x) (ht : x.ticks ≤ s.slewDone x) :
    exec .slewDone s = .next { s with pwr := { s.pwr with slew := none } } := by
  change execSlewDone s = _
  simp only [execSlewDone, hx, if_pos ht]

theorem exec_slewDone_none {s : State} (h : s.pwr.slew = none) : exec .slewDone s = .next s := by
  change execSlewDone s = _
  simp only [execSlewDone, h]

/-! ETH_LINK_CHANGE (R116, R121, R600) -/

/-- R600: a link comes up only on lanes none of which is retired. -/
def State.ethUp (s : State) (p : Nat) (up : Bool) : Bool := up && (ethLanes p).all (fun l => !s.isRetired .lane l)

theorem ethLink_eq (s : State) (p : Nat) (up : Bool) :
    s.ethLink p up =
      if p = 2 && !s.ethUp p up then { s.set (Fld.INT_PORT_CTL_LINK_UP p) (b2n (s.ethUp p up)) with tapQueue := [] }
      else s.set (Fld.INT_PORT_CTL_LINK_UP p) (b2n (s.ethUp p up)) := rfl

/-- The word of the port's control register is all that a link changes in the register file. -/
theorem ethLink_reg (s : State) (p : Nat) (up : Bool) :
    (s.ethLink p up).reg = (s.set (Fld.INT_PORT_CTL_LINK_UP p) (b2n (s.ethUp p up))).reg := by
  rw [ethLink_eq, apply_ite State.reg]
  exact ite_self _

theorem ethLink_linkUp {s : State} (h : regFileWf s.reg = true) (p : Nat) (up : Bool) :
    (s.ethLink p up).get (Fld.INT_PORT_CTL_LINK_UP p) = b2n (s.ethUp p up) := by
  rw [get_congr (ethLink_reg s p up), get_set_same h (Fld.INT_PORT_CTL_LINK_UP p) _ (Nat.le_refl 32)]
  cases s.ethUp p up <;> rfl

theorem ethLink_onlyWords (s : State) (p : Nat) (up : Bool) :
    OnlyWords [(Fld.INT_PORT_CTL_LINK_UP p).off] s (s.ethLink p up) :=
  (onlyWords_set s _ _ (List.mem_singleton_self _)).trans (onlyWords_congr _ (ethLink_reg s p up))

/-- R116: the copies that wait are lost with the Tap link, and with it alone. -/
theorem ethLink_tapQueue (s : State) (p : Nat) (up : Bool) :
    (s.ethLink p up).tapQueue = if p = 2 && !s.ethUp p up then [] else s.tapQueue := by
  rw [ethLink_eq, apply_ite State.tapQueue, State.set_tapQueue]

theorem portIdx_eq_two {port : EthPort} (h : portIdx port = 2) : port = .tap := by
  cases port with
  | tap => rfl
  | n => exact nomatch h
  | s => exact nomatch h

theorem exec_ethLinkChange (port : EthPort) (up : Bool) (s : State) :
    exec (.ethLinkChange port up) s =
      .next (s.ethLink (portIdx port) (up && s.linksRun && !(ethLanes (portIdx port)).any s.laneTested)) := rfl

/-! The clauses of O9 -/

/-- Settles O9: the event that an edge or its loss posts leaves the words of the tide block, and a link writes one word. -/
theorem tideTime : Obligations.TideTime := by
  unfold Obligations.TideTime
  refine ⟨?edge, ?edgeOff, ?lost, ?neverSeen, ?slewEnds, ?noSlew, ?link⟩
  case edge =>
    intro s hw hv hn
    have hexec := exec_ppsEdge hv
    have htouch := (execPpsEdge_answers s).stays _ hexec
    refine ⟨_, hexec, ?_, ?_, ?_, rfl, htouch.now_eq (by decide), htouch⟩
    · exact (get64_of_regWord (ppsReported_regWord s (by decide) (by decide))
        (ppsReported_regWord s (by decide) (by decide))).trans (ppsCaptured_time hw hn)
    · exact (get_of_regWord (ppsReported_regWord s (by decide) (by decide))).trans (ppsCaptured_cnt hw)
    · exact (get_of_regWord (ppsReported_regWord s (by decide) (by decide))).trans (ppsCaptured_valid hw)
  case edgeOff => exact fun s h => exec_ppsEdge_off h
  case lost =>
    intro x s hw hx hl ht
    have hexec := exec_ppsLost hx hl ht
    have htouch := (execPpsLost_answers s).stays _ hexec
    refine ⟨_, hexec, ?_, rfl, htouch.now_eq (by decide), htouch⟩
    exact (get_of_regWord (event_regWord (by decide) _ _ _ _ (by decide))).trans (get_set_same hw _ _ (by decide))
  case neverSeen => exact fun s h => exec_ppsLost_none h
  case slewEnds =>
    intro x s hx ht
    exact ⟨_, exec_slewDone hx ht, rfl, Touches.put_pwr rfl (Touches.refl _ s)⟩
  case noSlew => exact fun s h => exec_slewDone_none h
  case link =>
    intro port up s hw
    refine ⟨_, exec_ethLinkChange port up s, ethLink_linkUp hw _ _, ethLink_onlyWords s _ _, ?_, State.ethLink_touches s _ _⟩
    rw [ethLink_tapQueue]
    split
    next hdown =>
      simp only [Bool.and_eq_true, decide_eq_true_eq, Bool.not_eq_true'] at hdown
      obtain ⟨htwo, hlow⟩ := hdown
      obtain rfl := portIdx_eq_two htwo
      exact .inr ⟨rfl, rfl, (ethLink_linkUp hw 2 _).trans (congrArg b2n hlow)⟩
    next => exact .inl rfl

end Sys2Proof.Machine
end

section
/-!
SUPPORT. What a write of a graph's target leaves in the table of graphs (R240, R241), and a table that lists a graph twice (O41).
-/
namespace Sys2Proof.Machine

/-- R240, R241: a graph brought up to date with its target at this tick: behind it, or not. -/
def Graph.aimed (target now : Nat) (g : Graph) : Graph :=
  if g.ver < target then { g with behind := some (g.behind.getD now) } else { g with behind := none, expired := false }

theorem modGraph_gth_congr {s u : State} {g : Nat} {f h : Graph → Graph} (hu : u.gth = s.gth) (e : f (s.graph g) = h (s.graph g)) :
    (u.modGraph g f).gth = (s.modGraph g h).gth := by
  simp only [State.graph] at e
  simp only [State.modGraph, State.graph, hu, e]

/-- The review of a graph's version and target: what fabric it knows behind its target, then the graph itself, then the Strands. -/
theorem reviewItem_graph (s : State) (g : Nat) :
    ∃ fab, s.reviewItem .graph g = State.reviewStrands
      (if (s.graph g).ver < s.get (Fld.GTH_GRAPH_TARGET g) then
        ({ s with fab := fab }).modGraph g (fun x => { x with behind := some (x.behind.getD s.now) })
      else if (s.graph g).expired then
        (({ s with fab := fab }).modGraph g (fun x => { x with behind := none, expired := false })).event 0x0087 (itemSource .graph g)
          [s.itemVersion .graph g]
      else ({ s with fab := fab }).modGraph g (fun x => { x with behind := none, expired := false })) := by
  unfold State.reviewItem
  exact ⟨_, rfl⟩

/-- It writes that graph's entry in the table of graphs, and nothing else of Gather. -/
theorem reviewItem_graph_gth (s : State) (g : Nat) :
    (s.reviewItem .graph g).gth = (s.modGraph g (Graph.aimed (s.get (Fld.GTH_GRAPH_TARGET g)) s.now)).gth := by
  obtain ⟨fab, h⟩ := reviewItem_graph s g
  rw [h, (State.reviewStrands_touches _).gth_eq (by decide)]
  split
  next hlt => exact modGraph_gth_congr rfl (if_pos hlt).symm
  next hge =>
    have hreached : Graph.aimed (s.get (Fld.GTH_GRAPH_TARGET g)) s.now (s.graph g) = { s.graph g with behind := none, expired := false } :=
      if_neg hge
    split
    next => exact ((State.event_touches _ _ _ _).gth_eq (by decide)).trans (modGraph_gth_congr rfl hreached.symm)
    next => exact modGraph_gth_congr rfl hreached.symm

theorem exec_graphTargetWrite {s : State} (graph : Fin 4) (value : Word) (hp : s.img.pwrOk = true)
    (hr : s.flag Fld.HIF_STATUS_CMD_READY = true) :
    exec (.graphTargetWrite graph value) s = .next (s.setGraphTarget graph.val value.toNat) := by
  change execGraphTargetWrite graph value s = _
  simp only [execGraphTargetWrite, hp, hr, Bool.and_self, if_true]

/-- A device that takes commands and whose table of graphs has two entries of graph 0, both behind their target. -/
def doubledGraph : State :=
  { State.reset with
    reg := [(Fld.HIF_STATUS_CMD_READY.off, 0x1000)]
    gth := { Gather.reset with graphs := [(0, { Graph.empty with behind := some 5 }), (0, { Graph.empty with behind := some 9 })] }
    img := { Img.reset with pwrOk := true } }

/-- The invariant says nothing of the table of graphs. -/
theorem doubledGraph_inv : doubledGraph.Inv where
  regs := by decide
  strands := List.length_replicate
  banks := rfl
  cells := invariantAtReset.cells

/-- A target of 0 clears what graph 0 was behind by, so its first entry leaves the table, and the second shows. -/
theorem doubledGraph_behind : ((doubledGraph.setGraphTarget 0 0).graph 0).behind = some 9 := by
  simp only [State.graph, State.setGraphTarget, reviewItem_graph_gth]
  decide

/-- Refutes O41: its clause of GRAPH_TARGET_WRITE speaks of every state, and in one that lists graph 0 twice (a state that meets
`State.Inv`, by `doubledGraph_inv`) a target of 0, which graph 0 has reached, leaves the graph behind. -/
theorem not_graphLoadsAndReplays : ¬ Obligations.GraphLoadsAndReplays := by
  unfold Obligations.GraphLoadsAndReplays
  rintro ⟨-, -, -, -, -, -, htarget, -⟩
  obtain ⟨t, hexec, -, -, hreached, -⟩ := htarget 0 0 doubledGraph rfl (by decide)
  obtain rfl : doubledGraph.setGraphTarget 0 0 = t :=
    Host.Outcome.next.inj ((exec_graphTargetWrite 0 0 rfl (by decide)).symm.trans hexec)
  have hnone : ((doubledGraph.setGraphTarget 0 0).graph 0).behind = none := (hreached (Nat.zero_le _)).1
  exact nomatch hnone.symm.trans doubledGraph_behind

end Sys2Proof.Machine
end

section
/-!
SUPPORT. Registers and frames as walks and faults leave them: counters in a register file of any form; the frames of one key; and the
words that no transient fault of an engine changes (R596 to R602, R606 to R610).
-/
namespace Sys2Proof.Machine

/-! Counters (R11) -/

/-- A value other than that of an unlisted key is read back, whether or not the table is canonical. -/
theorem tab_getD_putD_of_ne {α : Type} [DecidableEq α] {d v : α} (t : Tab α) (k : Nat) (h : v ≠ d) :
    Tab.getD (Tab.putD d t k v) k d = v := by
  rw [Tab.getD, Tab.putD, if_neg h, Tab.get?_put_same]
  rfl

theorem rword_rput_of_ne_reset (r : RegFile) {off : Nat} {w : Word} (h : w ≠ regReset off) : rword (rput r off w) off = w :=
  tab_getD_putD_of_ne r off h

theorem get_set_of_ne_zero (s : State) {f : Fld} {v : Nat} (hf : f.lsb + f.width ≤ 32) (hr : regReset f.off = 0)
    (hv : v % 2 ^ f.width ≠ 0) : (s.set f v).get f = v % 2 ^ f.width := by
  have hbits : bits (word (putBits (s.regWord f.off).toNat f.lsb f.width v)).toNat f.lsb f.width = v % 2 ^ f.width := by
    rw [word_toNat (putBits_lt (s.regWord f.off).isLt hf), bits_putBits_same]
  have hlisted : word (putBits (s.regWord f.off).toNat f.lsb f.width v) ≠ regReset f.off := by
    intro h
    rw [h, hr] at hbits
    exact hv (hbits.symm.trans (by simp [bits]))
  rw [State.get, State.regWord_eq, State.set, State.setWord_reg, rword_rput_of_ne_reset _ hlisted, hbits]

/-- What a counter holds after a count is never 0, so it is read back from a register file of any form. -/
theorem get_count_of_reset (s : State) {f : Fld} (hf : f.lsb + f.width ≤ 32) (hw : 0 < f.width) (hr : regReset f.off = 0) :
    (s.count f).get f = min (s.get f + 1) (2 ^ f.width - 1) := by
  have htwo : 1 < 2 ^ f.width := Nat.one_lt_two_pow (Nat.ne_of_gt hw)
  have hcut : min (s.get f + 1) (2 ^ f.width - 1) % 2 ^ f.width = min (s.get f + 1) (2 ^ f.width - 1) := Nat.mod_eq_of_lt (by omega)
  have hpos : min (s.get f + 1) (2 ^ f.width - 1) % 2 ^ f.width ≠ 0 := by omega
  exact (get_set_of_ne_zero s hf hr hpos).trans hcut

theorem get_countBy_ne (s : State) {f g : Fld} (n : Nat) (h : g.off ≠ f.off) : (s.countBy f n).get g = s.get g := get_set_ne s _ h

theorem get_count_ne (s : State) {f g : Fld} (h : g.off ≠ f.off) : (s.count f).get g = s.get g := get_set_ne s _ h

theorem onlyWords_count (s : State) (f : Fld) {l : List Nat} (h : f.off ∈ l) : OnlyWords l s (s.count f) := onlyWords_set s f _ h

theorem regWord_count_ne (s : State) {f : Fld} {off : Nat} (h : off ≠ f.off) : (s.count f).regWord off = s.regWord off :=
  regWord_set_ne s _ h

theorem regWord_foldl {α : Type} {off : Nat} {g : State → α → State} (hg : ∀ s x, (g s x).regWord off = s.regWord off) (l : List α)
    (s : State) : (l.foldl g s).regWord off = s.regWord off := by
  induction l generalizing s with
  | nil => rfl
  | cons x l ih => exact (ih (g s x)).trans (hg s x)

/-! Frames -/

theorem frame?_eq_some {s : State} {k : Nat} {f : Frame} (h : s.frame? k = some f) : f ∈ s.frames ∧ f.key = k :=
  ⟨List.mem_of_find?_eq_some h, eq_of_beq (List.find?_some (p := fun f : Frame => f.key == k) h)⟩

/-- A frame that bears the changed key comes from one that bore it. -/
theorem exists_of_mem_modFrame {s : State} {k : Nat} {g : Frame → Frame} {h : Frame} (hm : h ∈ (s.modFrame k g).frames)
    (hk : h.key = k) : ∃ x ∈ s.frames, x.key = k ∧ g x = h := by
  obtain ⟨x, hx, rfl⟩ := List.mem_map.mp hm
  by_cases hkey : x.key = k
  · exact ⟨x, hx, hkey, (if_pos (beq_iff_eq.mpr hkey)).symm⟩
  · rw [if_neg (by simpa using hkey)] at hk
    exact absurd hk hkey

theorem mem_modFrame {s : State} {k : Nat} {x : Frame} (g : Frame → Frame) (hx : x ∈ s.frames) (hk : x.key = k) :
    g x ∈ (s.modFrame k g).frames :=
  List.mem_map.mpr ⟨x, hx, if_pos (beq_iff_eq.mpr hk)⟩

/-! Words that a fault leaves -/

/-- The words below the PBA that a transient fault of an engine may change beside FLT_T_CNT: the event ring's lost records, the ledger's
dropped records and next SEQ, the retirements and the retries. -/
def faultWords : List Nat :=
  [(Fld.HIF_RING_LOST_CNT ringEvt).off, Fld.FLT_LEDGER_DROP_CNT.off, Fld.FLT_LEDGER_NEXT.off, Fld.FLT_RETIRE_CNT.off, Fld.FLT_RETRY_CNT.off]

section
variable {off : Nat} (hp : off < (Fld.MSIX_PBA 0).off)
include hp

theorem flushHeld_regWord (s : State) (q fuel : Nat) : (s.flushHeld q fuel).regWord off = s.regWord off := by
  induction fuel generalizing s with
  | zero => rfl
  | succ fuel ih =>
    simp only [State.flushHeld]
    split
    next => rfl
    next =>
      split
      next => rfl
      next hrec => exact ((ih _).trans (setRing_regWord _ _ _ off)).trans (writeRecord_regWord hp hrec)

theorem pushCq_regWord (s : State) (q : Nat) (h : HeldRec) : (s.pushCq q h).regWord off = s.regWord off :=
  (flushHeld_regWord hp _ _ _).trans (setRing_regWord _ _ _ off)

theorem writeWindow_regWord (s : State) (tag flags : Nat) (key payload : Bytes) :
    (s.writeWindow tag flags key payload).regWord off = s.regWord off := by
  unfold State.writeWindow
  split
  next p s₁ hfree =>
    have hreg : s₁.regWord off = s.regWord off := by
      cases hfree
      rfl
    extract_lets +onlyGivenNames bytes _ s₂
    have hslot : s₂.regWord off = s.regWord off := by
      simp only [s₂]
      split <;> exact hreg
    exact regWord_ite ((sendVector_regWord hp _ _).trans hslot) hslot

/-- R418: a completion changes no word below the PBA. -/
theorem complete_regWord (s : State) (c : CmdRef) (status : Nat) (payload : Bytes) :
    (s.complete c status payload).regWord off = s.regWord off := by
  unfold State.complete
  refine regWord_ite rfl ?_
  extract_lets toWin flags s₁ s₂
  have hwin : s₁.regWord off = s.regWord off := regWord_ite (writeWindow_regWord hp _ _ _ _ _) rfl
  have hcq : s₂.regWord off = s.regWord off := regWord_ite ((pushCq_regWord hp _ _ _).trans hwin) hwin
  exact (setRing_regWord _ _ _ off).trans hcq

theorem ledgerSettle_regWord (s : State) (seq : Nat) (isSealed : Bool) : (s.ledgerSettle seq isSealed).regWord off = s.regWord off := by
  unfold State.ledgerSettle
  refine (regWord_foldl (fun s w => ?_) _ _).trans rfl
  exact regWord_ite (complete_regWord hp _ _ _ _) (complete_regWord hp _ _ _ _)

variable (hf : off ∉ faultWords)
include hf

theorem event_regWord_of_fault (s : State) (code source : Nat) (args : List Nat) :
    (s.event code source args).regWord off = s.regWord off :=
  event_regWord hp s code source args (ne_of_mem_of_not_mem (by decide) hf).symm

theorem ledgerDrop_regWord (s : State) (seq : Option Nat) (type : Nat) : (s.ledgerDrop seq type).regWord off = s.regWord off := by
  have hevent := (event_regWord_of_fault hp hf (s.count Fld.FLT_LEDGER_DROP_CNT) 0x0066 0 [type]).trans
    (regWord_count_ne s (ne_of_mem_of_not_mem (by decide) hf).symm)
  cases seq with
  | none => exact hevent
  | some n => exact (ledgerSettle_regWord hp _ _ _).trans hevent

omit hp in
theorem takeSeq_regWord (s : State) : s.takeSeq.2.regWord off = s.regWord off :=
  regWord_set_ne _ _ (ne_of_mem_of_not_mem (by decide) hf).symm

theorem ledgerKick_regWord (s : State) (fuel : Nat) : (s.ledgerKick fuel).regWord off = s.regWord off := by
  induction fuel generalizing s with
  | zero => rfl
  | succ fuel ih =>
    unfold State.ledgerKick
    refine regWord_ite rfl ?_
    split
    next => rfl
    next r rest hq =>
      extract_lets page fitA fitB
      refine regWord_ite ((ih _).trans ((ledgerDrop_regWord hp hf _ _ _).trans rfl)) ?_
      split
      next r' rest' s₁ hfirst =>
        have hsnap : s₁.regWord off = s.regWord off := by
          split at hfirst
          next => cases hfirst; exact takeSeq_regWord hf s
          next => cases hfirst; rfl
        extract_lets +onlyGivenNames _ s₂ s₃
        have hA : s₃.regWord off = s.regWord off := regWord_ite hsnap hsnap
        exact regWord_ite hA hA

omit hp in
theorem ledgerPush_regWord (s : State) (type : Nat) (content : Bytes) : (s.ledgerPush type content).2.regWord off = s.regWord off :=
  takeSeq_regWord hf s

theorem ledgerRecord_regWord (s : State) (type : Nat) (content : Bytes) :
    (s.ledgerRecord type content).2.regWord off = s.regWord off := by
  unfold State.ledgerRecord
  split
  next => exact (ledgerDrop_regWord hp hf _ _ _).trans rfl
  next =>
    extract_lets +onlyGivenNames s₁ _ s₂
    have hsnap : s₁.regWord off = s.regWord off := regWord_ite (ledgerPush_regWord hf _ _ _) rfl
    exact (ledgerKick_regWord hp hf _ _).trans ((ledgerPush_regWord hf s₂ _ _).trans hsnap)

omit hp in
theorem retryFrame_regWord (s : State) (k : Nat) (st : Stage) : (s.retryFrame k st).2.regWord off = s.regWord off := by
  unfold State.retryFrame
  split
  next => rfl
  next =>
    extract_lets n
    split
    next => exact regWord_count_ne s (ne_of_mem_of_not_mem (by decide) hf).symm
    next => rfl

omit hp in
/-- R242, R243: the walk of a frame starts again, or the frame is UNSCREENED. -/
theorem repeatWalk_regWord (s : State) (k : Nat) : (s.repeatWalk k).regWord off = s.regWord off := by
  unfold State.repeatWalk
  exact regWord_ite (retryFrame_regWord hf s k .gather) (retryFrame_regWord hf s k .gather)

omit hp in
theorem releaseUnit_gather_regWord (s : State) (e : Nat) : (s.releaseUnit ⟨.gather, e⟩).regWord off = s.regWord off := by
  change (List.foldl _ s _).regWord off = _
  refine regWord_foldl (fun s f => ?_) _ s
  exact regWord_ite (retryFrame_regWord hf s f.key .gather) (retryFrame_regWord hf s f.key .gather)

theorem retireUnit_gather_regWord (s : State) (e code count : Nat) :
    (s.retireUnit ⟨.gather, e⟩ code count).regWord off = s.regWord off := by
  unfold State.retireUnit
  refine regWord_ite rfl ?_
  extract_lets +onlyGivenNames _ s₁ s₂
  have hreleased : s₂.regWord off = s.regWord off :=
    (releaseUnit_gather_regWord hf _ _).trans ((regWord_count_ne s₁ (ne_of_mem_of_not_mem (by decide) hf).symm).trans rfl)
  have hfree : (s₂.freeBytes 8).2.regWord off = s₂.regWord off :=
    regWord_congr ((State.freeBytes_touches s₂ 8).reg_eq (by decide)) off
  exact (event_regWord_of_fault hp hf _ _ _ _).trans ((ledgerRecord_regWord hp hf _ _ _).trans (hfree.trans hreleased))

theorem countAgainst_gather_regWord (s : State) (e code : Nat) (correction : Bool) :
    (s.countAgainst ⟨.gather, e⟩ code correction).regWord off = s.regWord off := by
  unfold State.countAgainst
  refine regWord_ite rfl (regWord_ite ?_ rfl)
  exact (retireUnit_gather_regWord hp hf _ _ _ _).trans ((event_regWord_of_fault hp hf _ _ _ _).trans rfl)

end
end Sys2Proof.Machine
end

section
/-!
SUPPORT. The walks of Gather: their start, the grant, the return and the timeout of a read (O35; R217, R223, R231 to R235, R242).
-/
namespace Sys2Proof.Machine

/-! A walk that is stored or ends -/

/-- What becomes of a frame of a walk: the walk goes on, or its output stands in its place. -/
def afterWalk (w : Walk) (x h : Frame) : Prop :=
  h.walkStarted = x.walkStarted ∧ h.walkPin = x.walkPin ∧
    ((walkOver w = false ∧ h.walk = some w) ∨ (walkOver w = true ∧ h.walk = none ∧ h.gather.map (fun g => g.version) = some w.pin))

/-- R223, R226, R227: a walk is stored, or ends with the output of the version it pinned. -/
theorem putWalk_frames {s : State} {f : Frame} {i : Nat} {w : Walk} {h : Frame} (hm : h ∈ (s.putWalk f i w).frames)
    (hk : h.key = f.key) : ∃ x ∈ s.frames, x.key = f.key ∧ afterWalk w x h := by
  unfold State.putWalk at hm
  split at hm
  next hover =>
    obtain ⟨x, hx, hkey, rfl⟩ := exists_of_mem_modFrame hm hk
    exact ⟨x, hx, hkey, rfl, rfl, .inr ⟨hover, rfl, rfl⟩⟩
  next hgoes =>
    obtain ⟨x, hx, hkey, rfl⟩ := exists_of_mem_modFrame hm hk
    exact ⟨x, hx, hkey, rfl, rfl, .inl ⟨Bool.not_eq_true _ ▸ hgoes, rfl⟩⟩

theorem finishWalk_reg (s : State) (f : Frame) (i : Nat) (w : Walk) :
    ∃ misses, (s.finishWalk f i w).reg = ((s.count Fld.GTH_WALK_CNT).countBy Fld.GTH_ROOT_MISS_CNT misses).reg := by
  unfold State.finishWalk
  exact ⟨_, ((State.touchUnit_touches _ _ _).reg_eq (by decide)).trans (State.modFrame_reg _ _ _)⟩

theorem putWalk_walkCnt {s : State} (f : Frame) (i : Nat) {w : Walk} (hover : walkOver w = true) :
    (s.putWalk f i w).get Fld.GTH_WALK_CNT = min (s.get Fld.GTH_WALK_CNT + 1) 0xFFFFFFFF := by
  obtain ⟨misses, hreg⟩ := finishWalk_reg s f i w
  rw [State.putWalk, if_pos hover, get_congr hreg, get_countBy_ne _ _ (by decide)]
  exact get_count_of_reset s (by decide) (by decide) (by decide)

/-! GATHER_WALK_START -/

theorem newWalk_engine (s : State) (f : Frame) (i e c p : Nat) : (s.newWalk f i e c p).engine = e := rfl
theorem newWalk_ctx (s : State) (f : Frame) (i e c p : Nat) : (s.newWalk f i e c p).ctx = c := rfl
theorem newWalk_pin (s : State) (f : Frame) (i e c p : Nat) : (s.newWalk f i e c p).pin = p := rfl

/-- R217, R223, R234: a walk that starts stands in its context with its version pinned, or has nothing to read and ends. -/
theorem startWalk_frames {s : State} {f : Frame} {i e c : Nat} {h : Frame} (hm : h ∈ (s.startWalk f i e c).frames)
    (hk : h.key = f.key) : h.walkStarted = true ∧ h.walkPin = none ∧
      ((∃ w, h.walk = some w ∧ w.engine = e ∧ w.ctx = c ∧ w.pin = s.graphPin f i) ∨
        (h.walk = none ∧ h.gather.map (fun g => g.version) = some (s.graphPin f i))) := by
  obtain ⟨y, hy, hykey, hstarted, hpin, hwalk⟩ := putWalk_frames hm hk
  obtain ⟨x, -, -, rfl⟩ := exists_of_mem_modFrame hy hykey
  refine ⟨hstarted, hpin, ?_⟩
  rcases hwalk with ⟨-, hwalk⟩ | ⟨-, hwalk, hout⟩
  · exact .inl ⟨_, hwalk, newWalk_engine .., newWalk_ctx .., newWalk_pin ..⟩
  · exact .inr ⟨hwalk, hout⟩

theorem exec_gatherWalkStart {s : State} {frame e c i : Nat} {f : Frame} (hf : s.frame? frame = some f)
    (hc : s.freeContext = some (e, c)) (hi : f.strand = some i) (hw : walkWaits f = true) (hl : s.creditsLate f i = false)
    (hr : s.engineRuns .gather e = true) (hs : s.stopped = false) :
    exec (.gatherWalkStart frame) s = .next (s.startWalk f i e c) := by
  change execGatherWalkStart frame s = _
  simp only [execGatherWalkStart, hf, hc, hi, hw, hl, hr, hs]
  rfl

/-- A frame that does not wait for a context, or a device that is stopped. -/
theorem exec_gatherWalkStart_idle {s : State} {frame : Nat} {f : Frame} (hf : s.frame? frame = some f)
    (h : walkWaits f = false ∨ s.stopped = true) : exec (.gatherWalkStart frame) s = .next s := by
  change execGatherWalkStart frame s = _
  rcases hc : s.freeContext with _ | ⟨e, c⟩
  · simp only [execGatherWalkStart, hf, hc]
  · rcases hi : f.strand with _ | i
    · simp only [execGatherWalkStart, hf, hc, hi]
    · simp only [execGatherWalkStart, hf, hc, hi]
      exact if_neg (by rcases h with h | h <;> simp [h])

theorem exec_gatherWalkStart_none {s : State} {frame : Nat} (hf : s.frame? frame = none) :
    exec (.gatherWalkStart frame) s = .next s := by
  change execGatherWalkStart frame s = _
  simp only [execGatherWalkStart, hf]

/-! GATHER_READ_GRANT -/

/-- A choice that keeps the best so far or takes the next comes from the list. -/
theorem mem_of_foldl_choice {α : Type} {g : Option α → α → Option α} (hg : ∀ best x, g best x = some x ∨ g best x = best) {l : List α}
    {best : Option α} {r : α} (h : l.foldl g best = some r) : r ∈ l ∨ best = some r := by
  induction l generalizing best with
  | nil => exact .inr h
  | cons x l ih =>
    rcases ih h with hr | hr
    · exact .inl (List.mem_cons_of_mem _ hr)
    · rcases hg best x with hx | hx
      · exact .inl (Option.some.inj (hx.symm.trans hr) ▸ List.mem_cons_self)
      · exact .inr (hx.symm.trans hr)

/-- The read granted next belongs to a frame with a walk that has a chain at that place. -/
theorem nextRead_spec {s : State} {i : Nat} {replay : Bool} {r : ReadWait} (h : s.nextRead i replay = some r) :
    ∃ f ∈ s.frames, f.key = r.frame ∧ ∃ w, f.walk = some w ∧ r.pos < w.active.length := by
  have hwaits : r ∈ s.readWaits i replay := by
    refine (mem_of_foldl_choice (fun best x => ?_) h).resolve_right nofun
    cases best with
    | none => exact .inl rfl
    | some b =>
      dsimp only
      split
      next => exact .inl rfl
      next => exact .inr rfl
  obtain ⟨f, hf, hr⟩ := List.mem_flatMap.mp hwaits
  split at hr
  next =>
    split at hr
    next w hw =>
      obtain ⟨⟨c, pos⟩, hz, hr⟩ := List.mem_filterMap.mp hr
      split at hr
      next =>
        cases hr
        exact ⟨f, (List.mem_filter.mp hf).1, rfl, w, hw, List.mem_range.mp (List.of_mem_zip hz).2⟩
      next => exact nomatch hr
    next => exact nomatch hr
  next => exact nomatch hr

theorem getElem?_modifyAt_same {α : Type} (l : List α) (i : Nat) (g : α → α) : (modifyAt l i g)[i]? = l[i]?.map g := by
  induction l generalizing i with
  | nil => cases i <;> rfl
  | cons x xs ih =>
    cases i with
    | zero => rfl
    | succ i => exact ih i

/-- R235: the granted read is marked with this tick. -/
theorem markGranted_frames {s t : State} {r : ReadWait} {f : Frame} {w : Walk} (hframes : t.frames = s.frames) (hnow : t.now = s.now)
    (hf : f ∈ s.frames) (hk : f.key = r.frame) (hw : f.walk = some w) (hpos : r.pos < w.active.length) :
    ∃ h ∈ (t.markGranted r).frames, h.key = r.frame ∧ ∃ w, h.walk = some w ∧
      (w.active[r.pos]?).map (fun x => x.granted) = some (some s.now) := by
  refine ⟨_, mem_modFrame _ (hframes ▸ hf) hk, hk, _, congrArg (Option.map _) hw, ?_⟩
  rw [getElem?_modifyAt_same, List.getElem?_eq_getElem hpos, hnow]
  rfl

theorem markGranted_get (s : State) (r : ReadWait) {g : Fld} (h : g.off ≠ Fld.GTH_READ_CNT.off) : (s.markGranted r).get g = s.get g :=
  get_count_ne (s.modFrame r.frame _) h

theorem markGranted_onlyWords (s : State) (r : ReadWait) {l : List Nat} (h : Fld.GTH_READ_CNT.off ∈ l) :
    OnlyWords l s (s.markGranted r) := by
  unfold State.markGranted
  exact onlyWords_count (s.modFrame r.frame _) _ h

theorem markGranted_readCnt (s : State) (r : ReadWait) :
    (s.markGranted r).get Fld.GTH_READ_CNT = min (s.get Fld.GTH_READ_CNT + 1) 0xFFFFFFFF :=
  get_count_of_reset (s.modFrame r.frame _) (by decide) (by decide) (by decide)

/-- R231: a read of a Strand is granted from a pool of its own, or of its Twin's. -/
theorem exec_gatherReadGrant_reserved {s : State} {strand : Fin 32} {r : ReadWait} {j : Nat} (hs : s.stopped = false)
    (hr : s.nextRead strand.val false = some r) (hj : s.poolFor strand.val = some j) :
    exec (.gatherReadGrant strand) s = .next (s.grantReserved j r) := by
  change execGatherReadGrant strand s = _
  simp only [execGatherReadGrant, hs, hr, hj]
  rfl

/-- R67, R231: a read of a Strand is granted from the spare pool. -/
theorem exec_gatherReadGrant_spare {s : State} {strand : Fin 32} {r : ReadWait} (hs : s.stopped = false)
    (hr : s.nextRead strand.val false = some r) (hj : s.poolFor strand.val = none) (hc : s.spareReader = some strand.val)
    (hp : 5 ≤ s.get Fld.GTH_SPARE_POOL) : exec (.gatherReadGrant strand) s = .next (s.grantSpare strand.val false r) := by
  change execGatherReadGrant strand s = _
  simp only [execGatherReadGrant, hs, hr, hj, hc, Nat.ble_eq_true_of_le hp]
  rfl

theorem exec_gatherReadGrant_none {s : State} {strand : Fin 32} (h : s.nextRead strand.val false = none)
    (hreplay : s.nextRead strand.val true = none) : exec (.gatherReadGrant strand) s = .next s := by
  change execGatherReadGrant strand s = _
  simp only [execGatherReadGrant, h, hreplay, ite_self]

/-- No pool covers a read. -/
theorem exec_gatherReadGrant_dry {s : State} {strand : Fin 32} (hj : s.poolFor strand.val = none)
    (hp : s.get Fld.GTH_SPARE_POOL < 5) : exec (.gatherReadGrant strand) s = .next s := by
  change execGatherReadGrant strand s = _
  have hble : Nat.ble 5 (s.get Fld.GTH_SPARE_POOL) = false := by rwa [← Bool.not_eq_true, Nat.ble_eq, Nat.not_le]
  simp only [execGatherReadGrant, hj, hble, Bool.and_false, Bool.false_eq_true, if_false]
  cases s.nextRead strand.val false <;> cases s.nextRead strand.val true <;> exact ite_self _

/-- The pools stand past every other counter that a grant writes. -/
theorem pool_off_ne (j : Nat) {off : Nat} (h : off < 0x80204) : (Fld.GTH_STRAND_POOL j).off ≠ off := by
  have hge : 0x80204 ≤ (Fld.GTH_STRAND_POOL j).off := Nat.le_add_right _ _
  omega

theorem grantReserved_frames {s : State} {i : Nat} {replay : Bool} {r : ReadWait} (j : Nat) (h : s.nextRead i replay = some r) :
    ∃ h ∈ (s.grantReserved j r).frames, h.key = r.frame ∧ ∃ w, h.walk = some w ∧
      (w.active[r.pos]?).map (fun x => x.granted) = some (some s.now) := by
  obtain ⟨f, hf, hk, w, hw, hpos⟩ := nextRead_spec h
  unfold State.grantReserved
  exact markGranted_frames (by simp) (by simp) hf hk hw hpos

/-- R229: a read costs 5 fifths of the pool that covers it. -/
theorem grantReserved_pool {s : State} (h : regFileWf s.reg = true) (j : Nat) (r : ReadWait) :
    (s.grantReserved j r).get (Fld.GTH_STRAND_POOL j) = s.get (Fld.GTH_STRAND_POOL j) - 5 := by
  have hlt : s.get (Fld.GTH_STRAND_POOL j) < 2 ^ 16 := rget_lt s.reg (Fld.GTH_STRAND_POOL j)
  have hcut : (s.get (Fld.GTH_STRAND_POOL j) - 5) % 2 ^ 16 = s.get (Fld.GTH_STRAND_POOL j) - 5 := Nat.mod_eq_of_lt (by omega)
  rw [State.grantReserved, markGranted_get _ _ (pool_off_ne j (by decide)), get_count_ne _ (pool_off_ne j (by decide)),
    get_set_same h _ _ (show 0 + 16 ≤ 32 by decide)]
  exact hcut

theorem grantReserved_grantCnt (s : State) (j : Nat) (r : ReadWait) :
    (s.grantReserved j r).get (Fld.TID_STAGE_GRANT_CNT 3) = min (s.get (Fld.TID_STAGE_GRANT_CNT 3) + 1) 0xFFFFFFFF := by
  rw [State.grantReserved, markGranted_get _ _ (by decide), get_count_of_reset _ (by decide) (by decide) (by decide),
    get_set_ne _ _ (pool_off_ne j (by decide)).symm]
  rfl

theorem grantReserved_readCnt (s : State) (j : Nat) (r : ReadWait) :
    (s.grantReserved j r).get Fld.GTH_READ_CNT = min (s.get Fld.GTH_READ_CNT + 1) 0xFFFFFFFF := by
  rw [State.grantReserved, markGranted_readCnt, get_count_ne _ (by decide), get_set_ne _ _ (pool_off_ne j (by decide)).symm]

theorem grantReserved_onlyWords (s : State) (j : Nat) (r : ReadWait) :
    OnlyWords [(Fld.GTH_STRAND_POOL j).off, (Fld.TID_STAGE_GRANT_CNT 3).off, Fld.GTH_READ_CNT.off] s (s.grantReserved j r) := by
  unfold State.grantReserved
  exact ((onlyWords_set s _ _ (by simp)).trans (onlyWords_count _ _ (by simp))).trans (markGranted_onlyWords _ _ (by simp))

/-- R67: the spare pool is charged for a read of Strand `i`, which goes last in its turn. -/
def State.spareCharged (s : State) (i : Nat) : State :=
  { s.set Fld.GTH_SPARE_POOL (s.get Fld.GTH_SPARE_POOL - 5) with gth := { s.gth with spareOrder := Machine.served s.gth.spareOrder i } }

theorem grantSpare_eq (s : State) (i : Nat) (r : ReadWait) :
    s.grantSpare i false r = ((s.spareCharged i).count (Fld.TID_STAGE_SPARE_CNT 3)).markGranted r := rfl

theorem spareCharged_get (s : State) (i : Nat) (g : Fld) :
    (s.spareCharged i).get g = (s.set Fld.GTH_SPARE_POOL (s.get Fld.GTH_SPARE_POOL - 5)).get g :=
  get_congr rfl g

theorem grantSpare_frames {s : State} {i : Nat} {r : ReadWait} (h : s.nextRead i false = some r) :
    ∃ h ∈ (s.grantSpare i false r).frames, h.key = r.frame ∧ ∃ w, h.walk = some w ∧
      (w.active[r.pos]?).map (fun x => x.granted) = some (some s.now) := by
  obtain ⟨f, hf, hk, w, hw, hpos⟩ := nextRead_spec h
  rw [grantSpare_eq]
  exact markGranted_frames (by simp [State.spareCharged]) (by simp [State.spareCharged]) hf hk hw hpos

theorem grantSpare_pool {s : State} (h : regFileWf s.reg = true) (i : Nat) (r : ReadWait) :
    (s.grantSpare i false r).get Fld.GTH_SPARE_POOL = s.get Fld.GTH_SPARE_POOL - 5 := by
  have hlt : s.get Fld.GTH_SPARE_POOL < 2 ^ 17 := rget_lt s.reg Fld.GTH_SPARE_POOL
  have hcut : (s.get Fld.GTH_SPARE_POOL - 5) % 2 ^ 17 = s.get Fld.GTH_SPARE_POOL - 5 := Nat.mod_eq_of_lt (by omega)
  rw [grantSpare_eq, markGranted_get _ _ (by decide), get_count_ne _ (by decide), spareCharged_get, get_set_same h _ _ (by decide)]
  exact hcut

theorem grantSpare_spareCnt (s : State) (i : Nat) (r : ReadWait) :
    (s.grantSpare i false r).get (Fld.TID_STAGE_SPARE_CNT 3) = min (s.get (Fld.TID_STAGE_SPARE_CNT 3) + 1) 0xFFFFFFFF := by
  rw [grantSpare_eq, markGranted_get _ _ (by decide), get_count_of_reset _ (by decide) (by decide) (by decide), spareCharged_get,
    get_set_ne _ _ (by decide)]
  rfl

theorem grantSpare_readCnt (s : State) (i : Nat) (r : ReadWait) :
    (s.grantSpare i false r).get Fld.GTH_READ_CNT = min (s.get Fld.GTH_READ_CNT + 1) 0xFFFFFFFF := by
  rw [grantSpare_eq, markGranted_readCnt, get_count_ne _ (by decide), spareCharged_get, get_set_ne _ _ (by decide)]

/-! GATHER_READ_RETURN, GATHER_READ_TIMEOUT -/

theorem exec_gatherReadReturn_ok {s : State} {frame pos : Nat} {f : Frame} {i : Nat} {w : Walk} {tick : Nat}
    (h : s.readAt frame pos = some (f, i, w, tick)) (ht : 75 ≤ s.since tick) :
    exec (.gatherReadReturn frame pos .ok) s = .next ((s.touchUnit .gather w.engine).putWalk f i (returnRead s.now pos w)) := by
  change execGatherReadReturn frame pos .ok s = _
  simp only [execGatherReadReturn, h, Nat.ble_eq_true_of_le ht]
  rfl

theorem exec_gatherReadReturn_none {s : State} {frame pos : Nat} (read : UnitEnd) (h : s.readAt frame pos = none) :
    exec (.gatherReadReturn frame pos read) s = .next s := by
  change execGatherReadReturn frame pos read s = _
  simp only [execGatherReadReturn, h]

theorem exec_gatherReadReturn_early {s : State} {frame pos : Nat} (read : UnitEnd) {f : Frame} {i : Nat} {w : Walk} {tick : Nat}
    (h : s.readAt frame pos = some (f, i, w, tick)) (ht : s.since tick < 75) :
    exec (.gatherReadReturn frame pos read) s = .next s := by
  change execGatherReadReturn frame pos read s = _
  simp only [execGatherReadReturn, h]
  exact if_neg (by simpa using ht)

/-- A read stands in the walk of the frame that it names. -/
theorem readAt_key {s : State} {frame pos : Nat} {f : Frame} {i : Nat} {w : Walk} {tick : Nat}
    (h : s.readAt frame pos = some (f, i, w, tick)) : f.key = frame := by
  unfold State.readAt at h
  split at h
  next g hg =>
    split at h
    next =>
      obtain ⟨x, -, hx⟩ := Option.map_eq_some_iff.mp h
      cases hx
      exact (frame?_eq_some hg).2
    next => exact nomatch h
  next => exact nomatch h

theorem exec_gatherReadTimeout {s : State} {frame pos : Nat} {f : Frame} {i : Nat} {w : Walk} {tick : Nat}
    (h : s.readAt frame pos = some (f, i, w, tick)) (ht : 5000 ≤ s.since tick) :
    exec (.gatherReadTimeout frame pos) s =
      .next (((s.count Fld.GTH_READ_TMO_CNT).transient (some ⟨.gather, w.engine⟩) 0x0402).repeatWalk frame) := by
  change execGatherReadTimeout frame pos s = _
  simp only [execGatherReadTimeout, h, Nat.ble_eq_true_of_le ht, if_true, readAt_key h]

theorem exec_gatherReadTimeout_early {s : State} {frame pos : Nat} {f : Frame} {i : Nat} {w : Walk} {tick : Nat}
    (h : s.readAt frame pos = some (f, i, w, tick)) (ht : s.since tick < 5000) :
    exec (.gatherReadTimeout frame pos) s = .next s := by
  change execGatherReadTimeout frame pos s = _
  simp only [execGatherReadTimeout, h]
  exact if_neg (by simpa using ht)

theorem exec_gatherReadTimeout_none {s : State} {frame pos : Nat} (h : s.readAt frame pos = none) :
    exec (.gatherReadTimeout frame pos) s = .next s := by
  change execGatherReadTimeout frame pos s = _
  simp only [execGatherReadTimeout, h]

theorem restartWalk_walk (f : Frame) : (restartWalk f).walk = none := by
  unfold restartWalk
  split
  next => rfl
  next h => exact h

/-- R242: a walk that meets a fault leaves its context, whether or not it starts again. -/
theorem repeatWalk_frames {s : State} {k : Nat} {h : Frame} (hm : h ∈ (s.repeatWalk k).frames) (hk : h.key = k) : h.walk = none := by
  unfold State.repeatWalk at hm
  split at hm
  next =>
    split at hm
    next =>
      obtain ⟨x, -, -, rfl⟩ := exists_of_mem_modFrame hm hk
      exact restartWalk_walk x
    next =>
      obtain ⟨x, -, -, rfl⟩ := exists_of_mem_modFrame hm hk
      rfl

section
variable (s : State) (e code : Nat)

/-- R596: a transient fault of a Gather engine counts once. -/
theorem transient_gather_cnt :
    (s.transient (some ⟨.gather, e⟩) code).get Fld.FLT_T_CNT = min (s.get Fld.FLT_T_CNT + 1) 0xFFFFFFFF :=
  (get_of_regWord (countAgainst_gather_regWord (by decide) (by decide) _ _ _ _)).trans
    (get_count_of_reset s (by decide) (by decide) (by decide))

theorem transient_gather_regWord {off : Nat} (hp : off < (Fld.MSIX_PBA 0).off) (hf : off ∉ faultWords) (ht : off ≠ Fld.FLT_T_CNT.off) :
    (s.transient (some ⟨.gather, e⟩) code).regWord off = s.regWord off :=
  (countAgainst_gather_regWord hp hf _ _ _ _).trans (regWord_count_ne s ht)

end

end Sys2Proof.Machine
end

section
/-!
SUPPORT. Credits at their deadline and at a boundary, and items found stale (O35; R68, R229, R232, R240, R551).
-/
namespace Sys2Proof.Machine

/-! CREDIT_DEADLINE -/

theorem exec_creditDeadline {s : State} {frame i : Nat} {f : Frame} (hf : s.frame? frame = some f) (hi : f.strand = some i)
    (hl : lacksCredit f = true) (hc : s.creditsLate f i = true) : exec (.creditDeadline frame) s = .next (s.creditFail frame) := by
  change execCreditDeadline frame s = _
  simp only [execCreditDeadline, hf, hi, hl, hc]
  rfl

theorem exec_creditDeadline_granted {s : State} {frame : Nat} {f : Frame} (hf : s.frame? frame = some f) (hl : lacksCredit f = false) :
    exec (.creditDeadline frame) s = .next s := by
  change execCreditDeadline frame s = _
  rcases hi : f.strand with _ | i
  · simp only [execCreditDeadline, hf, hi]
  · simp only [execCreditDeadline, hf, hi, hl]
    rfl

theorem exec_creditDeadline_none {s : State} {frame : Nat} (hf : s.frame? frame = none) : exec (.creditDeadline frame) s = .next s := by
  change execCreditDeadline frame s = _
  simp only [execCreditDeadline, hf]

theorem addCause_walk (r : Reason) (f : Frame) : (addCause r f).walk = f.walk := by
  unfold addCause
  split <;> rfl

/-- R45, R371: a cause is registered unless the frame's outcome is final. -/
theorem addCause_registers (r : Reason) (f : Frame) : (addCause r f).decided = true ∨ r ∈ (addCause r f).causes := by
  unfold addCause
  split
  next h => simpa using h
  next => exact .inr List.mem_cons_self

/-- R232: a walk that lacks a credit at its deadline ends, and its frame is UNSCREENED for want of credits. -/
theorem creditFail_frames {s : State} {k : Nat} {h : Frame} (hm : h ∈ (s.creditFail k).frames) (hk : h.key = k) :
    h.walk = none ∧ (h.decided = true ∨ .credit ∈ h.causes) := by
  obtain ⟨y, hy, hykey, rfl⟩ := exists_of_mem_modFrame (s := ((s.modFrame k _).count _).setBits _ _) (g := addCause .credit) hm hk
  obtain ⟨x, -, -, rfl⟩ := exists_of_mem_modFrame hy hykey
  exact ⟨addCause_walk _ _, addCause_registers _ _⟩

theorem creditFail_reg (s : State) (k : Nat) :
    (s.creditFail k).reg = ((s.count Fld.GTH_CREDIT_FAIL_CNT).setBits Fld.TID_SAT_STATUS 1).reg := rfl

theorem creditFail_cnt (s : State) (k : Nat) :
    (s.creditFail k).get Fld.GTH_CREDIT_FAIL_CNT = min (s.get Fld.GTH_CREDIT_FAIL_CNT + 1) 0xFFFFFFFF := by
  rw [get_congr (creditFail_reg s k), State.setBits, get_set_ne _ _ (by decide)]
  exact get_count_of_reset s (by decide) (by decide) (by decide)

/-- R81: the bit of want of credits. -/
theorem creditFail_sat (s : State) (k : Nat) : (s.creditFail k).get Fld.TID_SAT_STATUS = s.get Fld.TID_SAT_STATUS ||| 1 := by
  have hkept : (s.count Fld.GTH_CREDIT_FAIL_CNT).get Fld.TID_SAT_STATUS = s.get Fld.TID_SAT_STATUS := get_count_ne s (by decide)
  have hlt : s.get Fld.TID_SAT_STATUS ||| 1 < 2 ^ 6 := Nat.or_lt_two_pow (rget_lt s.reg Fld.TID_SAT_STATUS) (by decide)
  have hcut : (s.get Fld.TID_SAT_STATUS ||| 1) % 2 ^ 6 = s.get Fld.TID_SAT_STATUS ||| 1 := Nat.mod_eq_of_lt hlt
  have hpos : (s.get Fld.TID_SAT_STATUS ||| 1) % 2 ^ 6 ≠ 0 := by
    rw [hcut]
    exact Nat.ne_of_gt (Nat.lt_of_lt_of_le Nat.one_pos Nat.right_le_or)
  rw [get_congr (creditFail_reg s k), State.setBits, hkept, get_set_of_ne_zero _ (by decide) (by decide) hpos]
  exact hcut

theorem creditFail_onlyWords (s : State) (k : Nat) :
    OnlyWords [Fld.GTH_CREDIT_FAIL_CNT.off, Fld.TID_SAT_STATUS.off] s (s.creditFail k) :=
  ((onlyWords_count s Fld.GTH_CREDIT_FAIL_CNT (by simp)).trans (onlyWords_set _ Fld.TID_SAT_STATUS _ (by simp))).trans
    (onlyWords_congr _ (creditFail_reg s k))

/-! CREDIT_BOUNDARY -/

/-- R229: what the pool of a Strand takes at a boundary. -/
def State.poolShare (s : State) (i : Nat) : Nat := if s.strandState i = .off then 0 else 152 * (s.strand i).shares.getD 3 0

/-- R229: the pools of the Strands below `n` are filled. -/
def State.fillStrandPools (s : State) (n : Nat) : State := (upto n).foldl (fun s i => s.set (Fld.GTH_STRAND_POOL i) (s.poolShare i)) s

theorem fillStrandPools_succ (s : State) (n : Nat) :
    s.fillStrandPools (n + 1) = (s.fillStrandPools n).set (Fld.GTH_STRAND_POOL n) ((s.fillStrandPools n).poolShare n) := by
  simp only [State.fillStrandPools, upto, List.range_succ, List.foldl_append, List.foldl_cons, List.foldl_nil]

theorem fillStrandPools_touches (s : State) (n : Nat) : Touches [.reg] s (s.fillStrandPools n) :=
  Touches.foldl (Touches.refl _ _) (fun t _ h => h.trans (State.set_touches t _ _))

theorem fillStrandPools_poolShare (s : State) (n i : Nat) : (s.fillStrandPools n).poolShare i = s.poolShare i := by
  simp only [State.poolShare, State.strandState, State.strand, (fillStrandPools_touches s n).strands_eq (by decide)]
  congr

theorem fillStrandPools_get {s : State} (h : regFileWf s.reg = true) {n i : Nat} (hi : i < n) :
    (s.fillStrandPools n).get (Fld.GTH_STRAND_POOL i) = s.poolShare i % 2 ^ 16 := by
  induction n with
  | zero => exact absurd hi (Nat.not_lt_zero _)
  | succ n ih =>
    rw [fillStrandPools_succ, fillStrandPools_poolShare]
    by_cases hin : i = n
    · subst hin
      exact get_set_same ((fillStrandPools_touches s i).grows .reg h) _ _ (show 0 + 16 ≤ 32 by decide)
    · have hoff : (Fld.GTH_STRAND_POOL i).off ≠ (Fld.GTH_STRAND_POOL n).off := by
        simp only [Fld.GTH_STRAND_POOL]
        omega
      exact (get_set_ne _ _ hoff).trans (ih (by omega))

/-- R229: the Strands' pools and the delta pool take their shares, and the spare pool the rest. -/
theorem fillPools_eq (s : State) : ∃ rest, s.fillPools =
    { (s.fillStrandPools 32).set Fld.GTH_SPARE_POOL rest with
      gth := { (s.fillStrandPools 32).gth with deltaPool := 152 * s.get Fld.GTH_CTL_DELTA_SHARE } } := ⟨_, rfl⟩

theorem fillPools_get {s : State} (h : regFileWf s.reg = true) {i : Nat} (hi : i < 32) :
    s.fillPools.get (Fld.GTH_STRAND_POOL i) = s.poolShare i % 2 ^ 16 := by
  obtain ⟨rest, heq⟩ := fillPools_eq s
  have hreg : s.fillPools.reg = ((s.fillStrandPools 32).set Fld.GTH_SPARE_POOL rest).reg := by rw [heq]
  rw [get_congr hreg, get_set_ne _ _ (pool_off_ne i (by decide)), fillStrandPools_get h hi]

theorem fillPools_gth (s : State) : s.fillPools.gth = { s.gth with deltaPool := 152 * s.get Fld.GTH_CTL_DELTA_SHARE } := by
  obtain ⟨rest, heq⟩ := fillPools_eq s
  rw [heq, (fillStrandPools_touches s 32).gth_eq (by decide)]

/-- R68, R229, R247: the shares are latched, and once credits are issued the pools are filled. -/
def State.atBoundary (s : State) : State := if s.gth.issuing then s.latchShares.fillPools else s.latchShares

theorem exec_creditBoundary {s : State} (hn : s.now % 2048 = 0) (hp : s.gth.period ≠ some (s.now / 2048)) :
    exec .creditBoundary s = .next s.atBoundary := by
  change execCreditBoundary s = _
  simp only [execCreditBoundary, hn, decide_true, Bool.true_and, bne_iff_ne.mpr hp, if_true]
  rfl

theorem exec_creditBoundary_idle {s : State} (h : s.now % 2048 ≠ 0 ∨ s.gth.period = some (s.now / 2048)) :
    exec .creditBoundary s = .next s := by
  change execCreditBoundary s = _
  exact if_neg (by rcases h with h | h <;> simp [h])

theorem atBoundary_gth (s : State) : s.atBoundary.gth =
    { s.gth with
      deltaPool := if s.gth.issuing then 152 * s.get Fld.GTH_CTL_DELTA_SHARE else s.gth.deltaPool
      holder := (upto 32).map s.shareHolder
      period := some (s.now / 2048) } := by
  unfold State.atBoundary
  split
  next => exact fillPools_gth _
  next => rfl

theorem atBoundary_reg {s : State} (h : s.gth.issuing = false) : s.atBoundary.reg = s.reg := by
  rw [State.atBoundary, h]
  rfl

theorem atBoundary_pool {s : State} (hwf : regFileWf s.reg = true) (h : s.gth.issuing = true) {i : Nat} (hi : i < 32) :
    s.atBoundary.get (Fld.GTH_STRAND_POOL i) = s.poolShare i % 2 ^ 16 := by
  rw [State.atBoundary, if_pos h]
  exact fillPools_get (s := s.latchShares) hwf hi

/-- Table 2-6: of a request nothing changes but whether its slot counts. -/
theorem atBoundary_requests (s : State) : s.atBoundary.srv.requests.map (fun r => { r with counted := true }) =
    s.srv.requests.map (fun r => { r with counted := true }) := by
  have hsrv : s.atBoundary.srv = s.latchShares.srv := by
    unfold State.atBoundary
    split
    next => exact (State.fillPools_touches _).srv_eq (by decide)
    next => rfl
  rw [hsrv]
  exact List.map_map

/-! STALE_GRACE_EXPIRY -/

/-- R240, R551: an item is found stale. -/
def State.foundStale (s : State) (n : Nat) : State :=
  if (itemOf n).1 = .graph then s.modGraph (itemOf n).2 (fun g => { g with expired := true })
  else { s with fab := { s.fab with stale := s.fab.stale ++ [n] } }

/-- Whether an item has been found stale. -/
def State.knownStale (s : State) (n : Nat) : Bool :=
  if (itemOf n).1 = .graph then (s.graph (itemOf n).2).expired else s.fab.stale.contains n

theorem exec_staleGraceExpiry {s : State} {item : Fin 180} {tick : Nat}
    (hb : (s.graceOf (itemOf item.val).1 (itemOf item.val).2).2 = some tick)
    (ht : 500000 * (s.graceOf (itemOf item.val).1 (itemOf item.val).2).1 < s.since tick) (hk : s.knownStale item.val = false) :
    ∃ source args, exec (.staleGraceExpiry item) s =
      .next (((s.foundStale item.val).count Fld.FAB_STALE_CNT).event 0x0086 source args).reviewStrands := by
  have hble : Nat.ble (s.since tick) (500000 * (s.graceOf (itemOf item.val).1 (itemOf item.val).2).1) = false := by
    rwa [← Bool.not_eq_true, Nat.ble_eq, Nat.not_le]
  change ∃ source args, execStaleGraceExpiry item s = _
  unfold State.knownStale at hk
  simp only [execStaleGraceExpiry, hb, hk, hble, Bool.or_self, Bool.false_eq_true, if_false]
  exact ⟨_, _, rfl⟩

theorem exec_staleGraceExpiry_level {s : State} {item : Fin 180}
    (hb : (s.graceOf (itemOf item.val).1 (itemOf item.val).2).2 = none) : exec (.staleGraceExpiry item) s = .next s := by
  change execStaleGraceExpiry item s = _
  simp only [execStaleGraceExpiry, hb]

theorem exec_staleGraceExpiry_grace {s : State} {item : Fin 180} {tick : Nat}
    (hb : (s.graceOf (itemOf item.val).1 (itemOf item.val).2).2 = some tick)
    (ht : s.since tick ≤ 500000 * (s.graceOf (itemOf item.val).1 (itemOf item.val).2).1) :
    exec (.staleGraceExpiry item) s = .next s := by
  change execStaleGraceExpiry item s = _
  simp only [execStaleGraceExpiry, hb, Nat.ble_eq_true_of_le ht, Bool.or_true, if_true]

/-- A graph that is not as after reset is read back. -/
theorem graph_modGraph {s : State} {g : Nat} {f : Graph → Graph} (h : f (s.graph g) ≠ Graph.empty) :
    (s.modGraph g f).graph g = f (s.graph g) :=
  tab_getD_putD_of_ne s.gth.graphs g h

theorem foundStale_known (s : State) (n : Nat) : (s.foundStale n).knownStale n = true := by
  unfold State.foundStale State.knownStale
  split
  next => rw [graph_modGraph (fun h => Bool.noConfusion (show true = false from congrArg Graph.expired h))]
  next => simp

theorem foundStale_reg (s : State) (n : Nat) : (s.foundStale n).reg = s.reg := by
  unfold State.foundStale
  split <;> rfl

/-- An item found stale is stale. -/
theorem itemStale_of_known {s : State} {n : Nat} (h : s.knownStale n = true) : s.itemStale n = true := by
  unfold State.knownStale at h
  unfold State.itemStale
  split
  next g hitem =>
    rw [hitem, if_pos rfl] at h
    simp only [State.graphStale, h, Bool.true_or]
  next hitem =>
    rwa [if_neg (fun hgraph => hitem _ (Prod.ext hgraph rfl))] at h

theorem knownStale_congr {s t : State} (hg : t.gth = s.gth) (hf : t.fab = s.fab) (n : Nat) : t.knownStale n = s.knownStale n := by
  simp only [State.knownStale, State.graph, hg, hf]

theorem strandExclude_regWord (s : State) (i : Nat) {off : Nat} (h : off ≠ Fld.TID_SAT_STATUS.off) :
    (s.strandExclude i).regWord off = s.regWord off := by
  unfold State.strandExclude
  exact regWord_ite ((regWord_set_ne _ _ h).trans rfl) rfl

theorem startSwaps_regWord (s : State) (off : Nat) : s.startSwaps.regWord off = s.regWord off := by
  unfold State.startSwaps
  refine regWord_foldl (fun s w => ?_) _ s
  exact regWord_ite rfl rfl

theorem strandReturn_regWord (s : State) (i off : Nat) : (s.strandReturn i).regWord off = s.regWord off := by
  unfold State.strandReturn
  exact regWord_ite ((startSwaps_regWord _ off).trans rfl) rfl

/-- R76, R81: the review of the Strands writes TID_SAT_STATUS alone. -/
theorem reviewStrands_regWord (s : State) {off : Nat} (h : off ≠ Fld.TID_SAT_STATUS.off) :
    s.reviewStrands.regWord off = s.regWord off := by
  unfold State.reviewStrands
  refine regWord_foldl (fun s i => ?_) _ s
  split
  next => exact regWord_ite (strandExclude_regWord s i h) rfl
  next => exact regWord_ite rfl (strandReturn_regWord s i off)
  next => rfl

section
variable (s : State) (n code source : Nat) (args : List Nat)

theorem staleFound_cnt : ((((s.foundStale n).count Fld.FAB_STALE_CNT).event code source args).reviewStrands).get Fld.FAB_STALE_CNT =
    min (s.get Fld.FAB_STALE_CNT + 1) 0xFFFFFFFF := by
  rw [get_of_regWord (reviewStrands_regWord _ (by decide)), get_of_regWord (event_regWord (by decide) _ _ _ _ (by decide)),
    get_count_of_reset _ (by decide) (by decide) (by decide), get_congr (foundStale_reg s n)]
  rfl

theorem staleFound_known :
    ((((s.foundStale n).count Fld.FAB_STALE_CNT).event code source args).reviewStrands).knownStale n = true := by
  have hevent := State.event_touches ((s.foundStale n).count Fld.FAB_STALE_CNT) code source args
  have hreview := State.reviewStrands_touches (((s.foundStale n).count Fld.FAB_STALE_CNT).event code source args)
  rw [knownStale_congr (hreview.gth_eq (by decide)) (hreview.fab_eq (by decide)),
    knownStale_congr (hevent.gth_eq (by decide)) (hevent.fab_eq (by decide)),
    knownStale_congr (State.count_gth _ _) (State.count_fab _ _)]
  exact foundStale_known s n

end

/-! The clauses of O35 -/

/-- Settles O35: each command is the operation that its guards name, or the idle step; what it leaves of the frame, the counters and the
pools is said once for that operation. -/
theorem walksAndCredits : Obligations.WalksAndCredits := by
  unfold Obligations.WalksAndCredits
  refine ⟨?start, ?startIdle, ?startNone, ?grantReserved, ?grantSpare, ?grantNone, ?grantDry, ?returnOk, ?returnNone, ?returnEarly,
    ?timeout, ?timeoutEarly, ?timeoutNone, ?deadline, ?deadlineGranted, ?deadlineNone, ?boundary, ?boundaryIdle, ?stale, ?staleLevel,
    ?staleGrace⟩
  case start =>
    intro frame e c i f s hf hc hi hw hl hr hs
    refine ⟨_, exec_gatherWalkStart hf hc hi hw hl hr hs, ?_, State.startWalk_touches ..⟩
    exact fun h hm hk => startWalk_frames hm (hk.trans (frame?_eq_some hf).2.symm)
  case startIdle => exact fun frame f s hf h => exec_gatherWalkStart_idle hf h
  case startNone => exact fun frame s hf => exec_gatherWalkStart_none hf
  case grantReserved =>
    intro strand r j s hwf hs hr hj
    exact ⟨_, exec_gatherReadGrant_reserved hs hr hj, grantReserved_pool hwf j r, grantReserved_frames j hr,
      grantReserved_grantCnt s j r, grantReserved_readCnt s j r, grantReserved_onlyWords s j r, State.grantReserved_touches s j r⟩
  case grantSpare =>
    intro strand r s hwf hs hr hj hc hp
    exact ⟨_, exec_gatherReadGrant_spare hs hr hj hc hp, grantSpare_pool hwf _ r, grantSpare_frames hr,
      grantSpare_spareCnt s _ r, grantSpare_readCnt s _ r, State.grantSpare_touches s _ false r⟩
  case grantNone => exact fun strand s h hreplay => exec_gatherReadGrant_none h hreplay
  case grantDry => exact fun strand s hj hp => exec_gatherReadGrant_dry hj hp
  case returnOk =>
    intro frame pos f i w tick s h ht
    have htouch := State.touchUnit_touches s .gather w.engine
    refine ⟨_, exec_gatherReadReturn_ok h ht, ?_, ?_, (State.putWalk_touches ..).after rfl (htouch.mono rfl)⟩
    · intro g hm hk
      obtain ⟨x, -, -, -, -, hgoes | ⟨hover, hwalk, hout⟩⟩ := putWalk_frames hm (hk.trans (readAt_key h).symm)
      · exact .inl hgoes
      · have hsome : (g.gather.map (fun o => o.version)).isSome = true := by rw [hout]; rfl
        exact .inr ⟨hover, hwalk, Option.isSome_map.symm.trans hsome⟩
    · intro hover
      exact (putWalk_walkCnt f i hover).trans (by rw [get_congr (htouch.reg_eq (by decide))])
  case returnNone => exact fun frame pos read s h => exec_gatherReadReturn_none read h
  case returnEarly => exact fun frame pos read f i w tick s h ht => exec_gatherReadReturn_early read h ht
  case timeout =>
    intro frame pos f i w tick s h ht
    have hexec := exec_gatherReadTimeout h ht
    refine ⟨_, hexec, fun g hm hk => repeatWalk_frames hm hk, ?_, ?_, (execGatherReadTimeout_answers frame pos s).stays _ hexec⟩
    · rw [get_of_regWord (repeatWalk_regWord (by decide) _ _),
        get_of_regWord (transient_gather_regWord _ _ _ (by decide) (by decide) (by decide))]
      exact get_count_of_reset s (by decide) (by decide) (by decide)
    · rw [get_of_regWord (repeatWalk_regWord (by decide) _ _), transient_gather_cnt, get_count_ne s (by decide)]
  case timeoutEarly => exact fun frame pos f i w tick s h ht => exec_gatherReadTimeout_early h ht
  case timeoutNone => exact fun frame pos s h => exec_gatherReadTimeout_none h
  case deadline =>
    intro frame i f s hf hi hl hc
    exact ⟨_, exec_creditDeadline hf hi hl hc, fun h hm hk => creditFail_frames hm hk, creditFail_cnt s frame, creditFail_sat s frame,
      creditFail_onlyWords s frame, State.creditFail_touches s frame⟩
  case deadlineGranted => exact fun frame f s hf hl => exec_creditDeadline_granted hf hl
  case deadlineNone => exact fun frame s hf => exec_creditDeadline_none hf
  case boundary =>
    intro s hwf hn hp
    have hexec := exec_creditBoundary hn hp
    have hgth := atBoundary_gth s
    refine ⟨_, hexec, congrArg Gather.period hgth, congrArg Gather.holder hgth, ?_, ?_, fun i hi h => atBoundary_pool hwf h hi,
      atBoundary_requests s, (execCreditBoundary_answers s).stays _ hexec⟩
    · exact fun h => ⟨atBoundary_reg h, (congrArg Gather.deltaPool hgth).trans (if_neg (by simp [h]))⟩
    · exact fun h => (congrArg Gather.deltaPool hgth).trans (if_pos h)
  case boundaryIdle => exact fun s h => exec_creditBoundary_idle h
  case stale =>
    intro item tick s hb ht hk
    obtain ⟨source, args, hexec⟩ := exec_staleGraceExpiry hb ht hk
    exact ⟨_, hexec, staleFound_cnt s item.val _ source args, staleFound_known s item.val _ source args,
      itemStale_of_known (staleFound_known s item.val _ source args), (execStaleGraceExpiry_answers item s).stays _ hexec⟩
  case staleLevel => exact fun item s hb => exec_staleGraceExpiry_level hb
  case staleGrace => exact fun item tick s hb ht => exec_staleGraceExpiry_grace hb ht

end Sys2Proof.Machine
end

section
/-!
SUPPORT. The admission of a guard request: what it counts first, the refusal, the new request (O36; R284, R300, R301, R350, R352).
-/
namespace Sys2Proof.Machine

/-! Requests and frames -/

/-- A request joins the others. -/
def State.addRequest (s : State) (r : Request) : State := { s with srv := { s.srv with requests := r :: s.srv.requests } }

theorem request?_addRequest (s : State) (r : Request) : (s.addRequest r).request? r.slot = some r :=
  List.find?_cons_of_pos (beq_self_eq_true r.slot)

theorem request?_congr {s t : State} (h : t.srv = s.srv) (k : Nat) : t.request? k = s.request? k := by
  simp only [State.request?, h]

theorem freeSlot_congr {s t : State} (h : t.srv = s.srv) : t.freeSlot = s.freeSlot := by
  simp only [State.freeSlot, request?_congr h]

/-- Requests changed where `p` holds, in their slots. -/
theorem request?_mapWhere {s t : State} {p : Request → Bool} {g : Request → Request} (hg : ∀ r, (g r).slot = r.slot)
    (h : t.srv.requests = mapWhere s.srv.requests p g) (k : Nat) :
    t.request? k = (s.request? k).map (fun r => if p r then g r else r) := by
  have hslot : ((fun r : Request => r.slot == k) ∘ fun r => if p r then g r else r) = fun r => r.slot == k := by
    funext r
    simp only [Function.comp_apply, apply_ite Request.slot, hg, ite_self]
  rw [State.request?, h, mapWhere, List.find?_map, hslot, State.request?]

theorem request?_modRequest {s : State} {k : Nat} {r : Request} {g : Request → Request} (hg : ∀ r, (g r).slot = r.slot)
    (h : s.request? k = some r) : (s.modRequest k g).request? k = some (g r) := by
  have hk : (r.slot == k) = true := List.find?_some (p := fun r : Request => r.slot == k) h
  rw [request?_mapWhere (t := s.modRequest k g) hg rfl k, h, Option.map_some, if_pos hk]

theorem addCause_guard (c : Reason) (f : Frame) : (addCause c f).guard = f.guard := by
  unfold addCause
  split <;> rfl

theorem addCause_decided (c : Reason) (f : Frame) : (addCause c f).decided = f.decided := by
  unfold addCause
  split <;> rfl

/-! A guard stage output, and the end of a request at its admission -/

/-- R307, R310: a frame with a final outcome takes no output; every other frame of the key has it. -/
theorem takeOutput_frames {s : State} {k : Nat} {g : GuardOut} {h : Frame} (hm : h ∈ (s.takeOutput k g).frames) (hk : h.key = k) :
    h.decided = true ∨ h.guard = some g := by
  have hput : ∀ y ∈ (s.modFrame k (fun f => if f.decided then f else settleStages { f with guard := some g })).frames, y.key = k →
      y.decided = true ∨ y.guard = some g := by
    intro y hy hyk
    obtain ⟨x, -, -, rfl⟩ := exists_of_mem_modFrame hy hyk
    split
    next hd => exact .inl hd
    next => exact .inr rfl
  unfold State.takeOutput at hm
  split at hm
  next c _ =>
    obtain ⟨y, hy, hyk, rfl⟩ := exists_of_mem_modFrame (g := addCause c) hm hk
    rw [addCause_decided, addCause_guard]
    exact hput y hy hyk
  next => exact hput h hm hk

/-- R311: a cause cancels no request that has ended. -/
theorem cause_request? {s : State} {slot : Nat} {r : Request} (k : Nat) (c : Reason) (h : s.request? slot = some r)
    (he : r.state = .ended) : (s.cause k c).request? slot = some r := by
  have hslot : ∀ x q, (cancelRequest x q).slot = q.slot := fun x q => by
    unfold cancelRequest
    split <;> rfl
  have hcancel : ∀ x, cancelRequest x r = r := fun x => if_pos (by simp [he])
  rw [State.cause, request?_mapWhere (hslot _) rfl, h, Option.map_some, hcancel, ite_self]

theorem takeOutput_request? {s : State} {slot : Nat} {r : Request} (k : Nat) (g : GuardOut) (h : s.request? slot = some r)
    (he : r.state = .ended) : (s.takeOutput k g).request? slot = some r := by
  unfold State.takeOutput
  split
  next => exact cause_request? k _ ((request?_congr rfl slot).trans h) he
  next => exact (request?_congr rfl slot).trans h

theorem endRequest_request? {s : State} {slot : Nat} {r : Request} (status : Nat) (h : s.request? slot = some r)
    (hp : r.place = .hbm) : (s.endRequest slot status).request? slot = some { r with state := .ended, status := status } := by
  have hend : s.endRequest slot status =
      (s.countEnd status).modRequest slot (fun r => { r with state := .ended, status := status }) := by
    simp only [State.endRequest, h, Option.map_some, hp]
  rw [hend]
  exact request?_modRequest (fun _ => rfl) ((request?_congr ((State.countEnd_touches ..).srv_eq (by decide)) slot).trans h)

theorem queueRecord_request? {s : State} {slot : Nat} {r : Request} (flags : Nat) (text : Bytes) (reply : Option CmdRef) (due : Nat)
    (h : s.request? slot = some r) :
    (s.queueRecord slot flags text reply due).request? slot = some { r with seq := (r.seq + 1) % 65536 } := by
  simp only [State.queueRecord, h]
  exact request?_modRequest (s := s) (g := fun r => { r with seq := (r.seq + 1) % 65536 }) (fun _ => rfl) h

section
variable {s : State} {slot : Nat} {r : Request}

/-- The request ends, its record is queued, its output reaches the frame. -/
theorem endAtAdmission_eq (status : Nat) (h : s.request? slot = some r) :
    ∃ u g, s.endAtAdmission slot status = State.takeOutput u r.frame g ∧ g.status = status ∧ g.label = 0 ∧
      u = (((s.endRequest slot status).modRequest slot (fun r => { r with delivered := true })).queueRecord slot 1 [] none s.now) := by
  have hnow : (s.endRequest slot status).now = s.now := (State.endRequest_touches ..).now_eq (by decide)
  simp only [State.endAtAdmission, h]
  refine ⟨_, _, rfl, rfl, rfl, ?_⟩
  rw [← hnow]
  rfl

theorem endAtAdmission_request? (status : Nat) (h : s.request? slot = some r) (hp : r.place = .hbm) :
    ((s.endAtAdmission slot status).request? slot).map (fun x => (x.state, x.status, x.frame)) = some (.ended, status, r.frame) := by
  obtain ⟨u, g, heq, -, -, hu⟩ := endAtAdmission_eq status h
  have hended := request?_modRequest (g := fun r => { r with delivered := true }) (fun _ => rfl) (endRequest_request? status h hp)
  rw [heq, takeOutput_request? _ g (hu ▸ queueRecord_request? 1 [] none s.now hended) rfl]
  rfl

theorem endAtAdmission_frames (status : Nat) (h : s.request? slot = some r) {f : Frame}
    (hm : f ∈ (s.endAtAdmission slot status).frames) (hk : f.key = r.frame) :
    f.decided = true ∨ f.guard.map (fun g => (g.status, g.label)) = some (status, 0) := by
  obtain ⟨u, g, heq, hs, hl, -⟩ := endAtAdmission_eq status h
  rw [heq] at hm
  refine (takeOutput_frames hm hk).imp id (fun hg => ?_)
  rw [hg, Option.map_some, hs, hl]

/-- Table 8-4: the end of a refused request has no counter of its own. -/
theorem endAtAdmission_refused_reg (h : s.request? slot = some r) : (s.endAtAdmission slot 7).reg = s.reg := by
  obtain ⟨u, g, heq, -, -, hu⟩ := endAtAdmission_eq 7 h
  have hend : (s.endRequest slot 7).reg = s.reg := by
    unfold State.endRequest
    split <;> rfl
  rw [heq, (State.takeOutput_touches ..).reg_eq (by decide), hu, (State.queueRecord_touches ..).reg_eq (by decide)]
  exact hend

end

/-! The refusal (R352) -/

/-- The refusal counted, and LOAD_SHED set. -/
def State.shed (s : State) (why : Fld) : State := (s.count why).setBits Fld.TID_SAT_STATUS 2

theorem freeSlot_shed (s : State) (why : Fld) : (s.shed why).freeSlot = s.freeSlot := freeSlot_congr (by rfl)

/-- The refused request in its slot, known to its frame. -/
def State.refusedIn (s : State) (a : Admission) (why : Fld) (slot : Nat) : State :=
  ((s.shed why).addRequest (s.newRequest a slot)).bindRequest a slot

theorem refuseRequest_full {s : State} (a : Admission) (why : Fld) (h : s.freeSlot = none) :
    s.refuseRequest a why = (s.shed why).takeOutput a.frame.key ⟨0, 7, 0, outputBytes 7 0 0 0 a.cut 0⟩ := by
  unfold State.refuseRequest
  extract_lets u
  have hfree : u.freeSlot = none := (freeSlot_shed s why).trans h
  rw [hfree]
  rfl

theorem refuseRequest_slot {s : State} {slot : Nat} (a : Admission) (why : Fld) (h : s.freeSlot = some slot) :
    s.refuseRequest a why = (s.refusedIn a why slot).endAtAdmission slot 7 := by
  unfold State.refuseRequest
  extract_lets u
  have hfree : u.freeSlot = some slot := (freeSlot_shed s why).trans h
  rw [hfree]
  rfl

theorem refusedIn_request? (s : State) (a : Admission) (why : Fld) (slot : Nat) :
    (s.refusedIn a why slot).request? slot = some (s.newRequest a slot) :=
  request?_addRequest (s.shed why) (s.newRequest a slot)

theorem refuseRequest_reg (s : State) (a : Admission) (why : Fld) : (s.refuseRequest a why).reg = (s.shed why).reg := by
  cases h : s.freeSlot with
  | none => rw [refuseRequest_full a why h, (State.takeOutput_touches ..).reg_eq (by decide)]
  | some slot =>
    rw [refuseRequest_slot a why h, endAtAdmission_refused_reg (refusedIn_request? s a why slot)]
    rfl

theorem refuseRequest_frames {s : State} {a : Admission} {why : Fld} {f : Frame} (hm : f ∈ (s.refuseRequest a why).frames)
    (hk : f.key = a.frame.key) : f.decided = true ∨ f.guard.map (fun g => (g.status, g.label)) = some (7, 0) := by
  cases h : s.freeSlot with
  | none =>
    rw [refuseRequest_full a why h] at hm
    exact (takeOutput_frames hm hk).imp id (fun hg => by rw [hg]; rfl)
  | some slot =>
    rw [refuseRequest_slot a why h] at hm
    exact endAtAdmission_frames 7 (refusedIn_request? s a why slot) hm hk

theorem refuseRequest_request? {s : State} {slot : Nat} (a : Admission) (why : Fld) (h : s.freeSlot = some slot) :
    ((s.refuseRequest a why).request? slot).map (fun r => (r.state, r.status, r.frame)) = some (.ended, 7, a.frame.key) := by
  rw [refuseRequest_slot a why h]
  exact endAtAdmission_request? 7 (refusedIn_request? s a why slot) rfl

theorem shed_cnt (s : State) {why : Fld} (hf : why.lsb + why.width ≤ 32) (hw : 0 < why.width) (hr : regReset why.off = 0)
    (hoff : why.off ≠ Fld.TID_SAT_STATUS.off) : (s.shed why).get why = min (s.get why + 1) (2 ^ why.width - 1) := by
  rw [State.shed, State.setBits, get_set_ne _ _ hoff, get_count_of_reset s hf hw hr]

theorem shed_sat {s : State} (h : regFileWf s.reg = true) (why : Fld) : bit ((s.shed why).get Fld.TID_SAT_STATUS) 1 = true := by
  rw [State.shed, State.setBits, get_set_same ((State.count_touches s why).grows .reg h) _ _ (by decide), bit,
    show Fld.TID_SAT_STATUS.width = 6 from rfl, Nat.testBit_mod_two_pow, Nat.testBit_or]
  simp [show Nat.testBit 2 1 = true by decide]

/-! What an admission counts first (R285, R295) -/

/-- A cut prompt, the blocks that it matches, a hash with other tokens: each is counted, and the frame of a cut prompt is marked. -/
def State.noteAdmission (s : State) (a : Admission) (k : Nat) : State :=
  let s := if a.cut then (s.count Fld.SRV_TRUNC_CNT).modFrame k (fun f => { f with catFlags := f.catFlags ||| 8 }) else s
  let s := s.countBy (Fld.SRV_COVE_HIT_CNT a.cove) a.shared.length
  if a.mismatch then s.count (Fld.SRV_COVE_MISMATCH_CNT a.cove) else s

/-- The offsets of these counters. -/
def admissionWords (c : Nat) : List Nat :=
  [Fld.SRV_TRUNC_CNT.off, (Fld.SRV_COVE_HIT_CNT c).off, (Fld.SRV_COVE_MISMATCH_CNT c).off]

section
variable (s : State) (a : Admission) (k : Nat)

theorem noteAdmission_touches : Touches [.reg, .frames] s (s.noteAdmission a k) := by
  unfold State.noteAdmission
  extract_lets cut counted
  have hcut : Touches [.reg, .frames] s cut :=
    Touches.ite ((State.modFrame_touches ..).after rfl ((State.count_touches ..).mono rfl)) (Touches.refl _ _)
  have hcounted : Touches [.reg, .frames] s counted := (State.countBy_touches ..).after rfl hcut
  exact Touches.ite ((State.count_touches ..).after rfl hcounted) hcounted

theorem noteAdmission_onlyWords : OnlyWords (admissionWords a.cove) s (s.noteAdmission a k) := by
  unfold State.noteAdmission
  extract_lets cut counted
  have hcut : OnlyWords (admissionWords a.cove) s cut := by
    unfold cut
    split
    next => exact (onlyWords_count s _ (by simp [admissionWords])).trans (onlyWords_congr _ rfl)
    next => exact onlyWords_congr _ rfl
  have hcounted : OnlyWords (admissionWords a.cove) s counted := hcut.trans (onlyWords_set _ _ _ (by simp [admissionWords]))
  split
  next => exact hcounted.trans (onlyWords_count _ _ (by simp [admissionWords]))
  next => exact hcounted

end

/-! The tests of Breakwater (R350) -/

/-- The registers that the tests of an admission to Cove `c` read. -/
def breakwaterFields (c : Nat) : List Fld :=
  [Fld.SRV_COVE_BLOCKS c, Fld.SRV_BRK_FLOOR_MEAN c, Fld.SRV_BRK_FLOOR_NEAP c, Fld.SRV_BRK_PF_SPRING c, Fld.SRV_BRK_PF_MEAN c,
    Fld.SRV_BRK_PF_NEAP c, Fld.SRV_BRK_TIME_PF_PS c, Fld.SRV_BRK_TIME_LABEL_MARGIN_US c]

theorem breakwater_congr {s t : State} {a : Admission} (hsrv : t.srv = s.srv) (hnow : t.now = s.now)
    (hget : ∀ f ∈ breakwaterFields a.cove, t.get f = s.get f) : t.breakwater a = s.breakwater a := by
  have hcove : t.cove a.cove = s.cove a.cove := by simp only [State.cove, hsrv]
  have hreached : ∀ n, t.reached n = s.reached n := fun n => by rw [State.reached, State.since, hnow]; rfl
  have hbacklog : t.backlog a = s.backlog a := by rw [State.backlog, State.backlog, hsrv]
  simp only [breakwaterFields, List.forall_mem_cons] at hget
  obtain ⟨hblocks, hmean, hneap, hpfSpring, hpfMean, hpfNeap, hps, hmargin, -⟩ := hget
  have hfree : t.freeBlocks a.cove = s.freeBlocks a.cove := by rw [State.freeBlocks, State.freeBlocks, hblocks, hcove]
  have hfloor : t.floorOf a.cove a.band = s.floorOf a.cove a.band := by rw [State.floorOf, State.floorOf, hmean, hneap]
  have hlimit : t.backlogLimit a.cove a.band = s.backlogLimit a.cove a.band := by
    rw [State.backlogLimit, State.backlogLimit, hpfSpring, hpfMean, hpfNeap]
  have htime : t.timeTest a = s.timeTest a := by
    rw [State.timeTest, State.timeTest, hps, hmargin, hreached, hnow, hbacklog]
  rw [State.breakwater, State.breakwater, hcove, freeSlot_congr hsrv, hfree, hfloor, hlimit, hbacklog, htime]

/-- Table 9-3: the counters of the tests. -/
def breakwaterCounters : List Fld :=
  [Fld.SRV_BRK_SLOT_CNT, Fld.SRV_BRK_BLOCK_CNT, Fld.SRV_BRK_BACKLOG_CNT, Fld.SRV_BRK_TIME_CNT]

/-- A chain of tests yields the counter of its first test or what the others yield. -/
theorem counter_of_test {p : Prop} [Decidable p] {c why : Fld} {others : Option Fld} (h : (if p then some c else others) = some why) :
    why = c ∨ others = some why := by
  split at h
  next => exact .inl (Option.some.inj h).symm
  next => exact .inr h

theorem breakwater_mem {s : State} {a : Admission} {why : Fld} (h : s.breakwater a = some why) : why ∈ breakwaterCounters := by
  unfold State.breakwater at h
  extract_lets room pf at h
  simp only [breakwaterCounters, List.mem_cons, List.not_mem_nil, or_false]
  rcases counter_of_test h with hwedged | h
  · exact .inl hwedged
  rcases counter_of_test h with hslot | h
  · exact .inl hslot
  rcases counter_of_test h with hblock | h
  · exact .inr (.inl hblock)
  rcases counter_of_test h with hbacklog | h
  · exact .inr (.inr (.inl hbacklog))
  rcases counter_of_test h with htime | h
  · exact .inr (.inr (.inr htime))
  · exact nomatch h

/-- No test reads, and no refusal counts in, a word that an admission has counted in. -/
theorem breakwater_off (c : Nat) : ∀ f ∈ breakwaterFields c ++ breakwaterCounters, f.off ∉ admissionWords c := by
  simp only [breakwaterFields, breakwaterCounters, admissionWords, Fld.SRV_TRUNC_CNT, Fld.SRV_COVE_HIT_CNT, Fld.SRV_COVE_MISMATCH_CNT,
    Fld.SRV_COVE_BLOCKS, Fld.SRV_BRK_FLOOR_MEAN, Fld.SRV_BRK_FLOOR_NEAP, Fld.SRV_BRK_PF_SPRING, Fld.SRV_BRK_PF_MEAN,
    Fld.SRV_BRK_PF_NEAP, Fld.SRV_BRK_TIME_PF_PS, Fld.SRV_BRK_TIME_LABEL_MARGIN_US, Fld.SRV_BRK_SLOT_CNT, Fld.SRV_BRK_BLOCK_CNT,
    Fld.SRV_BRK_BACKLOG_CNT, Fld.SRV_BRK_TIME_CNT, List.cons_append, List.nil_append, List.mem_cons,
    List.not_mem_nil, or_false, forall_eq_or_imp, forall_eq]
  omega

theorem breakwaterCounters_shape : ∀ f ∈ breakwaterCounters,
    f.lsb + f.width ≤ 32 ∧ 0 < f.width ∧ regReset f.off = 0 ∧ f.off ≠ Fld.TID_SAT_STATUS.off := by decide

theorem noteAdmission_get (s : State) {a : Admission} (k : Nat) {f : Fld} (h : f.off ∉ admissionWords a.cove) :
    (s.noteAdmission a k).get f = s.get f := get_of_regWord (noteAdmission_onlyWords s a k _ h)

theorem noteAdmission_breakwater (s : State) (a : Admission) (k : Nat) : (s.noteAdmission a k).breakwater a = s.breakwater a :=
  breakwater_congr ((noteAdmission_touches s a k).srv_eq (by decide)) ((noteAdmission_touches s a k).now_eq (by decide))
    (fun _ hf => noteAdmission_get s k (breakwater_off _ _ (List.mem_append_left _ hf)))

/-! The new request (R70, R300, R301) -/

theorem allocBlocks_length {total n : Nat} {c d : Cove} {bs : List Nat} (h : allocBlocks total n c = some (bs, d)) : bs.length = n := by
  unfold allocBlocks at h
  extract_lets free more at h
  have hfree : free.length ≤ n := List.length_take_le ..
  have hmore : more.length ≤ n - free.length := List.length_take_le ..
  split at h
  next => exact nomatch h
  next hn =>
    obtain ⟨rfl, -⟩ := Prod.mk.inj (Option.some.inj h)
    rw [List.length_append]
    omega

theorem noteActive_requests (s : State) (c : Nat) : (s.noteActive c).srv.requests = s.srv.requests := by
  unfold State.noteActive
  split <;> rfl

/-- The request that an admission makes, with its blocks. -/
def State.prefillRequest (s : State) (a : Admission) (slot : Nat) (priv : List Nat) (order : Nat) : Request :=
  { s.newRequest a slot with
    state := .prefill, shared := a.shared, priv := priv, prefilled := 64 * a.shared.length, order := order }

section
variable {s : State} {a : Admission} {slot : Nat} {priv : List Nat} {cove : Cove}
  (h : allocBlocks (s.get (Fld.SRV_COVE_BLOCKS a.cove)) a.need (holdBlocks (s.cove a.cove) a.shared) = some (priv, cove))
include h

theorem admitRequest_eq : ∃ cnt : Fld, s.admitRequest a slot =
    ((((s.count cnt).modCove a.cove (fun _ => { cove with admitted := cove.admitted + 1 })).addRequest
      (s.prefillRequest a slot priv cove.admitted)).bindRequest a slot).noteActive a.cove := by
  simp only [State.admitRequest, h]
  exact ⟨_, rfl⟩

theorem admitRequest_requests :
    (s.admitRequest a slot).srv.requests = s.prefillRequest a slot priv cove.admitted :: s.srv.requests := by
  obtain ⟨cnt, heq⟩ := admitRequest_eq (slot := slot) h
  rw [heq, noteActive_requests]
  rfl

theorem admitRequest_frames {f : Frame} (hm : f ∈ (s.admitRequest a slot).frames) (hk : f.key = a.frame.key) :
    f.request = some slot := by
  obtain ⟨cnt, heq⟩ := admitRequest_eq (slot := slot) h
  rw [heq, (State.noteActive_touches ..).frames_eq (by decide)] at hm
  obtain ⟨x, -, -, rfl⟩ := exists_of_mem_modFrame hm hk
  rfl

end

/-! GUARD_REQUEST_ADMIT -/

theorem exec_guardRequestAdmit {s : State} {frame : Nat} {f : Frame} (hf : s.frame? frame = some f) (hn : s.admitNext f = true) :
    exec (.guardRequestAdmit frame) s = .next (s.decideAdmission f) := by
  change execGuardRequestAdmit frame s = _
  simp only [execGuardRequestAdmit, hf, hn, if_true]

theorem exec_guardRequestAdmit_waits {s : State} {frame : Nat} {f : Frame} (hf : s.frame? frame = some f)
    (hn : s.admitNext f = false) : exec (.guardRequestAdmit frame) s = .next s := by
  change execGuardRequestAdmit frame s = _
  simp only [execGuardRequestAdmit, hf, hn, Bool.false_eq_true, if_false]

theorem exec_guardRequestAdmit_none {s : State} {frame : Nat} (hf : s.frame? frame = none) :
    exec (.guardRequestAdmit frame) s = .next s := by
  change execGuardRequestAdmit frame s = _
  simp only [execGuardRequestAdmit, hf]

section
variable {s : State} {f : Frame}

theorem decideAdmission_refused {why : Fld} (h : s.breakwater (s.admissionOf f) = some why) :
    s.decideAdmission f = (s.noteAdmission (s.admissionOf f) f.key).refuseRequest (s.admissionOf f) why := by
  unfold State.decideAdmission
  extract_lets a cut counted noted
  have hwhy : noted.breakwater a = some why := (noteAdmission_breakwater s a f.key).trans h
  rw [hwhy]
  rfl

theorem decideAdmission_admitted {slot : Nat} (h : s.breakwater (s.admissionOf f) = none) (hslot : s.freeSlot = some slot)
    (hp : (s.admissionOf f).pins.bad = false) :
    s.decideAdmission f = (s.noteAdmission (s.admissionOf f) f.key).admitRequest (s.admissionOf f) slot := by
  unfold State.decideAdmission
  extract_lets a cut counted noted
  have hpass : noted.breakwater a = none := (noteAdmission_breakwater s a f.key).trans h
  have hfree : noted.freeSlot = some slot :=
    (freeSlot_congr ((noteAdmission_touches s a f.key).srv_eq (by decide))).trans hslot
  have hgood : a.pins.bad = false := hp
  rw [hpass, hfree]
  exact if_neg (by simp [hgood])

/-! The clauses of O36 -/

section
variable {why : Fld} (hb : s.breakwater (s.admissionOf f) = some why)
include hb

theorem decideAdmission_refused_cnt : (s.decideAdmission f).get why = min (s.get why + 1) (2 ^ why.width - 1) := by
  have hmem := breakwater_mem hb
  obtain ⟨hf, hw, hr, hoff⟩ := breakwaterCounters_shape why hmem
  rw [decideAdmission_refused hb, get_congr (refuseRequest_reg ..), shed_cnt _ hf hw hr hoff,
    noteAdmission_get s f.key (breakwater_off _ _ (List.mem_append_right _ hmem))]

theorem decideAdmission_refused_sat (hwf : regFileWf s.reg = true) : bit ((s.decideAdmission f).get Fld.TID_SAT_STATUS) 1 = true := by
  rw [decideAdmission_refused hb, get_congr (refuseRequest_reg ..)]
  exact shed_sat ((noteAdmission_touches ..).grows .reg hwf) why

theorem decideAdmission_refused_frames {h : Frame} (hm : h ∈ (s.decideAdmission f).frames) (hk : h.key = f.key) :
    h.decided = true ∨ h.guard.map (fun g => (g.status, g.label)) = some (7, 0) := by
  rw [decideAdmission_refused hb] at hm
  exact refuseRequest_frames hm hk

theorem decideAdmission_refused_request? {slot : Nat} (hslot : s.freeSlot = some slot) :
    ((s.decideAdmission f).request? slot).map (fun r => (r.state, r.status, r.frame)) = some (.ended, 7, f.key) := by
  rw [decideAdmission_refused hb]
  exact refuseRequest_request? _ why ((freeSlot_congr ((noteAdmission_touches ..).srv_eq (by decide))).trans hslot)

end

/-- Every test passes, the pins are good, a slot and the blocks are there: the request heads the list of requests. -/
theorem decideAdmission_admitted_first {slot : Nat} (hb : s.breakwater (s.admissionOf f) = none) (hslot : s.freeSlot = some slot)
    (hp : (s.admissionOf f).pins.bad = false)
    (hblocks : (allocBlocks (s.get (Fld.SRV_COVE_BLOCKS (s.coveOf f))) (s.admissionOf f).need
      (holdBlocks (s.cove (s.coveOf f)) (s.admissionOf f).shared)).isSome = true) :
    ∃ priv order, priv.length = (s.admissionOf f).need ∧
      (s.decideAdmission f).srv.requests = s.prefillRequest (s.admissionOf f) slot priv order :: s.srv.requests ∧
      ∀ h ∈ (s.decideAdmission f).frames, h.key = f.key → h.request = some slot := by
  obtain ⟨⟨priv, cove⟩, halloc⟩ := Option.isSome_iff_exists.mp hblocks
  have hsrv := (noteAdmission_touches s (s.admissionOf f) f.key).srv_eq (by decide)
  have htaken : allocBlocks ((s.noteAdmission (s.admissionOf f) f.key).get (Fld.SRV_COVE_BLOCKS (s.admissionOf f).cove))
      (s.admissionOf f).need (holdBlocks ((s.noteAdmission (s.admissionOf f) f.key).cove (s.admissionOf f).cove)
        (s.admissionOf f).shared) = some (priv, cove) := by
    rw [noteAdmission_get s f.key (breakwater_off _ _ (List.mem_cons_self ..)), State.cove, hsrv]
    exact halloc
  rw [decideAdmission_admitted hb hslot hp]
  refine ⟨priv, cove.admitted, allocBlocks_length halloc, ?_, fun h hm hk => admitRequest_frames htaken hm hk⟩
  rw [admitRequest_requests htaken, State.prefillRequest, State.newRequest, hsrv]
  rfl

end

/-- Settles O36: a refusal counts, sets LOAD_SHED and ends the request in its slot; an admission puts the new request first. -/
theorem guardAdmission : Obligations.GuardAdmission := by
  unfold Obligations.GuardAdmission
  refine ⟨?refuses, ?admits, ?waits, ?none⟩
  case refuses =>
    intro frame why f s hwf hf hn hb
    obtain rfl : f.key = frame := (frame?_eq_some hf).2
    have hexec := exec_guardRequestAdmit hf hn
    exact ⟨_, hexec, decideAdmission_refused_cnt hb, decideAdmission_refused_sat hb hwf, fun h => decideAdmission_refused_frames hb,
      fun slot hslot => decideAdmission_refused_request? hb (Option.mem_toList.mp hslot),
      (execGuardRequestAdmit_answers f.key s).stays _ hexec⟩
  case admits =>
    intro frame slot f s hf hn hb hslot hp hblocks
    obtain rfl : f.key = frame := (frame?_eq_some hf).2
    have hexec := exec_guardRequestAdmit hf hn
    obtain ⟨priv, order, hlength, hrequests, hframes⟩ := decideAdmission_admitted_first hb hslot hp hblocks
    have hfound : (s.decideAdmission f).request? slot = some (s.prefillRequest (s.admissionOf f) slot priv order) := by
      rw [State.request?, hrequests]
      exact List.find?_cons_of_pos (beq_self_eq_true slot)
    refine ⟨_, hexec, ?_, ?_, ?_, hframes, congrArg List.tail hrequests, (execGuardRequestAdmit_answers f.key s).stays _ hexec⟩
    · rw [hfound]; rfl
    · rw [hfound]; exact congrArg some hlength
    · rw [hfound]; rfl
  case waits => exact fun frame f s hf hn => exec_guardRequestAdmit_waits hf hn
  case none => exact fun frame s hf => exec_guardRequestAdmit_none hf

end Sys2Proof.Machine
end

section
/-!
SUPPORT. A step of a Cove whose error retires its Gallery (O37; R277, R322, R597, R598, R602).
-/
namespace Sys2Proof.Machine

/-- A commit point without bad blocks or lost models counts what it discards and ends the step. -/
theorem exec_coveStepCommit {s : State} {cove : Fin 8} {x : CoveStep} (work : UnitEnd) (gallery : Fin 48) (late : Nat)
    (hx : (s.cove cove.val).step = some x) (hs : s.stopped = false) (hw : (s.cove cove.val).wedged = false) :
    exec (.coveStepCommit cove work gallery [] [] late) s =
      .next ((s.countBy Fld.CAT_SPEC_DISCARD_CNT late).endStep State.fetchEntry cove.val x work gallery.val) := by
  change execCoveStepCommit cove work gallery [] [] late s = _
  simp only [execCoveStepCommit, hx, hs, hw]
  rfl

/-- R277, R322: a step with an uncorrectable error and retries left is repeated, after what the error does to its Gallery. -/
theorem endStep_ue_retry (fetch : Nat → State → State) (s : State) (c gallery : Nat) {x : CoveStep} (h : x.retries < 3) :
    s.endStep fetch c x .ue gallery = ((s.transient (some ⟨.gallery, gallery⟩) 0x0102).count Fld.FLT_RETRY_CNT).modCove c
      (fun y => { y with step := some { x with retries := x.retries + 1 } }) := by
  simp only [State.endStep, h, reduceCtorEq, if_true, if_false]

/-- It counts one retry more than its error has counted. -/
theorem endStep_ue_retry_cnt (fetch : Nat → State → State) (s : State) (c gallery : Nat) {x : CoveStep} (h : x.retries < 3) :
    (s.endStep fetch c x .ue gallery).get Fld.FLT_RETRY_CNT =
      min ((s.transient (some ⟨.gallery, gallery⟩) 0x0102).get Fld.FLT_RETRY_CNT + 1) 0xFFFFFFFF := by
  rw [endStep_ue_retry fetch s c gallery h, get_congr ((State.modCove_touches ..).reg_eq (by decide))]
  exact get_count_of_reset _ (by decide) (by decide) (by decide)

/-- A Gallery is retired at its first fault (PROMOTE_N is 1); a step of Cove 0 runs on it, and so does the program of a frame. -/
def sharedGallery : State :=
  { State.reset with
    now := 100
    reg := [(Fld.FLT_PROMOTE_PROMOTE_N.off, 0x03E80001)]
    srv := { Guard.reset with coves := [(0, { Cove.reset with step := some ⟨0, [], 0⟩ })] }
    frames := [{ newFrame 0 .n [] 64 [] with
      phase := .inside, tDl := 5000, models := [⟨0, 0, some 1, [], true, 0, 0, 1, 1, some 0, none, [], [], false⟩] }]
    grants := [⟨.galleries, 0, 3, 0, .program 0, 0⟩] }

theorem sharedGallery_inv : sharedGallery.Inv where
  regs := by decide
  strands := List.length_replicate
  banks := rfl
  cells := invariantAtReset.cells

/-- R597, R602: the retired Gallery gives the frame's program back, and that retry is counted. -/
theorem sharedGallery_retired :
    ((sharedGallery.countBy Fld.CAT_SPEC_DISCARD_CNT 0).transient (some ⟨.gallery, 0⟩) 0x0102).get Fld.FLT_RETRY_CNT = 1 := by
  decide +kernel

/-- Refutes O37: the clause of the retried step says that FLT_RETRY_CNT rises by one, and in a state that meets `State.Inv` (by
`sharedGallery_inv`) the error retires the Gallery, whose other work is retried and counted as well: it rises by two. -/
theorem not_coveSteps : ¬ Obligations.CoveSteps := by
  unfold Obligations.CoveSteps
  rintro ⟨-, -, -, -, hretry, -⟩
  obtain ⟨t, hexec, -, -, -, hcount, -⟩ := hretry 0 0 0 ⟨0, [], 0⟩ sharedGallery rfl rfl rfl (by decide)
  obtain rfl := Host.Outcome.next.inj ((exec_coveStepCommit .ue 0 0 rfl rfl rfl).symm.trans hexec)
  have hbefore : sharedGallery.get Fld.FLT_RETRY_CNT = 0 := by decide
  rw [endStep_ue_retry_cnt _ _ _ _ (by decide), hbefore] at hcount
  exact absurd ((congrArg (fun n => min (n + 1) 0xFFFFFFFF) sharedGallery_retired).symm.trans hcount) (by decide)

end Sys2Proof.Machine
end

section
/-!
SUPPORT. A table that lists a Cove twice (O38).
-/
namespace Sys2Proof.Machine

/-- A device whose table of Coves has two entries of Cove 0, either with one output, due at tick 0. -/
def doubledCove : State :=
  { State.reset with
    srv := { Guard.reset with
      coves := List.replicate 2 (0, { Cove.reset with outputs := [⟨0, 0, 1, 0, [], 0⟩] }) } }

/-- The invariant says nothing of the table of Coves. -/
theorem doubledCove_inv : doubledCove.Inv where
  regs := rfl
  strands := List.length_replicate
  banks := rfl
  cells := invariantAtReset.cells

/-- Without its output Cove 0 is as after reset, so its first entry leaves the table, and the second shows. -/
theorem doubledCove_posted : ∃ t, exec (.guardOutputPost 0) doubledCove = .next t ∧ (t.cove 0).outputs ≠ [] := by
  refine ⟨_, rfl, ?_⟩
  decide

/-- Refutes O38: its clause of GUARD_OUTPUT_POST speaks of every state, and in one that lists Cove 0 twice (a state that meets
`State.Inv`, by `doubledCove_inv`) the Cove still has an output that was due after every output that was due is posted. -/
theorem not_guardOutputsAndCommands : ¬ Obligations.GuardOutputsAndCommands := by
  unfold Obligations.GuardOutputsAndCommands
  rintro ⟨hpost, -⟩
  obtain ⟨t, hexec, houtputs, -⟩ := hpost 0 doubledCove
  obtain ⟨u, hu, hleft⟩ := doubledCove_posted
  obtain rfl : u = t := Host.Outcome.next.inj (hu.symm.trans hexec)
  have hnone : (doubledCove.cove 0).outputs.filter (fun o => !(doubledCove.dueOutputs 0).contains o) = [] := by decide
  exact hleft (houtputs.trans hnone)

end Sys2Proof.Machine
end

section
/-!
SUPPORT. A request slot that is listed twice (O39).
-/
namespace Sys2Proof.Machine

/-- A guard request of slot 0, without a registered end. -/
def requestInSlot0 (state : ReqState) (place : CachePlace) : Request :=
  { slot := 0, gen := 0, state := state, status := 0, frame := 0, frameId := 0, strand := 0, band := 0, cove := 0, tDl := none, seed := 0
    model := 0, modelVer := 1, vocab := 0, vocabVer := 1, aut := 0, autVer := 1, prompt := [65], toks := [7], truncated := false
    q := 0, r := 0, carry := [], label := 0, delivered := false, shared := [], priv := [], need := 1, prefilled := 1, order := 0, seq := 0
    lastStep := 0, cancel := none, doom := none, paused := false, pauseOrder := 0, place := place, resumeTry := false, counted := true
    draft := [], finalPosted := false }

/-- An ended request and a paused one in the same slot; the cache of the second stands in an Archive entry whose EXPIRE has come. -/
def doubledSlot : State :=
  { State.reset with
    srv := { Guard.reset with
      requests := [requestInSlot0 .ended .hbm, requestInSlot0 .paused (.archived 0)]
      archive := [⟨0, 0, 0, zeros 16, 2, [0], 0, 72, false, some 0, none, [], []⟩]
      nextEntry := 1 } }

/-- The invariant says nothing of the list of requests. -/
theorem doubledSlot_inv : doubledSlot.Inv where
  regs := rfl
  strands := List.length_replicate
  banks := rfl
  cells := invariantAtReset.cells

/-- The expiry finds the second request by its entry and dooms it, while its slot still shows the first, which has ended. -/
theorem doubledSlot_expired : ∃ t, exec (.archiveExpire 0) doubledSlot = .next t ∧
    (t.request? 0).map (fun x => (x.doom, x.place)) = some (none, .hbm) := by
  refine ⟨_, rfl, ?_⟩
  decide

/-- Refutes O39: its clause of ARCHIVE_EXPIRE speaks of every state, and in one that lists a request slot twice (a state that meets
`State.Inv`, by `doubledSlot_inv`) the request that the slot shows is not doomed: it is not the one whose entry expires. -/
theorem not_archiveTier : ¬ Obligations.ArchiveTier := by
  unfold Obligations.ArchiveTier
  rintro ⟨-, -, -, -, -, -, -, -, -, -, -, hexpire, -⟩
  obtain ⟨t, hexec, -, hdoomed, -⟩ := hexpire 0 0 0 (requestInSlot0 .paused (.archived 0)) _ doubledSlot rfl rfl (by decide) (by decide)
    rfl (by decide) rfl
  obtain ⟨u, hu, hnone⟩ := doubledSlot_expired
  obtain rfl : u = t := Host.Outcome.next.inj (hu.symm.trans hexec)
  exact absurd (hnone.symm.trans hdoomed) (by decide)

end Sys2Proof.Machine
end

section
/-!
SUPPORT. The content-set serial in a register file that lists its word twice (O40; R385).
-/
namespace Sys2Proof.Machine

/-- A load of vocabulary 0 that has passed its checks, from an entry of submission ring 0. -/
def checkedVocabulary : Load :=
  ⟨0, .command ⟨0, ⟨0, false, 0, 6⟩, 0x10, 0, 0⟩, .vocabulary, 0, 1, 0, zeros 48, .checked, 0, [], 0, 0, true⟩

/-- A device with that load, whose register file lists VRD_CSET twice: all ones, then 5. -/
def doubledSerial : State :=
  { State.reset with
    reg := [(Fld.VRD_CSET.off, 0xFFFFFFFF), (Fld.VRD_CSET.off, 5)]
    host := { HostIf.reset with loads := [checkedVocabulary], nextLoad := 1 } }

/-- R385: after all ones the serial is 0, the reset value of its word, so the first entry leaves the register file, and the second
shows. -/
theorem doubledSerial_committed : ∃ t, exec (.loadCommit 0 false) doubledSerial = .next t ∧ t.get Fld.VRD_CSET = 5 := by
  refine ⟨_, rfl, ?_⟩
  decide +kernel

/-- Refutes O40: its clause of an installed load says what VRD_CSET reads after the commit, in every state. It lacks the hypothesis
`regFileWf s.reg = true`, under which a word reads as it was written (`get_set_same`): in a register file that lists VRD_CSET twice
(which `State.Inv` excludes) the serial that follows all ones is not read as 0. -/
theorem not_contentLoads : ¬ Obligations.ContentLoads := by
  unfold Obligations.ContentLoads
  rintro ⟨-, -, -, -, -, -, -, -, -, -, -, -, -, hinstalled, -⟩
  obtain ⟨t, hexec, -, -, hserial, -⟩ := hinstalled 0 checkedVocabulary doubledSerial rfl rfl rfl (by decide) (.inl rfl) (by decide)
  obtain ⟨u, hu, hread⟩ := doubledSerial_committed
  obtain rfl : u = t := Host.Outcome.next.inj (hu.symm.trans hexec)
  have hnext : w32 (doubledSerial.get Fld.VRD_CSET + 1) = 0 := by decide
  exact absurd (hread.symm.trans (hserial.trans hnext)) (by decide)

end Sys2Proof.Machine
end

section
/-!
SUPPORT. Entries of a submission ring that wait or are refused at once (O10, O11, O12): what a completion leaves of the host interface, and
where its record is found (R404, R406, R417 to R419).
-/
namespace Sys2Proof.Machine

/-! Rings read back -/

/-- A ring that is not as after reset is read back, whatever the form of the table. -/
theorem ring_setRing_same (s : State) (r : Nat) {x : Ring} (h : x ≠ Ring.empty) : (s.setRing r x).ring r = x :=
  tab_getD_putD_of_ne s.host.rings r h

theorem ring_setRing_ne (s : State) {r k : Nat} (x : Ring) (h : k ≠ r) : (s.setRing r x).ring k = s.ring k :=
  Tab.getD_putD_ne _ _ _ _ _ _ h

theorem ne_empty_of_held {x : Ring} (h : x.held ≠ []) : x ≠ Ring.empty := by
  rintro rfl
  exact h rfl

/-! What a completion leaves of the host interface -/

/-- Of the host interface only the rings have changed. -/
def RingsOnly (b t : State) : Prop := t.host = { b.host with rings := t.host.rings }

theorem RingsOnly.refl (s : State) : RingsOnly s s := rfl

theorem RingsOnly.of_host_eq {b t : State} (h : t.host = b.host) : RingsOnly b t := by
  unfold RingsOnly
  rw [h]

theorem RingsOnly.trans {a b c : State} (h : RingsOnly a b) (k : RingsOnly b c) : RingsOnly a c := by
  unfold RingsOnly at *
  rw [k, h]

theorem RingsOnly.win_eq {b t : State} (h : RingsOnly b t) : t.host.win = b.host.win := by
  rw [h]

theorem RingsOnly.loads_eq {b t : State} (h : RingsOnly b t) : t.host.loads = b.host.loads := by
  rw [h]

theorem setRing_ringsOnly (s : State) (r : Nat) (x : Ring) : RingsOnly s (s.setRing r x) := rfl

theorem sendVector_host (s : State) (v : Nat) : (s.sendVector v).host = s.host := by
  unfold State.sendVector
  split <;> rfl

theorem noteRecord_ringsOnly (s : State) (r : Nat) : RingsOnly s (s.noteRecord r) := by
  unfold State.noteRecord
  extract_lets x y s₁
  have hnoted : RingsOnly s s₁ := setRing_ringsOnly s r y
  split
  · exact (hnoted.trans (setRing_ringsOnly _ _ _)).trans (.of_host_eq (sendVector_host _ _))
  · exact hnoted

/-- R408 to R411: a record that is written leaves after the PAD record that it may need; then the ring advances and takes note. -/
theorem writeRecord_eq_some {s t : State} {r kind flags : Nat} {key payload : Bytes}
    (h : s.writeRecord r kind flags key payload = some t) :
    ∃ (padded : State) (x : Ring) (i flags' : Nat) (phase : Bool), padded.host = s.host ∧ (∃ new, padded.out = new ++ s.out) ∧
      t = ((padded.emit (.ringRecord r i (padTo (64 * recordEntries payload.length)
        (recordHeader kind (recordEntries payload.length) payload.length flags' phase key ++ payload)))).setRing r x).noteRecord r := by
  simp only [State.writeRecord, Option.ite_none_right_eq_some, Option.some.injEq] at h
  obtain ⟨-, rfl⟩ := h
  refine ⟨_, _, _, _, _, ?_, ?_, rfl⟩
  · rw [apply_ite State.host]
    exact ite_self _
  · exact (Touches.ite (Touches.refl _ s) (State.emit_touches s _)).grows .out

theorem writeRecord_ringsOnly {s t : State} {r kind flags : Nat} {key payload : Bytes}
    (h : s.writeRecord r kind flags key payload = some t) : RingsOnly s t := by
  obtain ⟨padded, x, i, flags', phase, hhost, -, rfl⟩ := writeRecord_eq_some h
  exact ((RingsOnly.of_host_eq hhost).trans (setRing_ringsOnly (padded.emit _) r x)).trans (noteRecord_ringsOnly _ _)

theorem flushHeld_ringsOnly (s : State) (q fuel : Nat) : RingsOnly s (s.flushHeld q fuel) := by
  induction fuel generalizing s with
  | zero => exact .refl s
  | succ fuel ih =>
    simp only [State.flushHeld]
    split
    next => exact .refl s
    next =>
      split
      next => exact .refl s
      next hrec => exact ((writeRecord_ringsOnly hrec).trans (setRing_ringsOnly _ _ _)).trans (ih _)

theorem pushCq_ringsOnly (s : State) (q : Nat) (h : HeldRec) : RingsOnly s (s.pushCq q h) :=
  (setRing_ringsOnly s _ _).trans (flushHeld_ringsOnly _ _ _)

theorem completeCq_ringsOnly (s : State) (c : CmdRef) (status : Nat) : RingsOnly s (s.completeCq c status) :=
  (pushCq_ringsOnly s _ _).trans (setRing_ringsOnly _ _ _)

theorem completeCq_regWord {off : Nat} (hp : off < (Fld.MSIX_PBA 0).off) (s : State) (c : CmdRef) (status : Nat) :
    (s.completeCq c status).regWord off = s.regWord off :=
  (setRing_regWord _ _ _ off).trans (pushCq_regWord hp s _ _)

/-! Where the record of a completion is found -/

theorem length_toLe (n v : Nat) : (toLe n v).length = n := by
  induction n generalizing v with
  | zero => rfl
  | succ n ih => exact congrArg (· + 1) (ih _)

theorem length_completionKey (c : CmdRef) (status : Nat) : (completionKey c status).length = 8 := by
  simp [completionKey, length_toLe]

theorem padTo_of_le {n : Nat} {bs : Bytes} (h : bs.length ≤ n) : padTo n bs = bs ++ zeros (n - bs.length) := by
  rw [padTo, List.take_of_length_le h]

/-- Table 11-4: the KEY stands in bytes 8 to 15 of a record, however long its payload. -/
theorem slice_record_key (kind flags : Nat) (phase : Bool) {key : Bytes} (payload : Bytes) (h : key.length = 8) :
    slice (padTo (64 * recordEntries payload.length)
      (recordHeader kind (recordEntries payload.length) payload.length flags phase key ++ payload)) 8 8 = key := by
  have hkey : padTo 8 key = key := by simp [padTo_of_le (Nat.le_of_eq h), h, zeros]
  have hlong : 16 + payload.length ≤ 64 * recordEntries payload.length := by
    unfold recordEntries ceilDiv
    omega
  rw [padTo_of_le (by simp [recordHeader, length_toLe, hkey, h]; omega)]
  simp [recordHeader, hkey, slice, List.drop_append, List.take_append, length_toLe, h]

/-- A record with this KEY has left for ring `r` since `b`. -/
def Wrote (r : Nat) (key : Bytes) (b t : State) : Prop :=
  ∃ new, t.out = new ++ b.out ∧ ∃ i bs, Output.ringRecord r i bs ∈ new ∧ slice bs 8 8 = key

theorem Wrote.after {r : Nat} {key : Bytes} {b t u : State} (h : Wrote r key b t) (k : ∃ new, u.out = new ++ t.out) :
    Wrote r key b u := by
  obtain ⟨new, hnew, i, bs, hmem, hkey⟩ := h
  obtain ⟨more, hmore⟩ := k
  exact ⟨more ++ new, by rw [hmore, hnew, List.append_assoc], i, bs, List.mem_append_right _ hmem, hkey⟩

theorem Wrote.from {r : Nat} {key : Bytes} {b t u : State} (h : Wrote r key t u) (k : ∃ new, t.out = new ++ b.out) :
    Wrote r key b u := by
  obtain ⟨new, hnew, i, bs, hmem, hkey⟩ := h
  obtain ⟨old, hold⟩ := k
  exact ⟨new ++ old, by rw [hnew, hold, List.append_assoc], i, bs, List.mem_append_left _ hmem, hkey⟩

theorem writeRecord_wrote {s t : State} {r kind flags : Nat} {key payload : Bytes} (h : s.writeRecord r kind flags key payload = some t)
    (hk : key.length = 8) : Wrote r key s t := by
  obtain ⟨padded, x, i, flags', phase, -, ⟨new, hout⟩, rfl⟩ := writeRecord_eq_some h
  refine Wrote.after (t := (padded.emit _).setRing r x) ?_ ((State.noteRecord_touches _ r).grows .out)
  exact ⟨_ :: new, congrArg (_ :: ·) hout, i, _, List.mem_cons_self, slice_record_key kind flags' phase payload hk⟩

/-- R418: a completion that is held back is still held, or has been written, once the room of its CQ is used. -/
theorem flushHeld_held_or_wrote (q fuel : Nat) {s : State} {h : HeldRec} (hm : h ∈ (s.ring (ringCq q)).held) (hk : h.key.length = 8) :
    h ∈ ((s.flushHeld q fuel).ring (ringCq q)).held ∨ Wrote (ringCq q) h.key s (s.flushHeld q fuel) := by
  induction fuel generalizing s with
  | zero => exact .inl hm
  | succ fuel ih =>
    simp only [State.flushHeld]
    split
    next hnone => exact .inl hm
    next h₀ rest hheld =>
      split
      next hfull => exact .inl hm
      next s₁ hrec =>
        have hout : ∃ new, s₁.out = new ++ s.out := (State.writeRecord_touches _ _ _ _ _ _ _ hrec).grows .out
        rw [hheld] at hm
        rcases List.mem_cons.mp hm with rfl | hrest
        · exact .inr ((writeRecord_wrote hrec hk).after ((State.flushHeld_touches _ _ _).grows .out))
        · have hlater := ih (s := s₁.setRing (ringCq q) { s₁.ring (ringCq q) with held := rest }) (by
            rw [ring_setRing_same _ _ (ne_empty_of_held (List.ne_nil_of_mem hrest))]
            exact hrest)
          exact hlater.imp id (fun hwrote => hwrote.from hout)

theorem pushCq_held_or_wrote (s : State) (q : Nat) {h : HeldRec} (hk : h.key.length = 8) :
    h ∈ ((s.pushCq q h).ring (ringCq q)).held ∨ Wrote (ringCq q) h.key s (s.pushCq q h) := by
  refine flushHeld_held_or_wrote q _ (s := s.setRing _ _) ?_ hk
  rw [ring_setRing_same _ _ (ne_empty_of_held (List.append_ne_nil_of_right_ne_nil _ (List.cons_ne_nil _ _)))]
  exact List.mem_append_right _ (List.mem_singleton_self h)

/-- R418: the completion of a refused entry joins its CQ. -/
theorem completeCq_onCq {b s : State} (c : CmdRef) (status : Nat) (hout : s.out = b.out) :
    OnCq c.q (completionKey c status) b (s.completeCq c status) := by
  have hsettled : (s.completeCq c status).ring (ringCq c.q) = (s.pushCq c.q ⟨0, completionKey c status, []⟩).ring (ringCq c.q) :=
    ring_setRing_ne _ _ (by unfold ringCq; omega)
  obtain hheld | hwrote := pushCq_held_or_wrote s c.q (h := ⟨0, completionKey c status, []⟩) (length_completionKey c status)
  · exact .inl ⟨_, hsettled ▸ hheld, rfl⟩
  · obtain ⟨new, hnew, i, bs, hmem, hkey⟩ := hwrote
    have hnew : (s.completeCq c status).out = new ++ b.out := hout ▸ hnew
    refine .inr ⟨i, bs, ?_, hkey⟩
    rwa [hnew, List.length_append, Nat.add_sub_cancel, List.take_left]

/-! Entries that wait or are refused -/

section
variable {s : State} {q : Fin 16} {e : SqEntry} {opcode : Nat} {run : CmdRef → State → State}

/-- What a refusal leaves: its completion joins the CQ; window, loads and all but the rings, their registers and the log stay. -/
def RefusedAs (q : Fin 16) (e : SqEntry) (opcode : Nat) (st : Status) (s t : State) : Prop :=
  OnCq q.val (keyOf q e opcode st s) s t ∧ t.host.win = s.host.win ∧ t.host.loads = s.host.loads ∧ Touches [.freeCtr, .out, .reg, .host] s t

/-- The entry has been taken, and nothing but rings and registers has changed since: its completion on the CQ alone is a refusal. -/
theorem completeCq_refused {u : State} (st : Status) (hrings : RingsOnly s u) (htouch : Touches [.reg, .host] s u) :
    RefusedAs q e opcode st s (u.completeCq ⟨q.val, e, opcode, s.host.gen, s.now⟩ st.code) := by
  have hdone := hrings.trans (completeCq_ringsOnly u ⟨q.val, e, opcode, s.host.gen, s.now⟩ st.code)
  exact ⟨completeCq_onCq _ _ (htouch.out_eq (by decide)), hdone.win_eq, hdone.loads_eq,
    (State.completeCq_touches ..).after rfl (htouch.mono rfl)⟩

theorem takeEntry_ringsOnly (s : State) (q : Nat) : RingsOnly s (s.takeEntry q) := rfl

/-- R418: RESULT_TO = 3 is BAD_FLAGS, whatever the command. -/
theorem sqCommand_badFlags (hr : s.sqReady q.val e = true) (h3 : e.resultTo = 3) :
    RefusedAs q e opcode .badFlags s (s.sqCommand q.val e opcode run) := by
  have hrefused : s.sqCommand q.val e opcode run =
      (s.takeEntry q.val).completeCq ⟨q.val, e, opcode, s.host.gen, s.now⟩ Status.badFlags.code := by
    simp [State.sqCommand, hr, h3]
  rw [hrefused]
  exact completeCq_refused .badFlags (takeEntry_ringsOnly s q) ((State.takeEntry_touches s q).mono rfl)

theorem resultTo_ne_of_slotBusy (h : s.slotBusy e = true) : e.resultTo ≠ 3 := by
  intro h3
  simp [State.slotBusy, h3] at h

/-- R419: a command whose window slot is not FREE is TAG_BUSY, and counted. -/
theorem sqCommand_tagBusy (hwf : regFileWf s.reg = true) (hr : s.sqReady q.val e = true) (hb : s.slotBusy e = true) :
    RefusedAs q e opcode .tagBusy s (s.sqCommand q.val e opcode run) ∧
      (s.sqCommand q.val e opcode run).get Fld.HIF_TAG_BUSY_CNT = min (s.get Fld.HIF_TAG_BUSY_CNT + 1) 0xFFFFFFFF := by
  have hslot : (s.takeEntry q.val).slotBusy e = true := hb
  have hrefused : s.sqCommand q.val e opcode run =
      ((s.takeEntry q.val).count Fld.HIF_TAG_BUSY_CNT).completeCq ⟨q.val, e, opcode, s.host.gen, s.now⟩ Status.tagBusy.code := by
    simp [State.sqCommand, hr, hslot, resultTo_ne_of_slotBusy hb]
  have htouch : Touches [.reg, .host] s ((s.takeEntry q.val).count Fld.HIF_TAG_BUSY_CNT) :=
    (State.count_touches _ _).after rfl ((State.takeEntry_touches s q).mono rfl)
  rw [hrefused]
  refine ⟨completeCq_refused .tagBusy (takeEntry_ringsOnly s q) htouch, ?_⟩
  rw [get_of_regWord (completeCq_regWord (by decide) _ _ _)]
  exact get_count (s := s.takeEntry q.val) hwf _ (by decide)

/-- A command that is a submission entry's answers with what is left of the state where the entry is refused, each part named. -/
theorem exec_badFlags {c : Instr} (hc : exec c s = .next (s.sqCommand q.val e opcode run)) (hr : s.sqReady q.val e = true)
    (h3 : e.resultTo = 3) :
    ∃ t, exec c s = .next t ∧ OnCq q.val (keyOf q e opcode .badFlags s) s t ∧ t.host.win = s.host.win ∧ t.host.loads = s.host.loads ∧
      Touches [.freeCtr, .out, .reg, .host] s t :=
  ⟨_, hc, sqCommand_badFlags hr h3⟩

theorem exec_tagBusy {c : Instr} (hc : exec c s = .next (s.sqCommand q.val e opcode run)) (hwf : regFileWf s.reg = true)
    (hr : s.sqReady q.val e = true) (hb : s.slotBusy e = true) :
    ∃ t, exec c s = .next t ∧ OnCq q.val (keyOf q e opcode .tagBusy s) s t ∧ t.host.win = s.host.win ∧ t.host.loads = s.host.loads ∧
      t.get Fld.HIF_TAG_BUSY_CNT = min (s.get Fld.HIF_TAG_BUSY_CNT + 1) 0xFFFFFFFF ∧ Touches [.freeCtr, .out, .reg, .host] s t := by
  obtain ⟨⟨hcq, hwin, hloads, htouch⟩, hcnt⟩ := sqCommand_tagBusy (opcode := opcode) (run := run) hwf hr hb
  exact ⟨_, hc, hcq, hwin, hloads, hcnt, htouch⟩

/-- R404, R406, R417: nothing is taken from a ring that is not ready. -/
theorem exec_waits {c : Instr} (hc : exec c s = .next (s.sqCommand q.val e opcode run)) (h : s.sqReady q.val e = false) :
    exec c s = .next s := by
  rw [hc, State.sqCommand, h]
  rfl

end

/-- An undefined opcode waits as the commands do. -/
theorem exec_badOpcode_waits {q : Fin 16} {e : SqEntry} (opcode : Fin 256) {s : State} (h : s.sqReady q.val e = false) :
    exec (.badOpcode q e opcode) s = .next s := by
  change execBadOpcode q e opcode s = _
  simp [execBadOpcode, h]

/-- Settles O10: each command of a submission ring is taken by `State.sqCommand`, which takes nothing from a ring that is not ready. -/
theorem sqEntryWaits : Obligations.SqEntryWaits := by
  unfold Obligations.SqEntryWaits
  exact ⟨fun _ _ _ => exec_waits rfl, fun _ _ _ _ => exec_waits rfl, fun _ _ _ _ _ => exec_waits rfl, fun _ _ _ _ _ => exec_waits rfl,
    fun _ _ _ _ => exec_waits rfl, fun _ _ _ _ _ _ _ => exec_waits rfl, fun _ _ _ _ _ _ => exec_waits rfl,
    fun _ _ _ _ _ _ _ => exec_waits rfl, fun _ _ _ _ => exec_waits rfl, fun _ _ _ _ _ => exec_waits rfl,
    fun _ _ _ _ _ _ _ _ => exec_waits rfl, fun _ _ _ _ _ => exec_waits rfl, fun _ _ _ _ _ => exec_waits rfl,
    fun _ _ opcode _ => exec_badOpcode_waits opcode⟩

/-- Settles O11: each command of a submission ring is taken by `State.sqCommand`, which refuses an entry before it looks at the command. -/
theorem sqEntryRefused : Obligations.SqEntryRefused := by
  unfold Obligations.SqEntryRefused
  exact ⟨fun _ _ _ => exec_badFlags rfl, fun _ _ _ _ => exec_badFlags rfl, fun _ _ _ _ _ => exec_badFlags rfl,
    fun _ _ _ _ _ => exec_badFlags rfl, fun _ _ _ _ => exec_badFlags rfl, fun _ _ _ _ _ _ _ => exec_badFlags rfl,
    fun _ _ _ _ _ _ => exec_badFlags rfl, fun _ _ _ _ _ _ _ => exec_badFlags rfl, fun _ _ _ _ => exec_badFlags rfl,
    fun _ _ _ _ _ => exec_badFlags rfl, fun _ _ _ _ _ _ _ _ => exec_badFlags rfl, fun _ _ _ _ _ => exec_badFlags rfl,
    fun _ _ _ _ _ => exec_badFlags rfl,
    fun _ _ _ => exec_tagBusy rfl, fun _ _ _ _ => exec_tagBusy rfl, fun _ _ _ _ _ => exec_tagBusy rfl,
    fun _ _ _ _ _ => exec_tagBusy rfl, fun _ _ _ _ => exec_tagBusy rfl, fun _ _ _ _ _ _ _ => exec_tagBusy rfl,
    fun _ _ _ _ _ _ => exec_tagBusy rfl, fun _ _ _ _ _ _ _ => exec_tagBusy rfl, fun _ _ _ _ => exec_tagBusy rfl,
    fun _ _ _ _ _ => exec_tagBusy rfl, fun _ _ _ _ _ _ _ _ => exec_tagBusy rfl, fun _ _ _ _ _ => exec_tagBusy rfl,
    fun _ _ _ _ _ => exec_tagBusy rfl⟩

end Sys2Proof.Machine
end

section
/-!
SUPPORT. A table of rings that lists a ring twice (O12, O13; R406, R411, R416).
-/
namespace Sys2Proof.Machine

/-- A device that may take commands, with submission ring 0 enabled (one entry long) and one entry in it; the table of rings lists that
ring a second time, with seven. -/
def doubledSq : State :=
  { State.reset with
    reg := [(Fld.HIF_STATUS_CMD_READY.off, 1 <<< Fld.HIF_STATUS_CMD_READY.lsb), ((Fld.HIF_RING_CTL_EN 0).off, 1 <<< (Fld.HIF_RING_CTL_EN 0).lsb)]
    host := { HostIf.reset with rings := [(0, { Ring.empty with used := 1 }), (0, { Ring.empty with used := 7 })] } }

/-- The invariant says nothing of the table of rings. -/
theorem doubledSq_inv : doubledSq.Inv where
  regs := by decide
  strands := List.length_replicate
  banks := rfl
  cells := invariantAtReset.cells

/-- The entry of a NOP that is to complete on its CQ. -/
def nopEntry : SqEntry := ⟨0, false, 0, 0⟩

/-- Once the command has completed the ring is as after reset, so its first entry leaves the table, and the second shows. -/
theorem doubledSq_nop : ∃ t, exec (.nop 0 nopEntry) doubledSq = .next t ∧ (t.ring 0).used = 7 := by
  refine ⟨_, rfl, ?_⟩
  decide

/-- Refutes O12: its clause of NOP speaks of every state, and in one that lists a ring twice (a state that meets `State.Inv`, by
`doubledSq_inv`) the ring that shows after the completion is another than the one that advanced. -/
theorem not_nopAndBadOpcode : ¬ Obligations.NopAndBadOpcode := by
  unfold Obligations.NopAndBadOpcode
  rintro ⟨hnop, -⟩
  obtain ⟨t, hexec, -, hused, -⟩ := hnop 0 nopEntry doubledSq ⟨by decide, by decide, by decide⟩
  obtain ⟨u, hu, hseven⟩ := doubledSq_nop
  obtain rfl : u = t := Host.Outcome.next.inj (hu.symm.trans hexec)
  exact absurd (hseven.symm.trans hused) (by decide)

/-- A powered device whose table of rings lists completion ring 0 twice, with the heads 1 and 5. -/
def doubledCq : State :=
  { State.reset with
    img := { Img.reset with pwrOk := true }
    host := { HostIf.reset with rings := [(ringCq 0, { Ring.empty with head := 1 }), (ringCq 0, { Ring.empty with head := 5 })] } }

/-- The invariant says nothing of the table of rings. -/
theorem doubledCq_inv : doubledCq.Inv where
  regs := rfl
  strands := List.length_replicate
  banks := rfl
  cells := invariantAtReset.cells

/-- With its head at 0 the ring is as after reset, so its first entry leaves the table, and the second shows. -/
theorem doubledCq_head : ∃ t, exec (.cqHeadDoorbell 0 (some 0)) doubledCq = .next t ∧ (t.ring (ringCq 0)).head = 5 := by
  refine ⟨_, rfl, ?_⟩
  decide

/-- Refutes O13: its clause of CQ_HEAD speaks of every state, and in one that lists a ring twice (a state that meets `State.Inv`, by
`doubledCq_inv`) the head that shows after an accepted write of 0 is another ring entry's. -/
theorem not_hostEvents : ¬ Obligations.HostEvents := by
  unfold Obligations.HostEvents
  rintro ⟨-, -, -, -, hwritten, -⟩
  obtain ⟨t, hexec, hhead, -⟩ := hwritten 0 0 doubledCq rfl (by decide) (by decide)
  obtain ⟨u, hu, hfive⟩ := doubledCq_head
  obtain rfl : u = t := Host.Outcome.next.inj (hu.symm.trans hexec)
  exact absurd (hfive.symm.trans hhead) (by decide)

end Sys2Proof.Machine
end

section
/-!
SUPPORT. A table of skews that lists a unit twice (O20; R434).
-/
namespace Sys2Proof.Machine

/-- A powered device that has noted a skew of unit 0, Strand 0, twice. -/
def doubledSkew : State :=
  { State.reset with
    img := { Img.reset with pwrOk := true }
    host := { HostIf.reset with skewSeen := [(0, 1), (0, 2)] } }

/-- The invariant says nothing of the table of skews. -/
theorem doubledSkew_inv : doubledSkew.Inv where
  regs := rfl
  strands := List.length_replicate
  banks := rfl
  cells := invariantAtReset.cells

/-- The read finds no skew and forgets the first note; the second shows. -/
theorem doubledSkew_read : ∃ t, exec (.getStateSensorReadings 0) doubledSkew = .next t ∧ Tab.get? t.host.skewSeen 0 = some 2 := by
  refine ⟨_, rfl, ?_⟩
  decide

/-- Refutes O20: its clause of GET_STATE_SENSOR_READINGS speaks of every state, and in one that notes a skew of a unit twice (a state that
meets `State.Inv`, by `doubledSkew_inv`) a note still stands after a read that finds no skew. -/
theorem not_mctpAndPldm : ¬ Obligations.MctpAndPldm := by
  unfold Obligations.MctpAndPldm
  rintro ⟨-, -, -, -, -, -, -, -, -, -, -, -, -, -, -, -, -, -, -, -, -, -, hread, -⟩
  obtain ⟨t, hexec, -, hnone, -⟩ := hread 0 doubledSkew rfl (by decide)
  obtain ⟨u, hu, htwo⟩ := doubledSkew_read
  obtain rfl : u = t := Host.Outcome.next.inj (hu.symm.trans hexec)
  exact nomatch htwo.symm.trans hnone

end Sys2Proof.Machine
end

section
/-!
SUPPORT. Management messages (O21, O22): when one is answered, what an answer says, and what it leaves of the connections and sessions
(R434 to R439).
-/
namespace Sys2Proof.Machine

section
variable {s b : State} {tr : Transport} {k : Nat} {what : String} {content request : Bytes} {run : State → State}

/-! When a message is answered -/

theorem manage_on (h : s.img.pwrOk = true) : s.manage run = .next (run s) := by
  rw [State.manage, if_pos h]

theorem manage_off (h : s.img.pwrOk = false) : s.manage run = .next s := by
  rw [State.manage, h]
  rfl

theorem negotiated_on (hp : s.img.pwrOk = true) (ha : (s.conn tr).algorithms = true) : s.negotiated tr request run = .next (run s) :=
  (manage_on hp).trans (congrArg _ (if_pos ha))

theorem negotiated_before (hp : s.img.pwrOk = true) (ha : (s.conn tr).algorithms = false) :
    s.negotiated tr request run = .next (s.spdmError "UnexpectedRequest" request) :=
  (manage_on hp).trans (congrArg _ (if_neg (by simp [ha])))

/-! What an answer says -/

theorem answer_says (h : s.out = b.out) : Says what content b (s.answer what content request) := by
  refine ⟨Config.answer what content request, ?_⟩
  rw [State.answer, State.emit_out, h]

theorem spdmError_says {code : String} (hw : "ERROR " ++ code = what) (h : s.out = b.out) : Says what [] b (s.spdmError code request) :=
  hw ▸ answer_says h

@[simp] theorem setConn_conn (s : State) (tr : Transport) (c : Connection) : (s.setConn tr c).conn tr = c := by
  cases tr <;> rfl

@[simp] theorem setConn_out (s : State) (tr : Transport) (c : Connection) : (s.setConn tr c).out = s.out := by
  cases tr <;> rfl

theorem emit_conn (s : State) (tr : Transport) (o : Output) : (s.emit o).conn tr = s.conn tr := rfl

theorem setConn_self (s : State) (tr : Transport) : s.setConn tr (s.conn tr) = s := by
  cases tr <;> rfl

/-- Of the management state only the connections have changed. -/
def ConnsOnly (b t : State) : Prop := t.mgmt = { b.mgmt with doe := t.mgmt.doe, smbus := t.mgmt.smbus }

theorem setConn_connsOnly (s : State) (tr : Transport) (c : Connection) : ConnsOnly s (s.setConn tr c) := by
  cases tr <;> rfl

/-- R437: a response leaves or, larger than the requester takes, is kept to be read in chunks. -/
theorem respond_cases (s : State) (tr : Transport) (what : String) (content request : Bytes) :
    (¬((s.conn tr).maxMessage ≠ 0 ∧ (s.conn tr).maxMessage < (Config.answer what content request).length) ∧
        s.respond tr what content request = s.emit (.message what content (Config.answer what content request))) ∨
      ((s.conn tr).maxMessage ≠ 0 ∧ (s.conn tr).maxMessage < (Config.answer what content request).length) ∧
        ∃ h bytes, s.respond tr what content request =
          ((s.free 8).2.setConn tr { s.conn tr with chunksOut := some (h, Config.answer what content request) }).emit
            (.message "ERROR LargeResponse" [byte h] bytes) := by
  by_cases hlarge : (s.conn tr).maxMessage ≠ 0 ∧ (s.conn tr).maxMessage < (Config.answer what content request).length
  · exact .inr ⟨hlarge, _, _, if_pos hlarge⟩
  · exact .inl ⟨hlarge, if_neg hlarge⟩

theorem respond_connsOnly (s : State) (tr : Transport) (what : String) (content request : Bytes) :
    ConnsOnly s (s.respond tr what content request) := by
  rcases respond_cases s tr what content request with ⟨-, hsent⟩ | ⟨-, h, bytes, hkept⟩
  · rw [hsent]
    rfl
  · rw [hkept]
    exact setConn_connsOnly (s.free 8).2 tr _

/-- A response changes the connection of its transport by the response kept alone. -/
theorem respond_conn (s : State) (tr : Transport) (what : String) (content request : Bytes) :
    ∃ kept, (s.respond tr what content request).conn tr = { s.conn tr with chunksOut := kept } := by
  rcases respond_cases s tr what content request with ⟨-, hsent⟩ | ⟨-, h, bytes, hkept⟩
  · exact ⟨_, (congrArg (State.conn · tr) hsent).trans (emit_conn s tr _)⟩
  · exact ⟨_, (congrArg (State.conn · tr) hkept).trans (setConn_conn (s.free 8).2 tr _)⟩

@[simp] theorem respond_version : ((s.respond tr what content request).conn tr).version = (s.conn tr).version := by
  obtain ⟨_, h⟩ := respond_conn s tr what content request
  rw [h]

@[simp] theorem respond_algorithms : ((s.respond tr what content request).conn tr).algorithms = (s.conn tr).algorithms := by
  obtain ⟨_, h⟩ := respond_conn s tr what content request
  rw [h]

@[simp] theorem respond_maxMessage : ((s.respond tr what content request).conn tr).maxMessage = (s.conn tr).maxMessage := by
  obtain ⟨_, h⟩ := respond_conn s tr what content request
  rw [h]

@[simp] theorem respond_sessions : (s.respond tr what content request).mgmt.sessions = s.mgmt.sessions := by
  rw [respond_connsOnly s tr what content request]

@[simp] theorem respond_eid : (s.respond tr what content request).mgmt.eid = s.mgmt.eid := by
  rw [respond_connsOnly s tr what content request]

@[simp] theorem respond_ideKeys : (s.respond tr what content request).mgmt.ideKeys = s.mgmt.ideKeys := by
  rw [respond_connsOnly s tr what content request]

@[simp] theorem respond_ideSet : (s.respond tr what content request).mgmt.ideSet = s.mgmt.ideSet := by
  rw [respond_connsOnly s tr what content request]

@[simp] theorem setConn_eid (s : State) (tr : Transport) (c : Connection) : (s.setConn tr c).mgmt.eid = s.mgmt.eid := by
  rw [setConn_connsOnly s tr c]

@[simp] theorem setConn_ideSet (s : State) (tr : Transport) (c : Connection) : (s.setConn tr c).mgmt.ideSet = s.mgmt.ideSet := by
  rw [setConn_connsOnly s tr c]

@[simp] theorem setConn_sessions (s : State) (tr : Transport) (c : Connection) : (s.setConn tr c).mgmt.sessions = s.mgmt.sessions := by
  rw [setConn_connsOnly s tr c]

theorem respond_replies (h : s.out = b.out) : Replies tr what content request b (s.respond tr what content request) := by
  obtain ⟨kept, hconn⟩ := respond_conn s tr what content request
  unfold Replies
  simp only [hconn]
  rcases respond_cases s tr what content request with ⟨hfits, hsent⟩ | ⟨hlarge, handle, bytes, hkept⟩
  · rw [if_neg hfits, hsent]
    exact ⟨_, congrArg (_ :: ·) h⟩
  · rw [if_pos hlarge]
    have hchunks : kept = some (handle, Config.answer what content request) := by
      have hconn' := (congrArg (State.conn · tr) hkept).symm.trans hconn
      exact (congrArg Connection.chunksOut ((setConn_conn (s.free 8).2 tr _).symm.trans hconn')).symm
    refine ⟨handle, hchunks, bytes, ?_⟩
    rw [hkept, State.emit_out, setConn_out, State.free_out, h]

end

/-! The requests whose answer depends on more than the connection -/

/-- The connection once chunk `seq` of a response has been read. -/
def State.chunkRead (s : State) (tr : Transport) (seq : Nat) (bytes : Bytes) : State :=
  if bytes.length ≤ (s.conn tr).maxMessage * (seq + 1) then s.setConn tr { s.conn tr with chunksOut := none } else s

theorem chunkRead_out (s : State) (tr : Transport) (seq : Nat) (bytes : Bytes) : (s.chunkRead tr seq bytes).out = s.out := by
  unfold State.chunkRead
  split
  next => exact setConn_out ..
  next => rfl

theorem chunkRead_sessions (s : State) (tr : Transport) (seq : Nat) (bytes : Bytes) :
    (s.chunkRead tr seq bytes).mgmt.sessions = s.mgmt.sessions := by
  unfold State.chunkRead
  split
  next => exact setConn_sessions ..
  next => rfl

theorem chunkRead_chunksOut (s : State) (tr : Transport) (seq : Nat) (bytes : Bytes) : ((s.chunkRead tr seq bytes).conn tr).chunksOut =
    if bytes.length ≤ (s.conn tr).maxMessage * (seq + 1) then none else (s.conn tr).chunksOut := by
  unfold State.chunkRead
  split
  next => rw [setConn_conn]
  next => rfl

/-- R439: what GET_MEASUREMENTS answers for an index. -/
def State.measured (s : State) (index : Byte) : Bytes :=
  if index.toNat = 0 then [7] else if index.toNat = 255 then s.measurements [1, 2, 3, 4, 5, 6, 7] else s.measurements [index.toNat]

section
variable {s : State} {tr : Transport} {request : Bytes} (hp : s.img.pwrOk = true) (ha : (s.conn tr).algorithms = true)
include hp ha

theorem execGetMeasurements_of_index {index : Byte} (sign : Option Byte) (h : ¬(8 ≤ index.toNat ∧ index.toNat ≠ 255)) :
    execGetMeasurements tr index sign request s = .next (match sign with
      | some slot => s.signed tr slot "MEASUREMENTS signed" (s.measured index) request
      | none => s.respond tr "MEASUREMENTS" (s.measured index) request) := by
  have hexec : execGetMeasurements tr index sign request s = _ := negotiated_on hp ha
  exact hexec.trans (congrArg _ (if_neg h))

theorem execGetMeasurements_invalid {index : Byte} (sign : Option Byte) (h : 8 ≤ index.toNat ∧ index.toNat ≠ 255) :
    execGetMeasurements tr index sign request s = .next (s.spdmError "InvalidRequest" request) := by
  have hexec : execGetMeasurements tr index sign request s = _ := negotiated_on hp ha
  exact hexec.trans (congrArg _ (if_pos h))

theorem execGetCertificate_some {slot : Byte} {off len : BitVec 16} {x : Bytes} (hx : s.certChain slot.toNat = some x)
    (ho : off.toNat ≤ x.length) :
    execGetCertificate tr slot off len s = .next (s.respond tr "CERTIFICATE"
      (toLe 2 (min len.toNat (x.length - off.toNat)) ++ toLe 2 (x.length - off.toNat - min len.toNat (x.length - off.toNat)) ++
        (x.drop off.toNat).take len.toNat) ([slot] ++ toLe 2 off.toNat ++ toLe 2 len.toNat)) := by
  have hexec : execGetCertificate tr slot off len s = _ := negotiated_on hp ha
  rw [hexec]
  simp only [hx, if_pos ho, List.length_take, List.length_drop]

theorem execGetCertificate_none {slot : Byte} (off len : BitVec 16) (hx : s.certChain slot.toNat = none) :
    execGetCertificate tr slot off len s = .next (s.spdmError "InvalidRequest" ([slot] ++ toLe 2 off.toNat ++ toLe 2 len.toNat)) := by
  have hexec : execGetCertificate tr slot off len s = _ := negotiated_on hp ha
  rw [hexec]
  simp only [hx]

/-- R437: a first chunk starts the request anew. -/
theorem execChunkSend_first (handle : Byte) (last : Bool) (data : Bytes) :
    execChunkSend tr handle true last data s = .next ((s.setConn tr
      { s.conn tr with chunksIn := if last then none else some (handle.toNat, data) }).answer "CHUNK_SEND_ACK" [handle] data) :=
  negotiated_on hp ha

/-- R437: a later chunk of the same handle joins what has come. -/
theorem execChunkSend_next {handle : Byte} {x : Nat × Bytes} (last : Bool) (data : Bytes) (hx : (s.conn tr).chunksIn = some x)
    (hh : x.1 = handle.toNat) :
    execChunkSend tr handle false last data s = .next ((s.setConn tr
      { s.conn tr with chunksIn := if last then none else some (handle.toNat, x.2 ++ data) }).answer "CHUNK_SEND_ACK" [handle] data) := by
  have hexec : execChunkSend tr handle false last data s = _ := negotiated_on hp ha
  rw [hexec]
  simp only [hx, if_pos hh, Bool.false_eq_true, if_false]

/-- A later chunk without a first one is no request, and leaves the connection as it was. -/
theorem execChunkSend_stray (handle : Byte) (last : Bool) (data : Bytes) (hx : (s.conn tr).chunksIn = none) :
    execChunkSend tr handle false last data s = .next (s.spdmError "InvalidRequest" data) := by
  have hexec : execChunkSend tr handle false last data s = _ := negotiated_on hp ha
  have hsame : { s.conn tr with chunksIn := none } = s.conn tr := by rw [← hx]
  rw [hexec]
  simp only [hx, Bool.false_eq_true, if_false, hsame]
  rw [setConn_self]

theorem execChunkGet_some {handle : Byte} {seq : BitVec 16} {x : Nat × Bytes} (hx : (s.conn tr).chunksOut = some x)
    (hh : x.1 = handle.toNat) (hs : (s.conn tr).maxMessage * seq.toNat < x.2.length) :
    execChunkGet tr handle seq s = .next ((s.chunkRead tr seq.toNat x.2).answer "CHUNK_RESPONSE"
      ((x.2.drop ((s.conn tr).maxMessage * seq.toNat)).take (s.conn tr).maxMessage) ([handle] ++ toLe 2 seq.toNat)) := by
  have hexec : execChunkGet tr handle seq s = _ := negotiated_on hp ha
  rw [hexec]
  simp only [hx, if_pos (And.intro hh hs)]
  rfl

theorem execChunkGet_none (handle : Byte) (seq : BitVec 16) (hx : (s.conn tr).chunksOut = none) :
    execChunkGet tr handle seq s = .next (s.spdmError "InvalidRequest" ([handle] ++ toLe 2 seq.toNat)) := by
  have hexec : execChunkGet tr handle seq s = _ := negotiated_on hp ha
  rw [hexec]
  simp only [hx]

end

/-! The clauses of O21 -/

/-- Settles O21: each message is answered by `State.respond`, `State.answer` or `State.spdmError` over the connection that it leaves. -/
theorem spdmMessages : Obligations.SpdmMessages := by
  unfold Obligations.SpdmMessages
  refine ⟨?version, ?capabilities, ?mismatch, ?algorithms, ?algorithmsEarly, ?digests, ?digestsEarly, ?certificate, ?noCertificate,
    ?challenge, ?challengeSlot, ?csr, ?count, ?all, ?one, ?badIndex, ?firstChunk, ?nextChunk, ?strayChunk, ?response, ?noResponse,
    ?discovery, ?discoveryOff⟩
  case version =>
    intro tr s hp
    have hexec : execGetVersion tr s = _ := manage_on hp
    refine ⟨_, hexec, respond_replies (setConn_out s tr _), ?_, ?_, ?_, ?_, ?_, (execGetVersion_answers tr s).stays _ hexec⟩
    · rw [respond_version]
      exact congrArg Connection.version (setConn_conn s tr Connection.reset)
    · rw [respond_algorithms]
      exact congrArg Connection.algorithms (setConn_conn s tr Connection.reset)
    · rw [respond_sessions]
      exact fun x hx => by simpa using (List.mem_filter.mp hx).2
    · rw [respond_eid]
      exact setConn_eid s tr Connection.reset
    · rw [respond_ideSet]
      exact setConn_ideSet s tr Connection.reset
  case capabilities =>
    intro version maxMessage tr s hp hv
    have hexec : execGetCapabilities tr version maxMessage s = _ := (manage_on hp).trans (congrArg _ (if_pos hv))
    refine ⟨_, hexec, respond_replies (setConn_out s tr _), ?_, ?_, ?_, ?_, (execGetCapabilities_answers ..).stays _ hexec⟩
    · simp
    · simp
    · simp [Connection.reset]
    · simp
  case mismatch =>
    intro version maxMessage tr s hp h13 h12
    have hexec : execGetCapabilities tr version maxMessage s = _ := (manage_on hp).trans (congrArg _ (if_neg (not_or.mpr ⟨h13, h12⟩)))
    exact ⟨_, hexec, spdmError_says rfl rfl, State.spdmError_touches ..⟩
  case algorithms =>
    intro request tr s hp hv
    have hexec : execNegotiateAlgorithms tr true request s = _ := (manage_on hp).trans (congrArg _ (if_neg hv))
    refine ⟨_, hexec, respond_replies (setConn_out s tr _), ?_, ?_, ?_, (execNegotiateAlgorithms_answers ..).stays _ hexec⟩
    · simp
    · simp
    · simp
  case algorithmsEarly =>
    intro offered request tr s hp hv
    have hexec : execNegotiateAlgorithms tr offered request s = _ := (manage_on hp).trans (congrArg _ (if_pos hv))
    exact ⟨_, hexec, spdmError_says rfl rfl, State.spdmError_touches ..⟩
  case digests =>
    intro tr s hp ha
    have hexec : execGetDigests tr s = _ := negotiated_on hp ha
    refine ⟨_, hexec, ?_, respond_sessions, (execGetDigests_answers tr s).stays _ hexec⟩
    simpa using respond_replies (what := "DIGESTS") rfl
  case digestsEarly =>
    intro tr s hp ha
    have hexec : execGetDigests tr s = _ := negotiated_before hp ha
    exact ⟨_, hexec, spdmError_says rfl rfl, State.spdmError_touches ..⟩
  case certificate =>
    intro slot off len tr x s hx hp ha ho
    have hexec := execGetCertificate_some (len := len) hp ha hx ho
    exact ⟨_, hexec, respond_replies rfl, respond_sessions, (execGetCertificate_answers ..).stays _ hexec⟩
  case noCertificate =>
    exact fun slot off len tr s hp ha hx =>
      ⟨_, execGetCertificate_none hp ha off len hx, spdmError_says rfl rfl, State.spdmError_touches ..⟩
  case challenge =>
    intro request tr s hp ha
    have hexec : execChallenge tr 0 request s = _ := (negotiated_on hp ha).trans (congrArg _ (if_pos rfl))
    exact ⟨_, hexec, respond_replies rfl, respond_sessions, (execChallenge_answers ..).stays _ hexec⟩
  case challengeSlot =>
    intro slot request tr s hp ha hslot
    have hexec : execChallenge tr slot request s = _ := (negotiated_on hp ha).trans (congrArg _ (if_neg hslot))
    exact ⟨_, hexec, spdmError_says rfl rfl, State.spdmError_touches ..⟩
  case csr =>
    intro request tr s hp ha
    have hexec : execGetCsr tr request s = _ := negotiated_on hp ha
    exact ⟨_, hexec, respond_replies rfl, respond_sessions, (execGetCsr_answers ..).stays _ hexec⟩
  case count =>
    intro request tr s hp ha
    have hexec := execGetMeasurements_of_index (index := 0) (request := request) hp ha none (by decide)
    exact ⟨_, hexec, respond_replies rfl, (execGetMeasurements_answers ..).stays _ hexec⟩
  case all =>
    intro request tr s hp ha
    have hexec := execGetMeasurements_of_index (index := 0xFF) (request := request) hp ha (some 0) (by decide)
    exact ⟨_, hexec, respond_replies rfl, (execGetMeasurements_answers ..).stays _ hexec⟩
  case one =>
    intro index request tr s hp ha hlow hhigh
    have hexec := execGetMeasurements_of_index (request := request) hp ha none (index := index) (by omega)
    have hone : s.measured index = s.measurements [index.toNat] := by
      rw [State.measured, if_neg (by omega), if_neg (by omega)]
    rw [hone] at hexec
    exact ⟨_, hexec, respond_replies rfl, (execGetMeasurements_answers ..).stays _ hexec⟩
  case badIndex =>
    exact fun index sign request tr s hp ha hlow hall =>
      ⟨_, execGetMeasurements_invalid hp ha sign ⟨hlow, hall⟩, spdmError_says rfl rfl, State.spdmError_touches ..⟩
  case firstChunk =>
    intro handle last data tr s hp ha
    have hexec := execChunkSend_first hp ha handle last data
    exact ⟨_, hexec, answer_says (setConn_out ..), setConn_conn s tr _, (execChunkSend_answers ..).stays _ hexec⟩
  case nextChunk =>
    intro handle last data tr x s hx hp ha hh
    have hexec := execChunkSend_next hp ha last data hx hh
    exact ⟨_, hexec, answer_says (setConn_out ..), setConn_conn s tr _, (execChunkSend_answers ..).stays _ hexec⟩
  case strayChunk =>
    exact fun handle last data tr s hp ha hx =>
      ⟨_, execChunkSend_stray hp ha handle last data hx, spdmError_says rfl rfl, rfl, (State.spdmError_touches ..).mono rfl⟩
  case response =>
    intro handle seq tr x s hx hp ha hh hs
    have hexec := execChunkGet_some hp ha hx hh hs
    exact ⟨_, hexec, answer_says (chunkRead_out ..), chunkRead_chunksOut .., chunkRead_sessions .., (execChunkGet_answers ..).stays _ hexec⟩
  case noResponse =>
    exact fun handle seq tr s hp ha hx =>
      ⟨_, execChunkGet_none hp ha handle seq hx, spdmError_says rfl rfl, State.spdmError_touches ..⟩
  case discovery =>
    intro index s hp
    have hexec : execDoeDiscovery index s = _ := manage_on hp
    exact ⟨_, hexec, answer_says rfl, State.answer_touches ..⟩
  case discoveryOff =>
    exact fun index s hp => (manage_off hp : execDoeDiscovery index s = _)

end Sys2Proof.Machine
end

section
/-!
SUPPORT. Secured sessions and the keys of the IDE stream (O22; R437).
-/
namespace Sys2Proof.Machine

/-! Lists changed where a predicate holds -/

/-- The first element that `p` holds of, after a change that `p` does not see. -/
theorem find?_mapWhere {α : Type} {p : α → Bool} {f : α → α} (hf : ∀ x, p (f x) = p x) (l : List α) :
    (mapWhere l p f).find? p = (l.find? p).map f := by
  have hsame : (p ∘ fun x => if p x then f x else x) = p := by
    funext x
    simp only [Function.comp_apply, apply_ite p, hf, ite_self]
  rw [mapWhere, List.find?_map, hsame]
  cases hx : l.find? p with
  | none => rfl
  | some x => rw [Option.map_some, Option.map_some, if_pos (List.find?_some hx)]

theorem mem_mapWhere_of_not {α : Type} {p : α → Bool} {l : List α} {x : α} (f : α → α) (hx : x ∈ l) (hp : p x = false) :
    x ∈ mapWhere l p f :=
  List.mem_map.mpr ⟨x, hx, if_neg (by simp [hp])⟩

section
variable {s t : State} {tr : Transport} {k : Nat}

/-! Sessions -/

theorem session?_congr (h : t.mgmt.sessions = s.mgmt.sessions) : t.session? tr k = s.session? tr k := by
  rw [State.session?, h, State.session?]

theorem session?_modSession {f : Session → Session} {x : Session} (hx : s.session? tr k = some x)
    (hf : ∀ x, (f x).transport = x.transport ∧ (f x).slot = x.slot) : (s.modSession tr k f).session? tr k = some (f x) :=
  (find?_mapWhere (fun x => by rw [(hf x).1, (hf x).2]) _).trans (congrArg (Option.map f) hx)

theorem not_in_slot {y : Session} (h : y.transport ≠ tr ∨ y.slot ≠ k) : (y.transport == tr && y.slot == k) = false := by
  rcases h with h | h <;> simp [h]

theorem mem_modSession {y : Session} (f : Session → Session) (hy : y ∈ s.mgmt.sessions) (h : y.transport ≠ tr ∨ y.slot ≠ k) :
    y ∈ (s.modSession tr k f).mgmt.sessions :=
  mem_mapWhere_of_not f hy (not_in_slot h)

theorem length_modSession (f : Session → Session) : (s.modSession tr k f).mgmt.sessions.length = s.mgmt.sessions.length :=
  List.length_map _

/-- The tick of a message in a session is noted. -/
def State.noted (s : State) (tr : Transport) (k : Nat) : State := s.modSession tr k (fun x => { x with last := s.now })

theorem noted_session? {x : Session} (hx : s.session? tr k = some x) :
    (s.noted tr k).session? tr k = some { x with last := s.now } :=
  session?_modSession hx (fun _ => ⟨rfl, rfl⟩)

/-- A session ends. -/
def State.dropSession (s : State) (tr : Transport) (k : Nat) : State :=
  { s with mgmt := { s.mgmt with sessions := s.mgmt.sessions.filter (fun x => !(x.transport == tr && x.slot == k)) } }

theorem dropSession_session? : (s.dropSession tr k).session? tr k = none := by
  refine List.find?_eq_none.mpr (fun x hx => ?_)
  have hkept := (List.mem_filter.mp hx).2
  intro hslot
  rw [hslot] at hkept
  exact nomatch hkept

theorem mem_dropSession {y : Session} (hy : y ∈ s.mgmt.sessions) (h : y.transport ≠ tr ∨ y.slot ≠ k) :
    y ∈ (s.dropSession tr k).mgmt.sessions :=
  List.mem_filter.mpr ⟨hy, by rw [not_in_slot h]; rfl⟩

variable {x : Session} {run : State → State}

theorem inSession_on {established : Bool} (hx : s.session? tr k = some x) (hp : s.img.pwrOk = true) (he : x.established = established) :
    s.inSession tr k established run = .next (run (s.noted tr k)) := by
  refine (manage_on hp).trans ?_
  simp only [hx, if_pos he]
  rfl

theorem inSession_none (established : Bool) (hp : s.img.pwrOk = true) (hx : s.session? tr k = none) :
    s.inSession tr k established run = .next (s.spdmError "UnexpectedRequest" []) := by
  refine (manage_on hp).trans ?_
  simp only [hx]

theorem ideKm_on (hx : s.session? .doe k = some x) (hp : s.img.pwrOk = true) (he : x.established = true) :
    s.ideKm k run = .next (run (s.noted .doe k)) := by
  refine (manage_on hp).trans ?_
  simp only [hx, if_pos he]
  rfl

/-- Table 11-18: IDE_KM outside a session over DOE is no request. -/
theorem ideKm_none (hx : s.session? .doe k = none) : s.ideKm k run = .next s := by
  simp only [State.ideKm, State.manage, hx, ite_self]

/-! KEY_EXCHANGE -/

/-- A session opened. -/
def State.openSession (s : State) (tr : Transport) (k : Nat) : State :=
  { s with mgmt := { s.mgmt with sessions := s.mgmt.sessions ++ [⟨tr, k, false, 0, s.now⟩] } }

theorem execKeyExchange_open {request : Bytes} (hp : s.img.pwrOk = true) (ha : (s.conn tr).algorithms = true)
    (hk : (upto 2).find? (fun k => (s.session? tr k).isNone) = some k) :
    execKeyExchange tr 0 request s = .next ((s.openSession tr k).respond tr "KEY_EXCHANGE_RSP" [byte k] request) := by
  have hexec : execKeyExchange tr 0 request s = _ := negotiated_on hp ha
  rw [hexec]
  simp only [hk]
  rfl

theorem execKeyExchange_full {request : Bytes} (hp : s.img.pwrOk = true) (ha : (s.conn tr).algorithms = true)
    (hk : (upto 2).find? (fun k => (s.session? tr k).isNone) = none) :
    execKeyExchange tr 0 request s = .next (s.spdmError "SessionLimitExceeded" request) := by
  have hexec : execKeyExchange tr 0 request s = _ := negotiated_on hp ha
  rw [hexec]
  simp only [hk]
  rfl

end

/-- The first free one of the two sessions of a transport. -/
theorem firstFree_eq (s : State) (tr : Transport) : (upto 2).find? (fun k => (s.session? tr k).isNone) =
    if s.session? tr 0 = none then some 0 else if s.session? tr 1 = none then some 1 else none := by
  have hupto : upto 2 = [0, 1] := rfl
  rw [hupto]
  simp only [List.find?_cons, List.find?_nil]
  cases s.session? tr 0 with
  | none => rfl
  | some _ => cases s.session? tr 1 <;> rfl

/-! The key set in use -/

/-- A key set becomes active, and the IDE stream with it. -/
def State.ideGo (s : State) (n : Nat) : State := ({ s with mgmt := { s.mgmt with ideSet := some n } }).set Fld.HIF_STATUS_IDE 1

section
variable {s : State} {k : Fin 2} {keySet : Bool} {x : Session} (hx : s.session? .doe k.val = some x) (hp : s.img.pwrOk = true)
  (he : x.established = true)
include hx hp he

theorem execIdeKmKSetGo_keyed (h : s.mgmt.ideKeys.any (fun e => e.1 % 2 == b2n keySet) = true) :
    execIdeKmKSetGo k keySet s = .next (((s.noted .doe k).ideGo (b2n keySet)).respond .doe "K_GOSTOP_ACK" [] []) :=
  (ideKm_on hx hp he).trans (congrArg _ (if_pos h))

theorem execIdeKmKSetGo_keyless (h : s.mgmt.ideKeys.any (fun e => e.1 % 2 == b2n keySet) = false) :
    execIdeKmKSetGo k keySet s = .next ((s.noted .doe k).respond .doe "K_GOSTOP_ACK" [] []) :=
  (ideKm_on hx hp he).trans (congrArg _ (if_neg (Bool.eq_false_iff.mp h)))

theorem execIdeKmKSetStop_inUse (h : s.mgmt.ideSet = some (b2n keySet)) :
    execIdeKmKSetStop k keySet s = .next ((s.noted .doe k).ideStop.respond .doe "K_GOSTOP_ACK" [] []) :=
  (ideKm_on hx hp he).trans (congrArg (fun u : State => (Host.Outcome.next (u.respond .doe "K_GOSTOP_ACK" [] []) : Res)) (if_pos h))

theorem execIdeKmKSetStop_other (h : s.mgmt.ideSet ≠ some (b2n keySet)) :
    execIdeKmKSetStop k keySet s = .next ((s.noted .doe k).respond .doe "K_GOSTOP_ACK" [] []) :=
  (ideKm_on hx hp he).trans (congrArg (fun u : State => (Host.Outcome.next (u.respond .doe "K_GOSTOP_ACK" [] []) : Res)) (if_neg h))

end

theorem respond_reg (s : State) (tr : Transport) (what : String) (content request : Bytes) :
    (s.respond tr what content request).reg = s.reg :=
  (State.respond_touches s tr what content request).reg_eq (by decide)

theorem noted_touches (s : State) (tr : Transport) (k : Nat) : Touches [.mgmt] s (s.noted tr k) := State.modSession_touches ..

/-- A response in a session touches the log, the free values and the management state. -/
theorem noted_respond_touches (s : State) (k : Nat) (what : String) (content request : Bytes) :
    Touches [.freeCtr, .out, .mgmt] s ((s.noted .doe k).respond .doe what content request) :=
  (State.respond_touches ..).after rfl ((noted_touches s .doe k).mono rfl)

/-- The order in which parts are named is no part of the frame. -/
theorem Touches.of_subset {qs ps : List Part} {b t : State} (hs : ∀ p ∈ qs, p ∈ ps) (h : Touches qs b t) : Touches ps b t :=
  ⟨h.pending, fun p => (h.2 p).imp (fun k => ⟨hs p k.1, k.2⟩) id⟩

/-! The clauses of O22 -/

/-- Settles O22: a message in a session is noted in it before it is answered, and nothing else of the session changes but what the message
says; the response leaves sessions, keys and registers. -/
theorem sessionsAndKeys : Obligations.SessionsAndKeys := by
  unfold Obligations.SessionsAndKeys
  refine ⟨?first, ?second, ?third, ?finish, ?finishWrong, ?heartbeat, ?keyUpdate, ?end_, ?finishNone, ?heartbeatNone, ?keyUpdateNone,
    ?endNone, ?query, ?keyProg, ?go, ?goNoKey, ?stop, ?stopOther, ?queryNone, ?keyProgNone, ?goNone, ?stopNone⟩
  case first =>
    intro request tr s hp ha h0
    have hexec := execKeyExchange_open (k := 0) (request := request) hp ha (by rw [firstFree_eq, if_pos h0])
    exact ⟨_, hexec, respond_replies rfl, respond_sessions, (execKeyExchange_answers ..).stays _ hexec⟩
  case second =>
    intro request tr s hp ha h0 h1
    have hexec := execKeyExchange_open (k := 1) (request := request) hp ha (by rw [firstFree_eq, if_neg h0, if_pos h1])
    exact ⟨_, hexec, respond_replies rfl, respond_sessions, (execKeyExchange_answers ..).stays _ hexec⟩
  case third =>
    intro request tr s hp ha h0 h1
    have hexec := execKeyExchange_full (request := request) hp ha (by rw [firstFree_eq, if_neg h0, if_neg h1])
    exact ⟨_, hexec, spdmError_says rfl rfl, State.spdmError_touches ..⟩
  case finish =>
    intro k tr x s hx hp he
    have hexec : execFinish tr k true s = _ := (inSession_on hx hp he).trans (congrArg _ (if_pos rfl))
    refine ⟨_, hexec, respond_replies rfl, ?_, ?_, (execFinish_answers ..).stays _ hexec⟩
    · rw [session?_congr respond_sessions]
      exact session?_modSession (noted_session? hx) (fun _ => ⟨rfl, rfl⟩)
    · intro y hy hother
      rw [respond_sessions]
      exact mem_modSession _ (mem_modSession _ hy hother) hother
  case finishWrong =>
    intro k tr x s hx hp he
    have hexec : execFinish tr k false s = _ := (inSession_on hx hp he).trans (congrArg _ (if_neg Bool.false_ne_true))
    exact ⟨_, hexec, spdmError_says rfl rfl, dropSession_session? (s := s.noted tr k), (execFinish_answers ..).stays _ hexec⟩
  case heartbeat =>
    intro k tr x s hx hp he
    have hexec : execHeartbeat tr k s = _ := inSession_on hx hp he
    refine ⟨_, hexec, respond_replies rfl, ?_, ?_, (execHeartbeat_answers ..).stays _ hexec⟩
    · rw [session?_congr respond_sessions]
      exact noted_session? hx
    · rw [respond_sessions]
      exact length_modSession _
  case keyUpdate =>
    intro k tr x s hx hp he
    have hexec : execKeyUpdate tr k s = _ := inSession_on hx hp he
    refine ⟨_, hexec, respond_replies rfl, ?_, ?_, (execKeyUpdate_answers ..).stays _ hexec⟩
    · rw [session?_congr respond_sessions]
      exact session?_modSession (noted_session? hx) (fun _ => ⟨rfl, rfl⟩)
    · rw [respond_sessions]
      exact (length_modSession _).trans (length_modSession _)
  case end_ =>
    intro k tr x s hx hp he
    have hexec : execEndSession tr k s = _ := inSession_on hx hp he
    refine ⟨_, hexec, respond_replies rfl, ?_, ?_, (execEndSession_answers ..).stays _ hexec⟩
    · rw [session?_congr respond_sessions]
      exact dropSession_session? (s := s.noted tr k)
    · intro y hy hother
      rw [respond_sessions]
      exact mem_dropSession (s := s.noted tr k) (mem_modSession _ hy hother) hother
  case finishNone =>
    exact fun k ok tr s hp hx =>
      ⟨_, (inSession_none _ hp hx : execFinish tr k ok s = _), spdmError_says rfl rfl, State.spdmError_touches ..⟩
  case heartbeatNone =>
    exact fun k tr s hp hx =>
      ⟨_, (inSession_none _ hp hx : execHeartbeat tr k s = _), spdmError_says rfl rfl, State.spdmError_touches ..⟩
  case keyUpdateNone =>
    exact fun k tr s hp hx =>
      ⟨_, (inSession_none _ hp hx : execKeyUpdate tr k s = _), spdmError_says rfl rfl, State.spdmError_touches ..⟩
  case endNone =>
    exact fun k tr s hp hx =>
      ⟨_, (inSession_none _ hp hx : execEndSession tr k s = _), spdmError_says rfl rfl, State.spdmError_touches ..⟩
  case query =>
    intro k x s hx hp he
    have hexec : execIdeKmQuery k s = _ := ideKm_on hx hp he
    exact ⟨_, hexec, respond_replies rfl, respond_ideKeys, respond_ideSet, (execIdeKmQuery_answers ..).stays _ hexec⟩
  case keyProg =>
    intro k sub transmit keySet key x s hx hp he
    have hexec : execIdeKmKeyProg k sub transmit keySet key s = _ := ideKm_on hx hp he
    refine ⟨_, hexec, respond_replies rfl, ?_, ?_, respond_ideSet, (execIdeKmKeyProg_answers ..).stays _ hexec⟩
    · rw [respond_ideKeys]
      exact Tab.get?_put_same _ _ _
    · intro i _ hi
      rw [respond_ideKeys]
      exact Tab.get?_put_ne _ _ _ _ hi
  case go =>
    intro k keySet x s hx hp he hkey hwf
    have hexec := execIdeKmKSetGo_keyed hx hp he hkey
    have hout : ((s.noted .doe k).ideGo (b2n keySet)).out = s.out := State.set_out ..
    have hreg : (((s.noted .doe k).ideGo (b2n keySet)).respond .doe "K_GOSTOP_ACK" [] []).reg = (s.set Fld.HIF_STATUS_IDE 1).reg :=
      respond_reg ..
    refine ⟨_, hexec, respond_replies hout, respond_ideSet, ?_, ?_, ?_, ((execIdeKmKSetGo_answers ..).stays _ hexec).of_subset (by decide)⟩
    · rw [State.flag, get_congr hreg, get_set_same hwf _ _ (by decide)]
      rfl
    · rw [get_congr hreg]
      exact get_set_field hwf 1 (by decide) rfl (by decide)
    · exact (onlyWords_set s _ _ (List.mem_singleton_self _)).trans (onlyWords_congr _ hreg)
  case goNoKey =>
    exact fun k keySet x s hx hp he hkey =>
      ⟨_, execIdeKmKSetGo_keyless hx hp he hkey, respond_replies rfl, respond_ideSet, noted_respond_touches s k ..⟩
  case stop =>
    intro k keySet x s hx hp he hset hwf
    have hexec := execIdeKmKSetStop_inUse hx hp he hset
    have hreg : ((s.noted .doe k).ideStop.respond .doe "K_GOSTOP_ACK" [] []).reg = (s.set Fld.HIF_STATUS_IDE 0).reg := respond_reg ..
    refine ⟨_, hexec, respond_replies rfl, respond_ideSet, ?_, ?_, ((execIdeKmKSetStop_answers ..).stays _ hexec).of_subset (by decide)⟩
    · rw [State.flag, get_congr hreg, get_set_same hwf _ _ (by decide)]
      rfl
    · exact (onlyWords_set s _ _ (List.mem_singleton_self _)).trans (onlyWords_congr _ hreg)
  case stopOther =>
    exact fun k keySet x s hx hp he hset =>
      ⟨_, execIdeKmKSetStop_other hx hp he hset, respond_replies rfl, respond_ideSet, noted_respond_touches s k ..⟩
  case queryNone => exact fun k s hx => (ideKm_none hx : execIdeKmQuery k s = _)
  case keyProgNone => exact fun k sub transmit keySet key s hx => (ideKm_none hx : execIdeKmKeyProg k sub transmit keySet key s = _)
  case goNone => exact fun k keySet s hx => (ideKm_none hx : execIdeKmKSetGo k keySet s = _)
  case stopNone => exact fun k keySet s hx => (ideKm_none hx : execIdeKmKSetStop k keySet s = _)

end Sys2Proof.Machine
end

section
/-!
SUPPORT. What sending a packet leaves of the fabric and of the registers (O46; R523 to R528, R532, R536).
-/
namespace Sys2Proof.Machine

/-- Of the fabric only what is on its way may have changed. -/
def OnTheWay (b t : State) : Prop :=
  t.fab = { b.fab with
    transits := t.fab.transits, outbox := t.fab.outbox, unacked := t.fab.unacked, nextMsg := t.fab.nextMsg, flows := t.fab.flows }

/-- Of the registers only FAB_NOROUTE_CNT, of the fabric only what is on its way may have changed. -/
def Sends (b t : State) : Prop := OnlyWords [Fld.FAB_NOROUTE_CNT.off] b t ∧ OnTheWay b t

theorem OnlyWords.refl (l : List Nat) (s : State) : OnlyWords l s s := fun _ _ => rfl

theorem OnlyWords.ite {c : Prop} [Decidable c] {l : List Nat} {b t u : State} (ht : OnlyWords l b t) (hu : OnlyWords l b u) :
    OnlyWords l b (if c then t else u) :=
  fun off ho => regWord_ite (ht off ho) (hu off ho)

theorem Sends.refl (s : State) : Sends s s := ⟨OnlyWords.refl _ s, rfl⟩

theorem Sends.trans {a b c : State} (h : Sends a b) (k : Sends b c) : Sends a c := by
  obtain ⟨hwords, hfab⟩ := h
  obtain ⟨kwords, kfab⟩ := k
  refine ⟨hwords.trans kwords, ?_⟩
  unfold OnTheWay at *
  rw [kfab, hfab]

/-- A packet routed, refused or queued: the fabric stays. -/
theorem Sends.of_fab_eq {b t : State} (hw : OnlyWords [Fld.FAB_NOROUTE_CNT.off] b t) (hf : t.fab = b.fab) : Sends b t :=
  ⟨hw, by rw [OnTheWay, hf]⟩

/-! Routes (R525 to R528) -/

theorem noRoute_onlyWords (s : State) (t : Transit) : OnlyWords [Fld.FAB_NOROUTE_CNT.off] s (s.noRoute t) :=
  (onlyWords_congr _ ((State.freeHeld_touches s _ _).reg_eq (by decide))).trans (onlyWords_count _ _ (List.mem_singleton_self _))

theorem queuePacket_onlyWords (l : List Nat) (s : State) (q : Nat) (p : Packet) (good : Bool) (origin : Option (Nat × Nat)) :
    OnlyWords l s (s.queuePacket q p good origin) :=
  onlyWords_congr _ ((State.queuePacket_touches s q p good origin).reg_eq (by decide))

theorem routeFixed_onlyWords (s : State) (t : Transit) (q : Option Nat) : OnlyWords [Fld.FAB_NOROUTE_CNT.off] s (s.routeFixed t q) := by
  unfold State.routeFixed
  split
  next => exact .ite (queuePacket_onlyWords _ s _ _ _ _) (noRoute_onlyWords s t)
  next => exact noRoute_onlyWords s t

theorem routeEscape_onlyWords (s : State) (t : Transit) : OnlyWords [Fld.FAB_NOROUTE_CNT.off] s (s.routeEscape t) := by
  unfold State.routeEscape
  split
  next => exact routeFixed_onlyWords s _ _
  next => exact noRoute_onlyWords s t

theorem routeOne_onlyWords {s u : State} {t : Transit} (h : s.routeOne t = some u) : OnlyWords [Fld.FAB_NOROUTE_CNT.off] s u := by
  simp only [State.routeOne] at h
  split at h
  next =>
    cases h
    exact noRoute_onlyWords s t
  next =>
    split at h
    next =>
      cases h
      exact .ite (routeEscape_onlyWords s t) (routeFixed_onlyWords s _ _)
    next =>
      split at h
      next =>
        split at h
        next =>
          cases h
          exact routeEscape_onlyWords s _
        next =>
          obtain ⟨q, -, rfl⟩ := Option.map_eq_some_iff.mp h
          exact queuePacket_onlyWords _ s _ _ _ _
      next =>
        cases h
        exact routeFixed_onlyWords s _ _

/-! Packets that leave (R530, R532) -/

theorem inject_sends (s : State) (p : Packet) : Sends s (s.inject p) := by
  unfold State.inject
  extract_lets t
  split
  next =>
    split
    next u hu => exact .of_fab_eq (routeOne_onlyWords hu) ((State.routeOne_touches s t u hu).fab_eq (by decide))
    next => exact ⟨OnlyWords.refl _ s, rfl⟩
  next => exact .of_fab_eq (routeFixed_onlyWords s _ _) ((State.routeFixed_touches ..).fab_eq (by decide))

theorem launch_sends (s : State) (p : Packet) (flows : List Flow) : Sends s (s.launch p flows) :=
  Sends.trans ⟨OnlyWords.refl _ s, rfl⟩ (inject_sends _ p)

theorem sends_foldl_fst {α β : Type} {b : State} {g : State × β → α → State × β} (hg : ∀ t x, Sends b t.1 → Sends b (g t x).1)
    (l : List α) {i : State × β} (hi : Sends b i.1) : Sends b (l.foldl g i).1 := by
  induction l generalizing i with
  | nil => exact hi
  | cons x l ih => exact ih (hg i x hi)

theorem pump_sends (s : State) : Sends s s.pump := by
  refine sends_foldl_fst (fun t p ht => ?_) s.fab.outbox ⟨OnlyWords.refl _ s, rfl⟩
  obtain ⟨u, stuck⟩ := t
  have hheld (more : List Packet) : Sends s { u with fab := { u.fab with outbox := more } } := ht.trans ⟨OnlyWords.refl _ u, rfl⟩
  dsimp only
  split
  next => exact hheld _
  next =>
    split
    next => exact ht.trans (launch_sends u p _)
    next => exact hheld _

/-- R523: a packet for a device outside the box, or sent by a device outside any fabric, is refused and counted. -/
theorem sendPacket_refused {s : State} {p : Packet} (h : s.inFabric = false ∨ (s.box p.rset).any (fun b => inBox b p.dest) = false) :
    s.sendPacket p = s.count Fld.FAB_NOROUTE_CNT := by
  unfold State.sendPacket
  split
  next b hb =>
    rw [hb, Option.any_some] at h
    exact if_neg (by rcases h with h | h <;> simp [h])
  next => rfl

/-- A packet for a device of the box is counted, and sent or held back. -/
theorem sendPacket_sends {s : State} {p : Packet} (hf : s.inFabric = true) (hb : (s.box p.rset).any (fun b => inBox b p.dest) = true) :
    Sends (s.count Fld.FAB_PKT_TX_CNT) (s.sendPacket p) := by
  obtain ⟨b, hbox, hin⟩ := Option.any_eq_true .. |>.mp hb
  simp only [State.sendPacket, hbox, hf, hin, Bool.and_self, if_true]
  exact Sends.trans ⟨OnlyWords.refl _ _, rfl⟩ (pump_sends _)

/-- A packet is refused or may go. -/
theorem sendPacket_split (s : State) (p : Packet) :
    (s.inFabric = false ∨ (s.box p.rset).any (fun b => inBox b p.dest) = false) ∨
      (s.inFabric = true ∧ (s.box p.rset).any (fun b => inBox b p.dest) = true) := by
  cases s.inFabric with
  | false => exact .inl (.inl rfl)
  | true =>
    cases (s.box p.rset).any (fun b => inBox b p.dest) with
    | false => exact .inl (.inr rfl)
    | true => exact .inr ⟨rfl, rfl⟩

/-- Whether or not a packet may go, the rest of the fabric stays. -/
theorem sendPacket_onTheWay (s : State) (p : Packet) : OnTheWay s (s.sendPacket p) := by
  rcases sendPacket_split s p with h | ⟨hf, hb⟩
  · rw [sendPacket_refused h]
    rfl
  · exact (sendPacket_sends hf hb).2

/-- A packet sent or refused changes no word but the two counters. -/
theorem sendPacket_regWord (s : State) (p : Packet) {off : Nat} (hr : off ≠ Fld.FAB_NOROUTE_CNT.off) (ht : off ≠ Fld.FAB_PKT_TX_CNT.off) :
    (s.sendPacket p).regWord off = s.regWord off := by
  rcases sendPacket_split s p with h | ⟨hf, hb⟩
  · rw [sendPacket_refused h]
    exact regWord_count_ne s hr
  · obtain ⟨hwords, -⟩ := sendPacket_sends hf hb
    exact (hwords off (fun hmem => hr (List.mem_singleton.mp hmem))).trans (regWord_count_ne s ht)

section
variable {s : State} {p : Packet}

theorem sendPacket_norouteCnt (h : s.inFabric = false ∨ (s.box p.rset).any (fun b => inBox b p.dest) = false) :
    (s.sendPacket p).get Fld.FAB_NOROUTE_CNT = min (s.get Fld.FAB_NOROUTE_CNT + 1) 0xFFFFFFFF := by
  rw [sendPacket_refused h, get_count_of_reset s (by decide) (by decide) (by decide)]
  rfl

theorem sendPacket_txCnt (hf : s.inFabric = true) (hb : (s.box p.rset).any (fun b => inBox b p.dest) = true) :
    (s.sendPacket p).get Fld.FAB_PKT_TX_CNT = min (s.get Fld.FAB_PKT_TX_CNT + 1) 0xFFFFFFFF := by
  obtain ⟨hwords, -⟩ := sendPacket_sends hf hb
  rw [get_of_regWord (hwords _ (by decide)), get_count_of_reset s (by decide) (by decide) (by decide)]
  rfl

end

theorem OnTheWay.endpoint_eq {b t : State} (h : OnTheWay b t) : t.fab.endpoint = b.fab.endpoint := by
  rw [h]

theorem OnTheWay.rounds_eq {b t : State} (h : OnTheWay b t) : t.fab.rounds = b.fab.rounds := by
  rw [h]

theorem OnTheWay.pulls_eq {b t : State} (h : OnTheWay b t) : t.fab.pulls = b.fab.pulls := by
  rw [h]

theorem OnTheWay.below_eq {b t : State} (h : OnTheWay b t) : t.fab.below = b.fab.below := by
  rw [h]

end Sys2Proof.Machine
end

section
/-!
SUPPORT. A device that receives rounds (O46): the packet at the front of the endpoint memory, rounds, and the targets of items (R547,
R550, R552).
-/
namespace Sys2Proof.Machine

/-! The packet at the front -/

/-- The first packet of the endpoint memory is taken. -/
def State.popped (s : State) : State := { s with fab := { s.fab with endpoint := s.fab.endpoint.tail } }

theorem nextPacket_some {s : State} {p : Packet} {n : Nat} (hh : s.fab.endpoint.head? = some p) (ht : p.ptype = n) :
    s.nextPacket n = some (p, s.popped) := by
  unfold State.nextPacket State.popped
  split
  next q rest hend =>
    rw [hend, List.head?_cons, Option.some.injEq] at hh
    subst hh
    rw [if_pos ht, hend, List.tail_cons]
  next hend =>
    rw [hend] at hh
    exact nomatch hh

theorem popped_touches (s : State) : Touches [.fab] s s.popped := Touches.put_fab rfl (Touches.refl _ s)

/-! Rounds -/

theorem mapWhere_of_find?_none {α : Type} {p : α → Bool} {l : List α} (f : α → α) (h : l.find? p = none) : mapWhere l p f = l := by
  have hnone := List.find?_eq_none.mp h
  exact (List.map_congr_left (fun x hx => if_neg (hnone x hx))).trans (List.map_id l)

section
variable {s : State} {id : Nat} {r : Round} {f : Round → Round}

theorem round?_replId (h : s.round? id = some r) : r.load.replId = id :=
  eq_of_beq (List.find?_some (p := fun x : Round => x.load.replId == id) h)

theorem modRound_round? (hf : ∀ x, (f x).load.replId = x.load.replId) (h : s.round? id = some r) :
    (s.modRound id f).round? id = some (f r) :=
  (find?_mapWhere (fun x => by rw [hf x]) _).trans (congrArg (Option.map f) h)

/-- A packet of an unknown round changes none. -/
theorem modRound_none (h : s.round? id = none) : s.modRound id f = s := by
  unfold State.modRound
  rw [mapWhere_of_find?_none f h]

theorem checkRound_some (h : s.round? id = some r) :
    s.checkRound id = if r.ended.isSome && roundWhole r then s.startRoundLoad r else s := by
  simp only [State.checkRound, h]

theorem checkRound_none (h : s.round? id = none) : s.checkRound id = s := by
  simp only [State.checkRound, h]

theorem dropRound_round? (s : State) (id : Nat) : (s.dropRound id).round? id = none := by
  refine List.find?_eq_none.mpr (fun x hx => ?_)
  simpa using (List.mem_filter.mp hx).2

/-! Staging room (R547 step 1, R552) -/

/-- Room is made by forgetting kept loads, and by nothing else. -/
theorem makeRoom_kept {u : State} {n fuel : Nat} (h : s.makeRoom n fuel = some u) :
    ∃ kept, u = { s with fab := { s.fab with kept := kept } } := by
  induction fuel generalizing s with
  | zero =>
    obtain ⟨-, hsame⟩ := Option.ite_none_right_eq_some.mp h
    exact ⟨s.fab.kept, (Option.some.inj hsame).symm⟩
  | succ fuel ih =>
    simp only [State.makeRoom] at h
    split at h
    next => exact ⟨s.fab.kept, (Option.some.inj h).symm⟩
    next =>
      obtain ⟨kept, rfl⟩ := ih h
      exact ⟨kept, rfl⟩

/-- The packet in the endpoint memory takes no staging room. -/
theorem makeRoom_popped (n fuel : Nat) (s : State) : s.popped.makeRoom n fuel = (s.makeRoom n fuel).map State.popped := by
  induction fuel generalizing s with
  | zero =>
    simp only [State.makeRoom, apply_ite (Option.map State.popped)]
    rfl
  | succ fuel ih =>
    have hkept := ih { s with fab := { s.fab with kept := s.fab.kept.drop 1 } }
    simp only [State.makeRoom, apply_ite (Option.map State.popped), ← hkept]
    rfl

/-! Whole rounds (R547 step 3) -/

/-- The load that a whole round becomes. -/
def State.roundLoad (s : State) (k : ContentKind) (r : Round) : Load :=
  ⟨s.host.nextLoad, .round r.load.replId, k, r.load.index, r.load.version, r.totalLen, r.load.digest, .waiting, 0, r.load.content, 0, 0, true⟩

theorem startRoundLoad_unknown (h : kindOfCode r.load.kind = none) :
    s.startRoundLoad r = (s.replAck r 3).dropRound r.load.replId := by
  simp only [State.startRoundLoad, h]

section
variable {k : ContentKind} (hk : kindOfCode r.load.kind = some k) (hi : r.load.index < kindSize k)
  (ht : k ≠ .table ∨ s.flag (Fld.VIT_TABLE_CFG_EN r.load.index) = true) (hg : k ≠ .graph ∨ s.hasGeometry r.load.index = true)
include hk hi ht hg

/-- A round for an item that the device has room for is compared with the version in force. -/
theorem startRoundLoad_known : s.startRoundLoad r =
    if s.itemVersion k r.load.index = r.load.version then (s.replAck r 0).dropRound r.load.replId
    else if s.host.loads.any (fun l => l.source == .round r.load.replId) then s
    else { s with host := { s.host with loads := s.host.loads ++ [s.roundLoad k r], nextLoad := s.host.nextLoad + 1 } } := by
  have htable : ¬(k = .table ∧ (!s.flag (Fld.VIT_TABLE_CFG_EN r.load.index)) = true) := by
    rintro ⟨hkind, hoff⟩
    simp [hkind] at ht
    simp [ht] at hoff
  have hgraph : ¬(k = .graph ∧ (!s.hasGeometry r.load.index) = true) := by
    rintro ⟨hkind, hoff⟩
    simp [hkind] at hg
    simp [hg] at hoff
  simp only [State.startRoundLoad, hk, if_neg (not_or.mpr ⟨Nat.not_le.mpr hi, not_or.mpr ⟨htable, hgraph⟩⟩)]
  rfl

end

end

/-! Targets (R550) -/

theorem leNat_lt (bs : Bytes) : leNat bs < 256 ^ bs.length := by
  induction bs with
  | nil => exact Nat.one_pos
  | cons b bs ih =>
    have hb := b.isLt
    rw [leNat, List.length_cons, Nat.pow_succ]
    omega

theorem le_lt (bs : Bytes) (off n : Nat) : le bs off n < 256 ^ n :=
  Nat.lt_of_lt_of_le (leNat_lt _) (Nat.pow_le_pow_right (by decide) (List.length_take_le _ _))

theorem target_reset (n : Nat) (h : n < itemCount) : regReset (Fld.FAB_TARGET n).off = 0 := by
  revert n
  decide +kernel

/-- R241, R550, R557: the review of an item writes no word below the PBA but TID_SAT_STATUS and the event ring's lost records. -/
theorem reviewItem_regWord (s : State) (k : ContentKind) (i : Nat) {off : Nat} (hp : off < (Fld.MSIX_PBA 0).off)
    (hl : off ≠ (Fld.HIF_RING_LOST_CNT ringEvt).off) (ht : off ≠ Fld.TID_SAT_STATUS.off) :
    (s.reviewItem k i).regWord off = s.regWord off := by
  unfold State.reviewItem
  extract_lets n ver below s₁ s₂
  refine (reviewStrands_regWord _ ht).trans ?_
  have hevent {u : State} (hu : u.regWord off = s.regWord off) {args : List Nat} :
      (u.event 0x0087 (itemSource k i) args).regWord off = s.regWord off := (event_regWord hp u _ _ _ hl).trans hu
  refine regWord_ite (regWord_ite ?_ (regWord_ite (hevent ?_) ?_)) (regWord_ite ?_ (hevent ?_)) <;> rfl

theorem endpoint_ite {c : Prop} [Decidable c] {t u : State} {ps : List Packet} (ht : t.fab.endpoint = ps) (hu : u.fab.endpoint = ps) :
    (if c then t else u).fab.endpoint = ps := by
  split
  · exact ht
  · exact hu

theorem reviewItem_endpoint (s : State) (k : ContentKind) (i : Nat) : (s.reviewItem k i).fab.endpoint = s.fab.endpoint := by
  unfold State.reviewItem
  extract_lets n ver below s₁ s₂
  rw [(State.reviewStrands_touches _).fab_eq (by decide)]
  have hevent {u : State} (hu : u.fab.endpoint = s.fab.endpoint) {args : List Nat} :
      (u.event 0x0087 (itemSource k i) args).fab.endpoint = s.fab.endpoint := by
    rw [(State.event_touches _ _ _ _).fab_eq (by decide), hu]
  refine endpoint_ite (endpoint_ite ?_ (endpoint_ite (hevent ?_) ?_)) (endpoint_ite ?_ (hevent ?_)) <;> rfl

theorem itemNo_lt {k : ContentKind} {i : Nat} (h : i < kindSize k) : itemNo k i < itemCount := by
  cases k <;> simp only [kindSize, itemNo, kindBase, itemCount] at * <;> omega

theorem reviewItem_itemTarget (s : State) (k : ContentKind) (i : Nat) {m : Nat} (hm : m < itemCount) :
    (s.reviewItem k i).itemTarget m = s.itemTarget m := by
  refine get_of_regWord (reviewItem_regWord s k i ?_ ?_ ?_) <;>
    simp only [itemCount, Fld.FAB_TARGET, Fld.MSIX_PBA, Fld.HIF_RING_LOST_CNT, Fld.TID_SAT_STATUS, ringEvt] at * <;> omega

/-- A written field holds at least what was written, in a register file of any form. -/
theorem le_get_set (s : State) {f : Fld} {v : Nat} (hf : f.lsb + f.width ≤ 32) (hr : regReset f.off = 0) (hv : v < 2 ^ f.width) :
    v ≤ (s.set f v).get f := by
  rcases Nat.eq_zero_or_pos v with rfl | hpos
  · exact Nat.zero_le _
  · have hcut := Nat.mod_eq_of_lt hv
    exact Nat.le_of_eq (((get_set_of_ne_zero s hf hr (by omega)).trans hcut).symm)

/-- The target of an item raised to a version, and T_g with it where the item is a graph. -/
def State.raised (s : State) (k : ContentKind) (i v : Nat) : State :=
  if k = .graph then (s.set (Fld.FAB_TARGET (itemNo k i)) (max (s.itemTarget (itemNo k i)) v)).set (Fld.GTH_GRAPH_TARGET i)
    (max (s.itemTarget (itemNo k i)) v)
  else s.set (Fld.FAB_TARGET (itemNo k i)) (max (s.itemTarget (itemNo k i)) v)

section
variable {s : State} {k : ContentKind} {i v : Nat} (hi : i < kindSize k)
include hi

/-- T_g stands in another word than the targets. -/
theorem raised_itemTarget (m : Nat) : (s.raised k i v).itemTarget m =
    (s.set (Fld.FAB_TARGET (itemNo k i)) (max (s.itemTarget (itemNo k i)) v)).itemTarget m := by
  unfold State.raised
  split
  next hgraph =>
    subst hgraph
    refine get_set_ne _ _ ?_
    simp only [kindSize, Fld.FAB_TARGET, Fld.GTH_GRAPH_TARGET] at *
    omega
  next => rfl

theorem raised_itemTarget_same (hv : v < 2 ^ 32) : max (s.itemTarget (itemNo k i)) v ≤ (s.raised k i v).itemTarget (itemNo k i) := by
  have hold : s.itemTarget (itemNo k i) < 2 ^ 32 := rget_lt s.reg _
  rw [raised_itemTarget hi]
  exact le_get_set s (Nat.le_refl 32) (target_reset _ (itemNo_lt hi)) (Nat.max_lt.mpr ⟨hold, hv⟩)

theorem raised_itemTarget_ne {m : Nat} (hm : m ≠ itemNo k i) : (s.raised k i v).itemTarget m = s.itemTarget m := by
  rw [raised_itemTarget hi]
  refine get_set_ne _ _ ?_
  simp only [Fld.FAB_TARGET]
  omega

end

/-- R550: an entry of no known kind or index changes nothing; another raises its item's target. -/
theorem takeTarget_cases (s : State) (e : Bytes) : s.takeTarget e = s ∨ ∃ k, kindOfCode (byteAt e 0) = some k ∧ byteAt e 1 < kindSize k ∧
    s.takeTarget e = (s.raised k (byteAt e 1) (le e 4 4)).reviewItem k (byteAt e 1) := by
  unfold State.takeTarget
  split
  next => exact .inl rfl
  next k hk =>
    by_cases hi : kindSize k ≤ byteAt e 1
    · exact .inl (if_pos hi)
    · exact .inr ⟨k, hk, Nat.lt_of_not_le hi, if_neg hi⟩

theorem takeTarget_known {s : State} {e : Bytes} {k : ContentKind} (hk : kindOfCode (byteAt e 0) = some k) (hi : byteAt e 1 < kindSize k) :
    s.takeTarget e = (s.raised k (byteAt e 1) (le e 4 4)).reviewItem k (byteAt e 1) := by
  simp only [State.takeTarget, hk, if_neg (Nat.not_le.mpr hi)]
  rfl

theorem takeTarget_endpoint (s : State) (e : Bytes) : (s.takeTarget e).fab.endpoint = s.fab.endpoint := by
  rcases takeTarget_cases s e with h | ⟨k, -, -, h⟩
  · rw [h]
  · rw [h, reviewItem_endpoint]
    unfold State.raised
    split <;> rfl

/-- R550: no entry lowers a target. -/
theorem takeTarget_mono (s : State) (e : Bytes) {n : Nat} (hn : n < itemCount) : s.itemTarget n ≤ (s.takeTarget e).itemTarget n := by
  rcases takeTarget_cases s e with h | ⟨k, -, hi, h⟩
  · exact Nat.le_of_eq (congrArg (fun t : State => t.itemTarget n) h.symm)
  · rw [h, reviewItem_itemTarget _ _ _ hn]
    by_cases hsame : n = itemNo k (byteAt e 1)
    · subst hsame
      exact Nat.le_trans (Nat.le_max_left _ _) (raised_itemTarget_same hi (le_lt e 4 4))
    · exact Nat.le_of_eq (raised_itemTarget_ne hi hsame).symm

theorem takeTarget_reaches (s : State) {e : Bytes} {k : ContentKind} (hk : kindOfCode (byteAt e 0) = some k)
    (hi : byteAt e 1 < kindSize k) : le e 4 4 ≤ (s.takeTarget e).itemTarget (itemNo k (byteAt e 1)) := by
  rw [takeTarget_known hk hi, reviewItem_itemTarget _ _ _ (itemNo_lt hi)]
  exact Nat.le_trans (Nat.le_max_right _ _) (raised_itemTarget_same hi (le_lt e 4 4))

theorem takeTargets_endpoint (l : List Bytes) (s : State) : (l.foldl State.takeTarget s).fab.endpoint = s.fab.endpoint := by
  induction l generalizing s with
  | nil => rfl
  | cons e l ih => exact (ih _).trans (takeTarget_endpoint s e)

theorem takeTargets_mono (l : List Bytes) (s : State) {n : Nat} (hn : n < itemCount) :
    s.itemTarget n ≤ (l.foldl State.takeTarget s).itemTarget n := by
  induction l generalizing s with
  | nil => exact Nat.le_refl _
  | cons e l ih => exact Nat.le_trans (takeTarget_mono s e hn) (ih _)

/-- R550: every item that an entry names reaches the version that it names. -/
theorem takeTargets_reach {l : List Bytes} (s : State) {e : Bytes} {k : ContentKind} (he : e ∈ l) (hk : kindOfCode (byteAt e 0) = some k)
    (hi : byteAt e 1 < kindSize k) : le e 4 4 ≤ (l.foldl State.takeTarget s).itemTarget (itemNo k (byteAt e 1)) := by
  induction l generalizing s with
  | nil => exact nomatch he
  | cons d l ih =>
    rcases List.mem_cons.mp he with rfl | hlater
    · exact Nat.le_trans (takeTarget_reaches s hk hi) (takeTargets_mono l _ (itemNo_lt hi))
    · exact ih _ hlater

/-! What the commands do -/

/-- A round as REPL_BEGIN opens it. -/
def newRound (p : Packet) : Round :=
  ⟨p.src, p.rset, ⟨p.xfer, byteAt p.payload 0, byteAt p.payload 1, le p.payload 4 4, le p.payload 8 4, slice p.payload 24 48,
    zeros (le p.payload 16 8)⟩, le p.payload 16 8, [], none⟩

/-- A round once a fragment has arrived that lies within it and is new. -/
def withPart (p : Packet) (r : Round) : Round :=
  if p.offset + p.payload.length ≤ r.totalLen && !r.parts.contains (p.offset, p.payload.length) then
    { r with parts := r.parts ++ [(p.offset, p.payload.length)]
             load := { r.load with content := overwrite r.load.content p.offset p.payload } }
  else r

/-- A round whose REPL_END has been noted. -/
def endedAt (now : Nat) (r : Round) : Round := { r with ended := some (r.ended.getD now) }

theorem withPart_replId (p : Packet) (r : Round) : (withPart p r).load.replId = r.load.replId := by
  unfold withPart
  split <;> rfl

section
variable {s : State} {p : Packet} (hh : s.fab.endpoint.head? = some p)
include hh

theorem execReplBegin_room (ht : p.ptype = 1) (hx : s.round? p.xfer = none) {u : State} (hu : s.popped.stageRoom (le p.payload 16 8) = some u) :
    execReplBegin s = .next { u with fab := { u.fab with rounds := u.fab.rounds ++ [newRound p] } } := by
  have hnew : s.popped.round? p.xfer = none := hx
  simp only [execReplBegin, nextPacket_some hh ht, hnew, hu]
  rfl

theorem execReplBegin_noRoom (ht : p.ptype = 1) (hx : s.round? p.xfer = none) (hu : s.popped.stageRoom (le p.payload 16 8) = none) :
    execReplBegin s = .next (s.popped.replAck (newRound p) 5) := by
  have hnew : s.popped.round? p.xfer = none := hx
  simp only [execReplBegin, nextPacket_some hh ht, hnew, hu]
  rfl

theorem execReplBegin_known (ht : p.ptype = 1) (hx : (s.round? p.xfer).isSome = true) : execReplBegin s = .next s.popped := by
  have hknown : (s.popped.round? p.xfer).isSome = true := hx
  simp only [execReplBegin, nextPacket_some hh ht, hknown, if_true]

theorem execReplData_eq (ht : p.ptype = 2) :
    execReplData s = .next ((s.popped.modRound p.xfer (withPart p)).checkRound p.xfer) := by
  simp only [execReplData, nextPacket_some hh ht]
  rfl

theorem execReplEnd_eq (ht : p.ptype = 3) :
    execReplEnd s = .next ((s.popped.modRound p.xfer (endedAt s.now)).checkRound p.xfer) := by
  simp only [execReplEnd, nextPacket_some hh ht]
  rfl

/-- A whole round that ends is loaded, or answered at once. -/
theorem execReplEnd_whole {r : Round} (ht : p.ptype = 3) (hr : s.round? p.xfer = some r) (hw : roundWhole r = true) :
    execReplEnd s = .next ((s.popped.modRound p.xfer (endedAt s.now)).startRoundLoad (endedAt s.now r)) := by
  have hround : (s.popped.modRound p.xfer (endedAt s.now)).round? p.xfer = some (endedAt s.now r) :=
    modRound_round? (s := s.popped) (fun _ => rfl) hr
  have hwhole : roundWhole (endedAt s.now r) = true := hw
  rw [execReplEnd_eq hh ht, checkRound_some hround, hwhole]
  rfl

theorem execTarget_eq (ht : p.ptype = 7) :
    execTarget s = .next (((chunks 8 (p.payload.drop 4)).take (le p.payload 0 4)).foldl State.takeTarget s.popped) := by
  simp only [execTarget, nextPacket_some hh ht]

theorem execReplFullNeeded_known {k : ContentKind} (ht : p.ptype = 6) (hk : kindOfCode (byteAt p.payload 0) = some k) :
    execReplFullNeeded s = .next (s.popped.event 0x0088 (itemSource k (byteAt p.payload 1))
      [s.popped.itemVersion k (byteAt p.payload 1), le p.payload 4 4]) := by
  simp only [execReplFullNeeded, nextPacket_some hh ht, hk]

theorem execReplFullNeeded_unknown (ht : p.ptype = 6) (hk : kindOfCode (byteAt p.payload 0) = none) :
    execReplFullNeeded s = .next s.popped := by
  simp only [execReplFullNeeded, nextPacket_some hh ht, hk]

end

/-- A round that is answered and dropped. -/
theorem replAck_dropRound (s : State) (r : Round) (status id : Nat) :
    ((s.replAck r status).dropRound id).fab.endpoint = s.fab.endpoint ∧
      ((s.replAck r status).dropRound id).fab.rounds = s.fab.rounds.filter (fun x => x.load.replId != id) ∧
      ((s.replAck r status).dropRound id).host = s.host := by
  have hway : OnTheWay s (s.replAck r status) := sendPacket_onTheWay ..
  refine ⟨hway.endpoint_eq, ?_, (State.replAck_touches s r status).host_eq (by decide)⟩
  rw [← hway.rounds_eq]
  rfl

theorem execReplFragmentWait_late {s : State} {replId : Word} {r : Round} {k : Nat} (hr : s.round? replId.toNat = some r)
    (he : r.ended = some k) (hw : roundWhole r = false) (ht : 500000 ≤ s.since k) :
    execReplFragmentWait replId s = .next ((s.replAck r 1).dropRound replId.toNat) := by
  simp only [execReplFragmentWait, hr, he, hw, Nat.ble_eq_true_of_le ht, round?_replId hr]
  rfl

theorem execReplFragmentWait_waits {s : State} {replId : Word}
    (h : (s.round? replId.toNat).all (fun r => roundWhole r || r.ended.all (fun k => Nat.blt (s.since k) 500000)) = true) :
    execReplFragmentWait replId s = .next s := by
  unfold execReplFragmentWait
  split
  next => rfl
  next r hr =>
    rw [hr, Option.all_some] at h
    split
    next k he =>
      rw [he, Option.all_some] at h
      refine congrArg _ (if_neg (fun hlate => ?_))
      obtain ⟨hpart, hlong⟩ := Bool.and_eq_true_iff.mp hlate
      rw [Bool.not_eq_true'] at hpart
      rw [hpart, Bool.false_or, Nat.blt_eq] at h
      exact Nat.not_le.mpr h (Nat.le_of_ble_eq_true hlong)
    next => rfl

/-! REPL_PULL_TIMER (R552) -/

/-- The pull of an item is noted and counted. -/
def State.pullNoted (s : State) (n : Nat) : State :=
  ({ s with fab := { s.fab with pulls := Tab.put s.fab.pulls n s.now } }).count Fld.FAB_PULL_CNT

section
variable {item : Fin 180} {s : State}

theorem execReplPullTimer_due (hf : s.inFabric = true) (hs : s.stopped = false) (ho : s.flag Fld.FAB_STATE_ORIGIN = false)
    (hb : (Tab.get? s.fab.below item.val).isSome = true)
    (hp : ∀ k, Tab.get? s.fab.pulls item.val = some k → Nat.ble 50000000 (s.since k) = true) :
    ∃ p, execReplPullTimer item s = .next ((s.pullNoted item.val).sendPacket p) := by
  unfold execReplPullTimer
  obtain ⟨k, i⟩ := itemOf item.val
  refine ⟨_, congrArg Host.Outcome.next (if_pos ?_)⟩
  rw [hf, hs, ho, hb]
  simp only [Bool.not_false, Bool.true_and]
  split
  next k hk => exact hp k hk
  next => rfl

/-- Each reason why item `n` is not pulled now. -/
theorem execReplPullTimer_idle (h : s.inFabric = false ∨ s.stopped = true ∨ s.flag Fld.FAB_STATE_ORIGIN = true ∨
      Tab.get? s.fab.below item.val = none ∨ (Tab.get? s.fab.pulls item.val).any (fun k => Nat.blt (s.since k) 50000000) = true) :
    execReplPullTimer item s = .next s := by
  unfold execReplPullTimer
  obtain ⟨k, i⟩ := itemOf item.val
  refine congrArg Host.Outcome.next (if_neg (fun hdue => ?_))
  simp only [Bool.and_eq_true, Bool.not_eq_true'] at hdue
  obtain ⟨⟨⟨⟨hfabric, hruns⟩, hnode⟩, hbelow⟩, hwait⟩ := hdue
  rcases h with h | h | h | h | h
  · exact Bool.false_ne_true (h.symm.trans hfabric)
  · exact Bool.false_ne_true (hruns.symm.trans h)
  · exact Bool.false_ne_true (hnode.symm.trans h)
  · rw [h] at hbelow
    exact Bool.false_ne_true hbelow
  · obtain ⟨last, hlast, hrecent⟩ := Option.any_eq_true .. |>.mp h
    split at hwait
    next t ht =>
      cases ht.symm.trans hlast
      exact Nat.not_le.mpr (Nat.blt_eq.mp hrecent) (Nat.le_of_ble_eq_true hwait)
    next ht => exact nomatch ht.symm.trans hlast

end

end Sys2Proof.Machine
end

section
/-!
SUPPORT. O46, clause by clause.
-/
namespace Sys2Proof.Machine

section
variable {s : State} {p : Packet} {r : Round} (hh : s.fab.endpoint.head? = some p)
include hh

theorem execReplData_unknown (ht : p.ptype = 2) (hr : s.round? p.xfer = none) : execReplData s = .next s.popped := by
  have hnone : s.popped.round? p.xfer = none := hr
  rw [execReplData_eq hh ht, modRound_none hnone, checkRound_none hnone]

/-- A fragment before REPL_END is written, and the round waits. -/
theorem execReplData_open (ht : p.ptype = 2) (hr : s.round? p.xfer = some r) (he : r.ended = none) :
    execReplData s = .next (s.popped.modRound p.xfer (withPart p)) := by
  have hround : (s.popped.modRound p.xfer (withPart p)).round? p.xfer = some (withPart p r) :=
    modRound_round? (s := s.popped) (withPart_replId p) hr
  have hopen : (withPart p r).ended = none := by
    unfold withPart
    split <;> exact he
  rw [execReplData_eq hh ht, checkRound_some hround, hopen]
  rfl

theorem execReplEnd_part (ht : p.ptype = 3) (hr : s.round? p.xfer = some r) (hw : roundWhole r = false) :
    execReplEnd s = .next (s.popped.modRound p.xfer (endedAt s.now)) := by
  have hround : (s.popped.modRound p.xfer (endedAt s.now)).round? p.xfer = some (endedAt s.now r) :=
    modRound_round? (s := s.popped) (fun _ => rfl) hr
  have hpart : roundWhole (endedAt s.now r) = false := hw
  rw [execReplEnd_eq hh ht, checkRound_some hround, hpart]
  rfl

/-- R547: a round for which there is no room is answered NO_ROOM to its source. -/
theorem execReplBegin_answer (ht : p.ptype = 1) (hx : s.round? p.xfer = none) (hroom : (s.stageRoom (le p.payload 16 8)).isSome = false) :
    ∃ t, execReplBegin s = .next t ∧ OnTheWay s.popped t ∧
      (s.inFabric = false ∨ (s.box p.rset).any (fun b => inBox b p.src) = false →
        t.get Fld.FAB_NOROUTE_CNT = min (s.get Fld.FAB_NOROUTE_CNT + 1) 0xFFFFFFFF) ∧
      (s.inFabric = true ∧ (s.box p.rset).any (fun b => inBox b p.src) = true →
        t.get Fld.FAB_PKT_TX_CNT = min (s.get Fld.FAB_PKT_TX_CNT + 1) 0xFFFFFFFF) := by
  have hnone : s.popped.stageRoom (le p.payload 16 8) = none :=
    (makeRoom_popped ..).trans (congrArg (Option.map _) (Option.isNone_iff_eq_none.mp (Option.isSome_eq_false_iff.mp hroom)))
  exact ⟨_, execReplBegin_noRoom hh ht hx hnone, sendPacket_onTheWay .., fun h => sendPacket_norouteCnt (s := s.popped) h,
    fun h => sendPacket_txCnt (s := s.popped) h.1 h.2⟩

/-- R547: a round for which room is reserved is opened. -/
theorem execReplBegin_opened (ht : p.ptype = 1) (hx : s.round? p.xfer = none) (hroom : (s.stageRoom (le p.payload 16 8)).isSome = true) :
    ∃ t, execReplBegin s = .next t ∧ t.fab.endpoint = s.fab.endpoint.tail ∧ t.fab.rounds = s.fab.rounds ++ [newRound p] := by
  obtain ⟨u, hu⟩ := Option.isSome_iff_exists.mp hroom
  have hpop : s.popped.stageRoom (le p.payload 16 8) = some u.popped := (makeRoom_popped ..).trans (congrArg (Option.map _) hu)
  obtain ⟨kept, rfl⟩ := makeRoom_kept hu
  exact ⟨_, execReplBegin_room hh ht hx hpop, rfl, rfl⟩

end

section
variable {s : State} {p : Packet} {r : Round} {k : ContentKind} (hh : s.fab.endpoint.head? = some p) (ht : p.ptype = 3)
  (hr : s.round? p.xfer = some r) (hw : roundWhole r = true)
include hh ht hr hw

/-- R547 step 3: a whole round of the version in force, or of no known kind, is answered and dropped. -/
theorem execReplEnd_dropped {status : Nat} (hs : (s.popped.modRound p.xfer (endedAt s.now)).startRoundLoad (endedAt s.now r) =
      ((s.popped.modRound p.xfer (endedAt s.now)).replAck (endedAt s.now r) status).dropRound r.load.replId) :
    ∃ t, execReplEnd s = .next t ∧ t.fab.endpoint = s.fab.endpoint.tail ∧ t.round? p.xfer = none ∧ t.host = s.host ∧
      Touches [.reg, .host, .nwl, .fab] s t := by
  have hexec := (execReplEnd_whole hh ht hr hw).trans (congrArg _ hs)
  obtain ⟨hendpoint, -, hhost⟩ := replAck_dropRound (s.popped.modRound p.xfer (endedAt s.now)) (endedAt s.now r) status r.load.replId
  rw [round?_replId hr] at hexec hendpoint hhost
  exact ⟨_, hexec, hendpoint, dropRound_round? _ _, hhost, (execReplEnd_answers s).stays _ hexec⟩

end

/-- Settles O46: each command takes its packet from the front of the endpoint memory, and what it then does is `execReplBegin_opened` and
the equations above. -/
theorem roundsArrive : Obligations.RoundsArrive := by
  unfold Obligations.RoundsArrive
  refine ⟨?begin, ?beginNoRoom, ?beginKnown, ?noBegin, ?dataUnknown, ?data, ?noData, ?endPart, ?endLoad, ?endInForce, ?endUnknown, ?noEnd,
    ?waitOver, ?waits, ?target, ?noTarget, ?pull, ?noPull, ?fullNeeded, ?fullUnknown, ?noFull⟩
  case begin =>
    intro p s hh ht hx hroom
    obtain ⟨t, hexec, hendpoint, hrounds⟩ := execReplBegin_opened hh ht hx hroom
    exact ⟨t, hexec, hendpoint, hrounds, (execReplBegin_answers s).stays _ hexec⟩
  case beginNoRoom =>
    intro p s hh ht hx hroom
    obtain ⟨t, hexec, hway, hnoroute, htx⟩ := execReplBegin_answer hh ht hx hroom
    exact ⟨t, hexec, hway.endpoint_eq, hway.rounds_eq, hnoroute, htx, (execReplBegin_answers s).stays _ hexec⟩
  case beginKnown =>
    intro p s hh ht hx
    exact ⟨_, execReplBegin_known hh ht hx, rfl, rfl, rfl, (popped_touches s).mono rfl⟩
  case noBegin =>
    intro s h
    change execReplBegin s = _
    simp only [execReplBegin, h]
  case dataUnknown =>
    intro p s hh ht hr
    exact ⟨_, execReplData_unknown hh ht hr, rfl, rfl, popped_touches s⟩
  case data =>
    intro p r s hh ht hr hlen hnew he
    have hpart : withPart p r = { r with parts := r.parts ++ [(p.offset, p.payload.length)]
                                         load := { r.load with content := overwrite r.load.content p.offset p.payload } } :=
      if_pos (by rw [hnew, decide_eq_true hlen]; rfl)
    refine ⟨_, execReplData_open hh ht hr he, rfl, ?_, List.length_map _, (State.modRound_touches ..).after rfl (popped_touches s)⟩
    rw [← hpart]
    exact modRound_round? (s := s.popped) (withPart_replId p) hr
  case noData =>
    intro s h
    change execReplData s = _
    simp only [execReplData, h]
  case endPart =>
    intro p r s hh ht hr hw
    exact ⟨_, execReplEnd_part hh ht hr hw, rfl, modRound_round? (s := s.popped) (fun _ => rfl) hr,
      (State.modRound_touches ..).after rfl (popped_touches s)⟩
  case endLoad =>
    intro p r k s hh ht hr hw hk hi htab hgraph hver hnew
    have hload := (startRoundLoad_known (s := s.popped.modRound p.xfer (endedAt s.now)) (r := endedAt s.now r) hk hi htab hgraph).trans
      ((if_neg hver).trans (if_neg (Bool.not_eq_true _ ▸ hnew)))
    have hround : ((s.popped.modRound p.xfer (endedAt s.now)).round? p.xfer).isSome = true :=
      Option.isSome_iff_exists.mpr ⟨_, modRound_round? (s := s.popped) (fun _ => rfl) hr⟩
    exact ⟨_, (execReplEnd_whole hh ht hr hw).trans (congrArg _ hload), rfl, rfl, rfl, hround,
      .put_host rfl ((State.modRound_touches ..).after rfl ((popped_touches s).mono rfl))⟩
  case endInForce =>
    intro p r k s hh ht hr hw hk hi htab hgraph hver
    exact execReplEnd_dropped hh ht hr hw
      ((startRoundLoad_known (s := s.popped.modRound p.xfer (endedAt s.now)) (r := endedAt s.now r) hk hi htab hgraph).trans (if_pos hver))
  case endUnknown =>
    intro p r s hh ht hr hw hk
    exact execReplEnd_dropped hh ht hr hw (startRoundLoad_unknown hk)
  case noEnd =>
    intro s h
    change execReplEnd s = _
    simp only [execReplEnd, h]
  case waitOver =>
    intro replId r k s hr he hw ht
    have hexec := execReplFragmentWait_late hr he hw ht
    obtain ⟨-, hrounds, -⟩ := replAck_dropRound s r 1 replId.toNat
    exact ⟨_, hexec, hrounds, (execReplFragmentWait_answers replId s).stays _ hexec⟩
  case waits =>
    intro replId s h
    exact execReplFragmentWait_waits h
  case target =>
    intro p s hh ht
    have hexec := execTarget_eq hh ht
    exact ⟨_, hexec, takeTargets_endpoint _ _, fun e he k hk hi => takeTargets_reach _ he (Option.mem_toList.mp hk) hi,
      fun n hn => takeTargets_mono _ s.popped hn, (execTarget_answers s).stays _ hexec⟩
  case noTarget =>
    intro s h
    change execTarget s = _
    simp only [execTarget, h]
  case pull =>
    intro item s hf hs ho hb hp
    obtain ⟨p, hexec⟩ := execReplPullTimer_due hf hs ho hb (Option.all_eq_true _ _ |>.mp hp)
    have hway : OnTheWay (s.pullNoted item.val) _ := sendPacket_onTheWay _ p
    refine ⟨_, hexec, ?_, ?_, hway.below_eq, (execReplPullTimer_answers item s).stays _ hexec⟩
    · rw [get_of_regWord (sendPacket_regWord _ p (by decide) (by decide))]
      exact get_count_of_reset _ (by decide) (by decide) (by decide)
    · rw [hway.pulls_eq]
      exact Tab.get?_put_same _ _ _
  case noPull =>
    intro item s h
    exact execReplPullTimer_idle h
  case fullNeeded =>
    intro p k s hh ht hk
    have hexec := execReplFullNeeded_known hh ht hk
    have hevent := (State.event_touches s.popped 0x0088 (itemSource k (byteAt p.payload 1))
      [s.popped.itemVersion k (byteAt p.payload 1), le p.payload 4 4]).fab_eq (by decide)
    exact ⟨_, hexec, congrArg _ hevent, rfl, (execReplFullNeeded_answers s).stays _ hexec⟩
  case fullUnknown =>
    intro p s hh ht hk
    exact ⟨_, execReplFullNeeded_unknown hh ht hk, rfl, rfl, popped_touches s⟩
  case noFull =>
    intro s h
    change execReplFullNeeded s = _
    simp only [execReplFullNeeded, h]

end Sys2Proof.Machine
end

section
/-!
SUPPORT. Where a command can fault (O5): the recovery commands of R475 where they start and where their offset does not exist, a write on
the bus and over PCIe by what it writes, and the commands that write no recovery command.
-/
namespace Sys2Proof.Machine

/-! The recovery commands, one equation a case -/

/-- Table 12-1, R475: recovery waits in BOOT_FAIL, and IMG_REC_ADDR names an offset that no bank has. -/
def State.pastBank (s : State) : Prop := s.img.boot = .fail ∧ nvmSize ≤ s.recPlace.2

theorem recProgram_elsewhere {s : State} (h : s.img.boot ≠ .fail) : s.recProgram = .next s := if_pos h

theorem recErase_elsewhere {s : State} (h : s.img.boot ≠ .fail) : s.recErase = .next s := if_pos h

theorem recProgram_pastBank {s : State} (h : s.pastBank) : s.recProgram = .fault .noSuchAddress :=
  (if_neg (not_not_intro h.1)).trans (if_pos h.2)

theorem recErase_pastBank {s : State} (h : s.pastBank) : s.recErase = .fault .noSuchAddress :=
  (if_neg (not_not_intro h.1)).trans (if_pos h.2)

/-- R475: the page that IMG_REC_ADDR lies in is programmed with IMG_REC_DATA. -/
theorem recProgram_starts {s : State} (hb : s.img.boot = .fail) (ho : s.recPlace.2 < nvmSize) : s.recProgram =
    .next (s.recStart s.recPlace.1 (.recPage (s.recPlace.2 / 256 * 256) (s.window 0x10200 256))) :=
  (if_neg (not_not_intro hb)).trans (if_neg (Nat.not_le.mpr ho))

/-- R475: the sector that IMG_REC_ADDR lies in is erased. -/
theorem recErase_starts {s : State} (hb : s.img.boot = .fail) (ho : s.recPlace.2 < nvmSize) : s.recErase =
    .next (s.recStart s.recPlace.1 (.erase (s.recPlace.2 / 65536 * 65536) true)) :=
  (if_neg (not_not_intro hb)).trans (if_neg (Nat.not_le.mpr ho))

/-! Answers with the one fault -/

/-- The answer is a next state, or it is the missing NVM address and recovery names one. -/
def Ends (s : State) (r : Res) : Prop := (∃ t, r = .next t) ∨ r = .fault .noSuchAddress ∧ s.pastBank

theorem Ends.next (s t : State) : Ends s (.next t) := .inl ⟨t, rfl⟩

theorem Ends.of_pastBank {s u : State} {r : Res} (h : Ends u r) (hu : u.pastBank → s.pastBank) : Ends s r :=
  h.imp_right (And.imp_right hu)

theorem Ends.andThen {s : State} {r : Res} {f : State → Res} (h : Ends s r) (hf : ∀ u, r = .next u → Ends s (f u)) :
    Ends s (andThen r f) := by
  obtain ⟨t, rfl⟩ | ⟨rfl, hp⟩ := h
  · exact hf t rfl
  · exact .inr ⟨rfl, hp⟩

theorem Answers.isNext {ps : List Part} {s : State} {r : Res} (h : Answers ps s r) : ∃ t, r = .next t := h.imp (fun _ k => k.1)

/-- R475: outside BOOT_FAIL nothing happens, and an offset that no bank has is no address. -/
theorem recovery_ends (s u : State) : Ends s (if s.img.boot ≠ .fail then .next s
    else if nvmSize ≤ s.recPlace.2 then .fault .noSuchAddress else .next u) := by
  split
  · exact .next s s
  next hboot =>
    split
    next hoff => exact .inr ⟨rfl, Decidable.not_not.mp hboot, hoff⟩
    next => exact .next s u

theorem recProgram_ends (s : State) : Ends s s.recProgram := recovery_ends s _

theorem recErase_ends (s : State) : Ends s s.recErase := recovery_ends s _

/-! Writes -/

theorem recStart_recPlace (s : State) (b : Nat) (op : NvmOp) : (s.recStart b op).recPlace = s.recPlace := by
  have haddr : (s.recStart b op).get Fld.IMG_REC_ADDR = s.get Fld.IMG_REC_ADDR := by
    unfold State.recStart
    split
    · rfl
    split
    · exact get_set_ne s _ (by decide)
    · exact (get_set_ne _ _ (by decide)).trans (get_set_ne _ _ (by decide))
  rw [State.recPlace, haddr, State.recPlace]

/-- A program that has started leaves no address missing. -/
theorem pastBank_of_recProgram {s u : State} (h : s.recProgram = .next u) (hu : u.pastBank) : s.pastBank := by
  obtain ⟨hboot, hoff⟩ := hu
  have hb : s.img.boot = .fail := (State.recProgram_stays s u h).img_eq (by decide) ▸ hboot
  obtain ho | ho := Nat.lt_or_ge s.recPlace.2 nvmSize
  · cases (recProgram_starts hb ho).symm.trans h
    rw [recStart_recPlace] at hoff
    exact absurd hoff (Nat.not_le.mpr ho)
  · exact ⟨hb, ho⟩

/-- IMG_REC_CMD: its actions come in turn, and the restart never faults. -/
theorem recCmd_ends (s : State) (v : Nat) : Ends s (s.recCmd v) := by
  unfold State.recCmd
  extract_lets r₁ r₂
  have hprogram : Ends s r₁ ∧ ∀ u, r₁ = .next u → u.pastBank → s.pastBank := by
    unfold r₁
    split
    · exact ⟨recProgram_ends s, fun _ => pastBank_of_recProgram⟩
    · exact ⟨.next s s, fun _ h hp => by cases h; exact hp⟩
  have herase : Ends s r₂ := by
    unfold r₂
    split
    · exact hprogram.1.andThen (fun u hu => (recErase_ends u).of_pastBank (hprogram.2 u hu))
    · exact hprogram.1
  split
  · exact herase.andThen (fun u _ => .next s _)
  · exact herase

/-- A write of any other word answers a next state. -/
theorem busWrite_isNext {off : Nat} (s : State) (p : Path) (v : Nat) (h : off ≠ Fld.IMG_REC_CMD.off) :
    ∃ t, s.busWrite p off v = .next t := by
  unfold State.busWrite
  split
  · split
    · exact ⟨_, rfl⟩
    · split
      · exact ⟨_, rfl⟩
      · exact ⟨_, rfl⟩
  · exact ⟨_, rfl⟩

theorem busWrite_ends (s : State) (p : Path) (off v : Nat) : Ends s (s.busWrite p off v) := by
  by_cases h : off = Fld.IMG_REC_CMD.off
  · unfold State.busWrite
    split
    · split
      · exact .next s _
      · split
        · exact .next s _
        · exact recCmd_ends s v
    · exact .next s _
  · exact .inl (busWrite_isNext s p v h)

/-- R401, R655: only the MSI-X table and its PBA take a write of 8 bytes. -/
theorem msix_of_wide_write {off : Nat} (h : accessOk .bar0 off 8 true = true) : 0x3F00000 ≤ off := by
  simp only [accessOk, Bool.or_eq_true, Bool.and_eq_true, beq_iff_eq, decide_eq_true_eq] at h
  omega

/-- A PCIe write answers a next state, or it is one write of a word on the bus. -/
theorem pcieWrite_cases (s : State) (b : Bar) (off size : Nat) (poisoned : Bool) (v : Nat) :
    (∃ t, s.pcieWrite b off size poisoned v = .next t) ∨
      b = .bar0 ∧ s.pcieWrite b off size poisoned v = s.busWrite .pcie off (v % 2 ^ 32) := by
  unfold State.pcieWrite
  split
  · exact .inl ⟨_, rfl⟩
  split
  · exact .inl ⟨_, rfl⟩
  split
  · exact .inl ⟨_, rfl⟩
  split
  · exact .inl ⟨_, rfl⟩
  next haccess =>
    cases b with
    | bar0 =>
      dsimp only
      split
      next hsize =>
        subst hsize
        have hoff : 0x3F00000 ≤ off := msix_of_wide_write (by simpa using haccess)
        obtain ⟨t, hlow⟩ := busWrite_isNext s .pcie (v % 2 ^ 32) (off := off) (by simp only [Fld.IMG_REC_CMD]; omega)
        rw [hlow]
        exact .inl (busWrite_isNext t .pcie _ (by simp only [Fld.IMG_REC_CMD]; omega))
      next => exact .inr ⟨rfl, rfl⟩
    | bar2 => exact .inl ⟨_, rfl⟩
    | bar4 => exact .inl ⟨_, rfl⟩

theorem pcieWrite_ends (s : State) (b : Bar) (off size : Nat) (poisoned : Bool) (v : Nat) : Ends s (s.pcieWrite b off size poisoned v) := by
  obtain h | ⟨-, h⟩ := pcieWrite_cases s b off size poisoned v
  · exact .inl h
  · exact h ▸ busWrite_ends s .pcie off _

/-- A write of a word that is not IMG_REC_CMD, on either path. -/
theorem pathWrite_isNext {off : Nat} (s : State) (p : Path) (v : Nat) (h : off ≠ Fld.IMG_REC_CMD.off) :
    ∃ t, s.pathWrite p off v = .next t := by
  cases p with
  | jtag => exact busWrite_isNext s .jtag v h
  | pcie =>
    obtain hnext | ⟨-, hbus⟩ := pcieWrite_cases s .bar0 off 4 false v
    · exact hnext
    · exact (busWrite_isNext s .pcie _ h).imp (fun _ => hbus.trans)

/-- R421: no write of the result window reaches the bus. -/
theorem execWindowAck_isNext (off : BitVec 22) (size : Fin 9) (v : BitVec 64) (s : State) : ∃ t, execWindowAck off size v s = .next t :=
  (pcieWrite_cases s .bar4 off.toNat size.val false v.toNat).resolve_right (fun h => nomatch h.1)

/-- R622, R623: a write over the TAP is a write on the bus by the JTAG path; what the TAP notes is no part of recovery. -/
theorem execRegAccess_ends (write : Bool) (off : BitVec 26) (data : Word) (s : State) : Ends s (execRegAccess write off data s) := by
  unfold execRegAccess
  split
  · extract_lets o s₁ keep
    split
    · exact .next s _
    · split
      · obtain ⟨t, h⟩ | ⟨h, hp⟩ := busWrite_ends s₁ .jtag o data.toNat
        · exact h ▸ .next s _
        · exact h ▸ .inr ⟨rfl, hp⟩
      · exact .next s _
  · exact .next s _

/-! Every command -/

/-- The commands that write IMG_REC_CMD, or may. -/
def recovers : Instr → Bool
  | .recProgramPage | .recEraseSector | .registerWrite .. | .regAccess .. => true
  | _ => false

/-- No other command faults. Those named here decide in more than one place, or write a word of their own over a path; every other
one computes its next state outright. -/
theorem exec_isNext {i : Instr} (s : State) (h : recovers i = false) : ∃ t, exec i s = .next t := by
  cases i with
  | recProgramPage | recEraseSector | registerWrite | regAccess => cases h
  | intakeParseDone => exact (execIntakeParseDone_answers ..).isNext
  | streamIdleTimeout => exact (execStreamIdleTimeout_answers ..).isNext
  | wheelSlot => exact (execWheelSlot_answers ..).isNext
  | catalogueUnitDone => exact (execCatalogueUnitDone_answers ..).isNext
  | vitrineSearchResult => exact (execVitrineSearchResult_answers ..).isNext
  | vitrineUpdateSlot => exact (execVitrineUpdateSlot_answers ..).isNext
  | learnCommit => exact (execLearnCommit_answers ..).isNext
  | agingSweep => exact (execAgingSweep_answers ..).isNext
  | agingRemoval => exact (execAgingRemoval_answers ..).isNext
  | scrubRead => exact (execScrubRead_answers ..).isNext
  | gatherWalkStart => exact (execGatherWalkStart_answers ..).isNext
  | gatherReadGrant => exact (execGatherReadGrant_answers ..).isNext
  | gatherReadReturn => exact (execGatherReadReturn_answers ..).isNext
  | gatherReadTimeout => exact (execGatherReadTimeout_answers ..).isNext
  | creditBoundary => exact (execCreditBoundary_answers ..).isNext
  | creditDeadline => exact (execCreditDeadline_answers ..).isNext
  | arborUnitDone => exact (execArborUnitDone_answers ..).isNext
  | galleryProgramDone => exact (execGalleryProgramDone_answers ..).isNext
  | modelStart => exact (execModelStart_answers ..).isNext
  | verdictCommit => exact (execVerdictCommit_answers ..).isNext
  | frameDeadline => exact (execFrameDeadline_answers ..).isNext
  | releaseLead => exact (execReleaseLead_answers ..).isNext
  | frameRelease => exact (execFrameRelease_answers ..).isNext
  | sealTimer => exact (execSealTimer_answers ..).isNext
  | accessionDrain => exact (execAccessionDrain_answers ..).isNext
  | guardRequestAdmit => exact (execGuardRequestAdmit_answers ..).isNext
  | coveStepStart => exact (execCoveStepStart_answers ..).isNext
  | coveStepCommit => exact (execCoveStepCommit_answers ..).isNext
  | requestFree => exact (execRequestFree_answers ..).isNext
  | coveWedgeTimeout => exact (execCoveWedgeTimeout_answers ..).isNext
  | replayDone => exact (execReplayDone_answers ..).isNext
  | windowAck => exact execWindowAck_isNext ..
  | thermalConversion => exact (execThermalConversion_answers ..).isNext
  | ppsEdge => exact (execPpsEdge_answers ..).isNext
  | tidRateWrite | tidSlewWrite | tidSetCmd | saInstall | saDisable | ledgerFetch => exact pathWrite_isNext s _ _ (by decide)
  | ringEnable | laneTestControl | errorInject =>
    exact pathWrite_isNext s _ _ (by simp only [Fld.HIF_RING_CTL_EN, Fld.TST_LANE_CTL_GEN_EN, Fld.IMG_REC_CMD]; omega)
  | _ => exact ⟨_, rfl⟩

theorem exec_ends (i : Instr) (s : State) : Ends s (exec i s) := by
  cases h : recovers i with
  | false => exact .inl (exec_isNext s h)
  | true =>
    cases i with
    | recProgramPage => exact recProgram_ends s
    | recEraseSector => exact recErase_ends s
    | registerWrite => exact pcieWrite_ends ..
    | regAccess => exact execRegAccess_ends ..
    | _ => cases h

/-- A next state is no fault. -/
theorem not_fault_of_isNext {r : Res} {f : Fault} (h : ∃ t, r = .next t) : r ≠ .fault f := by
  obtain ⟨t, rfl⟩ := h
  exact nofun

/-- Settles O5: every command answers a next state or the missing NVM address, and the latter only where recovery names one; the commands
that write no recovery command answer a next state in every state. -/
theorem nvmAddressEnds : Obligations.NvmAddressEnds := by
  unfold Obligations.NvmAddressEnds
  refine ⟨?missing, ?answers, ?place⟩
  case missing => exact fun s hb ho => ⟨recProgram_pastBank ⟨hb, ho⟩, recErase_pastBank ⟨hb, ho⟩⟩
  case answers => exact fun i s => (exec_ends i s).imp_right And.left
  case place =>
    intro i s h
    obtain ⟨-, hb, ho⟩ := (exec_ends i s).resolve_left (fun hnext => not_fault_of_isNext hnext h)
    refine ⟨hb, ho, ?_⟩
    cases i with
    | recProgramPage | recEraseSector | registerWrite | regAccess => trivial
    | _ => exact absurd h (not_fault_of_isNext (exec_isNext s rfl))

end Sys2Proof.Machine
end

section
/-!
SUPPORT. What ends on an NVM bank (O4): the bytes that an erase or a page program leaves, and that nothing that follows, short of a full
reset, changes a byte (R443, R458, R460, R475, R581).
-/
namespace Sys2Proof.Machine

/-! One bank changed -/

theorem getElem?_modifyAt_ne {α : Type} {l : List α} {i j : Nat} (g : α → α) (h : j ≠ i) : (modifyAt l i g)[j]? = l[j]? := by
  induction l generalizing i j with
  | nil => cases i <;> rfl
  | cons x xs ih =>
    cases i with
    | zero =>
      obtain ⟨j, rfl⟩ := Nat.exists_eq_succ_of_ne_zero h
      rfl
    | succ i =>
      cases j with
      | zero => rfl
      | succ j => exact ih (fun e => h (congrArg _ e))

theorem bank_modBank_same {s : State} {b : Nat} (f : NvmBank → NvmBank) (h : b < s.nvm.length) :
    (s.modBank b f).bank b = f (s.bank b) := by
  simp [State.bank, getElem?_modifyAt_same, h]

theorem bank_modBank_ne (s : State) {b k : Nat} (f : NvmBank → NvmBank) (h : k ≠ b) : (s.modBank b f).bank k = s.bank k := by
  simp [State.bank, getElem?_modifyAt_ne f h]

/-! What follows once a bank is free -/

theorem resetGo_idle {s : State} (h : s.rst = none) : s.resetGo = s := by
  simp only [State.resetGo, h]

/-- R613: without a full reset under way, what starts next changes no byte. -/
theorem nvmGo_touches_of_no_reset {s : State} (h : s.rst = none) : Touches [.freeCtr, .out, .reg, .host, .ops, .led] s s.nvmGo := by
  have hstarts : Touches [.freeCtr, .out, .reg, .host, .ops, .led] s (((s.ledgerGo.progGo 0).progGo 1).hkGo) :=
    (State.hkGo_touches _).after rfl ((State.progGo_touches _ 1).after rfl ((State.progGo_touches _ 0).after rfl
      (State.ledgerGo_touches s)))
  rw [State.nvmGo, resetGo_idle ((hstarts.rst_eq (by decide)).trans h)]
  exact hstarts

/-- The parts that the end of an operation changes beside its own bank. -/
def endParts : List Part := [.freeCtr, .out, .reg, .host, .ops, .led, .img]

/-- One bank has been changed and has become free: its bytes stay as the change left them, and those of the other bank as they were. -/
theorem nvmGo_cells {s u : State} {bank : Fin 2} {f : NvmBank → NvmBank} (hrst : s.rst = none) (hlen : bank.val < s.nvm.length)
    (hu : Touches endParts (s.modBank bank.val f) u) : (u.nvmGo.bank bank.val).cells = (f (s.bank bank.val)).cells ∧
    (u.nvmGo.bank (1 - bank.val)).cells = (s.bank (1 - bank.val)).cells ∧ u.nvmGo.rst = none := by
  have hurst : u.rst = none := (hu.rst_eq (by decide)).trans hrst
  have hgo := nvmGo_touches_of_no_reset hurst
  have hcells : ∀ k, (u.nvmGo.bank k).cells = ((s.modBank bank.val f).bank k).cells :=
    fun k => (hgo.bank_cells (by decide) k).trans (hu.bank_cells (by decide) k)
  refine ⟨?_, ?_, (hgo.rst_eq (by decide)).trans hurst⟩
  · rw [hcells, bank_modBank_same f hlen]
  · rw [hcells, bank_modBank_ne s f (by omega)]

/-! The ends -/

/-- An erased sector, and its bank at rest. -/
def erasedBank (off : Nat) (k : NvmBank) : NvmBank := { k with cells := eraseCells k.cells off 65536, op := none }

/-- A programmed page, and its bank at rest. -/
def programmedBank (off : Nat) (data : Bytes) (k : NvmBank) : NvmBank := { k with cells := programCells k.cells off data, op := none }

/-- R458, R475: after an erase recovery is told, or housekeeping goes on. -/
theorem execSectorEraseDone_erase {bank : Fin 2} {off : Nat} {rec : Bool} {s : State}
    (h : (s.bank bank.val).op = some (.erase off rec)) :
    ∃ u, execSectorEraseDone bank s = .next u.nvmGo ∧ Touches endParts (s.modBank bank.val (erasedBank off)) u := by
  simp only [execSectorEraseDone, h]
  split
  · exact ⟨_, rfl, (State.set_touches _ _ _).after rfl ((State.set_touches _ _ _).mono rfl)⟩
  · split
    · exact ⟨_, rfl, State.hkLedger_touches _ _⟩
    · exact ⟨_, rfl, State.hkErase_touches _ _⟩
    · exact ⟨_, rfl, Touches.refl _ _⟩

theorem execSectorEraseDone_idle {bank : Fin 2} {s : State} (h : (s.bank bank.val).op = none) : execSectorEraseDone bank s = .next s := by
  simp only [execSectorEraseDone, h]

/-- R460: after an image page its command goes on or completes. -/
theorem execNvmPageProgramDone_image {bank : Fin 2} {off : Nat} {data : Bytes} {s : State}
    (h : (s.bank bank.val).op = some (.imagePage off data)) :
    ∃ u, execNvmPageProgramDone bank false s = .next u.nvmGo ∧ Touches endParts (s.modBank bank.val (programmedBank off data)) u := by
  simp only [execNvmPageProgramDone, h]
  exact ⟨_, rfl, (State.imagePageDone_touches _ _ _ _).mono rfl⟩

/-- R475: after a recovery page BUSY and FAILED clear. -/
theorem execNvmPageProgramDone_rec {bank : Fin 2} {off : Nat} {data : Bytes} {s : State}
    (h : (s.bank bank.val).op = some (.recPage off data)) :
    ∃ u, execNvmPageProgramDone bank false s = .next u.nvmGo ∧ Touches endParts (s.modBank bank.val (programmedBank off data)) u := by
  simp only [execNvmPageProgramDone, h]
  exact ⟨_, rfl, (State.set_touches _ _ _).after rfl ((State.set_touches _ _ _).mono rfl)⟩

theorem execNvmPageProgramDone_idle {bank : Fin 2} (failed : Bool) {s : State} (h : (s.bank bank.val).op = none) :
    execNvmPageProgramDone bank failed s = .next s := by
  simp only [execNvmPageProgramDone, h]

end Sys2Proof.Machine
end

section
/-!
SUPPORT. Recovery, verification and reads of an NVM bank (O4): how a recovery operation starts and the device restarts (R475), what a
commanded verification leaves (R446, R460), and where a start goes whose bank cannot be read (R453, R474).
-/
namespace Sys2Proof.Machine

/-! Recovery operations -/

theorem recStart_busy {s : State} (b : Nat) (op : NvmOp) (h : s.flag Fld.IMG_REC_STATUS_BUSY = true) : s.recStart b op = s := if_pos h

/-- Something else runs on the bank. -/
theorem recStart_taken {s : State} {b : Nat} (op : NvmOp) (h : s.flag Fld.IMG_REC_STATUS_BUSY = false) (hop : (s.bank b).op ≠ none) :
    s.recStart b op = s.set Fld.IMG_REC_STATUS_FAILED 1 := by
  simp [State.recStart, h, Option.isSome_iff_ne_none, hop]

/-- The bank is free. -/
theorem recStart_free {s : State} {b : Nat} (op : NvmOp) (h : s.flag Fld.IMG_REC_STATUS_BUSY = false) (hop : (s.bank b).op = none) :
    s.recStart b op =
      ((s.modBank b (fun k => { k with op := some op })).set Fld.IMG_REC_STATUS_BUSY 1).set Fld.IMG_REC_STATUS_FAILED 0 := by
  simp [State.recStart, h, hop]

theorem set_bank (s : State) (f : Fld) (v b : Nat) : (s.set f v).bank b = s.bank b := rfl

/-- An operation that starts: BUSY is set, FAILED is clear, and no other word changes. -/
theorem recStart_runs {s : State} {b : Nat} (op : NvmOp) (hw : regFileWf s.reg = true) (h : s.flag Fld.IMG_REC_STATUS_BUSY = false)
    (hop : (s.bank b).op = none) (hlen : b < s.nvm.length) : ((s.recStart b op).bank b).op = some op ∧
    (s.recStart b op).get Fld.IMG_REC_STATUS_BUSY = 1 ∧ (s.recStart b op).get Fld.IMG_REC_STATUS_FAILED = 0 ∧
    OnlyWords [Fld.IMG_REC_STATUS_BUSY.off] s (s.recStart b op) ∧ Touches [.reg, .ops] s (s.recStart b op) := by
  have hbank : regFileWf (s.modBank b (fun k => { k with op := some op })).reg = true := hw
  refine ⟨?op, ?busy, ?failed, ?words, State.recStart_touches s b op⟩ <;> rw [recStart_free op h hop]
  case op => rw [set_bank, set_bank, bank_modBank_same _ hlen]
  case busy =>
    rw [get_set_field (f := Fld.IMG_REC_STATUS_FAILED) (g := Fld.IMG_REC_STATUS_BUSY) (wf_set hbank _ _) _ (by decide) rfl (by decide)]
    exact get_set_same hbank _ _ (by decide)
  case failed => exact get_set_same (wf_set hbank _ _) _ _ (by decide)
  case words => exact (onlyWords_set s _ _ (by decide)).trans (onlyWords_set _ _ _ (by decide))

/-! The restart -/

theorem resume_boot (s : State) (bist : Bool) : (s.resume bist).img.boot = .otp := rfl

theorem resume_startTick (s : State) (bist : Bool) : (s.resume bist).img.startTick = s.now := rfl

theorem resume_now (s : State) (bist : Bool) : (s.resume bist).now = s.now := by
  unfold State.resume State.keepLock
  simp only [State.set_now]
  rfl

theorem resume_cmdReady {s : State} (h : regFileWf s.reg = true) (bist : Bool) : (s.resume bist).get Fld.HIF_STATUS_CMD_READY = 0 := by
  have hcold : regFileWf (s.cold (keepWords resetWord s.reg) (s.resumeImg bist)).reg = true := Tab.canon_filter _ _ _ h
  unfold State.resume
  extract_lets +onlyGivenNames kept host hosted mgmt ended cleared
  have hended : regFileWf ended.reg = true := wf_set (wf_set hcold Fld.TID_TB_STATE_SLEWING 0) Fld.TID_TB_STATE_PPS_VALID 0
  rw [get_set_ne _ _ (by decide), get_set_field (f := Fld.HIF_STATUS_D3HOT) (g := Fld.HIF_STATUS_CMD_READY) (wf_set hended _ _) _
    (by decide) rfl (by decide)]
  exact get_set_same hended _ _ (by decide)

/-- R475, R581: what start resumes from: page programs in flight have ended and erases are cut off. -/
def State.settled (s : State) : State := ((s.finishProgram 0).finishProgram 1).stopErases

theorem settled_touches (s : State) : Touches [.freeCtr, .out, .reg, .host, .cells, .ops, .led] s s.settled :=
  (State.stopErases_touches _).after rfl ((State.finishProgram_touches _ _).trans (State.finishProgram_touches _ _))

theorem execRecRestart_resumes {s : State} (h : s.img.boot = .fail) : execRecRestart s = .next (s.settled.resume false) := by
  rw [execRecRestart, State.recRestart, if_pos h, State.settled]

theorem execRecRestart_elsewhere {s : State} (h : s.img.boot ≠ .fail) : execRecRestart s = .next s := by
  rw [execRecRestart, State.recRestart, if_neg h]

/-! A commanded verification -/

/-- A verification dropped. -/
def State.verifyDropped (s : State) (v : Verify) : State :=
  { s with img := { s.img with verifies := s.img.verifies.filter (fun x => x != v) } }

/-- R446: the epoch of a bank's header, 0 where the header is not well formed. -/
def State.headerEpoch (s : State) (b : Nat) : Nat := if headerOk (s.imgHeader b) then hdrEpoch (s.imgHeader b) else 0

/-- The bank's epoch and state after its checks. -/
def State.judged (s : State) (v : Verify) (fault : Nat) : State :=
  ((s.verifyDropped v).set (Fld.IMG_BANK_EPOCH v.bank) ((s.verifyDropped v).headerEpoch v.bank)).setBankState v.bank
    (if fault = 0 then .valid else .invalid)

/-- The first fault noted, where there is one. -/
def State.faultNoted (s : State) (fault : Nat) : State := if fault = 0 then s else s.imgFault fault

theorem verifyEnd_command (s : State) (b : Nat) (c : CmdRef) (fault : Nat) : s.verifyEnd ⟨b, .command c⟩ fault =
    ((s.judged ⟨b, .command c⟩ fault).faultNoted fault).complete c
      (if fault = 0 then Status.ok.code else Status.checkFailed.code)
      (imgPayload ((s.judged ⟨b, .command c⟩ fault).faultNoted fault) fault b) := rfl

theorem faultNoted_img (s : State) (fault : Nat) : (s.faultNoted fault).img = s.img := by
  unfold State.faultNoted
  split <;> rfl

theorem faultNoted_get (s : State) (fault : Nat) {f : Fld} (h : f.off ≠ Fld.IMG_FAULT.off) : (s.faultNoted fault).get f = s.get f := by
  unfold State.faultNoted
  split
  · rfl
  · exact get_set_ne s fault h

theorem faultNoted_fault {s : State} (h : regFileWf s.reg = true) {fault : Nat} (hf : fault ≠ 0) :
    (s.faultNoted fault).get Fld.IMG_FAULT = fault % 256 := by
  rw [State.faultNoted, if_neg hf]
  exact get_set_same h _ _ (by decide)

theorem judged_wf {s : State} (h : regFileWf s.reg = true) (v : Verify) (fault : Nat) : regFileWf (s.judged v fault).reg = true :=
  wf_set (wf_set (s := s.verifyDropped v) h _ _) _ _

theorem judged_state {s : State} (h : regFileWf s.reg = true) (v : Verify) (fault : Nat) :
    (s.judged v fault).get (Fld.IMG_BANK_STATE v.bank) = if fault = 0 then 2 else 3 := by
  rw [State.judged, State.setBankState, get_set_same (wf_set (s := s.verifyDropped v) h _ _) _ _ (show 0 + 3 ≤ 32 by decide)]
  split <;> rfl

/-! A bank that start cannot read -/

theorem bootPhase_reg (s : State) (b : BootStep) (phase : Nat) : (s.bootPhase b phase).reg = rset s.reg Fld.IMG_STATE_PHASE phase := rfl

theorem bootPhase_get (s : State) (b : BootStep) (phase : Nat) {f : Fld} (h : f.off ≠ Fld.IMG_STATE_PHASE.off) :
    (s.bootPhase b phase).get f = s.get f := by
  rw [State.get_eq, bootPhase_reg, rget_rset_ne _ _ h, State.get_eq]

theorem bootFail_cause {s : State} (hw : regFileWf s.reg = true) (cause : Nat) :
    (s.bootFail cause).get Fld.IMG_STATE_FAIL = cause % 256 := by
  have hphase : regFileWf (s.bootPhase .fail 15).reg = true := by
    rw [bootPhase_reg]
    exact wf_rset hw _ _
  rw [State.bootFail, State.imgFault, get_set_ne _ _ (by decide)]
  exact get_set_same hphase _ _ (by decide)

/-- The bank being tried is INVALID, and its fault is noted. -/
def State.bankFailed (s : State) (fault : Nat) : State := (s.setBankState s.img.bank .invalid).imgFault fault

section
variable {s : State} (hw : regFileWf s.reg = true) (fault : Nat)
include hw

theorem bankFailed_wf : regFileWf (s.bankFailed fault).reg = true := wf_set (wf_set hw _ _) _ _

theorem bankFailed_fault : (s.bankFailed fault).get Fld.IMG_FAULT = fault % 256 := get_set_same (wf_set hw _ _) _ _ (by decide)

end

/-- The other bank is the one being tried from here on. -/
def State.turned (s : State) : State := { s with img := { s.img with bank := 1 - s.img.bank, retried := true } }

theorem turned_get (s : State) (f : Fld) : s.turned.get f = s.get f := rfl

/-- R453: the other bank has not been tried. -/
theorem tryOther_once {s : State} (fault : Nat) (h : s.img.retried = false) :
    s.tryOther fault = (s.bankFailed fault).turned.bootPhase .stream 3 :=
  if_neg (show ¬s.img.retried = true by simp [h])

/-- R453: both have been tried. -/
theorem tryOther_twice {s : State} (fault : Nat) (h : s.img.retried = true) :
    s.tryOther fault = (s.bankFailed fault).bootFail fault := if_pos h

/-! NVM_READ_TIMEOUT -/

theorem execNvmReadTimeout_idle {bank : Fin 2} {strand : Option (Fin 32)} {s : State} (h : s.readRuns bank.val strand = false) :
    execNvmReadTimeout bank strand s = .next s := by
  simp [execNvmReadTimeout, h]

/-- What is noted of a read that is repeated. -/
def State.readRepeated (s : State) (b : Nat) : State :=
  let retries := Tab.put s.img.readRetries b (Tab.getD s.img.readRetries b 0 + 1)
  ({ s.count Fld.FLT_T_CNT with img := { s.img with readRetries := retries } } : State).count Fld.FLT_RETRY_CNT

/-- R474: a read is repeated up to three times. -/
theorem execNvmReadTimeout_again {bank : Fin 2} {s : State} (h : s.readRuns bank.val none = true)
    (hn : Tab.getD s.img.readRetries bank.val 0 < 3) : execNvmReadTimeout bank none s = .next (s.readRepeated bank.val) := by
  simp only [execNvmReadTimeout, h, hn, if_true]
  rfl

/-- What is noted of a read that still fails. -/
def State.readGivenUp (s : State) (b : Nat) : State :=
  { s.count Fld.FLT_T_CNT with img := { s.img with readRetries := Tab.del s.img.readRetries b } }

theorem readGivenUp_wf {s : State} (hw : regFileWf s.reg = true) (b : Nat) : regFileWf (s.readGivenUp b).reg = true := wf_count hw _

/-- R474: the bank that start streams cannot be read. -/
theorem execNvmReadTimeout_streamed {bank : Fin 2} {s : State} (hb : s.img.boot = .stream) (hk : s.img.bank = bank.val)
    (hn : 3 ≤ Tab.getD s.img.readRetries bank.val 0) :
    execNvmReadTimeout bank none s = .next ((s.readGivenUp bank.val).tryOther 0x0F) := by
  have hruns : s.readRuns bank.val none = true := by simp [State.readRuns, hb, hk]
  have hfails : (s.readGivenUp bank.val).readFails bank.val none = (s.readGivenUp bank.val).tryOther 0x0F := by
    simp [State.readFails, State.readGivenUp, hb, hk]
  rw [← hfails]
  simp only [execNvmReadTimeout, hruns, if_true, if_neg (Nat.not_lt.mpr hn)]
  rfl

/-! The clauses of O4 -/

/-- Settles O4: the ends of erases and programs, the recovery commands, a commanded verification and the reads that time out, each by what
its command comes to. -/
theorem nvmOperations : Obligations.NvmOperations := by
  unfold Obligations.NvmOperations
  refine ⟨?erased, ?noErase, ?imagePage, ?recPage, ?noProgram, ?recProgram, ?recBusy, ?recErase, ?recTaken, ?noRecErase, ?noRecProgram,
    ?restart, ?noRestart, ?verified, ?noVerify, ?readAgain, ?otherBank, ?bootFail, ?noRead⟩
  case erased =>
    intro bank off rec s hrst hlen hop
    obtain ⟨u, hexec, hu⟩ := execSectorEraseDone_erase hop
    obtain ⟨hcells, hother, -⟩ := nvmGo_cells hrst hlen hu
    exact ⟨_, hexec, hcells, hother, (execSectorEraseDone_answers bank s).stays _ hexec⟩
  case noErase => exact fun bank s => execSectorEraseDone_idle
  case imagePage =>
    intro bank off data s hrst hlen hop
    obtain ⟨u, hexec, hu⟩ := execNvmPageProgramDone_image hop
    obtain ⟨hcells, hother, hnone⟩ := nvmGo_cells hrst hlen hu
    exact ⟨_, hexec, hcells, hother, hnone, (execNvmPageProgramDone_answers bank false s).stays _ hexec⟩
  case recPage =>
    intro bank off data s hrst hlen hop
    obtain ⟨u, hexec, hu⟩ := execNvmPageProgramDone_rec hop
    obtain ⟨hcells, hother, hnone⟩ := nvmGo_cells hrst hlen hu
    exact ⟨_, hexec, hcells, hother, hnone, (execNvmPageProgramDone_answers bank false s).stays _ hexec⟩
  case noProgram => exact fun bank failed s => execNvmPageProgramDone_idle failed
  case recProgram =>
    intro s hw hb ho hbusy hop hlen
    exact ⟨_, recProgram_starts hb ho, recStart_runs _ hw hbusy hop hlen⟩
  case recBusy =>
    intro s hb ho hbusy
    exact (recProgram_starts hb ho).trans (congrArg _ (recStart_busy _ _ hbusy))
  case recErase =>
    intro s hw hb ho hbusy hop hlen
    exact ⟨_, recErase_starts hb ho, recStart_runs _ hw hbusy hop hlen⟩
  case recTaken =>
    intro s hw hb ho hbusy hop
    refine ⟨_, (recErase_starts hb ho).trans (congrArg _ (recStart_taken _ hbusy hop)), get_set_same hw _ _ (by decide), ?_,
      State.set_touches s _ _⟩
    exact onlyWords_set s _ _ (List.mem_singleton_self _)
  case noRecErase => exact fun s => recErase_elsewhere
  case noRecProgram => exact fun s => recProgram_elsewhere
  case restart =>
    intro s hw hb
    have hsettled := settled_touches s
    have hnow : s.settled.now = s.now := hsettled.now_eq (by decide)
    have hexec := execRecRestart_resumes hb
    exact ⟨_, hexec, resume_boot _ _, (resume_startTick _ _).trans hnow, (resume_now _ _).trans hnow,
      resume_cmdReady (hsettled.grows .reg hw) false, (execRecRestart_answers s).stays _ hexec⟩
  case noRestart => exact fun s h => execRecRestart_elsewhere (s := s) h
  case verified =>
    intro bank c s hw hv
    have hexec : exec (.bankVerifyDone bank) s = .next (s.verifyEnd ⟨bank.val, .command c⟩ (s.imageFault bank.val)) := by
      change execBankVerifyDone bank s = _
      simp only [execBankVerifyDone, hv]
    have hword : ∀ f : Fld, f.off < (Fld.MSIX_PBA 0).off → (s.verifyEnd ⟨bank.val, .command c⟩ (s.imageFault bank.val)).get f =
        ((s.judged ⟨bank.val, .command c⟩ (s.imageFault bank.val)).faultNoted (s.imageFault bank.val)).get f :=
      fun f hf => get_of_regWord (complete_regWord hf _ _ _ _)
    refine ⟨_, hexec, ?_, fun hf => ?_, ?_, State.verifyEnd_touches s _ _⟩
    · rw [hword _ (by simp only [Fld.IMG_BANK_STATE, Fld.MSIX_PBA]; omega),
        faultNoted_get _ _ (by simp only [Fld.IMG_BANK_STATE, Fld.IMG_FAULT]; omega)]
      exact judged_state hw ⟨bank.val, .command c⟩ _
    · exact (hword _ (by decide)).trans (faultNoted_fault (judged_wf hw _ _) hf)
    · rw [verifyEnd_command, (State.complete_touches _ _ _ _).img_eq (by decide), faultNoted_img]
      rfl
  case noVerify =>
    intro bank s h
    change execBankVerifyDone bank s = _
    simp only [execBankVerifyDone, h, List.find?_nil]
  case readAgain =>
    intro bank s hruns hn
    have hexec := execNvmReadTimeout_again hruns hn
    refine ⟨_, hexec, ?_, rfl, rfl, (execNvmReadTimeout_answers bank none s).stays _ hexec⟩
    exact congrArg (Option.getD · 0) (Tab.get?_put_same _ _ _)
  case otherBank =>
    intro bank s hw hb hk hn hr
    have hexec := execNvmReadTimeout_streamed hb hk hn
    refine ⟨_, hexec, ?bank, ?retried, ?boot, ?noted, (execNvmReadTimeout_answers bank none s).stays _ hexec⟩ <;>
      rw [tryOther_once (s := s.readGivenUp bank.val) 0x0F hr]
    case bank => exact congrArg (1 - ·) hk
    case retried => rfl
    case boot => rfl
    case noted => rw [bootPhase_get _ _ _ (f := Fld.IMG_FAULT) (by decide), turned_get, bankFailed_fault (readGivenUp_wf hw _)]
  case bootFail =>
    intro bank s hw hb hk hn hr
    have hexec := execNvmReadTimeout_streamed hb hk hn
    refine ⟨_, hexec, ?boot, ?cause, (execNvmReadTimeout_answers bank none s).stays _ hexec⟩ <;>
      rw [tryOther_twice (s := s.readGivenUp bank.val) 0x0F hr]
    case boot => rfl
    case cause => exact bootFail_cause (bankFailed_wf (readGivenUp_wf hw _) _) _
  case noRead => exact fun bank strand s => execNvmReadTimeout_idle

end Sys2Proof.Machine
end

section
/-!
SUPPORT. What is claimed of a step and of every command at once (O49, O54).
-/
namespace Sys2Proof.Machine

theorem step_cons {c : Instr} {rest : List Instr} {s : State} (h : s.pending = c :: rest) :
    step s = exec c { s with pending := rest } := by
  simp only [step, h]

/-- Settles O49: with a command at the front, `step` is its second case. -/
theorem stepRunsTheFront : Obligations.StepRunsTheFront := by
  unfold Obligations.StepRunsTheFront
  exact fun c rest s h => step_cons h

/-- Settles O54: every command respects `Touches` (`exec_stays`), under which the queue stays and the log and the counter only grow. -/
theorem commandsKeepQueueAndLog : Obligations.CommandsKeepQueueAndLog := by
  unfold Obligations.CommandsKeepQueueAndLog
  intro c s t h
  have hst : Touches Part.every s t := exec_stays c s t h
  exact ⟨hst.1, hst.grows .out, hst.grows .freeCtr⟩

end Sys2Proof.Machine
end

section
/-!
SUPPORT. What registers read at reset (O51; Table 18-5) and the conversion of a raw code (O56; R586).
-/
namespace Sys2Proof.Machine

/-- A field at reset is that field of its word's reset value. -/
theorem reset_get (f : Fld) : State.reset.get f = bits (regReset f.off).toNat f.lsb f.width := rfl

theorem regReset_eq_zero {off : Nat} (h : ∀ d ∈ regBlock off, d.covers off = true → d.reset = 0) : regReset off = 0 := by
  unfold regReset regDef
  split
  next d hd =>
    have hcovers := List.find?_some (p := fun x : RegDef => x.covers off) hd
    rw [h d (List.mem_of_find?_eq_some hd) hcovers, word, BitVec.ofNat_eq_ofNat]
  next => rfl

/-- A register array covers no word past its end. -/
theorem lt_of_covers {d : RegDef} {off : Nat} (hs : 0 < d.stride) (h : d.covers off = true) : off < d.base + d.count * d.stride := by
  simp only [RegDef.covers, Bool.and_eq_true, decide_eq_true_eq] at h
  obtain ⟨⟨hbase, -⟩, hcount⟩ := h
  have hend := (Nat.div_lt_iff_lt_mul hs).mp hcount
  omega

theorem reset_itemTarget {n : Nat} (h : n < itemCount) : State.reset.itemTarget n = 0 := by
  rw [State.itemTarget, reset_get, target_reset n h]
  rfl

/-- No register of the FAB_ block from FAB_DELIV on has a reset value. -/
theorem reset_deliv {i : Nat} (h : i < 1024) : State.reset.get (Fld.FAB_DELIV i) = 0 := by
  have hblock : regBlock (Fld.FAB_DELIV i).off = regMapFAB := by
    have : (0x121000 + 4 * i) / 0x10000 = 18 := by omega
    simp only [regBlock, Fld.FAB_DELIV, this]
  have hlow : ∀ d ∈ regMapFAB, d.reset ≠ 0 → 0 < d.stride ∧ d.base + d.count * d.stride ≤ 0x121000 := by decide
  have hword : regReset (Fld.FAB_DELIV i).off = 0 := by
    refine regReset_eq_zero (fun d hd hc => Decidable.byContradiction (fun hne => ?_))
    obtain ⟨hstride, hbelow⟩ := hlow d (hblock ▸ hd) hne
    have hend := lt_of_covers hstride hc
    simp only [Fld.FAB_DELIV] at hend
    omega
  rw [reset_get, hword]
  rfl

theorem reset_strandState {i : Nat} (h : i < 32) : State.reset.strandState i = .off := by
  have hstrand : State.reset.strand i = Strand.reset := by
    simp only [State.strand, State.reset, List.getD_eq_getElem?_getD, List.getElem?_replicate, if_pos h, Option.getD_some]
  exact congrArg Strand.state hstrand

/-- Settles O51: each part is that of `State.reset`, and each register its reset value. -/
theorem resetHolds : Obligations.ResetHolds := by
  unfold Obligations.ResetHolds
  refine ⟨rfl, rfl, rfl, rfl, rfl, fun i hi => reset_strandState hi, rfl, rfl, rfl, rfl, fun n hn => reset_itemTarget hn,
    fun k _ => rfl, fun i hi => reset_deliv hi, fun q _ => ⟨rfl, rfl, rfl, rfl, rfl⟩, rfl, ?replay, ?_, ?_, ?_, ?_, ?_⟩
  case replay =>
    simp only [reset_get]
    decide
  all_goals decide

/-- Settles O56: shifts by 14 are divisions by 2^14. -/
theorem sensorConversion : Obligations.SensorConversion := by
  unfold Obligations.SensorConversion
  intro s trims i r ht _
  have hconv : s.convert i r =
      (((r * le (sensorTrim trims i) 4 2 + 8192) / 16384 : Nat) : Int) + signed 16 (le (sensorTrim trims i) 2 2) := by
    simp only [State.convert, ht]
  have hshift : (r * le (sensorTrim trims i) 4 2 + 8192) / 16384 = (r * le (sensorTrim trims i) 4 2 + 8192) >>> 14 :=
    (Nat.shiftRight_eq_div_pow _ 14).symm
  exact hconv.trans (congrArg (fun n : Nat => (n : Int) + signed 16 (le (sensorTrim trims i) 2 2)) hshift)

end Sys2Proof.Machine
end

section
/-!
SUPPORT. Offsets of BAR2 without a name (O15; R656, Table 11-8).
-/
namespace Sys2Proof.Machine

section
variable {s : State} {off : Nat}

/-- R656: a write that BAR2 takes at an offset that no row of Table 11-8 names does nothing; nor does one out of reach. -/
theorem pcieWrite_bar2_unnamed {size : Nat} (v : Nat) (hd : doorbellAt off = none) (ha : accessOk .bar2 off size true = true) :
    s.pcieWrite .bar2 off size false v = .next s := by
  by_cases hx : s.img.pwrOk = false ∨ barSize .bar2 ≤ off ∨ s.tooEarly .bar2 off = true
  · exact pcieWrite_out_of_reach _ _ _ hx
  · simp only [not_or, Bool.not_eq_false, Bool.not_eq_true, Nat.not_le] at hx
    obtain ⟨hp, hb, he⟩ := hx
    simp [State.pcieWrite, hp, Nat.not_le.mpr hb, he, ha, hd]

/-- R401: a write that BAR2 does not take is counted at most. -/
theorem pcieWrite_bar2_untaken {size : Nat} (v : Nat) (ha : accessOk .bar2 off size true = false) :
    s.pcieWrite .bar2 off size false v = .next s ∨
      s.pcieWrite .bar2 off size false v = .next ((s.count Fld.HIF_BAD_ACCESS_CNT).emit (.reply .discarded)) := by
  by_cases hx : s.img.pwrOk = false ∨ barSize .bar2 ≤ off ∨ s.tooEarly .bar2 off = true
  · exact .inl (pcieWrite_out_of_reach _ _ _ hx)
  · simp only [not_or, Bool.not_eq_false, Bool.not_eq_true, Nat.not_le] at hx
    obtain ⟨hp, hb, he⟩ := hx
    exact .inr (pcieWrite_bad_access hp hb he v ha)

/-- R656: a read that BAR2 takes there reads 0. -/
theorem pcieRead_bar2_unnamed (hd : doorbellAt off = none) (hp : s.img.pwrOk = true) (hb : off < barSize .bar2)
    (ha : off % 4 = 0) : s.pcieRead .bar2 off 4 = s.emit (.reply (.data 0)) := by
  have he : s.tooEarly .bar2 off = false := rfl
  simp [State.pcieRead, hp, Nat.not_le.mpr hb, he, accessOk_word .bar2 false ha, hd]

end

/-- Settles O15: a write is taken, not taken, or out of reach. -/
theorem bar2OffsetsWithoutName : Obligations.Bar2OffsetsWithoutName := by
  unfold Obligations.Bar2OffsetsWithoutName
  refine ⟨?write, ?taken, ?read⟩
  case write =>
    intro off size v s _ hd
    cases ha : accessOk .bar2 off.toNat size.val true with
    | true => exact ⟨s, pcieWrite_bar2_unnamed v.toNat hd ha, rfl, OnlyWords.refl _ s, Touches.refl _ s⟩
    | false =>
      rcases pcieWrite_bar2_untaken v.toNat ha with h | h
      · exact ⟨s, h, rfl, OnlyWords.refl _ s, Touches.refl _ s⟩
      · exact ⟨_, h, rfl, (onlyWords_count s _ (List.mem_singleton_self _)).trans (onlyWords_congr _ rfl),
          (State.emit_touches _ _).after rfl ((State.count_touches s _).mono rfl)⟩
  case taken => exact fun off v s hd ha => pcieWrite_bar2_unnamed v.toNat hd (accessOk_word .bar2 true ha)
  case read => exact fun s off hp hb ha hd => pcieRead_bar2_unnamed hd hp hb ha

end Sys2Proof.Machine
end

section
/-!
SUPPORT. The test access port (O19; R622 to R624, R664, Table 16-11).
-/
namespace Sys2Proof.Machine

section
variable {c : Instr} {s u : State} (hc : exec c s = .next (if s.tapOn then u else s))
include hc

theorem exec_tapOn (h : s.tapOn = true) : exec c s = .next u := hc.trans (congrArg _ (if_pos h))

theorem exec_tapOff (h : s.tapOn = false) : exec c s = .next s := hc.trans (congrArg _ (if_neg (Bool.eq_false_iff.mp h)))

end

/-! Accesses on the bus that the path does not reach (R456, R622, R623) -/

theorem busWrite_unreached {s : State} {p : Path} {off : Nat} (v : Nat) (h : s.reaches p off = false) : s.busWrite p off v = .next s := by
  simp [State.busWrite, h]

theorem busRead_unreached {s : State} {p : Path} {off : Nat} (h : s.reaches p off = false) : s.busRead p off = (0, s) := by
  simp [State.busRead, h]

/-! Which writes start something is told by the offset, the value and the registers alone -/

theorem arrayWrite_isNone_congr {s t : State} (h : t.reg = s.reg) (off v : Nat) :
    (t.arrayWrite off v).isNone = (s.arrayWrite off v).isNone := by
  have hen (r : Nat) : t.flag (Fld.HIF_RING_CTL_EN r) = s.flag (Fld.HIF_RING_CTL_EN r) := by
    rw [State.flag, State.flag, get_congr h]
  unfold State.arrayWrite
  split
  next => rfl
  next =>
    split
    next r _ =>
      rw [hen r]
      cases s.flag (Fld.HIF_RING_CTL_EN r) <;> rfl
    next =>
      iterate 4
        split
        next => simp only [Option.isNone_some]
      rfl

theorem singleWrite_isNone_congr (s t : State) (off v : Nat) : (t.singleWrite off v).isNone = (s.singleWrite off v).isNone := by
  simp only [State.singleWrite, apply_ite Option.isNone, Option.isNone_some]

/-! REG_ACCESS -/

/-- The shift of REG_ACCESS: the instruction is loaded, and what the last access left comes out. -/
def State.shifted (s : State) : State := (s.tapLoad 0x20).emit (.tdo 64 s.tap.dr)

/-- What Update-DR keeps for the next shift. -/
def State.keepDr (s : State) (write : Bool) (off : Nat) (d : Nat) : State :=
  { s with tap := { s.tap with dr := b2n write * 2 ^ 63 + off * 2 ^ 32 + d } }

theorem shifted_touches (s : State) : Touches [.out, .tap] s s.shifted :=
  (State.emit_touches _ _).after rfl ((State.tapLoad_touches s _).mono rfl)

theorem keepDr_touches (s : State) (write : Bool) (off d : Nat) : Touches [.tap] s (s.keepDr write off d) := .put_tap rfl (Touches.refl _ s)

theorem shifted_reaches (s : State) (p : Path) (off : Nat) : s.shifted.reaches p off = s.reaches p off := rfl

section
variable {write : Bool} {off : BitVec 26} {s : State} (h : s.tapOn = true)
include h

/-- An access at an offset that is not aligned reaches no word. -/
theorem execRegAccess_unaligned (data : Word) (ha : off.toNat % 4 ≠ 0) :
    execRegAccess write off data s = .next (if s.shifted.reaches .jtag off.toNat
      then (s.shifted.keepDr write off.toNat 0).count Fld.HIF_BAD_ACCESS_CNT else s.shifted.keepDr write off.toNat 0) :=
  (if_pos h).trans (if_pos ha)

/-- An aligned write is a write on the bus between the shift and what is kept. -/
theorem execRegAccess_write {u : State} {data : Word} (ha : off.toNat % 4 = 0)
    (hu : s.shifted.busWrite .jtag off.toNat data.toNat = .next u) :
    execRegAccess true off data s = .next (u.keepDr true off.toNat data.toNat) := by
  refine (if_pos h).trans ((if_neg (not_not_intro ha)).trans ((if_pos rfl).trans ?_))
  exact congrArg (fun r : Res => match r with | .next t => Host.Outcome.next (t.keepDr true off.toNat data.toNat) | x => x) hu

/-- An aligned read keeps the word that was read. -/
theorem execRegAccess_read {u : State} {v : Nat} (data : Word) (ha : off.toNat % 4 = 0)
    (hu : s.shifted.busRead .jtag off.toNat = (v, u)) :
    execRegAccess false off data s = .next (u.keepDr false off.toNat v) := by
  refine (if_pos h).trans ((if_neg (not_not_intro ha)).trans ((if_neg Bool.false_ne_true).trans ?_))
  exact congrArg (fun r : Nat × State => Host.Outcome.next (r.2.keepDr false off.toNat r.1)) hu

/-- An access to a word that the path does not reach only shifts. -/
theorem execRegAccess_unreached (data : Word) (hr : s.reaches .jtag off.toNat = false) :
    execRegAccess write off data s =
      .next (s.shifted.keepDr write off.toNat (if off.toNat % 4 = 0 ∧ write = true then data.toNat else 0)) := by
  have hr' : s.shifted.reaches .jtag off.toNat = false := hr
  by_cases ha : off.toNat % 4 = 0
  · cases write with
    | true => rw [execRegAccess_write h ha (busWrite_unreached _ hr'), if_pos ⟨ha, rfl⟩]
    | false => rw [execRegAccess_read h data ha (busRead_unreached hr'), if_neg (fun hw => Bool.false_ne_true hw.2)]
  · rw [execRegAccess_unaligned h data ha, if_neg (Bool.eq_false_iff.mp hr'), if_neg (fun hw => ha hw.1)]

end

/-- Settles O19: each instruction loads the register; EXTEST and its like drive the balls or stop the path besides. -/
theorem testAccessPort : Obligations.TestAccessPort := by
  unfold Obligations.TestAccessPort
  refine ⟨?idcode, ?sample, ?extest, ?clamp, ?highz, ?pulse, ?train, ?bypass, ?reset, ?unreached, ?write, fun s => exec_tapOff rfl,
    fun _ s => exec_tapOff rfl, fun _ s => exec_tapOff rfl, fun s => exec_tapOff rfl, fun s => exec_tapOff rfl, fun s => exec_tapOff rfl,
    fun s => exec_tapOff rfl, ?off⟩
  case idcode => exact fun s h => ⟨_, exec_tapOn rfl h, rfl, rfl,
      (State.emit_touches _ _).after rfl ((State.tapLoad_touches s 1).mono rfl)⟩
  case sample => exact fun b s h => ⟨_, exec_tapOn rfl h, rfl, rfl, .put_tap rfl (State.tapLoad_touches s 2)⟩
  case extest => exact fun b s h => ⟨_, exec_tapOn rfl h, rfl, rfl, State.tapDrive_touches s 3 b⟩
  case clamp => exact fun s h => ⟨_, exec_tapOn rfl h, rfl, rfl, State.tapDrive_touches s 4 s.tap.boundary⟩
  case highz => exact fun s h => ⟨_, exec_tapOn rfl h, rfl, rfl, State.tapStop_touches s 5⟩
  case pulse => exact fun b s h => ⟨_, exec_tapOn rfl h, rfl, rfl, State.tapDrive_touches s 6 b⟩
  case train => exact fun b s h => ⟨_, exec_tapOn rfl h, rfl, rfl, State.tapDrive_touches s 7 b⟩
  case bypass => exact fun s h => ⟨_, exec_tapOn rfl h, rfl, rfl,
      (State.emit_touches _ _).after rfl ((State.tapLoad_touches s 0xFF).mono rfl)⟩
  case reset => exact fun s h => ⟨_, exec_tapOn rfl h, rfl, rfl, .put_tap rfl (Touches.refl _ s)⟩
  case unreached =>
    exact fun write off data s h hr => ⟨_, execRegAccess_unreached h data hr, rfl, rfl, rfl,
      (keepDr_touches ..).after rfl (shifted_touches s)⟩
  case write =>
    intro off data d s hw hd h hr ha hk hc harr hone
    rw [← arrayWrite_isNone_congr (s := s) (t := s.shifted) rfl, Option.isNone_iff_eq_none] at harr
    rw [singleWrite_isNone_congr s.shifted s, Option.isNone_iff_eq_none] at hone
    have hbus := busWrite_fields ((shifted_reaches s _ _).trans hr) hd hk hc harr hone
    refine ⟨_, execRegAccess_write h ha hbus, ?_, ?_, ?_⟩
    · exact regWord_setWord_same (s := s.shifted) hw _ _
    · exact onlyWords_setWord s.shifted _ _ (List.mem_singleton_self _)
    · exact (keepDr_touches ..).after rfl ((State.setWord_touches _ _ _).after rfl ((shifted_touches s).mono rfl))
  case off =>
    intro write off data s h
    exact if_neg (Bool.eq_false_iff.mp h)

end Sys2Proof.Machine
end

section
/-!
SUPPORT. Writes of BAR0 that start something, on either path, and registers written one after another (O18; Tables 0-2, 0-3).
-/
namespace Sys2Proof.Machine

/-! A write that starts something -/

/-- An aligned write of a word that its path reaches is a write on the bus. -/
theorem pathWrite_reached {s : State} {p : Path} {off v : Nat} (hr : s.reaches p off = true) (hb : off < barSize .bar0)
    (ha : off % 4 = 0) (hv : v < 2 ^ 32) : s.pathWrite p off v = s.busWrite p off v := by
  cases p with
  | jtag => rfl
  | pcie =>
    refine (pcieWrite_bar0_word v (pwrOk_of_reaches hr) hb (tooEarly_of_reaches .bar0 hr) ha).trans ?_
    rw [Nat.mod_eq_of_lt hv]

/-- A word without LK fields, where an array or a register of its own takes the write. -/
theorem busWrite_action {s t : State} {p : Path} {off v : Nat} {d : RegDef} (hr : s.reaches p off = true) (hd : regAt off = some d)
    (hk : d.lk = 0) (hc : off ≠ Fld.IMG_REC_CMD.off) (ha : (s.arrayWrite off v <|> s.singleWrite off v) = some t) :
    s.busWrite p off v = .next t := by
  simp [State.busWrite, hr, hd, hk, hc, ha]

/-! Arrays of registers -/

theorem arrayIndex_past {off base stride count : Nat} (hs : 0 < stride) (h : base + count * stride ≤ off) :
    arrayIndex off base stride count = none := by
  have hcount : ¬(off - base) / stride < count := by
    rw [Nat.div_lt_iff_lt_mul hs]
    omega
  simp [arrayIndex, hcount]

theorem arrayIndex_at {base stride count i : Nat} (hs : 0 < stride) (hi : i < count) :
    arrayIndex (base + stride * i) base stride count = some i := by
  simp [arrayIndex, Nat.mul_div_cancel_left i hs, hi]

/-! Registers written one after another -/

section
variable {f : Nat → Fld} (v : Nat → Nat) (l : List Nat)

theorem foldl_set_regWord (s : State) {off : Nat} (h : ∀ i ∈ l, off ≠ (f i).off) :
    (l.foldl (fun s i => s.set (f i) (v i)) s).regWord off = s.regWord off := by
  induction l generalizing s with
  | nil => rfl
  | cons i l ih =>
    exact (ih _ (fun j hj => h j (List.mem_cons_of_mem i hj))).trans (regWord_set_ne s _ (h i List.mem_cons_self))

/-- Each of several registers at different offsets reads what was written to it. -/
theorem foldl_set_get {s : State} (hw : regFileWf s.reg = true) (hf : ∀ i, (f i).lsb + (f i).width ≤ 32)
    (hne : ∀ i j, i ≠ j → (f i).off ≠ (f j).off) (hl : l.Nodup) {i : Nat} (hi : i ∈ l) :
    (l.foldl (fun s i => s.set (f i) (v i)) s).get (f i) = v i % 2 ^ (f i).width := by
  induction l generalizing s with
  | nil => exact nomatch hi
  | cons j l ih =>
    obtain ⟨hj, hl⟩ := List.nodup_cons.mp hl
    rcases List.mem_cons.mp hi with rfl | hlater
    · refine (get_of_regWord (foldl_set_regWord v l _ (fun k hk => hne i k ?_))).trans (get_set_same hw _ _ (hf i))
      rintro rfl
      exact hj hk
    · exact ih (wf_set hw _ _) hl hlater

end

/-! Pairs of words (R7) -/

theorem regWord_set64_ne (s : State) {f : Fld} {off : Nat} (v : Nat) (hlo : off ≠ f.off) (hhi : off ≠ f.off + 4) :
    (s.set64 f v).regWord off = s.regWord off :=
  (regWord_setWord_ne _ _ hhi).trans (regWord_set_ne s v hlo)

theorem regWord_count64_ne (s : State) {f : Fld} {off : Nat} (n : Nat) (hlo : off ≠ f.off) (hhi : off ≠ f.off + 4) :
    (s.count64 f n).regWord off = s.regWord off := regWord_set64_ne s _ hlo hhi

/-- A pair that counts goes up by what is added, and saturates. -/
theorem get64_count64 {s : State} (h : regFileWf s.reg = true) {f : Fld} (n : Nat) (hl : f.lsb = 0) (hw : f.width = 32) :
    (s.count64 f n).get64 f = min (s.get64 f + n) (2 ^ 64 - 1) :=
  get64_set64_same h hl hw (Nat.lt_of_le_of_lt (Nat.min_le_right _ _) (by decide))

end Sys2Proof.Machine
end

section
/-!
SUPPORT. The ledger window, the lane test controls and the PRBS checkers (O18; R606, R617, R619, R621, Tables 16-15, 16-17).
-/
namespace Sys2Proof.Machine

/-! LEDGER_FETCH (R606) -/

/-- The page of a record fills the window. -/
def State.windowFilled (s : State) (x : Bytes) : State :=
  (upto 64).foldl (fun s i => s.set (Fld.FLT_LEDGER_WIN i) (le x (4 * i) 4)) s

theorem exec_ledgerFetch {p : Path} {s : State} (hr : s.reaches p Fld.FLT_LEDGER_CMD.off = true) :
    exec (.ledgerFetch p) s = .next s.ledgerFetch :=
  (pathWrite_reached (v := 1) hr (by decide) (by decide) (by decide)).trans (busWrite_action hr rfl rfl (by decide) rfl)

theorem ledgerFetch_sealed {s : State} {x : Bytes}
    (h : (s.pagesOf 0 (s.get Fld.FLT_LEDGER_SEQ) ++ s.pagesOf 1 (s.get Fld.FLT_LEDGER_SEQ)).head? = some x) :
    s.ledgerFetch = (s.windowFilled x).set Fld.FLT_LEDGER_STATUS 1 := by
  simp only [State.ledgerFetch, h]
  rfl

theorem ledgerFetch_missing {s : State}
    (h : s.pagesOf 0 (s.get Fld.FLT_LEDGER_SEQ) ++ s.pagesOf 1 (s.get Fld.FLT_LEDGER_SEQ) = []) :
    s.ledgerFetch = s.set Fld.FLT_LEDGER_STATUS 0 := by
  simp only [State.ledgerFetch, h, List.head?_nil]

theorem windowFilled_touches (s : State) (x : Bytes) : Touches [.reg] s (s.windowFilled x) :=
  Touches.foldl (Touches.refl _ _) (fun t _ h => h.trans (State.set_touches t _ _))

theorem windowFilled_get {s : State} (h : regFileWf s.reg = true) (x : Bytes) {i : Nat} (hi : i < 64) :
    (s.windowFilled x).get (Fld.FLT_LEDGER_WIN i) = le x (4 * i) 4 := by
  have hne (i j : Nat) (hij : i ≠ j) : (Fld.FLT_LEDGER_WIN i).off ≠ (Fld.FLT_LEDGER_WIN j).off := by
    simp only [Fld.FLT_LEDGER_WIN]
    omega
  exact (foldl_set_get (f := Fld.FLT_LEDGER_WIN) _ _ h (fun _ => Nat.le_refl 32) hne List.nodup_range (List.mem_range.mpr hi)).trans
    (Nat.mod_eq_of_lt (le_lt x (4 * i) 4))

/-! LANE_TEST_CONTROL and ERROR_INJECT (R617, R619, R621) -/

/-- Every TST_LANE_CTL is one of an array without LK fields. -/
theorem regAt_laneCtl (l : Fin 37) : (regAt (Fld.TST_LANE_CTL_GEN_EN l.val).off).map RegDef.lk = some 0 := by
  revert l
  decide +kernel

theorem arrayWrite_laneCtl (l : Fin 37) (v : Nat) (s : State) :
    s.arrayWrite (Fld.TST_LANE_CTL_GEN_EN l.val).off v = some (s.laneCtl l.val v) := by
  have hpast {base stride count : Nat} (hs : 0 < stride) (h : base + count * stride ≤ 0x160000) :
      arrayIndex (0x160000 + 0x20 * l.val) base stride count = none := arrayIndex_past hs (by omega)
  have hlane : arrayIndex (0x160000 + 0x20 * l.val) 0x160000 0x20 37 = some l.val := arrayIndex_at (by decide) l.isLt
  simp [State.arrayWrite, Fld.TST_LANE_CTL_GEN_EN, hpast, hlane]

/-- A write of TST_LANE_CTL that its path reaches. -/
theorem pathWrite_laneCtl {p : Path} {l : Fin 37} {v : Nat} {s : State} (hr : s.reaches p (Fld.TST_LANE_CTL_GEN_EN l.val).off = true)
    (hv : v < 2 ^ 32) : s.pathWrite p (Fld.TST_LANE_CTL_GEN_EN l.val).off v = .next (s.laneCtl l.val v) := by
  obtain ⟨d, hd, hk⟩ := Option.map_eq_some_iff.mp (regAt_laneCtl l)
  have hl := l.isLt
  have hb : (Fld.TST_LANE_CTL_GEN_EN l.val).off < barSize .bar0 := by
    simp only [Fld.TST_LANE_CTL_GEN_EN, barSize]
    omega
  have ha : (Fld.TST_LANE_CTL_GEN_EN l.val).off % 4 = 0 := by
    simp only [Fld.TST_LANE_CTL_GEN_EN]
    omega
  have hc : (Fld.TST_LANE_CTL_GEN_EN l.val).off ≠ Fld.IMG_REC_CMD.off := by
    simp only [Fld.TST_LANE_CTL_GEN_EN, Fld.IMG_REC_CMD]
    omega
  rw [pathWrite_reached hr hb ha hv]
  exact busWrite_action hr hd hk hc (by rw [arrayWrite_laneCtl]; rfl)

/-- R619: whether a checker runs on with the pattern that it had. -/
def checkerKept (old new : Nat) : Bool := bit new 1 && bits old 1 7 == bits new 1 7

/-- The controls of a lane written; a checker that does not run on loses its lock. -/
def State.controlsWritten (s : State) (l v : Nat) : State :=
  let t := s.setWord (Fld.TST_LANE_CTL_GEN_EN l).off (word (v &&& 0x2FF))
  if checkerKept (s.regWord (Fld.TST_LANE_CTL_GEN_EN l).off).toNat (v &&& 0x2FF) then t else t.set (Fld.TST_LANE_STAT_LOCK l) 0

/-- R621: a test of a port that is UP, without FORCE, is refused. -/
theorem laneCtl_refused {s : State} {l v : Nat} (hs : v &&& 0xC3 ≠ 0) (hu : s.testLaneUp l = true) (hf : bit v 9 = false) :
    s.laneCtl l v = s.set (Fld.TST_LANE_STAT_REFUSED l) 1 := by
  simp [State.laneCtl, hs, hu, hf]

/-- The controls of a lane whose port is not UP are written, and one bit is inverted where INJECT asks for it. -/
theorem laneCtl_down {s : State} {l v : Nat} (hu : s.testLaneUp l = false) :
    s.laneCtl l v = if bit v 8 then (s.controlsWritten l v).emit (.injected l) else s.controlsWritten l v := by
  simp only [State.laneCtl, hu, Bool.and_false, Bool.false_and, Bool.false_eq_true, if_false]
  rfl

section
variable (s : State) (l v : Nat)

theorem controlsWritten_touches : Touches [.reg] s (s.controlsWritten l v) :=
  have h := State.setWord_touches s (Fld.TST_LANE_CTL_GEN_EN l).off (word (v &&& 0x2FF))
  Touches.ite h (h.trans (State.set_touches _ _ _))

theorem controlsWritten_onlyWords :
    OnlyWords [(Fld.TST_LANE_CTL_GEN_EN l).off, (Fld.TST_LANE_STAT_LOCK l).off] s (s.controlsWritten l v) :=
  have h := onlyWords_setWord s (Fld.TST_LANE_CTL_GEN_EN l).off (word (v &&& 0x2FF)) List.mem_cons_self
  OnlyWords.ite h (h.trans (onlyWords_set _ _ _ (List.mem_cons_of_mem _ (List.mem_singleton_self _))))

theorem controlsWritten_ctl (h : regFileWf s.reg = true) :
    (s.controlsWritten l v).regWord (Fld.TST_LANE_CTL_GEN_EN l).off = word (v &&& 0x2FF) := by
  have hset := regWord_setWord_same h (Fld.TST_LANE_CTL_GEN_EN l).off (word (v &&& 0x2FF))
  unfold State.controlsWritten
  extract_lets t
  split
  · exact hset
  · refine (regWord_set_ne t 0 ?_).trans hset
    simp only [Fld.TST_LANE_CTL_GEN_EN, Fld.TST_LANE_STAT_LOCK]
    omega

theorem laneCtl_down_touches (hu : s.testLaneUp l = false) : Touches [.out, .reg] s (s.laneCtl l v) := by
  rw [laneCtl_down hu]
  have h := (controlsWritten_touches s l v).mono (ps := [.out, .reg]) rfl
  exact Touches.ite ((State.emit_touches _ _).after rfl h) h

theorem laneCtl_down_reg (hu : s.testLaneUp l = false) : (s.laneCtl l v).reg = (s.controlsWritten l v).reg := by
  rw [laneCtl_down hu]
  split <;> rfl

theorem laneCtl_down_out (hu : s.testLaneUp l = false) :
    (s.laneCtl l v).out = if bit v 8 then .injected l :: s.out else s.out := by
  rw [laneCtl_down hu, ← (controlsWritten_touches s l v).out_eq (by decide)]
  split <;> rfl

end

/-! The PRBS checkers (R619) -/

theorem exec_checkerLock {l : Fin 37} {s : State} (h : s.flag (Fld.TST_LANE_CTL_CHK_EN l.val) = true) :
    exec (.checkerLock l) s = .next (s.set (Fld.TST_LANE_STAT_LOCK l.val) 1) := by
  change execCheckerLock l s = _
  simp only [execCheckerLock, h, if_true]

theorem exec_checkerLock_off {l : Fin 37} {s : State} (h : s.flag (Fld.TST_LANE_CTL_CHK_EN l.val) = false) :
    exec (.checkerLock l) s = .next s := by
  change execCheckerLock l s = _
  simp [execCheckerLock, h]

/-- The bits and errors of a checker are counted. -/
def State.checkerCounted (s : State) (l counted errors : Nat) : State :=
  (s.count64 (Fld.TST_LANE_BITS l) counted).count64 (Fld.TST_LANE_ERR l) errors

/-- A checker loses its lock, which is counted. -/
def State.lockLost (s : State) (l : Nat) : State := (s.set (Fld.TST_LANE_STAT_LOCK l) 0).count (Fld.TST_LANE_LOSS_CNT l)

theorem exec_checkerLockLoss {l : Fin 37} {s : State} (counted errors : Nat) {recent : Fin 257}
    (h : s.flag (Fld.TST_LANE_STAT_LOCK l.val) = true) (hn : 32 ≤ recent.val) :
    exec (.checkerLockLoss l counted errors recent) s =
      .next (((s.checkerCounted l.val counted errors).lockLost l.val).event 0x0068 l.val [recent.val]) := by
  change execCheckerLockLoss l counted errors recent s = _
  simp only [execCheckerLockLoss, h, hn, decide_true, Bool.and_self, if_true]
  rfl

theorem exec_checkerLockLoss_few (l : Fin 37) (s : State) (counted errors : Nat) {recent : Fin 257} (hn : recent.val < 32) :
    exec (.checkerLockLoss l counted errors recent) s = .next s := by
  change execCheckerLockLoss l counted errors recent s = _
  simp [execCheckerLockLoss, Nat.not_le.mpr hn]

theorem checkerCounted_wf {s : State} (h : regFileWf s.reg = true) (l counted errors : Nat) :
    regFileWf (s.checkerCounted l counted errors).reg = true := wf_set64 (wf_set64 h _ _) _ _

/-- The event of a loss leaves the words of the TST_ block. -/
theorem event_regWord_of_test (s : State) (code source : Nat) (args : List Nat) {off : Nat} (hlo : 0x160000 ≤ off)
    (hhi : off < (Fld.MSIX_PBA 0).off) : (s.event code source args).regWord off = s.regWord off := by
  refine event_regWord hhi s _ _ _ ?_
  simp only [Fld.HIF_RING_LOST_CNT, ringEvt]
  omega

/-- A loss of lock changes STAT and LOSS_CNT of its lane. -/
theorem lockLost_regWord (s : State) (l : Nat) {off : Nat} (hs : off ≠ (Fld.TST_LANE_STAT_LOCK l).off)
    (hc : off ≠ (Fld.TST_LANE_LOSS_CNT l).off) : (s.lockLost l).regWord off = s.regWord off :=
  (regWord_count_ne _ hc).trans (regWord_set_ne s _ hs)

section
variable {s : State} (h : regFileWf s.reg = true) (l : Nat)
include h

theorem lockLost_lock : (s.lockLost l).get (Fld.TST_LANE_STAT_LOCK l) = 0 := by
  refine (get_count_ne _ ?_).trans (get_set_same h _ 0 (show 0 + 1 ≤ 32 by decide))
  simp only [Fld.TST_LANE_STAT_LOCK, Fld.TST_LANE_LOSS_CNT]
  omega

theorem lockLost_cnt : (s.lockLost l).get (Fld.TST_LANE_LOSS_CNT l) =
    min (s.get (Fld.TST_LANE_LOSS_CNT l) + 1) (2 ^ (Fld.TST_LANE_LOSS_CNT l).width - 1) := by
  rw [State.lockLost, get_count (wf_set h _ _) _ (show 0 + 32 ≤ 32 by decide), get_set_ne]
  simp only [Fld.TST_LANE_STAT_LOCK, Fld.TST_LANE_LOSS_CNT]
  omega

theorem checkerCounted_bits (counted errors : Nat) : (s.checkerCounted l counted errors).get64 (Fld.TST_LANE_BITS l) =
    min (s.get64 (Fld.TST_LANE_BITS l) + counted) (2 ^ 64 - 1) := by
  refine (get64_of_regWord (regWord_count64_ne _ _ ?_ ?_) (regWord_count64_ne _ _ ?_ ?_)).trans (get64_count64 h counted rfl rfl) <;>
    simp only [Fld.TST_LANE_BITS, Fld.TST_LANE_ERR] <;> omega

theorem checkerCounted_err (counted errors : Nat) : (s.checkerCounted l counted errors).get64 (Fld.TST_LANE_ERR l) =
    min (s.get64 (Fld.TST_LANE_ERR l) + errors) (2 ^ 64 - 1) := by
  have hold : (s.count64 (Fld.TST_LANE_BITS l) counted).get64 (Fld.TST_LANE_ERR l) = s.get64 (Fld.TST_LANE_ERR l) := by
    refine get64_of_regWord (regWord_count64_ne _ _ ?_ ?_) (regWord_count64_ne _ _ ?_ ?_) <;>
      simp only [Fld.TST_LANE_BITS, Fld.TST_LANE_ERR] <;> omega
  rw [← hold]
  exact get64_count64 (wf_set64 h _ _) errors rfl rfl

end

theorem checkerCounted_lossCnt (s : State) (l counted errors : Nat) :
    (s.checkerCounted l counted errors).get (Fld.TST_LANE_LOSS_CNT l) = s.get (Fld.TST_LANE_LOSS_CNT l) := by
  refine get_of_regWord ((regWord_count64_ne _ _ ?_ ?_).trans (regWord_count64_ne _ _ ?_ ?_)) <;>
    simp only [Fld.TST_LANE_BITS, Fld.TST_LANE_ERR, Fld.TST_LANE_LOSS_CNT] <;> omega

/-- Settles O18: the writes come to `State.ledgerFetch` and `State.laneCtl`, whose cases are above, and so do the checkers' commands. -/
theorem ledgerFetchAndLaneTests : Obligations.LedgerFetchAndLaneTests := by
  unfold Obligations.LedgerFetchAndLaneTests
  refine ⟨?fetched, ?missing, ?refused, ?written, ?injected, ?lock, ?noLock, ?loss, ?noLoss⟩
  case fetched =>
    intro p x s hw hx hr
    refine ⟨_, exec_ledgerFetch hr, ?_, ?_, State.ledgerFetch_touches s⟩ <;> rw [ledgerFetch_sealed hx]
    · intro i hi
      refine (get_set_ne _ _ ?_).trans (windowFilled_get hw x hi)
      simp only [Fld.FLT_LEDGER_WIN, Fld.FLT_LEDGER_STATUS]
      omega
    · exact get_set_same ((windowFilled_touches s x).grows .reg hw) _ _ (by decide)
  case missing =>
    intro p s hw hr hnone
    refine ⟨_, exec_ledgerFetch hr, ?_, ?_, State.ledgerFetch_touches s⟩ <;> rw [ledgerFetch_missing hnone]
    · exact get_set_same hw _ _ (by decide)
    · exact onlyWords_set s _ _ (List.mem_singleton_self _)
  case refused =>
    intro p l v s hw hr hs hu hf
    exact ⟨_, (pathWrite_laneCtl hr v.isLt).trans (congrArg _ (laneCtl_refused hs hu hf)),
      get_set_same hw _ 1 (show 1 + 1 ≤ 32 by decide), onlyWords_set s _ _ (List.mem_singleton_self _), State.set_touches s _ _⟩
  case written =>
    intro p l v s hw hr hu
    have hreg := laneCtl_down_reg s l.val v.toNat hu
    exact ⟨_, pathWrite_laneCtl hr v.isLt, (regWord_congr hreg _).trans (controlsWritten_ctl s l.val v.toNat hw),
      (controlsWritten_onlyWords s l.val v.toNat).trans (onlyWords_congr _ hreg), laneCtl_down_out s l.val v.toNat hu,
      laneCtl_down_touches s l.val v.toNat hu⟩
  case injected =>
    intro p l s _ hr hu _
    have hlt : (s.regWord (Fld.TST_LANE_CTL_GEN_EN l.val).off).toNat ||| 0x100 < 2 ^ 32 := Nat.or_lt_two_pow (BitVec.isLt _) (by decide)
    have hinject : bit ((s.regWord (Fld.TST_LANE_CTL_GEN_EN l.val).off).toNat ||| 0x100) 8 = true := by
      rw [bit, Nat.testBit_or]
      exact Bool.or_true _
    exact ⟨_, pathWrite_laneCtl hr hlt, (laneCtl_down_out s l.val _ hu).trans (if_pos hinject),
      (controlsWritten_onlyWords s l.val _).trans (onlyWords_congr _ (laneCtl_down_reg s l.val _ hu)), laneCtl_down_touches s l.val _ hu⟩
  case lock =>
    intro l s hw h
    exact ⟨_, exec_checkerLock h, get_set_same hw _ 1 (show 0 + 1 ≤ 32 by decide), onlyWords_set s _ _ (List.mem_singleton_self _),
      State.set_touches s _ _⟩
  case noLock => exact fun l s h => exec_checkerLock_off h
  case loss =>
    intro l counted errors recent s hw h hn
    have hl := l.isLt
    have hexec := exec_checkerLockLoss counted errors h hn
    have hcw := checkerCounted_wf hw l.val counted errors
    have hevent {off : Nat} (hlo : 0x160000 ≤ off) (hhi : off < 0x160000 + 0x20 * 37) :=
      event_regWord_of_test ((s.checkerCounted l.val counted errors).lockLost l.val) 0x0068 l.val [recent.val] hlo
        (Nat.lt_trans hhi (by decide))
    have hpair {off : Nat} (hlo : 0x160008 + 0x20 * l.val ≤ off) (hhi : off < 0x160018 + 0x20 * l.val) :=
      (hevent (off := off) (by omega) (by omega)).trans (lockLost_regWord _ l.val
        (by simp only [Fld.TST_LANE_STAT_LOCK]; omega) (by simp only [Fld.TST_LANE_LOSS_CNT]; omega))
    refine ⟨_, hexec, ?_, ?_, ?_, ?_, (execCheckerLockLoss_answers l counted errors recent s).stays _ hexec⟩
    · refine (get_of_regWord (hevent ?_ ?_)).trans (lockLost_lock hcw l.val) <;> simp only [Fld.TST_LANE_STAT_LOCK] <;> omega
    · rw [← checkerCounted_lossCnt s l.val counted errors]
      refine (get_of_regWord (hevent ?_ ?_)).trans (lockLost_cnt hcw l.val) <;> simp only [Fld.TST_LANE_LOSS_CNT] <;> omega
    · refine (get64_of_regWord (hpair ?_ ?_) (hpair ?_ ?_)).trans (checkerCounted_bits hw l.val counted errors) <;>
        simp only [Fld.TST_LANE_BITS] <;> omega
    · refine (get64_of_regWord (hpair ?_ ?_) (hpair ?_ ?_)).trans (checkerCounted_err hw l.val counted errors) <;>
        simp only [Fld.TST_LANE_ERR] <;> omega
  case noLoss => exact fun l counted errors recent s hn => exec_checkerLockLoss_few l s counted errors hn

end Sys2Proof.Machine
end

section
/-!
SUPPORT. Which packets and flows a round of sending leaves (O47; R532, R536).
-/
namespace Sys2Proof.Machine

/-! Pacing and launching -/

/-- R536: a packet that may go leaves every flow as it was, or notes that it sends now. -/
theorem pace_flows {s : State} {p : Packet} {flows : List Flow} (h : s.pace p = some flows) :
    ∀ f ∈ flows, f ∈ s.fab.flows ∨ f.lastSend = s.now := by
  intro f hf
  unfold State.pace at h
  split at h
  next =>
    cases h
    exact .inl hf
  next =>
    extract_lets need at h
    split at h
    next g _ =>
      obtain ⟨-, hflows⟩ := Option.ite_none_right_eq_some.mp h
      cases hflows
      obtain ⟨x, hx, rfl⟩ := List.mem_map.mp hf
      split
      · exact .inr rfl
      · exact .inl hx
    next =>
      obtain ⟨-, hflows⟩ := Option.ite_none_right_eq_some.mp h
      cases hflows
      rcases List.mem_append.mp hf with hold | hnew
      · exact .inl hold
      · cases List.mem_singleton.mp hnew
        exact .inr rfl

/-- The packets that wait for an ACK once one leaves. -/
def State.launched (s : State) (p : Packet) : List Unacked :=
  if !isAcked p then s.fab.unacked
  else if s.fab.unacked.any (fun u => u.packet.msgId == p.msgId) then
    mapWhere s.fab.unacked (fun u => u.packet.msgId == p.msgId) (fun u => { u with sent := s.now })
  else s.fab.unacked ++ [(⟨p, s.now, 0⟩ : Unacked)]

/-- What a launch leaves of the fabric: the packet may wait for a port besides. -/
theorem launch_fab (s : State) (p : Packet) (flows : List Flow) : ∃ transits,
    (s.launch p flows).fab = { s.fab with flows := flows, unacked := s.launched p, transits := transits } := by
  have hinject (u : State) : ∃ transits, (u.inject p).fab = { u.fab with transits := transits } := by
    unfold State.inject
    extract_lets t
    split
    next =>
      split
      next v hv => exact ⟨u.fab.transits, (State.routeOne_touches u t v hv).fab_eq (by decide)⟩
      next => exact ⟨_, rfl⟩
    next => exact ⟨u.fab.transits, (State.routeFixed_touches u t (some 4)).fab_eq (by decide)⟩
  exact hinject _

/-- A launch only starts the timer of packets that wait, or adds its own. -/
theorem launched_from {s : State} {p : Packet} {v : Unacked} (h : v ∈ s.launched p) :
    v.packet = p ∨ ∃ u ∈ s.fab.unacked, v.packet = u.packet := by
  unfold State.launched at h
  split at h
  next => exact .inr ⟨v, h, rfl⟩
  next =>
    split at h
    next =>
      obtain ⟨u, hu, rfl⟩ := List.mem_map.mp h
      refine .inr ⟨u, hu, ?_⟩
      split <;> rfl
    next =>
      rcases List.mem_append.mp h with hold | hnew
      · exact .inr ⟨v, hold, rfl⟩
      · exact .inl (congrArg Unacked.packet (List.mem_singleton.mp hnew))

theorem launched_keeps {s : State} (p : Packet) {u : Unacked} (h : u ∈ s.fab.unacked) : ∃ v ∈ s.launched p, v.packet = u.packet := by
  unfold State.launched
  split
  next => exact ⟨u, h, rfl⟩
  next =>
    split
    next =>
      refine ⟨_, List.mem_map_of_mem h, ?_⟩
      split <;> rfl
    next => exact ⟨u, List.mem_append_left _ h, rfl⟩

/-- A packet sent `tries` times again, the last time now. -/
def SentNow (l : List Unacked) (m now : Nat) (p : Packet) (tries : Nat) : Prop :=
  (l.find? (fun u => u.packet.msgId == m)).map (fun u => (u.packet, u.sent, u.tries)) = some (p, now, tries)

theorem launched_sentNow {s : State} {m tries : Nat} {q : Packet} (p : Packet) (h : SentNow s.fab.unacked m s.now q tries) :
    SentNow (s.launched p) m s.now q tries := by
  unfold SentNow at *
  obtain ⟨u, hu, hsent⟩ := Option.map_eq_some_iff.mp h
  unfold State.launched
  split
  next => exact h
  next =>
    split
    next =>
      have hid : (fun x : Unacked => x.packet.msgId == m) ∘
          (fun x : Unacked => if x.packet.msgId == p.msgId then { x with sent := s.now } else x) = fun x => x.packet.msgId == m := by
        funext x
        simp only [Function.comp_apply]
        split <;> rfl
      rw [mapWhere, List.find?_map, hid, hu]
      obtain ⟨hpacket, hnow, htries⟩ : u.packet = q ∧ u.sent = s.now ∧ u.tries = tries := by simpa using hsent
      rw [Option.map_some, Option.map_some]
      split
      · exact congrArg some (by rw [hpacket, htries])
      · exact congrArg some (by rw [hpacket, hnow, htries])
    next =>
      rw [List.find?_append, hu]
      exact congrArg some hsent

/-! A round of sending -/

theorem foldl_fst_induction {α β σ : Type} {P : σ → Prop} {g : σ × β → α → σ × β} (l : List α)
    (hg : ∀ x ∈ l, ∀ acc, P acc.1 → P (g acc x).1) {i : σ × β} (hi : P i.1) : P (l.foldl g i).1 := by
  induction l generalizing i with
  | nil => exact hi
  | cons x l ih => exact ih (fun y hy => hg y (List.mem_cons_of_mem x hy)) (hg x List.mem_cons_self i hi)

/-- What holds once the packets held back are taken up, and is kept by each that is held again and by each launch, holds after a round of
sending. -/
theorem pump_induction {P : State → Prop} {s : State} (hstart : P { s with fab := { s.fab with outbox := [] } })
    (hheld : ∀ p ∈ s.fab.outbox, ∀ t, P t → P { t with fab := { t.fab with outbox := t.fab.outbox ++ [p] } })
    (hlaunch : ∀ p ∈ s.fab.outbox, ∀ t flows, t.now = s.now → t.pace p = some flows → P t → P (t.launch p flows)) :
    P s.pump := by
  refine (foldl_fst_induction (P := fun t => P t ∧ t.now = s.now) s.fab.outbox (fun p hp acc hacc => ?_) ⟨hstart, rfl⟩).1
  obtain ⟨t, stuck⟩ := acc
  obtain ⟨ht, hnow⟩ := hacc
  dsimp only
  split
  next => exact ⟨hheld p hp t ht, hnow⟩
  next =>
    split
    next flows hflows =>
      exact ⟨hlaunch p hp t flows hnow hflows ht, ((State.launch_touches t p flows).now_eq (by decide)).trans hnow⟩
    next => exact ⟨hheld p hp t ht, hnow⟩

/-- What is said of the packets that wait for an ACK and is kept by a launch is kept by a round of sending. -/
theorem pump_unacked {P : List Unacked → Prop} {s : State} (hstart : P s.fab.unacked)
    (hlaunch : ∀ p ∈ s.fab.outbox, ∀ t : State, t.now = s.now → P t.fab.unacked → P (t.launched p)) : P s.pump.fab.unacked := by
  refine pump_induction (P := fun t => P t.fab.unacked) hstart (fun p _ t ht => ht) (fun p hp t flows hnow _ ht => ?_)
  obtain ⟨transits, hfab⟩ := launch_fab t p flows
  rw [hfab]
  exact hlaunch p hp t hnow ht

theorem pump_unacked_from (s : State) :
    ∀ v ∈ s.pump.fab.unacked, v.packet ∈ s.fab.outbox ∨ ∃ u ∈ s.fab.unacked, v.packet = u.packet := by
  refine pump_unacked (P := fun l => ∀ v ∈ l, v.packet ∈ s.fab.outbox ∨ ∃ u ∈ s.fab.unacked, v.packet = u.packet)
    (fun v hv => .inr ⟨v, hv, rfl⟩) (fun p hp t _ ht v hv => ?_)
  rcases launched_from hv with h | ⟨u, hu, h⟩
  · exact .inl (h ▸ hp)
  · exact h ▸ ht u hu

theorem pump_unacked_keeps (s : State) : ∀ u ∈ s.fab.unacked, ∃ v ∈ s.pump.fab.unacked, v.packet = u.packet := by
  intro u hu
  refine pump_unacked (P := fun l => ∃ v ∈ l, v.packet = u.packet) ⟨u, hu, rfl⟩ (fun p _ t _ ht => ?_)
  obtain ⟨v, hv, hsame⟩ := ht
  obtain ⟨w, hw, hkept⟩ := launched_keeps p hv
  exact ⟨w, hw, hkept.trans hsame⟩

theorem pump_sentNow {s : State} {m tries : Nat} {q : Packet} (h : SentNow s.fab.unacked m s.now q tries) :
    SentNow s.pump.fab.unacked m s.now q tries := by
  refine pump_unacked (P := fun l => SentNow l m s.now q tries) h (fun p _ t hnow ht => ?_)
  rw [← hnow] at ht ⊢
  exact launched_sentNow p ht

/-- A round of sending holds no packet back that was not. -/
theorem pump_outbox (s : State) : ∀ p ∈ s.pump.fab.outbox, p ∈ s.fab.outbox := by
  refine pump_induction (P := fun t => ∀ p ∈ t.fab.outbox, p ∈ s.fab.outbox) (fun _ h => nomatch h) (fun p hp t ht q hq => ?_)
    (fun p _ t flows _ _ ht => ?_)
  · rcases List.mem_append.mp hq with hold | hnew
    · exact ht q hold
    · exact List.mem_singleton.mp hnew ▸ hp
  · obtain ⟨transits, hfab⟩ := launch_fab t p flows
    rwa [hfab]

/-- R536: a flow to a node has sent now after a round of sending, if it had before or was not there. -/
theorem pump_lastSend {s : State} {node : Nat} (h : ∀ f ∈ s.fab.flows, f.node = node → f.lastSend = s.now) :
    ∀ f ∈ s.pump.fab.flows, f.node = node → f.lastSend = s.now := by
  refine pump_induction (P := fun t => ∀ f ∈ t.fab.flows, f.node = node → f.lastSend = s.now) h (fun p _ t ht => ht)
    (fun p _ t flows hnow hpace ht f hf hn => ?_)
  obtain ⟨transits, hfab⟩ := launch_fab t p flows
  rw [hfab] at hf
  rcases pace_flows hpace f hf with hold | hsent
  · exact ht f hold hn
  · exact hsent.trans hnow

theorem pump_of_outbox_nil {s : State} (h : s.fab.outbox = []) : s.pump.fab = s.fab := by
  unfold State.pump
  rw [h, List.foldl_nil, ← h]

theorem pump_endpoint (s : State) : s.pump.fab.endpoint = s.fab.endpoint := (pump_sends s).2.endpoint_eq

theorem pump_get (s : State) {f : Fld} (h : f.off ≠ Fld.FAB_NOROUTE_CNT.off) : s.pump.get f = s.get f := by
  obtain ⟨hwords, -⟩ := pump_sends s
  exact get_of_regWord (hwords f.off (fun hmem => h (List.mem_singleton.mp hmem)))

end Sys2Proof.Machine
end

section
/-!
SUPPORT. Acknowledgements, rates, resends, escapes and idle flows (O47; R525, R532, R536, R537).
-/
namespace Sys2Proof.Machine

/-! ACK (R532) -/

/-- The packet that an ACK names is no longer waited for. -/
def State.acked (s : State) (p : Packet) : State :=
  { s with fab := { s.fab with unacked := s.fab.unacked.filter (fun u => !(u.packet.msgId == le p.payload 0 4 && u.packet.dest == p.src))
                               outbox := s.fab.outbox.filter (fun o => !(o.msgId == le p.payload 0 4 && o.dest == p.src)) } }

theorem execAck_eq {s : State} {p : Packet} (hh : s.fab.endpoint.head? = some p) (ht : p.ptype = 12) :
    execAck s = .next (s.popped.acked p).pump := by
  simp only [execAck, nextPacket_some hh ht]
  rfl

theorem not_named_iff (p : Packet) (msgId dest : Nat) :
    (!(msgId == le p.payload 0 4 && dest == p.src)) = true ↔ ¬(msgId = le p.payload 0 4 ∧ dest = p.src) := by
  simp only [Bool.not_eq_true', Bool.and_eq_false_iff, beq_eq_false_iff_ne, ne_eq, Decidable.not_and_iff_not_or_not]

theorem ack_ends (s : State) (p : Packet) :
    ∀ v ∈ (s.acked p).pump.fab.unacked, ¬(v.packet.msgId = le p.payload 0 4 ∧ v.packet.dest = p.src) := by
  intro v hv
  rcases pump_unacked_from (s.acked p) v hv with hsent | ⟨u, hu, hsame⟩
  · exact (not_named_iff p _ _).mp (List.mem_filter.mp hsent).2
  · rw [hsame]
    exact (not_named_iff p _ _).mp (List.mem_filter.mp hu).2

theorem ack_keeps {s : State} {p : Packet} {u : Unacked} (hu : u ∈ s.fab.unacked)
    (h : ¬(u.packet.msgId = le p.payload 0 4 ∧ u.packet.dest = p.src)) : ∃ v ∈ (s.acked p).pump.fab.unacked, v.packet = u.packet :=
  pump_unacked_keeps (s.acked p) u (List.mem_filter.mpr ⟨hu, (not_named_iff p _ _).mpr h⟩)

/-! Rates (R537) -/

theorem flow?_node {s : State} {a : Nat} {f : Flow} (h : s.flow? a = some f) : f.node = nodeBase a :=
  eq_of_beq (List.find?_some (p := fun f : Flow => f.node == nodeBase a) h)

/-- A flow changed, of which its node is not, is found again. -/
theorem flow?_modFlow {s : State} {a : Nat} {f : Flow} {g : Flow → Flow} (hg : ∀ x, (g x).node = x.node) (h : s.flow? a = some f) :
    (s.modFlow f.node g).flow? a = some (g { f with credit := s.flowCredit f, creditTick := s.now }) := by
  have hnode := flow?_node h
  simp only [State.flow?, ← hnode] at h ⊢
  refine (find?_mapWhere (p := fun x : Flow => x.node == f.node) (fun x => ?_) _).trans (congrArg (Option.map _) h)
  rw [hg]

/-- A flow whose rate is multiplied down from that of `f`. -/
def State.slower (s : State) (f x : Flow) : Flow :=
  { x with rate := max (s.get Fld.FAB_RATE_A_R_MIN) (f.rate * (16 - s.get Fld.FAB_RATE_A_MD) / 16)
           lastDec := some s.now
           incTick := s.now }

/-- A flow whose rate has grown from that of `f`. -/
def State.faster (s : State) (f x : Flow) : Flow :=
  { x with rate := min (s.get Fld.FAB_RATE_A_R_MAX) (f.rate + s.get Fld.FAB_RATE_A_AI), incTick := s.now }

theorem execEcho_slows {s : State} {p : Packet} {f : Flow} (hh : s.fab.endpoint.head? = some p) (ht : p.ptype = 13)
    (hf : s.flow? p.src = some f) (hd : f.lastDec.all (fun k => Nat.ble (500 * s.get Fld.FAB_RATE_B_DEC_GAP_US) (s.since k)) = true) :
    execEcho s = .next (((s.popped.modFlow f.node (s.popped.slower f)).setBits Fld.TID_SAT_STATUS 8).count Fld.FAB_RATE_DEC_CNT) := by
  have hflow : s.popped.flow? p.src = some f := hf
  simp only [execEcho, nextPacket_some hh ht, hflow]
  refine congrArg _ (if_pos ?_)
  split
  next k hk =>
    rw [hk] at hd
    exact hd
  next => rfl

theorem execEcho_keeps {s : State} {p : Packet} (hh : s.fab.endpoint.head? = some p) (ht : p.ptype = 13)
    (h : (s.flow? p.src).all (fun f => f.lastDec.any (fun k => Nat.blt (s.since k) (500 * s.get Fld.FAB_RATE_B_DEC_GAP_US))) = true) :
    execEcho s = .next s.popped := by
  simp only [execEcho, nextPacket_some hh ht]
  split
  next => rfl
  next f hf =>
    have hflow : s.flow? p.src = some f := hf
    rw [hflow, Option.all_some] at h
    obtain ⟨k, hk, hrecent⟩ := Option.any_eq_true .. |>.mp h
    refine congrArg _ (if_neg ?_)
    rw [hk]
    exact fun hlate => Nat.not_le.mpr (Nat.blt_eq.mp hrecent) (Nat.le_of_ble_eq_true hlate)

theorem execRateIncrease_due {s : State} {node : BitVec 16} {f : Flow} (hf : s.flow? node.toNat = some f)
    (ht : 500 * s.get Fld.FAB_RATE_B_INC_US ≤ s.since f.incTick) : execRateIncrease node s = .next (s.modFlow f.node (s.faster f)) := by
  simp only [execRateIncrease, hf, if_pos ht]
  rfl

theorem execRateIncrease_early {s : State} {node : BitVec 16}
    (h : (s.flow? node.toNat).all (fun f => Nat.blt (s.since f.incTick) (500 * s.get Fld.FAB_RATE_B_INC_US)) = true) :
    execRateIncrease node s = .next s := by
  unfold execRateIncrease
  split
  next => rfl
  next f hf =>
    rw [hf, Option.all_some] at h
    exact congrArg _ (if_neg (Nat.not_le.mpr (Nat.blt_eq.mp h)))

/-! FLOW_IDLE (R536) -/

/-- A flow is freed. -/
def State.flowFreed (s : State) (f : Flow) : State :=
  { s with fab := { s.fab with flows := s.fab.flows.filter (fun g => g.node != f.node) } }

theorem execFlowIdle_due {s : State} {node : BitVec 16} {f : Flow} (hf : s.flow? node.toNat = some f) (ht : 500000 ≤ s.since f.lastSend) :
    execFlowIdle node s = .next (s.flowFreed f).pump := by
  simp only [execFlowIdle, hf, if_pos ht]
  rfl

theorem execFlowIdle_early {s : State} {node : BitVec 16}
    (h : (s.flow? node.toNat).all (fun f => Nat.blt (s.since f.lastSend) 500000) = true) : execFlowIdle node s = .next s := by
  unfold execFlowIdle
  split
  next => rfl
  next f hf =>
    rw [hf, Option.all_some] at h
    exact congrArg _ (if_neg (Nat.not_le.mpr (Nat.blt_eq.mp h)))

/-- A flow to the freed node is there only if a packet held back has opened it since. -/
theorem flowFreed_pump {s : State} {a : Nat} {f : Flow} (hf : s.flow? a = some f) :
    ((s.flowFreed f).pump.flow? a).all (fun g => g.lastSend == s.now) = true := by
  have hnone : ∀ g ∈ (s.flowFreed f).fab.flows, g.node = nodeBase a → g.lastSend = s.now := by
    intro g hg hn
    have hne := (List.mem_filter.mp hg).2
    rw [flow?_node hf, hn, bne_self_eq_false] at hne
    exact nomatch hne
  refine (Option.all_eq_true _ _).mpr (fun g hg => beq_iff_eq.mpr ?_)
  exact pump_lastSend hnone g (List.mem_of_find?_eq_some hg) (flow?_node hg)

/-! Resends (R532) -/

/-- A packet is to be sent again. -/
def State.resending (s : State) (p : Packet) : State :=
  { s with fab := { s.fab with
    unacked := mapWhere s.fab.unacked (fun x => x.packet.msgId == p.msgId) (fun x => { x with sent := s.now, tries := x.tries + 1 })
    outbox := if s.fab.outbox.any (fun o => o.msgId == p.msgId) then s.fab.outbox else s.fab.outbox ++ [p] } }

/-- A packet has failed, and is waited for no longer. -/
def State.givenUp (s : State) (p : Packet) : State :=
  { s with fab := { s.fab with unacked := s.fab.unacked.filter (fun x => x.packet.msgId != p.msgId)
                               outbox := s.fab.outbox.filter (fun o => o.msgId != p.msgId) } }

/-- A failed packet is counted, reported, and its owner told. -/
def State.failed (s : State) (p : Packet) : State :=
  (((s.givenUp p).count Fld.FAB_E2E_FAIL_CNT).event 0x008A p.ptype [p.dest, p.msgId]).packetFailed p

section
variable {s : State} {msgId : Word} {u : Unacked} (hu : s.fab.unacked.find? (fun u => u.packet.msgId == msgId.toNat) = some u)
include hu

theorem unacked_msgId : u.packet.msgId = msgId.toNat :=
  eq_of_beq (List.find?_some (p := fun u : Unacked => u.packet.msgId == msgId.toNat) hu)

theorem execE2eResendTimeout_again (ht : 100000 ≤ s.since u.sent) (hn : u.tries < 3) :
    execE2eResendTimeout msgId s = .next ((s.resending u.packet).count Fld.FAB_E2E_RETRY_CNT).pump := by
  simp only [execE2eResendTimeout, hu, if_neg (Nat.not_lt.mpr ht), if_pos hn]
  rfl

theorem execE2eResendTimeout_fails (ht : 100000 ≤ s.since u.sent) (hn : 3 ≤ u.tries) :
    execE2eResendTimeout msgId s = .next (s.failed u.packet).pump := by
  simp only [execE2eResendTimeout, hu, if_neg (Nat.not_lt.mpr ht), if_neg (Nat.not_lt.mpr hn)]
  rfl

theorem resending_sentNow : SentNow (s.resending u.packet).fab.unacked msgId.toNat s.now u.packet (u.tries + 1) := by
  have hid := unacked_msgId hu
  unfold SentNow State.resending
  rw [hid]
  have hfind := find?_mapWhere (p := fun x : Unacked => x.packet.msgId == msgId.toNat)
    (f := fun x => { x with sent := s.now, tries := x.tries + 1 }) (fun _ => rfl) s.fab.unacked
  exact congrArg (Option.map _) (hfind.trans (congrArg (Option.map _) hu))

end

theorem execE2eResendTimeout_early {s : State} {msgId : Word}
    (h : (s.fab.unacked.find? (fun u => u.packet.msgId == msgId.toNat)).all (fun u => Nat.blt (s.since u.sent) 100000) = true) :
    execE2eResendTimeout msgId s = .next s := by
  unfold execE2eResendTimeout
  split
  next => rfl
  next u hu =>
    rw [hu, Option.all_some] at h
    exact congrArg _ (if_pos (Nat.blt_eq.mp h))

theorem failed_fab (s : State) (p : Packet) : (s.failed p).fab = (s.givenUp p).fab :=
  ((State.packetFailed_touches _ p).fab_eq (by decide)).trans
    ((State.event_touches ((s.givenUp p).count Fld.FAB_E2E_FAIL_CNT) _ _ _).fab_eq (by decide))

theorem failed_outbox (s : State) (p : Packet) : ∀ o ∈ (s.failed p).fab.outbox, o.msgId ≠ p.msgId := by
  rw [failed_fab]
  exact fun o ho => bne_iff_ne.mp (List.mem_filter.mp ho).2

theorem failed_unacked (s : State) (p : Packet) : ∀ u ∈ (s.failed p).fab.unacked, u.packet.msgId ≠ p.msgId := by
  rw [failed_fab]
  exact fun u hu => bne_iff_ne.mp (List.mem_filter.mp hu).2

/-- Once a packet has failed, a round of sending does not bring it back. -/
theorem failed_pump_unacked (s : State) (p : Packet) : ∀ v ∈ (s.failed p).pump.fab.unacked, v.packet.msgId ≠ p.msgId := by
  intro v hv
  rcases pump_unacked_from _ v hv with hsent | ⟨u, hu, hsame⟩
  · exact failed_outbox s p _ hsent
  · exact hsame ▸ failed_unacked s p u hu

theorem failed_cnt (s : State) (p : Packet) :
    (s.failed p).get Fld.FAB_E2E_FAIL_CNT = min (s.get Fld.FAB_E2E_FAIL_CNT + 1) 0xFFFFFFFF := by
  have hreg : (s.failed p).reg = _ := (State.packetFailed_touches _ p).reg_eq (by decide)
  rw [get_congr hreg, get_of_regWord (event_regWord (by decide) _ _ _ _ (by decide)),
    get_count_of_reset _ (by decide) (by decide) (by decide)]
  rfl

/-! ESCAPE_TIMEOUT (R525) -/

/-- A packet no longer waits at this node. -/
def State.unparked (s : State) (index : Nat) : State :=
  { s with fab := { s.fab with transits := s.fab.transits.take index ++ s.fab.transits.drop (index + 1) } }

/-- A packet that has waited long enough takes a port, or the escape route. -/
theorem execEscapeTimeout_due {s : State} {index : Nat} {x : Transit} (hx : s.fab.transits[index]? = some x)
    (ht : s.get Fld.FAB_ESC ≤ 2 * s.since x.since) :
    ∃ t, execEscapeTimeout index s = .next t ∧ Touches [.reg, .nwl] (s.unparked index) t := by
  simp only [execEscapeTimeout, hx, if_pos ht]
  split
  next u hu => exact ⟨u, rfl, State.routeOne_touches _ x u hu⟩
  next => exact ⟨_, rfl, State.routeEscape_touches _ _⟩

/-- Settles O47: each command is what it does to the packets that wait and to the flows, and then a round of sending, which keeps it. -/
theorem packetsAcked : Obligations.PacketsAcked := by
  unfold Obligations.PacketsAcked
  refine ⟨?ack, ?noAck, ?echo, ?echoEarly, ?noEcho, ?rate, ?rateEarly, ?idle, ?idleEarly, ?again, ?fails, ?resendEarly, ?escape,
    ?escapeEarly, ?noEscape⟩
  case ack =>
    intro p s hh ht
    have hexec := execAck_eq hh ht
    exact ⟨_, hexec, pump_endpoint _, ack_ends s.popped p, fun u hu h => ack_keeps (s := s.popped) hu h,
      (execAck_answers s).stays _ hexec⟩
  case noAck =>
    intro s h
    change execAck s = _
    simp only [execAck, h]
  case echo =>
    intro p f s hw hh ht hf hd
    have hexec := execEcho_slows hh ht hf hd
    have hflow := flow?_modFlow (s := s.popped) (g := s.popped.slower f) (fun _ => rfl) hf
    refine ⟨_, hexec, rfl, congrArg (Option.map _) hflow, congrArg (Option.map _) hflow, ?cnt, ?sat, ?words,
      (execEcho_answers s).stays _ hexec⟩
    case cnt =>
      rw [get_count_of_reset _ (by decide) (by decide) (by decide), State.setBits, get_set_ne _ _ (by decide)]
      rfl
    case sat =>
      rw [get_count_ne _ (by decide), State.setBits, get_set_same (s := s.popped.modFlow f.node (s.popped.slower f)) hw _ _ (by decide)]
      exact Nat.mod_eq_of_lt (Nat.or_lt_two_pow (rget_lt s.reg _) (by decide))
    case words =>
      exact (onlyWords_set (s.popped.modFlow f.node (s.popped.slower f)) _ _ (by decide)).trans (onlyWords_count _ _ (by decide))
  case echoEarly => exact fun p s hh ht h => ⟨_, execEcho_keeps hh ht h, rfl, rfl, popped_touches s⟩
  case noEcho =>
    intro s h
    change execEcho s = _
    simp only [execEcho, h]
  case rate =>
    intro node f s hf ht
    have hexec := execRateIncrease_due hf ht
    have hflow := flow?_modFlow (g := s.faster f) (fun _ => rfl) hf
    exact ⟨_, hexec, congrArg (Option.map _) hflow, List.length_map _,
      fun g hg hn => mem_mapWhere_of_not _ hg (beq_eq_false_iff_ne.mpr hn), rfl, (execRateIncrease_answers node s).stays _ hexec⟩
  case rateEarly => exact fun node s h => execRateIncrease_early h
  case idle =>
    intro node f s hf ht
    have hexec := execFlowIdle_due hf ht
    exact ⟨_, hexec, flowFreed_pump hf, fun hnone => pump_of_outbox_nil hnone, (execFlowIdle_answers node s).stays _ hexec⟩
  case idleEarly => exact fun node s h => execFlowIdle_early h
  case again =>
    intro msgId u s hu ht hn
    have hexec := execE2eResendTimeout_again hu ht hn
    refine ⟨_, hexec, ?_, ?_, pump_endpoint _, ?_⟩
    · exact pump_sentNow (s := (s.resending u.packet).count Fld.FAB_E2E_RETRY_CNT) (resending_sentNow hu)
    · rw [pump_get _ (by decide), get_count_of_reset _ (by decide) (by decide) (by decide)]
      rfl
    · exact (State.pump_touches _).after rfl ((State.count_touches _ _).after rfl (.put_fab rfl (Touches.refl _ s)))
  case fails =>
    intro msgId u s _ hu ht hn
    have hexec := execE2eResendTimeout_fails hu ht hn
    have hid := unacked_msgId hu
    refine ⟨_, hexec, ?_, ?_, ?_, (execE2eResendTimeout_answers msgId s).stays _ hexec⟩
    · exact hid ▸ failed_pump_unacked s u.packet
    · exact fun o ho => hid ▸ failed_outbox s u.packet o (pump_outbox _ o ho)
    · rw [pump_get _ (by decide), failed_cnt]
  case resendEarly => exact fun msgId s h => execE2eResendTimeout_early h
  case escape =>
    intro index x s hx ht
    obtain ⟨t, hexec, htouch⟩ := execEscapeTimeout_due hx ht
    have hfab : t.fab = (s.unparked index).fab := htouch.fab_eq (by decide)
    exact ⟨t, hexec, congrArg Fabric.transits hfab, (congrArg Fabric.endpoint hfab).trans rfl,
      (execEscapeTimeout_answers index s).stays _ hexec⟩
  case escapeEarly =>
    intro index x s hx ht
    change execEscapeTimeout index s = _
    simp only [execEscapeTimeout, hx, if_neg (Nat.not_le.mpr ht)]
  case noEscape =>
    intro index s hx
    change execEscapeTimeout index s = _
    simp only [execEscapeTimeout, hx]

end Sys2Proof.Machine
end

section
/-!
SUPPORT. The rails, the straps, OTP and the trims (O1; R452, R454, R568, R572, R583, R632 to R639, Table 12-9).
-/
namespace Sys2Proof.Machine

/-! A code on VDD_VID (R568) -/

theorem driveVid_vid {s : State} (h : regFileWf s.reg = true) {code : Nat} (hc : code < 2 ^ 6) :
    (s.driveVid code).get Fld.PWR_VID = code := by
  unfold State.driveVid
  split
  next hsame => exact hsame
  next => exact (get_set_same h Fld.PWR_VID code (by decide)).trans (Nat.mod_eq_of_lt hc)

theorem driveVid_onlyWords (s : State) (code : Nat) : OnlyWords [Fld.PWR_VID.off] s (s.driveVid code) :=
  OnlyWords.ite (OnlyWords.refl _ s) ((onlyWords_set s _ _ (List.mem_singleton_self _)).trans (onlyWords_congr _ rfl))

/-! A phase of the start (Table 12-9) -/

theorem bootPhase_phase {s : State} (h : regFileWf s.reg = true) (b : BootStep) (phase : Nat) :
    (s.bootPhase b phase).get Fld.IMG_STATE_PHASE = phase % 16 := by
  rw [State.get_eq, bootPhase_reg]
  exact rget_rset_same h _ _ (by decide)

theorem bootPhase_wf {s : State} (h : regFileWf s.reg = true) (b : BootStep) (phase : Nat) :
    regFileWf (s.bootPhase b phase).reg = true := by
  rw [bootPhase_reg]
  exact wf_rset h _ _

theorem bootPhase_boot (s : State) (b : BootStep) (phase : Nat) : (s.bootPhase b phase).img.boot = b := rfl

theorem bootPhase_otp (s : State) (b : BootStep) (phase : Nat) : (s.bootPhase b phase).img.otp = s.img.otp := by
  rw [State.bootPhase, State.set_img]

theorem bootPhase_onlyWords (s : State) (b : BootStep) (phase : Nat) {l : List Nat} (h : Fld.IMG_STATE_PHASE.off ∈ l) :
    OnlyWords l s (s.bootPhase b phase) := fun _ ho => rword_rset_ne s.reg phase (fun e => ho (e ▸ h))

/-- BOOT_FAIL shows in the phase (R475). -/
theorem bootFail_phase {s : State} (h : regFileWf s.reg = true) (cause : Nat) : (s.bootFail cause).get Fld.IMG_STATE_PHASE = 15 := by
  have hphase := bootPhase_wf h .fail 15
  rw [State.bootFail, State.imgFault, get_set_ne _ _ (by decide),
    get_set_field (f := Fld.IMG_STATE_FAIL) (g := Fld.IMG_STATE_PHASE) hphase _ (by decide) rfl (by decide)]
  exact bootPhase_phase h _ _

/-! Rails -/

section
variable {s : State}

theorem exec_vaonRise (h : s.img.vaon = false) : exec .vaonRise s = .next { s with img := { s.img with vaon := true }, now := 0 } :=
  congrArg _ (if_neg (Bool.eq_false_iff.mp h))

theorem exec_vaonRise_on (h : s.img.vaon = true) : exec .vaonRise s = .next s := congrArg _ (if_pos h)

/-- What a loss of VAON leaves (R572). -/
def State.vaonLost (s : State) : State :=
  { (((s.cutProgram 0).cutProgram 1).stopErases).cold [] Img.reset with now := 0, pwr := Power.reset }

theorem exec_vaonFall (h : s.img.vaon = true) : exec .vaonFall s = .next s.vaonLost := congrArg _ (if_pos h)

theorem exec_vaonFall_off (h : s.img.vaon = false) : exec .vaonFall s = .next s := congrArg _ (if_neg (Bool.eq_false_iff.mp h))

/-- VIO is present. -/
def State.vioUp (s : State) : State := { s with img := { s.img with vio := true } }

theorem exec_vioRise (h : s.img.vaon = true) (hv : s.img.vio = false) : exec .vioRise s = .next (s.vioUp.driveVid 30) :=
  congrArg _ (if_pos (by rw [h, hv]; rfl))

theorem exec_vioRise_on (h : s.img.vio = true) : exec .vioRise s = .next s :=
  congrArg _ (if_neg (by simp [h]))

theorem exec_tidePllLock (h : s.img.boot = .memory ∨ s.img.boot = .ready) :
    exec .tidePllLock s = .next (s.set Fld.TID_TB_STATE_PLL_LOCKED 1) := congrArg _ (if_pos h)

/-- Everything outside the always-on domain at reset (R639). -/
def State.aonKept (s : State) : State :=
  (s.settled.cold (keepWords aonWord s.settled.reg) { Img.reset with vaon := true, vio := s.settled.img.vio }).keepLock

/-- A trip is released with PWR_OK (R583). -/
def State.powerLost (s : State) : State := if s.settled.pwr.tripped then s.aonKept.emit (.thermTrip false) else s.aonKept

theorem exec_pwrOkFall (h : s.img.pwrOk = true) : exec .pwrOkFall s = .next (s.powerLost.driveVid 30) := by
  change execPwrOkFall s = _
  rw [execPwrOkFall, if_pos h, State.powerLost, State.aonKept, State.settled]

end

theorem aonKept_touches (s : State) : Touches [.reg]
    (s.settled.cold (keepWords aonWord s.settled.reg) { Img.reset with vaon := true, vio := s.settled.img.vio }) s.aonKept :=
  State.keepLock_touches _

theorem powerLost_touches (s : State) : Touches [.out] s.aonKept s.powerLost := Touches.ite (State.emit_touches _ _) (Touches.refl _ _)

theorem powerLost_img (s : State) : s.powerLost.img = { Img.reset with vaon := true, vio := s.settled.img.vio } :=
  ((powerLost_touches s).img_eq (by decide)).trans ((aonKept_touches s).img_eq (by decide))

theorem powerLost_now (s : State) : s.powerLost.now = s.now :=
  (((powerLost_touches s).now_eq (by decide)).trans ((aonKept_touches s).now_eq (by decide))).trans ((settled_touches s).now_eq (by decide))

theorem powerLost_strands (s : State) : s.powerLost.strands = State.reset.strands :=
  ((powerLost_touches s).strands_eq (by decide)).trans ((aonKept_touches s).strands_eq (by decide))

theorem powerLost_frames (s : State) : s.powerLost.frames = [] :=
  ((powerLost_touches s).frames_eq (by decide)).trans ((aonKept_touches s).frames_eq (by decide))

theorem powerLost_wf {s : State} (h : regFileWf s.reg = true) : regFileWf s.powerLost.reg = true := by
  have hkept : regFileWf (keepWords aonWord s.settled.reg) = true := Tab.canon_filter _ _ _ ((settled_touches s).grows .reg h)
  rw [(powerLost_touches s).reg_eq (by decide)]
  exact (aonKept_touches s).grows .reg hkept

/-! PWR_OK_RISE: the straps (R632, R633) -/

theorem b2n_lt_two (b : Bool) : b2n b < 2 := by
  cases b <;> decide

section
variable (node : BitVec 15) (smb : BitVec 3) (test : Bool)

theorem strapWord_lt : strapWord node smb test < 2 ^ 32 := by
  have hnode := node.isLt
  have hsmb := smb.isLt
  have htest := b2n_lt_two test
  unfold strapWord
  omega

/-- The straps stand in GLB_STRAP as sampled. -/
def State.strapped (s : State) : State :=
  ({ s with img := { s.img with pwrOk := true, startTick := s.now } }).setWord Fld.GLB_STRAP_NODE_ADDR.off
    (word (strapWord node smb test))

/-- Step 1 of Table 12-9. -/
def State.poweredUp (s : State) : State :=
  (((s.strapped node smb test).set Fld.HIF_SMB_ADDR (0x60 + smb.toNat)).set Fld.THM_STATE_TRIP_LAST s.pwr.latch).bootPhase .otp 0

theorem exec_pwrOkRise {s : State} (h : s.img.vaon = true) (hv : s.img.vio = true) (hp : s.img.pwrOk = false) :
    exec (.pwrOkRise node smb test) s = .next (s.poweredUp node smb test) := congrArg _ (if_pos (by rw [h, hv, hp]; rfl))

theorem poweredUp_onlyWords (s : State) : OnlyWords [Fld.GLB_STRAP_NODE_ADDR.off, Fld.HIF_SMB_ADDR.off, Fld.THM_STATE_TRIP_LAST.off,
    Fld.IMG_STATE_PHASE.off] s (s.poweredUp node smb test) := by
  have hstraps : OnlyWords [Fld.GLB_STRAP_NODE_ADDR.off, Fld.HIF_SMB_ADDR.off, Fld.THM_STATE_TRIP_LAST.off, Fld.IMG_STATE_PHASE.off] s
      (s.strapped node smb test) := onlyWords_setWord { s with img := _ } _ _ (by decide)
  exact ((hstraps.trans (onlyWords_set _ _ _ (by decide))).trans (onlyWords_set _ _ _ (by decide))).trans
    (bootPhase_onlyWords _ _ _ (by decide))

section
variable {s : State} (h : regFileWf s.reg = true)
include h

theorem strapped_wf : regFileWf (s.strapped node smb test).reg = true := wf_rput h _ _

theorem poweredUp_smbAddr : (s.poweredUp node smb test).get Fld.HIF_SMB_ADDR = 0x60 + smb.toNat := by
  have hsmb := smb.isLt
  rw [State.poweredUp, bootPhase_get _ _ _ (by decide), get_set_ne _ _ (by decide),
    get_set_same (strapped_wf node smb test h) _ _ (by decide)]
  exact Nat.mod_eq_of_lt (show 0x60 + smb.toNat < 2 ^ 7 by omega)

theorem poweredUp_tripLast : (s.poweredUp node smb test).get Fld.THM_STATE_TRIP_LAST = s.pwr.latch % 4 := by
  rw [State.poweredUp, bootPhase_get _ _ _ (by decide)]
  exact get_set_same (wf_set (strapped_wf node smb test h) _ _) _ _ (by decide)

theorem poweredUp_phase : (s.poweredUp node smb test).get Fld.IMG_STATE_PHASE = 0 :=
  bootPhase_phase (wf_set (wf_set (strapped_wf node smb test h) _ _) _ _) _ _

/-- A field of GLB_STRAP is that field of the straps' word. -/
theorem poweredUp_strap {f : Fld} (hf : f.off = Fld.GLB_STRAP_NODE_ADDR.off) :
    (s.poweredUp node smb test).get f = bits (strapWord node smb test) f.lsb f.width := by
  rw [State.poweredUp, bootPhase_get _ _ _ (by rw [hf]; decide), get_set_ne _ _ (by rw [hf]; decide),
    get_set_ne _ _ (by rw [hf]; decide), State.get, hf, ← word_toNat (strapWord_lt node smb test)]
  exact congrArg (fun w : Word => bits w.toNat f.lsb f.width) (regWord_setWord_same (s := { s with img := _ }) h _ _)

end

theorem strapWord_node : bits (strapWord node smb test) 1 15 = node.toNat := by
  have hnode := node.isLt
  simp only [bits, strapWord, Nat.shiftRight_eq_div_pow]
  omega

theorem strapWord_smb : bits (strapWord node smb test) 16 3 = smb.toNat := by
  have hnode := node.isLt
  have hsmb := smb.isLt
  simp only [bits, strapWord, Nat.shiftRight_eq_div_pow]
  omega

theorem strapWord_test : bits (strapWord node smb test) 19 1 = b2n test := by
  have hnode := node.isLt
  have hsmb := smb.isLt
  have htest := b2n_lt_two test
  simp only [bits, strapWord, Nat.shiftRight_eq_div_pow]
  omega

end

/-! OTP_SENSED -/

/-- The fuses are known. -/
def State.otpNoted (s : State) (otp : Otp) : State := { s with img := { s.img with otp := some otp } }

/-- GLB_DEVICE_ID holds the identity of the die. -/
def State.identified (s : State) (otp : Otp) : State :=
  (upto 4).foldl (fun s i => s.set (Fld.GLB_DEVICE_ID i) (le otp.deviceId (4 * i) 4)) (s.otpNoted otp)

/-- The delays of the timestamp paths are written. -/
def State.delaysWritten (s : State) (otp : Otp) : State :=
  (upto 3).foldl (fun s p => s.setWord (Fld.INT_TS_DLY_RX_DLY_PS p).off (word (otp.pathDelays.getD p 0))) s

/-- GLB_OTP has its lock and the EC revocations. -/
def State.ecFused (s : State) (otp : Otp) : State :=
  ((s.identified otp).set Fld.GLB_OTP_DEBUG_LOCK (b2n otp.debugLock)).set Fld.GLB_OTP_EC_REVOKED otp.ecRevoked

/-- Step 2 of Table 12-9. -/
def State.sensed (s : State) (otp : Otp) : State :=
  (((s.ecFused otp).delaysWritten otp).set Fld.GLB_OTP_ML_REVOKED otp.mlRevoked).bootPhase .trim 1

theorem exec_otpSensed {s : State} (otp : Otp) (hb : s.img.boot = .otp) (ht : s.flag Fld.GLB_STRAP_TEST_EN = false)
    (hc : s.coolEnough = true) : exec (.otpSensed otp) s = .next (s.sensed otp) := by
  change execOtpSensed otp s = _
  rw [execOtpSensed, if_pos ⟨hb, Bool.eq_false_iff.mp ht, hc⟩, State.sensed, State.delaysWritten, State.ecFused, State.identified,
    State.otpNoted]

/-- R634: a part with TEST_EN high stays in phase OTP. -/
theorem exec_otpSensed_held {s : State} (otp : Otp) (ht : s.flag Fld.GLB_STRAP_TEST_EN = true) : exec (.otpSensed otp) s = .next s :=
  congrArg _ (if_neg (fun h => h.2.1 ht))

theorem identified_touches (s : State) (otp : Otp) : Touches [.reg] (s.otpNoted otp) (s.identified otp) :=
  Touches.foldl (Touches.refl _ _) (fun t _ h => h.trans (State.set_touches t _ _))

theorem delaysWritten_touches (s : State) (otp : Otp) : Touches [.reg] s (s.delaysWritten otp) :=
  Touches.foldl (Touches.refl _ s) (fun t _ h => h.trans (State.setWord_touches t _ _))

theorem delaysWritten_get (s : State) (otp : Otp) {f : Fld} (h : f.off < 0x40000) : (s.delaysWritten otp).get f = s.get f := by
  refine get_of_regWord (regWord_foldl (fun t p => regWord_setWord_ne t _ ?_) _ s)
  simp only [Fld.INT_TS_DLY_RX_DLY_PS]
  omega

theorem ecFused_touches (s : State) (otp : Otp) : Touches [.reg] (s.otpNoted otp) (s.ecFused otp) :=
  ((identified_touches s otp).trans (State.set_touches _ _ _)).trans (State.set_touches _ _ _)

/-- The fuses are known once GLB_OTP is filled. -/
theorem sensed_noted (s : State) (otp : Otp) : (s.sensed otp).img.otp = some otp := by
  have hfused := (ecFused_touches s otp).trans (delaysWritten_touches _ otp)
  have himg := (hfused.trans (State.set_touches _ Fld.GLB_OTP_ML_REVOKED otp.mlRevoked)).img_eq (by decide)
  rw [State.sensed, bootPhase_otp, himg, State.otpNoted]

section
variable {s : State} (h : regFileWf s.reg = true) (otp : Otp)
include h

theorem identified_wf : regFileWf (s.identified otp).reg = true := (identified_touches s otp).grows .reg h

theorem ecFused_wf : regFileWf (s.ecFused otp).reg = true := (ecFused_touches s otp).grows .reg h

theorem delaysWritten_wf : regFileWf ((s.ecFused otp).delaysWritten otp).reg = true :=
  (delaysWritten_touches _ otp).grows .reg (ecFused_wf h otp)

theorem sensed_phase : (s.sensed otp).get Fld.IMG_STATE_PHASE = 1 := bootPhase_phase (wf_set (delaysWritten_wf h otp) _ _) _ _

theorem sensed_mlRevoked : (s.sensed otp).get Fld.GLB_OTP_ML_REVOKED = otp.mlRevoked % 16 := by
  rw [State.sensed, bootPhase_get _ _ _ (by decide)]
  exact get_set_same (delaysWritten_wf h otp) _ _ (by decide)

/-- The other fields of GLB_OTP stand as they were written before the ML revocations. -/
theorem sensed_otp {f : Fld} (hf : f.off = Fld.GLB_OTP_ML_REVOKED.off) (hd : f.lsb + f.width ≤ 4 ∨ 8 ≤ f.lsb) :
    (s.sensed otp).get f = (s.ecFused otp).get f := by
  rw [State.sensed, bootPhase_get _ _ _ (by rw [hf]; decide),
    get_set_field (f := Fld.GLB_OTP_ML_REVOKED) (delaysWritten_wf h otp) _ (by decide) hf hd]
  exact delaysWritten_get _ _ (by rw [hf]; decide)

theorem sensed_ecRevoked : (s.sensed otp).get Fld.GLB_OTP_EC_REVOKED = otp.ecRevoked % 16 := by
  rw [sensed_otp h otp (f := Fld.GLB_OTP_EC_REVOKED) rfl (by decide)]
  exact get_set_same (wf_set (identified_wf h otp) _ _) _ _ (by decide)

theorem sensed_debugLock : (s.sensed otp).get Fld.GLB_OTP_DEBUG_LOCK = b2n otp.debugLock := by
  rw [sensed_otp h otp (f := Fld.GLB_OTP_DEBUG_LOCK) rfl (by decide), State.ecFused,
    get_set_field (f := Fld.GLB_OTP_EC_REVOKED) (g := Fld.GLB_OTP_DEBUG_LOCK) (wf_set (identified_wf h otp) _ _) _ (by decide) rfl
      (by decide),
    get_set_same (identified_wf h otp) _ _ (by decide)]
  exact Nat.mod_eq_of_lt (b2n_lt_two _)

end

/-! TRIM_CHECK (R454) -/

/-- A trim block is applied. -/
def State.trimmed (s : State) (b : Bytes) : State := ({ s with pwr := { s.pwr with trims := some b } }).bootPhase .select 2

theorem trimmed_trims (s : State) (b : Bytes) : (s.trimmed b).pwr.trims = some b :=
  congrArg Power.trims ((State.bootPhase_touches _ _ _).pwr_eq (by decide))

theorem trimmed_vidOf (s : State) (b : Bytes) : (s.trimmed b).vidOf 0 = byteAt b 64 % 64 := by
  rw [State.vidOf, State.trimBytes, trimmed_trims, Option.getD_some]

/-- The trim block of bank A, or of bank B where that of A is bad. -/
theorem exec_trimCheck {s : State} {b : Bytes} (hb : s.img.boot = .trim)
    (h : s.trimBlock 0 = some b ∨ s.trimBlock 0 = none ∧ s.trimBlock 1 = some b) :
    exec .trimCheck s = .next ((s.trimmed b).driveVid ((s.trimmed b).vidOf 0)) := by
  change execTrimCheck s = _
  rw [execTrimCheck, if_pos hb]
  rcases h with h | ⟨h₀, h₁⟩
  · simp only [h, State.trimmed]
  · simp only [h₀, h₁, State.trimmed]

theorem exec_trimCheck_none {s : State} (hb : s.img.boot = .trim) (h₀ : s.trimBlock 0 = none) (h₁ : s.trimBlock 1 = none) :
    exec .trimCheck s = .next (s.bootFail 0x0E) := by
  change execTrimCheck s = _
  rw [execTrimCheck, if_pos hb]
  simp only [h₀, h₁]

theorem bootFail_img (s : State) (cause : Nat) : (s.bootFail cause).img.boot = .fail := rfl

theorem bootFail_pwr (s : State) (cause : Nat) : (s.bootFail cause).pwr = s.pwr := (State.bootFail_touches s cause).pwr_eq (by decide)

/-- What a good trim block leaves (R454, R568). -/
theorem trimCheck_applied {s : State} {b : Bytes} (hw : regFileWf s.reg = true) (hb : s.img.boot = .trim)
    (h : s.trimBlock 0 = some b ∨ s.trimBlock 0 = none ∧ s.trimBlock 1 = some b) :
    ∃ t, exec .trimCheck s = .next t ∧ t.pwr.trims = some b ∧ t.img.boot = .select ∧ t.get Fld.PWR_VID = byteAt b 64 % 64 ∧
      Touches [.out, .reg, .img, .pwr] s t := by
  have hexec := exec_trimCheck hb h
  have hvid := State.driveVid_touches (s.trimmed b) ((s.trimmed b).vidOf 0)
  have hwf : regFileWf (s.trimmed b).reg = true := bootPhase_wf (s := { s with pwr := { s.pwr with trims := some b } }) hw _ _
  refine ⟨_, hexec, ?_, ?_, ?_, (execTrimCheck_answers s).stays _ hexec⟩
  · rw [hvid.pwr_eq (by decide), trimmed_trims]
  · rw [hvid.img_eq (by decide), State.trimmed, bootPhase_boot]
  · rw [trimmed_vidOf]
    exact driveVid_vid hwf (Nat.mod_lt _ (by decide))

/-! IMAGE_HEADERS_READ (R452) -/

/-- The ledger is scanned, the retired Strands and both headers are noted. -/
def State.headersNoted (s : State) : State := (s.ledgerScan.startRetired.noteHeader 0).noteHeader 1

/-- The preferred bank is named. -/
def State.bankNamed (s : State) : State :=
  (s.headersNoted.set Fld.IMG_NEXT_FROM_REC (b2n s.headersNoted.led.force.select.isSome)).set Fld.IMG_NEXT_BANK s.headersNoted.preferredBank

/-- The preferred bank is the one being tried. -/
def State.bankChosen (s : State) : State :=
  { s.bankNamed with img := { s.bankNamed.img with bank := s.headersNoted.preferredBank, retried := false } }

theorem exec_imageHeadersRead {s : State} (h : s.img.boot = .select) :
    exec .imageHeadersRead s = .next (s.bankChosen.bootPhase .stream 3) := by
  change execImageHeadersRead s = _
  rw [execImageHeadersRead, if_pos h]
  rfl

theorem headersNoted_wf {s : State} (h : regFileWf s.reg = true) : regFileWf s.headersNoted.reg = true := by
  have hscan : regFileWf s.ledgerScan.startRetired.reg = true :=
    (State.startRetired_touches _).grows .reg ((State.ledgerScan_touches s).grows .reg h)
  exact (State.noteHeader_touches _ 1).grows .reg ((State.noteHeader_touches _ 0).grows .reg hscan)

theorem bankNamed_next {s : State} (h : regFileWf s.reg = true) :
    s.bankNamed.get Fld.IMG_NEXT_BANK = s.headersNoted.preferredBank % 2 :=
  get_set_same (wf_set (headersNoted_wf h) _ _) _ _ (by decide)

theorem bankChosen_next {s : State} (h : regFileWf s.reg = true) :
    (s.bankChosen.bootPhase .stream 3).get Fld.IMG_NEXT_BANK = s.bankChosen.img.bank % 2 := by
  have hbank : s.bankChosen.img.bank = s.headersNoted.preferredBank := rfl
  rw [bootPhase_get _ _ _ (by decide), get_congr (s := s.bankNamed) (t := s.bankChosen) rfl, bankNamed_next h, hbank]

theorem bankChosen_wf {s : State} (h : regFileWf s.reg = true) : regFileWf s.bankChosen.reg = true :=
  have hnamed : regFileWf s.bankNamed.reg = true := wf_set (wf_set (headersNoted_wf h) _ _) _ _
  hnamed

/-- Settles O1: each event is one of the equations above where its condition holds, and nothing where it does not. -/
theorem railsAndSensing : Obligations.RailsAndSensing := by
  unfold Obligations.RailsAndSensing
  refine ⟨?vaonRise, fun s => exec_vaonRise_on, ?vaonFall, fun s => exec_vaonFall_off, ?vioRise, fun s => exec_vioRise_on, ?pll,
    ?pwrOkRise, ?pwrOkFall, ?otp, fun otp s => exec_otpSensed_held otp, ?trimA, ?trimB, ?noTrim, ?headers⟩
  case vaonRise => exact fun s h => ⟨_, exec_vaonRise h, rfl, rfl, .put_now_img rfl (Touches.refl _ s)⟩
  case vaonFall =>
    intro s h
    have hexec := exec_vaonFall h
    exact ⟨_, hexec, rfl, rfl, rfl, rfl, rfl, rfl, (execVaonFall_answers s).stays _ hexec⟩
  case vioRise =>
    intro s hw h hv
    have hexec := exec_vioRise h hv
    have himg := (State.driveVid_touches s.vioUp 30).img_eq (by decide)
    exact ⟨_, hexec, congrArg Img.vio himg, driveVid_vid (s := s.vioUp) hw (by decide), driveVid_onlyWords s.vioUp 30,
      (execVioRise_answers s).stays _ hexec⟩
  case pll =>
    intro s hw h
    exact ⟨_, exec_tidePllLock h, get_set_same hw _ _ (by decide), onlyWords_set s _ _ (List.mem_singleton_self _),
      State.set_touches s _ _⟩
  case pwrOkRise =>
    intro node smb test s hw h hv hp
    have hexec := exec_pwrOkRise node smb test h hv hp
    exact ⟨_, hexec, rfl, rfl, rfl, (poweredUp_strap node smb test hw rfl).trans (strapWord_node node smb test),
      (poweredUp_strap node smb test hw (f := Fld.GLB_STRAP_SMB_ADDR) rfl).trans (strapWord_smb node smb test),
      (poweredUp_strap node smb test hw (f := Fld.GLB_STRAP_TEST_EN) rfl).trans (strapWord_test node smb test),
      poweredUp_smbAddr node smb test hw, poweredUp_tripLast node smb test hw, poweredUp_phase node smb test hw,
      poweredUp_onlyWords node smb test s,
      (execPwrOkRise_answers node smb test s).stays _ hexec⟩
  case pwrOkFall =>
    intro s hw h
    have hexec := exec_pwrOkFall h
    have hvid := State.driveVid_touches s.powerLost 30
    have himg := (hvid.img_eq (by decide)).trans (powerLost_img s)
    exact ⟨_, hexec, congrArg Img.pwrOk himg, (congrArg Img.boot himg).trans rfl, (hvid.now_eq (by decide)).trans (powerLost_now s),
      (hvid.strands_eq (by decide)).trans (powerLost_strands s), (hvid.frames_eq (by decide)).trans (powerLost_frames s),
      driveVid_vid (powerLost_wf hw) (by decide), (execPwrOkFall_answers s).stays _ hexec⟩
  case otp =>
    intro otp s hw hb ht hc
    have hexec := exec_otpSensed otp hb ht hc
    exact ⟨_, hexec, sensed_noted s otp, bootPhase_boot _ _ _, sensed_phase hw otp, sensed_debugLock hw otp,
      sensed_ecRevoked hw otp, sensed_mlRevoked hw otp, (execOtpSensed_answers otp s).stays _ hexec⟩
  case trimA => exact fun b s hw ht hb => trimCheck_applied hw hb (.inl ht)
  case trimB => exact fun b s hw ht hb hnone => trimCheck_applied hw hb (.inr ⟨hnone, ht⟩)
  case noTrim =>
    intro s hw hb h₀ h₁
    have hexec := exec_trimCheck_none hb h₀ h₁
    exact ⟨_, hexec, bootFail_img s 0x0E, bootFail_phase hw 0x0E, bootFail_cause hw 0x0E, bootFail_pwr s 0x0E,
      (execTrimCheck_answers s).stays _ hexec⟩
  case headers =>
    intro s hw h
    have hexec := exec_imageHeadersRead h
    exact ⟨_, hexec, rfl, rfl, bootPhase_phase (bankChosen_wf hw) .stream 3, bankChosen_next hw,
      (execImageHeadersRead_answers s).stays _ hexec⟩

end Sys2Proof.Machine
end

section
/-!
SUPPORT. A moment of time (O50; R15, R572, Table 15-12).
-/
namespace Sys2Proof.Machine

/-- A moment writes no register but THM_THROTTLE_US. -/
theorem tick_onlyWords (s : State) : OnlyWords [Fld.THM_THROTTLE_US.off] s s.tick := by
  unfold State.tick
  split
  · extract_lets t
    have hmoment : OnlyWords [Fld.THM_THROTTLE_US.off] s t := onlyWords_congr _ rfl
    split
    · exact hmoment.trans (onlyWords_set t _ _ (List.mem_singleton_self _))
    · exact hmoment
  · exact onlyWords_congr _ rfl

/-- While VAON is present the tide counter advances by its stride. -/
theorem tick_now {s : State} (h : s.img.vaon = true) : s.tick.now = w64 (s.now + s.stride) := by
  unfold State.tick
  rw [if_pos h]
  extract_lets t
  have hmoment : t.now = w64 (s.now + s.stride) := rfl
  simp only [apply_ite State.now, State.count_now, hmoment, ite_self]

theorem tick_unpowered {s : State} (h : s.img.vaon = false) : s.tick = s := if_neg (Bool.eq_false_iff.mp h)

/-- Settles O50: on an empty queue a step is `State.tick`. -/
theorem emptyQueueIsTime : Obligations.EmptyQueueIsTime := by
  unfold Obligations.EmptyQueueIsTime
  intro s hempty
  have hstep : step s = .next s.tick := by rw [step, hempty]
  have htouch := State.tick_touches s
  exact ⟨s.tick, hstep, tick_now, tick_unpowered, htouch.pending.trans hempty, tick_onlyWords s, htouch⟩

end Sys2Proof.Machine
end

section
/-!
SUPPORT. What moves the tide counter (O57): a loss of VAON (R572), after which no Strand serves, and a write of TID_SET_CMD while none
serves (R575). A restart, of whatever cause, keeps it.
-/
namespace Sys2Proof.Machine

/-- A Strand is in SERVING or DRAINING. -/
def State.serves (s : State) : Prop := ∃ x ∈ s.strands, x.state = .serving ∨ x.state = .draining

/-- A next state in which a Strand serves has the tide counter of `s`. -/
def KeepsTime (s : State) (r : Res) : Prop := ∀ t, r = .next t → t.serves → t.now = s.now

theorem KeepsTime.next {s t : State} (h : t.now = s.now) : KeepsTime s (.next t) := fun _ e _ => by cases e; exact h

theorem Answers.keepsTime {ps : List Part} {s : State} {r : Res} (h : Answers ps s r) (hp : Part.now ∉ ps) : KeepsTime s r :=
  fun t e _ => (h.stays t e).now_eq hp

theorem Stays.keepsTime {ps : List Part} {s : State} {r : Res} (h : Stays ps s r) (hp : Part.now ∉ ps) : KeepsTime s r :=
  fun t e _ => (h t e).now_eq hp

/-! Restarts -/

theorem performReset_now (s : State) (r : FullReset) : (s.performReset r).now = s.now := by
  unfold State.performReset
  simp only [State.set_now]
  exact resume_now s r.bist

theorem resetGo_now (s : State) : s.resetGo.now = s.now := by
  unfold State.resetGo
  split
  · rfl
  next r _ =>
    extract_lets waits
    split
    · exact performReset_now s r
    · rfl

theorem recordReset_now (s : State) (r : FullReset) : (s.recordReset r).now = s.now := by
  have hrecord := (State.ledgerRecord_touches s 8 [byte r.cause, byte (b2n r.forced), byte (b2n r.bist)]).now_eq (by decide)
  unfold State.recordReset
  rw [resetGo_now]
  exact hrecord

theorem forceReset_now (s : State) (cause : Nat) (bist : Bool) : (s.forceReset cause bist).now = s.now := by
  have hpath : s.stopPath.now = s.now := rfl
  unfold State.forceReset
  cases s.rst <;> simp only [apply_ite State.now, recordReset_now, hpath, ite_self]

theorem resetGoWrite_now (s : State) (forced bist : Bool) : (s.resetGoWrite forced bist).now = s.now := by
  unfold State.resetGoWrite
  split
  · rfl
  · extract_lets u
    have hkey : u.now = s.now := rfl
    have hquiesce : (u.startQuiesce bist).now = u.now := (State.startQuiesce_touches u bist).now_eq (by decide)
    simp only [apply_ite State.now, forceReset_now, hquiesce, hkey, ite_self]

theorem recRestart_now (s : State) : s.recRestart.now = s.now := by
  unfold State.recRestart
  split
  · exact (resume_now s.settled false).trans ((settled_touches s).now_eq (by decide))
  · rfl

theorem nvmGo_now (s : State) : s.nvmGo.now = s.now := by
  unfold State.nvmGo
  rw [resetGo_now, (State.hkGo_touches _).now_eq (by decide), (State.progGo_touches _ _).now_eq (by decide),
    (State.progGo_touches _ _).now_eq (by decide), (State.ledgerGo_touches _).now_eq (by decide)]

/-! The commands that restart the device, or may -/

theorem execSectorEraseDone_now (bank : Fin 2) (s : State) : KeepsTime s (execSectorEraseDone bank s) := by
  refine .next ?_
  split
  · dsimp only
    split
    · exact nvmGo_now _
    · split
      · exact (nvmGo_now _).trans ((State.hkLedger_touches _ _).now_eq (by decide))
      · exact (nvmGo_now _).trans ((State.hkErase_touches _ _).now_eq (by decide))
      · exact nvmGo_now _
  · rfl

theorem execNvmPageProgramDone_now (bank : Fin 2) (failed : Bool) (s : State) : KeepsTime s (execNvmPageProgramDone bank failed s) := by
  refine .next ?_
  split
  · rw [nvmGo_now, (State.ledgerFinish_touches _).now_eq (by decide), (State.ledgerPageDone_touches _ _ _ _).now_eq (by decide)]
  · rw [nvmGo_now, (State.imagePageDone_touches _ _ _ _).now_eq (by decide), (State.pageBytes_touches _ _ _ _ _).now_eq (by decide)]
  · rw [nvmGo_now, State.set_now, State.set_now, (State.pageBytes_touches _ _ _ _ _).now_eq (by decide)]
  · rfl

theorem execQuiesceDrainDone_now (s : State) : KeepsTime s (execQuiesceDrainDone s) := by
  refine .next ?_
  split
  · split
    · exact recordReset_now _ _
    · rfl
  · rfl

theorem execCuratorWdt_now (s : State) : KeepsTime s (execCuratorWdt s) := by
  have hwedge : (s.wedge 0xFFFF 0x0703).now = s.now := (State.wedge_touches _ _ _).now_eq (by decide)
  refine .next ?_
  split
  · dsimp only
    split
    · exact (forceReset_now _ _ _).trans hwedge
    · exact hwedge
  · rfl

theorem execPwrOkFall_now (s : State) : KeepsTime s (exec .pwrOkFall s) := by
  cases h : s.img.pwrOk with
  | true => rw [exec_pwrOkFall h]; exact .next (((State.driveVid_touches _ _).now_eq (by decide)).trans (powerLost_now s))
  | false => exact .next (congrArg State.now (if_neg (Bool.eq_false_iff.mp h)))

/-! A loss of VAON -/

/-- After a reset every Strand is in OFF. -/
theorem not_serves_of_reset {t : State} (h : t.strands = State.reset.strands) : ¬t.serves := by
  rintro ⟨x, hx, hstate⟩
  have hoff : x.state = .off := congrArg Strand.state (List.eq_of_mem_replicate (h ▸ hx))
  simp [hoff] at hstate

theorem execVaonFall_keepsTime (s : State) : KeepsTime s (exec .vaonFall s) := by
  intro t ht hserves
  cases h : s.img.vaon with
  | false => cases (exec_vaonFall_off h).symm.trans ht; rfl
  | true => cases (exec_vaonFall h).symm.trans ht; exact absurd hserves (not_serves_of_reset rfl)

/-! Writes of registers -/

/-- R575: the counter is loaded only where no Strand serves. -/
theorem writeTideSet_now {s : State} (h : s.writeTideSet.serves) : s.writeTideSet.now = s.now := by
  unfold State.writeTideSet at h ⊢
  split
  · rfl
  next hnone =>
    rw [if_neg hnone] at h
    obtain ⟨x, hx, hstate⟩ := h
    exact absurd (List.any_eq_true.mpr ⟨x, hx, by simpa using hstate⟩) hnone

/-- The other writes that do more than set fields leave the counter. -/
theorem singleWrite_now {s t : State} {off v : Nat} (h : s.singleWrite off v = some t) (hoff : off ≠ Fld.TID_SET_CMD.off) :
    t.now = s.now := by
  unfold State.singleWrite at h
  rw [if_neg hoff] at h
  dsimp only at h
  split at h
  · cases h
    exact (State.writeSlew_touches _ _).now_eq (by decide)
  split at h
  · have hinstall : (if bit v 0 && s.saExists then s.saInstall else s).now = s.now :=
      (Touches.ite (State.saInstall_touches s) (Touches.refl _ s)).now_eq (by decide)
    cases h
    exact ((Touches.ite (State.saDisable_touches _) (Touches.refl _ _)).now_eq (by decide)).trans hinstall
  split at h
  · cases h
    rfl
  split at h
  · cases h
    split
    · exact resetGoWrite_now _ _ _
    · rfl
  split at h
  · cases h
    exact (Touches.ite (State.ledgerFetch_touches s) (Touches.refl _ s)).now_eq (by decide)
  · cases h

/-- A write of TID_SET_CMD loads the counter where bit 0 is set. -/
theorem singleWrite_tideSet (s : State) (v : Nat) :
    s.singleWrite Fld.TID_SET_CMD.off v = some (if bit v 0 then s.writeTideSet else s) := rfl

theorem singleWrite_keepsTime {s t : State} {off v : Nat} (h : s.singleWrite off v = some t) (hserves : t.serves) : t.now = s.now := by
  by_cases hoff : off = Fld.TID_SET_CMD.off
  · subst hoff
    cases (singleWrite_tideSet s v).symm.trans h
    split at hserves
    next hbit => rw [if_pos hbit]; exact writeTideSet_now hserves
    next hbit => rw [if_neg hbit]
  · exact singleWrite_now h hoff

theorem recCmd_now {s t : State} {v : Nat} (h : s.recCmd v = .next t) : t.now = s.now := by
  have hprogram : Stays [.reg, .ops] s (if bit v 0 then s.recProgram else .next s) :=
    Stays.ite (State.recProgram_stays s) (Stays.next (Touches.refl _ s))
  have herase := Stays.ite (c := bit v 1 = true) (hprogram.andThen State.recErase_stays) hprogram
  unfold State.recCmd at h
  dsimp only at h
  split at h
  · generalize hr : (if bit v 1 = true then andThen _ State.recErase else _) = r at h herase
    cases r with
    | next u => cases h; exact (recRestart_now u).trans ((herase u rfl).now_eq (by decide))
    | fault | refused => cases h
  · exact (herase t h).now_eq (by decide)

theorem arrayWrite_now {s t : State} {off v : Nat} (h : s.arrayWrite off v = some t) : t.now = s.now :=
  (State.arrayWrite_touches s off v t h).now_eq (by decide)

/-- A write on the bus moves the counter at TID_SET_CMD only, and there only where no Strand serves. -/
theorem busWrite_now {s t : State} {p : Path} {off v : Nat} (h : s.busWrite p off v = .next t)
    (hset : off = Fld.TID_SET_CMD.off → t.serves) : t.now = s.now := by
  unfold State.busWrite at h
  split at h
  · split at h
    · cases h; rfl
    split at h
    · cases h; exact (State.lockViolation_touches _ _ _ _).now_eq (by decide)
    split at h
    · exact recCmd_now h
    · cases harray : s.arrayWrite off v with
      | some u =>
        rw [harray] at h
        cases h
        exact arrayWrite_now harray
      | none =>
        rw [harray] at h
        cases hsingle : s.singleWrite off v with
        | some u =>
          rw [hsingle] at h
          cases h
          by_cases hoff : off = Fld.TID_SET_CMD.off
          · exact singleWrite_keepsTime hsingle (hset hoff)
          · exact singleWrite_now hsingle hoff
        | none => rw [hsingle] at h; cases h; rfl
  · cases h; rfl

theorem busWrite_keepsTime (s : State) (p : Path) (off v : Nat) : KeepsTime s (s.busWrite p off v) :=
  fun _ h hserves => busWrite_now h (fun _ => hserves)

/-- R655: a write of 8 bytes reaches the MSI-X table and its PBA only, so neither half loads the counter. -/
theorem wideWrite_now {s t : State} {off v w : Nat} (hoff : 0x3F00000 ≤ off)
    (h : (match s.busWrite .pcie off v with
      | .next s => s.busWrite .pcie (off + 4) w
      | x => x) = .next t) : t.now = s.now := by
  cases hlow : s.busWrite .pcie off v with
  | next u =>
    rw [hlow] at h
    have hfirst : u.now = s.now := busWrite_now hlow (fun e => by simp only [Fld.TID_SET_CMD] at e; omega)
    have hsecond : t.now = u.now := busWrite_now h (fun e => by simp only [Fld.TID_SET_CMD] at e; omega)
    exact hsecond.trans hfirst
  | fault | refused => rw [hlow] at h; cases h

theorem pcieWrite_keepsTime (s : State) (b : Bar) (off size : Nat) (poisoned : Bool) (v : Nat) :
    KeepsTime s (s.pcieWrite b off size poisoned v) := by
  unfold State.pcieWrite
  split
  · exact .next rfl
  split
  · exact .next rfl
  split
  · exact .next ((State.sendVector_touches _ _).now_eq (by decide))
  split
  · exact .next rfl
  next haccess =>
    cases b with
    | bar0 =>
      dsimp only
      split
      next hsize =>
        subst hsize
        exact fun t h _ => wideWrite_now (msix_of_wide_write (by simpa using haccess)) h
      next => exact busWrite_keepsTime s .pcie off _
    | bar2 =>
      refine .next ?_
      split
      · exact (State.doorbell_touches _ _ _).now_eq (by decide)
      · rfl
    | bar4 => exact .next ((State.winWrite_touches _ _ _).now_eq (by decide))

theorem pathWrite_keepsTime (s : State) (p : Path) (off v : Nat) : KeepsTime s (s.pathWrite p off v) := by
  cases p with
  | pcie => exact pcieWrite_keepsTime s .bar0 off 4 false v
  | jtag => exact busWrite_keepsTime s .jtag off v

/-- R622, R623: what the TAP notes of an access is neither the counter nor a Strand. -/
theorem execRegAccess_keepsTime (write : Bool) (off : BitVec 26) (data : Word) (s : State) : KeepsTime s (execRegAccess write off data s) := by
  unfold execRegAccess
  split
  · extract_lets o s₁ keep
    split
    · refine .next ?_
      split <;> rfl
    · split
      · intro t h hserves
        dsimp only at h
        split at h
        next u hu =>
          cases h
          exact busWrite_keepsTime s₁ .jtag o data.toNat u hu hserves
        next hne => exact absurd h (hne t)
      · exact .next ((State.busRead_touches s₁ .jtag o).now_eq (by decide))
  · exact .next rfl

/-! Every command -/

/-- With VAON present no command moves the counter under a Strand that serves: most leave it by the law of their meaning. -/
theorem exec_keepsTime (c : Instr) (s : State) (hv : s.img.vaon = true) : KeepsTime s (exec c s) := by
  cases c with
  | frameRx => exact (execFrameRx_answers ..).keepsTime (by decide)
  | intakeParseDone => exact (execIntakeParseDone_answers ..).keepsTime (by decide)
  | streamIdleTimeout => exact (execStreamIdleTimeout_answers ..).keepsTime (by decide)
  | wheelSlot => exact (execWheelSlot_answers ..).keepsTime (by decide)
  | catalogueUnitDone => exact (execCatalogueUnitDone_answers ..).keepsTime (by decide)
  | vitrineSearchResult => exact (execVitrineSearchResult_answers ..).keepsTime (by decide)
  | vitrineUpdateSlot => exact (execVitrineUpdateSlot_answers ..).keepsTime (by decide)
  | learnCommit => exact (execLearnCommit_answers ..).keepsTime (by decide)
  | agingSweep => exact (execAgingSweep_answers ..).keepsTime (by decide)
  | agingRemoval => exact (execAgingRemoval_answers ..).keepsTime (by decide)
  | scrubRead => exact (execScrubRead_answers ..).keepsTime (by decide)
  | tableBatchCommit => exact (execTableBatchCommit_answers ..).keepsTime (by decide)
  | stackSearchIssue => exact (execStackSearchIssue_answers ..).keepsTime (by decide)
  | searchRecordRx => exact (execSearchRecordRx_answers ..).keepsTime (by decide)
  | reqRecordRx => exact (execReqRecordRx_answers ..).keepsTime (by decide)
  | resultRecordRx => exact (execResultRecordRx_answers ..).keepsTime (by decide)
  | linkRecordRx => exact (execLinkRecordRx_answers ..).keepsTime (by decide)
  | reqTimeout => exact (execReqTimeout_answers ..).keepsTime (by decide)
  | matchWordRx => exact (execMatchWordRx_answers ..).keepsTime (by decide)
  | cascadeTimeout => exact (execCascadeTimeout_answers ..).keepsTime (by decide)
  | matchTrainingWord => exact (execMatchTrainingWord_answers ..).keepsTime (by decide)
  | gatherWalkStart => exact (execGatherWalkStart_answers ..).keepsTime (by decide)
  | gatherReadGrant => exact (execGatherReadGrant_answers ..).keepsTime (by decide)
  | gatherReadReturn => exact (execGatherReadReturn_answers ..).keepsTime (by decide)
  | gatherReadTimeout => exact (execGatherReadTimeout_answers ..).keepsTime (by decide)
  | creditBoundary => exact (execCreditBoundary_answers ..).keepsTime (by decide)
  | creditDeadline => exact (execCreditDeadline_answers ..).keepsTime (by decide)
  | arborUnitDone => exact (execArborUnitDone_answers ..).keepsTime (by decide)
  | galleryProgramDone => exact (execGalleryProgramDone_answers ..).keepsTime (by decide)
  | modelStart => exact (execModelStart_answers ..).keepsTime (by decide)
  | verdictCommit => exact (execVerdictCommit_answers ..).keepsTime (by decide)
  | frameDeadline => exact (execFrameDeadline_answers ..).keepsTime (by decide)
  | releaseLead => exact (execReleaseLead_answers ..).keepsTime (by decide)
  | frameRelease => exact (execFrameRelease_answers ..).keepsTime (by decide)
  | tapCopyTx => exact (execTapCopyTx_answers ..).keepsTime (by decide)
  | sealTimer => exact (execSealTimer_answers ..).keepsTime (by decide)
  | accessionDrain => exact (execAccessionDrain_answers ..).keepsTime (by decide)
  | strandSectionLoad => exact (execStrandSectionLoad_answers ..).keepsTime (by decide)
  | strandEnterServing => exact (execStrandEnterServing_answers ..).keepsTime (by decide)
  | strandDrainEnd => exact (execStrandDrainEnd_answers ..).keepsTime (by decide)
  | drainStuck => exact (execDrainStuck_answers ..).keepsTime (by decide)
  | staleGraceExpiry => exact (execStaleGraceExpiry_answers ..).keepsTime (by decide)
  | guardRequestAdmit => exact (execGuardRequestAdmit_answers ..).keepsTime (by decide)
  | coveStepStart => exact (execCoveStepStart_answers ..).keepsTime (by decide)
  | coveStepCommit => exact (execCoveStepCommit_answers ..).keepsTime (by decide)
  | guardOutputPost => exact (execGuardOutputPost_answers ..).keepsTime (by decide)
  | batchRecordPost => exact (execBatchRecordPost_answers ..).keepsTime (by decide)
  | requestFree => exact (execRequestFree_answers ..).keepsTime (by decide)
  | guardDeadlineCheck => exact (execGuardDeadlineCheck_answers ..).keepsTime (by decide)
  | coveWedgeTimeout => exact (execCoveWedgeTimeout_answers ..).keepsTime (by decide)
  | archiveMoveStart => exact (execArchiveMoveStart_answers ..).keepsTime (by decide)
  | archiveWriteDone => exact (execArchiveWriteDone_answers ..).keepsTime (by decide)
  | archiveExpire => exact (execArchiveExpire_answers ..).keepsTime (by decide)
  | archiveReadDone => exact (execArchiveReadDone_answers ..).keepsTime (by decide)
  | archivePeerTimeout => exact (execArchivePeerTimeout_answers ..).keepsTime (by decide)
  | nop => exact (execNop_answers ..).keepsTime (by decide)
  | clLoad => exact (execClLoad_answers ..).keepsTime (by decide)
  | loadStagingReady => exact (execLoadStagingReady_answers ..).keepsTime (by decide)
  | loadDigestDone => exact (execLoadDigestDone_answers ..).keepsTime (by decide)
  | loadCommit => exact (execLoadCommit_answers ..).keepsTime (by decide)
  | graphLoadStart => exact (execGraphLoadStart_answers ..).keepsTime (by decide)
  | graphLoadCommit => exact (execGraphLoadCommit_answers ..).keepsTime (by decide)
  | gsCancel => exact (execGsCancel_answers ..).keepsTime (by decide)
  | gsQuery => exact (execGsQuery_answers ..).keepsTime (by decide)
  | gsPrefixFlush => exact (execGsPrefixFlush_answers ..).keepsTime (by decide)
  | vrdReplay => exact (execVrdReplay_answers ..).keepsTime (by decide)
  | replayDone => exact (execReplayDone_answers ..).keepsTime (by decide)
  | badOpcode => exact (execBadOpcode_answers ..).keepsTime (by decide)
  | imgSwap => exact (execImgSwap_answers ..).keepsTime (by decide)
  | imgRoll => exact (execImgRoll_answers ..).keepsTime (by decide)
  | rollVerifyDone => exact (execRollVerifyDone_answers ..).keepsTime (by decide)
  | rollStrandStep => exact (execRollStrandStep_answers ..).keepsTime (by decide)
  | rollWaitExpiry => exact (execRollWaitExpiry_answers ..).keepsTime (by decide)
  | strandLoadTimeout => exact (execStrandLoadTimeout_answers ..).keepsTime (by decide)
  | imgAbort => exact (execImgAbort_answers ..).keepsTime (by decide)
  | imgPrepare => exact (execImgPrepare_answers ..).keepsTime (by decide)
  | imgProgram => exact (execImgProgram_answers ..).keepsTime (by decide)
  | imgVerify => exact (execImgVerify_answers ..).keepsTime (by decide)
  | imgSelect => exact (execImgSelect_answers ..).keepsTime (by decide)
  | sqTailDoorbell => exact (execSqTailDoorbell_answers ..).keepsTime (by decide)
  | sqFetchFail => exact (execSqFetchFail_answers ..).keepsTime (by decide)
  | cqHeadDoorbell => exact (execCqHeadDoorbell_answers ..).keepsTime (by decide)
  | rrHeadDoorbell => exact (execRrHeadDoorbell_answers ..).keepsTime (by decide)
  | eventHeadDoorbell => exact (execEventHeadDoorbell_answers ..).keepsTime (by decide)
  | accessionHeadDoorbell => exact (execAccessionHeadDoorbell_answers ..).keepsTime (by decide)
  | irqTimer => exact (execIrqTimer_answers ..).keepsTime (by decide)
  | windowStatusRead => exact (execWindowStatusRead_answers ..).keepsTime (by decide)
  | windowAck => exact pcieWrite_keepsTime _ _ _ _ _ _
  | pcieReset => exact (execPcieReset_answers ..).keepsTime (by decide)
  | d3hotEntry => exact (execD3hotEntry_answers ..).keepsTime (by decide)
  | unitStateRead => exact (execUnitStateRead_answers ..).keepsTime (by decide)
  | setEndpointId => exact (execSetEndpointId_answers ..).keepsTime (by decide)
  | getEndpointId => exact (execGetEndpointId_answers ..).keepsTime (by decide)
  | getEndpointUuid => exact (execGetEndpointUuid_answers ..).keepsTime (by decide)
  | getMctpVersionSupport => exact (execGetMctpVersionSupport_answers ..).keepsTime (by decide)
  | getMessageTypeSupport => exact (execGetMessageTypeSupport_answers ..).keepsTime (by decide)
  | getTid => exact (execGetTid_answers ..).keepsTime (by decide)
  | setTid => exact (execSetTid_answers ..).keepsTime (by decide)
  | getPldmVersion => exact (execGetPldmVersion_answers ..).keepsTime (by decide)
  | getPldmTypes => exact (execGetPldmTypes_answers ..).keepsTime (by decide)
  | getPldmCommands => exact (execGetPldmCommands_answers ..).keepsTime (by decide)
  | getPdrRepositoryInfo => exact (execGetPdrRepositoryInfo_answers ..).keepsTime (by decide)
  | getPdr => exact (execGetPdr_answers ..).keepsTime (by decide)
  | getSensorReading => exact (execGetSensorReading_answers ..).keepsTime (by decide)
  | getStateSensorReadings => exact (execGetStateSensorReadings_answers ..).keepsTime (by decide)
  | setEventReceiver => exact (execSetEventReceiver_answers ..).keepsTime (by decide)
  | getCertificate => exact (execGetCertificate_answers ..).keepsTime (by decide)
  | challenge => exact (execChallenge_answers ..).keepsTime (by decide)
  | getMeasurements => exact (execGetMeasurements_answers ..).keepsTime (by decide)
  | getCsr => exact (execGetCsr_answers ..).keepsTime (by decide)
  | keyExchange => exact (execKeyExchange_answers ..).keepsTime (by decide)
  | pwrOkRise => exact (execPwrOkRise_answers ..).keepsTime (by decide)
  | otpSensed => exact (execOtpSensed_answers ..).keepsTime (by decide)
  | trimCheck => exact (execTrimCheck_answers ..).keepsTime (by decide)
  | imageHeadersRead => exact (execImageHeadersRead_answers ..).keepsTime (by decide)
  | imageStreamDone => exact (execImageStreamDone_answers ..).keepsTime (by decide)
  | signatureCheckDone => exact (execSignatureCheckDone_answers ..).keepsTime (by decide)
  | globalApply => exact (execGlobalApply_answers ..).keepsTime (by decide)
  | hbmTrainingDone => exact (execHbmTrainingDone_answers ..).keepsTime (by decide)
  | ddrTrainingDone => exact (execDdrTrainingDone_answers ..).keepsTime (by decide)
  | pciePerstDeassert => exact (execPciePerstDeassert_answers ..).keepsTime (by decide)
  | sectorEraseDone => exact execSectorEraseDone_now _ _
  | nvmPageProgramDone => exact execNvmPageProgramDone_now _ _ _
  | nvmReadTimeout => exact (execNvmReadTimeout_answers ..).keepsTime (by decide)
  | recProgramPage => exact (execRecProgramPage_stays _).keepsTime (by decide)
  | recEraseSector => exact (execRecEraseSector_stays _).keepsTime (by decide)
  | recRestart => exact .next (recRestart_now s)
  | pwrOkFall => exact execPwrOkFall_now s
  | sysReset => exact .next (forceReset_now ..)
  | fullResetGo => exact .next (resetGoWrite_now ..)
  | quiesceFramesDone => exact (execQuiesceFramesDone_answers ..).keepsTime (by decide)
  | quiesceGuardDone => exact (execQuiesceGuardDone_answers ..).keepsTime (by decide)
  | quiesceDrainDone => exact execQuiesceDrainDone_now s
  | curatorWdt => exact execCuratorWdt_now s
  | thermalConversion => exact (execThermalConversion_answers ..).keepsTime (by decide)
  | clockLoss => exact (execClockLoss_answers ..).keepsTime (by decide)
  | throttleStep => exact (execThrottleStep_answers ..).keepsTime (by decide)
  | powerEstimate => exact (execPowerEstimate_answers ..).keepsTime (by decide)
  | clockRaise => exact (execClockRaise_answers ..).keepsTime (by decide)
  | vddLow => exact (execVddLow_answers ..).keepsTime (by decide)
  | sensorCheckStart => exact (execSensorCheckStart_answers ..).keepsTime (by decide)
  | sensorCheckDone => exact (execSensorCheckDone_answers ..).keepsTime (by decide)
  | laneWindowDone => exact (execLaneWindowDone_answers ..).keepsTime (by decide)
  | laneWindowStarved => exact (execLaneWindowStarved_answers ..).keepsTime (by decide)
  | idleBank => exact (execIdleBank_answers ..).keepsTime (by decide)
  | idlePark => exact (execIdlePark_answers ..).keepsTime (by decide)
  | unitWakeStart => exact (execUnitWakeStart_answers ..).keepsTime (by decide)
  | unitWakeDone => exact (execUnitWakeDone_answers ..).keepsTime (by decide)
  | ppsEdge => exact (execPpsEdge_answers ..).keepsTime (by decide)
  | ppsLost => exact (execPpsLost_answers ..).keepsTime (by decide)
  | slewDone => exact (execSlewDone_answers ..).keepsTime (by decide)
  | ethLinkChange => exact (execEthLinkChange_answers ..).keepsTime (by decide)
  | graphTargetWrite => exact (execGraphTargetWrite_answers ..).keepsTime (by decide)
  | dataFlitRx => exact (execDataFlitRx_answers ..).keepsTime (by decide)
  | nakFlitRx => exact (execNakFlitRx_answers ..).keepsTime (by decide)
  | idleFlitRx => exact (execIdleFlitRx_answers ..).keepsTime (by decide)
  | badFlitRx => exact (execBadFlitRx_answers ..).keepsTime (by decide)
  | trainFlitRx => exact (execTrainFlitRx_answers ..).keepsTime (by decide)
  | flitSlot => exact (execFlitSlot_answers ..).keepsTime (by decide)
  | replayTimeout => exact (execReplayTimeout_answers ..).keepsTime (by decide)
  | bringupStageDone => exact (execBringupStageDone_answers ..).keepsTime (by decide)
  | bringupTimeout => exact (execBringupTimeout_answers ..).keepsTime (by decide)
  | portRetryHold => exact (execPortRetryHold_answers ..).keepsTime (by decide)
  | portRetrain => exact (execPortRetrain_answers ..).keepsTime (by decide)
  | replRoundStart => exact (execReplRoundStart_answers ..).keepsTime (by decide)
  | replBegin => exact (execReplBegin_answers ..).keepsTime (by decide)
  | replData => exact (execReplData_answers ..).keepsTime (by decide)
  | replEnd => exact (execReplEnd_answers ..).keepsTime (by decide)
  | replFragmentWait => exact (execReplFragmentWait_answers ..).keepsTime (by decide)
  | replAck => exact (execReplAck_answers ..).keepsTime (by decide)
  | replWaitExpiry => exact (execReplWaitExpiry_answers ..).keepsTime (by decide)
  | replPull => exact (execReplPull_answers ..).keepsTime (by decide)
  | replPullTimer => exact (execReplPullTimer_answers ..).keepsTime (by decide)
  | replFullNeeded => exact (execReplFullNeeded_answers ..).keepsTime (by decide)
  | target => exact (execTarget_answers ..).keepsTime (by decide)
  | catalogTimer => exact (execCatalogTimer_answers ..).keepsTime (by decide)
  | archPut => exact (execArchPut_answers ..).keepsTime (by decide)
  | archGet => exact (execArchGet_answers ..).keepsTime (by decide)
  | archData => exact (execArchData_answers ..).keepsTime (by decide)
  | archStatus => exact (execArchStatus_answers ..).keepsTime (by decide)
  | ack => exact (execAck_answers ..).keepsTime (by decide)
  | echo => exact (execEcho_answers ..).keepsTime (by decide)
  | cwSetup => exact (execCwSetup_answers ..).keepsTime (by decide)
  | cwConfirm => exact (execCwConfirm_answers ..).keepsTime (by decide)
  | cwDown => exact (execCwDown_answers ..).keepsTime (by decide)
  | cwSetupRetry => exact (execCwSetupRetry_answers ..).keepsTime (by decide)
  | e2eResendTimeout => exact (execE2eResendTimeout_answers ..).keepsTime (by decide)
  | escapeTimeout => exact (execEscapeTimeout_answers ..).keepsTime (by decide)
  | flowIdle => exact (execFlowIdle_answers ..).keepsTime (by decide)
  | rateIncrease => exact (execRateIncrease_answers ..).keepsTime (by decide)
  | unitTimeout => exact (execUnitTimeout_answers ..).keepsTime (by decide)
  | idcode => exact (execIdcode_answers ..).keepsTime (by decide)
  | samplePreload => exact (execSamplePreload_answers ..).keepsTime (by decide)
  | extest => exact (execExtest_answers ..).keepsTime (by decide)
  | clamp => exact (execClamp_answers ..).keepsTime (by decide)
  | highz => exact (execHighz_answers ..).keepsTime (by decide)
  | extestPulse => exact (execExtestPulse_answers ..).keepsTime (by decide)
  | extestTrain => exact (execExtestTrain_answers ..).keepsTime (by decide)
  | regAccess => exact execRegAccess_keepsTime _ _ _ _
  | bypass => exact (execBypass_answers ..).keepsTime (by decide)
  | testLogicReset => exact (execTestLogicReset_answers ..).keepsTime (by decide)
  | lowWordRead => exact (execLowWordRead_answers ..).keepsTime (by decide)
  | counterReadClear => exact (execCounterReadClear_answers ..).keepsTime (by decide)
  | registerWrite => exact pcieWrite_keepsTime _ _ _ _ _ _
  | vaonRise => exact exec_vaonRise_on hv ▸ .next rfl
  | vaonFall => exact execVaonFall_keepsTime s
  | vioRise => exact (execVioRise_answers ..).keepsTime (by decide)
  | tidePllLock => exact (execTidePllLock_answers ..).keepsTime (by decide)
  | bankVerifyDone => exact (execBankVerifyDone_answers ..).keepsTime (by decide)
  | pcieLinkUp => exact (execPcieLinkUp_answers ..).keepsTime (by decide)
  | configSpaceReady => exact (execConfigSpaceReady_answers ..).keepsTime (by decide)
  | checkerLock => exact (execCheckerLock_answers ..).keepsTime (by decide)
  | checkerLockLoss => exact (execCheckerLockLoss_answers ..).keepsTime (by decide)
  | getVersion => exact (execGetVersion_answers ..).keepsTime (by decide)
  | getCapabilities => exact (execGetCapabilities_answers ..).keepsTime (by decide)
  | negotiateAlgorithms => exact (execNegotiateAlgorithms_answers ..).keepsTime (by decide)
  | getDigests => exact (execGetDigests_answers ..).keepsTime (by decide)
  | finish => exact (execFinish_answers ..).keepsTime (by decide)
  | heartbeat => exact (execHeartbeat_answers ..).keepsTime (by decide)
  | keyUpdate => exact (execKeyUpdate_answers ..).keepsTime (by decide)
  | endSession => exact (execEndSession_answers ..).keepsTime (by decide)
  | chunkSend => exact (execChunkSend_answers ..).keepsTime (by decide)
  | chunkGet => exact (execChunkGet_answers ..).keepsTime (by decide)
  | doeDiscovery => exact (execDoeDiscovery_answers ..).keepsTime (by decide)
  | ideKmQuery => exact (execIdeKmQuery_answers ..).keepsTime (by decide)
  | ideKmKeyProg => exact (execIdeKmKeyProg_answers ..).keepsTime (by decide)
  | ideKmKSetGo => exact (execIdeKmKSetGo_answers ..).keepsTime (by decide)
  | ideKmKSetStop => exact (execIdeKmKSetStop_answers ..).keepsTime (by decide)
  | mctpUnsupportedCmd => exact (execMctpUnsupportedCmd_answers ..).keepsTime (by decide)
  | tidRateWrite | tidSlewWrite | tidSetCmd | saInstall | saDisable | ledgerFetch | laneTestControl | errorInject | ringEnable =>
    exact pathWrite_keepsTime _ _ _ _

/-- Settles O57: what a command that answers leaves of the counter is `exec_keepsTime`. -/
theorem noJumpWhileServing : Obligations.NoJumpWhileServing := by
  unfold Obligations.NoJumpWhileServing
  exact fun c s t hv h hserves => exec_keepsTime c s hv t h hserves

end Sys2Proof.Machine
end

section
/-!
SUPPORT. A unit that is listed twice (O8).
-/
namespace Sys2Proof.Machine

/-- A device in service that lists the Verdict combiner twice, Banked at tick 1; the tide counter has wrapped to 0 since (R15). -/
def doubledUnit : State :=
  { State.reset with
    img := { Img.reset with boot := .ready }
    pwr := { Power.reset with units := List.replicate 2 (136, ⟨.banked, 1, none⟩) } }

/-- The invariant says nothing of the table of units. -/
theorem doubledUnit_inv : doubledUnit.Inv where
  regs := rfl
  strands := List.length_replicate
  banks := rfl
  cells := invariantAtReset.cells

/-- Parked since tick 0 is how a unit that is not listed reads, so its first entry leaves the table, and the second shows. -/
theorem doubledUnit_parked : ∃ t, exec (.idlePark 136) doubledUnit = .next t ∧ (t.punit 136).state = .banked := by
  refine ⟨_, rfl, ?_⟩
  decide +kernel

/-- Refutes O8: its clause of IDLE_PARK speaks of every state, and in one that lists a unit twice (a state that meets `State.Inv`, by
`doubledUnit_inv`) the unit is still Banked after the command. -/
theorem not_unitPower : ¬ Obligations.UnitPower := by
  unfold Obligations.UnitPower
  rintro ⟨-, -, -, hpark, -⟩
  obtain ⟨t, hexec, hparked, -⟩ :=
    hpark 136 doubledUnit (by decide +kernel) (by decide) (by decide) (by decide +kernel) (by decide +kernel) (by decide +kernel)
  obtain ⟨u, hu, hbanked⟩ := doubledUnit_parked
  obtain rfl : u = t := Host.Outcome.next.inj (hu.symm.trans hexec)
  exact absurd (hbanked.symm.trans (congrArg PowerUnit.state hparked)) (by decide)

end Sys2Proof.Machine
end

section
/-!
SUPPORT. A table that is listed twice (O34).
-/
namespace Sys2Proof.Machine

/-- A load of table 0, version 0, from an entry of submission ring 0. -/
def tableLoad : Load :=
  ⟨0, .command ⟨0, ⟨0, false, 0, 6⟩, 0x10, 0, 0⟩, .table, 0, 0, 0, zeros 48, .checked, 0, [], 0, 0, true⟩

/-- A device with that load that lists table 0 twice, each time with the load's batch, whose operations are all applied. -/
def doubledTable : State :=
  { State.reset with
    vit := ⟨[], List.replicate 2 (0, { VTable.reset with batch := some (0, 0) })⟩
    host := { HostIf.reset with loads := [tableLoad], nextLoad := 1 } }

/-- The invariant says nothing of the tables. -/
theorem doubledTable_inv : doubledTable.Inv where
  regs := rfl
  strands := List.length_replicate
  banks := rfl
  cells := invariantAtReset.cells

/-- With version 0 and no batch the table is as after reset, so its first entry leaves the list, and the second shows. -/
theorem doubledTable_committed : ∃ t, exec (.tableBatchCommit 0) doubledTable = .next t ∧ (t.vtable 0).batch ≠ none := by
  refine ⟨_, rfl, ?_⟩
  decide +kernel

/-- Refutes O34: its clause of TABLE_BATCH_COMMIT speaks of every state, and in one that lists a table twice (a state that meets
`State.Inv`, by `doubledTable_inv`) the table still has a batch after its batch is committed. -/
theorem not_vitrineWork : ¬ Obligations.VitrineWork := by
  unfold Obligations.VitrineWork
  rintro ⟨-, -, -, -, -, -, -, -, -, -, -, -, -, hcommit, -⟩
  obtain ⟨t, hexec, -, hnone, -⟩ := hcommit 0 0 0 tableLoad doubledTable rfl rfl rfl (by decide +kernel) rfl
  obtain ⟨u, hu, hsome⟩ := doubledTable_committed
  obtain rfl : u = t := Host.Outcome.next.inj (hu.symm.trans hexec)
  exact hsome hnone

end Sys2Proof.Machine
end

section
/-!
SUPPORT. A class word that stands twice in the register file (O29).
-/
namespace Sys2Proof.Machine

/-- A screened frame of a class past the eight there are, so that its LATE_CNT is a word with a reset value other than 0 (10752, offset 0x50118). -/
def outOfClass : Frame := { newFrame 0 .n (zeros 60) 64 [] with strand := some 3, phase := .inside, cls := 4096, tDl := 5, tRel := 300 }

/-- A device with that frame past T_dl, its combine granted at tick 0, and the word of LATE_CNT twice in the register file: one less than its reset
value, and 7. -/
def doubledLate : State :=
  { State.reset with
    img := { Img.reset with boot := .ready }
    now := 100
    frames := [outOfClass]
    reg := [(0x50118, 10751), (0x50118, 7)]
    grants := [⟨.verdict, 0, 3, 0, .combine, 0⟩] }

/-- The value of a register field after a command that ends in a next state. -/
def valueAfter (c : Instr) (s : State) (w : Fld) : Option Nat :=
  match exec c s with
  | .next t => some (t.get w)
  | _ => none

theorem valueAfter_of_next {c : Instr} {s t : State} (w : Fld) (h : exec c s = .next t) : valueAfter c s w = some (t.get w) := by
  simp only [valueAfter, h]

/-- The count is the word's reset value, so its first entry leaves the register file, and the second shows. -/
theorem doubledLate_counted : valueAfter (.verdictCommit 0 .ok false) doubledLate (Fld.TID_CLASS_LATE_CNT 4096) = some 7 := by
  decide +kernel

/-- Refutes O29: its clause of the late verdict speaks of every state, and in one whose register file holds the word of the counter twice
(which `regFileWf` excludes) LATE_CNT reads 7 where the clause asks for 10752. -/
theorem not_verdictsAndDeadlines : ¬ Obligations.VerdictsAndDeadlines := by
  unfold Obligations.VerdictsAndDeadlines
  rintro ⟨hlate, -⟩
  obtain ⟨t, hexec, -, hcnt, -⟩ := hlate 0 outOfClass ⟨.verdict, 0, 3, 0, .combine, 0⟩ doubledLate (by decide +kernel) (by decide +kernel)
    (by decide +kernel) (by decide +kernel) (by decide +kernel) (by decide +kernel) (by decide +kernel)
  have hseven : t.get (Fld.TID_CLASS_LATE_CNT 4096) = 7 :=
    Option.some.inj ((valueAfter_of_next _ hexec).symm.trans doubledLate_counted)
  exact absurd (hseven.symm.trans hcnt) (by decide +kernel)

end Sys2Proof.Machine
end

section
/-!
SUPPORT. What rolls, swaps and the ends of loads leave of a Strand (O23; Table 1-3, R461, R465 to R469).
-/
namespace Sys2Proof.Machine

/-! One Strand changed -/

theorem strand_congr {s t : State} (h : t.strands = s.strands) (i : Nat) : t.strand i = s.strand i := by
  simp only [State.strand, h]

theorem Touches.strand_eq {ps : List Part} {s t : State} (h : Touches ps s t) (hp : Part.strands ∉ ps) (i : Nat) : t.strand i = s.strand i :=
  strand_congr (h.strands_eq hp) i

theorem strand_modStrand_same {s : State} {i : Nat} (f : Strand → Strand) (h : i < s.strands.length) :
    (s.modStrand i f).strand i = f (s.strand i) := by
  simp only [State.strand, State.modStrand_strands, List.getD_eq_getElem?_getD, getElem?_modifyAt_same, List.getElem?_eq_getElem h,
    Option.map_some, Option.getD_some]

theorem strand_modStrand_ne (s : State) {i j : Nat} (f : Strand → Strand) (h : j ≠ i) : (s.modStrand i f).strand j = s.strand j := by
  simp only [State.strand, State.modStrand_strands, List.getD_eq_getElem?_getD, getElem?_modifyAt_ne f h]

theorem length_modStrand (s : State) (i : Nat) (f : Strand → Strand) : (s.modStrand i f).strands.length = s.strands.length :=
  length_modifyAt _ _ _

/-- A change of the Strands that keeps what `g` shows of each keeps it of every one. -/
theorem strand_modStrand_of_kept {α : Type} {g : Strand → α} {f : Strand → Strand} (hf : ∀ x, g (f x) = g x) (s : State) (i j : Nat) :
    g ((s.modStrand i f).strand j) = g (s.strand j) := by
  by_cases hj : j = i
  · subst hj
    by_cases hlen : j < s.strands.length
    · rw [strand_modStrand_same f hlen, hf]
    · simp only [State.strand, State.modStrand_strands, List.getD_eq_getElem?_getD, getElem?_modifyAt_same,
        List.getElem?_eq_none (Nat.le_of_not_lt hlen), Option.map_none]
  · rw [strand_modStrand_ne s f hj]

/-! What a roll leaves -/

/-- A Strand without what the steps of a roll may change of it: the bank it loads from, and whether the force bank has a section for it. -/
def runOf (x : Strand) : Strand := { x with bank := 0, hasSection := false }

/-- Every Strand stands as it was but for what a roll may change. -/
def SameRun (s t : State) : Prop := ∀ i, runOf (t.strand i) = runOf (s.strand i)

theorem SameRun.refl (s : State) : SameRun s s := fun _ => rfl

theorem SameRun.ite {c : Prop} [Decidable c] {s t u : State} (ht : SameRun s t) (hu : SameRun s u) : SameRun s (if c then t else u) := by
  split
  · exact ht
  · exact hu

theorem SameRun.trans {a b c : State} (h : SameRun a b) (k : SameRun b c) : SameRun a c := fun i => (k i).trans (h i)

theorem SameRun.of_touches {ps : List Part} {s t : State} (h : Touches ps s t) (hp : Part.strands ∉ ps) : SameRun s t :=
  fun i => congrArg runOf (h.strand_eq hp i)

section
variable {x y : Strand} (h : runOf x = runOf y)
include h

theorem runOf_state : x.state = y.state := congrArg (fun z => z.state) h

theorem runOf_fault : x.fault = y.fault := congrArg (fun z => z.fault) h

theorem runOf_loaded : x.loaded = y.loaded := congrArg (fun z => z.loaded) h

theorem runOf_bound : x.bound = y.bound := congrArg (fun z => z.bound) h

theorem runOf_shares : x.shares = y.shares := congrArg (fun z => z.shares) h

theorem runOf_since : x.since = y.since := congrArg (fun z => z.since) h

end

theorem SameRun.state {s t : State} (h : SameRun s t) (i : Nat) : t.strandState i = s.strandState i := runOf_state (h i)

theorem rollFinish_sameRun (s : State) (g : Roll) : SameRun s (s.rollFinish g) := by
  have hmarked (i : Nat) : runOf ((s.strands.mapIdx (fun i (x : Strand) => { x with hasSection := bit g.sections i })).getD i Strand.reset)
      = runOf (s.strand i) := by
    simp only [State.strand, List.getD_eq_getElem?_getD, List.getElem?_mapIdx]
    cases s.strands[i]? <;> rfl
  unfold State.rollFinish
  intro i
  extract_lets +onlyGivenNames s₁ _ s₂ s₃ s₄
  exact (congrArg runOf ((State.commandRecord_touches _ _ _ _ _).strand_eq (by decide) i)).trans (hmarked i)

theorem rollNext_sameRun (s : State) (g : Roll) : SameRun s (s.rollNext g) := by
  unfold State.rollNext
  split
  · split
    · exact .of_touches (State.rollReverted_touches s g) (by decide)
    · exact rollFinish_sameRun s g
  · exact fun _ => rfl

theorem rollTaken_sameRun (s : State) (i : Nat) (runs : Bool) : SameRun s (s.rollTaken i runs) := by
  unfold State.rollTaken
  split
  · exact fun _ => rfl
  · split
    · extract_lets m s₁
      have hreg : SameRun s s₁ := by
        intro j
        simp only [s₁]
        split <;> rfl
      exact hreg.trans (rollNext_sameRun _ _)
    · exact fun _ => rfl

theorem toBank_sameRun (s : State) (i bank : Nat) : SameRun s (s.modStrand i (fun x => { x with bank := bank })) :=
  strand_modStrand_of_kept (g := runOf) (f := fun x => { x with bank := bank }) (fun _ => rfl) s i

theorem rollRevert_sameRun (s : State) (fault : Nat) : SameRun s (s.rollRevert fault) := by
  unfold State.rollRevert
  split
  · exact .refl s
  · refine SameRun.ite ?_ (.refl s)
    extract_lets +onlyGivenNames s₁
    have hset : SameRun s s₁ := .of_touches ((State.set_touches s _ _).trans (State.set_touches _ _ _)) (by decide)
    clear_value s₁
    extract_lets +onlyGivenNames back draining bank s₂
    clear_value back draining bank
    have hbank : SameRun s₁ s₂ := by
      unfold s₂
      split
      · exact SameRun.ite (toBank_sameRun s₁ _ bank) (.refl s₁)
      · exact .refl s₁
    clear_value s₂
    exact (hset.trans hbank).trans (rollNext_sameRun _ _)

/-! A Strand that goes to OFF -/

/-- What `strandOff` settles: the Strand is in OFF, nothing is loaded, its fault is the one given where there is one, and the others stand
as they were but for what a roll may change. -/
structure WentOff (i : Nat) (f : StrandFault) (s t : State) : Prop where
  state : t.strandState i = .off
  loaded : (t.strand i).loaded = false
  fault : f ≠ .none → (t.strand i).fault = f
  others : ∀ j, j ≠ i → runOf (t.strand j) = runOf (s.strand j)

theorem WentOff.thenSameRun {i : Nat} {f : StrandFault} {s t u : State} (h : WentOff i f s t) (k : SameRun t u) : WentOff i f s u where
  state := (k.state i).trans h.state
  loaded := (runOf_loaded (k i)).trans h.loaded
  fault hf := (runOf_fault (k i)).trans (h.fault hf)
  others j hj := (k j).trans (h.others j hj)

theorem WentOff.after {i : Nat} {f : StrandFault} {a s t : State} (h : WentOff i f s t) (k : SameRun a s) : WentOff i f a t where
  state := h.state
  loaded := h.loaded
  fault := h.fault
  others j hj := (h.others j hj).trans (k j)

theorem enterOff_wentOff {s : State} {i : Nat} (hi : i < s.strands.length) :
    WentOff i .none s ((s.enter i .off).modStrand i (fun x => { x with loaded := false, nextShares := none })) := by
  have hlen : i < (s.enter i .off).strands.length := by rwa [State.enter, length_modStrand]
  have hstrand := strand_modStrand_same (fun x => { x with loaded := false, nextShares := none }) hlen
  refine ⟨?_, congrArg (fun x => x.loaded) hstrand, fun h => absurd rfl h, fun j hj => ?_⟩
  · refine (congrArg (fun x => x.state) hstrand).trans ?_
    exact congrArg (fun x => x.state) (strand_modStrand_same _ hi)
  · exact congrArg runOf ((strand_modStrand_ne _ _ hj).trans (strand_modStrand_ne _ _ hj))

theorem strandFault_wentOff {s t : State} {i : Nat} {f : StrandFault} (hi : i < t.strands.length) (h : WentOff i .none s t) :
    WentOff i f s (t.strandFault i f) := by
  have hstrand (j : Nat) : (t.strandFault i f).strand j = (t.modStrand i (fun x => { x with fault := f })).strand j :=
    (State.event_touches _ _ _ _).strand_eq (by decide) j
  have hsame := (hstrand i).trans (strand_modStrand_same (fun x => { x with fault := f }) hi)
  refine ⟨(congrArg (fun x => x.state) hsame).trans h.state, (congrArg (fun x => x.loaded) hsame).trans h.loaded,
    fun _ => congrArg (fun x => x.fault) hsame, fun j hj => ?_⟩
  exact (congrArg runOf ((hstrand j).trans (strand_modStrand_ne t _ hj))).trans (h.others j hj)

theorem strandOff_wentOff {s : State} {i : Nat} (f : StrandFault) (hi : i < s.strands.length) : WentOff i f s (s.strandOff i f) := by
  unfold State.strandOff
  extract_lets s₁ s₂ s₃
  have hoff : WentOff i .none s s₁ := enterOff_wentOff hi
  have hfault : WentOff i f s s₂ := by
    simp only [s₂]
    split
    next hf => exact hf ▸ hoff
    next =>
      refine strandFault_wentOff ?_ hoff
      simpa only [s₁, State.enter, length_modStrand] using hi
  have hsettled : WentOff i f s s₃ := hfault.thenSameRun (.of_touches (State.settleSwaps_touches _ _ _) (by decide))
  split
  · split
    · exact hsettled.thenSameRun (rollRevert_sameRun _ _)
    · exact hsettled.thenSameRun (rollTaken_sameRun _ _ _)
  · exact hsettled

end Sys2Proof.Machine
end

section
/-!
SUPPORT. STRAND_SECTION_LOAD, STRAND_ENTER_SERVING, STRAND_DRAIN_END and DRAIN_STUCK (O23; R26, R83, R455, R463, R471, R476, R596).
-/
namespace Sys2Proof.Machine

theorem Touches.length_strands {ps : List Part} {s t : State} (h : Touches ps s t) (hlen : s.strands.length = 32) :
    t.strands.length = 32 := by
  rcases h.2 .strands with ⟨-, hgrows⟩ | hsame
  · exact hgrows hlen
  · exact (congrArg List.length hsame).trans hlen

theorem strand_lt {s : State} (h : s.strands.length = 32) (strand : Fin 32) : strand.val < s.strands.length := h.symm ▸ strand.isLt

theorem noteStrandsReady_sameRun (s : State) : SameRun s s.noteStrandsReady :=
  .of_touches (State.noteStrandsReady_touches s) (by decide)

/-! STRAND_SECTION_LOAD -/

/-- The state in which a Strand's section is read: the retries of its reads start over. -/
def State.reading (s : State) (i : Nat) : State := { s with img := { s.img with readRetries := Tab.del s.img.readRetries (2 + i) } }

section
variable {strand : Fin 32} {s : State} (hboot : s.img.boot = .ready) (hrun : s.stopped = false)
  (hstate : s.strandState strand.val = .loading)
include hboot hrun hstate

theorem exec_strandSectionLoad (hload : (s.strand strand.val).loaded = false) (hphase : s.get Fld.IMG_STATE_PHASE ≠ 7) :
    exec (.strandSectionLoad strand) s = .next ((s.reading strand.val).loadSection strand.val).noteStrandsReady := by
  change execStrandSectionLoad strand s = _
  simp only [execStrandSectionLoad, hboot, hrun, hstate, hload, hphase, false_and, Bool.false_eq_true, not_false_eq_true, and_self, if_true,
    State.reading]

theorem exec_strandEnterServing_dead (hload : (s.strand strand.val).loaded = true) (hdead : s.keyMapDead strand.val = true) :
    exec (.strandEnterServing strand) s = .next (s.strandOff strand.val .vitNoBank).noteStrandsReady := by
  change execStrandEnterServing strand s = _
  simp only [execStrandEnterServing, hboot, hrun, hstate, hload, hdead, Bool.false_eq_true, not_false_eq_true, and_self, if_true]

end

theorem exec_strandSectionLoad_stays {strand : Fin 32} {s : State} (h : s.strandState strand.val ≠ .loading) :
    exec (.strandSectionLoad strand) s = .next s := by
  change execStrandSectionLoad strand s = _
  simp only [execStrandSectionLoad, h, false_and, and_false, if_false]

theorem loadSection_none {s : State} {i : Nat} (h : s.findSection (s.strand i).bank 3 i = none) :
    s.loadSection i = s.strandOff i .none := by
  simp only [State.loadSection, h]

/-- R463: a section that is not whole records fails. -/
theorem loadSection_ragged {s : State} {i : Nat} {x : ImgSection} (h : s.findSection (s.strand i).bank 3 i = some x)
    (hlen : (s.sectionBytes (s.strand i).bank x).length % 8 ≠ 0) : s.loadSection i = s.strandOff i .imgSection := by
  simp only [State.loadSection, h, bne_iff_ne.mpr hlen, Bool.or_true, Bool.true_or, if_true]

theorem twinOf_ne (i : Nat) : i ≠ twinOf i := by
  unfold twinOf
  split <;> omega

theorem twinOf_lt {i : Nat} (h : i < 32) : twinOf i < 32 := by
  unfold twinOf
  split <;> omega

section
variable {s : State} {i : Nat} (hlen : s.strands.length = 32) (hi : i < 32)
include hlen hi

theorem twinMismatch_off : (s.twinMismatch i).strandState i = .off := by
  unfold State.twinMismatch
  extract_lets both s₁
  have hoff : s₁.strandState i = .off := (strandOff_wentOff .twinMismatch (hlen.symm ▸ hi)).state
  have hlen₁ : s₁.strands.length = 32 := (State.strandOff_touches s i .twinMismatch).length_strands hlen
  clear_value both s₁
  split
  · have hothers := (strandOff_wentOff .twinMismatch (hlen₁.symm ▸ twinOf_lt hi)).others i (twinOf_ne i)
    exact (runOf_state hothers).trans hoff
  · exact hoff

theorem bindSection_strand (bank : Nat) (recs : List (Nat × Nat)) :
    (s.bindSection i bank recs).strandState i = s.strandState i ∧ ((s.bindSection i bank recs).strand i).loaded = true ∧
      ((s.bindSection i bank recs).strand i).bound = true := by
  have happly := State.applySection_touches s i recs
  have hi' : i < (s.applySection i recs).strands.length := by rw [happly.strands_eq (by decide), hlen]; exact hi
  unfold State.bindSection State.strandState
  rw [strand_modStrand_same _ hi', happly.strand_eq (by decide)]
  exact ⟨rfl, rfl, rfl⟩

/-- R26, R65, R209, R463, R464: the read of a section ends in OFF or with the section loaded. -/
theorem loadSection_outcome : (s.loadSection i).strandState i = .off ∨
    (s.loadSection i).strandState i = s.strandState i ∧ ((s.loadSection i).strand i).loaded = true ∧
      ((s.loadSection i).strand i).bound = true := by
  have hoff (f : StrandFault) : (s.strandOff i f).strandState i = .off := (strandOff_wentOff f (hlen.symm ▸ hi)).state
  unfold State.loadSection
  extract_lets bank
  split
  · exact .inl (hoff .none)
  next x _ =>
    extract_lets bs recs cls s₁
    have hbound := bindSection_strand hlen hi bank recs
    have hlen₁ : s₁.strands.length = 32 := (State.bindSection_touches s i bank recs).length_strands hlen
    split
    · exact .inl (hoff _)
    split
    · exact .inl (hoff _)
    split
    · exact .inl (twinMismatch_off hlen hi)
    split
    · exact .inl (hoff .shareOver)
    split
    · exact .inl (strandOff_wentOff _ (hlen₁.symm ▸ hi)).state
    · exact .inr hbound

end

/-! STRAND_ENTER_SERVING -/

theorem commandRecord_img (s : State) (type : Nat) (content : Bytes) (c : CmdRef) (bank : Nat) :
    (s.commandRecord type content c bank).img = s.img := (State.commandRecord_touches s type content c bank).img_eq (by decide)

theorem rollReverted_swaps (s : State) (g : Roll) : (s.rollReverted g).img.swaps = s.img.swaps := by
  unfold State.rollReverted
  extract_lets +onlyGivenNames img s₁
  have himg : s₁.img.swaps = s.img.swaps := rfl
  clear_value s₁
  extract_lets +onlyGivenNames aborted s₂
  exact (congrArg Img.swaps ((State.complete_touches s₂ _ _ _).img_eq (by decide))).trans himg

theorem rollFinish_swaps (s : State) (g : Roll) : (s.rollFinish g).img.swaps = s.img.swaps := by
  unfold State.rollFinish
  extract_lets +onlyGivenNames img s₁
  have himg : s₁.img.swaps = s.img.swaps := rfl
  clear_value s₁
  extract_lets +onlyGivenNames epoch s₂ s₃ s₄
  have hset : Touches [.reg] s₁ s₄ := (((State.set_touches s₁ _ _).trans (State.set_touches _ _ _)).trans
    ((State.set_touches _ _ _).trans (State.set_touches _ _ _))).trans (State.set_touches _ _ _)
  clear_value s₂ s₃ s₄
  rw [commandRecord_img, State.set_img, hset.img_eq (by decide), himg]

/-- The steps of a roll leave the swaps that wait. -/
theorem rollNext_swaps (s : State) (g : Roll) : (s.rollNext g).img.swaps = s.img.swaps := by
  unfold State.rollNext
  split
  · split
    · exact rollReverted_swaps s g
    · exact rollFinish_swaps s g
  · rfl

theorem rollTaken_swaps (s : State) (i : Nat) (runs : Bool) : (s.rollTaken i runs).img.swaps = s.img.swaps := by
  unfold State.rollTaken
  split
  · rfl
  · split
    · extract_lets m s₁
      have hreg : Touches [.reg] s s₁ := Touches.ite (State.setBits_touches s _ _) (State.clearBits_touches s _ _)
      clear_value s₁
      exact (rollNext_swaps _ _).trans (congrArg Img.swaps (hreg.img_eq (by decide)))
    · rfl

/-- A swap that is settled is gone; the others wait as they did. -/
theorem settleSwaps_swaps (s : State) (i detail : Nat) :
    (s.settleSwaps i detail).img.swaps = s.img.swaps.filter (fun w => !(w.strand == i && w.started)) := by
  unfold State.settleSwaps
  extract_lets +onlyGivenNames due img s₁
  have himg : s₁.img.swaps = s.img.swaps.filter (fun w => !(w.strand == i && w.started)) := rfl
  clear_value s₁
  extract_lets +onlyGivenNames bank s₂
  have hset : Touches [.reg] s₁ s₂ := Touches.ite (Touches.refl _ s₁) (State.set_touches s₁ _ _)
  clear_value s₂
  refine Eq.trans (congrArg Img.swaps (Touches.img_eq (ps := [.freeCtr, .out, .reg, .host]) (b := s₁) ?_ (by decide))) himg
  exact Touches.foldl (hset.mono rfl) (fun t w h => h.trans (State.complete_touches t _ _ _))

/-- R461: where every swap has begun, none begins. -/
theorem startSwaps_of_started {s : State} (h : ∀ w ∈ s.img.swaps, w.started = true) : s.startSwaps = s := by
  have hfold (l : List Swap) (hl : ∀ w ∈ l, w.started = true) (u : State) : l.foldl (fun s w =>
      if !w.started && s.strandState w.strand == .serving && s.strandState (twinOf w.strand) == .serving then
        let s := { s with img := { s.img with swaps := mapWhere s.img.swaps (fun x => x == w) (fun x => { x with started := true }) } }
        s.strandDrain w.strand (s.get Fld.IMG_STATE_FORCE_BANK) false
      else s) u = u := by
    induction l with
    | nil => rfl
    | cons w l ih =>
      rw [List.foldl_cons, if_neg (by simp [hl w List.mem_cons_self])]
      exact ih fun x hx => hl x (List.mem_cons_of_mem _ hx)
  exact hfold _ h s

/-- A Strand that enters SERVING, no swap waiting for its Twin: its new shares are in force. -/
theorem strandServe_strand {s : State} {i : Nat} (hi : i < s.strands.length) (hswaps : ∀ w ∈ s.img.swaps, w.started = true) :
    (s.strandServe i).strandState i = .serving ∧
      ((s.strandServe i).strand i).shares = (s.strand i).nextShares.getD (s.strand i).shares ∧ ((s.strandServe i).strand i).since = s.now := by
  unfold State.strandServe
  extract_lets s₁
  have hlen : i < (s.enter i .serving).strands.length := by rwa [State.enter, length_modStrand]
  have hserving : s₁.strand i = { s.strand i with
      state := .serving, since := s.now, stuck := false, left := (s.strand i).left || (s.strand i).state == .loading,
      shares := (s.strand i).nextShares.getD (s.strand i).shares, nextShares := none, forced := false } := by
    refine (strand_modStrand_same _ hlen).trans ?_
    rw [State.enter, strand_modStrand_same _ hi]
  have hrun : SameRun s₁ ((s₁.settleSwaps i 0).rollTaken i true) :=
    (SameRun.of_touches (State.settleSwaps_touches s₁ i 0) (by decide)).trans (rollTaken_sameRun _ _ _)
  have hstarted : ∀ w ∈ ((s₁.settleSwaps i 0).rollTaken i true).img.swaps, w.started = true := by
    rw [rollTaken_swaps, settleSwaps_swaps]
    exact fun w hw => hswaps w (List.mem_filter.mp hw).1
  rw [startSwaps_of_started hstarted]
  have hrun := (hrun i).trans (congrArg runOf hserving)
  exact ⟨runOf_state hrun, runOf_shares hrun, runOf_since hrun⟩

/-- The state in which a Strand enters SERVING: the first starts the chains (R400). -/
def State.serviceOn (s : State) : State := if s.served then s else ({ s with served := true }).startChains

theorem serviceOn_touches (s : State) : Touches [.reg, .acc, .served] s s.serviceOn := by
  unfold State.serviceOn
  exact Touches.ite (Touches.refl _ s) ((State.startChains_touches _).after rfl (Touches.put_served rfl (Touches.refl _ s)))

theorem serviceOn_served (s : State) : s.serviceOn.served = true := by
  unfold State.serviceOn
  split
  · assumption
  · exact (State.startChains_touches _).served_eq (by decide)

theorem exec_strandEnterServing {strand : Fin 32} {s : State} (hboot : s.img.boot = .ready) (hrun : s.stopped = false)
    (hstate : s.strandState strand.val = .loading) (hload : (s.strand strand.val).loaded = true)
    (hlive : s.keyMapDead strand.val = false) (hready : s.strandReady strand.val = true) :
    exec (.strandEnterServing strand) s = .next (s.serviceOn.strandServe strand.val).noteStrandsReady := by
  change execStrandEnterServing strand s = _
  simp only [execStrandEnterServing, hboot, hrun, hstate, hload, hlive, hready, Bool.false_eq_true, not_false_eq_true, and_self, if_true,
    if_false, State.serviceOn]

theorem exec_strandEnterServing_stays {strand : Fin 32} {s : State} (h : (s.strand strand.val).loaded = false) :
    exec (.strandEnterServing strand) s = .next s := by
  change execStrandEnterServing strand s = _
  simp only [execStrandEnterServing, h, Bool.false_eq_true, and_false, if_false]

/-! STRAND_DRAIN_END and DRAIN_STUCK -/

theorem exec_strandDrainEnd {strand : Fin 32} {s : State} (hstate : s.strandState strand.val = .draining)
    (hstuck : (s.strand strand.val).stuck = false) (hempty : s.inside strand.val = 0) (hrun : s.stopped = false) :
    exec (.strandDrainEnd strand) s = .next (s.strandLoad strand.val (s.strand strand.val).bank) := by
  change execStrandDrainEnd strand s = _
  simp only [execStrandDrainEnd, hstate, hstuck, hempty, hrun, Bool.false_eq_true, not_false_eq_true, and_self, if_true]

theorem exec_strandDrainEnd_stays {strand : Fin 32} {s : State} (h : 0 < s.inside strand.val) :
    exec (.strandDrainEnd strand) s = .next s := by
  change execStrandDrainEnd strand s = _
  simp only [execStrandDrainEnd, Nat.ne_of_gt h, false_and, and_false, if_false]

theorem strandLoad_strand {s : State} {i : Nat} (bank : Nat) (hi : i < s.strands.length) : (s.strandLoad i bank).strand i =
    { s.strand i with state := .loading, since := s.now, stuck := false, left := (s.strand i).left || (s.strand i).state == .loading,
                      loaded := false, bank := bank, forced := false } := by
  have hlen : i < (s.enter i .loading).strands.length := by rwa [State.enter, length_modStrand]
  refine (strand_modStrand_same _ hlen).trans ?_
  rw [State.enter, strand_modStrand_same _ hi]

theorem strandLoad_strand_ne (s : State) {i j : Nat} (bank : Nat) (h : j ≠ i) : (s.strandLoad i bank).strand j = s.strand j :=
  (strand_modStrand_ne _ _ h).trans (strand_modStrand_ne _ _ h)

theorem exec_drainStuck {strand : Fin 32} {s : State} (hstate : s.strandState strand.val = .draining)
    (hstuck : (s.strand strand.val).stuck = false)
    (hdue : s.drainBound strand.val + 500000 ≤ s.since (s.strand strand.val).since) :
    exec (.drainStuck strand) s = .next ((s.modStrand strand.val (fun x => { x with stuck := true })).wedge strand.val 0x0704) := by
  change execDrainStuck strand s = _
  simp only [execDrainStuck, hstate, hstuck, hdue, Bool.false_eq_true, not_false_eq_true, and_self, if_true]

theorem exec_drainStuck_stays {strand : Fin 32} {s : State} (h : s.strandState strand.val ≠ .draining) :
    exec (.drainStuck strand) s = .next s := by
  change execDrainStuck strand s = _
  simp only [execDrainStuck, h, false_and, if_false]

theorem wedge_cnt (s : State) (u code : Nat) :
    (s.wedge u code).get Fld.FLT_WEDGE_CNT = min (s.get Fld.FLT_WEDGE_CNT + 1) (2 ^ Fld.FLT_WEDGE_CNT.width - 1) := by
  unfold State.wedge
  rw [get_of_regWord (event_regWord (by decide) _ _ _ _ (by decide)), get_count_of_reset _ (by decide) (by decide) (by decide)]

/-! O23 -/

/-- Settles O23: each command of a Strand's life, case by case, from the equation of what it answers. -/
theorem strandLifecycle : Obligations.StrandLifecycle := by
  unfold Obligations.StrandLifecycle
  refine ⟨?absent, ?ragged, ?outcome, ?notLoading, ?serves, ?dead, ?notLoaded, ?drained, ?inside, ?stuck, ?notDraining⟩
  case absent =>
    intro strand s hboot hrun hstate hload hphase hnone hlen
    have hexec := exec_strandSectionLoad hboot hrun hstate hload hphase
    have htouch := (execStrandSectionLoad_answers strand s).stays _ hexec
    have hoff := strandOff_wentOff .none (s := s.reading strand.val) (strand_lt hlen strand)
    rw [← loadSection_none (s := s.reading strand.val) hnone] at hoff
    have hdone := hoff.thenSameRun (noteStrandsReady_sameRun _)
    exact ⟨_, hexec, hdone.state, hdone.loaded, htouch.now_eq (by decide), htouch⟩
  case ragged =>
    intro strand x s hsome hboot hrun hstate hload hphase hragged hlen
    have hexec := exec_strandSectionLoad hboot hrun hstate hload hphase
    have hoff := strandOff_wentOff .imgSection (s := s.reading strand.val) (strand_lt hlen strand)
    rw [← loadSection_ragged (s := s.reading strand.val) hsome hragged] at hoff
    have hdone := hoff.thenSameRun (noteStrandsReady_sameRun _)
    exact ⟨_, hexec, hdone.state, hdone.fault (by decide), (execStrandSectionLoad_answers strand s).stays _ hexec⟩
  case outcome =>
    intro strand s hboot hrun hstate hload hphase hlen
    have hexec := exec_strandSectionLoad hboot hrun hstate hload hphase
    have hready := noteStrandsReady_sameRun ((s.reading strand.val).loadSection strand.val)
    refine ⟨_, hexec, ?_, (execStrandSectionLoad_answers strand s).stays _ hexec⟩
    rcases loadSection_outcome (s := s.reading strand.val) hlen strand.isLt with hoff | ⟨hsame, hloaded, hbound⟩
    · exact .inl ((hready.state _).trans hoff)
    · have hkept := hready strand.val
      exact .inr ⟨(hready.state _).trans (hsame.trans hstate), (runOf_loaded hkept).trans hloaded,
        (runOf_bound hkept).trans hbound⟩
  case notLoading => exact fun strand s h => exec_strandSectionLoad_stays h
  case serves =>
    intro strand s hboot hrun hstate hload hlive hready hswaps hlen
    have hexec := exec_strandEnterServing hboot hrun hstate hload hlive hready
    have hon := serviceOn_touches s
    have hstrand : s.serviceOn.strand strand.val = s.strand strand.val := hon.strand_eq (by decide) _
    obtain ⟨hserving, hshares, hsince⟩ := strandServe_strand (s := s.serviceOn) (i := strand.val) (strand_lt (hon.length_strands hlen) strand)
      (by rwa [hon.img_eq (by decide)])
    have hkept := noteStrandsReady_sameRun (s.serviceOn.strandServe strand.val) strand.val
    refine ⟨_, hexec, (runOf_state hkept).trans hserving, ?_, ?_, ?_, (execStrandEnterServing_answers strand s).stays _ hexec⟩
    · rw [(State.noteStrandsReady_touches _).served_eq (by decide), (State.strandServe_touches _ _).served_eq (by decide), serviceOn_served]
    · exact (runOf_shares hkept).trans (hshares.trans (by rw [hstrand]))
    · exact (runOf_since hkept).trans (hsince.trans (hon.now_eq (by decide)))
  case dead =>
    intro strand s hboot hrun hstate hload hdead hlen
    have hexec := exec_strandEnterServing_dead hboot hrun hstate hload hdead
    have hdone := (strandOff_wentOff (s := s) .vitNoBank (strand_lt hlen strand)).thenSameRun (noteStrandsReady_sameRun _)
    exact ⟨_, hexec, hdone.state, hdone.fault (by decide), (execStrandEnterServing_answers strand s).stays _ hexec⟩
  case notLoaded => exact fun strand s h => exec_strandEnterServing_stays h
  case drained =>
    intro strand s hstate hstuck hempty hrun hlen
    have hexec := exec_strandDrainEnd hstate hstuck hempty hrun
    have hstrand := strandLoad_strand (s.strand strand.val).bank (strand_lt hlen strand)
    exact ⟨_, hexec, congrArg (fun x => x.state) hstrand, congrArg (fun x => x.loaded) hstrand, congrArg (fun x => x.bank) hstrand,
      fun i _ hi => strandLoad_strand_ne s _ hi, (execStrandDrainEnd_answers strand s).stays _ hexec⟩
  case inside => exact fun strand s h => exec_strandDrainEnd_stays h
  case stuck =>
    intro strand s _ hstate hstuck hdue hlen
    have hexec := exec_drainStuck hstate hstuck hdue
    have hstrand := (State.wedge_touches (s.modStrand strand.val (fun x => { x with stuck := true })) strand.val 0x0704).strand_eq
      (by decide) strand.val
    rw [strand_modStrand_same _ (strand_lt hlen strand)] at hstrand
    exact ⟨_, hexec, (congrArg (fun x => x.state) hstrand).trans hstate, congrArg (fun x => x.stuck) hstrand, wedge_cnt _ _ _,
      (execDrainStuck_answers strand s).stays _ hexec⟩
  case notDraining => exact fun strand s h => exec_drainStuck_stays h

end Sys2Proof.Machine
end

section
/-!
SUPPORT. The words that an arrival writes (O27, O28; R11, R30, R36, R388, R390, R393): none of them belongs to an Ethernet port.
-/
namespace Sys2Proof.Machine

/-! Records that join a chain -/

section
variable {off : Nat} (hlost : off ≠ Fld.VRD_LOST_CNT.off) (hseal : off ≠ Fld.VRD_SEAL_CNT.off)

include hlost in
theorem joinChain_regWord (s : State) (ch : Nat) (content : Bytes) (counted : Bool) :
    (s.joinChain ch content counted).regWord off = s.regWord off := by
  unfold State.joinChain
  extract_lets c content v n rec_ acc joined s₁ fid
  refine regWord_ite rfl ?_
  have hcount : s₁.regWord off = s.regWord off := regWord_count_ne s hlost
  exact regWord_ite hcount hcount

include hlost hseal

theorem sealChain_regWord (s : State) (ch : Nat) : (s.sealChain ch).regWord off = s.regWord off := by
  unfold State.sealChain
  extract_lets +onlyGivenNames c slot head m r t s₁ s₂
  have hfirst : s₁.regWord off = s.regWord off := joinChain_regWord hlost s _ _ _
  have hboth : s₂.regWord off = s.regWord off := (joinChain_regWord hlost s₁ _ _ _).trans hfirst
  clear_value s₁ s₂
  exact (regWord_count_ne _ hseal).trans hboth

theorem appendAll_regWord (s : State) (ch : Nat) (contents : List Bytes) : (s.appendAll ch contents).regWord off = s.regWord off := by
  unfold State.appendAll
  refine regWord_ite ?_ rfl
  have hjoined := regWord_foldl (g := fun s c => State.joinChain s ch c true) (fun s c => joinChain_regWord hlost s ch c true) contents s
  unfold State.sealDue
  exact regWord_ite ((sealChain_regWord hlost hseal _ ch).trans hjoined) hjoined

theorem append_regWord (s : State) (ch : Nat) (content : Bytes) : (s.append ch content).regWord off = s.regWord off :=
  appendAll_regWord hlost hseal s ch [content]

end

/-! A frame that is discarded or refused -/

theorem discardFrame_frames (s : State) (f : Frame) (r : Reason) : (s.discardFrame f r).frames = s.frames :=
  (State.discardFrame_touches s f r).frames_eq (by decide)

theorem closeStream_reg (s : State) (f : Frame) : (s.closeStream f).reg = s.reg := (State.closeStream_touches s f).reg_eq (by decide)

/-- R19: a refusal ID is taken for a frame that is discarded. -/
theorem discardFrame_refused (s : State) (f : Frame) (r : Reason) : (s.discardFrame f r).refused = (s.refused + 1) % 2 ^ 42 := by
  unfold State.discardFrame
  dsimp only
  rw [(State.closeStream_touches _ _).refused_eq (by decide), (State.event_touches _ _ _ _).refused_eq (by decide),
    (State.append_touches _ _ _).refused_eq (by decide), (State.countVerdict_touches _ _).refused_eq (by decide)]
  rfl

theorem refuseFrame_refused (s : State) (f : Frame) (r : Reason) : (s.refuseFrame f r).refused = (s.refused + 1) % 2 ^ 42 := by
  unfold State.refuseFrame
  dsimp only
  split <;> rfl

theorem refuseFrame_reg (s : State) (f : Frame) (r : Reason) : (s.refuseFrame f r).reg = s.reg :=
  (State.refuseFrame_touches s f r).reg_eq (by decide)

/-- A frame as a refusal leaves it among the frames. -/
def asRefused (f : Frame) (r : Reason) (id epoch cset : Nat) (dflt : Bool) : Frame :=
  { f with id := id, epoch := epoch, cset := cset, seed := id, phase := .refused, strand := none, beatsToGrant := 0, causes := [r],
           seedDefaulted := dflt }

/-- The frame that is refused stands in the place of the one with its key. -/
theorem refuseFrame_frames (s : State) (f : Frame) (r : Reason) : ∃ epoch cset dflt,
    (s.refuseFrame f r).frames = s.frames.filter (fun g => g.key != f.key) ++ [asRefused f r s.refusalId.1 epoch cset dflt] := by
  refine ⟨(s.refusalId.2.free 16).1, ((s.refusalId.2.free 16).2.free 32).1,
    ((s.refusalId.2.free 16).2.free 32).2.flag (Fld.TID_CLASS_CTL_SEED_SRC f.cls),
    congrArg₂ (· ++ ·) (congrArg (List.filter (fun g : Frame => g.key != f.key)) ?_) rfl⟩
  dsimp only
  split <;> rfl

/-! Words of an Ethernet port -/

section
variable {off : Nat} (hport : 0x40000 ≤ off ∧ off < 0x40100)
include hport

theorem countVerdict_port (s : State) (f : Frame) (hc : f.cls < 8) : (s.countVerdict f).regWord off = s.regWord off := by
  unfold State.countVerdict
  extract_lets v s₁
  have hverdict : s₁.regWord off = s.regWord off := regWord_count_ne s (by simp only [Fld.VRD_VERDICT_CNT]; omega)
  exact regWord_ite ((regWord_count_ne s₁ (by simp only [Fld.TID_CLASS_UNSCR_CNT]; omega)).trans hverdict) hverdict

theorem event_port (s : State) (code source : Nat) (args : List Nat) : (s.event code source args).regWord off = s.regWord off :=
  event_regWord (by simp only [Fld.MSIX_PBA]; omega) s code source args (by simp only [Fld.HIF_RING_LOST_CNT, ringEvt]; omega)

theorem discardFrame_port (s : State) (f : Frame) (r : Reason) (hc : f.cls < 8) :
    (s.discardFrame f r).regWord off = s.regWord off := by
  unfold State.discardFrame
  dsimp only
  rw [regWord_congr (closeStream_reg _ _), event_port hport, append_regWord (by simp only [Fld.VRD_LOST_CNT]; omega)
    (by simp only [Fld.VRD_SEAL_CNT]; omega)]
  refine (countVerdict_port hport _ _ ?_).trans ?_
  · exact hc
  · rfl

end

end Sys2Proof.Machine
end

section
/-!
SUPPORT. What an arrival comes to (O27; R16, R30, R36, R47, R54, R56, R109).
-/
namespace Sys2Proof.Machine

theorem windowTicks_of_words {s t : State} {c : Nat}
    (h : ∀ off, 0x30100 + 0x20 * c ≤ off → off < 0x3010C + 0x20 * c → t.regWord off = s.regWord off)
    (valid chunk final : Bool) : t.windowTicks c valid chunk final = s.windowTicks c valid chunk final := by
  have hwin : t.get (Fld.TID_CLASS_WIN_WIN_US c) = s.get (Fld.TID_CLASS_WIN_WIN_US c) :=
    get_of_regWord (h _ (by simp only [Fld.TID_CLASS_WIN_WIN_US]; omega) (by simp only [Fld.TID_CLASS_WIN_WIN_US]; omega))
  have hchunk : t.get (Fld.TID_CLASS_CHUNK_CHUNK_US c) = s.get (Fld.TID_CLASS_CHUNK_CHUNK_US c) :=
    get_of_regWord (h _ (by simp only [Fld.TID_CLASS_CHUNK_CHUNK_US]; omega) (by simp only [Fld.TID_CLASS_CHUNK_CHUNK_US]; omega))
  have hclose : t.get (Fld.TID_CLASS_CLOSE_CLOSE_US c) = s.get (Fld.TID_CLASS_CLOSE_CLOSE_US c) :=
    get_of_regWord (h _ (by simp only [Fld.TID_CLASS_CLOSE_CLOSE_US]; omega) (by simp only [Fld.TID_CLASS_CLOSE_CLOSE_US]; omega))
  simp only [State.windowTicks, hwin, hchunk, hclose]

section
variable (s : State) (c : Nat) (ident : Bytes) (final : Bool) (tArr : Nat)

theorem openStream_regWord {off : Nat} (h : off ≠ Fld.INT_STREAM_FULL_CNT.off) :
    (s.openStream c ident final tArr).2.regWord off = s.regWord off := by
  unfold State.openStream
  split
  · rfl
  · split
    · exact regWord_count_ne s h
    · rfl

theorem openStream_nextFrame : s.nextFrame ≤ (s.openStream c ident final tArr).2.nextFrame := by
  unfold State.openStream
  split
  · exact Nat.le_refl _
  · split
    · exact Nat.le_refl _
    · exact Nat.le_succ _

end

/-- A frame that arrived on a port at a tick: its deadline and release come from its window and shift, and it waits for its parse or is
refused. -/
structure Timed (s : State) (port : EthPort) (tArr : Nat) (f : Frame) : Prop where
  port_eq : f.port = port
  arr : f.tArr = tArr
  cls : f.cls < 8
  dl : f.tDl = w64 (f.tArr + s.windowTicks f.cls (!f.invalidClass) f.stream.isSome f.final - 300)
  rel : f.tRel = w64 (f.tArr + s.windowTicks f.cls (!f.invalidClass) f.stream.isSome f.final + f.shift)
  phase : f.phase = .parsing ∨ f.phase = .refused

/-- The words of the Ethernet ports are as they were. -/
def PortWords (s t : State) : Prop := ∀ off, 0x40000 ≤ off → off < 0x40100 → t.regWord off = s.regWord off

theorem PortWords.trans {a b c : State} (h : PortWords a b) (k : PortWords b c) : PortWords a c :=
  fun off hlo hhi => (k off hlo hhi).trans (h off hlo hhi)

theorem PortWords.of_reg {s t : State} (h : t.reg = s.reg) : PortWords s t := fun off _ _ => regWord_congr h off

theorem PortWords.count {s u : State} (h : PortWords s u) {f : Fld} (hf : f.off < 0x40000 ∨ 0x40100 ≤ f.off) : PortWords s (u.count f) :=
  fun off hlo hhi => (regWord_count_ne u (by omega)).trans (h off hlo hhi)

/-- What an arrival comes to: a frame stands among those there were, or one was discarded under a refusal ID. -/
structure Arrived (s t : State) (port : EthPort) (tArr : Nat) : Prop where
  stay : ∀ f ∈ s.frames, f.key < s.nextFrame → f ∈ t.frames
  comes : t.frames = s.frames ∧ t.refused = (s.refused + 1) % 2 ^ 42 ∨ ∃ f ∈ t.frames, s.nextFrame ≤ f.key ∧ Timed s port tArr f
  words : PortWords s t

theorem Arrived.discarded {s u : State} {port : EthPort} {tArr : Nat} {f : Frame} (hf : u.frames = s.frames)
    (hr : u.refused = s.refused) (hw : PortWords s u) (hc : f.cls < 8) (r : Reason) : Arrived s (u.discardFrame f r) port tArr := by
  have hframes := (discardFrame_frames u f r).trans hf
  exact ⟨fun _ hm _ => hframes ▸ hm, .inl ⟨hframes, (discardFrame_refused u f r).trans (by rw [hr])⟩,
    hw.trans fun off hlo hhi => discardFrame_port ⟨hlo, hhi⟩ u f r hc⟩

theorem Arrived.refused {s u : State} {port : EthPort} {tArr : Nat} {f : Frame} (hf : u.frames = s.frames) (hw : PortWords s u)
    (hk : s.nextFrame ≤ f.key) (ht : Timed s port tArr f) (r : Reason) : Arrived s (u.refuseFrame f r) port tArr := by
  obtain ⟨epoch, cset, dflt, hframes⟩ := refuseFrame_frames u f r
  rw [hf] at hframes
  refine ⟨fun g hm hg => ?_, .inr ⟨asRefused f r u.refusalId.1 epoch cset dflt, ?_, hk, ?_⟩, hw.trans (.of_reg (refuseFrame_reg u f r))⟩
  · rw [hframes]
    exact List.mem_append_left _ (List.mem_filter.mpr ⟨hm, bne_iff_ne.mpr (by omega)⟩)
  · rw [hframes]
    exact List.mem_append_right _ List.mem_cons_self
  · obtain ⟨hport, harr, hcls, hdl, hrel, -⟩ := ht
    exact ⟨hport, harr, hcls, hdl, hrel, .inr rfl⟩

theorem Arrived.kept {s u : State} {port : EthPort} {tArr : Nat} {f : Frame} (hf : u.frames = s.frames ++ [f]) (hw : PortWords s u)
    (hk : s.nextFrame ≤ f.key) (ht : Timed s port tArr f) : Arrived s u port tArr :=
  ⟨fun _ hm _ => hf ▸ List.mem_append_left _ hm, .inr ⟨f, hf ▸ List.mem_append_right _ List.mem_cons_self, hk, ht⟩, hw⟩

theorem w64_w64_add (a b : Nat) : w64 (w64 a + b) = w64 (a + b) := Nat.mod_add_mod a (2 ^ 64) b

/-- Steps 3 to 7 of an arrival, for each of the eight classes. -/
theorem arriveAs_arrived (s : State) (port : EthPort) (bs : Bytes) (length tArr : Nat) {c : Nat} (dset : Nat) (follow : Bool) (hc : c < 8) :
    Arrived s (s.arriveAs port bs length tArr c dset follow) port tArr := by
  unfold State.arriveAs
  extract_lets +onlyGivenNames s₁ valid set
  split
  rename_i ident fin hscan
  split
  rename_i stream s₂ hopen
  have hadmit (off : Nat) (h : off ≠ (Fld.TID_CLASS_ADMIT_CNT c).off) : s₁.regWord off = s.regWord off := regWord_count_ne s h
  have hopened : s₂.frames = s.frames ∧ s₂.refused = s.refused ∧ s.nextFrame ≤ s₂.nextFrame ∧
      ∀ off, off ≠ Fld.INT_STREAM_FULL_CNT.off → s₂.regWord off = s₁.regWord off := by
    cases ident with
    | none =>
      cases hopen
      exact ⟨rfl, rfl, Nat.le_refl _, fun _ _ => rfl⟩
    | some i =>
      have htouch := State.openStream_touches s₁ c i fin tArr
      have hnext := openStream_nextFrame s₁ c i fin tArr
      have hword := fun off => openStream_regWord s₁ c i fin tArr (off := off)
      have hs₂ : s₂ = (s₁.openStream c i fin tArr).2 := (congrArg Prod.snd hopen).symm
      rw [← hs₂] at htouch hnext hword
      exact ⟨htouch.frames_eq (by decide), htouch.refused_eq (by decide), hnext, hword⟩
  obtain ⟨hframes, hrefused, hnext, hword⟩ := hopened
  have hwords (off : Nat) (hfull : off ≠ Fld.INT_STREAM_FULL_CNT.off) (hcnt : off ≠ (Fld.TID_CLASS_ADMIT_CNT c).off) :
      s₂.regWord off = s.regWord off := (hword off hfull).trans (hadmit off hcnt)
  have hticks (v ch fl : Bool) : s₂.windowTicks c v ch fl = s.windowTicks c v ch fl :=
    windowTicks_of_words (fun off hlo hhi => hwords off (by simp only [Fld.INT_STREAM_FULL_CNT]; omega)
      (by simp only [Fld.TID_CLASS_ADMIT_CNT]; omega)) v ch fl
  clear_value s₁ valid set
  extract_lets +onlyGivenNames final win egress key s₃ f₀ f cells
  have hwin : win = s.windowTicks c (!(!valid)) stream.isSome final := by rw [Bool.not_not]; exact hticks _ _ _
  have hframes₃ : s₃.frames = s.frames := hframes
  have hrefused₃ : s₃.refused = s.refused := hrefused
  have hwords₃ : PortWords s s₃ := fun off hlo hhi => hwords off (by simp only [Fld.INT_STREAM_FULL_CNT]; omega)
    (by simp only [Fld.TID_CLASS_ADMIT_CNT]; omega)
  have hkey : s.nextFrame ≤ f.key := hnext
  have hcls : f.cls < 8 := hc
  have hbase : Timed s port tArr f := by
    refine ⟨rfl, rfl, hc, ?_, ?_, .inl rfl⟩
    · simp only [f, hwin]
    · simp only [f, f₀, newFrame, hwin, Nat.add_zero]
  have hshift : f.shift = 0 := rfl
  clear_value f s₃
  split
  · exact .discarded (u := s₃.count Fld.INT_HOLD_FULL_CNT) hframes₃ hrefused₃ (hwords₃.count (by decide)) hcls _
  extract_lets +onlyGivenNames len
  split
  · exact .discarded (u := s₃.count Fld.REL_CAL_FULL_CNT) hframes₃ hrefused₃ (hwords₃.count (by decide)) hcls _
  next sh _ =>
    extract_lets +onlyGivenNames s₄ tRel g s₅
    have htimed : Timed s port tArr g :=
      ⟨hbase.port_eq, hbase.arr, hbase.cls, hbase.dl, by simp only [g, tRel]; rw [hbase.rel, hshift, w64_w64_add, Nat.add_zero], hbase.phase⟩
    have hframes₅ : s₅.frames = s.frames := by
      simp only [s₅, s₄, apply_ite State.frames, State.count_frames, ite_self, hframes₃]
    have hwords₅ : PortWords s s₅ := by
      refine PortWords.trans (b := s₄) ?_ (.of_reg rfl)
      simp only [s₄]
      split
      · exact hwords₃
      · exact hwords₃.count (by simp only [Fld.TID_CLASS_SHIFT_CNT]; omega)
    have hkey₅ : s.nextFrame ≤ g.key := hkey
    clear_value g s₅
    split
    · exact .refused hframes₅ hwords₅ hkey₅ htimed _
    next i _ =>
      extract_lets +onlyGivenNames s₆ s₇
      have hsame : s₇.frames = s.frames ∧ s₇.reg = s₅.reg := by
        simp only [s₇]
        split <;> exact ⟨hframes₅, rfl⟩
      exact .kept (f := { g with strand := some i, beatsToGrant := ceilDiv length 64 }) (congrArg (· ++ _) hsame.1)
        (hwords₅.trans (.of_reg hsame.2)) hkey₅ ⟨htimed.port_eq, htimed.arr, htimed.cls, htimed.dl, htimed.rel, htimed.phase⟩

theorem classify_lt (rules : List Nat) (dflt port : Nat) (bs : Bytes) (w : Layers) : (classify rules dflt port bs w).1 < 8 := by
  unfold classify
  split <;> exact bits_lt _ _ 3

theorem arrive_arrived (s : State) (port : EthPort) (bs : Bytes) (length tArr : Nat) : Arrived s (s.arrive port bs length tArr) port tArr :=
  arriveAs_arrived s port bs length tArr _ _ (classify_lt _ _ _ _ _)

/-! FRAME_RX -/

/-- Where an Intake engine is left, no frame fails for want of one (R78). -/
theorem exec_frameRx {s : State} (port : EthPort) (ps : Nat) (wire : Bytes) (h : (s.liveEngines .intake).isEmpty = false) :
    exec (.frameRx port ps wire) s = .next (s.receive port ps wire) := by
  have hled : (s.receive port ps wire).led = s.led := (State.receive_touches s port ps wire).led_eq (by decide)
  have hlive : (s.receive port ps wire).liveEngines .intake = s.liveEngines .intake := by
    simp only [State.liveEngines, State.isRetired, hled]
  change execFrameRx port ps wire s = _
  simp only [execFrameRx, hlive, h, Bool.false_eq_true, if_false]

/-- A port that carries traffic (R34, R84). -/
def State.carries (s : State) (p : Nat) : Prop :=
  s.stopped = false ∧ s.flag (Fld.INT_PORT_CTL_LINK_UP p) = true ∧ s.flag (Fld.INT_PORT_CTL_ENABLE p) = true

/-- A frame of a length that R86 allows, with the FCS of its bytes. -/
def sound (wire : Bytes) : Prop :=
  64 ≤ wire.length ∧ wire.length ≤ 9216 ∧ le wire (wire.length - 4) 4 = crc32 (wire.take (wire.length - 4))

section
variable {s : State} {port : EthPort} {wire : Bytes} (ps : Nat)

theorem receive_down (h : s.stopped = true ∨ s.flag (Fld.INT_PORT_CTL_LINK_UP (portIdx port)) = false ∨
    s.flag (Fld.INT_PORT_CTL_ENABLE (portIdx port)) = false) : s.receive port ps wire = s := by
  have hdown : (s.stopped || !s.flag (Fld.INT_PORT_CTL_LINK_UP (portIdx port)) || !s.flag (Fld.INT_PORT_CTL_ENABLE (portIdx port))) = true := by
    rcases h with h | h | h <;> simp [h]
  simp only [State.receive, hdown, if_true]

theorem receive_tap (h : s.carries 2) : s.receive .tap ps wire = s.count (Fld.INT_PORT_CTRL_CNT 2) := by
  obtain ⟨hrun, hup, hen⟩ := h
  simp only [State.receive, portIdx, hrun, hup, hen, Bool.not_true, Bool.or_self, Bool.false_eq_true, if_false, if_true]

section
variable (hc : s.carries (portIdx port)) (hp : port ≠ .tap)
include hc hp

theorem receive_bad (h : wire.length < 64 ∨ 9216 < wire.length ∨ le wire (wire.length - 4) 4 ≠ crc32 (wire.take (wire.length - 4))) :
    s.receive port ps wire = s.count (Fld.INT_PORT_ERR_CNT (portIdx port)) := by
  obtain ⟨hrun, hup, hen⟩ := hc
  simp only [State.receive, hrun, hup, hen, Bool.not_true, Bool.or_self, Bool.false_eq_true, if_false, if_neg hp, if_pos h]

theorem receive_control (hs : sound wire) (h : be (wire.take (wire.length - 4)) 12 2 = 0x8808) :
    s.receive port ps wire = s.count (Fld.INT_PORT_CTRL_CNT (portIdx port)) := by
  obtain ⟨hrun, hup, hen⟩ := hc
  obtain ⟨hmin, hmax, hfcs⟩ := hs
  have hgood : ¬(wire.length < 64 ∨ 9216 < wire.length ∨ le wire (wire.length - 4) 4 ≠ crc32 (wire.take (wire.length - 4))) := by
    rintro (h | h | h)
    · omega
    · omega
    · exact h hfcs
  simp only [State.receive, hrun, hup, hen, Bool.not_true, Bool.or_self, Bool.false_eq_true, if_false, if_neg hp, if_neg hgood, if_pos h]

theorem receive_frame (hs : sound wire) (h : be (wire.take (wire.length - 4)) 12 2 ≠ 0x8808) (hm : s.msec (portIdx port) = false) :
    s.receive port ps wire =
      let u := s.count (Fld.INT_PORT_RX_CNT (portIdx port))
      if u.flag Fld.FLT_STATE_QUIESCING then u.count Fld.FLT_QUIESCE_DROP_CNT
      else if !u.served then u.count Fld.INT_PREREADY_CNT
      else u.arrive port (wire.take (wire.length - 4)) ((wire.take (wire.length - 4)).length + 4)
        (w64 ((ps - u.get (Fld.INT_TS_DLY_RX_DLY_PS (portIdx port))) / 2000)) := by
  obtain ⟨hrun, hup, hen⟩ := hc
  obtain ⟨hmin, hmax, hfcs⟩ := hs
  have hgood : ¬(wire.length < 64 ∨ 9216 < wire.length ∨ le wire (wire.length - 4) 4 ≠ crc32 (wire.take (wire.length - 4))) := by
    rintro (h | h | h)
    · omega
    · omega
    · exact h hfcs
  simp only [State.receive, hrun, hup, hen, hm, Bool.not_true, Bool.or_self, Bool.false_eq_true, if_false, if_neg hp, if_neg hgood, if_neg h]

end
end

theorem portIdx_lt (port : EthPort) : portIdx port < 3 := by cases port <;> decide

/-- A counter of 32 bits that starts at 0. -/
theorem count_get_of_whole (s : State) {f : Fld} (hl : f.lsb = 0) (hw : f.width = 32) (hr : regReset f.off = 0) :
    (s.count f).get f = min (s.get f + 1) 0xFFFFFFFF := by
  rw [get_count_of_reset s (by omega) (by omega) hr, hw]
  rfl

section
variable (port : EthPort)

theorem rxCnt_reset : regReset (Fld.INT_PORT_RX_CNT (portIdx port)).off = 0 := by cases port <;> decide

theorem errCnt_reset : regReset (Fld.INT_PORT_ERR_CNT (portIdx port)).off = 0 := by cases port <;> decide

theorem ctrlCnt_reset : regReset (Fld.INT_PORT_CTRL_CNT (portIdx port)).off = 0 := by cases port <;> decide

end

theorem flag_count_ne (s : State) {f g : Fld} (h : g.off ≠ f.off) : (s.count f).flag g = s.flag g := by
  simp only [State.flag, get_count_ne s h]

/-- A received frame counts in RX_CNT before anything else is read of it. -/
theorem rxCnt_ne {port : EthPort} {f : Fld} (h : f.off < 0x40008 ∨ 0x40089 ≤ f.off) : f.off ≠ (Fld.INT_PORT_RX_CNT (portIdx port)).off := by
  have hp := portIdx_lt port
  simp only [Fld.INT_PORT_RX_CNT]
  omega

/-! O27 -/

/-- Settles O27: the arrival of a frame, one clause for each place at which it may be discarded, by `receive_frame` and `arrive_arrived`. -/
theorem framesArrive : Obligations.FramesArrive := by
  unfold Obligations.FramesArrive
  refine ⟨?down, ?tap, ?bad, ?control, ?quiescing, ?preready, ?comes⟩
  case down =>
    intro port ps wire s hdown hlive
    rw [exec_frameRx port ps wire hlive, receive_down ps hdown]
  case tap =>
    intro ps wire s hrun hup hen hlive
    have hexec := exec_frameRx .tap ps wire hlive
    rw [receive_tap ps ⟨hrun, hup, hen⟩] at hexec
    exact ⟨_, hexec, count_get_of_whole s rfl rfl (ctrlCnt_reset .tap), onlyWords_count s _ (by decide), State.count_touches s _⟩
  case bad =>
    intro port ps wire s hrun hup hen hp hbad hlive
    have hexec := exec_frameRx port ps wire hlive
    rw [receive_bad ps ⟨hrun, hup, hen⟩ hp hbad] at hexec
    exact ⟨_, hexec, count_get_of_whole s rfl rfl (errCnt_reset port), onlyWords_count s _ List.mem_cons_self, State.count_touches s _⟩
  case control =>
    intro port ps wire s hrun hup hen hp hmin hmax hfcs htype hlive
    have hexec := exec_frameRx port ps wire hlive
    rw [receive_control ps ⟨hrun, hup, hen⟩ hp ⟨hmin, hmax, hfcs⟩ htype] at hexec
    exact ⟨_, hexec, count_get_of_whole s rfl rfl (ctrlCnt_reset port), onlyWords_count s _ List.mem_cons_self, State.count_touches s _⟩
  case quiescing =>
    intro port ps wire s hrun hup hen hp hmin hmax hfcs htype hmsec hq hlive
    have hexec := exec_frameRx port ps wire hlive
    rw [receive_frame ps ⟨hrun, hup, hen⟩ hp ⟨hmin, hmax, hfcs⟩ htype hmsec] at hexec
    have hflag := (flag_count_ne s (rxCnt_ne (port := port) (f := Fld.FLT_STATE_QUIESCING) (by decide))).trans hq
    simp only [hflag, if_true] at hexec
    refine ⟨_, hexec, ?_, ?_, ?_, (State.count_touches s _).trans (State.count_touches _ _)⟩
    · exact (get_count_ne _ (rxCnt_ne (by decide)).symm).trans (count_get_of_whole s rfl rfl (rxCnt_reset port))
    · exact (count_get_of_whole _ rfl rfl (by decide)).trans (by rw [get_count_ne s (rxCnt_ne (by decide))])
    · exact (onlyWords_count s _ List.mem_cons_self).trans (onlyWords_count _ _ (List.mem_cons_of_mem _ List.mem_cons_self))
  case preready =>
    intro port ps wire s hrun hup hen hp hmin hmax hfcs htype hmsec hq hserved hlive
    have hexec := exec_frameRx port ps wire hlive
    rw [receive_frame ps ⟨hrun, hup, hen⟩ hp ⟨hmin, hmax, hfcs⟩ htype hmsec] at hexec
    have hflag := (flag_count_ne s (rxCnt_ne (port := port) (f := Fld.FLT_STATE_QUIESCING) (by decide))).trans hq
    simp only [hflag, State.count_served, hserved, Bool.not_false, Bool.false_eq_true, if_false, if_true] at hexec
    refine ⟨_, hexec, ?_, ?_, ?_, (State.count_touches s _).trans (State.count_touches _ _)⟩
    · exact (get_count_ne _ (rxCnt_ne (by decide)).symm).trans (count_get_of_whole s rfl rfl (rxCnt_reset port))
    · exact (count_get_of_whole _ rfl rfl (by decide)).trans (by rw [get_count_ne s (rxCnt_ne (by decide))])
    · exact (onlyWords_count s _ List.mem_cons_self).trans (onlyWords_count _ _ (List.mem_cons_of_mem _ List.mem_cons_self))
  case comes =>
    intro port ps wire s hrun hup hen hp hmin hmax hfcs htype hmsec hq hserved hlive
    have hexec := exec_frameRx port ps wire hlive
    have htouch := (execFrameRx_answers port ps wire s).stays _ hexec
    rw [receive_frame ps ⟨hrun, hup, hen⟩ hp ⟨hmin, hmax, hfcs⟩ htype hmsec] at hexec htouch
    have hflag := (flag_count_ne s (rxCnt_ne (port := port) (f := Fld.FLT_STATE_QUIESCING) (by decide))).trans hq
    simp only [hflag, State.count_served, hserved, Bool.not_true, Bool.false_eq_true, if_false] at hexec htouch
    have hdly : (s.count (Fld.INT_PORT_RX_CNT (portIdx port))).get (Fld.INT_TS_DLY_RX_DLY_PS (portIdx port)) =
        s.get (Fld.INT_TS_DLY_RX_DLY_PS (portIdx port)) := get_count_ne s (by cases port <;> decide)
    rw [hdly] at hexec htouch
    have harrived := arrive_arrived (s.count (Fld.INT_PORT_RX_CNT (portIdx port))) port (wire.take (wire.length - 4))
      ((wire.take (wire.length - 4)).length + 4) (w64 ((ps - s.get (Fld.INT_TS_DLY_RX_DLY_PS (portIdx port))) / 2000))
    have hticks {c : Nat} (hc : c < 8) (v ch fl : Bool) :
        (s.count (Fld.INT_PORT_RX_CNT (portIdx port))).windowTicks c v ch fl = s.windowTicks c v ch fl :=
      windowTicks_of_words (fun off _ hhi => regWord_count_ne s (by simp only [Fld.INT_PORT_RX_CNT]; omega)) v ch fl
    refine ⟨_, hexec, harrived.stay, ?_, ?_, htouch⟩
    · refine harrived.comes.imp id ?_
      rintro ⟨f, hm, hk, htimed⟩
      exact ⟨f, hm, hk, htimed.port_eq, htimed.arr, by rw [← hticks htimed.cls]; exact htimed.dl,
        by rw [← hticks htimed.cls]; exact htimed.rel, htimed.phase⟩
    · refine (get_of_regWord (harrived.words _ ?_ ?_)).trans (count_get_of_whole s rfl rfl (rxCnt_reset port))
      · cases port <;> decide
      · cases port <;> decide

end Sys2Proof.Machine
end

section
/-!
SUPPORT. What the forming of a frame's work, its queue and the causes it meets leave of the frame (O28; R45, R78, R141, R351, R398).
-/
namespace Sys2Proof.Machine

/-- A frame without its work: what its Strand's stages take from it, the causes it has met, the tokens of its GUARD field. -/
def bareOf (f : Frame) : Frame :=
  { f with used := 0, done := 0, texts := [], searches := [], ngramsFormed := true, catFlags := 0, models := [], guard := none, causes := [],
           guardReady := none }

section
variable {f g : Frame} (h : bareOf f = bareOf g)
include h

theorem bareOf_key : f.key = g.key := congrArg (fun x => x.key) h

theorem bareOf_kind : f.kind = g.kind := congrArg (fun x => x.kind) h

theorem bareOf_phase : f.phase = g.phase := congrArg (fun x => x.phase) h

theorem bareOf_fields : f.fields = g.fields := congrArg (fun x => x.fields) h

theorem bareOf_handTick : f.handTick = g.handTick := congrArg (fun x => x.handTick) h

theorem bareOf_strand : f.strand = g.strand := congrArg (fun x => x.strand) h

theorem bareOf_id : f.id = g.id := congrArg (fun x => x.id) h

theorem bareOf_tArr : f.tArr = g.tArr := congrArg (fun x => x.tArr) h

theorem bareOf_tDl : f.tDl = g.tDl := congrArg (fun x => x.tDl) h

end

theorem addCause_bare (r : Reason) (f : Frame) : bareOf (addCause r f) = bareOf f := by
  unfold addCause
  split <;> rfl

theorem noteGuardReady_bare (now : Nat) (f : Frame) : bareOf (noteGuardReady now f) = bareOf f := by
  unfold noteGuardReady
  split
  · split <;> rfl
  · rfl

theorem formJobs_bare (s : State) (i : Nat) (f : Frame) (spec : Bool) : bareOf (s.formJobs i f spec).2 = bareOf f := by
  unfold State.formJobs
  extract_lets jobs
  split
  split
  rfl

theorem enterQueue_bare (s : State) (i : Nat) (f : Frame) : bareOf (s.enterQueue i f).2 = bareOf f := by
  unfold State.enterQueue
  extract_lets n behind
  split <;> rfl

/-- Every frame is there, but for its work. -/
def FramesBare (s t : State) : Prop := t.frames.map bareOf = s.frames.map bareOf

theorem FramesBare.trans {a b c : State} (h : FramesBare a b) (k : FramesBare b c) : FramesBare a c := Eq.trans k h

theorem FramesBare.of_frames {s t : State} (h : t.frames = s.frames) : FramesBare s t := congrArg (List.map bareOf) h

theorem FramesBare.mapWhere {s t : State} {p : Frame → Bool} {g : Frame → Frame} (hg : ∀ f, bareOf (g f) = bareOf f)
    (h : t.frames = mapWhere s.frames p g) : FramesBare s t := by
  rw [FramesBare, h, Sys2Proof.mapWhere, List.map_map]
  refine List.map_congr_left fun f _ => ?_
  rw [Function.comp_apply, apply_ite bareOf, hg, ite_self]

theorem FramesBare.exists {s t : State} (h : FramesBare s t) {f : Frame} (hf : f ∈ s.frames) : ∃ g ∈ t.frames, bareOf g = bareOf f :=
  List.mem_map.mp (h ▸ List.mem_map_of_mem hf)

theorem FramesBare.from {s t : State} (h : FramesBare s t) {g : Frame} (hg : g ∈ t.frames) : ∃ f ∈ s.frames, bareOf f = bareOf g :=
  List.mem_map.mp (h ▸ List.mem_map_of_mem hg)

theorem causeAll_bare (s : State) (p : Frame → Bool) (r : Reason) : FramesBare s (s.causeAll p r) :=
  .mapWhere (addCause_bare r) rfl

theorem modFrame_bare (s : State) (k : Nat) {g : Frame → Frame} (hg : ∀ f, bareOf (g f) = bareOf f) : FramesBare s (s.modFrame k g) :=
  .mapWhere hg rfl

theorem checkFrame_bare (s : State) (k : Nat) : FramesBare s (s.checkFrame k) := by
  unfold State.checkFrame
  split
  · exact .of_frames rfl
  · extract_lets bad s₁
    have hcause : FramesBare s s₁ := by
      simp only [s₁]
      split
      · exact causeAll_bare s _ _
      · exact .of_frames rfl
    split
    · exact hcause.trans (modFrame_bare s₁ k (noteGuardReady_bare _))
    · exact hcause

theorem admitTexts_bare (s : State) (i fuel : Nat) : FramesBare s (s.admitTexts i fuel) := by
  induction fuel generalizing s with
  | zero => exact .of_frames rfl
  | succ fuel ih =>
    unfold State.admitTexts
    split
    · exact .of_frames rfl
    · split
      · refine FramesBare.trans ?_ (ih _)
        exact modFrame_bare s _ (fun _ => rfl)
      · exact .of_frames rfl

theorem queueFreed_bare (s : State) (i : Nat) : FramesBare s (s.queueFreed i) := admitTexts_bare s i _

/-! A frame that no stage works on -/

theorem checkFrame_of_refused {s : State} {k : Nat} {f : Frame} (hf : s.frame? k = some f) (hp : f.phase = .refused) :
    s.checkFrame k = s := by
  simp only [State.checkFrame, hf, screening, hp]
  rfl

end Sys2Proof.Machine
end

section
/-!
SUPPORT. The end of a parse and of an idle stream (O28; R19, R20, R40, R46, R92, R394).
-/
namespace Sys2Proof.Machine

/-! INTAKE_PARSE_DONE -/

theorem exec_intakeParseDone_none {s : State} {frame : Nat} (work : UnitEnd) (h : s.frame? frame = none) :
    exec (.intakeParseDone frame work) s = .next s := by
  change execIntakeParseDone frame work s = _
  simp only [execIntakeParseDone, h]

section
variable {s : State} {frame : Nat} {f : Frame} (hf : s.frame? frame = some f)
include hf

theorem exec_intakeParseDone_early (work : UnitEnd) (h : s.parseReady f = false) : exec (.intakeParseDone frame work) s = .next s := by
  change execIntakeParseDone frame work s = _
  simp only [execIntakeParseDone, hf, h, Bool.false_eq_true, if_false]

theorem exec_intakeParseDone (h : s.parseReady f = true) :
    exec (.intakeParseDone frame .ok) s = .next ((s.parseDone f).checkFrame frame) := by
  have hkey := (frame?_eq_some hf).2
  change execIntakeParseDone frame .ok s = _
  simp only [execIntakeParseDone, hf, h, if_true, State.endParse, State.engineEnd, reduceCtorEq, if_false, hkey]

end

section
variable {s : State} {f : Frame} {i : Nat} (hstrand : f.strand = some i)
include hstrand

theorem parseDone_rejected (htimed : f.kind.timed = true)
    (hparse : parseFrame (s.descSet f.dset) (s.descTables (s.descSet f.dset)) f.bytes = none) :
    s.parseDone f = ((s.dropGrants f.key .intake).count Fld.INT_PARSE_CNT).refuseFrame { f with used := 1 } .parse := by
  unfold State.parseDone
  simp only [hstrand]
  change (match parseFrame (s.descSet f.dset) (s.descTables (s.descSet f.dset)) f.bytes with
    | none => _
    | some fields => _) = _
  simp only [hparse, htimed, if_true]

theorem parseDone_accepted {fields : List PField}
    (hparse : parseFrame (s.descSet f.dset) (s.descTables (s.descSet f.dset)) f.bytes = some fields) :
    s.parseDone f = (s.dropGrants f.key .intake).handOver i f fields := by
  unfold State.parseDone
  simp only [hstrand]
  change (match parseFrame (s.descSet f.dset) (s.descTables (s.descSet f.dset)) f.bytes with
    | none => _
    | some fields => _) = _
  simp only [hparse]

end

/-- The one frame of its key that a refusal leaves. -/
theorem refuseFrame_frame (s : State) (f : Frame) (r : Reason) : ∃ g ∈ (s.refuseFrame f r).frames,
    (∀ h ∈ (s.refuseFrame f r).frames, h.key = f.key → h = g) ∧ (s.refuseFrame f r).frame? f.key = some g ∧
      ∃ epoch cset dflt, g = asRefused f r s.refusalId.1 epoch cset dflt := by
  obtain ⟨epoch, cset, dflt, hframes⟩ := refuseFrame_frames s f r
  have hothers : ∀ h ∈ s.frames.filter (fun g => g.key != f.key), h.key ≠ f.key := fun h hh => bne_iff_ne.mp (List.mem_filter.mp hh).2
  refine ⟨_, hframes ▸ List.mem_append_right _ List.mem_cons_self, fun h hh hk => ?_, ?_, epoch, cset, dflt, rfl⟩
  · rw [hframes] at hh
    rcases List.mem_append.mp hh with hold | hnew
    · exact absurd hk (hothers h hold)
    · exact List.mem_singleton.mp hnew
  · rw [State.frame?, hframes, List.find?_append, List.find?_eq_none.mpr fun h hh => by simpa using hothers h hh]
    simp [asRefused]

/-- R19, R20: a frame handed to its Strand, and the Strand's next sequence number. -/
structure Identified (s : State) (i : Nat) (f : Frame) (p : State × Frame) : Prop where
  key : p.2.key = f.key
  phase : p.2.phase = .inside
  fields : p.2.fields = f.fields
  handTick : p.2.handTick = s.now
  strand : p.2.strand = f.strand
  id : p.2.id = s.frameId i (s.strand i).seq
  seq : (p.1.strand i).seq = ((s.strand i).seq + 1) % (if i = 31 then 2 ^ 42 else 2 ^ 43)

theorem identify_timed (s : State) {i : Nat} {f : Frame} (h : f.kind.timed = true) (hi : i < s.strands.length) :
    Identified s i f (s.identify i f) := by
  have htaken : ((s.takeSeqOf i).2.strand i).seq = ((s.strand i).seq + 1) % (if i = 31 then 2 ^ 42 else 2 ^ 43) :=
    congrArg (fun x => x.seq) (strand_modStrand_same _ hi)
  unfold State.identify
  rw [h, Bool.not_true, if_neg Bool.false_ne_true]
  split
  rename_i seq s₁ htake
  have hseq : seq = (s.strand i).seq := (congrArg Prod.fst htake).symm
  have hs₁ : s₁ = (s.takeSeqOf i).2 := (congrArg Prod.snd htake).symm
  have hid : s₁.frameId i seq = s.frameId i (s.strand i).seq := by rw [hseq, hs₁]; rfl
  have hnow : s₁.now = s.now := by rw [hs₁]; rfl
  rw [← hs₁] at htaken
  extract_lets id
  split
  extract_lets g s₂
  refine ⟨rfl, rfl, rfl, hnow, rfl, hid, ?_⟩
  have hstrands : s₂.strands = s₁.strands := by
    simp only [s₂]
    split <;> rfl
  rw [strand_congr hstrands, htaken]

section
variable {s : State} {i : Nat} {f : Frame} (fields : List PField) (htimed : f.kind.timed = true) (hi : i < s.strands.length)
  (hmem : f ∈ s.frames)
include htimed hi hmem

/-- Step 9 of an arrival: the frame that is handed over stands among the frames, and its Strand goes on in sequence. -/
theorem handOver_frame : (∃ g ∈ (s.handOver i f fields).frames, g.key = f.key ∧ g.phase = .inside ∧ g.fields = fields ∧
    g.handTick = s.now ∧ g.strand = f.strand ∧ g.id = s.frameId i (s.strand i).seq) ∧
    ((s.handOver i f fields).strand i).seq = ((s.strand i).seq + 1) % (if i = 31 then 2 ^ 42 else 2 ^ 43) := by
  unfold State.handOver
  extract_lets +onlyGivenNames f₁ carry
  split
  rename_i ms carry' _
  extract_lets +onlyGivenNames s₁ sum s₂ tooLong s₃ f₂
  have hcount : Touches [.reg] s s₁ := State.countBy_touches s _ _
  have hstream : Touches [.streams] s₁ s₂ := by
    unfold s₂
    split
    · exact State.modStream_touches _ _ _
    · exact Touches.refl _ _
  have hover : Touches [.reg] s₂ s₃ := Touches.ite (State.count_touches _ _) (Touches.refl _ _)
  have htouch : Touches [.reg, .streams] s s₃ := (hcount.mono rfl).trans ((hstream.mono rfl).trans (hover.mono rfl))
  have hnode : s₃.node = s.node := by
    have hfirst : s₁.node = s.node := get_countBy_ne s _ (by decide)
    have hsecond : s₂.node = s₁.node := get_congr (hstream.reg_eq (by decide)) _
    refine Eq.trans ?_ (hsecond.trans hfirst)
    simp only [s₃]
    split
    · exact get_count_ne s₂ (by decide)
    · rfl
  have hbase : f₂.kind = f.kind ∧ f₂.key = f.key ∧ f₂.fields = fields ∧ f₂.strand = f.strand := ⟨rfl, rfl, rfl, rfl⟩
  clear_value s₃ f₂
  obtain ⟨hkind, hkey, hfields, hstrand⟩ := hbase
  have hidentified := identify_timed (f := f₂) s₃ (hkind ▸ htimed) (htouch.strands_eq (by decide) ▸ hi)
  split
  rename_i s₄ f₃ hidentify
  rw [hidentify] at hidentified
  split
  rename_i s₅ f₄ hform
  have hjobs : Touches [.streams] s₄ s₅ := Touches.of_fst hform (State.formJobs_touches _ _ _ _)
  have hbare₄ : bareOf f₄ = bareOf f₃ := by rw [← formJobs_bare s₄ i f₃, hform]
  split
  rename_i s₆ f₅ hqueue
  have hqueued : Touches [.reg] s₅ s₆ := Touches.of_fst hqueue (State.enterQueue_touches _ _ _)
  have hbare : bareOf f₅ = bareOf f₃ := by rw [← hbare₄, ← enterQueue_bare s₅ i f₄, hqueue]
  have hnamed : Touches [.strands, .streams] s₃ s₄ := Touches.of_fst hidentify (State.identify_touches _ _ _)
  have hlate : Touches [.reg, .streams] s₄ s₆ := (hjobs.mono rfl).trans (hqueued.mono rfl)
  have hframes : s₆.frames = s.frames :=
    (hlate.frames_eq (by decide)).trans ((hnamed.frames_eq (by decide)).trans (htouch.frames_eq (by decide)))
  have hsame : s₃.strand i = s.strand i := htouch.strand_eq (by decide) i
  have hkey₅ : f₅.key = f.key := (bareOf_key hbare).trans (hidentified.key.trans hkey)
  refine ⟨⟨f₅, mem_modFrame (fun _ => f₅) (hframes ▸ hmem) hkey₅.symm, hkey₅, ?_, ?_, ?_, ?_, ?_⟩, ?_⟩
  · exact (bareOf_phase hbare).trans hidentified.phase
  · exact (bareOf_fields hbare).trans (hidentified.fields.trans hfields)
  · exact (bareOf_handTick hbare).trans (hidentified.handTick.trans (htouch.now_eq (by decide)))
  · exact (bareOf_strand hbare).trans (hidentified.strand.trans hstrand)
  · refine (bareOf_id hbare).trans (hidentified.id.trans ?_)
    simp only [State.frameId, hnode, hsame]
  · rw [(State.putFrame_touches s₆ f₅).strand_eq (by decide), hlate.strand_eq (by decide), hidentified.seq, hsame]

end

/-! STREAM_IDLE_TIMEOUT -/

section
variable {s : State} {stream : Nat} {x : Stream} (hx : s.stream? stream = some x)
include hx

theorem exec_streamIdleTimeout (h : s.streamIdle x = true) : exec (.streamIdleTimeout stream) s = .next (s.closeIdle x) := by
  change execStreamIdleTimeout stream s = _
  simp only [execStreamIdleTimeout, hx, h, if_true]

theorem exec_streamIdleTimeout_open (h : s.streamIdle x = false) : exec (.streamIdleTimeout stream) s = .next s := by
  change execStreamIdleTimeout stream s = _
  simp only [execStreamIdleTimeout, hx, h, Bool.false_eq_true, if_false]

theorem stream_key : x.key = stream := eq_of_beq (List.find?_some (p := fun y : Stream => y.key == stream) hx)

end

theorem exec_streamIdleTimeout_none {s : State} {stream : Nat} (h : s.stream? stream = none) :
    exec (.streamIdleTimeout stream) s = .next s := by
  change execStreamIdleTimeout stream s = _
  simp only [execStreamIdleTimeout, h]

theorem chunkText_stream (x : Stream) (slot : Nat) (final : Bool) (text : Bytes) :
    (chunkText x slot final text).2.closed = x.closed ∧ (chunkText x slot final text).2.key = x.key := by
  unfold chunkText
  extract_lets
  split <;> exact ⟨rfl, rfl⟩

theorem foldl_stream {jobs : List TextJob} {step : List TextJob × Stream → TextJob → List TextJob × Stream}
    (h : ∀ acc j, (step acc j).2.closed = acc.2.closed ∧ (step acc j).2.key = acc.2.key) (acc : List TextJob × Stream) :
    (jobs.foldl step acc).2.closed = acc.2.closed ∧ (jobs.foldl step acc).2.key = acc.2.key := by
  induction jobs generalizing acc with
  | nil => exact ⟨rfl, rfl⟩
  | cons j jobs ih => exact ⟨(ih _).1.trans (h acc j).1, (ih _).2.trans (h acc j).2⟩

/-- The stream that takes the carries of its jobs is the one it was, and as closed. -/
theorem streamTexts_stream (x : Stream) (final : Bool) (jobs : List TextJob) :
    (streamTexts x final jobs).2.closed = x.closed ∧ (streamTexts x final jobs).2.key = x.key :=
  foldl_stream (fun acc j => chunkText_stream acc.2 j.slot final j.text) ([], { x with tail := _ })

/-- Every stream of a key is closed. -/
def Closed (s : State) (k : Nat) : Prop := ∀ y ∈ s.streams, y.key = k → y.closed = true

theorem Closed.of_streams {s t : State} {k : Nat} (h : Closed s k) (ht : t.streams = s.streams) : Closed t k :=
  fun y hy => h y (ht ▸ hy)

/-- A stream put in the place of those with its key, as closed as the one it comes from. -/
theorem Closed.modStream {s : State} {k : Nat} (h : Closed s k) {x y : Stream} (hx : x ∈ s.streams) (hkey : y.key = x.key)
    (hclosed : y.closed = x.closed) : Closed (s.modStream x.key (fun _ => y)) k := by
  intro z hz hzk
  obtain ⟨w, hw, rfl⟩ := List.mem_map.mp hz
  split at hzk
  next hp =>
    rw [if_pos hp, hclosed]
    exact h x hx (hkey.symm.trans hzk)
  next hp =>
    rw [if_neg hp]
    exact h w hw hzk

theorem formJobs_closed {s : State} {k : Nat} (h : Closed s k) (i : Nat) (f : Frame) (spec : Bool) : Closed (s.formJobs i f spec).1 k := by
  unfold State.formJobs
  extract_lets jobs
  split
  rename_i jobs' s₁ hjobs
  have hclosed : Closed s₁ k := by
    split at hjobs
    next x hstream =>
      obtain ⟨n, -, hn⟩ := Option.bind_eq_some_iff.mp hstream
      have hs₁ : s₁ = s.modStream x.key (fun _ => (streamTexts x f.final jobs).2) := (congrArg Prod.snd hjobs).symm
      rw [hs₁]
      exact h.modStream (List.mem_of_find?_eq_some hn) (streamTexts_stream x f.final jobs).2 (streamTexts_stream x f.final jobs).1
    next =>
      have hs₁ : s₁ = s := (congrArg Prod.snd hjobs).symm
      rw [hs₁]
      exact h
  split
  exact hclosed

/-- A stream that closes, and the frame of its closing screening. -/
def State.closing (s : State) (x : Stream) : State :=
  { s.modStream x.key (fun x => { x with closed := true }) with nextFrame := s.nextFrame + 1 }

theorem closing_closed (s : State) (x : Stream) : Closed (s.closing x) x.key := by
  intro y hy hk
  obtain ⟨z, -, rfl⟩ := List.mem_map.mp hy
  split
  next => rfl
  next hp => exact absurd (beq_iff_eq.mpr (by rwa [if_neg hp] at hk)) hp

/-- R40: the closing screening of a stream whose Strand is SERVING begins. -/
theorem closeIdle_serving {s : State} {x : Stream} (hserving : s.strandState x.strand = .serving) :
    Closed (s.closeIdle x) x.key ∧ (s.closeIdle x).nextFrame = s.nextFrame + 1 ∧
      ∃ f ∈ (s.closeIdle x).frames, bareOf f = bareOf (s.closeFrame x) := by
  have hclose : s.closeIdle x = let p := (s.closing x).formJobs x.strand (s.closeFrame x) false
      ({ p.1 with frames := p.1.frames ++ [p.2] }).checkFrame p.2.key := by
    unfold State.closeIdle
    extract_lets s₁ f s₂
    split
    next => rfl
    next h => exact absurd hserving h
  rw [hclose]
  extract_lets p
  have hjobs : Touches [.streams] (s.closing x) p.1 := State.formJobs_touches _ _ _ _
  have hcheck := State.checkFrame_touches { p.1 with frames := p.1.frames ++ [p.2] } p.2.key
  refine ⟨?_, ?_, ?_⟩
  · exact (formJobs_closed (closing_closed s x) _ _ _).of_streams (hcheck.streams_eq (by decide))
  · rw [hcheck.nextFrame_eq (by decide)]
    exact hjobs.nextFrame_eq (by decide)
  · obtain ⟨g, hg, hbare⟩ := (checkFrame_bare { p.1 with frames := p.1.frames ++ [p.2] } p.2.key).exists
      (List.mem_append_right _ List.mem_cons_self)
    exact ⟨g, hg, hbare.trans (formJobs_bare _ _ _ _)⟩

theorem forgetFrame_frames (s : State) (f : Frame) : (s.forgetFrame f).frames = s.frames.filter (fun g => g.key != f.key) :=
  (State.closeStream_touches _ f).frames_eq (by decide)

theorem forgetFrame_streams {s : State} {f : Frame} {k : Nat} (hk : f.stream = some k) (hfinal : f.final = true) :
    (s.forgetFrame f).streams = s.streams.filter (fun x => x.key != k) := by
  simp only [State.forgetFrame, State.closeStream, hk, hfinal, if_true]

/-- R40, R394: a closing screening that ends takes its frame and its stream with it. -/
theorem endStreamClose_gone {s : State} {f : Frame} {k : Nat} (hk : f.stream = some k) (chunks lastId : Nat) :
    (∀ y ∈ (s.endStreamClose f chunks lastId).streams, y.key ≠ k) ∧ ∀ g ∈ (s.endStreamClose f chunks lastId).frames, g.key ≠ f.key := by
  unfold State.endStreamClose
  extract_lets f₁ ident s₁ s₂
  have hkey : f₁.key = f.key := rfl
  have hstreams : ∀ y ∈ s₂.streams, y.key ≠ k := by
    intro y hy
    rw [forgetFrame_streams (k := k) (by exact hk) rfl] at hy
    exact bne_iff_ne.mp (List.mem_filter.mp hy).2
  have hframes : ∀ g ∈ s₂.frames, g.key ≠ f.key := by
    intro g hg
    rw [forgetFrame_frames] at hg
    exact bne_iff_ne.mp (List.mem_filter.mp hg).2
  clear_value s₂
  split
  next i _ =>
    refine ⟨(State.queueFreed_touches s₂ i).streams_eq (by decide) ▸ hstreams, fun g hg => ?_⟩
    obtain ⟨h, hh, hbare⟩ := (queueFreed_bare s₂ i).from hg
    exact bareOf_key hbare ▸ hframes h hh
  next => exact ⟨hstreams, hframes⟩

theorem closeIdle_other {s : State} {x : Stream} (hserving : s.strandState x.strand ≠ .serving) :
    (∀ y ∈ (s.closeIdle x).streams, y.key ≠ x.key) ∧ ∀ f ∈ (s.closeIdle x).frames, f.key ≠ s.nextFrame := by
  have hclose : s.closeIdle x = ({ s.closing x with frames := s.frames ++ [{ s.closeFrame x with causes := [.noStrand] }] }).endStreamClose
      { s.closeFrame x with causes := [.noStrand] } x.chunks x.frameId := by
    unfold State.closeIdle
    extract_lets s₁ f s₂
    split
    next h => exact absurd h hserving
    next => rfl
  rw [hclose]
  exact endStreamClose_gone rfl _ _

theorem closeFrame_tDl (s : State) (x : Stream) :
    (s.closeFrame x).tDl = w64 (s.now + s.get (Fld.TID_CLASS_CLOSE_CLOSE_US x.cls) * 500 - 300) := by
  unfold State.closeFrame
  rfl

/-! O28 -/

/-- Settles O28: the end of a parse and of an idle stream, case by case, from the equation of what each answers. -/
theorem parsesAndStreams : Obligations.ParsesAndStreams := by
  unfold Obligations.ParsesAndStreams
  refine ⟨?rejected, ?accepted, ?early, ?absent, ?closing, ?ended, ?busy, ?unknown⟩
  case rejected =>
    intro frame i f s hf hready hstrand htimed hparse
    obtain ⟨-, hkey⟩ := frame?_eq_some hf
    have hexec := exec_intakeParseDone hf hready
    have htouch := (execIntakeParseDone_answers frame .ok s).stays _ hexec
    have hdone := parseDone_rejected hstrand htimed hparse
    obtain ⟨g, hmem, honly, hfound, hg⟩ := refuseFrame_frame ((s.dropGrants f.key .intake).count Fld.INT_PARSE_CNT) { f with used := 1 } .parse
    rw [← hdone, hkey] at hfound honly
    rw [← hdone] at hmem
    obtain ⟨epoch, cset, dflt, rfl⟩ := hg
    rw [checkFrame_of_refused hfound rfl] at hexec htouch
    refine ⟨_, hexec, ⟨_, hmem, hkey, rfl, rfl, rfl⟩, fun g hg hgkey => ?_, ?_, ?_, ?_, htouch⟩
    · rw [honly g hg hgkey]
      rfl
    · rw [hdone, (State.refuseFrame_touches _ _ _).grants_eq (by decide), hkey]
      rfl
    · rw [hdone, get_congr (refuseFrame_reg _ _ _), count_get_of_whole _ rfl rfl (by decide)]
      rfl
    · rw [hdone, refuseFrame_refused]
      rfl
  case accepted =>
    intro frame i fields f s hinv hf hready hstrand hi htimed hparse
    obtain ⟨hmem, hkey⟩ := frame?_eq_some hf
    have hexec := exec_intakeParseDone hf hready
    have htouch := (execIntakeParseDone_answers frame .ok s).stays _ hexec
    have hdone := parseDone_accepted hstrand hparse
    obtain ⟨⟨g, hg, hgkey, hphase, hfields, htick, hgstrand, hid⟩, hseq⟩ :=
      handOver_frame (s := s.dropGrants f.key .intake) (i := i) fields htimed (hinv.strands.symm ▸ hi) hmem
    rw [← hdone] at hg hseq
    obtain ⟨g', hg', hbare⟩ := (checkFrame_bare (s.parseDone f) frame).exists hg
    refine ⟨_, hexec, ⟨g', hg', (bareOf_key hbare).trans (hgkey.trans hkey), (bareOf_phase hbare).trans hphase,
      (bareOf_fields hbare).trans hfields, (bareOf_handTick hbare).trans htick, (bareOf_strand hbare).trans (hgstrand.trans hstrand),
      (bareOf_id hbare).trans hid⟩, ?_, ?_, htouch⟩
    · rw [(State.checkFrame_touches _ _).grants_eq (by decide), hdone, (State.handOver_touches _ _ _ _).grants_eq (by decide), hkey]
      rfl
    · rw [(State.checkFrame_touches _ _).strand_eq (by decide), hseq]
      rfl
  case early => exact fun frame work f s hf h => exec_intakeParseDone_early hf work h
  case absent => exact fun frame work s h => exec_intakeParseDone_none work h
  case closing =>
    intro stream x s hx hidle hserving
    have hexec := exec_streamIdleTimeout hx hidle
    obtain ⟨hclosed, hnext, f, hf, hbare⟩ := closeIdle_serving hserving
    rw [stream_key hx] at hclosed
    exact ⟨_, hexec, hclosed, hnext, ⟨f, hf, bareOf_key hbare, bareOf_kind hbare, bareOf_strand hbare, bareOf_tArr hbare,
      (bareOf_tDl hbare).trans (closeFrame_tDl s x)⟩,
      (execStreamIdleTimeout_answers stream s).stays _ hexec⟩
  case ended =>
    intro stream x s hx hidle hserving
    have hexec := exec_streamIdleTimeout hx hidle
    obtain ⟨hgone, hframes⟩ := closeIdle_other hserving
    rw [stream_key hx] at hgone
    refine ⟨_, hexec, hgone, List.all_eq_true.mpr fun f hf => bne_iff_ne.mpr (hframes f hf),
      (execStreamIdleTimeout_answers stream s).stays _ hexec⟩
  case busy => exact fun stream x s hx h => exec_streamIdleTimeout_open hx h
  case unknown => exact fun stream s h => exec_streamIdleTimeout_none h

end Sys2Proof.Machine
end

section
/-!
SUPPORT. The length of what a release writes over a frame's bytes (O30; R44, R110, R113, R381).
-/
namespace Sys2Proof

theorem length_overwrite (bs : Bytes) (off : Nat) (new : Bytes) : (overwrite bs off new).length = bs.length := by
  simp only [overwrite, List.length_append, List.length_take, List.length_drop]
  omega

theorem length_fixL4 (old new : Bytes) (w : Layers) : (fixL4 old new w).length = new.length := by
  unfold fixL4
  split
  · rfl
  · extract_lets
    split
    · rfl
    · split
      · rfl
      · split
        · rfl
        · rw [length_overwrite, length_overwrite]

theorem length_fixIp (old new : Bytes) (w : Layers) : (fixIp old new w).length = new.length := by
  unfold fixIp
  split
  · extract_lets
    rw [length_overwrite, length_overwrite]
  · rfl

theorem length_fixChecksums (old new : Bytes) : (fixChecksums old new).length = new.length :=
  (length_fixIp old _ _).trans (length_fixL4 old new _)

namespace Machine

theorem length_fillAt (bs : Bytes) (fill : Byte) (offs : List Nat) : (fillAt bs fill offs).length = bs.length := by
  simp [fillAt, upto]

end Machine
end Sys2Proof
end

section
/-!
SUPPORT. How far a chain has come (O30; R388, R390, R393), and what a release leaves of registers (R412 to R414).
-/
namespace Sys2Proof.Machine

theorem chain_setChain {s : State} {ch : Nat} {c : Chain} (h : c ≠ Chain.empty) : (s.setChain ch c).chain ch = c :=
  tab_getD_putD_of_ne s.acc.chains ch h

theorem ne_empty_of_count {c : Chain} (h : 0 < c.count) : c ≠ Chain.empty := by
  rintro rfl
  exact Nat.lt_irrefl 0 h

/-- A record that finds room joins its chain. -/
theorem joinChain_count_lt {s : State} {ch : Nat} (content : Bytes) (counted : Bool) (h : s.acc.buffer.length < s.bufRoom) :
    (s.chain ch).count < ((s.joinChain ch content counted).chain ch).count := by
  unfold State.joinChain
  extract_lets +onlyGivenNames c content
  rw [if_pos h]
  extract_lets +onlyGivenNames v n rec_ acc s₁
  rw [chain_setChain (ne_empty_of_count (Nat.succ_pos _))]
  exact Nat.lt_succ_self _

section
variable {s : State} {ch : Nat} (h : 0 < (s.chain ch).count)
include h

/-- A chain that has begun never falls back. -/
theorem joinChain_count_le (content : Bytes) (counted : Bool) :
    (s.chain ch).count ≤ ((s.joinChain ch content counted).chain ch).count := by
  unfold State.joinChain
  extract_lets +onlyGivenNames c content
  split
  · extract_lets +onlyGivenNames v n rec_ acc s₁
    rw [chain_setChain (ne_empty_of_count (Nat.succ_pos _))]
    exact Nat.le_succ _
  · extract_lets +onlyGivenNames s₁
    split
    · extract_lets +onlyGivenNames fid
      rw [chain_setChain]
      exact ne_empty_of_count h
    · rw [chain_setChain]
      exact ne_empty_of_count h

theorem sealChain_count_le : (s.chain ch).count ≤ ((s.sealChain ch).chain ch).count := by
  unfold State.sealChain
  extract_lets +onlyGivenNames c slot head m r t s₁ s₂
  have hfirst : (s.chain ch).count ≤ (s₁.chain ch).count := joinChain_count_le h _ _
  have hsecond : (s₁.chain ch).count ≤ (s₂.chain ch).count := joinChain_count_le (Nat.lt_of_lt_of_le h hfirst) _ _
  clear_value s₁ s₂
  change _ ≤ ((s₂.setChain ch { s₂.chain ch with sinceSeal := 0, sealTick := s₂.now }).chain ch).count
  rw [chain_setChain (ne_empty_of_count (by show 0 < (s₂.chain ch).count; omega))]
  exact Nat.le_trans hfirst hsecond

theorem foldl_joinChain_count_le (contents : List Bytes) :
    (s.chain ch).count ≤ ((contents.foldl (fun s c => s.joinChain ch c true) s).chain ch).count := by
  induction contents generalizing s with
  | nil => exact Nat.le_refl _
  | cons c contents ih =>
    have hstep := joinChain_count_le h c true
    exact Nat.le_trans hstep (ih (Nat.lt_of_lt_of_le h hstep))

end

/-- R388, R389: records that join a started chain with room in the buffer bring it further. -/
theorem appendAll_count_lt {s : State} {ch : Nat} (content : Bytes) (contents : List Bytes) (hstarted : (s.chain ch).started = true)
    (hrun : s.stopped = false) (hroom : s.acc.buffer.length < s.bufRoom) :
    (s.chain ch).count < ((s.appendAll ch (content :: contents)).chain ch).count := by
  have hfirst := joinChain_count_lt (ch := ch) content true hroom
  have hrest := foldl_joinChain_count_le (Nat.lt_of_le_of_lt (Nat.zero_le _) hfirst) contents
  unfold State.appendAll State.sealDue
  rw [hstarted, hrun, Bool.not_false, Bool.and_self, if_pos rfl, List.foldl_cons]
  split
  · exact Nat.lt_of_lt_of_le hfirst (Nat.le_trans hrest (sealChain_count_le (by omega)))
  · exact Nat.lt_of_lt_of_le hfirst hrest

/-- What an operation may put out, it adds. -/
theorem Touches.mem_out {ps : List Part} {s t : State} (h : Touches ps s t) {o : Output} (ho : o ∈ s.out) : o ∈ t.out := by
  rcases h.2 .out with ⟨-, new, hnew⟩ | hsame
  · exact hnew ▸ List.mem_append_right _ ho
  · exact hsame ▸ ho

/-! What a result record changes -/

section
variable {off : Nat} (hoff : 0x30000 ≤ off ∧ off < (Fld.MSIX_PBA 0).off)
include hoff

theorem resultRecord_regWord (s : State) {ring : Nat} (hring : ring < 16) (kind frameId : Nat) (payload : Bytes) (req seq : Nat) :
    (s.resultRecord ring kind frameId payload req seq).1.regWord off = s.regWord off := by
  unfold State.resultRecord
  split
  next h => exact writeRecord_regWord hoff.2 h
  next =>
    refine (event_regWord hoff.2 _ _ _ _ ?_).trans (loseRecord_regWord s ?_)
    · simp only [Fld.HIF_RING_LOST_CNT, ringEvt]
      omega
    · simp only [Fld.HIF_RING_LOST_CNT, ringRr]
      omega

/-- One of the records of `postResult`, where it is due. -/
theorem dueRecord_regWord (s : State) (due : Prop) [Decidable due] {ring : Nat} (hring : ring < 16) (kind frameId : Nat) (payload : Bytes) :
    (if due then ((s.resultRecord ring kind frameId payload 0 0).2, (s.resultRecord ring kind frameId payload 0 0).1) else (true, s)).2.regWord off
      = s.regWord off := by
  split
  · exact resultRecord_regWord hoff s hring _ _ _ _ _
  · rfl

theorem postResult_regWord (s : State) (f : Frame) : (s.postResult f).2.regWord off = s.regWord off := by
  have hring : bits (s.get Fld.HIF_CLASS_RING) (4 * f.cls) 4 < 16 := bits_lt _ _ 4
  refine Eq.trans ?_ (dueRecord_regWord hoff s (s.oobDue f = true) hring 2 f.id (annotation f))
  exact dueRecord_regWord hoff _ (f.action = .holdToHost) hring 3 f.id (annotation f ++ f.bytes)

end

end Sys2Proof.Machine
end

section
/-!
SUPPORT. RELEASE_LEAD, FRAME_RELEASE and TAP_COPY_TX (O30; R31, R33, R43, R44, R107, R110 to R122).
-/
namespace Sys2Proof.Machine

/-! RELEASE_LEAD -/

/-- The state in which a frame's held bytes have been fetched: an error in them is a fault of the HBM. -/
def State.fetched (s : State) : UnitEnd → State
  | .ok => s
  | .ce => s.hbmCe
  | .ue => s.hbmUe 0

/-- What leaves in a frame's place hangs on these of its fields. -/
theorem emission_congr (s : State) {f g : Frame} (hecc : g.holdEcc = f.holdEcc) (hact : g.action = f.action)
    (hverdict : g.verdict = f.verdict) (hcls : g.cls = f.cls) : s.emission g = s.emission f := by
  simp only [State.emission, hecc, hact, hverdict, hcls]

/-- A frame after its lead, from the frame before. -/
structure Led (s : State) (f : Frame) (bad : Bool) (g : Frame) : Prop where
  key : g.key = f.key
  led : g.led = true
  holdEcc : g.holdEcc = bad
  verdict : g.verdict = f.verdict
  action : g.action = if bad then .dropWithNotice else f.action
  tRel : g.tRel = f.tRel
  unredacted : bad = true → g.redactMatches = 0
  out : bad = f.holdEcc → g.action = f.action → s.msec (portIdx (opposite f.port)) = false →
    (g.out = none ∧ s.emission f = .nothing) ∨ (s.emission f = .frame ∧ g.out.map List.length = some f.bytes.length) ∨
      (s.emission f = .notice ∧ g.out.isSome = true)

theorem releaseLead_led (s : State) (f : Frame) (e : UnitEnd) : ∃ g, Led (s.fetched e) f (e == .ue && !f.invalidClass) g ∧
    (s.releaseLead f e).frames = mapWhere (s.fetched e).frames (fun x => x.key == f.key) (fun _ => g) := by
  unfold State.releaseLead
  extract_lets +onlyGivenNames s₁ bad f₁
  split
  rename_i offs matches_ _
  extract_lets +onlyGivenNames offs' f₂ fill body
  split
  rename_i inband slot _
  extract_lets +onlyGivenNames annotated f₃ ann ann' marked out p
  split
  rename_i sent s₂ hsent
  extract_lets +onlyGivenNames f₄ s₃
  have hs₁ : s₁ = s.fetched e := rfl
  have hf₃ : f₃.holdEcc = bad ∧ f₃.action = (if bad then .dropWithNotice else f.action) ∧ f₃.verdict = f.verdict ∧ f₃.cls = f.cls ∧
      f₃.bytes = f.bytes ∧ f₃.port = f.port := ⟨rfl, rfl, rfl, rfl, rfl, rfl⟩
  have hf₄ : f₄.key = f.key ∧ f₄.led = true ∧ f₄.holdEcc = bad ∧ f₄.verdict = f.verdict ∧
      f₄.action = (if bad then .dropWithNotice else f.action) ∧ f₄.tRel = f.tRel ∧
      f₄.redactMatches = (if bad then 0 else matches_) ∧ f₄.out = sent := ⟨rfl, rfl, rfl, rfl, rfl, rfl, rfl, rfl⟩
  have hbad : bad = (e == .ue && !f.invalidClass) := rfl
  have hmarked : marked.length = f.bytes.length := by
    have hbody : body.length = f.bytes.length := length_fillAt f.bytes _ _
    unfold marked
    split
    · exact (length_overwrite _ _ _).trans hbody
    · exact hbody
  have hsend : s₂.frames = s₁.frames ∧ (s₁.msec p = false → sent = out) := by
    clear_value out
    cases out with
    | none =>
      cases hsent
      exact ⟨rfl, fun _ => rfl⟩
    | some bs =>
      have hs₂ : s₂ = (s₁.protect p bs).2 := (congrArg Prod.snd hsent).symm
      have hprotect : sent = (s₁.protect p bs).1 := (congrArg Prod.fst hsent).symm
      refine ⟨hs₂ ▸ (State.protect_touches s₁ p bs).frames_eq (by decide), fun hm => hprotect.trans ?_⟩
      simp only [State.protect, hm, Bool.not_false, if_true]
  have hout : out = match s₁.emission f₃ with
    | .nothing => none
    | .notice => some (s₁.notice f₃)
    | .frame => some (fixChecksums f₃.bytes marked) := rfl
  have hs₃ : s₃.frames = mapWhere s₂.frames (fun x => x.key == f₄.key) (fun _ => f₄) := rfl
  have hp : p = portIdx (opposite f₃.port) := rfl
  clear_value f₃ marked s₁ s₃ f₄ p out bad
  obtain ⟨hecc, hact, hverdict, hcls, hbytes, hport⟩ := hf₃
  obtain ⟨hkey₄, hled₄, hecc₄, hverdict₄, hact₄, htRel₄, hmatches₄, hsent₄⟩ := hf₄
  have hdone : Led (s.fetched e) f (e == .ue && !f.invalidClass) f₄ := by
    rw [← hs₁, ← hbad]
    refine ⟨hkey₄, hled₄, hecc₄, hverdict₄, hact₄, htRel₄, fun h => hmatches₄.trans (if_pos h), fun hb ha hm => ?_⟩
    have hemission : s₁.emission f₃ = s₁.emission f :=
      emission_congr s₁ (hecc.trans hb) (hact.trans (hact₄.symm.trans ha)) hverdict hcls
    rw [hsent₄, hsend.2 (by rw [hp, hport, hm]), hout, hemission]
    cases s₁.emission f with
    | nothing => exact .inl ⟨rfl, rfl⟩
    | frame => exact .inr (.inl ⟨rfl, congrArg some ((length_fixChecksums _ _).trans hmarked)⟩)
    | notice => exact .inr (.inr ⟨rfl, rfl⟩)
  have hframes : s₃.frames = mapWhere (s.fetched e).frames (fun x => x.key == f.key) (fun _ => f₄) := by
    rw [hs₃, hsend.1, hdone.key, hs₁]
  refine ⟨f₄, hdone, ?_⟩
  split
  · split
    rename_i bs s₄ htap
    have hcopied : s₄.frames = s₃.frames := (Touches.of_snd htap (State.tapBytes_touches _ _ _)).frames_eq (by decide)
    exact hcopied.trans hframes
  · exact hframes

/-- What stands in the place of the frames of a key. -/
theorem eq_of_mem_replaced {l : List Frame} {k : Nat} {g x : Frame} (hx : x ∈ mapWhere l (fun x => x.key == k) (fun _ => g))
    (hk : x.key = k) : x = g := by
  obtain ⟨y, -, rfl⟩ := List.mem_map.mp hx
  split
  next => rfl
  next hp => exact absurd (beq_iff_eq.mpr (by rwa [if_neg hp] at hk)) hp

theorem map_key_replaced {l : List Frame} {k : Nat} {g : Frame} (hg : g.key = k) :
    (mapWhere l (fun x => x.key == k) (fun _ => g)).map (fun x => x.key) = l.map (fun x => x.key) := by
  rw [mapWhere, List.map_map]
  refine List.map_congr_left fun x _ => ?_
  rw [Function.comp_apply]
  split
  next hp => exact hg.trans (beq_iff_eq.mp hp).symm
  next => rfl

section
variable {s : State} {frame : Nat} {f : Frame} (hf : s.frame? frame = some f)
include hf

theorem exec_releaseLead (fetch : UnitEnd) (h : s.leadDue f = true) : exec (.releaseLead frame fetch) s = .next (s.releaseLead f fetch) := by
  change execReleaseLead frame fetch s = _
  simp only [execReleaseLead, hf, h, if_true]

theorem exec_releaseLead_early (fetch : UnitEnd) (h : s.leadDue f = false) : exec (.releaseLead frame fetch) s = .next s := by
  change execReleaseLead frame fetch s = _
  simp only [execReleaseLead, hf, h, Bool.false_eq_true, if_false]

theorem exec_frameRelease (h : s.releaseDue f = true) : exec (.frameRelease frame) s = .next (s.disposeFrame f) := by
  change execFrameRelease frame s = _
  simp only [execFrameRelease, hf, h, if_true]

theorem exec_frameRelease_early (h : s.releaseDue f = false) : exec (.frameRelease frame) s = .next s := by
  change execFrameRelease frame s = _
  simp only [execFrameRelease, hf, h, Bool.false_eq_true, if_false]

end

section
variable {s : State} {frame : Nat} (hf : s.frame? frame = none)
include hf

theorem exec_releaseLead_none (fetch : UnitEnd) : exec (.releaseLead frame fetch) s = .next s := by
  change execReleaseLead frame fetch s = _
  simp only [execReleaseLead, hf]

theorem exec_frameRelease_none : exec (.frameRelease frame) s = .next s := by
  change execFrameRelease frame s = _
  simp only [execFrameRelease, hf]

end

/-! FRAME_RELEASE -/

/-- What a frame that is disposed of leaves behind: what went out, and the records of it. -/
structure Disposed (s : State) (f : Frame) (t : State) : Prop where
  frames : t.frames = s.frames.filter (fun g => g.key != f.key)
  calendar : t.calendar = s.calendar.filter (fun r => r.frame != f.key)
  sent : ∀ o ∈ (s.emitFrame f).2.out, o ∈ t.out
  cnt : ∀ p < 3, t.get (Fld.REL_EGRESS_LOST_CNT p) = (s.emitFrame f).2.get (Fld.REL_EGRESS_LOST_CNT p)
  chain : (s.chain (frameChain f)).started = true → s.stopped = false → s.acc.buffer.length < s.bufRoom →
    (s.chain (frameChain f)).count < (t.chain (frameChain f)).count

theorem forgetFrame_calendar (s : State) (f : Frame) : (s.forgetFrame f).calendar = s.calendar.filter (fun r => r.frame != f.key) :=
  (State.closeStream_touches _ f).calendar_eq (by decide)

theorem emitFrame_frame (s : State) (f : Frame) : (s.emitFrame f).1.key = f.key ∧ frameChain (s.emitFrame f).1 = frameChain f := by
  unfold State.emitFrame
  extract_lets
  split
  · exact ⟨rfl, rfl⟩
  · split <;> exact ⟨rfl, rfl⟩

theorem emitFrame_bufRoom (s : State) (f : Frame) : (s.emitFrame f).2.bufRoom = s.bufRoom := by
  have hcount (p : EthPort) : (s.count (Fld.REL_EGRESS_LOST_CNT (portIdx p))).get Fld.VRD_BUF_SIZE = s.get Fld.VRD_BUF_SIZE :=
    get_count_ne s (by cases p <;> decide)
  unfold State.emitFrame
  extract_lets p
  split
  · exact congrArg (· * 8192) (hcount p)
  · split <;> rfl

theorem disposeFrame_disposed (s : State) (f : Frame) : Disposed s f (s.disposeFrame f) := by
  have hroom₁ := emitFrame_bufRoom s f
  obtain ⟨hkey, hchain⟩ := emitFrame_frame s f
  have hemitted := State.emitFrame_touches s f
  unfold State.disposeFrame
  split
  rename_i f₁ s₁ hemit
  split
  rename_i full s₂ hpost
  split
  rename_i dets vskew s₃ hdet
  extract_lets s₄
  have hs₁ : s₁ = (s.emitFrame f).2 := (congrArg Prod.snd hemit).symm
  have hf₁ : f₁ = (s.emitFrame f).1 := (congrArg Prod.fst hemit).symm
  rw [← hf₁] at hkey hchain
  rw [← hs₁] at hroom₁ hemitted
  have hposted : Touches [.out, .reg, .host] s₁ s₂ := Touches.of_snd hpost (State.postResult_touches _ _)
  have hdetailed : Touches [.freeCtr] s₂ s₃ := Touches.of_snd_snd hdet (State.details_touches _ _)
  have hrecorded : Touches [.freeCtr, .out, .reg, .host] s s₃ :=
    (hemitted.mono rfl).trans ((hposted.mono rfl).trans (hdetailed.mono rfl))
  have happended : Touches [.reg, .acc] s₃ s₄ := State.appendAll_touches _ _ _
  have hforgot := State.forgetFrame_touches s₄ f₁
  have hword (off : Nat) (hoff : 0x30000 ≤ off ∧ off < (Fld.MSIX_PBA 0).off) : s₃.regWord off = s₁.regWord off := by
    have hs₂ : s₂ = (s₁.postResult f₁).2 := (congrArg Prod.snd hpost).symm
    rw [regWord_congr (hdetailed.reg_eq (by decide)), hs₂, postResult_regWord hoff]
  have hcount : (s.chain (frameChain f)).started = true → s.stopped = false → s.acc.buffer.length < s.bufRoom →
      (s.chain (frameChain f)).count < (s₄.chain (frameChain f)).count := by
    intro hstarted hrun hroom
    have hacc : s₃.acc = s.acc := hrecorded.acc_eq (by decide)
    have hsame : s₃.chain (frameChain f) = s.chain (frameChain f) := by simp only [State.chain, hacc]
    have hbuf : s₃.bufRoom = s.bufRoom := (congrArg (· * 8192) (get_of_regWord (hword _ (by decide)))).trans hroom₁
    have hlt := appendAll_count_lt (s := s₃) (ch := frameChain f) (frameRecord f₁ full vskew (isClosing f₁) false dets.length) dets
      (hsame ▸ hstarted) ((hrecorded.stopped_eq (by decide)).trans hrun) (by rw [hacc, hbuf]; exact hroom)
    rw [hsame, ← hchain] at hlt
    rwa [← hchain]
  have hlost (p : Nat) (hp : p < 3) : s₄.regWord (Fld.REL_EGRESS_LOST_CNT p).off = s₁.regWord (Fld.REL_EGRESS_LOST_CNT p).off := by
    refine (appendAll_regWord ?_ ?_ _ _ _).trans (hword _ ⟨?_, ?_⟩)
    all_goals simp only [Fld.REL_EGRESS_LOST_CNT, Fld.VRD_LOST_CNT, Fld.VRD_SEAL_CNT, Fld.MSIX_PBA]; omega
  clear_value s₄
  refine ⟨?_, ?_, fun o ho => ?_, fun p hp => ?_, fun hstarted hrun hroom => ?_⟩
  · rw [forgetFrame_frames, happended.frames_eq (by decide), hrecorded.frames_eq (by decide), hkey]
  · rw [forgetFrame_calendar, happended.calendar_eq (by decide), hrecorded.calendar_eq (by decide), hkey]
  · exact hforgot.mem_out (happended.mem_out (hdetailed.mem_out (hposted.mem_out (hs₁ ▸ ho))))
  · rw [get_congr (hforgot.reg_eq (by decide)), get_of_regWord (hlost p hp), hs₁]
  · have hsame : (s₄.forgetFrame f₁).chain (frameChain f) = s₄.chain (frameChain f) := by
      simp only [State.chain, hforgot.acc_eq (by decide)]
    rw [hsame]
    exact hcount hstarted hrun hroom

theorem emitFrame_sent {s : State} {f : Frame} (hkept : f.egressLost = false) (hup : s.portUp (opposite f.port) = true)
    (hhalt : s.txHalted (portIdx (opposite f.port)) = false) {bs : Bytes} (hbs : bs ∈ f.out.toList) :
    .wire (opposite f.port) f.tRel (bs ++ toLe 4 (crc32 bs)) ∈ (s.emitFrame f).2.out := by
  have hout : f.out = some bs := Option.mem_toList.mp hbs
  simp only [State.emitFrame, hkept, hup, hhalt, hout, Bool.not_true, Bool.or_self, Bool.and_false, Bool.false_eq_true, if_false]
  exact List.mem_cons_self

theorem emitFrame_lost {s : State} {f : Frame} (h : f.egressLost = true ∨ f.out.isSome = true ∧ s.portUp (opposite f.port) = false) :
    (s.emitFrame f).2 = s.count (Fld.REL_EGRESS_LOST_CNT (portIdx (opposite f.port))) := by
  have hlost : (f.egressLost || (f.out.isSome && (!s.portUp (opposite f.port) || s.txHalted (portIdx (opposite f.port))))) = true := by
    rcases h with h | ⟨hout, hdown⟩
    · rw [h, Bool.true_or]
    · rw [hout, hdown, Bool.not_false, Bool.true_or, Bool.and_self, Bool.or_true]
  simp only [State.emitFrame, hlost, if_true]

theorem egressLost_reset (port : EthPort) : regReset (Fld.REL_EGRESS_LOST_CNT (portIdx port)).off = 0 := by cases port <;> decide

theorem releaseDue_run {s : State} {f : Frame} (h : s.releaseDue f = true) : s.stopped = false := by
  simp only [State.releaseDue, Bool.and_eq_true, Bool.not_eq_true'] at h
  exact h.1.2

/-! TAP_COPY_TX -/

theorem exec_tapCopyTx {s : State} {c : TapCopy} (hnext : s.nextTap = some c) (hbytes : c.bytes ≠ []) (hdue : s.reached c.tRel = true)
    (hup : s.portUp .tap = true) (hrun : s.stopped = false) (hplain : s.msec 2 = false) :
    exec .tapCopyTx s = .next (({ s.emit (.wire .tap s.now (c.bytes ++ toLe 4 (crc32 c.bytes))) with
      tapQueue := s.tapQueue.filter (fun d => d.frame != c.frame) }).modFrame c.frame (fun f => { f with tap := .sent })) := by
  have hsome : c.bytes.isEmpty = false := by simpa using hbytes
  change execTapCopyTx s = _
  simp only [execTapCopyTx, State.tapTx, hnext, hsome, hdue, hup, hrun, State.protect, hplain, Bool.not_true, Bool.not_false, Bool.or_self,
    Bool.false_eq_true, if_false, if_true]
  rfl

theorem exec_tapCopyTx_waits {s : State} {c : TapCopy} (hnext : s.nextTap = some c)
    (h : s.reached c.tRel = false ∨ c.bytes = [] ∨ s.portUp .tap = false ∨ s.stopped = true) : exec .tapCopyTx s = .next s := by
  have hwaits : (c.bytes.isEmpty || !s.reached c.tRel || !s.portUp .tap || s.stopped) = true := by
    rcases h with h | h | h | h <;> simp [h]
  change execTapCopyTx s = _
  simp only [execTapCopyTx, State.tapTx, hnext, hwaits, if_true]

theorem exec_tapCopyTx_none {s : State} (h : s.nextTap = none) : exec .tapCopyTx s = .next s := by
  change execTapCopyTx s = _
  simp only [execTapCopyTx, State.tapTx, h]

/-! O30 -/

/-- Settles O30: the lead, the release and the Tap copy of a frame, case by case, from the equation of what each answers. -/
theorem releasesLeave : Obligations.ReleasesLeave := by
  unfold Obligations.ReleasesLeave
  refine ⟨?lead, ?leadUe, ?leadEarly, ?leadNone, ?release, ?releaseEarly, ?releaseNone, ?copy, ?copyWaits, ?copyNone⟩
  case lead =>
    intro frame f s hf hdue _
    have hkey := (frame?_eq_some hf).2
    have hexec := exec_releaseLead hf .ok hdue
    obtain ⟨g, hled, hframes⟩ := releaseLead_led s f .ok
    rw [hkey] at hframes
    refine ⟨_, hexec, fun x hx hk => ?_, ?_, fun hecc hm x hx hk => ?_, (execReleaseLead_answers frame .ok s).stays _ hexec⟩
    · rw [hframes] at hx
      rw [eq_of_mem_replaced hx hk]
      exact ⟨hled.led, hled.holdEcc, hled.verdict, hled.action, hled.tRel⟩
    · rw [hframes]
      exact map_key_replaced (hled.key.trans hkey)
    · rw [hframes] at hx
      rw [eq_of_mem_replaced hx hk]
      exact hled.out hecc.symm hled.action hm
  case leadUe =>
    intro frame f s hf hdue hclass
    have hkey := (frame?_eq_some hf).2
    have hexec := exec_releaseLead hf .ue hdue
    obtain ⟨g, hled, hframes⟩ := releaseLead_led s f .ue
    rw [hclass] at hled
    rw [hkey] at hframes
    refine ⟨_, hexec, fun x hx hk => ?_, (execReleaseLead_answers frame .ue s).stays _ hexec⟩
    rw [hframes] at hx
    rw [eq_of_mem_replaced hx hk]
    exact ⟨hled.led, hled.holdEcc, hled.action, hled.unredacted rfl⟩
  case leadEarly => exact fun frame fetch f s hf h => exec_releaseLead_early hf fetch h
  case leadNone => exact fun frame fetch s h => exec_releaseLead_none h fetch
  case release =>
    intro frame f s hf hdue
    have hkey := (frame?_eq_some hf).2
    have hexec := exec_frameRelease hf hdue
    have hdone := disposeFrame_disposed s f
    refine ⟨_, hexec, hkey ▸ hdone.frames, hkey ▸ hdone.calendar,
      fun hkept hup hhalt bs hbs => hdone.sent _ (emitFrame_sent hkept hup hhalt hbs),
      fun hlost => ?_, fun hstarted => hdone.chain hstarted (releaseDue_run hdue), (execFrameRelease_answers frame s).stays _ hexec⟩
    rw [hdone.cnt _ (portIdx_lt _), emitFrame_lost hlost, count_get_of_whole s rfl rfl (egressLost_reset _)]
  case releaseEarly => exact fun frame f s hf h => exec_frameRelease_early hf h
  case releaseNone => exact fun frame s h => exec_frameRelease_none h
  case copy =>
    intro c s hnext hbytes hdue hup hrun hplain
    have hexec := exec_tapCopyTx hnext hbytes hdue hup hrun hplain
    refine ⟨_, hexec, rfl, rfl, fun f hf hk => ?_, ?_⟩
    · obtain ⟨x, -, -, rfl⟩ := exists_of_mem_modFrame hf hk
      rfl
    · refine Touches.after (State.modFrame_touches _ _ _) rfl ?_
      exact Touches.put_tapQueue rfl (Touches.mono rfl (State.emit_touches s _))
  case copyWaits => exact fun c s hnext h => exec_tapCopyTx_waits hnext h
  case copyNone => exact fun s h => exec_tapCopyTx_none h

end Sys2Proof.Machine
end

section
/-!
SUPPORT. Match words (O42; R198 to R202, R505, R512, R666, Table 5-8): their CRC and their TAG.
-/
namespace Sys2Proof

theorem crc8Bit_lt (c : Nat) (b : Bool) : crc8Bit c b < 256 := by
  unfold crc8Bit
  extract_lets c2
  have hc2 : c2 < 2 ^ 8 := Nat.mod_lt _ (by decide)
  split
  · exact Nat.xor_lt_two_pow (n := 8) hc2 (by decide)
  · exact hc2

theorem crc8_lt (w : Nat) : crc8 w < 256 := by
  have hfold (l : List Nat) (c : Nat) (hc : c < 256) : l.foldl (fun c i => crc8Bit c (w.testBit i)) c < 256 := by
    induction l generalizing c with
    | nil => exact hc
    | cons i l ih => exact ih _ (crc8Bit_lt _ _)
  exact hfold _ 0 (by decide)

namespace Machine

theorem wordOk_sealWord (w : Nat) : wordOk (sealWord w) = true := by
  have hcrc := crc8_lt (w % 2 ^ 128)
  have hlow : sealWord w % 2 ^ 128 = w % 2 ^ 128 := by
    simp only [sealWord]
    omega
  have hhigh : bits (sealWord w) 128 8 = crc8 (w % 2 ^ 128) := by
    simp only [sealWord, bits, Nat.shiftRight_eq_div_pow]
    omega
  rw [wordOk, hlow, hhigh, beq_self_eq_true]

theorem wordTag_sealWord (w : Nat) : wordTag (sealWord w) = w / 2 ^ 29 % 65536 := by
  simp only [sealWord, wordTag, bits, Nat.shiftRight_eq_div_pow]
  omega

theorem wordTag_skewWord {tag : Nat} (h : tag < 65536) : wordTag (skewWord tag) = tag := by
  rw [skewWord, wordTag_sealWord]
  omega

theorem wordTag_lookupWord {tag : Nat} (h : tag < 65536) (pos : Nat) (l : Lookup) : wordTag (lookupWord tag pos l) = tag := by
  unfold lookupWord
  split
  · have hstale : b2n l.staleSeen ≤ 1 := by cases l.staleSeen <;> decide
    rw [wordTag_sealWord]
    omega
  · rw [wordTag_sealWord]
    omega

section
variable (s : State) (tag table key version : Nat) (lost : Bool)

/-- A member's own word is a sealed one, of the search's TAG. -/
theorem localWord_word (h : tag < 65536) : wordOk (s.localWord tag table key version lost).1 = true ∧
    wordTag (s.localWord tag table key version lost).1 = tag := by
  have hskew : wordOk (skewWord tag) = true ∧ wordTag (skewWord tag) = tag := ⟨wordOk_sealWord _, wordTag_skewWord h⟩
  unfold State.localWord
  split
  · exact hskew
  · split
    · exact hskew
    · split
      refine ⟨?_, wordTag_lookupWord h _ _⟩
      simp only [lookupWord]
      split <;> exact wordOk_sealWord _

end

end Machine
end Sys2Proof
end

section
/-!
SUPPORT. What stacked searches do to the stack, to its links and to registers (O42; R201 to R206, R491, R505 to R508, R511).
-/
namespace Sys2Proof.Machine

/-! The links of a stack -/

/-- A Narwyn port that is not as after reset is read back. -/
theorem nport_modNport {s : State} {q : Nat} {f : NwlPort → NwlPort} (h : f (s.nport q) ≠ NwlPort.reset) :
    (s.modNport q f).nport q = f (s.nport q) := tab_getD_putD_of_ne s.nwl q h

theorem nport_modNport_ne (s : State) {q p : Nat} (f : NwlPort → NwlPort) (h : p ≠ q) : (s.modNport q f).nport p = s.nport p :=
  Tab.getD_putD_ne _ _ _ _ _ _ h

theorem nport_congr {s t : State} (h : t.nwl = s.nwl) (q : Nat) : t.nport q = s.nport q := by
  simp only [State.nport, h]

theorem put_ne_nil {α : Type} (t : Tab α) (k : Nat) (v : α) : Tab.put t k v ≠ [] := by
  intro h
  have hsome := Tab.get?_put_same t k v
  rw [h] at hsome
  exact absurd hsome (by simp [Tab.get?])

/-- A record joins the queue of its link. -/
theorem queueRecordOn_queues (s : State) (q vc : Nat) (b : Bytes) : ((s.queueRecordOn q vc b).nport q).queues =
    Tab.put (s.nport q).queues vc (Tab.getD (s.nport q).queues vc [] ++ [.record b]) := by
  have hjoined : enqueue vc (.record b) (s.nport q) ≠ NwlPort.reset :=
    fun h => put_ne_nil _ _ _ (congrArg (fun p => p.queues) h)
  exact congrArg (fun p => p.queues) (nport_modNport hjoined)

theorem queueRecordOn_nport_ne (s : State) {q p : Nat} (vc : Nat) (b : Bytes) (h : p ≠ q) :
    (s.queueRecordOn q vc b).nport p = s.nport p := nport_modNport_ne s _ h

/-! Records that wait -/

theorem length_takeRecord {α : Type} {p : α → Bool} {l : List α} {r : α} (h : l.find? p = some r) :
    ((l.takeWhile (fun x => !p x)) ++ l.drop ((l.takeWhile (fun x => !p x)).length + 1)).length + 1 = l.length := by
  induction l with
  | nil => exact absurd h (by simp)
  | cons x l ih =>
    cases hp : p x with
    | true => simp [hp]
    | false =>
      rw [List.find?_cons_of_neg (by simp [hp])] at h
      simpa [hp] using ih h

/-- A record that is taken: one fewer waits, and only the link that held it changes. -/
structure Taken (s u : State) : Prop where
  length : u.stk.records.length + 1 = s.stk.records.length
  stk : u.stk = { s.stk with records := u.stk.records }
  touches : Touches [.nwl, .stk] s u

theorem takeRecord_taken {s u : State} {type : Nat} {r : RxRecord} (h : s.takeRecord type = some (r, u)) : Taken s u := by
  have htouch := State.takeRecord_touches s type _ _ h
  unfold State.takeRecord at h
  split at h
  next => exact absurd h (by simp)
  next r' hr =>
    have hlength := length_takeRecord hr
    obtain ⟨-, rfl⟩ := Prod.mk.inj (Option.some.inj h)
    have hstk (v : State) (c : Prop) [Decidable c] : (if c then v.freeHeld (some (r'.port, r'.vc)) 1 else v).stk = v.stk := by
      split <;> rfl
    refine ⟨?_, ?_, htouch⟩
    · rw [hstk]
      exact hlength
    · rw [hstk]

section
variable {s u : State} (h : Taken s u)
include h

theorem Taken.pos : u.stackPos = s.stackPos := get_congr (h.touches.reg_eq (by decide)) _

theorem Taken.members : u.stackMembers = s.stackMembers := get_congr (h.touches.reg_eq (by decide)) _

theorem Taken.get (f : Fld) : u.get f = s.get f := get_congr (h.touches.reg_eq (by decide)) f

end

/-- R511: the newest search of a Shoal stands last, and no more than 256 are pending. -/
theorem holdShoal_getLast (s : State) (tag : Nat) (word : Option Nat) :
    (s.holdShoal tag word).stk.shoal.getLast? = some ⟨tag, word⟩ ∧ (s.holdShoal tag word).stk.shoal.length ≤ 256 := by
  have hnewest (l : List ShoalSearch) (x : ShoalSearch) : ((l ++ [x]).drop ((l ++ [x]).length - 256)).getLast? = some x ∧
      ((l ++ [x]).drop ((l ++ [x]).length - 256)).length ≤ 256 := by
    constructor
    · rw [List.getLast?_drop, if_neg (by simp), List.getLast?_append, List.getLast?_singleton]
      rfl
    · rw [List.length_drop]
      omega
  simp only [State.holdShoal]
  exact hnewest _ _

/-! How a search ends -/

/-- Counters that the end of a stacked search may count: transient faults and repeats where it failed, searches and hits where it did not. -/
def endWords : List Nat := [Fld.FLT_T_CNT.off, Fld.FLT_RETRY_CNT.off, Fld.VIT_SEARCH_CNT.off, Fld.VIT_HIT_CNT.off]

theorem onlyWords_mono {l m : List Nat} {s t : State} (h : OnlyWords l s t) (hlm : l ⊆ m) : OnlyWords m s t :=
  fun off hoff => h off fun hm => hoff (hlm hm)

theorem retryFrame_onlyWords (s : State) (k : Nat) (st : Stage) : OnlyWords [Fld.FLT_RETRY_CNT.off] s (s.retryFrame k st).2 := by
  unfold State.retryFrame
  split
  · exact OnlyWords.refl _ s
  · extract_lets n
    split
    · exact onlyWords_count s _ List.mem_cons_self
    · exact onlyWords_congr _ rfl

theorem stackFail_onlyWords (s : State) (k id : Nat) : OnlyWords [Fld.FLT_T_CNT.off, Fld.FLT_RETRY_CNT.off] s (s.stackFail k id) := by
  have hcount : OnlyWords [Fld.FLT_T_CNT.off, Fld.FLT_RETRY_CNT.off] s (s.transient none 0) := onlyWords_count s _ List.mem_cons_self
  have hretry : OnlyWords [Fld.FLT_T_CNT.off, Fld.FLT_RETRY_CNT.off] (s.transient none 0) ((s.transient none 0).retryFrame k .vitrine).2 :=
    fun off h => retryFrame_onlyWords _ k .vitrine off (fun hm => h (List.mem_cons_of_mem _ hm))
  unfold State.stackFail
  extract_lets s₁
  split
  rename_i ok s₂ hpair
  have hs₂ : s₂ = (s₁.retryFrame k .vitrine).2 := (congrArg Prod.snd hpair).symm
  rw [← hs₂] at hretry
  exact OnlyWords.ite ((hcount.trans hretry).trans (onlyWords_congr _ rfl)) (hcount.trans hretry)

theorem stackFail_cnt (s : State) (k id : Nat) :
    (s.stackFail k id).get Fld.FLT_T_CNT = min (s.get Fld.FLT_T_CNT + 1) 0xFFFFFFFF := by
  have hretry : ((s.transient none 0).retryFrame k .vitrine).2.regWord Fld.FLT_T_CNT.off = (s.transient none 0).regWord Fld.FLT_T_CNT.off :=
    retryFrame_onlyWords _ k .vitrine _ (by decide)
  unfold State.stackFail
  extract_lets s₁
  split
  rename_i ok s₂ hpair
  have hs₂ : s₂ = (s₁.retryFrame k .vitrine).2 := (congrArg Prod.snd hpair).symm
  rw [← hs₂] at hretry
  refine (get_of_regWord (s := s₁) ?_).trans (count_get_of_whole s rfl rfl (by decide))
  exact regWord_ite hretry hretry

theorem stackDeliver_onlyWords (s : State) (k id w : Nat) :
    OnlyWords [Fld.VIT_SEARCH_CNT.off, Fld.VIT_HIT_CNT.off] s (s.stackDeliver k id w) := by
  unfold State.stackDeliver
  split
  · exact OnlyWords.refl _ s
  · extract_lets l
    refine OnlyWords.trans (OnlyWords.ite (OnlyWords.refl _ s) ?_) (onlyWords_congr _ rfl)
    unfold State.countSearch
    have hfirst : OnlyWords [Fld.VIT_SEARCH_CNT.off, Fld.VIT_HIT_CNT.off] s (s.count Fld.VIT_SEARCH_CNT) :=
      onlyWords_count s _ List.mem_cons_self
    exact OnlyWords.ite (hfirst.trans (onlyWords_count _ _ (by decide))) hfirst

theorem endHead_onlyWords (s : State) (h : HeadSearch) (word : Option Nat) : OnlyWords endWords s (s.endHead h word) := by
  unfold State.endHead
  extract_lets +onlyGivenNames stk s₁
  have hs₁ : OnlyWords endWords s s₁ := onlyWords_congr _ rfl
  clear_value s₁
  split
  · split
    · exact hs₁.trans (onlyWords_mono (stackDeliver_onlyWords s₁ _ _ _) (List.subset_append_right [Fld.FLT_T_CNT.off, Fld.FLT_RETRY_CNT.off] _))
    · exact hs₁.trans (onlyWords_mono (stackFail_onlyWords s₁ _ _) (List.subset_append_left _ [Fld.VIT_SEARCH_CNT.off, Fld.VIT_HIT_CNT.off]))
  · exact hs₁.trans (onlyWords_congr _ rfl)

theorem endHead_stk (s : State) (h : HeadSearch) (word : Option Nat) :
    (s.endHead h word).stk = { s.stk with head := s.stk.head.filter (fun x => x.tag != h.tag) } := by
  unfold State.endHead
  extract_lets +onlyGivenNames stk s₁
  have hs₁ : s₁.stk = { s.stk with head := s.stk.head.filter (fun x => x.tag != h.tag) } := rfl
  clear_value s₁
  split
  · split
    · exact ((State.stackDeliver_touches s₁ _ _ _).stk_eq (by decide)).trans hs₁
    · exact ((State.stackFail_touches s₁ _ _).stk_eq (by decide)).trans hs₁
  · exact hs₁

end Sys2Proof.Machine
end

section
/-!
SUPPORT. The issue of a stacked search, and what a frame here takes from its end (O42; R171, R201, R505, R506, R508).
-/
namespace Sys2Proof.Machine

/-! What goes on after the issue of a search -/

/-- Register words that the issue of a search may change beside STK_SEARCH_CNT. -/
def issueWords : List Nat := Fld.STK_DEEP_SHORT_CNT.off :: endWords

/-- The TAGs and the searches asked for stand as they were, and registers but for what an issued search may count. -/
structure Onward (v t : State) : Prop where
  tag : t.stk.nextTag = v.stk.nextTag
  asks : t.stk.asks = v.stk.asks
  words : OnlyWords issueWords v t

theorem Onward.refl (s : State) : Onward s s := ⟨rfl, rfl, OnlyWords.refl _ s⟩

theorem Onward.trans {a b c : State} (h : Onward a b) (k : Onward b c) : Onward a c :=
  ⟨k.tag.trans h.tag, k.asks.trans h.asks, h.words.trans k.words⟩

theorem Onward.of_touches {ps : List Part} {s t : State} (h : Touches ps s t) (hreg : Part.reg ∉ ps) (hstk : Part.stk ∉ ps) : Onward s t :=
  ⟨congrArg (fun x => x.nextTag) (h.stk_eq hstk), congrArg (fun x => x.asks) (h.stk_eq hstk), onlyWords_congr _ (h.reg_eq hreg)⟩

theorem count_onward (s : State) {f : Fld} (hf : f.off ∈ issueWords) : Onward s (s.count f) := ⟨rfl, rfl, onlyWords_count _ _ hf⟩

theorem endHead_onward (s : State) (h : HeadSearch) (word : Option Nat) : Onward s (s.endHead h word) :=
  ⟨congrArg (fun x => x.nextTag) (endHead_stk s h word), congrArg (fun x => x.asks) (endHead_stk s h word),
    onlyWords_mono (endHead_onlyWords s h word) (List.subset_cons_self _ _)⟩

theorem localWord_onward (s : State) (tag table key version : Nat) (lost : Bool) : Onward s (s.localWord tag table key version lost).2 :=
  .of_touches (State.localWord_touches s tag table key version lost) (by decide) (by decide)

/-- The state in which a search is issued: the next TAG is taken, and the search counted. -/
def State.tagged (s : State) : State := ({ s with stk := { s.stk with nextTag := tagAfter s.stk.nextTag } }).count Fld.STK_SEARCH_CNT

/-- A search is pending, and goes down as a SEARCH record. -/
def State.sendDown (s : State) (h : HeadSearch) (width key : Nat) : State :=
  ({ s with stk := { s.stk with head := s.stk.head ++ [h] } }).queueRecordOn 5 0 (searchRecordBytes h width key)

/-- A search ends with the word of the Headland alone. -/
def State.finishLocal (s : State) (h : HeadSearch) (key : Nat) : State :=
  (s.localWord h.tag h.table key h.version false).2.finishHead h (s.localWord h.tag h.table key h.version false).1

/-- The member that the next WIDE search is for. -/
def State.wideTarget (s : State) : Nat := if s.reachNow < s.stk.rotate then 0 else s.stk.rotate

/-- The rotation of WIDE searches moves on. -/
def State.rotated (s : State) (target reach : Nat) : State :=
  { s with stk := { s.stk with rotate := if target < reach then target + 1 else 0 } }

/-- R508: a DEEP search needs every member; the Headland's own word goes before its record. -/
theorem issueHead_deep (s : State) (width key : Nat) (h : HeadSearch) : s.issueHead 1 width key h =
    if s.reachNow + 1 < s.stackMembers then (s.tagged.count Fld.STK_DEEP_SHORT_CNT).endHead h none
    else if s.stackMembers ≤ 1 then s.tagged.finishLocal h key
    else (s.tagged.localWord h.tag h.table key h.version false).2.sendDown
      { h with word := some (s.tagged.localWord h.tag h.table key h.version false).1 } width key := rfl

/-- R505: a WIDE search is for one member, in turn. -/
theorem issueHead_wide (s : State) {mode : Nat} (width key : Nat) (h : HeadSearch) (hmode : mode ≠ 1) : s.issueHead mode width key h =
    if s.wideTarget = 0 then (s.tagged.rotated s.wideTarget s.reachNow).finishLocal h key
    else (s.tagged.rotated s.wideTarget s.reachNow).sendDown { h with target := s.wideTarget } width key := if_neg hmode

theorem sendDown_onward (s : State) (h : HeadSearch) (width key : Nat) : Onward s (s.sendDown h width key) :=
  ⟨rfl, rfl, onlyWords_congr _ rfl⟩

theorem finishLocal_onward (s : State) (h : HeadSearch) (key : Nat) : Onward s (s.finishLocal h key) :=
  (localWord_onward s _ _ _ _ _).trans (endHead_onward _ _ _)

theorem rotated_onward (s : State) (target reach : Nat) : Onward s (s.rotated target reach) := ⟨rfl, rfl, onlyWords_congr _ rfl⟩

theorem issueHead_onward (s : State) (mode width key : Nat) (h : HeadSearch) : Onward s.tagged (s.issueHead mode width key h) := by
  by_cases hmode : mode = 1
  · subst hmode
    rw [issueHead_deep]
    split
    · exact (count_onward _ List.mem_cons_self).trans (endHead_onward _ _ _)
    · split
      · exact finishLocal_onward _ _ _
      · exact (localWord_onward _ _ _ _ _ _).trans (sendDown_onward _ _ _ _)
  · rw [issueHead_wide s width key h hmode]
    split
    · exact (rotated_onward _ _ _).trans (finishLocal_onward _ _ _)
    · exact (rotated_onward _ _ _).trans (sendDown_onward _ _ _ _)

theorem issueHead_tag (s : State) (mode width key : Nat) (h : HeadSearch) :
    (s.issueHead mode width key h).stk.nextTag = tagAfter s.stk.nextTag := (issueHead_onward s mode width key h).tag

theorem issueHead_asks (s : State) (mode width key : Nat) (h : HeadSearch) : (s.issueHead mode width key h).stk.asks = s.stk.asks :=
  (issueHead_onward s mode width key h).asks

theorem issueHead_cnt (s : State) (mode width key : Nat) (h : HeadSearch) :
    (s.issueHead mode width key h).get Fld.STK_SEARCH_CNT = min (s.get Fld.STK_SEARCH_CNT + 1) 0xFFFFFFFF :=
  (get_of_regWord ((issueHead_onward s mode width key h).words _ (by decide))).trans (count_get_of_whole _ rfl rfl (by decide))

theorem issueHead_get (s : State) (mode width key : Nat) (h : HeadSearch) {f : Fld} (hf : f.off ∉ issueWords)
    (hs : f.off ≠ Fld.STK_SEARCH_CNT.off) : (s.issueHead mode width key h).get f = s.get f :=
  (get_of_regWord ((issueHead_onward s mode width key h).words _ hf)).trans (get_count_ne _ hs)

/-- R505: a WIDE search of another member is pending, and goes down to it. -/
theorem issueHead_sendDown {s : State} {mode : Nat} (width key : Nat) (h : HeadSearch) (hmode : mode ≠ 1) (hother : s.stk.rotate ≠ 0)
    (hreach : s.stk.rotate ≤ s.reachNow) : s.issueHead mode width key h =
      (s.tagged.rotated s.stk.rotate s.reachNow).sendDown { h with target := s.stk.rotate } width key := by
  have htarget : s.wideTarget = s.stk.rotate := if_neg (Nat.not_lt.mpr hreach)
  rw [issueHead_wide s width key h hmode, htarget, if_neg hother]

/-! A search of a frame here -/

theorem mem_modSearch {id : Nat} {g : Search → Search} {f : Frame} {y : Search}
    (hy : y ∈ (modSearch id g f).searches) (hid : y.id = id) : ∃ x, y = g x := by
  obtain ⟨x, -, rfl⟩ := List.mem_map.mp hy
  split
  next => exact ⟨x, rfl⟩
  next hp => exact absurd (beq_iff_eq.mpr (by rwa [if_neg hp] at hid)) hp

/-- The searches of a frame that bear the number of the one changed. -/
theorem search_of_modFrame {s : State} {k id : Nat} {g : Search → Search} {h : Frame}
    (hh : h ∈ (s.modFrame k (modSearch id g)).frames) (hk : h.key = k) {y : Search} (hy : y ∈ h.searches) (hid : y.id = id) :
    ∃ x, y = g x := by
  obtain ⟨f, -, -, rfl⟩ := exists_of_mem_modFrame hh hk
  exact mem_modSearch hy hid

theorem stackDeliver_search {s : State} {k id w : Nat} {x : Search} (hx : s.search? k id = some x) {h : Frame}
    (hh : h ∈ (s.stackDeliver k id w).frames) (hk : h.key = k) {z : Search} (hz : z ∈ h.searches) (hid : z.id = id) :
    z.state = .done ∧ z.result = some (wordLookup w x.table (s.vtable x.table).ver false) := by
  simp only [State.stackDeliver, hx] at hh
  obtain ⟨f, -, -, rfl⟩ := exists_of_mem_modFrame hh hk
  obtain ⟨y, rfl⟩ := mem_modSearch
    (g := fun y => { y with state := .done, result := some (wordLookup w x.table (s.vtable x.table).ver false) }) hz hid
  exact ⟨rfl, rfl⟩

/-! REACH and the links -/

theorem reachNow_congr {s t : State} (hsize : t.get Fld.STK_CFG_SIZE = s.get Fld.STK_CFG_SIZE) (hpos : t.get Fld.STK_CFG_POS = s.get Fld.STK_CFG_POS)
    (hport : t.nport 5 = s.nport 5) (hin : t.stk.matchIn = s.stk.matchIn) (hlink : t.stk.linkReach = s.stk.linkReach) :
    t.reachNow = s.reachNow := by
  simp only [State.reachNow, State.portIsUp, hsize, hpos, hport, hin, hlink]
  rfl

/-- What the note of REACH leaves, and that it is up to date. -/
structure Noted (s t : State) : Prop where
  records : t.stk.records = s.stk.records
  linkReach : t.stk.linkReach = s.stk.linkReach
  matchIn : t.stk.matchIn = s.stk.matchIn
  port : t.nport 5 = s.nport 5
  reach : 1 < s.get Fld.STK_CFG_SIZE → t.stk.reach = t.reachNow

theorem noteReach_noted (s : State) : Noted s s.noteReach := by
  unfold State.noteReach
  extract_lets +onlyGivenNames r
  split
  next h => exact ⟨rfl, rfl, rfl, rfl, fun hsize => (h.resolve_left (Nat.not_le.mpr hsize)).symm⟩
  next h =>
    extract_lets +onlyGivenNames stk s₁
    have hreach : s₁.reachNow = s.reachNow := reachNow_congr rfl rfl rfl rfl rfl
    have hs₁ : Noted s s₁ := ⟨rfl, rfl, rfl, rfl, fun _ => hreach.symm⟩
    have hr : s₁.stk.reach = s.reachNow := rfl
    clear_value s₁
    split
    · have htouch := State.event_touches s₁ 0x008C 0 [r]
      have hword (f : Fld) (hf : f.off = Fld.STK_CFG_SIZE.off) : (s₁.event 0x008C 0 [r]).get f = s₁.get f :=
        get_of_regWord (event_regWord (hf ▸ by decide) _ _ _ _ (hf ▸ by decide))
      have hstk := htouch.stk_eq (by decide)
      have hsame := reachNow_congr (hword Fld.STK_CFG_SIZE rfl) (hword Fld.STK_CFG_POS rfl) (nport_congr (htouch.nwl_eq (by decide)) 5)
        (congrArg (fun x => x.matchIn) hstk) (congrArg (fun x => x.linkReach) hstk)
      refine ⟨?_, ?_, ?_, ?_, fun _ => ?_⟩
      · rw [hstk, hs₁.records]
      · rw [hstk, hs₁.linkReach]
      · rw [hstk, hs₁.matchIn]
      · rw [nport_congr (htouch.nwl_eq (by decide)), hs₁.port]
      · rw [hsame, hstk, hr, hreach]
    · have hport : (s₁.queueRecordOn 4 1 (linkRecord r)).nport 5 = s₁.nport 5 := queueRecordOn_nport_ne s₁ 1 _ (by decide)
      refine ⟨hs₁.records, hs₁.linkReach, hs₁.matchIn, hport.trans hs₁.port, fun _ => ?_⟩
      rw [reachNow_congr (s := s₁) (t := s₁.queueRecordOn 4 1 (linkRecord r)) rfl rfl hport rfl rfl, hreach]
      exact hr

/-- R513: a link whose neighbour does not fit is DISABLED, with its FAULT. -/
theorem nbrMismatch_port (s : State) (q : Nat) (detail : Bytes) :
    ((s.nbrMismatch q detail).nport q).state = .disabled ∧ ((s.nbrMismatch q detail).nport q).fault = 1 := by
  unfold State.nbrMismatch
  extract_lets s₁ u
  split
  rename_i seq s₂ hrecord
  extract_lets p
  have hfault : (s.portFault q 1).nport q = { s.nport q with fault := 1 } :=
    nport_modNport fun h => absurd (congrArg (fun x => x.fault) h) Nat.one_ne_zero
  have hs₁ : s₁.nport q = { s.nport q with fault := 1, state := .disabled, since := s.now } := by
    refine (nport_modNport fun h => absurd (congrArg (fun x => x.state) h) (by simp [NwlPort.reset])).trans ?_
    rw [hfault]
    rfl
  have hkept : Touches [.freeCtr, .out, .reg, .host, .ops, .led] s₁ ((s₂.event 0x0080 q [p.nbrNode, p.nbrPort]).wedge u 0x0902) := by
    refine Touches.trans (Touches.of_snd hrecord ((State.ledgerRecord_touches _ _ _).mono rfl)) ?_
    exact ((State.event_touches _ _ _ _).mono rfl).trans ((State.wedge_touches _ _ _).mono rfl)
  rw [nport_congr (hkept.nwl_eq (by decide)), hs₁]
  exact ⟨rfl, rfl⟩

end Sys2Proof.Machine
end

section
/-!
SUPPORT. What each command of a stacked search answers (O42; R199 to R206, R505 to R509, R511 to R513).
-/
namespace Sys2Proof.Machine

/-! The issue of a search by a frame here -/

/-- A search of a frame is under way in the stack, issued at the Headland or asked for by a Shoal. -/
def State.stacked (s : State) (frame id : Nat) (asked : Bool) : State :=
  s.modFrame frame (modSearch id (fun x => { x with state := .stacked s.now asked }))

/-- The search that the Headland issues for a frame here. -/
def State.headSearch (s : State) (frame id : Nat) (x : Search) : HeadSearch :=
  ⟨s.stk.nextTag, 0, 0, frame, id, x.table, s.get (Fld.VIT_TABLE_CFG_STACK x.table), 0, s.now, none, (s.vtable x.table).ver⟩

/-- The search that a Shoal asks for, with the next OTAG. -/
def State.asked (s : State) (frame id : Nat) : State :=
  { s with stk := { s.stk with
      nextOtag := (s.stk.nextOtag + 1) % 65536, asks := s.stk.asks ++ [(⟨s.stk.nextOtag, frame, id, s.now⟩ : Ask)] } }

/-- A REQ record (Table 13-8). -/
def State.askRecord (s : State) (x : Search) : Bytes :=
  padTo 64 ([2, byte (x.table + 64 * s.get (Fld.VIT_TABLE_CFG_STACK x.table)), byte s.stackPos, byte (s.get (Fld.VIT_TABLE_CFG_WIDTH x.table))]
    ++ zeros 2 ++ toLe 2 s.stk.nextOtag ++ zeros 4 ++ toLe 48 x.key)

section
variable {s : State} {frame id : Nat} {x : Search}

theorem exec_stackSearchIssue_none (hx : s.search? frame id = none) : exec (.stackSearchIssue frame id) s = .next s := by
  show execStackSearchIssue frame id s = _
  simp only [execStackSearchIssue, hx]

theorem exec_stackSearchIssue_stays (hx : s.search? frame id = some x)
    (h : x.state ≠ .waiting ∨ s.get (Fld.VIT_TABLE_CFG_STACK x.table) = 0 ∨ s.stopped = true) :
    exec (.stackSearchIssue frame id) s = .next s := by
  have hstays : (x.state != .waiting || s.get (Fld.VIT_TABLE_CFG_STACK x.table) == 0 || s.stopped) = true := by
    simpa only [Bool.or_eq_true, bne_iff_ne, beq_iff_eq, or_assoc] using h
  show execStackSearchIssue frame id s = _
  simp only [execStackSearchIssue, hx, hstays, if_true]

theorem exec_stackSearchIssue_full (hpos : s.stackPos = 0) (hfull : 256 ≤ s.stk.head.length) :
    exec (.stackSearchIssue frame id) s = .next s := by
  show execStackSearchIssue frame id s = _
  simp only [execStackSearchIssue, hpos, hfull, if_true, ite_self]
  split <;> rfl

theorem issue_ready (hwait : x.state = .waiting) (hmode : s.get (Fld.VIT_TABLE_CFG_STACK x.table) ≠ 0) (hlive : s.stopped = false) :
    (x.state != .waiting || s.get (Fld.VIT_TABLE_CFG_STACK x.table) == 0 || s.stopped) = false := by
  rw [hwait, hlive, beq_false_of_ne hmode]
  rfl

theorem exec_stackSearchIssue_head (hx : s.search? frame id = some x) (hwait : x.state = .waiting)
    (hmode : s.get (Fld.VIT_TABLE_CFG_STACK x.table) ≠ 0) (hlive : s.stopped = false) (hpos : s.stackPos = 0)
    (hroom : s.stk.head.length < 256) : exec (.stackSearchIssue frame id) s =
      .next ((s.stacked frame id false).issueHead (s.get (Fld.VIT_TABLE_CFG_STACK x.table)) (s.get (Fld.VIT_TABLE_CFG_WIDTH x.table)) x.key
        (s.headSearch frame id x)) := by
  show execStackSearchIssue frame id s = _
  simp only [execStackSearchIssue, hx, issue_ready hwait hmode hlive, Bool.false_eq_true, if_false, hpos, if_true,
    Nat.not_le.mpr hroom]
  rfl

theorem exec_stackSearchIssue_shoal (hx : s.search? frame id = some x) (hwait : x.state = .waiting)
    (hmode : s.get (Fld.VIT_TABLE_CFG_STACK x.table) ≠ 0) (hlive : s.stopped = false) (hpos : s.stackPos ≠ 0) :
    exec (.stackSearchIssue frame id) s =
      .next (((s.stacked frame id true).asked frame id).queueRecordOn 4 0 (s.askRecord x)) := by
  show execStackSearchIssue frame id s = _
  simp only [execStackSearchIssue, hx, issue_ready hwait hmode hlive, Bool.false_eq_true, if_false, hpos]
  rfl

end

theorem stacked_touches (s : State) (frame id : Nat) (asked : Bool) : Touches [.frames] s (s.stacked frame id asked) :=
  State.modFrame_touches s frame _

theorem stacked_search {s : State} {frame id : Nat} {asked : Bool} {h : Frame} (hh : h ∈ (s.stacked frame id asked).frames)
    (hk : h.key = frame) {y : Search} (hy : y ∈ h.searches) (hid : y.id = id) : y.state = .stacked s.now asked := by
  obtain ⟨x, rfl⟩ := search_of_modFrame hh hk hy hid
  rfl

theorem sendDown_queues (s : State) (h : HeadSearch) (width key : Nat) : ((s.sendDown h width key).nport 5).queues =
    Tab.put (s.nport 5).queues 0 (Tab.getD (s.nport 5).queues 0 [] ++ [.record (searchRecordBytes h width key)]) :=
  queueRecordOn_queues _ _ _ _

theorem sendDown_touches (s : State) (h : HeadSearch) (width key : Nat) : Touches [.nwl, .stk] s (s.sendDown h width key) :=
  (Touches.put_stk rfl (Touches.refl _ s)).trans ((State.queueRecordOn_touches _ _ _ _).mono rfl)

theorem rotated_touches (s : State) (target reach : Nat) : Touches [.stk] s (s.rotated target reach) := Touches.put_stk rfl (Touches.refl _ s)

theorem tagged_touches (s : State) : Touches [.reg, .stk] s s.tagged :=
  (Touches.put_stk rfl (Touches.refl _ s)).trans ((State.count_touches _ _).mono rfl)

theorem tagged_words (s : State) : OnlyWords [Fld.STK_SEARCH_CNT.off] s s.tagged := onlyWords_count _ _ List.mem_cons_self

/-! SEARCH records -/

section
variable {s u : State} {r : RxRecord} {lost : Bool}

theorem exec_searchRecordRx_none (h : s.takeRecord 1 = none) : exec (.searchRecordRx lost) s = .next s := by
  show execSearchRecordRx lost s = _
  simp only [execSearchRecordRx, h]

/-- The own word of the member that a SEARCH record reaches. -/
def State.recordWord (s : State) (b : Bytes) (lost : Bool) : Nat × State := s.localWord (le b 4 2) (recTable b) (recKey b) (le b 8 4) lost

/-- R199: a DEEP search goes on, and is pending here with the own word. -/
theorem exec_searchRecordRx_onward (h : s.takeRecord 1 = some (r, u)) (hdeep : recMode r.bytes = 1)
    (hpos : s.stackPos + 1 ≠ s.stackMembers) : exec (.searchRecordRx lost) s =
      .next (((u.queueRecordOn 5 0 r.bytes).recordWord r.bytes lost).2.holdShoal (le r.bytes 4 2)
        (some ((u.queueRecordOn 5 0 r.bytes).recordWord r.bytes lost).1)) := by
  have htaken := takeRecord_taken h
  rw [← htaken.pos, ← htaken.members] at hpos
  show execSearchRecordRx lost s = _
  simp only [execSearchRecordRx, h, hdeep, hpos, beq_self_eq_true, Bool.true_or, if_true, decide_false, Bool.false_eq_true, if_false]
  rfl

/-- R202, R507: the last member that takes part answers with its own word. -/
theorem exec_searchRecordRx_last (h : s.takeRecord 1 = some (r, u))
    (hlast : recMode r.bytes = 1 ∧ s.stackPos + 1 = s.stackMembers ∨ recMode r.bytes ≠ 1 ∧ bits (byteAt r.bytes 2) 3 3 = s.stackPos) :
    exec (.searchRecordRx lost) s = .next ((u.recordWord r.bytes lost).2.emit (.matchWord (u.recordWord r.bytes lost).1)) := by
  have htaken := takeRecord_taken h
  rw [← htaken.pos, ← htaken.members] at hlast
  show execSearchRecordRx lost s = _
  rcases hlast with ⟨hdeep, hpos⟩ | ⟨hwide, htarget⟩
  · simp only [execSearchRecordRx, h, hdeep, hpos, beq_self_eq_true, Bool.true_or, if_true, decide_true]
    rfl
  · simp only [execSearchRecordRx, h, beq_false_of_ne hwide, htarget, Bool.false_or, le_refl, decide_true, beq_self_eq_true, if_true,
      Bool.false_eq_true, if_false]
    rfl

/-- R200: a WIDE search of a member further down goes on, and its TAG is pending here. -/
theorem exec_searchRecordRx_below (h : s.takeRecord 1 = some (r, u)) (hwide : recMode r.bytes ≠ 1)
    (htarget : s.stackPos < bits (byteAt r.bytes 2) 3 3) :
    exec (.searchRecordRx lost) s = .next ((u.queueRecordOn 5 0 r.bytes).holdShoal (le r.bytes 4 2) none) := by
  rw [← (takeRecord_taken h).pos] at htarget
  show execSearchRecordRx lost s = _
  simp only [execSearchRecordRx, h, beq_false_of_ne hwide, Bool.false_or, decide_eq_true htarget.le, if_true,
    beq_false_of_ne htarget.ne', Bool.false_eq_true, if_false]

theorem exec_searchRecordRx_above (h : s.takeRecord 1 = some (r, u)) (hwide : recMode r.bytes ≠ 1)
    (htarget : bits (byteAt r.bytes 2) 3 3 < s.stackPos) : exec (.searchRecordRx lost) s = .next u := by
  rw [← (takeRecord_taken h).pos] at htarget
  show execSearchRecordRx lost s = _
  simp only [execSearchRecordRx, h, beq_false_of_ne hwide, Bool.false_or, decide_eq_false (Nat.not_le.mpr htarget),
    Bool.false_eq_true, if_false]

/-! REQ, RESULT and LINK records -/

theorem exec_reqRecordRx_none (h : s.takeRecord 2 = none) : exec .reqRecordRx s = .next s := by
  show execReqRecordRx s = _
  simp only [execReqRecordRx, h, ite_self]

theorem exec_reqRecordRx_full (hpos : s.stackPos = 0) (hfull : 256 ≤ s.stk.head.length) : exec .reqRecordRx s = .next s := by
  show execReqRecordRx s = _
  simp only [execReqRecordRx, hpos, Nat.ble_eq_true_of_le hfull, decide_true, Bool.and_self, if_true]

theorem exec_reqRecordRx_shoal (h : s.takeRecord 2 = some (r, u)) (hpos : s.stackPos ≠ 0) :
    exec .reqRecordRx s = .next (u.queueRecordOn 4 0 r.bytes) := by
  have hu : u.stackPos ≠ 0 := (takeRecord_taken h).pos ▸ hpos
  show execReqRecordRx s = _
  simp only [execReqRecordRx, h, hpos, hu, decide_false, Bool.false_and, Bool.false_eq_true, if_false, ne_eq, not_false_eq_true, if_true]

/-- The search that the Headland issues for a REQ record. -/
def State.reqSearch (s : State) (b : Bytes) : HeadSearch :=
  ⟨s.stk.nextTag, byteAt b 2 % 8, le b 6 2, 0, 0, recTable b, recMode b, 0, s.now, none, (s.vtable (recTable b)).ver⟩

theorem exec_reqRecordRx_head (h : s.takeRecord 2 = some (r, u)) (hpos : s.stackPos = 0) (hroom : s.stk.head.length < 256) :
    exec .reqRecordRx s = .next ((u.count Fld.STK_REQ_CNT).issueHead (recMode r.bytes) (byteAt r.bytes 3 % 4) (recKey r.bytes)
      (u.reqSearch r.bytes)) := by
  have hu : u.stackPos = 0 := (takeRecord_taken h).pos.trans hpos
  have hble : Nat.ble 256 s.stk.head.length = false := by
    rw [← Bool.not_eq_true, Nat.ble_eq]
    omega
  show execReqRecordRx s = _
  simp only [execReqRecordRx, h, hble, hu, Bool.and_false, Bool.false_eq_true, if_false, ne_eq, not_true_eq_false]
  rfl

theorem exec_resultRecordRx_none (h : s.takeRecord 3 = none) : exec .resultRecordRx s = .next s := by
  show execResultRecordRx s = _
  simp only [execResultRecordRx, h]

theorem exec_resultRecordRx_onward (h : s.takeRecord 3 = some (r, u)) (hpos : byteAt r.bytes 2 % 8 ≠ s.stackPos) :
    exec .resultRecordRx s = .next (u.queueRecordOn 5 1 r.bytes) := by
  rw [← (takeRecord_taken h).pos] at hpos
  show execResultRecordRx s = _
  simp only [execResultRecordRx, h, hpos, ne_eq, not_false_eq_true, if_true]

/-- The asked search `a` waits no longer. -/
def State.answered (s : State) (a : Ask) : State :=
  { s with stk := { s.stk with asks := s.stk.asks.filter (fun x => x.otag != a.otag) } }

theorem exec_resultRecordRx_delivers {a : Ask} (h : s.takeRecord 3 = some (r, u)) (hpos : byteAt r.bytes 2 % 8 = s.stackPos)
    (ha : s.stk.asks.find? (fun a => a.otag == le r.bytes 6 2) = some a) (hok : byteAt r.bytes 28 = 0) :
    exec .resultRecordRx s = .next ((u.answered a).stackDeliver a.frame a.search (le r.bytes 12 16)) := by
  have htaken := takeRecord_taken h
  have hasks : u.stk.asks = s.stk.asks := congrArg (fun x => x.asks) htaken.stk
  rw [← htaken.pos] at hpos
  rw [← hasks] at ha
  show execResultRecordRx s = _
  simp only [execResultRecordRx, h, hpos, ha, hok, ne_eq, not_true_eq_false, bne_self_eq_false, Bool.false_eq_true, if_false]
  rfl

theorem exec_resultRecordRx_fails {a : Ask} (h : s.takeRecord 3 = some (r, u)) (hpos : byteAt r.bytes 2 % 8 = s.stackPos)
    (ha : s.stk.asks.find? (fun a => a.otag == le r.bytes 6 2) = some a) (hfail : byteAt r.bytes 28 ≠ 0) :
    exec .resultRecordRx s = .next (((u.count Fld.STK_RESULT_FAIL_CNT).answered a).stackFail a.frame a.search) := by
  have htaken := takeRecord_taken h
  have hasks : (u.count Fld.STK_RESULT_FAIL_CNT).stk.asks = s.stk.asks := congrArg (fun x => x.asks) htaken.stk
  rw [← htaken.pos] at hpos
  rw [← hasks] at ha
  show execResultRecordRx s = _
  simp only [execResultRecordRx, h, hpos, ne_eq, not_true_eq_false, if_false, bne_iff_ne.mpr hfail, if_true, ha]
  rfl

theorem exec_linkRecordRx_none (h : s.takeRecord 4 = none) : exec .linkRecordRx s = .next s := by
  show execLinkRecordRx s = _
  simp only [execLinkRecordRx, h]

theorem exec_linkRecordRx_some (h : s.takeRecord 4 = some (r, u)) :
    exec .linkRecordRx s = .next ({ u with stk := { u.stk with linkReach := some (byteAt r.bytes 3 % 8) } }).noteReach := by
  show execLinkRecordRx s = _
  simp only [execLinkRecordRx, h]

end

/-! Match words and their timeouts -/

section
variable {s : State} {w : BitVec 136}

/-- The word with which a pending search ends or goes on: the own one, where there is one, with the received one. -/
def mergedWord (own : Option Nat) (got : Nat) : Nat := (own.map (fun own => joinWords own got)).getD got

theorem exec_matchWordRx_training (h : wordTag w.toNat = 0xFFFF) : exec (.matchWordRx w) s = .next s := by
  show execMatchWordRx w s = _
  simp only [execMatchWordRx, h, if_true]

theorem exec_matchWordRx_head_miss (htag : wordTag w.toNat ≠ 0xFFFF) (hpos : s.stackPos = 0)
    (hh : s.stk.head.find? (fun h => h.tag == wordTag w.toNat) = none) :
    exec (.matchWordRx w) s = .next (s.count Fld.STK_TAG_MISS_CNT) := by
  show execMatchWordRx w s = _
  simp only [execMatchWordRx, htag, hpos, hh, if_true, if_false]

theorem exec_matchWordRx_head_bad {h : HeadSearch} (htag : wordTag w.toNat ≠ 0xFFFF) (hpos : s.stackPos = 0)
    (hh : s.stk.head.find? (fun h => h.tag == wordTag w.toNat) = some h) (hcrc : wordOk w.toNat = false) :
    exec (.matchWordRx w) s = .next ((s.count Fld.VIT_STK_TMO_CNT).endHead h none) := by
  show execMatchWordRx w s = _
  simp only [execMatchWordRx, htag, hpos, hh, hcrc, Bool.not_false, if_true, if_false]

theorem exec_matchWordRx_head {h : HeadSearch} (htag : wordTag w.toNat ≠ 0xFFFF) (hpos : s.stackPos = 0)
    (hh : s.stk.head.find? (fun h => h.tag == wordTag w.toNat) = some h) (hcrc : wordOk w.toNat = true) :
    exec (.matchWordRx w) s = .next (s.finishHead h (mergedWord h.word w.toNat)) := by
  show execMatchWordRx w s = _
  simp only [execMatchWordRx, htag, hpos, hh, hcrc, Bool.not_true, Bool.false_eq_true, if_true, if_false]
  cases h.word <;> rfl

theorem exec_matchWordRx_shoal_bad (htag : wordTag w.toNat ≠ 0xFFFF) (hpos : s.stackPos ≠ 0) (hcrc : wordOk w.toNat = false) :
    exec (.matchWordRx w) s = .next (s.count Fld.STK_MATCH_CRC_CNT) := by
  show execMatchWordRx w s = _
  simp only [execMatchWordRx, htag, hpos, hcrc, Bool.not_false, if_true, if_false]

theorem exec_matchWordRx_shoal_miss (htag : wordTag w.toNat ≠ 0xFFFF) (hpos : s.stackPos ≠ 0) (hcrc : wordOk w.toNat = true)
    (hx : s.stk.shoal.find? (fun x => x.tag == wordTag w.toNat) = none) :
    exec (.matchWordRx w) s = .next (s.count Fld.STK_TAG_MISS_CNT) := by
  show execMatchWordRx w s = _
  simp only [execMatchWordRx, htag, hpos, hcrc, hx, Bool.not_true, Bool.false_eq_true, if_false]

theorem exec_matchWordRx_shoal {x : ShoalSearch} (htag : wordTag w.toNat ≠ 0xFFFF) (hpos : s.stackPos ≠ 0) (hcrc : wordOk w.toNat = true)
    (hx : s.stk.shoal.find? (fun x => x.tag == wordTag w.toNat) = some x) : exec (.matchWordRx w) s =
      .next (({ s with stk := { s.stk with shoal := s.stk.shoal.filter (fun y => y.tag != wordTag w.toNat) } }).emit
        (.matchWord (mergedWord x.word w.toNat))) := by
  show execMatchWordRx w s = _
  simp only [execMatchWordRx, htag, hpos, hcrc, hx, Bool.not_true, Bool.false_eq_true, if_false]
  cases x.word <;> rfl

end

section
variable {s : State}

theorem exec_cascadeTimeout_none {tag : BitVec 16} (hh : s.stk.head.find? (fun h => h.tag == tag.toNat) = none) :
    exec (.cascadeTimeout tag) s = .next s := by
  show execCascadeTimeout tag s = _
  simp only [execCascadeTimeout, hh]

theorem exec_cascadeTimeout_some {tag : BitVec 16} {h : HeadSearch} (hh : s.stk.head.find? (fun h => h.tag == tag.toNat) = some h) :
    exec (.cascadeTimeout tag) s = .next (if 1000 ≤ s.since h.tick then (s.count Fld.VIT_STK_TMO_CNT).endHead h none else s) := by
  show execCascadeTimeout tag s = _
  simp only [execCascadeTimeout, hh]

theorem exec_reqTimeout_none {otag : BitVec 16} (ha : s.stk.asks.find? (fun a => a.otag == otag.toNat) = none) :
    exec (.reqTimeout otag) s = .next s := by
  show execReqTimeout otag s = _
  simp only [execReqTimeout, ha]

theorem exec_reqTimeout_some {otag : BitVec 16} {a : Ask} (ha : s.stk.asks.find? (fun a => a.otag == otag.toNat) = some a) :
    exec (.reqTimeout otag) s =
      .next (if 2000 ≤ s.since a.tick then ((s.answered a).count Fld.STK_RESULT_FAIL_CNT).stackFail a.frame a.search else s) := by
  show execReqTimeout otag s = _
  simp only [execReqTimeout, ha]
  rfl

/-! Training words -/

/-- Whether the next training word is due. -/
def State.trainingDue (s : State) : Bool :=
  match s.stk.lastTraining with
  | some t => Nat.ble 500 (s.since t)
  | none => true

theorem exec_matchTrainingWord_none : exec (.matchTrainingWord none) s =
    .next (if s.linksRun && (s.nport 4).state == .identify && s.trainingDue then
      ({ s with stk := { s.stk with lastTraining := some s.now } }).emit (.matchWord (sealWord (2 ^ 10 * s.stackPos + 2 ^ 29 * 0xFFFF)))
      else s) := rfl

theorem exec_matchTrainingWord_idle {v : BitVec 136} (h : s.linksRun = false ∨ (s.nport 5).state ≠ .identify) :
    exec (.matchTrainingWord (some v)) s = .next s := by
  have hidle : (s.linksRun && (s.nport 5).state == .identify) = false := by
    simpa only [Bool.and_eq_false_iff, beq_eq_false_iff_ne] using h
  show execMatchTrainingWord (some v) s = _
  simp only [execMatchTrainingWord, hidle, Bool.false_eq_true, if_false]

/-- A training word that fits the member below. -/
def State.trainingFits (s : State) (v : Nat) : Bool := wordOk v && wordPos v == (s.stackPos + 1) % 8 && wordTag v == 0xFFFF

theorem exec_matchTrainingWord_some {v : BitVec 136} (hlinks : s.linksRun = true) (hport : (s.nport 5).state = .identify) :
    exec (.matchTrainingWord (some v)) s = .next (if s.trainingFits v.toNat then
        ({ s with stk := { s.stk with matchIn := true } }).noteReach
      else ({ (s.freeBytes 64).2 with stk := { (s.freeBytes 64).2.stk with matchIn := false } }).nbrMismatch 5 (s.freeBytes 64).1) := by
  show execMatchTrainingWord (some v) s = _
  simp only [execMatchTrainingWord, hlinks, hport, beq_self_eq_true, Bool.and_self, if_true]
  rfl

end

end Sys2Proof.Machine
end

section
/-!
SUPPORT. Stacked searches, settled (O42).
-/
namespace Sys2Proof.Machine

/-! Records -/

section
variable {s u : State} {r : RxRecord}

/-- A taken record that goes on joins the queue of the next link. -/
theorem Taken.forwarded (h : Taken s u) (q vc : Nat) (b : Bytes) : Touches [.nwl, .stk] s (u.queueRecordOn q vc b) :=
  h.touches.trans ((State.queueRecordOn_touches u q vc b).mono rfl)

theorem Taken.asks (h : Taken s u) : u.stk.asks = s.stk.asks := congrArg (fun x => x.asks) h.stk

theorem Taken.nextTag (h : Taken s u) : u.stk.nextTag = s.stk.nextTag := congrArg (fun x => x.nextTag) h.stk

theorem search?_congr {v : State} (h : v.frames = s.frames) (k id : Nat) : v.search? k id = s.search? k id := by
  simp only [State.search?, State.frame?, h]

theorem recordWord_touches (s : State) (b : Bytes) (lost : Bool) : Touches [.vit] s (s.recordWord b lost).2 :=
  State.localWord_touches s _ _ _ _ _

theorem recordWord_fits (s : State) (b : Bytes) (lost : Bool) :
    wordOk (s.recordWord b lost).1 = true ∧ wordTag (s.recordWord b lost).1 = le b 4 2 := localWord_word s _ _ _ _ _ (le_lt b 4 2)

theorem holdShoal_records (s : State) (tag : Nat) (word : Option Nat) : (s.holdShoal tag word).stk.records = s.stk.records := by
  simp only [State.holdShoal]

/-- The queues of a link where a SEARCH record goes on while its search is pending. -/
theorem held_queues {v : State} (hv : v.nwl = (u.queueRecordOn 5 0 r.bytes).nwl) (tag : Nat) (word : Option Nat) :
    ((v.holdShoal tag word).nport 5).queues = Tab.put (u.nport 5).queues 0 (Tab.getD (u.nport 5).queues 0 [] ++ [.record r.bytes]) := by
  have hport : (v.holdShoal tag word).nport 5 = (u.queueRecordOn 5 0 r.bytes).nport 5 :=
    nport_congr (((State.holdShoal_touches v tag word).nwl_eq (by decide)).trans hv) 5
  rw [hport, queueRecordOn_queues]

end

/-! The ends of a search -/

section
variable {s : State}

theorem endHead_head (s : State) (h : HeadSearch) (word : Option Nat) :
    (s.endHead h word).stk.head = s.stk.head.filter (fun x => x.tag != h.tag) := congrArg (fun x => x.head) (endHead_stk s h word)

theorem endHead_timeout (s : State) (h : HeadSearch) : ((s.count Fld.VIT_STK_TMO_CNT).endHead h none).get Fld.VIT_STK_TMO_CNT =
    min (s.get Fld.VIT_STK_TMO_CNT + 1) 0xFFFFFFFF :=
  (get_of_regWord (endHead_onlyWords _ h none _ (by decide))).trans (count_get_of_whole s rfl rfl (by decide))

theorem finishHead_head (s : State) (h : HeadSearch) (w : Nat) :
    (s.finishHead h w).stk.head = s.stk.head.filter (fun x => x.tag != h.tag) := endHead_head s h _

/-- A search that the Headland issued is pending no longer. -/
def State.ended (s : State) (h : HeadSearch) : State :=
  { s with stk := { s.stk with head := s.stk.head.filter (fun x => x.tag != h.tag) } }

/-- R506: the end of a search of another member goes down as a RESULT. -/
theorem endHead_sends (s : State) {h : HeadSearch} (word : Option Nat) (horigin : h.origin ≠ s.stackPos) : s.endHead h word =
    (s.ended h).queueRecordOn 5 1 (resultRecordBytes h (word.getD 0) word.isNone) := if_neg horigin

/-- R201: the end of a search of a frame here is delivered. -/
theorem endHead_delivers (s : State) {h : HeadSearch} (w : Nat) (horigin : h.origin = s.stackPos) : s.endHead h (some w) =
    (s.ended h).stackDeliver h.frame h.search w := if_pos horigin

theorem finishHead_record (h : HeadSearch) (w : Nat) :
    resultRecordBytes h ((if wordSkew w then none else some w).getD 0) (if wordSkew w then (none : Option Nat) else some w).isNone =
      if wordSkew w then resultRecordBytes h 0 true else resultRecordBytes h w false := by
  split <;> rfl

theorem tag_of_find {l : List HeadSearch} {tag : Nat} {h : HeadSearch} (hh : l.find? (fun h => h.tag == tag) = some h) : h.tag = tag :=
  beq_iff_eq.mp (List.find?_some (p := fun h : HeadSearch => h.tag == tag) hh)

theorem otag_of_find {l : List Ask} {otag : Nat} {a : Ask} (ha : l.find? (fun a => a.otag == otag) = some a) : a.otag = otag :=
  beq_iff_eq.mp (List.find?_some (p := fun a : Ask => a.otag == otag) ha)

/-- R506: the failed result of an asked search is counted, and so is its transient fault. -/
theorem stackFail_asks (s : State) (k id : Nat) : (s.stackFail k id).stk.asks = s.stk.asks :=
  congrArg (fun x => x.asks) ((State.stackFail_touches s k id).stk_eq (by decide))

theorem stackFail_result (s : State) (k id : Nat) :
    (s.stackFail k id).get Fld.STK_RESULT_FAIL_CNT = s.get Fld.STK_RESULT_FAIL_CNT :=
  get_of_regWord (stackFail_onlyWords s k id _ (by decide))

end

/-! Training words -/

theorem trainingDue_eq (s : State) : s.trainingDue = (s.stk.lastTraining.map (fun k => Nat.ble 500 (s.since k))).getD true := by
  unfold State.trainingDue
  split
  next k hlast => rw [hlast, Option.map_some, Option.getD_some]
  next hlast => rw [hlast, Option.map_none, Option.getD_none]

theorem getD_map_of_any {o : Option Nat} {p : Nat → Bool} (h : o = none ∨ o.any p = true) : (o.map p).getD true = true := by
  cases o with
  | none => rfl
  | some k => exact h.resolve_left (Option.some_ne_none k)

theorem getD_map_of_any_not {o : Option Nat} {p q : Nat → Bool} (hpq : ∀ k, q k = true → p k = false) (h : o.any q = true) :
    (o.map p).getD true = false := by
  cases o with
  | none => exact absurd h Bool.false_ne_true
  | some k => exact hpq k h

theorem ble_of_blt {m n : Nat} (h : Nat.blt n m = true) : Nat.ble m n = false := by
  rw [Nat.blt_eq] at h
  rw [← Bool.not_eq_true, Nat.ble_eq]
  exact Nat.not_le.mpr h

theorem trainingDue_of {s : State} (h : s.stk.lastTraining = none ∨ s.stk.lastTraining.any (fun k => Nat.ble 500 (s.since k)) = true) :
    s.trainingDue = true := (trainingDue_eq s).trans (getD_map_of_any h)

theorem trainingDue_early {s : State} (h : s.stk.lastTraining.any (fun k => Nat.blt (s.since k) 500) = true) : s.trainingDue = false :=
  (trainingDue_eq s).trans (getD_map_of_any_not (fun _ => ble_of_blt) h)

/-! O42 -/

/-- Settles O42: each command of a stacked search, by the equation of what it answers. -/
theorem stackedSearch : Obligations.StackedSearch := by
  unfold Obligations.StackedSearch
  refine ⟨?issue, ?down, ?ask, ?stays, ?full, ?noSearch, ?onward, ?last, ?below, ?above, ?noRecord, ?reqOnward, ?reqIssue, ?noReq, ?reqFull,
    ?resultOnward, ?result, ?noResult, ?link, ?noLink, ?askEnds, ?askEarly, ?noAsk, ?training, ?headMiss, ?headBad, ?headSends,
    ?headDelivers, ?shoalBad, ?shoalMiss, ?shoalMerges, ?cascade, ?cascadeEarly, ?noCascade, ?trains, ?trainsNot, ?fits, ?misfits, ?idle⟩
  case issue =>
    intro frame id x s hx hwait hmode hlive hpos hroom
    have hexec := exec_stackSearchIssue_head hx hwait hmode hlive hpos hroom
    exact ⟨_, hexec, issueHead_tag _ _ _ _ _, issueHead_cnt _ _ _ _ _, issueHead_asks _ _ _ _ _,
      (execStackSearchIssue_answers frame id s).stays _ hexec⟩
  case down =>
    intro frame id x s hx hwait hmode hlive hpos hroom hother hreach
    have hexec := exec_stackSearchIssue_head hx hwait (by omega) hlive hpos hroom
    have hsent := issueHead_sendDown (s := s.stacked frame id false) (mode := 2) (s.get (Fld.VIT_TABLE_CFG_WIDTH x.table)) x.key
      (s.headSearch frame id x) (by decide) hother hreach
    rw [hmode, hsent] at hexec
    have hsearch : { s.headSearch frame id x with target := s.stk.rotate } =
        (⟨s.stk.nextTag, 0, 0, frame, id, x.table, 2, s.stk.rotate, s.now, none, (s.vtable x.table).ver⟩ : HeadSearch) := by
      simp only [State.headSearch, hmode]
    refine ⟨_, hexec, ?_, rfl, ?_, ?_, ?_, ?_⟩
    · rw [← hsearch]
      rfl
    · rw [← hsearch]
      exact sendDown_queues _ _ _ _
    · intro h hh hk y hy hid
      exact stacked_search hh hk hy hid
    · exact (tagged_words (s.stacked frame id false)).trans (onlyWords_congr _ rfl)
    · exact ((stacked_touches s frame id false).mono rfl).trans (((tagged_touches _).mono rfl).trans
        (((rotated_touches _ _ _).mono rfl).trans ((sendDown_touches _ _ _ _).mono rfl)))
  case ask =>
    intro frame id x s hx hwait hmode hlive hpos
    refine ⟨_, exec_stackSearchIssue_shoal hx hwait hmode hlive hpos, rfl, rfl, rfl, ?_, ?_, ?_⟩
    · intro h hh hk y hy hid
      exact stacked_search hh hk hy hid
    · rw [queueRecordOn_queues, Tab.getD, Tab.get?_put_same, Option.getD_some, List.length_append]
      rfl
    · exact ((stacked_touches s frame id true).mono rfl).trans
        ((Touches.put_stk rfl (Touches.refl _ _)).trans ((State.queueRecordOn_touches _ _ _ _).mono rfl))
  case stays => exact fun _ _ _ _ hx h => exec_stackSearchIssue_stays hx h
  case full => exact fun _ _ _ hpos hfull => exec_stackSearchIssue_full hpos hfull
  case noSearch => exact fun _ _ _ hx => exec_stackSearchIssue_none hx
  case onward =>
    intro lost r u s hr hdeep hpos
    have htaken := takeRecord_taken hr
    have hexec := exec_searchRecordRx_onward (lost := lost) hr hdeep hpos
    have hword := recordWord_touches (u.queueRecordOn 5 0 r.bytes) r.bytes lost
    have hheld := holdShoal_getLast ((u.queueRecordOn 5 0 r.bytes).recordWord r.bytes lost).2 (le r.bytes 4 2)
      (some ((u.queueRecordOn 5 0 r.bytes).recordWord r.bytes lost).1)
    refine ⟨_, hexec, htaken.length, ?_, ?_, hheld.2, held_queues (hword.nwl_eq (by decide)) _ _, ?_,
      (execSearchRecordRx_answers lost s).stays _ hexec⟩
    · exact (holdShoal_records _ _ _).trans (congrArg (fun x => x.records) (hword.stk_eq (by decide)))
    · exact congrArg (Option.map ShoalSearch.tag) hheld.1
    · exact ((State.holdShoal_touches _ _ _).out_eq (by decide)).trans ((hword.out_eq (by decide)).trans (htaken.touches.out_eq (by decide)))
  case last =>
    intro lost r u s hr hlast
    have htaken := takeRecord_taken hr
    have hexec := exec_searchRecordRx_last (lost := lost) hr hlast
    have hword := recordWord_touches u r.bytes lost
    have hfits := recordWord_fits u r.bytes lost
    refine ⟨_, hexec, htaken.length, hword.stk_eq (by decide), ?_, hfits.1, hfits.2, (execSearchRecordRx_answers lost s).stays _ hexec⟩
    exact congrArg _ ((hword.out_eq (by decide)).trans (htaken.touches.out_eq (by decide)))
  case below =>
    intro lost r u s hr hwide htarget
    have htaken := takeRecord_taken hr
    refine ⟨_, exec_searchRecordRx_below hr hwide htarget, htaken.length, (holdShoal_getLast _ _ _).1, held_queues rfl _ _, ?_⟩
    exact (htaken.forwarded _ _ _).trans ((State.holdShoal_touches _ _ _).mono rfl)
  case above => exact fun lost r u s hr hwide htarget => ⟨_, exec_searchRecordRx_above hr hwide htarget, rfl, (takeRecord_taken hr).touches⟩
  case noRecord => exact fun _ _ hr => exec_searchRecordRx_none hr
  case reqOnward =>
    intro r u s hr hpos
    have htaken := takeRecord_taken hr
    exact ⟨_, exec_reqRecordRx_shoal hr hpos, htaken.length, rfl, queueRecordOn_queues _ _ _ _, htaken.forwarded _ _ _⟩
  case reqIssue =>
    intro r u s hr hpos hroom
    have htaken := takeRecord_taken hr
    have hexec := exec_reqRecordRx_head hr hpos hroom
    refine ⟨_, hexec, htaken.length, ?_, ?_, ?_, (execReqRecordRx_answers s).stays _ hexec⟩
    · rw [issueHead_get _ _ _ _ _ (by decide) (by decide), count_get_of_whole u rfl rfl (by decide), htaken.get]
    · rw [issueHead_cnt, get_count_ne u (by decide), htaken.get]
    · rw [issueHead_tag]
      exact congrArg tagAfter htaken.nextTag
  case noReq => exact fun _ hr => exec_reqRecordRx_none hr
  case reqFull => exact fun _ hpos hfull => exec_reqRecordRx_full hpos hfull
  case resultOnward =>
    intro r u s hr hpos
    have htaken := takeRecord_taken hr
    exact ⟨_, exec_resultRecordRx_onward hr hpos, htaken.length, rfl, queueRecordOn_queues _ _ _ _, htaken.forwarded _ _ _⟩
  case result =>
    intro r u a s hr hpos ha
    have htaken := takeRecord_taken hr
    have hasks : s.stk.asks.filter (fun x => x.otag != a.otag) = (u.answered a).stk.asks := by rw [← htaken.asks]; rfl
    by_cases hok : byteAt r.bytes 28 = 0
    · have hexec := exec_resultRecordRx_delivers hr hpos ha hok
      refine ⟨_, hexec, htaken.length, ?_, fun _ => ?_, fun hfail => absurd hok hfail, (execResultRecordRx_answers s).stays _ hexec⟩
      · rw [hasks]
        exact congrArg (fun x => x.asks) ((State.stackDeliver_touches _ _ _ _).stk_eq (by decide))
      · intro y hy h hh hk z hz hid
        rw [← search?_congr (v := u.answered a) (htaken.touches.frames_eq (by decide))] at hy
        exact (stackDeliver_search (Option.mem_toList.mp hy) hh hk hz hid).1
    · have hexec := exec_resultRecordRx_fails hr hpos ha hok
      refine ⟨_, hexec, htaken.length, ?_, fun h => absurd h hok, fun _ => ?_, (execResultRecordRx_answers s).stays _ hexec⟩
      · rw [hasks, stackFail_asks]
        rfl
      · rw [stackFail_result, ← htaken.get]
        exact count_get_of_whole u rfl rfl (by decide)
  case noResult => exact fun _ hr => exec_resultRecordRx_none hr
  case link =>
    intro r u s hr
    have htaken := takeRecord_taken hr
    have hexec := exec_linkRecordRx_some hr
    have hnoted := noteReach_noted { u with stk := { u.stk with linkReach := some (byteAt r.bytes 3 % 8) } }
    refine ⟨_, hexec, htaken.length, hnoted.records, hnoted.linkReach, fun hsize => hnoted.reach ?_,
      (execLinkRecordRx_answers s).stays _ hexec⟩
    exact lt_of_lt_of_eq hsize (htaken.get _).symm
  case noLink => exact fun _ hr => exec_linkRecordRx_none hr
  case askEnds =>
    intro otag a s ha hold
    have hexec := exec_reqTimeout_some ha
    rw [if_pos hold] at hexec
    have htag := otag_of_find ha
    refine ⟨_, hexec, ?_, ?_, ?_, (execReqTimeout_answers otag s).stays _ hexec⟩
    · rw [stackFail_asks, ← htag]
      rfl
    · rw [stackFail_result]
      exact count_get_of_whole _ rfl rfl (by decide)
    · rw [stackFail_cnt, get_count_ne _ (by decide)]
      rfl
  case askEarly =>
    intro otag a s ha hyoung
    rw [exec_reqTimeout_some ha, if_neg (Nat.not_le.mpr hyoung)]
  case noAsk => exact fun _ _ ha => exec_reqTimeout_none ha
  case training => exact fun _ _ htag => exec_matchWordRx_training htag
  case headMiss =>
    exact fun w s htag hpos hh => ⟨_, exec_matchWordRx_head_miss htag hpos hh, count_get_of_whole s rfl rfl (by decide),
      onlyWords_count s _ List.mem_cons_self, State.count_touches s _⟩
  case headBad =>
    intro w h s htag hpos hh hcrc
    have hexec := exec_matchWordRx_head_bad htag hpos hh hcrc
    refine ⟨_, hexec, endHead_timeout s h, ?_, (execMatchWordRx_answers w s).stays _ hexec⟩
    rw [endHead_head, tag_of_find hh]
    rfl
  case headSends =>
    intro w h s htag hpos hh hcrc horigin
    have hexec := exec_matchWordRx_head htag hpos hh hcrc
    rw [State.finishHead, endHead_sends s _ (hpos ▸ horigin), finishHead_record] at hexec
    refine ⟨_, hexec, ?_, queueRecordOn_queues _ _ _ _, ?_⟩
    · rw [← tag_of_find hh]
      rfl
    · exact (Touches.put_stk rfl (Touches.refl _ s)).trans ((State.queueRecordOn_touches _ _ _ _).mono rfl)
  case headDelivers =>
    intro w h s htag hpos hh hcrc horigin hskew
    have hexec := exec_matchWordRx_head htag hpos hh hcrc
    refine ⟨_, hexec, ?_, ?_, (execMatchWordRx_answers w s).stays _ hexec⟩
    · rw [finishHead_head, tag_of_find hh]
    · have hword : (if wordSkew (mergedWord h.word w.toNat) then none else some (mergedWord h.word w.toNat)) =
          some (mergedWord h.word w.toNat) := if_neg (by rw [mergedWord, hskew]; decide)
      rw [State.finishHead, hword, endHead_delivers s _ (horigin.trans hpos.symm)]
      intro y hy k hk hkey z hz hid
      exact stackDeliver_search (s := s.ended h) (Option.mem_toList.mp hy) hk hkey hz hid
  case shoalBad =>
    exact fun w s htag hpos hcrc => ⟨_, exec_matchWordRx_shoal_bad htag hpos hcrc, count_get_of_whole s rfl rfl (by decide),
      onlyWords_count s _ List.mem_cons_self, State.count_touches s _⟩
  case shoalMiss =>
    exact fun w s htag hpos hcrc hx => ⟨_, exec_matchWordRx_shoal_miss htag hpos hcrc hx, count_get_of_whole s rfl rfl (by decide),
      onlyWords_count s _ List.mem_cons_self, State.count_touches s _⟩
  case shoalMerges =>
    exact fun w x s htag hpos hcrc hx => ⟨_, exec_matchWordRx_shoal htag hpos hcrc hx, rfl, rfl, rfl,
      (Touches.put_stk rfl (Touches.refl _ s)).trans ((State.emit_touches _ _).mono rfl)⟩
  case cascade =>
    intro tag h s hh hold
    have hexec := exec_cascadeTimeout_some hh
    rw [if_pos hold] at hexec
    refine ⟨_, hexec, endHead_timeout s h, ?_, (execCascadeTimeout_answers tag s).stays _ hexec⟩
    rw [endHead_head, tag_of_find hh]
    rfl
  case cascadeEarly =>
    intro tag h s hh hyoung
    rw [exec_cascadeTimeout_some hh, if_neg (Nat.not_le.mpr hyoung)]
  case noCascade => exact fun _ _ hh => exec_cascadeTimeout_none hh
  case trains =>
    intro s hlinks hport hdue
    have hexec := exec_matchTrainingWord_none (s := s)
    have hready : (s.linksRun && (s.nport 4).state == .identify && s.trainingDue) = true := by
      rw [hlinks, hport, trainingDue_of hdue]
      rfl
    rw [if_pos hready] at hexec
    exact ⟨_, hexec, rfl, rfl, (Touches.put_stk rfl (Touches.refl _ s)).trans ((State.emit_touches _ _).mono rfl)⟩
  case trainsNot =>
    intro s h
    have hidle : (s.linksRun && (s.nport 4).state == .identify && s.trainingDue) = false := by
      simp only [Bool.and_eq_false_iff, beq_eq_false_iff_ne, or_assoc]
      exact h.imp_right (Or.imp_right trainingDue_early)
    rw [exec_matchTrainingWord_none, hidle, if_neg Bool.false_ne_true]
  case fits =>
    intro v s hlinks hport hcrc hposn htag
    have hexec := exec_matchTrainingWord_some (v := v) hlinks hport
    have hfits : s.trainingFits v.toNat = true := by
      simp only [State.trainingFits, hcrc, hposn, htag, beq_self_eq_true, Bool.and_self]
    rw [if_pos hfits] at hexec
    have hnoted := noteReach_noted { s with stk := { s.stk with matchIn := true } }
    exact ⟨_, hexec, hnoted.matchIn, (congrArg (fun p => p.state) hnoted.port).trans hport,
      (execMatchTrainingWord_answers (some v) s).stays _ hexec⟩
  case misfits =>
    intro v s hlinks hport h
    have hexec := exec_matchTrainingWord_some (v := v) hlinks hport
    have hfits : s.trainingFits v.toNat = false := by
      simpa only [State.trainingFits, Bool.and_eq_false_iff, beq_eq_false_iff_ne, or_assoc] using h
    rw [hfits, if_neg Bool.false_ne_true] at hexec
    have hport := nbrMismatch_port { (s.freeBytes 64).2 with stk := { (s.freeBytes 64).2.stk with matchIn := false } } 5 (s.freeBytes 64).1
    refine ⟨_, hexec, ?_, hport.1, hport.2, (execMatchTrainingWord_answers (some v) s).stays _ hexec⟩
    exact congrArg (fun x => x.matchIn) ((State.nbrMismatch_touches _ _ _).stk_eq (by decide))
  case idle => exact fun _ _ h => exec_matchTrainingWord_idle h

end Sys2Proof.Machine
end
